-- ==== Sys2Proof/Word.lean ====
section
/-!
DEFINITION. Word.lean: the machine's word types and their plainest arithmetic.
-/
namespace Sys2Proof

/-- A 32-bit register of the address map (R16), and the bits of a binary32 value (R281). -/
abbrev Word := BitVec 32

/-- One byte of a message, a frame or a block object. -/
abbrev Byte := BitVec 8

end Sys2Proof
end

