-- ==== Sys2Proof/Image.lean ====
section
/-!
DEFINITION. Image.lean: the objects the commands carry and the configuration is made of: the content of a harness image by segment,
jobs, messages and samples, each as the rule of spec/ that describes it lays it out.
-/

namespace Sys2Proof

/-! ### Machine model (GEOM, OUTTAB, SECTION) -/

/-- A source of a joint value (R63). -/
inductive JointSrc where
  | fixed
  | ssi (k : Fin 4)
  | ain (n : Fin 16)
  | gnssShape
deriving DecidableEq, Repr, Inhabited

/-- Kind of a joint (R63): a rotation about an axis of the parent frame, or a translation along the parent z axis. -/
inductive Joint where
  | rotX | rotY | rotZ | lift
deriving DecidableEq, Repr, Inhabited

/-- One link of a boom segment chain (R63). -/
structure Link where
  /-- parent link of the chain, none: the machine body -/
  parent   : Option Nat
  hx       : Int
  hy       : Int
  hz       : Int
  joint    : Joint
  src1     : JointSrc
  src2     : JointSrc
  gain     : Int
  offset   : Int
  vmin     : Int
  vmax     : Int
  /-- ms the last valid value is held, 0 to 500 -/
  hold     : Nat
  fallback : Int
  /-- POLICY FIXED; otherwise OFF -/
  fixed    : Bool
deriving DecidableEq, Repr, Inhabited

/-- One boom segment chain, GEOM instance 1 to 31 (R63). -/
structure Chain where
  inst  : Nat
  links : List Link
deriving DecidableEq, Repr, Inhabited

/-- Input of a pressure source (R70). -/
inductive PressIn where
  | ain (n : Fin 16)
  | loop (l : Fin 64)
deriving DecidableEq, Repr, Inhabited

/-- A pressure source of GEOM instance 0 (R70). -/
structure PressSrc where
  idx  : Nat
  inp  : PressIn
  /-- filter time constant in ms, 0 to 1,000 -/
  tau  : Nat
  /-- valid range in kPa -/
  lo   : Int
  hi   : Int
  pref : Int
deriving DecidableEq, Repr, Inhabited

/-- Role of an output (R66). -/
inductive OutRole where
  | unused | nozzle | row | spout | stall | aux
deriving DecidableEq, Repr, Inhabited

/-- Footprint shape (R67). -/
inductive Shape where
  | rect | fan | point | arc
deriving DecidableEq, Repr, Inhabited

/-- A delay point (R66): pressure in kPa, on-delay and off-delay in 0.1 ms. -/
structure DelayPt where
  p   : Nat
  on  : Nat
  off : Nat
deriving DecidableEq, Repr, Inhabited

/-- One entry of the output table (R66). -/
structure OutEnt where
  /-- channel 0 to 95 for OUT01 to OUT96 -/
  out      : Nat
  /-- ROLE as coded -/
  roleCode : Nat
  chain    : Nat
  link     : Nat
  ofsX     : Int
  ofsY     : Int
  ofsZ     : Int
  /-- SHAPE as coded -/
  shapeCode : Nat
  flags    : Nat
  sect     : Nat
  w        : Nat
  d        : Nat
  hNom     : Nat
  fpDx     : Int
  group    : Nat
  /-- PRESS_SRC as coded, FFh none -/
  pressCode : Nat
  /-- NPTS, and the 8 points of the entry -/
  npts     : Nat
  points   : List DelayPt
  unit     : Nat
deriving DecidableEq, Repr, Inhabited

/-- ROLE (R66). -/
def OutEnt.role (o : OutEnt) : OutRole :=
  match o.roleCode with | 1 => .nozzle | 2 => .row | 3 => .spout | 4 => .stall | 5 => .aux | _ => .unused
/-- SHAPE (R66). -/
def OutEnt.shape (o : OutEnt) : Shape := match o.shapeCode with | 1 => .fan | 2 => .point | 3 => .arc | _ => .rect
/-- FLAGS.SAFE_ON (R34, R66). -/
def OutEnt.safeOn (o : OutEnt) : Bool := o.flags.testBit 0
/-- FLAGS.MINPULSE: stretch, otherwise drop (R66). -/
def OutEnt.stretch (o : OutEnt) : Bool := o.flags.testBit 1
/-- Pressure source; none: FFh (R66). -/
def OutEnt.press (o : OutEnt) : Option Nat := if o.pressCode = 255 then none else some o.pressCode
/-- The delay points in use (R66). -/
def OutEnt.delays (o : OutEnt) : List DelayPt := o.points.take o.npts

/-- Little-endian value of the `n` bytes at an offset (R39); `b` gives the byte at an offset. -/
def leAt (b : Nat → Nat) (off n : Nat) : Nat := (List.range n).foldr (fun i v => b (off + i) + 256 * v) 0

/-- A signed number of `n` bytes, as `leAt` reads it. -/
def leInt (b : Nat → Nat) (off n : Nat) : Int :=
  let v := leAt b off n
  if v < 2 ^ (8 * n - 1) then v else (v : Int) - 2 ^ (8 * n)

/-- An entry of the output table as its 80 bytes read (R66). -/
def OutEnt.fromBytes (b : Nat → Nat) (p : Nat) : OutEnt :=
  { out := if b p = 0 then 255 else b p - 1, roleCode := b (p + 1), chain := b (p + 2), link := b (p + 3)
    ofsX := leInt b (p + 4) 4, ofsY := leInt b (p + 8) 4, ofsZ := leInt b (p + 12) 4, shapeCode := b (p + 0x10), flags := b (p + 0x11)
    sect := leAt b (p + 0x12) 2, w := leAt b (p + 0x14) 2, d := leAt b (p + 0x16) 2, hNom := leAt b (p + 0x18) 2
    fpDx := leInt b (p + 0x1A) 2, group := b (p + 0x1C), pressCode := b (p + 0x1D), npts := b (p + 0x1E), unit := b (p + 0x1F)
    points := (List.range 8).map (fun i => ⟨leAt b (p + 0x20 + 6 * i) 2, leAt b (p + 0x22 + 6 * i) 2, leAt b (p + 0x24 + 6 * i) 2⟩) }

/-- The entries of an OUTTAB segment of a length at an offset (R66): a count of 4 bytes, then 80 bytes an entry; a length that does not fit the
count leaves none. -/
def outtabFromBytes (b : Nat → Nat) (off len : Nat) : List OutEnt :=
  let n := leAt b off 4
  if len = 4 + 80 * n ∧ n ≤ 96 then (List.range n).map (fun i => OutEnt.fromBytes b (off + 4 + 80 * i)) else []

/-- DIRECT_L1 of a section (R210, R218). -/
inductive DirectL1 where
  | off | speed | nospeed
deriving DecidableEq, Repr, Inhabited

/-- Per-section fields of the SECTION segment (R154, R210). -/
structure SecPar where
  vMin     : Nat
  ovlOff   : Nat
  ovlHyst  : Nat
  avoid    : Bool
  zeroOff  : Bool
  /-- MIN_RUN in ms -/
  minRun   : Nat
  /-- REVERSE FOLLOW -/
  follow   : Bool
  direct   : DirectL1
  laOn     : Nat
  laOff    : Nat
deriving DecidableEq, Repr, Inhabited

/-- One section (R68). -/
structure SecEnt where
  sect    : Nat
  /-- team section number 0 to 1,023 -/
  team    : Nat
  /-- width in mm for task controller reporting -/
  width   : Nat
  /-- the outputs it holds -/
  outs    : List Nat
  /-- the section's mode and Stride parameters (R154, R210) -/
  par     : SecPar
deriving DecidableEq, Repr, Inhabited
/-! ### Pin functions (PINFN) -/

/-- Check of an SSI frame (R98). -/
inductive SsiCheck where
  | none | even | odd | crc6
deriving DecidableEq, Repr, Inhabited

/-- Configuration of an SSI port (R98). -/
structure SsiCfg where
  dataBits : Nat
  errBits  : Nat
  gray     : Bool
  check    : SsiCheck
  clkDiv   : Nat
  /-- monoflop time in µs -/
  mono     : Nat
  /-- stride cycles between reads -/
  every    : Nat
deriving DecidableEq, Repr, Inhabited

/-- Pin functions beside the register words (R97, R98, R101). -/
structure Pinfn where
  /-- SSI1 to SSI4, none: not used -/
  ssi  : List (Option SsiCfg)
  /-- inputs AIN01 to AIN16 of range 4 to 20 mA, the others 0 to 5 V -/
  ma   : List Nat
  /-- REP1 and REP2: source channel and whether the accepted levels are passed -/
  rep  : List (Option (Nat × Bool))
  /-- functions given to pins: (pin, function) (R47) -/
  pins : List (Nat × Nat)
deriving DecidableEq, Repr, Inhabited

/-- A counter channel that carries an ISO 11786 signal (R100): speed or PTO speed, pulses per metre or per revolution where the image changes
them, and whether B carries the direction. -/
structure PulseCal where
  ch     : Nat
  pto    : Bool
  pulses : Option Nat
  dirOnB : Bool
deriving DecidableEq, Repr, Inhabited

/-- Pulses per metre or per revolution (R100): 130 and 6 by default. -/
def PulseCal.scale (p : PulseCal) : Nat := p.pulses.getD (if p.pto then 6 else 130)

/-- Calibration beside the register words (R100). -/
structure Calib where
  pulses : List PulseCal
deriving DecidableEq, Repr, Inhabited
/-! ### GNSS -/

/-- A satellite: system 0 GPS, 1 Galileo, 2 BeiDou, 3 QZSS, 4 SBAS, and PRN (R108, R121). -/
abbrev Sat : Type := Nat × Nat

/-- A cell the acquisition bank has detected (R113), with the satellite's elevation in degrees. -/
structure Cand where
  sat  : Sat
  elev : Nat
deriving DecidableEq, Repr, Inhabited

/-- An integration dump of a tracking channel (R116): lock indicator cos 2Δφ in 1/1000, code lock, C/N0 in 0.01 dB-Hz, whether bit, NH or
secondary-code sync and time of week are decoded, whether the preamble polarity is resolved, and |(E − L) / P| in 1/1000. -/
structure Dump where
  ind  : Int
  code : Bool
  cn0  : Nat
  sync : Bool
  tow  : Bool
  pol  : Bool
  sym  : Nat
deriving DecidableEq, Repr, Inhabited

/-- What a channel latches at an epoch (R120). -/
structure GMeas where
  ch        : Nat
  codePhase : Nat
  txPeriods : Nat
  carr      : Int
  doppler   : Int
deriving DecidableEq, Repr, Inhabited

/-- An entry of a measurement record (R121). -/
structure GEnt where
  m        : GMeas
  sat      : Sat
  state    : Nat
  cn0      : Nat
  mflags   : Nat
  lockTime : Nat
deriving DecidableEq, Repr, Inhabited

/-- A measurement record (R121). -/
structure GRec where
  epoch  : Nat
  tt     : Int
  cnt    : Nat
  clkOfs : Int
  /-- team position and PAIR_B as the module ID, 2 × position + B -/
  pos    : Nat
  path   : Nat
  hflags : Nat
  ents   : List GEnt
deriving DecidableEq, Repr, Inhabited

/-- What the pose solver has told a module by an epoch (R110, R125): the path announced for it, whether its antenna is SUSPECT, and its
EXCLUDED satellites. -/
structure GTold where
  path    : Option Bool
  suspect : Bool
  excl    : List Sat
deriving DecidableEq, Repr, Inhabited

/-- What an epoch strobe brings beside the state: the latched measurements by channel, whether the steered frequency has matched the leader's
within ±0.01 ppm since the previous epoch (R123), and what the pose solver has told. -/
structure GStrobe where
  meas   : List GMeas
  freqOk : Bool
  told   : GTold
deriving DecidableEq, Repr, Inhabited

/-- PDOP of the usable satellites of the main system and of all systems at an evaluation (R110), in 0.01 units; none: no solution. -/
structure Avail where
  pdopMain : Option Nat
  pdopAll  : Option Nat
deriving DecidableEq, Repr, Inhabited

/-- The quantities the integrity checks of R125 test on one record. -/
structure GChk where
  /-- change of code minus carrier range over 10 s, mm -/
  ccd   : List (Sat × Nat)
  /-- |measured minus predicted Doppler|, mHz -/
  dop   : List (Sat × Nat)
  /-- satellites whose navigation data fails, and those with a consistent new issue -/
  navBad : List Sat
  /-- week number and second of the week as decoded from a satellite (R458) -/
  weeks  : List (Sat × Nat × Nat)
  navNew : List Sat
  /-- the C/N0 pattern check fails -/
  cn0   : Bool
  /-- jump of the clock bias between epochs in 0.1 ns, while TB alignment holds -/
  clkJump : Nat
  /-- the drift has differed by more than 0.05 ppm for 5 s -/
  clkDrift : Bool
  /-- the antenna fails the baseline fit against the others -/
  incons : Bool
  /-- every double difference of an antenna pair lies within ±0.05 cycle of an integer at this epoch -/
  geom  : Bool
deriving DecidableEq, Repr, Inhabited

/-- A boom-shape baseline of an epoch (R138): the two antennas by module ID, the link of the joint, the joint value that fits the baseline, and
the ratio of its ambiguity test in 0.1 units. -/
structure ShapeIn where
  antA  : Nat
  antB  : Nat
  chain : Nat
  link  : Nat
  val   : Int
  ratio : Nat
deriving DecidableEq, Repr, Inhabited

/-- The solution of an epoch (R111): accuracy in mm, GNSS time minus TT in 156.25 ps. -/
structure GSol where
  acc : Nat
  err : Int
deriving DecidableEq, Repr, Inhabited

/-- What the solver forms once the records of an epoch are in: the solution, none: the measurements give none; the inter-system offsets (k,
offset, whether navigation data gives a broadcast value); the sky as the ephemerides give it at the pose: elevation in degrees, and whether the
ephemeris is valid and healthy (R109); the boom shape; GPS minus UTC where decoded. -/
structure GEpoch where
  sol    : Option GSol
  isto   : List (Nat × Int × Bool)
  sky    : List (Sat × Nat × Bool)
  shapes : List ShapeIn
  leap   : Option Int
deriving DecidableEq, Repr, Inhabited

/-- The path by which a correction message comes (R133): a TLS session, a transport session of a CAN controller, or another module's forward
over TC1 of one that came over Ethernet or CAN. -/
inductive CorrPath where
  | session (k : Fin 36)
  | can (c : Fin 4)
  | forward (eth : Bool)
deriving DecidableEq, Repr, Inhabited
/-! ### Mode parameters and Stride parameters (GEOM instance 0, SECTION) -/

/-- Mode family (R209). -/
inductive Family where
  | field | platform | alley | forerunner
deriving DecidableEq, Repr, Inhabited

/-- Source of the working-position signal (R210): none, an analog input with a threshold in mV, or a trip input. -/
inductive WorkSrc where
  | none
  | ain (n : Fin 16) (mv : Nat)
  | trip (k : Fin 8)
deriving DecidableEq, Repr, Inhabited

/-- A point in mm in the machine frame or a link frame, with the link it rides on (R62): chain 0 is the machine body. -/
structure Lever where
  chain : Nat
  link  : Nat
  x : Int
  y : Int
  z : Int
deriving DecidableEq, Repr, Inhabited

/-- Source of SPEED (R129): a counter channel, or the ISO 11783 message. -/
inductive SpeedSrc where
  | none
  | ch (n : Fin 16)
  | iso
deriving DecidableEq, Repr, Inhabited

/-- GEOM instance 0 (R62, R70, R129, R151, R210). -/
structure Geom0 where
  family  : Family
  groundZ : Int
  /-- the machine reference point as declared (R9) -/
  mrp     : Lever
  antenna : Lever
  ins     : Lever
  ext     : Lever
  /-- EXT_LAT in ms, 0 to 500 -/
  extLat  : Nat
  press   : List PressSrc
  workSrc : WorkSrc
  directedOk : Bool
  /-- LAT_TC in 0.1 ms -/
  latTc   : Nat
  /-- TC_LOSS AUTONOMOUS; otherwise OFF -/
  tcAuto  : Bool
  enc     : Nat
  countsRev : Nat
  nStalls : Nat
  platVmin : Nat
  /-- STALL_OF: (output, stall) -/
  stallOf : List (Nat × Nat)
  odo     : Nat
  mag     : Nat
  /-- SCALE, Q16 mm per count -/
  scale   : Nat
  adapt   : Bool
  xa      : Int
  ya      : Int
  psiA    : Nat
  m0      : Int
  mPitch  : Nat
  nM      : Nat
  mCapture : Nat
  drMax   : Nat
deriving DecidableEq, Repr, Inhabited

/-- Tracking parameters of a signal, each where the image changes it (R117). Signal: 0 L1 C/A of GPS, QZSS and SBAS, 1 E1, 2 B1I with D1, 3 B1I
with D2. SPACING in 1/64 chip, coherent time in ms, DLL bandwidth in 0.01 Hz, PLL bandwidth in Hz. -/
structure SigPar where
  sig     : Nat
  spacing : Option Nat
  coh     : Option Nat
  dll     : Option Nat
  pll     : Option Nat
deriving DecidableEq, Repr, Inhabited

/-- GNSSCFG beside its register words (R117, R129): tracking parameters, the source of SPEED, and the CAN controller of external pose and of the
ISO 11783 speed message. -/
structure GnssPar where
  sigs    : List SigPar
  speed   : SpeedSrc
  poseCan : Nat
deriving DecidableEq, Repr, Inhabited

/-! ### Jobs -/

/-- A vertex in field mm. -/
abbrev Pt : Type := Int × Int

/-- A polygon with its inner rings and its buffer in mm (R188). -/
structure Poly where
  outer : List Pt
  inner : List (List Pt)
  buf   : Nat
deriving DecidableEq, Repr, Inhabited

/-- A prescription layer (R191, R192): a grid, or treatment zones rasterised at load. -/
structure Layer where
  ox   : Int
  oy   : Int
  g    : Nat
  nx   : Nat
  ny   : Nat
  unit : Nat
  exp  : Int
  dflt : Nat
  /-- cells of the grid that hold a code: (row × NX + column, code); any other cell is FFFFh -/
  codes : List (Nat × Nat)
  /-- treatment zones in the order listed, with their codes -/
  zones : List (Poly × Nat)
deriving DecidableEq, Repr, Inhabited

/-- A job definition (R184, R188, R191, R193, R201, R202), as delivered or as found in the livery partition. -/
structure JobDef where
  jobId    : Nat
  /-- its number in the livery partition, as COV_JOB_SEL selects it (R201) -/
  num      : Nat
  /-- the field origin, where the field frame is anchored (R10): latitude and longitude in 10⁻⁹ degree, height in mm -/
  origin   : Int × Int × Int
  /-- the job is found in the livery partition -/
  found    : Bool
  /-- its keys open it (R204) -/
  keyOk    : Bool
  /-- the job was closed (R201) -/
  closed   : Bool
  cell     : Nat
  boundary : Poly
  excl     : List Poly
  layers   : List Layer
  /-- (team section, layer or none, default code) (R193) -/
  secRx    : List (Nat × Option Nat × Nat)
  /-- tiles of the stored replica whose tag or CRC fails (R204) -/
  badTiles : List Nat
deriving DecidableEq, Repr, Inhabited

/-- One run of a commit strip (R196). -/
structure Run where
  row  : Nat
  col  : Nat
  len  : Nat
  tile : Nat
  vert : Bool
deriving DecidableEq, Repr, Inhabited

/-- A commit strip (R196). -/
structure Strip where
  pos   : Nat
  /-- output 1 to 96 -/
  out   : Nat
  first : Bool
  last  : Bool
  pairB : Bool
  seq   : Nat
  stamp : Nat
  jobId : Nat
  cell  : Nat
  tiles : List (Nat × Nat)
  runs  : List Run
deriving DecidableEq, Repr, Inhabited

/-- A sequence table entry (R198): LAST and the window WIN of 64 bits. -/
structure SeqEnt where
  last : Nat
  win  : Nat
deriving DecidableEq, Repr, Inhabited

/-- A change of team state (R211, R212). -/
inductive TeamChg where
  | master (b : Bool)
  | secsw (k : Fin 3) (w : Word)
  | stall (n : Fin 96) (w : Word)
  | work (b : Bool)
deriving DecidableEq, Repr, Inhabited

/-- A change of the field mode the leader names (R217). -/
inductive ModeChg where
  | enter | leave | forceOff
deriving DecidableEq, Repr, Inhabited

/-! ### Pose -/

/-- A pose record (R135). -/
structure PoseRec where
  b        : Nat
  x        : Int
  y        : Int
  z        : Int
  v        : Int
  vy       : Int
  a        : Int
  psi      : Int
  pitch    : Int
  roll     : Int
  omega    : Int
  omegaDot : Int
  h95      : Nat
  head95   : Nat
  source   : Nat
  fix      : Nat
  valid    : Bool
  blend    : Bool
  stale    : Bool
  spoof    : Bool
  /-- the TT state (R141) -/
  ttSt     : Nat
  ttOfs    : Int
deriving DecidableEq, Repr, Inhabited

/-- PFLAGS.TT_VALID (R135, R141). -/
def PoseRec.ttValid (r : PoseRec) : Bool := r.ttSt != 0

/-- The point whose position the solver gives (R62, R129): the MRP, the antenna of a module, the position point of the external receiver. -/
inductive FixPoint where
  | mrp
  | antenna (m : Fin 64)
  | ext
deriving DecidableEq, Repr, Inhabited

/-- The fused state the solver computes for a boundary from its sources (R129, R135). The fusion is the solver's firmware. -/
structure Fused where
  /-- the point `x`, `y`, `z` is the position of -/
  point    : FixPoint
  x        : Int
  y        : Int
  z        : Int
  v        : Int
  vy       : Int
  a        : Int
  psi      : Int
  pitch    : Int
  roll     : Int
  omega    : Int
  omegaDot : Int
  h95      : Nat
  head95   : Nat
  fix      : Nat
  /-- the old source's position minus the new one's, in mm, where the source changes (R132) -/
  jumpX    : Int
  jumpY    : Int
deriving DecidableEq, Repr, Inhabited
/-! ### PWM generator -/

/-- A writer of a load group (R236): a RAP session, a loop group of the control engine, or a CAN controller. -/
inductive Writer where
  | rap (who : Fin 36)
  | ctl (g : Fin 16)
  | can (c : Fin 4)
deriving DecidableEq, Repr, Inhabited

/-- DUTY and PHASE of a channel in PWMCFG (R236). -/
structure PwmInit where
  ch    : Nat
  duty  : Nat
  phase : Nat
deriving DecidableEq, Repr, Inhabited
/-! ### Load channels -/

/-- The currents of a channel's four segments in 2.5 mA (R422). -/
structure SegCur where
  s0 : BitVec 12
  s1 : BitVec 12
  s2 : BitVec 12
  s3 : BitVec 12
deriving DecidableEq, Repr, Inhabited
/-! ### Rate control (LOOPGRP) -/

/-- A node of a loop (R293). -/
inductive LNode where
  | sp | spR | pvRaw | pv | e | ff | p | i | d | uRaw | u | uAct | inj | region | s1 | s2
deriving DecidableEq, Repr, Inhabited

/-- A scheduling variable (R288). -/
inductive SchedVar where
  | none | spR | pv | uAct
  | node (loop : Fin 64) (n : LNode)
  | press (k : Nat)
  | speed
  | ain (n : Fin 16)
deriving DecidableEq, Repr, Inhabited

/-- One axis of a gain schedule (R288): binary32 breakpoints and hysteresis. -/
structure Axis where
  var : SchedVar
  b1  : Word
  b2  : Word
  b3  : Word
  hys : Word
deriving DecidableEq, Repr, Inhabited

/-- A set of a region (R284), binary32. -/
structure LoopSet where
  kp  : Word
  ki  : Word
  kd  : Word
  tf  : Word
  kaw : Word
  ffGain : Word
  ffOfs  : Word
deriving DecidableEq, Repr, Inhabited

/-- What LOOPGRP holds of a loop beside the registers of R301 (R281, R282, R284, R288, R292). -/
structure LoopDef where
  loop    : Fin 64
  /-- outputs of OUTSET, by channel -/
  outset  : List Nat
  kSp     : Word
  spOfs   : Word
  /-- W_SP in mm, 0: the W of each output -/
  wSp     : Nat
  pvGain  : Word
  pvOfs   : Word
  /-- TF_PV in ms -/
  tfPv    : Nat
  sets    : List LoopSet
  ax1     : Axis
  ax2     : Axis
  outMin  : Word
  outMax  : Word
  slewUp  : Word
  slewDn  : Word
  spRate  : Word
  offOut  : Word
  safeOut : Word
  preset  : Word
  defRate : Word
  /-- the channel set of ACT CHANNELS -/
  chans   : List Nat
deriving DecidableEq, Repr, Inhabited
/-! ### CAN -/

/-- A frame as it stands on a bus (R304, R314). -/
structure CanFr where
  id   : Nat
  ide  : Bool
  rtr  : Bool
  fdf  : Bool
  brs  : Bool
  esi  : Bool
  dlc  : Nat
  data : List Nat
deriving DecidableEq, Repr, Inhabited

/-- An instruction of a filter program (R316). -/
structure FInstr where
  op   : Nat
  arg  : Nat
  skip : Nat
  imm  : Nat
deriving DecidableEq, Repr, Inhabited

/-- An entry of a map table (R319). -/
structure MapEnt where
  target : Nat
  idx    : Nat
  off    : Nat
  width  : Nat
  signed : Bool
  scale  : Word
  ofs    : Word
deriving DecidableEq, Repr, Inhabited

/-- A CANFILT segment (R316): its controller, program and map table. -/
structure Filt where
  ctrl : Nat
  prog : List FInstr
  maps : List MapEnt
deriving DecidableEq, Repr, Inhabited

/-- How a transmission attempt ends (R322): success, arbitration lost, or an error of a code of R314. -/
inductive TxEnd where
  | ok
  | arb
  | err (code : Nat)
deriving DecidableEq, Repr, Inhabited

/-- The ISOBUS presence of a position (R326): NAME without its identity number, and the preferred address. -/
structure IsoCfg where
  name : Nat
  pref : Nat
deriving DecidableEq, Repr, Inhabited

/-- Why a transport session message is met (R325): it opens, carries a part, ends, or breaks off. -/
inductive TpPart where
  | start (len : Nat)
  | data (bytes : List Nat)
  | abort
deriving DecidableEq, Repr, Inhabited
/-! ### Team plan -/

/-- One position of the team plan (R338). -/
structure PlanPos where
  pos     : Nat
  paired  : Bool
  codeG   : Bool
  prio    : Nat
  canAddr : Nat
deriving DecidableEq, Repr, Inhabited

/-- TEAMPLAN (R338). TOPO: 0 CHAIN, 1 RING, 2 STAR_OF_CHAINS. -/
structure TeamPlan where
  positions : List PlanPos
  pose   : List Nat
  time   : List Nat
  isobus : List (Nat × Nat)
  shape  : Nat
  links  : List (Nat × Nat × Nat × Nat)
  topo   : Nat
  /-- TEAM_PLAN_HASH (R40) -/
  hash   : Nat
deriving DecidableEq, Repr, Inhabited

/-! ### Link frames -/

/-- Header of a link frame (R332). -/
structure LFrame where
  cls   : Nat
  dst   : Nat
  src   : Nat
  hops  : Nat
  lseq  : Nat
  flags : Nat
  len   : Nat
  msgid : Nat
deriving DecidableEq, Repr, Inhabited

/-- A link control frame (R333, R334): a cumulative acknowledgement, a NAK with the expected LSEQ, or credits returned. -/
inductive LcMsg where
  | ack (cls lseq : Nat)
  | nak (cls lseq : Nat)
  | credit (cls n : Nat)
deriving DecidableEq, Repr, Inhabited

/-- What a HELLO tells of a module (R339), with the links its sender has UP: (port, MID at the far end). -/
structure Hello where
  mid    : Nat
  codeG  : Bool
  serial : Nat
  tb     : Nat
  image  : Nat
  plan   : Nat
  ups    : List (Nat × Nat)
  /-- channels of the module that are PAIR_WIRED (R266) -/
  wired  : List Nat
deriving DecidableEq, Repr, Inhabited

/-- A member's part of a routing table (R343): the boundary named, (destination, next hop, backup), broadcast trees, the link toward the
parent in the time tree, its depth, and hops from the pose solver. -/
structure RouteTab where
  b        : Nat
  hops     : List (Nat × Nat × Option Nat)
  tree     : List Nat
  backTree : List Nat
  parent   : Option Nat
  depth    : Nat
  poseHops : Nat
  far      : Nat
deriving DecidableEq, Repr, Inhabited

/-! ### The shadow of a pair -/

/-- An entry of an output's event queue (R162). -/
structure QEnt where
  on     : Bool
  tick   : Nat
  ground : Nat
  gen    : Nat
  hz     : Nat
  late   : Bool
  /-- reason of the decision that made it (STR_OUTn.REASON) -/
  reason : Nat
deriving DecidableEq, Repr, Inhabited

/-- What put a loop into FAULT (R280, R283, R287). -/
inductive LoopCause where
  /-- 10 consecutive steps abandoned -/
  | late
  /-- a node that is NaN or infinite -/
  | num
  /-- HOLD lasted FB_TMO -/
  | feedback
deriving DecidableEq, Repr, Inhabited

/-- A loop beside its registers (R283 to R289): binary32 nodes after the last step. -/
structure LoopSt where
  /-- MANUAL was the state last held before OFF (R286) -/
  manual  : Bool
  /-- CMD waiting for the next step: MANUAL or AUTO (R285) -/
  cmd     : Option Bool
  sp      : Word
  spR     : Word
  pvRaw   : Word
  /-- filter output of the feedback, none before its first sample (R282) -/
  filt    : Option Word
  pv      : Word
  e       : Word
  ff      : Word
  p       : Word
  i       : Word
  d       : Word
  xPrev   : Word
  uRaw    : Word
  u       : Word
  uAct    : Word
  inj     : Word
  /-- what was injected at OUT -/
  injOut  : Word
  s1      : Word
  s2      : Word
  bin1    : Nat
  bin2    : Nat
  /-- boundary at which HOLD began (R287) -/
  holdAt  : Nat
  /-- consecutive steps abandoned (R280) -/
  lateRun : Nat
  /-- what put it into FAULT, while it is there (R285) -/
  fault   : Option LoopCause
  /-- boundary of the last step done -/
  stepAt  : Option Nat
deriving DecidableEq, Repr, Inhabited

/-! ### Safety mirror -/

/-- Sources and cut map of a safety output in SAFMIR (R366): local inputs, remote signals as (connection, bit of SIG), and the four words of
SAF_CUTx. -/
structure SafSrc where
  local_ : BitVec 4
  remote : List (Fin 64 × Fin 8)
  cut    : Word × Word × Word × Word
deriving DecidableEq, Repr, Inhabited

/-- A safety connection (R375). PERIOD and WDT in ms. -/
structure ConnDef where
  idx    : Fin 64
  producer : Bool
  /-- hidden connection ID -/
  hid    : Nat
  /-- over a CAN controller, or (none) over TC2 to a module -/
  ctrl   : Option (Fin 4)
  /-- the peer's module ID and the connection index it uses -/
  peer   : Nat
  pidx   : Fin 64
  /-- identifier and transmit slot on the controller -/
  canId  : Nat
  slot   : Fin 128
  period : Nat
  wdt    : Nat
  win    : Nat
deriving DecidableEq, Repr, Inhabited

/-- SAFMIR (R373): copy of the switches, FILT and T_TEST in ms, the sources and cut map of SO1 to SO4, the connections. -/
structure Safmir where
  sw    : BitVec 16
  filt  : Nat
  tTest : Nat
  sos   : List SafSrc
  conns : List ConnDef
deriving DecidableEq, Repr, Inhabited
/-! ### Bridle -/

/-- A role (R385). -/
inductive Role where
  | vendor | oem | owner | operator | contractor | service | inspector | agronomist | debug
deriving DecidableEq, Repr, Inhabited

/-- A certificate of a chain (R386): its key and the key that issued it, whether that key's signature over it holds, its bytes, whether it is
X.509 v3 in DER with ECDSA P-256 over SHA-256, its serial, and its validity period in TT. -/
structure Cert where
  key    : Nat
  issuer : Nat
  sigOk  : Bool
  len    : Nat
  form   : Bool
  serial : Nat
  fromT  : Int
  toT    : Int
deriving DecidableEq, Repr, Inhabited

/-- What a peer presents in a handshake (R385, R386): the role its certificate carries, its chain from its own certificate up, whether its own
signature holds, the OEM_ID and livery the role extension carries, and its key. -/
structure Cred where
  role    : Role
  chain   : List Cert
  sigOk   : Bool
  oemId   : Nat
  livery  : Nat
  key     : Nat
deriving DecidableEq, Repr, Inhabited

/-- A message of the SESSION kind (R392). -/
inductive SessMsg where
  | hello (c : Cred)
  | finish (sigOk : Bool) (sid : Nat)
deriving DecidableEq, Repr, Inhabited

/-- A claim or reclaim permit (R387, R401): signed with an OEM role key. -/
structure OemPermit where
  sigOk   : Bool
  /-- the OEM role certificate and what issued it, and its OEM_ID -/
  chain   : List Cert
  oemId   : Nat
  serials : List Nat
  root    : Nat
  toT     : Int
  /-- the permit's own number, by which a second use is known -/
  number  : Nat
  /-- TT at which it was made -/
  fromT   : Int
deriving DecidableEq, Repr, Inhabited

/-- A binding signed by the owner root (R398, R399), with an owner revocation list where one is delivered (R386). -/
structure Binding where
  livery  : Nat
  root    : Nat
  sigOk   : Bool
  version : Nat
  serials : List Nat
  revoke  : Option (Nat × List Nat)
deriving DecidableEq, Repr, Inhabited

/-- A hire lease (R402). FROM and TO in TT. -/
structure Lease where
  leaseId    : Nat
  livery     : Nat
  root       : Nat
  sigOk      : Bool
  contractor : Nat
  /-- device serials, empty: every module bound to the livery -/
  devices    : List Nat
  jobs       : List Nat
  fromT      : Int
  toT        : Int
  areaMax    : Nat
  /-- (product unit, bound in 0.1 units) -/
  vols       : List (Nat × Nat)
  exports    : Bool
deriving DecidableEq, Repr, Inhabited

/-- An object staged for BRD_CMD (R413, R485). -/
inductive BrdObj where
  | claim (p : OemPermit)
  | binding (b : Binding)
  | select (livery : Nat)
  | lease (l : Lease)
  | revoke (livery leaseId root : Nat) (sigOk : Bool)
  | close (livery leaseId : Nat)
  | transfer (livery root : Nat) (sigOk keep : Bool) (newRoot : Nat)
  | reclaim (p : OemPermit)
  /-- vendor token: signature, chain, serial, challenge, expiry; consent tokens: owner root (none: OEM role key), signature, challenge -/
  | unlock (sigOk : Bool) (chain : List Cert) (serial chal : Nat) (toT : Int) (consents : List (Option Nat × Bool × Nat))
deriving DecidableEq, Repr, Inhabited

/-- A prescription package (R405): the agronomist's signature and chain, the job it is for (none: the livery), whether the content key
opens under the delivery key, and what it holds. -/
structure RxPkg where
  sigOk  : Bool
  chain  : List Cert
  job    : Option Nat
  keyOk  : Bool
deriving DecidableEq, Repr, Inhabited

/-- SECPOL (R385, R386, R395, R406, R409): consumers and map entries of each controller that take only authenticated messages, inspection
roots, OEM revocation list, and flags. -/
structure SecPol where
  authCons  : List (Nat × Nat)
  authMap   : List (Nat × Nat)
  roots     : List Nat
  revoked   : List Nat
  oemRoot   : Nat
  inspectMandatory : Bool
  debugInTeam : Bool
deriving DecidableEq, Repr, Inhabited
/-- An open session beside its registers (R391 to R394). -/
structure Sess where
  /-- session ID of a CAN session -/
  sid    : Nat
  /-- last freshness value accepted, and the last one sent (R393) -/
  fRx    : Nat
  fTx    : Nat
  /-- stamps of tag failures within 1 s (R394) -/
  fails  : List Nat
  opened : Nat
  /-- stamp of the last RAP request (R391) -/
  lastAt : Nat
  /-- TLS: number of the key in use in each direction; KeyUpdate raises it (R391) -/
  keyRx  : Nat
  keyTx  : Nat
  /-- stamp at which a rekey began (R394) -/
  rekey  : Option Nat
  livery : Nat
  /-- index of the contractor's lease -/
  lease  : Option Nat
deriving DecidableEq, Repr, Inhabited

/-! ### Farrier -/

/-- The result of a test and of the repeat that follows a failure (R416), with the signatures. -/
structure Test2 where
  ok   : Bool
  sig  : Word
  ok2  : Bool
  sig2 : Word
deriving DecidableEq, Repr, Inhabited
/-! ### Stud book -/

/-- STBPOL (R441): TYPEs disabled, TYPEs whose severity is raised by one, and records per second by TYPE. -/
structure StbPol where
  disabled : List Nat
  raised   : List Nat
  limits   : List (Nat × Nat)
deriving DecidableEq, Repr, Inhabited

/-- A clear permit (R442): whether its signature holds, whether a vendor key or an OEM role key made it, the key's chain and OEM_ID, and its
expiry in TT. -/
structure ClearPermit where
  sigOk   : Bool
  factory : Bool
  chain   : List Cert
  oemId   : Nat
  toT     : Int
  serial  : Nat
  permitSerial : Nat
  mask    : Nat
  chal    : Nat
deriving DecidableEq, Repr, Inhabited
/-! ### Shadow -/

/-- Plans, generations, commit and dose positions of an output (R180, R226). -/
structure ShOut where
  out    : Nat
  gate   : Bool
  gen    : Nat
  seq    : Nat
  doneTo : Nat
  queue  : List QEnt
  win    : Nat
  winOff : Nat
  winFrom : Nat
  dose   : Nat
  doseTo : Nat
deriving DecidableEq, Repr, Inhabited

/-- A live swap under way as the shadow holds it (R57): its state, C, and its scope. -/
structure ShSwap where
  state     : Nat
  c         : Nat
  scope     : List Nat
  loopScope : List Nat
  loopGone  : List Nat
deriving DecidableEq, Repr, Inhabited

/-- Newest sample of a position source (R130): its stamp and its estimated accuracy in mm. -/
structure SrcSt where
  tb  : Nat
  acc : Nat
  /-- a solution can be formed from it (R111) -/
  ok  : Bool
deriving DecidableEq, Repr, Inhabited

/-- What a pose solver holds beside the records its modules send (R137). -/
structure SolverSt where
  gnss    : List SrcSt
  ext     : List SrcSt
  speed   : Option (Int × Nat)
  source  : Nat
  drSince : Option Nat
  blendUm : Nat
  blendV  : Int × Int × Nat
  corrSt  : Option (Nat × Nat)
  shapeRun : List (Nat × Nat)
  shapeEp  : List (Nat × Nat)
  ratioRun : List (Nat × Nat)
  next    : List PoseRec
deriving DecidableEq, Repr, Inhabited

/-- A transport session of ISO 11783-3 (R325): peer, length, bytes so far. -/
structure TpSess where
  peer : Nat
  out  : Bool
  bam  : Bool
  len  : Nat
  data : List Nat
deriving DecidableEq, Repr, Inhabited

/-- The state of the ISO 11783 stack that the partner shadows (R324): controller, address, claim, NAME and transport sessions. -/
structure IsoSt where
  ctrl  : Nat
  addr  : Nat
  claim : Nat
  name  : Nat
  tp    : List TpSess
deriving DecidableEq, Repr, Inhabited

/-- What a time master holds (R140 to R146). -/
structure TimeSt where
  ofs      : Int
  state    : Nat
  slew     : Option Int
  slewAt   : Nat
  validEp  : Nat
  solAt    : Option Nat
  holdAt   : Option Nat
  extSet   : Bool
  stepPend : Option Int
  ofsNamed : List (Nat × Int)
  lastS    : Option Nat
  lastPulse : Option Nat
deriving DecidableEq, Repr, Inhabited

/-- The shadow of a driving module (R350), complete for boundary B. -/
structure Shadow where
  b      : Nat
  outs   : List ShOut
  /-- loop states with the words of CTL_LOOPn_STAT -/
  loops  : List (Nat × LoopSt × Word)
  iso    : Option IsoSt
  /-- the solver's state and team time, where the module holds the role (R137, R146, R350) -/
  pose   : Option SolverSt
  time   : Option TimeSt
  /-- live swap (R57) -/
  swap   : Option ShSwap
  scheds : List (Nat × (Bool × List (Nat × Bool)))
  schedOff : Bool
  chgs   : List (Nat × TeamChg)
  modeNext : Option (Nat × ModeChg)
  sRef   : Int
  cRef   : Int
  orient : Bool
  secctl : Word
  secsw  : List Word
  stalls : List Word
  mode   : Word
  term   : Nat
  /-- CAN sessions with BRD_SESSk_STAT (R414) -/
  sess   : List (Nat × Sess × Word)
  /-- K of a key-off (R475) -/
  keyoff : Option Nat
  /-- the team's named boundaries and the members at the last routing table: role moves, RUN -/
  roleNext : List (Nat × Nat × Nat)
  runAt  : Option Nat
  tabMembers : List Nat
deriving DecidableEq, Repr, Inhabited
/-! ### The harness image -/

/-- Content of an embedded NSC480 image (R59): a channel. Delays in ms, lengths in mm. -/
structure FrOut where
  /-- NSC480 channel 1 to 48 -/
  ch    : Nat
  role  : OutRole
  sect  : Nat
  onMs  : Nat
  offMs : Nat
  ofsX  : Int
  ofsY  : Int
  w     : Nat
  d     : Nat
  unit  : Nat
deriving DecidableEq, Repr, Inhabited

/-- A section of an NSC480 image with its fixed look-ahead distances (R59, R210). -/
structure FrSec where
  sect  : Nat
  width : Nat
  laOn  : Nat
  laOff : Nat
deriving DecidableEq, Repr, Inhabited

/-- What a segment holds beside the register words it sets (R42). -/
inductive SegBody where
  | pinfn (p : Pinfn)
  | geom0 (g : Geom0)
  | chain (c : Chain)
  | outtab (l : List OutEnt)
  | sections (l : List SecEnt)
  | loopgrp (l : List LoopDef)
  | canfilt (f : Filt)
  | safmir (m : Safmir)
  | teamplan (p : TeamPlan) (iso : List (Nat × IsoCfg))
  | secpol (p : SecPol)
  | halter
  | stbpol (p : StbPol)
  | gnsscfg (g : GnssPar)
  | pwmcfg (l : List PwmInit)
  | calib (c : Calib)
  | oemsec
  /-- the wraps of the content key: the recipient's serial, and whether the wrap opens with its identity key (R45) -/
  | keywrap (wraps : List (Nat × Bool))
  /-- channels, sections, and whether anything in it has no NSC960 counterpart -/
  | fr480 (outs : List FrOut) (secs : List FrSec) (other : Bool)
  /-- bytes that are no segment of any type -/
  | raw
deriving DecidableEq, Repr, Inhabited

/-- A directory entry of 48 bytes with its segment (R41, R42). A hash of 32 bytes is read as a number, its first byte lowest. -/
structure Seg where
  typ     : Nat
  inst    : Nat
  /-- POSITION: 0 to 31, FFh every position -/
  position : Nat
  sflags  : Nat
  version : Nat
  off     : Nat
  len     : Nat
  /-- HASH of the entry -/
  hash    : Nat
  /-- SHA-256 of the segment as stored -/
  sha     : Nat
  /-- the GCM tag holds under the content key (R45) -/
  opens   : Bool
  body    : SegBody
  /-- the words of the registers only the image sets (RWI, R16) -/
  words   : List (Nat × Word)
deriving DecidableEq, Repr, Inhabited

/-- Position a segment belongs to; none: every position (R41). -/
def Seg.pos (x : Seg) : Option Nat := if x.position = 255 then none else some x.position

/-- SFLAGS.ENC (R41). -/
def Seg.enc (x : Seg) : Bool := x.sflags.testBit 0

/-- A certificate of the signature block of an image or a firmware slot (R44, R466): its key, the key that issued it, whether that key's
signature over it holds, whether its usage is the signing of images, or of firmware, and its OEM_ID. -/
structure ImgCert where
  key     : Nat
  issuer  : Nat
  sigOk   : Bool
  signing : Bool
  oemId   : Nat
deriving DecidableEq, Repr, Inhabited

/-- A container (R39, R40, R44): the fields of its header; the container's own length and whether its padding is zero; the certificate chain
from the signer up, and whether the signer's signature over bytes 0 to SIG_OFFSET − 1 holds; SHA-256 of the container; its segments. -/
structure Container where
  magic   : Nat
  format  : Nat
  flags   : Nat
  version : Nat
  svn     : Nat
  buildTime : Nat
  target  : Nat
  minFw   : Nat
  planHash : Nat
  oemId   : Nat
  machine : Nat
  segCount : Nat
  totalLen : Nat
  dirOff  : Nat
  sigOff  : Nat
  reserved : Nat
  size    : Nat
  padOk   : Bool
  certs   : List ImgCert
  sigOk   : Bool
  hash    : Nat
  segs    : List Seg
deriving DecidableEq, Repr, Inhabited

/-- FLAGS.TEAM (R40). -/
def Container.team (c : Container) : Bool := c.flags.testBit 1
/-- FLAGS.FORERUNNER (R40). -/
def Container.fore (c : Container) : Bool := c.flags.testBit 2
/-- TARGET accepts the NSC960-G (R40). -/
def Container.forG (c : Container) : Bool := c.target.testBit 0
/-- TARGET accepts the NSC960-N (R40). -/
def Container.forN (c : Container) : Bool := c.target.testBit 1

/-- A directory entry as its 48 bytes read (R41), with an OUTTAB segment that is not encrypted as its own bytes read (R66); what another segment
holds is the entry's own part of `x`. -/
def Seg.fromBytes (b : Nat → Nat) (at_ : Nat) (x : Seg) : Seg :=
  { x with
    typ := leAt b at_ 2, inst := leAt b (at_ + 2) 2, position := leAt b (at_ + 4) 1, sflags := leAt b (at_ + 5) 1
    version := leAt b (at_ + 6) 2, off := leAt b (at_ + 8) 4, len := leAt b (at_ + 12) 4, hash := leAt b (at_ + 16) 32
    body := if leAt b at_ 2 = 3 ∧ leAt b (at_ + 5) 1 % 2 = 0 then .outtab (outtabFromBytes b (leAt b (at_ + 8) 4) (leAt b (at_ + 12) 4))
      else x.body }

/-- A segment of which nothing but the directory entry is known. -/
def noSeg : Seg := ⟨0, 0, 0, 0, 0, 0, 0, 0, 0, false, .raw, []⟩

/-- The padding of R39: every byte that no part of the container holds is zero. `l` lists the bytes that are not zero. -/
def padZero (dirEnd sigOff : Nat) (segs : List Seg) (l : List (Nat × Nat)) : Bool :=
  l.all (fun x => decide (x.1 < dirEnd) || decide (sigOff ≤ x.1)
    || segs.any (fun g => decide (g.off ≤ x.1) && decide (x.1 < g.off + g.len)))

/-- The container as its bytes read (R39 to R41): header, directory and padding from the bytes; certificates, digests and the content of
the segments as `c` has them. `l` lists the bytes that are not zero, `len` their number in all. -/
def Container.fromBytes (l : List (Nat × Nat)) (len : Nat) (c : Container) : Container :=
  let b (i : Nat) : Nat := ((l.find? (fun x => x.1 == i)).map (·.2)).getD 0
  let n := leAt b 0x50 4
  let dir := leAt b 0x58 4
  let sig := leAt b 0x5C 4
  let segs := (List.range (min n 256)).map (fun i => Seg.fromBytes b (dir + 48 * i) (c.segs.getD i noSeg))
  { c with
    magic := leAt b 0 4, format := leAt b 4 2, flags := leAt b 6 2, version := leAt b 8 4, svn := leAt b 0x0C 4
    buildTime := leAt b 0x10 8, target := leAt b 0x18 4, minFw := leAt b 0x1C 4, planHash := leAt b 0x20 32, oemId := leAt b 0x40 8
    machine := leAt b 0x48 8, segCount := n, totalLen := leAt b 0x54 4, dirOff := dir, sigOff := sig, reserved := leAt b 0x60 32
    size := len, padOk := padZero (dir + 48 * n) sig segs l, segs := segs }
/-! ### Start-up -/

/-- A firmware slot of NOR (R466). -/
structure FwSlot where
  present : Bool
  magic   : Nat
  version : Nat
  svn     : Nat
  len     : Nat
  /-- the certificates from the signer up -/
  certs   : List ImgCert
  /-- the signer's ECDSA signature over header and firmware holds -/
  sigOk   : Bool
deriving DecidableEq, Repr, Inhabited

/-- One copy of the boot record (R466). -/
structure BootRec where
  crcOk     : Bool
  /-- preferred slot, 0 A or 1 B -/
  preferred : Nat
  trial     : Bool
  writes    : Nat
deriving DecidableEq, Repr, Inhabited

/-- What the farrier's start-up tests find (R417, R418, R425): whether its known-answer test passes and the two copies of the field repair map
hold their CRC; the units that fail at least once, with their two tries; those that have not passed by 800 ms; failing SRAM rows
(macro, row) and DRAM rows (bank, row, page); the channels whose load draws too little to be tested; and the time taken in ms. -/
structure FarRun where
  kat      : Bool
  crc1     : Bool
  crc2     : Bool
  bad      : List (Nat × Nat × Test2)
  late     : List (Nat × Nat)
  rows     : List (Nat × Nat)
  dram     : List (Nat × Nat × Nat)
  untested : List Nat
  ms       : Nat
deriving DecidableEq, Repr, Inhabited

/-- What a module leaves the factory with: fuses, OTP counts, firmware slots, boot record and image store (R46, R48, R466, R486). -/
structure Shipped where
  serial  : Nat
  codeG   : Bool
  dieStep : BitVec 8
  otpSvn  : Nat
  otpFw   : Nat
  /-- the Ualdarvo root key (R44) -/
  root    : Nat
  /-- NOM_GAIN (R124) -/
  nomGain : BitVec 8
  slotA   : FwSlot
  slotB   : FwSlot
  boot1   : BootRec
  boot2   : BootRec
  active  : Option Container
  good    : Option Container
deriving DecidableEq, Repr, Inhabited

/-- What a start-up meets (R463): the three readings of POS0 to POS4 and PAIR_N, 1 ms apart (R337), the contacts of the sealed switches
(R371), the farrier's results, VLOG in 0.1 V, whether ATTN_N stands accepted active, and the content a module leaves the factory with, which
counts only in the first start of its life. -/
structure Boot where
  straps1 : BitVec 6
  straps2 : BitVec 6
  straps3 : BitVec 6
  swNo    : BitVec 16
  swNc    : BitVec 16
  far     : FarRun
  vlog    : BitVec 10
  attn    : Bool
  shipped : Shipped
deriving DecidableEq, Repr, Inhabited
/-! ### Faults -/

/-- An error a check of R35 finds. An event queue's entries are named by output and place. -/
inductive MemErr where
  /-- SECDED in an SRAM macro: row and word address, corrected or double -/
  | sram (macro_ : Fin 48) (row : Fin 512) (addr : Nat) (double : Bool)
  /-- SECDED in DRAM: word address, page, bank and row -/
  | dram (addr page bank row : Nat) (double : Bool)
  /-- parity in the correlator of a bank of channels, and whether the bank's state is unreadable (R118) -/
  | corr (bank : Fin 12) (unreadable : Bool)
  /-- parity in the event queues within one cycle -/
  | evq (entries : List (Fin 96 × Nat))
  /-- parity in a CAN receive queue: the controller and the place -/
  | canq (ctrl : Fin 4) (place : Nat)
  /-- parity in a network buffer -/
  | net
  /-- a GCM tag fails on data at rest or on a fabric payload -/
  | tag
  /-- CRC of a stud book record, by SEQ -/
  | record (seq : Nat)
  /-- CRC of a map tile at rest -/
  | tile (t : Nat)
deriving DecidableEq, Repr, Inhabited

/-- One unit's window of the gait monitor (R19): its pace in 0.1 ns, the work and the deadline in 0.1 ns; of a Stride lane the work follows
from R18. -/
structure Gait where
  unit     : Fin 31
  pace     : Nat
  work     : Nat
  deadline : Nat
deriving DecidableEq, Repr, Inhabited

/-- What wakes a CAN port (R323): a frame comes with its rate in the code of WAKE_RATE. -/
inductive CanWake where
  | pattern
  | frame (f : CanFr) (rate : Fin 4)
  | errors
deriving DecidableEq, Repr, Inhabited

/-! ### Register access -/

/-- The RAP status codes of R482. -/
inductive RapStatus where
  | ok | badKind | badAddr | noReg | readOnly | domainOff | masked | denied | notOwner | injDenied | busy | noSession
  | relayTimeout | noMember | badHandle | tooLong
deriving DecidableEq, Repr, Inhabited

/-- What an object written through a handle holds, as its bytes read (R485): an image, a firmware slot, an object of Bridle, a prescription
package; none: its bytes are none of these. -/
inductive BlkBody where
  | none
  | image (c : Container)
  | firmware (f : FwSlot)
  | object (o : BrdObj)
  | rx (p : RxPkg)
deriving DecidableEq, Repr, Inhabited

/-- A request of RAP (R481): READ of `n` + 1 registers, WRITE, BLK_OPEN, BLK_DATA of `len` + 1 bytes (with the bytes of a write), BLK_CLOSE. -/
inductive RapReq where
  | read (addr : Nat) (n : Fin 64)
  | write (addr : Nat) (ws : List Word)
  | blkOpen (obj : Fin 256) (write : Bool) (param len : Nat)
  | blkData (h : Fin 256) (off : Nat) (len : Fin 1024) (bytes : List Byte)
  | blkClose (h : Fin 256) (body : BlkBody)
deriving DecidableEq, Repr, Inhabited


end Sys2Proof
end

