-- ==== Sys2Proof/Syntax.lean ====
section
/-!
DEFINITION. Syntax.lean: the commands of the block, one constructor for each row of spec/opcode_table.json, with the operands the
happening brings from outside the module's state. `who` is a session: 0 to 3 the TLS sessions, 4 to 35 the CAN sessions (R391, R392).
-/

namespace Sys2Proof

/-- The commands (spec/opcode_table.json). -/
inductive Instr where
  /-- POWER_UP (R463): Start-up runs its steps once VLOG has been at or above 9 V for 5 ms, or after a wake, and reaches L1. Operands: what the start meets. -/
  | powerUp (b : Boot)
  /-- STRAP_CHANGED (R337): A strap changes after power-up; the change is ignored and reported. Operands: PAIR_N in bit 5 and POS4 to POS0, tied to ground reading 1. -/
  | strapChanged (v : BitVec 6)
  /-- LEVEL_RISE (R7): A returned working-set item passes self-test, and the service level rises at the next stride boundary. -/
  | levelRise
  /-- VLOG_OVERVOLTAGE (R460): VLOG stays above 36 V for 1 ms; the module gives up service as class 6 and PD1–PD11 stay off. Operands: VLOG in 0.1 V. -/
  | vlogOvervoltage (vlog : BitVec 10)
  /-- VLOG_OV_RECOVER (R460): VLOG stays below 34 V for 100 ms after an overvoltage, and the domains may start again. -/
  | vlogOvRecover (vlog : BitVec 10)
  /-- BROWNOUT (R460): VLOG stays below 7.5 V for 2 ms; the module flushes, switches PD1–PD11 off and goes to L0. Operands: VLOG in 0.1 V, and whether the flush completes. -/
  | brownout (vlog : BitVec 10) (flushed : Bool)
  /-- BROWNOUT_RESTART (R460): VLOG stays at or above 9 V for 100 ms after a brownout, and the module restarts. -/
  | brownoutRestart (vlog : BitVec 10)
  /-- VLOG_LOSS (R460): VLOG falls below 5.5 V; PD0 goes off and every output is unpowered. -/
  | vlogLoss
  /-- ACTIVATE_FW (R468): The slot that is not running becomes preferred with TRIAL set, effective at the next start. Operands: the session. -/
  | activateFw (who : Fin 36)
  /-- FW_CANCEL (R476): A pending TRIAL is cleared before the next start. Operands: the session. -/
  | fwCancel (who : Fin 36)
  /-- FW_TRIAL_CONFIRM (R468): After 60 s at L1 with no class 5 or 6 fault, TRIAL clears and the OTP firmware count rises. -/
  | fwTrialConfirm
  /-- FW_TRIAL_FAIL (R468): A trial start misses L1 within 2.5 s or meets a class 5 or 6 fault, and the module restarts from the other slot. -/
  | fwTrialFail
  /-- ATTN_N_ACTIVE (R472): ATTN_N is accepted active after 20 ms; it wakes the module or abandons a key-off in progress. -/
  | attnNActive
  /-- ATTN_N_INACTIVE (R469): ATTN_N is accepted inactive, and the KEYOFF_DEB time starts. -/
  | attnNInactive
  /-- KEYOFF_CONDITION (R469): ATTN_N has stayed inactive for KEYOFF_DEB; the leader names K, and a member reports to the leader. -/
  | keyoffCondition
  /-- SLEEP (R469): The SLEEP command sets the key-off condition. Operands: the session. -/
  | sleep (who : Fin 36)
  /-- STAY (R473): The STAY command renews the stay-awake time. Operands: the session. -/
  | stay (who : Fin 36)
  /-- KEYOFF_REPORT (R469): The leader receives a member's key-off condition. Operands: the member. -/
  | keyoffReport (m : Fin 64)
  /-- KEYOFF_START (R470): At K the module suspends its job, places outputs safe, stores data, sets the CAN sleep modes and switches its domains off. Operands: whether the job's store is full. -/
  | keyoffStart (full : Bool)
  /-- KEYOFF_FORCE (R470): Step 5 has not begun 10 s after K; PD1–PD11 go off with the flush, and the next start is UNCLEAN. -/
  | keyoffForce
  /-- WAKE_CAN (R323): A transceiver sees a wake pattern, a matching wake frame or more than 31 frame errors, and the module wakes. Operands: the controller and what it sees. -/
  | wakeCan (ctrl : Fin 4) (w : CanWake)
  /-- WAKE_LINK (R472): A wake burst arrives on a link with LINK_WAKE set, and the module wakes and passes it on. Operands: the link. -/
  | wakeLink (n : Fin 5)
  /-- WAKE_HALTER (R472): HALTER_EN is accepted active in sleep with HALTER_WAKE set, and the module wakes. -/
  | wakeHalter
  /-- WAKE_TIMER (R472): WAKE_TMR minutes of sleep have passed, and the module wakes. -/
  | wakeTimer
  /-- STAY_AWAKE_EXPIRY (R473): A module woken with ATTN_N inactive has had no request or session for STAY_AWAKE, and it keys off. -/
  | stayAwakeExpiry
  /-- GAIT_WINDOW (R19): At the end of each 1 ms window the pace rings are counted, and PACE and MARGIN are updated. Operands: each unit's pace and workload. -/
  | gaitWindow (l : List Gait)
  /-- CLOCK_MONITOR_WINDOW (R23): At the end of each 1 ms window SAFE and AO check each other and REF against ±5 %. Operands: the deviations measured, in 0.1 %. -/
  | clockMonitorWindow (ao ref safe : Int)
  /-- CLK_REF_LOSS (R23): REF is lost or a PLL unlocks; the clocked domains stop and the PWM generator freezes. -/
  | clkRefLoss
  /-- REF_RETURN (R23): REF returns, and the module restarts. -/
  | refReturn
  /-- MEMORY_ERROR_DETECTED (R35): A SECDED, parity or CRC error is found in a memory or on a hop, corrected or discarded, counted and recorded. Operands: what is found. -/
  | memoryErrorDetected (e : MemErr)
  /-- DUAL_RAIL_ERROR (R35): An illegal code or a stalled handshake halts a self-timed unit, raises a fault and makes the farrier isolate the unit. Operands: the unit, as SYS_GAIT_PACE numbers it. -/
  | dualRailError (unit : Fin 31)
  /-- DRAM_SCRUB (R35): Every 24 h all of DRAM is scrubbed. Operands: the errors the scrub finds. -/
  | dramScrub (found : List MemErr)
  /-- IMG_CHECK (R47): The image in PENDING is validated in the fixed order of checks. Operands: the session. -/
  | imgCheck (who : Fin 36)
  /-- IMG_ACTIVATE (R50): A live swap or team distribution starts. Operands: the session. -/
  | imgActivate (who : Fin 36)
  /-- IMG_ABORT (R60): A swap is aborted before its quiesce cycle. Operands: the session. -/
  | imgAbort (who : Fin 36)
  /-- RESTART_ACTIVATE (R54): A staged image is activated by a module restart or a coordinated team restart. Operands: the session. -/
  | restartActivate (who : Fin 36)
  /-- IMG_REVERT (R54): LAST_GOOD becomes pending, subject to R46, and a restart is needed. Operands: the session. -/
  | imgRevert (who : Fin 36)
  /-- TEAM_IMAGE (R55): A member receives the image over TC5, validates it for its own position and returns STAGED_OK or its error. Operands: the image. -/
  | teamImage (c : Container)
  /-- STAGED_OK (R55): The leader receives a member's staging acknowledgement; after the last one it sends PREPARE with C. Operands: the member and its error code, 0 STAGED_OK. -/
  | stagedOk (m : Fin 64) (code : Fin 256)
  /-- STAGING_TIMEOUT (R55): Not all members have acknowledged within 2 s, and the leader sends ABORT. -/
  | stagingTimeout
  /-- PREPARE (R55): A member receives PREPARE with C and acknowledges it. Operands: the commit boundary. -/
  | prepare (C : Nat)
  /-- SWAP_ABORT (R55): A member receives ABORT before C − 40,000 and keeps its active image. -/
  | swapAbort
  /-- SWAP_QUIESCE_START (R50): At C − 40,000 the scope stops taking decisions and the new segments are loaded. -/
  | swapQuiesceStart
  /-- SWAP_COMMIT (R51): At C the new segments take effect, events at or after C + 40,000 are squashed and loops transfer bumplessly. -/
  | swapCommit
  /-- JOINT_SOURCE_FAIL (R65): A joint source has delivered no valid sample for 3 of its periods; SRC2, the held value, FALLBACK or chain invalid applies. Operands: the link and which of its sources failed. -/
  | jointSourceFail (chain : Fin 32) (link : Fin 8) (second : Bool)
  /-- JOINT_SRC1_RETURN (R65): SRC1 has been valid for 10 consecutive snapshots, and the joint returns to SRC1. Operands: the link whose SRC1 has returned. -/
  | jointSrc1Return (chain : Fin 32) (link : Fin 8)
  /-- JOINT_HOLD_EXPIRY (R65): HOLD ends with both sources failed; POLICY FIXED uses FALLBACK, and POLICY OFF invalidates the chain. Operands: the link whose HOLD has ended. -/
  | jointHoldExpiry (chain : Fin 32) (link : Fin 8)
  /-- GEOM_PAIR_DIFF (R74): A link snapshot has differed from the partner's for 50 consecutive cycles. Operands: the link, and the partner's snapshot of it in the cycle in progress. -/
  | geomPairDiff (chain : Fin 32) (link : Fin 8) (theirs : BitVec 16)
  /-- INPUT_EDGE_ACCEPTED (R77): A counter input level has held for MIN_SPACING, and the count, flags and compare logic act. Operands: the channel and the new level of each of its inputs that has one accepted at this tick. -/
  | inputEdgeAccepted (ch : Fin 16) (a b z : Option Bool)
  /-- FAST_EDGE (R78): A level change reverts before MIN_SPACING; it is counted and ignored, and EDGE_FAULT may be raised. Operands: the channel. -/
  | fastEdge (ch : Fin 16)
  /-- CH_FAULT_CLEAR (R81): The 1 s fault-free conditions hold, so CH_FAULT clears and VALID sets. Operands: the channel. -/
  | chFaultClear (ch : Fin 16)
  /-- WIRE_BREAK (R81): A used differential input stays below 100 mV for 1 ms, and CH_FAULT sets. Operands: the channel and its input, 0 A, 1 B, 2 Z. -/
  | wireBreak (ch : Fin 16) (inp : Fin 3)
  /-- INDEX_TIMEOUT (R93): An input stays active beyond ACTIVE_LIM; CH_FAULT sets and index or onset acceptance is blocked. Operands: the channel and the input held active. -/
  | indexTimeout (ch : Fin 16) (inp : Fin 3)
  /-- FBI_LOAD (R84): The counter is set from FBI_LOADn. Operands: the session and the channel. -/
  | fbiLoad (who : Fin 36) (ch : Fin 16)
  /-- FBI_ARM (R88): The ONCE index reset is armed. Operands: the session and the channel. -/
  | fbiArm (who : Fin 36) (ch : Fin 16)
  /-- FBI_CLEAR (R104): The channel's fault and statistics counters are cleared. Operands: the session and the channel. -/
  | fbiClear (who : Fin 36) (ch : Fin 16)
  /-- CMP_VAL_HI_WRITE (R94): A write to VAL_HI commits the 48-bit VAL and arms the compare unit. Operands: the session, the compare unit and the word written. -/
  | cmpValHiWrite (who : Fin 36) (k : Fin 4) (hi : Word)
  /-- CMP_PULSE_END (R96): A compare pulse of PW ticks ends. Operands: the compare unit. -/
  | cmpPulseEnd (k : Fin 4)
  /-- SSI_READ (R99): An SSI frame is read and stamped; the sample is checked and stored or discarded. Operands: the port, the data bits as read, the status bits, the parity bit, whether the data line was low before the first clock, and whether a CRC-6 holds. -/
  | ssiRead (k : Fin 4) (data : Word) (status : Nat) (check : Nat) (wireLow : Bool)
  /-- AIN_SAMPLE (R101): An analog input is converted with its stamp, and its faults and VALID are set. Operands: the input, its code, and whether the input lies above full scale by more than the range allows. -/
  | ainSample (n : Fin 16) (code : BitVec 16) (above : Bool)
  /-- SHUNT_OPEN (R101): The 4–20 mA input exceeds 30 mA, and the shunt opens within 10 µs. Operands: the input. -/
  | shuntOpen (n : Fin 16)
  /-- SHUNT_CLOSE (R101): The shunt closes 100 ms after opening, and opens again at once if the current is still too high. Operands: the input and whether its current is still above 30 mA. -/
  | shuntClose (n : Fin 16) (high : Bool)
  /-- SUPPLY_LIMIT_OFF (R102): A sensor supply stays in limit for 10 ms, switches off, and its inputs report SUPPLY_FAULT. Operands: the supply, false SUP5A, true SUP5B. -/
  | supplyLimitOff (b : Bool)
  /-- SUPPLY_RETRY (R102): A sensor supply retries 1 s after switching off. Operands: the supply. -/
  | supplyRetry (b : Bool)
  /-- ANT_BIAS_CHECK (R107): Every 100 ms the antenna bias current is checked for open and for recovery. Operands: the bias current in µA, as it has stood since the check before. -/
  | antBiasCheck (ua : Nat)
  /-- ANT_SHORT (R107): The bias current stays above 55 mA for 10 ms, and the bias switches off. -/
  | antShort
  /-- ANT_BIAS_RETRY (R107): The antenna bias is retried 1 s after a short. -/
  | antBiasRetry
  /-- AVAILABILITY_EVAL (R110): Once per second the role holder evaluates usable main satellites and PDOP, and announces a path switch. Operands: the dilution of precision. -/
  | availabilityEval (a : Avail)
  /-- ACQ_ROUND (R114): A round of acquisition dwells completes, and detected cells are handed to free channels. Operands: the detected cells. -/
  | acqRound (found : List Cand)
  /-- PULL_IN_TIMEOUT (R113): A channel does not reach code lock within 500 ms, and the candidate is dropped. Operands: the channel. -/
  | pullInTimeout (ch : Fin 96)
  /-- ACQ_POWER_OFF (R114): PD3 switches off after 60 s without a pending search. -/
  | acqPowerOff
  /-- TRACKING_DUMP (R116): An integration dump updates the loops, C/N0 and lock indicators, and the channel state may change. Operands: the channel and its dump. -/
  | trackingDump (ch : Fin 96) (d : Dump)
  /-- CN0_LOSS (R116): A channel stays below 20 dB-Hz for 1 s, goes to IDLE and its satellite is searched again. Operands: the channel. -/
  | cn0Loss (ch : Fin 96)
  /-- EPOCH_STROBE (R120): At an epoch tick every tracking channel latches its measurements, and the record is built and sent. Operands: what the strobe brings. -/
  | epochStrobe (e : GStrobe)
  /-- GNSS_RECORD (R121): The pose solver receives a measurement record and runs its integrity checks and solution. Operands: the record, the quantities its checks test, and, with the last record of the epoch, what the solver forms. -/
  | gnssRecord (r : GRec) (c : GChk) (e : Option GEpoch)
  /-- EXCLUSION_END (R125): A timed satellite exclusion ends. Operands: the antenna by module ID and the satellite. -/
  | exclusionEnd (ant : Fin 64) (sat : Sat)
  /-- SUSPECT_CLEAR (R125): Every check has passed for 60 s, and a SUSPECT antenna returns to use. Operands: the antenna by module ID. -/
  | suspectClear (ant : Fin 64)
  /-- SPOOF_CLEAR (R126): The checks have passed for 60 s on the new measurements, and SPOOF clears. -/
  | spoofClear
  /-- INTERFERENCE_FFT (R124): Every 10 ms the FFT and AGC are evaluated, notches are placed or released and JAM is set. Operands: lines by frequency in kHz from the LO with their height in dB above the median floor, the AGC gain in 0.5 dB, the J/N in dB. -/
  | interferenceFft (lines : List (Int × Nat)) (gain jn : Nat)
  /-- NOM_GAIN_UPDATE (R124): NOM_GAIN is refined as the median gain over an hour without JAM. -/
  | nomGainUpdate
  /-- POSE_RECORD_PUBLISH (R135): The role holder publishes the pose record for boundary B over TC1. Operands: the state the solver fuses for the next boundary. -/
  | poseRecordPublish (f : Fused)
  /-- POSE_RECORD (R137): A module receives a pose record, keeps the first one for B and discards late records. Operands: the record received over TC1. -/
  | poseRecord (r : PoseRec)
  /-- DR_LIMIT_EXPIRY (R131): Dead reckoning reaches DR_LIMIT, so POSE_INVALID is raised and the module falls to L1. -/
  | drLimitExpiry
  /-- RTCM_MESSAGE (R133): An RTCM correction message is accepted, discarded or forwarded to the role holder. Operands: the path it came by; message number, reference station, the TB stamp of its epoch, and whether its CRC-24Q holds. -/
  | rtcmMessage (path : CorrPath) (typ : Nat) (station : Nat) (epoch : Nat) (crcOk : Bool)
  /-- EXTERNAL_POSE_PGN (R129): An NMEA 2000 position, course or time message is taken as external pose and may set TT in EXTERNAL. Operands: the controller, the parameter group, its estimated accuracy in mm, whether it gives a position, and the TT_OFS a date and time gives. -/
  | externalPosePgn (ctrl : Fin 4) (pgn : Nat) (acc : Nat) (ok : Bool) (tt : Option Int)
  /-- SPEED_MESSAGE (R129): An ISO 11783 speed message is taken as the SPEED source. Operands: the controller, the ground speed in mm/s and whether it is valid. -/
  | speedMessage (ctrl : Fin 4) (v : Int) (ok : Bool)
  /-- INS_SAMPLE (R129): An inertial sensor frame is checked by CRC and taken for the pose. Operands: whether the frame's CRC-8 holds. -/
  | insSample (crcOk : Bool)
  /-- TT_OFS_ANNOUNCE (R140): A module receives a new TT_OFS from the time master with its named boundary. Operands: the offset, the boundary named with it, and the TT state. -/
  | ttOfsAnnounce (ofs : Int) (b : Nat) (st : Nat)
  /-- TT_OFS_APPLY (R140): Every module applies the new TT_OFS at the named boundary. -/
  | ttOfsApply
  /-- HOLDOVER_LIMIT (R144): HOLDOVER reaches HOLD_S, and TT becomes FREE_RUN. -/
  | holdoverLimit
  /-- TPO_PULSE (R142): The leading edge of the pulse for a TT second is emitted. Operands: the TT second. -/
  | tpoPulse (sec : Nat)
  /-- TPO_PULSE_END (R142): The time pulse ends after WIDTH. -/
  | tpoPulseEnd
  /-- SLEW_END (R145): The slew of TT_OFS ends when the phase error falls below 5 ns. -/
  | slewEnd
  /-- STRIDE_BOUNDARY (R149): At each 40,000-tick boundary the engine takes the pose, joints, pressures and counters, merges strips and deals the evaluations. -/
  | strideBoundary
  /-- STRIDE_CUTOFF (R176): At B + 38,000 unfinished evaluations are abandoned, and spans end at the last completed horizon. Operands: the outputs with evaluations unfinished at the cut-off, each with its lowest such horizon. -/
  | strideCutoff (cuts : List (Fin 96 × Fin 8))
  /-- STRIDE_FULL_RESTORE (R177): After 5,000 cycles without overrun and with enough margin, the full horizon count returns. -/
  | strideFullRestore
  /-- STRIDE_WRITEBACK (R163): The evaluations end; plans are compared, squashed or rewritten with marks, and commits are made. Operands: whether the results of the lane the spare checks differ. -/
  | strideWriteback (mis : Bool)
  /-- EVENT_COMMIT (R165): At an entry's TICK the output stage sets the stride gate to TYPE and removes the entry. Operands: the output. -/
  | eventCommit (out : Fin 96)
  /-- RECENT_PLANE_SWEEP (R167): Every 500 ms blocks are marked OLD and their stamps are cleared. -/
  | recentPlaneSweep
  /-- DEBUG_HALT (R246): A debug halt of PD1 freezes the generator and starts the hold-over watchdog. Operands: the debug session. -/
  | debugHalt (who : Fin 36)
  /-- DEBUG_RESUME (R179): On resume, passed entries are not executed, each gate takes the last TYPE, and planning restarts from the fence. Operands: the debug session. -/
  | debugResume (who : Fin 36)
  /-- TILE_FILL (R186): A map tile fill from DRAM into the map cache completes. Operands: the tile, column + row × 1024. -/
  | tileFill (t : Fin 1048576)
  /-- COMMIT_STRIP (R198): A commit strip is received and held for the merge at the next boundary. Operands: the strip. -/
  | commitStrip (x : Strip)
  /-- HOLE_RESEND (R199): A hole has been open for 500 ms, and RESEND is sent to the position. Operands: position, output and SEQ of the hole. -/
  | holeResend (pos : Fin 32) (out : Fin 128) (seq : Nat)
  /-- RESEND_REQUEST (R199): A RESEND arrives, and the strip is answered from the resend ring. Operands: the member that asks, the output and the SEQ. -/
  | resendRequest (m : Fin 64) (out : Fin 128) (seq : Nat)
  /-- REPLICA_HOLE (R199): A hole has been open for 10 s and is given up. Operands: position, output and SEQ of the hole. -/
  | replicaHole (pos : Fin 32) (out : Fin 128) (seq : Nat)
  /-- CATCH_UP_START (R200): The leader chooses S for a joiner and sends its sequence table and tiles. Operands: the joiner. -/
  | catchUpStart (m : Fin 64)
  /-- CATCH_UP_SEQ_TABLE (R200): The joiner receives the leader's sequence table as of S. Operands: S and the leader's table, by position × 128 + output. -/
  | catchUpSeqTable (S : Nat) (start : Option Nat) (tab : List (Nat × SeqEnt))
  /-- CATCH_UP_TILE (R200): The joiner receives a tile; after the last tile it merges its held strips and its sections take part. Operands: the tile, the codes of its cells other than 00b, and whether it is the last. -/
  | catchUpTile (t : Fin 1048576) (codes : List (Nat × Nat)) (last : Bool)
  /-- JOB_LOAD (R201): The job is decrypted, checked, rasterised and distributed. Operands: the session, none for a command forwarded by a member, and what COV_JOB_SEL names. -/
  | jobLoad (who : Option (Fin 36)) (job : JobDef)
  /-- JOB_LOAD_DONE (R201): Loading ends in LOADED or ERROR. -/
  | jobLoadDone
  /-- JOB_DEFINITION (R202): A member receives the job definition, rasterises it and reports its raster hash. Operands: the definition. -/
  | jobDefinition (job : JobDef)
  /-- RASTER_HASH (R202): The leader receives a member's raster hash, and a mismatch raises JOB_MISMATCH. Operands: the member and its hash. -/
  | rasterHash (m : Fin 64) (hash : Nat)
  /-- RASTER_HASH_TIMEOUT (R202): A member has not reported within 60 s and takes no part until it does. Operands: the member. -/
  | rasterHashTimeout (m : Fin 64)
  /-- JOB_START (R201): The START command asks for RUN at a named boundary. Operands: the session, none for a command forwarded by a member. -/
  | jobStart (who : Option (Fin 36))
  /-- JOB_SUSPEND (R203): The SUSPEND command clears section enables at the next boundary. Operands: the session, none for a command of the team. -/
  | jobSuspend (who : Option (Fin 36))
  /-- JOB_RESUME (R201): The RESUME command asks for RUN at a named boundary. Operands: the session, none for a command forwarded by a member. -/
  | jobResume (who : Option (Fin 36))
  /-- JOB_RUN_APPLY (R202): The job enters RUN at the boundary the leader named. -/
  | jobRunApply (b : Nat)
  /-- JOB_SUSPENDED (R203): All product is off the ground and the last strips are sent, so the job becomes SUSPENDED and is stored. Operands: whether the job store is full. -/
  | jobSuspended (full : Bool)
  /-- JOB_CLOSE (R201): The CLOSE command starts the final store and sealing. Operands: the session, none for a command of the team. -/
  | jobClose (who : Option (Fin 36))
  /-- JOB_CLOSE_DONE (R201): CLOSING ends, the signed application record is made, and the state becomes NONE. Operands: whether the job store is full. -/
  | jobCloseDone (full : Bool)
  /-- JOB_DISCARD (R201): The loaded or suspended job is discarded. Operands: the session, none for a command of the team. -/
  | jobDiscard (who : Option (Fin 36))
  /-- JOB_EXPORT (R205): The build of the ISO 11783-10 task data export starts. Operands: the session, none for a command forwarded by a member. -/
  | jobExport (who : Option (Fin 36))
  /-- EXPORT_DONE (R205): The export is built, and EXPORT_READY sets. -/
  | exportDone
  /-- ADD_EXCL (R190): An exclusion polygon is distributed for acknowledgement by the members. Operands: the session, none for the team; the leader's number for the polygon; the polygon with its buffer. -/
  | addExcl (who : Option (Fin 36)) (n : Nat) (p : Poly)
  /-- EXCL_ACK (R190): The leader receives a member's exclusion acknowledgement and, after the last one, names the boundary. Operands: the member and the polygon's number. -/
  | exclAck (m : Fin 64) (n : Nat)
  /-- EXCL_APPLY (R190): Every member rasterises the new exclusion at the named boundary. Operands: the number of the polygon named for this boundary. -/
  | exclApply (n b : Nat)
  /-- JOB_STORE (R204): Every 10 s in RUN the changed tiles are stored, with retry when the store is full. Operands: whether the job store is full. -/
  | jobStore (full : Bool)
  /-- MASTER_WRITE (R212): A write to MASTER is forwarded to the leader as a team state change. Operands: the session and the value. -/
  | masterWrite (who : Fin 36) (b : Bool)
  /-- SECSW_WRITE (R212): A write to the section switches is forwarded to the leader. Operands: the session, the register and the word. -/
  | secswWrite (who : Fin 36) (k : Fin 3) (w : Word)
  /-- STALL_WRITE (R212): A write to a stall's enable or dose is forwarded to the leader. Operands: the session, the stall and the word of EN and DOSE. -/
  | stallWrite (who : Fin 36) (n : Fin 96) (w : Word)
  /-- TEAM_STATE_CHANGE (R212): The leader receives a team state change and names a boundary at least 10 cycles ahead. Operands: the member that reports it and the change. -/
  | teamStateChange (m : Fin 64) (c : TeamChg)
  /-- SECTION_STATE_APPLY (R212): Every member applies the team state change at the named boundary. Operands: the change the leader named for this boundary. -/
  | sectionStateApply (b : Nat) (c : TeamChg)
  /-- MODE_REQ_WRITE (R214): FIELD-DIRECTED is requested or withdrawn. Operands: the session and the value. -/
  | modeReqWrite (who : Fin 36) (b : Bool)
  /-- TC_SETPOINT (R214): A task controller setpoint work state adds a schedule edge at r + LAT_TC. Operands: the team section, its setpoint work state, and the receive stamp where the ISOBUS holder has forwarded it. -/
  | tcSetpoint (sect : Fin 1024) (on : Bool) (fwd : Option Nat)
  /-- TC_STATUS (R217): A task controller status message restarts the loss timer, or section control off triggers the loss. Operands: whether the task controller has section control on, and the receive stamp where the ISOBUS holder has forwarded it. -/
  | tcStatus (scOn : Bool) (fwd : Option Nat)
  /-- TC_LOSS (R217): No task controller status has arrived for 6 s; the leader names M and TC_LOST sets. -/
  | tcLoss
  /-- MODE_CHANGE_APPLY (R217): The field mode changes at M, and the schedules start or are discarded. Operands: the change the leader named for this boundary. -/
  | modeChangeApply (M : Nat) (c : ModeChg)
  /-- ALLEY_SET (R224): A write of SET applies STR_ALLEY_SET and the ORIENT in force at the next boundary. Operands: the session. -/
  | alleySet (who : Fin 36)
  /-- ALLEY_ORIENT (R224): A write of ORIENT is held until SET at the next boundary. Operands: the session and the value. -/
  | alleyOrient (who : Fin 36) (b : Bool)
  /-- SHADOW_WRITE (R237): A write of shadow DUTY or PHASE is taken, or ignored with WRITE_WHILE_ARMED while the group is armed. Operands: the writer, the channel, whether it writes PHASE or DUTY, and the word. -/
  | shadowWrite (src : Writer) (ch : Fin 104) (phase : Bool) (v : Word)
  /-- LOAD_ALL (R237): The owner arms the load group. Operands: the writer, the group, and whether the same write sets CANCEL. -/
  | loadAll (src : Writer) (k : Fin 8) (cancel : Bool)
  /-- LG_CANCEL (R239): The group is disarmed without a transfer. Operands: the writer and the group. -/
  | lgCancel (src : Writer) (k : Fin 8)
  /-- LG_TRANSFER (R237): At the first boundary of its kind after LOAD_ALL the shadows are copied and the group disarms. Operands: the group whose boundary comes. -/
  | lgTransfer (k : Fin 8)
  /-- FORCE_COMMIT (R241): The force shadows take effect together at the next tick. Operands: the session, and whether the same write sets CLEAR_ALL. -/
  | forceCommit (who : Fin 36) (clear : Bool)
  /-- FORCE_CLEAR_ALL (R242): Every force is released. Operands: the session. -/
  | forceClearAll (who : Fin 36)
  /-- FORCE_TIMEOUT (R242): No COMMIT has arrived within FORCE_TMO, and the forces are released. -/
  | forceTimeout
  /-- TRIP_ACTIVE (R243): A trip input's filtered level becomes active; the latch sets and masked outputs are held off. Operands: the trip input and the stamp of the first active sample. -/
  | tripActive (k : Fin 8)
  /-- TRIP_INACTIVE (R244): A trip input's filtered level becomes inactive, and the AUTO release time starts. Operands: the trip input. -/
  | tripInactive (k : Fin 8)
  /-- TRIP_CLEAR (R244): A CLEAR clears the latch if the filtered level is inactive, and is otherwise refused and counted. Operands: the session and the trip input. -/
  | tripClear (who : Fin 36) (k : Fin 8)
  /-- TRIP_AUTO_RELEASE (R244): An AUTO latch clears after RELEASE of inactive level. Operands: the trip input. -/
  | tripAutoRelease (k : Fin 8)
  /-- TRIP_SAFE_SAMPLE (R245): While TB is stopped, 4 active SAFE samples set the trip latch. Operands: the trip input, active for 4 SAFE cycles. -/
  | tripSafeSample (k : Fin 8)
  /-- OWN_WRITE (R247): OWN is written; the output stage takes levels 5–7 from the generator and the watchdog stops. Operands: whether an expiry of the watchdog falls in the same AO tick. -/
  | ownWrite (expiry : Bool)
  /-- WD_EXPIRED (R247): HOLD_MS elapses; non-halter outputs and gates go to their safe state. -/
  | wdExpired
  /-- WD_SUSPEND_WRITE (R247): The hold-over watchdog is suspended or resumed in an authorised debug session. Operands: the session and the value. -/
  | wdSuspendWrite (who : Fin 36) (b : Bool)
  /-- CURRENT_SAMPLE (R256): A channel current is sampled and tested for overcurrent, open load and segment share. Operands: the channel, its reading in 2.5 mA, its segments' currents, the partner's reading of a pair-wired channel, and the feed's voltage in mV after its filter. -/
  | currentSample (ch : Fin 96) (code : BitVec 12) (segs : SegCur) (partner : BitVec 12) (mv : Nat)
  /-- OL_UNKNOWN (R260): A channel has been on for 100 ms with no qualifying sample. Operands: the channel. -/
  | olUnknown (ch : Fin 96)
  /-- SHORT_TRIP (R257): The short comparator turns the channel off within 5 µs and schedules a retry or sets SHORT_LATCH. Operands: the channel. -/
  | shortTrip (ch : Fin 96)
  /-- RETRY (R258): A retry gap ends, and the channel takes the value of the highest active level. Operands: the channel. -/
  | retry (ch : Fin 96)
  /-- RETRY_WINDOW_END (R258): The retry window elapses, and the count of retries used resets. Operands: the channel. -/
  | retryWindowEnd (ch : Fin 96)
  /-- THERMAL_OFF (R257): The junction reaches 175 °C; the channel turns off, and the 8th shutdown in 10 s sets THERM_LATCH. Operands: the channel. -/
  | thermalOff (ch : Fin 96)
  /-- THERMAL_ON (R257): The junction falls to 160 °C, and the channel may turn on again. Operands: the channel. -/
  | thermalOn (ch : Fin 96)
  /-- CLUSTER_WARN (R258): The cluster reaches 140 °C, and pending retries pause. Operands: the cluster and its temperature in °C. -/
  | clusterWarn (c : Fin 12) (temp : BitVec 9)
  /-- CLUSTER_WARN_CLEAR (R258): The cluster falls below 137 °C, and paused retries resume. Operands: the cluster and its temperature in °C. -/
  | clusterWarnClear (c : Fin 12) (temp : BitVec 9)
  /-- CLAMP_EVENT (R261): A turn-off clamp ends; its energy is estimated, added to the sum, and CLAMP_LOCK may set. Operands: the channel, the current in mA at the turn-off tick, the clamp time in ticks, the feed voltage in mV. -/
  | clampEvent (ch : Fin 96) (i0 tcl vf : Nat)
  /-- CHANNEL_CLEAR (R259): A CLEAR write clears the channel latches whose cause has gone, and refusals are counted. Operands: the session, the channel, and whether its junction is below 160 °C. -/
  | channelClear (who : Fin 36) (ch : Fin 96)
  /-- LATCH_AUTO_CLEAR (R259): Under CMD_OFF a latch clears once the command has been off for 100 ms and its condition holds. Operands: the channel and whether its junction is below 160 °C. -/
  | latchAutoClear (ch : Fin 96)
  /-- FEED_UV (R264): A feed stays below UV_THR for UV_T; every channel of the feed turns off. Operands: the feed. -/
  | feedUv (f : Fin 6)
  /-- FEED_RESTART (R264): The feed stays above the hysteresis for RESTART_T, and the lower cluster restarts. Operands: the feed. -/
  | feedRestart (f : Fin 6)
  /-- FEED_RESTART_SECOND (R264): The other cluster of the feed restarts 2 ms later. Operands: the feed. -/
  | feedRestartSecond (f : Fin 6)
  /-- FEED_OVERLOAD (R255): The 1 s mean current of a feed or of the module exceeds its limit. Operands: the feed, none for the module, and the mean current over 1 s in mA. -/
  | feedOverload (f : Option (Fin 6))
  /-- SEGMENT_STUCK_CHECK (R420): Every 100 ms an off channel is checked for a conducting segment, which sets STUCK_ON. Operands: the channel and the segment that conducts. -/
  | segmentStuckCheck (ch : Fin 96) (seg : Option (Fin 4))
  /-- PAIR_WIRED_UPDATE (R266): A pair-wired change arrives over PL and takes effect at its tick or on arrival. Operands: the channel, the driving module's stride gate, force and active DUTY and PHASE, and the tick of the change. -/
  | pairWiredUpdate (ch : Fin 96) (gate : Bool) (force : Fin 4) (duty phase : Nat) (tick : Nat)
  /-- HB_DESAT (R257): Gate driver desaturation turns both gates off and sets the DESAT latch. Operands: the half-bridge. -/
  | hbDesat (m : Fin 4)
  /-- HB_DRV_UV (R257): The gate driver supply falls below its limit, and both gates turn off. Operands: the half-bridge. -/
  | hbDrvUv (m : Fin 4)
  /-- HB_DRV_UV_RELEASE (R257): The gate driver supply returns, and the gates are released. Operands: the half-bridge. -/
  | hbDrvUvRelease (m : Fin 4)
  /-- HB_CLEAR (R259): The DESAT latch is cleared. Operands: the session and the half-bridge. -/
  | hbClear (who : Fin 36) (m : Fin 4)
  /-- HALTER_INPUT (R270): A halter input level is accepted after DEB, and mapped channels and ARMED follow. Operands: the input and its accepted level. -/
  | halterInput (i : Fin 8) (active : Bool)
  /-- HALTER_EN_ACTIVE (R269): HALTER_EN is accepted active, and halter mode is entered if the core is not alive. -/
  | halterEnActive
  /-- CORE_NOT_ALIVE (R269): OWN has not been renewed within 20 ms, or PD1 or PD10 stops. -/
  | coreNotAlive
  /-- HALTER_EN_INACTIVE (R271): HALTER_EN is accepted inactive; halter mode ends and channels take the highest active level. -/
  | halterEnInactive
  /-- HALTER_PULSE (R270): A PULSE channel's on-time or period ends in AO ticks. Operands: the channel. -/
  | halterPulse (ch : Fin 96)
  /-- HALTER_STUCK (R270): An input is active longer than STUCK_LIM; its channels turn off and it disarms. Operands: the input. -/
  | halterStuck (i : Fin 8)
  /-- LOOP_STEP (R283): A due loop computes its nodes, selects its curb winner and writes duty to its actuator. Operands: the loop, and whether the spare lane's recomputation of its lane differs in this cycle. -/
  | loopStep (n : Fin 64) (mis : Bool)
  /-- LOOP_LATE (R280): A step has not finished by B + 30,000 and is abandoned; 10 in a row put the loop in FAULT. Operands: the loop. -/
  | loopLate (n : Fin 64)
  /-- LOOP_HOLD_TIMEOUT (R287): HOLD has lasted FB_TMO, and the loop enters FAULT. Operands: the loop. -/
  | loopHoldTimeout (n : Fin 64)
  /-- LOOP_AUTO (R285): CMD AUTO moves a loop to RUN or clears FAULT. Operands: the session and the loop. -/
  | loopAuto (who : Fin 36) (n : Fin 64)
  /-- LOOP_MANUAL (R285): CMD MANUAL moves a loop to MANUAL. Operands: the session and the loop. -/
  | loopManual (who : Fin 36) (n : Fin 64)
  /-- CURB_AUTO (R291): A curb group leaves MANUAL as a group. Operands: the session and the curb group. -/
  | curbAuto (who : Fin 36) (k : Fin 16)
  /-- CURB_MANUAL (R291): A curb group enters MANUAL as a group. Operands: the session and the curb group. -/
  | curbManual (who : Fin 36) (k : Fin 16)
  /-- TRACE_ARM (R294): Trace recording starts in RING or ONE_SHOT mode. Operands: the session. -/
  | traceArm (who : Fin 36)
  /-- TRACE_STOP (R294): Trace recording stops. Operands: the session. -/
  | traceStop (who : Fin 36)
  /-- TRACE_FORCE (R294): The trace is triggered now. Operands: the session. -/
  | traceForce (who : Fin 36)
  /-- INJ_START (R296): An injection starts, or is refused with its cause. Operands: the session. -/
  | injStart (who : Fin 36)
  /-- INJ_STOP (R297): A running injection is stopped and ends ABORTED. Operands: the session. -/
  | injStop (who : Fin 36)
  /-- INJ_DURATION_END (R297): DUR elapses, and the injection ends DONE. -/
  | injDurationEnd
  /-- CAN_FRAME (R313): A completed frame enters the controller's queue with its stamp, or is lost when the queue is full. Operands: the controller, the frame of another node, the stamp of its start-of-frame edge. -/
  | canFrame (ctrl : Fin 4) (f : CanFr) (sof : Nat)
  /-- CAN_QUEUE_DRAIN (R313): The bus sequencer takes a queued entry, runs the filter program, writes the ring and makes deliveries and map actions. Operands: the controller; the freshness value for which the frame's tag is right, if any. -/
  | canQueueDrain (ctrl : Fin 4) (tagF : Option Nat)
  /-- CAN_ERROR (R310): A bus error is counted and recorded, with bus-off and NO_PEER handling. Operands: the controller; the error code of R314; whether the module was transmitter; whether a dominant bit was seen in its passive error flag; what ISO 11898-1 adds to the count. -/
  | canError (ctrl : Fin 4) (code : Fin 6) (tx dom : Bool) (step : Fin 9)
  /-- BUS_OFF_RECOVERY (R310): 128 occurrences of 11 recessive bits complete, and the controller leaves bus-off. Operands: the controller. -/
  | busOffRecovery (ctrl : Fin 4)
  /-- CAN_RECOVER (R310): The RECOVER command starts bus-off recovery. Operands: the session and the controller. -/
  | canRecover (who : Fin 36) (ctrl : Fin 4)
  /-- CAN_MODE_WRITE (R305): A controller mode change is requested. Operands: the session, the controller, the mode. -/
  | canModeWrite (who : Fin 36) (ctrl : Fin 4) (mode : Fin 4)
  /-- CAN_MODE_APPLY (R305): The mode change takes effect at bus idle, and slots end with SLEEP where required. Operands: the controller. -/
  | canModeApply (ctrl : Fin 4)
  /-- SLOT_ARM (R320): The slot shadows are copied into the active slot and armed, or held during an attempt. Operands: the session, none for the firmware. -/
  | slotArm (who : Option (Fin 36)) (ctrl : Fin 4) (slot : Fin 128)
  /-- SLOT_ABORT (R322): A slot is ended, or the current attempt is allowed to finish. Operands: the session, none for the firmware. -/
  | slotAbort (who : Option (Fin 36)) (ctrl : Fin 4) (slot : Fin 128)
  /-- START_OPPORTUNITY (R321): At a start opportunity the due slot with the winning arbitration field starts, and expired slots end LATE. Operands: the controller; ticks to the first quantum boundary. -/
  | startOpportunity (ctrl : Fin 4) (q : Nat)
  /-- CAN_TX_END (R322): A transmission attempt ends; the slot succeeds, retries, fails, or re-arms periodically. Operands: the controller; how the attempt ends; the loop delay measured in it. -/
  | canTxEnd (ctrl : Fin 4) (res : TxEnd) (tdcv : Option Nat)
  /-- ADDRESS_CLAIM (R326): The ISOBUS role holder claims its preferred address. Operands: the controller. -/
  | addressClaim (ctrl : Fin 4)
  /-- CLAIM_QUIET_END (R326): The 250 ms of silence after the claim ends, and ISOBUS traffic may start. Operands: the controller. -/
  | claimQuietEnd (ctrl : Fin 4)
  /-- ADDRESS_CLAIMED_RECEIVED (R326): A competing claim is received; the address is lost to a higher-priority NAME and a new address is claimed or cannot claim is sent. Operands: the controller; the address and NAME claimed. -/
  | addressClaimedReceived (ctrl : Fin 4) (addr : Fin 256) (name : Nat)
  /-- REQUEST_ADDRESS_CLAIMED (R325): A request for address claimed is answered. Operands: the controller. -/
  | requestAddressClaimed (ctrl : Fin 4)
  /-- COMMANDED_ADDRESS (R325): A commanded address message is handled. Operands: the controller; NAME and address commanded. -/
  | commandedAddress (ctrl : Fin 4) (name : Nat) (addr : Fin 254)
  /-- DM3_CLEAR (R325): DM3 clears the previously active diagnostic codes. Operands: the controller. -/
  | dm3Clear (ctrl : Fin 4)
  /-- DM11_CLEAR (R325): DM11 clears the diagnostic codes without touching the stud book. Operands: the controller. -/
  | dm11Clear (ctrl : Fin 4)
  /-- ISO_TRANSPORT (R325): ISO 11783-3 transport session messages are reassembled and passed on by their first byte. Operands: the controller, the peer, the direction, broadcast or connection, the parameter group, what the message brings, the freshness value whose tag it carries where it is complete. -/
  | isoTransport (ctrl : Fin 4) (peer : Fin 256) (out bam : Bool) (pgn : Nat) (part : TpPart) (tagF : Option Nat)
  /-- LINK_FRAME (R334): A link frame is accepted and acknowledged, or discarded with a NAK. Operands: the link, the header of the frame, whether its CRC is good. -/
  | linkFrame (n : Fin 5) (f : LFrame) (crcOk : Bool)
  /-- LC_FRAME (R333): A link control frame returns credits, acknowledgements or a NAK. Operands: the link and the control message. -/
  | lcFrame (n : Fin 5) (m : LcMsg)
  /-- LINK_ACK_TIMEOUT (R334): A frame is not acknowledged within 10 µs and is sent again with all later frames of its class. Operands: the link and the class. -/
  | linkAckTimeout (n : Fin 5) (cls : Fin 6)
  /-- LINK_DOWN (R336): A link is declared DOWN, and traffic reroutes within 20 µs. Operands: the link. -/
  | linkDown (n : Fin 5)
  /-- LINK_TRAINING (R336): A DOWN link starts training every 1 ms. Operands: the link. -/
  | linkTraining (n : Fin 5)
  /-- LINK_UP (R336): After 1 ms of error-free alignment and a HELLO exchange, the link is UP. Operands: the link and the module at its far end. -/
  | linkUp (n : Fin 5) (peer : Fin 64)
  /-- HELLO_SEND (R339): A HELLO is sent on every UP link every 100 µs. -/
  | helloSend
  /-- HELLO (R339): A received HELLO is flooded and admits, refuses or merges modules and parts of the team. Operands: the link it arrives on. -/
  | hello (n : Fin 5) (h : Hello)
  /-- DISCOVERY_END (R339): Discovery ends when every planned module is heard or after 500 ms; the team forms and TB steps. -/
  | discoveryEnd
  /-- LEADER_BEAT_SEND (R340): The leader sends a beat over TC0 every 1 ms. -/
  | leaderBeatSend
  /-- LEADER_BEAT (R340): A member receives the leader's beat. Operands: the leader that sends it, its term and members. -/
  | leaderBeat (m : Fin 64) (term : Fin 65536) (members : List (Fin 64))
  /-- LEADER_LOST (R341): No beat for 5 ms; the members elect a new leader with a majority, or become ISOLATED. -/
  | leaderLost
  /-- ROLE_MOVE_APPLY (R342): A lost role moves to the next candidate at the named boundary. Operands: the role (0 pose solver, 1 time master, 2 ISOBUS) and the position that takes it. -/
  | roleMoveApply (role : Fin 3) (pos : Fin 32)
  /-- ROUTING_TABLE (R343): A member receives a new routing table. Operands: this member's part of the table. -/
  | routingTable (t : RouteTab)
  /-- ROUTING_TABLE_APPLY (R343): The routing table is applied at the named boundary. -/
  | routingTableApply
  /-- TIME_SYNC_REQUEST (R346): Every 1 ms the child end sends a timing request stamped t1. Operands: the link; 1/32 ticks of the departure beyond TB. -/
  | timeSyncRequest (n : Fin 5) (frac : Fin 32)
  /-- TIME_SYNC_REQUEST_RX (R346): The parent stamps t2 and replies at t3. Operands: the link; 1/32 ticks of the arrival beyond TB; 1/32 ticks from arrival to the reply's departure. -/
  | timeSyncRequestRx (n : Fin 5) (frac : Fin 32) (turn : Nat)
  /-- TIME_SYNC_REPLY (R346): The child computes delay and offset, trims TB, and checks ALIGNED. Operands: the link; 1/32 ticks of the arrival beyond TB; the parent's stamps and its CLK_OFS. -/
  | timeSyncReply (n : Fin 5) (frac : Fin 32) (t2 t3 : Nat) (ofs : Int)
  /-- TB_SLEW_DONE (R348): A joiner slowed by 500 ppm becomes aligned and is admitted. -/
  | tbSlewDone
  /-- SHADOW_STATE (R350): The partner receives a complete shadow state and acknowledges it, or rejects it with SHADOW_BAD. Operands: the state and whether its check holds. -/
  | shadowState (sh : Shadow) (ok : Bool)
  /-- PL_HEARTBEAT_SEND (R351): A heartbeat ordered set is sent on PL every 2 µs. -/
  | plHeartbeatSend
  /-- PL_HEARTBEAT (R351): A partner heartbeat arrives; with HEALTHY clear the partner is lost at once. Operands: its count and bits, and the boundary H named with HANDOVER. -/
  | plHeartbeat (cnt : Fin 16) (driving healthy : Bool) (handover : Option Nat)
  /-- PARTNER_LOST (R352): No valid heartbeat for 6.5 µs; the shadowing module starts a takeover. -/
  | partnerLost
  /-- TAKEOVER_COMPLETE (R352): At T the survivor drives, with DRIVE_CLAIM sent and gates caught up from the shadow. -/
  | takeoverComplete
  /-- DRIVE_CLAIM (R353): A DRIVE_CLAIM arrives; members reroute, and a driving module of that position yields. Operands: the module that claims and its tick. -/
  | driveClaim (m : Fin 64) (T : Nat)
  /-- POSITION_SAFE (R355): POSITION_SAFE arrives, and the roles of the position pass on. Operands: the position. -/
  | positionSafe (pos : Fin 32)
  /-- PARTNER_ABSENT_REPORT (R353): The leader reports the partner absent; the driving module sends its held strips and becomes ALONE. -/
  | partnerAbsentReport
  /-- PAIR_UNRESOLVED (R353): A PL split is unresolved after 100 ms; driving continues and held strips beyond 4,096 become COMMIT_GAP. -/
  | pairUnresolved
  /-- HANDOVER (R354): The driving module sets HANDOVER with a boundary H, or the command is refused. Operands: the session. -/
  | handover (who : Fin 36)
  /-- HANDOVER_APPLY (R354): At H the partner takes over with T = H. -/
  | handoverApply
  /-- SAFETY_EVALUATION (R366): Every 1 ms the island evaluates inputs, switches, connections and self-tests, and opens or closes each SOx. Operands: the two contacts of each sealed switch; the readbacks of SO1 to SO4; load nodes seen shorted; the level of SRST; a detection of the island's self-tests; its rail in mV and its junction in °C (R360). -/
  | safetyEvaluation (no nc : BitVec 16) (rbH rbL short : BitVec 4) (srst selfBad : Bool) (mv temp : Int)
  /-- ISLAND_HEARTBEAT_LOSS (R360): The island heartbeat is missing for 3 ms, and the AO supervisor resets the island. -/
  | islandHeartbeatLoss
  /-- SI_CHANNEL_ACCEPTED (R363): A safety channel's new level has held for FILT and is accepted. Operands: SI1A, SI1B to SI4B in order, 8 SRST; the level accepted. -/
  | siChannelAccepted (ch : Fin 9) (high : Bool)
  /-- TEST_PULSE (R364): A TPA or TPB test pulse checks channel response, cross shorts and driver readback. Operands: driver TPB; it reads back high while driven low; inputs whose channel on this driver does not read low; inputs whose channel on the other driver reads low. -/
  | testPulse (b stuck : Bool) (own cross : BitVec 4)
  /-- DISCREPANCY (R365): The two channels of an input are not consistent within DISC, and the input is faulted. Operands: the input. -/
  | discrepancy (x : Fin 4)
  /-- SO_OFF_PULSE_TEST (R367): Every T_TEST a closed SOx switch is pulsed off, and its readback is checked. Operands: the output, its low-side switch, whether the readback shows the switch open in time. -/
  | soOffPulseTest (x : Fin 4) (low ok : Bool)
  /-- SO_PRECLOSE_TEST (R367): Before the first closure each switch of an open SOx is closed alone for a readback test. Operands: the output, whether each readback shows its switch closed and open again in time. -/
  | soPrecloseTest (x : Fin 4) (ok : Bool)
  /-- SO_STUCK (R368): A switch of an open SOx reads closed for 10 ms, setting OUT_FAULT. Operands: the output. -/
  | soStuck (x : Fin 4)
  /-- SO_OPEN_FAIL (R368): A switch of a closed SOx reads open for 10 ms, setting OUT_FAULT. Operands: the output. -/
  | soOpenFail (x : Fin 4)
  /-- SRST_EDGE (R370): A valid SRST edge closes every MANUAL SOx whose conditions hold. -/
  | srstEdge
  /-- SRST_STUCK (R370): SRST is active longer than 5 s and never restarts anything. -/
  | srstStuck
  /-- SO_AUTO_RESTART (R369): An AUTOMATIC SOx closes after its conditions have held for 500 ms. Operands: the output. -/
  | soAutoRestart (x : Fin 4)
  /-- SAFETY_PDU_SEND (R375): A producer sends a PDU every PERIOD and at each change of its data. Operands: the connection. -/
  | safetyPduSend (n : Fin 64)
  /-- SAFETY_PDU (R377): A consumer checks VER, CHK and SEQ, accepts or discards the PDU and updates the connection state. Operands: the controller it arrives over, none: TC2; the sending module, or the frame's identifier; CONN, VER, SEQ, SIG, STAT and CHK (R376). -/
  | safetyPdu (ctrl : Option (Fin 4)) (src : Nat) (conn ver : Fin 256) (seq : Fin 65536) (sig stat : BitVec 8) (chk : BitVec 32)
  /-- CONN_TIMEOUT (R378): WDT passes with no accepted PDU, and the connection enters TIMEOUT. Operands: the connection. -/
  | connTimeout (n : Fin 64)
  /-- TLS_HANDSHAKE (R391): A TLS 1.3 session with a client certificate is opened or refused. Operands: what the client presents. -/
  | tlsHandshake (c : Cred)
  /-- TLS_IDLE_TIMEOUT (R391): A session closes after 300 s without a request, with the effects of a session end. Operands: the session. -/
  | tlsIdleTimeout (k : Fin 4)
  /-- TLS_LIFETIME_END (R391): A session closes after 24 h. Operands: the session. -/
  | tlsLifetimeEnd (k : Fin 4)
  /-- TLS_KEY_UPDATE (R391): The session updates its keys after 2^24 records in a direction. Operands: the session and the direction. -/
  | tlsKeyUpdate (k : Fin 4) (rx : Bool)
  /-- RAP_SESSION (R392): A CAN session handshake message of the SESSION kind derives CMAC keys for the peer. Operands: the controller, the peer and its message. -/
  | rapSession (ctrl : Fin 4) (addr : Fin 256) (m : SessMsg)
  /-- CAN_SESSION_REKEY (R394): A freshness value reaches 2^31, so a new handshake starts and the old keys stop at 2^31 + 2^20. Operands: the session. -/
  | canSessionRekey (who : Fin 36)
  /-- TT_HWM_STORE (R393): TT_HWM is stored in eMMC every 60 s. -/
  | ttHwmStore
  /-- ENROLL_OWNER (R387): An owner is enrolled with a claim permit, and livery 0 is created. Operands: the session. -/
  | enrollOwner (who : Fin 36)
  /-- BIND_LIVERY (R399): A signed binding is installed, and the LMK is wrapped or rotated. Operands: the session. -/
  | bindLivery (who : Fin 36)
  /-- SELECT_LIVERY (R398): A livery is selected. Operands: the session. -/
  | selectLivery (who : Fin 36)
  /-- INSTALL_LEASE (R402): A hire lease is installed, or refused with NO_SLOT. Operands: the session. -/
  | installLease (who : Fin 36)
  /-- REVOKE_LEASE (R403): A lease is revoked by an owner-signed revocation. Operands: the session. -/
  | revokeLease (who : Fin 36)
  /-- CLOSE_LEASE (R404): A lease is closed, and its signed summary is made. Operands: the session. -/
  | closeLease (who : Fin 36)
  /-- LEASE_EXPIRY (R403): The check time reaches TO; the lease expires and a running job is suspended. Operands: the lease. -/
  | leaseExpiry (m : Fin 8)
  /-- TRANSFER (R400): An ownership transfer order is checked, and the leader names its boundary. Operands: the session. -/
  | transfer (who : Fin 36)
  /-- TRANSFER_APPLY (R400): At the named boundary KEEP replaces the owner root, or RELEASE erases the LMK wraps. -/
  | transferApply
  /-- RECLAIM (R401): A reclaim permit releases every livery of the named modules. Operands: the session. -/
  | reclaim (who : Fin 36)
  /-- UNLOCK (R409): Debug unlock erases the LMK wraps, clears SRAM, burns an unlock bit and grants DEBUG. Operands: the session. -/
  | unlock (who : Fin 36)
  /-- RELOCK (R409): A relock is requested for the next restart. Operands: the session. -/
  | relock (who : Fin 36)
  /-- UNLOCK_EXPIRY (R409): The UNLOCKED state ends after 24 h. -/
  | unlockExpiry
  /-- TSK_ROTATION (R396): The leader makes a new team session key every 24 h and wraps it to each member. -/
  | tskRotation
  /-- BRD_CHAL_READ (R413): A read of BRD_CHAL returns the unlock challenge and renews it. Operands: the session. -/
  | brdChalRead (who : Fin 36)
  /-- STB_CHAL_READ (R442): A read of STB_CHAL returns the clear challenge and renews it. Operands: the session that reads. -/
  | stbChalRead (who : Fin 36)
  /-- LANE_SLICE (R420): Each second the lane due for recomputation is swapped out for LBIST. Operands: the engine, false Stride lanes, true loop lanes. -/
  | laneSlice (loop : Bool)
  /-- LANE_SLICE_RESULT (R420): The lane's LBIST signature is judged; the lane becomes the spare, is tested again, or is retired. Operands: the engine, whether the signature holds, the signature, and the result of a RETEST that waits for the slice. -/
  | laneSliceResult (loop ok : Bool) (sig : Word) (w : Test2)
  /-- NAV_CORE_SLICE (R420): Every 10 s one navigation core runs LBIST while 7 carry the work. Operands: the core and its test. -/
  | navCoreSlice (core : Fin 8) (t : Test2)
  /-- ACQ_TILE_SLICE (R420): An acquisition tile is swapped out between rounds and tested with one dwell. Operands: the tile and its test. -/
  | acqTileSlice (tile : Fin 18) (t : Test2)
  /-- TRK_BANK_SLICE (R420): A tracking bank is swapped to the spare and tested. Operands: the bank of channels and the test of the tracking bank it frees. -/
  | trkBankSlice (bank : Fin 12) (t : Test2)
  /-- SRAM_ROW_TEST (R420): Every 1 ms a transparent March C− test runs on one row of each macro. Operands: the macro, its row and the test. -/
  | sramRowTest (m : Fin 48) (row : Fin 512) (t : Test2)
  /-- DRAM_PAGE_TEST (R420): A free DRAM page is tested in the farrier's slots. Operands: the page, the DRAM bank and row it lies in, and the test. -/
  | dramPageTest (page bank row : Nat) (t : Test2)
  /-- CUR_ADC_REFERENCE (R423): The reference conversion of a current converter is judged every 250 µs. Operands: the cluster and the code of its reference conversion. -/
  | curAdcReference (c : Fin 12) (code : BitVec 12)
  /-- AIN_RESAMPLE (R423): The second converter resamples one AIN channel per cycle and compares it with the main sample. Operands: the input and the second converter's code. -/
  | ainResample (n : Fin 16) (code : BitVec 16)
  /-- RETEST (R427): A retired unit is tested and restored after 3 consecutive passes. Operands: the session, the unit and the test. -/
  | retest (who : Fin 36) (kind : Fin 16) (index : Fin 512) (t : Test2)
  /-- FARRIER_PAUSE (R430): In-service slices pause. Operands: the session. -/
  | farrierPause (who : Fin 36)
  /-- FARRIER_RESUME (R430): In-service slices resume. Operands: the session. -/
  | farrierResume (who : Fin 36)
  /-- RECORD_WRITE (R435): Raised records reach eMMC and NOR within their time by severity, with overwrite by R436. -/
  | recordWrite
  /-- DROPPED_RECORD (R436): Once per second with drops, a DROPPED record is raised. -/
  | droppedRecord
  /-- TB_MARK (R440): A TB_MARK record is raised every 60 s of operating time. -/
  | tbMark
  /-- OPT_SAVE (R433): OPT is saved to NOR every 10 s of operating time. -/
  | optSave
  /-- FREEZE (R437): Writing to the eMMC log stops and records are held, or the request is refused with BUSY. Operands: the session that gives it. -/
  | freeze (who : Fin 36)
  /-- UNFREEZE (R437): The freeze ends; held records enter the log and a FREEZE record is written. Operands: the session that gives it. -/
  | unfreeze (who : Fin 36)
  /-- FREEZE_TIMEOUT (R437): The freeze ends 10 s after it began. -/
  | freezeTimeout
  /-- STB_CLEAR (R442): Records in the severity mask are removed under a permit, and CLEARED is written. Operands: the session, the severity mask and the permit staged with it. -/
  | stbClear (who : Fin 36) (mask : Nat) (p : ClearPermit)
  /-- STB_EXPORT (R439): A signed export of the selected records is built. Operands: the session and the severity mask. -/
  | stbExport (who : Fin 36) (mask : Nat)
  /-- COLLECT (R439): The leader gathers the members' signed exports over TC5. Operands: the session and the severity mask. -/
  | collect (who : Fin 36) (mask : Nat)
  /-- COLLECT_ANSWER (R439): The leader receives and joins a member's signed export. Operands: the member, its device serial, the first and last SEQ of its export and its bytes. -/
  | collectAnswer (m : Fin 64) (serial first last bytes : Nat)
  /-- COLLECT_TIMEOUT (R439): A member has not answered within 10 s and is recorded as missing. Operands: the member that has not answered. -/
  | collectTimeout (m : Fin 64)
  /-- FAULT_REPORT (R447): The fault manager queues a report and handles it by class, with escalation and resets. -/
  | faultReport
  /-- FM_HEARTBEAT_LOSS (R449): The fault manager heartbeat is missing for 30 ms, and the AO supervisor orders a class-5 reset. -/
  | fmHeartbeatLoss
  /-- DOMAIN_BACK (R451): A reset domain is back in service within its time. Operands: the domain, 12 CORE or 13 MODULE, and what its start-up tests find. -/
  | domainBack (k : Fin 14) (f : FarRun)
  /-- DOMAIN_LOST (R454): A domain is not back within its time, or a working-set item is lost. Operands: the domain. -/
  | domainLost (k : Fin 12)
  /-- EMMC_LIFE_CHECK (R459): Every 24 h and at power-up the eMMC life estimates are read, and EMMC_WEAR is raised. Operands: the life estimates and the pre-EOL information. -/
  | emmcLifeCheck (a b : Fin 16) (eol : Fin 4)
  /-- RAP_READ (R481): Up to 64 registers are read in rising address order under the access checks. Operands: the session, the member addressed (none: this module), the tag, the first address, and the number of registers less one. -/
  | rapRead (who : Fin 36) (peer : Option (Fin 64)) (tag : Fin 256) (addr : Nat) (n : Fin 64)
  /-- RAP_WRITE (R481): Registers without behaviour of their own are written in rising address order under the access checks. Operands: the same with the words. -/
  | rapWrite (who : Fin 36) (peer : Option (Fin 64)) (tag : Fin 256) (addr : Nat) (ws : List Word)
  /-- READ_LO_LATCH (R479): A read of a LO register latches its HI value for the session. Operands: the session and the address of the LO register. -/
  | readLoLatch (who : Fin 36) (addr : Nat)
  /-- BLK_OPEN (R485): A handle is opened on a block object. Operands: the object, the direction, PARAM and LENGTH. -/
  | blkOpen (who : Fin 36) (peer : Option (Fin 64)) (tag : Fin 256) (obj : Fin 256) (write : Bool) (param len : Nat)
  /-- BLK_DATA (R481): Block data is read from or written to an open object. Operands: the handle, OFFSET, LEN less one, and the bytes of a write. -/
  | blkData (who : Fin 36) (peer : Option (Fin 64)) (tag : Fin 256) (h : Fin 256) (off : Nat) (len : Fin 1024) (bytes : List Byte)
  /-- BLK_CLOSE (R485): A handle is closed, and the written object is checked or taken. Operands: the handle, and what the bytes written through it hold. -/
  | blkClose (who : Fin 36) (peer : Option (Fin 64)) (tag : Fin 256) (h : Fin 256) (body : BlkBody)
  /-- RAP_RELAY_REQUEST (R483): A relayed request arrives over TC4 and is handled under the originating role. Operands: the relaying member, its session, tag and role, a contractor's lease, and the request. -/
  | rapRelayRequest (src : Fin 64) (sess : Fin 36) (tag : Fin 256) (role : Role) (lease : Option (Fin 8)) (q : RapReq)
  /-- RAP_RELAY_RESPONSE (R483): A relayed response returns to the requester. Operands: the member that answers, the session and tag, the status and the data. -/
  | rapRelayResponse (src : Fin 64) (who : Fin 36) (tag : Fin 256) (st : RapStatus) (data : List Int)
  /-- RELAY_TIMEOUT (R483): No relayed response has come within 1 s, and RELAY_TIMEOUT is answered. Operands: the session and tag. -/
  | relayTimeout (who : Fin 36) (tag : Fin 256)
  /-- VLOG_LOW (R460): VLOG enters or leaves the 7.5–9 V band, which sets or clears VLOG_LOW and lifts the pace guarantee. Operands: VLOG in 0.1 V. -/
  | vlogLow (vlog : BitVec 10)
  /-- VLOG_HIGH (R460): VLOG enters or leaves the 32–36 V band, which sets or clears VLOG_HIGH. Operands: VLOG in 0.1 V. -/
  | vlogHigh (vlog : BitVec 10)
  /-- WIRE_BREAK_END (R81): A broken differential input returns to at least 100 mV; WIRE_BREAK clears and the 1 s wire-break condition for clearing CH_FAULT starts. Operands: the channel and its input. -/
  | wireBreakEnd (ch : Fin 16) (inp : Fin 3)
  /-- INERTIAL_SILENCE (R456): The inertial sensor has been silent for 100 ms, and a class-1 fault is raised while the pose continues from other sources. -/
  | inertialSilence
  /-- LATE_LIM_EXPIRY (R321): An armed slot's TX_TB + LATE_LIM passes with no start opportunity, as in LISTEN_ONLY or bus-off, and the slot ends LATE. Operands: the slot. -/
  | lateLimExpiry (ctrl : Fin 4) (slot : Fin 128)
  /-- TX_TB_REACHED (R310): A ONE_SHOT slot's attempt falls due while the controller is bus-off, and the slot ends with result BUS_OFF. Operands: the slot. -/
  | txTbReached (ctrl : Fin 4) (slot : Fin 128)
  /-- REKEY_TIMEOUT (R394): The new CAN session has not opened 10 s after the rekey began, and the old keys stop being used. Operands: the session. -/
  | rekeyTimeout (who : Fin 36)
  /-- PARTNER_ACK (R180): The driving module receives its partner's acknowledgement of a commit strip or a complete shadow state, and only then sends the strip over TC3. Operands: output and SEQ of the strip acknowledged, none for a complete state; whether the partner is SHADOW. -/
  | partnerAck (strip : Option (Fin 96 × Nat)) (shadow : Bool)
  /-- LEASE_FROM (R403): The check time reaches a lease's FROM while a contractor session under it is open, and the lease becomes ACTIVE. Operands: the lease. -/
  | leaseFrom (m : Fin 8)
  /-- TEAM_RESTART (R54): A member reaches the common TB boundary that the leader chose for a TEAM-class activation, and it restarts under the staged image. -/
  | teamRestart
  /-- TLS_ERROR (R391): A TLS record fails its protection or another TLS error occurs, and the session closes with all the effects of a session end. Operands: the session. -/
  | tlsError (k : Fin 4)
deriving DecidableEq, Repr, Inhabited

end Sys2Proof
end

