-- ==== Sys2Proof/Decode.lean ====
section
/-!
DEFINITION. Decode.lean: the command a word spells. spec/opcode_table.json gives no row any bits: a command is a happening or a message,
not a word.
-/

namespace Sys2Proof

/-- The command a word spells by the table's bits: no row has bits, so there is none. -/
def decodeTableWord (_nbits _w : Nat) : Option Instr := none

end Sys2Proof
end

