-- ==== Sys2Proof/Events.lean ====
section
/-!
DEFINITION. Events.lean: the names of the stud book events the rules raise (R431), and of the messages a module sends.
-/
namespace Sys2Proof

/-- The events of the record catalogue (R431, R488), by the name the raising rule gives. -/
inductive Ev where
  | ACQ_CAPACITY
  | ADC_FAIL
  | ADDR_LOST
  | AIN_CHECK
  | ALIGN_LOST
  | ANT_INCONSISTENT
  | ANT_OPEN
  | ANT_SHORT
  | ANT_SUSPECT
  | BROWNOUT
  | CAN_BUS_OFF
  | CAN_ERROR
  | CAN_WAKE
  | CAPACITY_LOST
  | CCD_FAULT
  | CH_FAULT
  | CIPHER_FAIL
  | CLAMP_LOCK
  | CLEARED
  | CLK_AO_LOSS
  | CLK_REF_LOSS
  | CLK_SAFE_LOSS
  | CLOCK_JUMP
  | CMP_HIT
  | COLLECT_MISSING
  | COMMIT_GAP
  | CONN_FAULT
  | CONN_STATE
  | CONN_TIMEOUT
  | CORE_DUAL_RAIL
  | COUNT_WRAP
  | COVERAGE_LOST
  | CROSS_SHORT
  | DATA_REFUSED
  | DEBUG_UNLOCK
  | DELAY_CLAMP
  | DIR_CHG
  | DISCREPANCY
  | DOMAIN_LOST
  | DOPPLER_FAULT
  | DROPPED
  | EDGE_FAULT
  | EMMC_WEAR
  | ESCALATED
  | EVQ_PARITY
  | FAR_RESTORED
  | FAR_TEST_FAIL
  | FEED_OVERLOAD
  | FEED_RESTART
  | FEED_UV
  | FIELD_MAP_LOST
  | FM_LOST
  | FORCE_RELEASE
  | FREEZE
  | FW_CONFIRMED
  | FW_FALLBACK
  | FW_TRIAL_FAIL
  | GAIT_LOW
  | GEOM_FALLBACK
  | GEOM_HELD
  | GEOM_INVALID
  | GEOM_PAIR_DIFF
  | GEOM_SECONDARY
  | GNSS_FALLBACK
  | HALTER_ENTRY
  | HALTER_EXIT
  | HALTER_STUCK
  | HB_DESAT
  | HB_DRV_UV
  | HOPS_EXCEEDED
  | ILLEGAL_FAULT
  | IMG_CHECKED
  | IMG_FALLBACK
  | IMG_SWAPPED
  | INDEX_MISSING
  | INDEX_TIMEOUT
  | INERTIAL_CRC
  | INERTIAL_FAULT
  | INJ_END
  | INJ_START
  | ISLAND_FAULT
  | JAM_DETECT
  | JOB_MISMATCH
  | JOB_STORE_FULL
  | LANE_MISMATCH
  | LANE_RETIRED
  | LEVEL_CHANGE
  | LINE_FAULT
  | LINK_STATE
  | LINK_RESEND
  | LIVERY_UNBOUND
  | LOOP_FAULT
  | LOOP_LANE_MISMATCH
  | LOOP_LATE
  | LOOP_NUM
  | LOOP_STATE
  | MAG_CENTRE
  | MEM_CORRECTED
  | MEM_DOUBLE
  | MEM_PARITY
  | MID_DUPLICATE
  | MODULE_OVERLOAD
  | NAV_CORE_FAIL
  | NAV_DATA_FAULT
  | NOTCH_OFF
  | NOTCH_ON
  | NO_PEER
  | OC_LATCH
  | OC_TRIP
  | OPEN_LOAD
  | PAIR_ALONE
  | PAIR_CODE_MISMATCH
  | PAIR_NOT_IN_PLAN
  | PAIR_SPLIT
  | PAIR_UNRESOLVED
  | PAIR_WIRE_MISMATCH
  | PLAN_MISMATCH
  | POLICY
  | POSE_INVALID
  | POSE_STALE
  | POSITION_MISSING
  | POS_NOT_IN_PLAN
  | POWER_UP
  | PRESENT_OFF
  | PRESENT_ON
  | PRESS_INVALID
  | RECOMPUTE_OFF
  | RECORD_CORRUPT
  | REPLICA_HOLE
  | RETRY
  | RETRY_PAUSED
  | RETRY_RESUMED
  | SAFE_LOCK
  | SAFETY_CRC
  | SEGMENT_UNTESTED
  | SEQUENCER_FAIL
  | SESSION_CLOSED
  | SESSION_OPEN
  | SESSION_REFUSED
  | SHADOW_BAD
  | SHAPE_DIFF
  | SHORT_LATCH
  | SHORT_TRIP
  | SHUNT_OPEN
  | SOURCE_CHANGE
  | SO_OPEN_FAIL
  | SO_SHORT
  | SO_STUCK
  | SO_TEST_FAIL
  | SPARE_LOST
  | SPOOF_CN0
  | SPOOF_DECLARED
  | SPOOF_GEOM
  | SQM_FAULT
  | SRST_STUCK
  | SSI_DISCARDED
  | STALL_SHORT
  | STRAP_CHANGED
  | STRAP_UNSTABLE
  | STRIDE_LATE
  | STRIDE_REDUCED
  | STRIDE_STALL
  | STUCK_ON
  | SUBSUMED
  | SUPPLY_FAULT
  | SW_CHANGED
  | SW_INVALID
  | TAKEOVER
  | TB_AHEAD
  | TB_MARK
  | TB_SLEW
  | TB_STEP
  | TEAM_FULL
  | THERMAL_OFF
  | THERM_LATCH
  | TILE_LOST
  | TLS_ERROR
  | TILE_RELOAD
  | TIME_SET
  | TOPO_MISMATCH
  | TP_DRIVER
  | TP_FAULT
  | TRANSFER
  | TRIP
  | VLOG_HIGH
  | VLOG_LOW
  | VLOG_OV
  | WD_EXPIRED
  | WD_SUSPEND
  | WIRE_BREAK
  | WRITE_DENIED
deriving DecidableEq, Repr, Inhabited

/-- Every event of the catalogue. -/
def evAll : List Ev := open Ev in List.flatten [
  [ACQ_CAPACITY, ADC_FAIL, ADDR_LOST, AIN_CHECK, ALIGN_LOST, ANT_INCONSISTENT, ANT_OPEN, ANT_SHORT, ANT_SUSPECT],
  [BROWNOUT, CAN_BUS_OFF, CAN_ERROR, CAN_WAKE, CAPACITY_LOST, CCD_FAULT, CH_FAULT, CIPHER_FAIL, CLAMP_LOCK],
  [CLEARED, CLK_AO_LOSS, CLK_REF_LOSS, CLK_SAFE_LOSS, CLOCK_JUMP, CMP_HIT, COLLECT_MISSING, COMMIT_GAP, CONN_FAULT],
  [CONN_STATE, CONN_TIMEOUT, CORE_DUAL_RAIL, COUNT_WRAP, COVERAGE_LOST, CROSS_SHORT, DATA_REFUSED, DEBUG_UNLOCK, DELAY_CLAMP],
  [DIR_CHG, DISCREPANCY, DOMAIN_LOST, DOPPLER_FAULT, DROPPED, EDGE_FAULT, EMMC_WEAR, ESCALATED, EVQ_PARITY],
  [FAR_RESTORED, FAR_TEST_FAIL, FEED_OVERLOAD, FEED_RESTART, FEED_UV, FIELD_MAP_LOST, FM_LOST, FORCE_RELEASE, FREEZE],
  [FW_CONFIRMED, FW_FALLBACK, FW_TRIAL_FAIL, GAIT_LOW, GEOM_FALLBACK, GEOM_HELD, GEOM_INVALID, GEOM_PAIR_DIFF, GEOM_SECONDARY],
  [GNSS_FALLBACK, HALTER_ENTRY, HALTER_EXIT, HALTER_STUCK, HB_DESAT, HB_DRV_UV, HOPS_EXCEEDED, ILLEGAL_FAULT, IMG_CHECKED],
  [IMG_FALLBACK, IMG_SWAPPED, INDEX_MISSING, INDEX_TIMEOUT, INERTIAL_CRC, INERTIAL_FAULT, INJ_END, INJ_START, ISLAND_FAULT],
  [JAM_DETECT, JOB_MISMATCH, JOB_STORE_FULL, LANE_MISMATCH, LANE_RETIRED, LEVEL_CHANGE, LINE_FAULT, LINK_STATE, LINK_RESEND],
  [LIVERY_UNBOUND, LOOP_FAULT, LOOP_LANE_MISMATCH, LOOP_LATE, LOOP_NUM, LOOP_STATE, MAG_CENTRE, MEM_CORRECTED, MEM_DOUBLE],
  [MEM_PARITY, MID_DUPLICATE, MODULE_OVERLOAD, NAV_CORE_FAIL, NAV_DATA_FAULT, NOTCH_OFF, NOTCH_ON, NO_PEER, OC_LATCH],
  [OC_TRIP, OPEN_LOAD, PAIR_ALONE, PAIR_CODE_MISMATCH, PAIR_NOT_IN_PLAN, PAIR_SPLIT, PAIR_UNRESOLVED, PAIR_WIRE_MISMATCH, PLAN_MISMATCH],
  [POLICY, POSE_INVALID, POSE_STALE, POSITION_MISSING, POS_NOT_IN_PLAN, POWER_UP, PRESENT_OFF, PRESENT_ON, PRESS_INVALID],
  [RECOMPUTE_OFF, RECORD_CORRUPT, REPLICA_HOLE, RETRY, RETRY_PAUSED, RETRY_RESUMED, SAFE_LOCK, SAFETY_CRC, SEGMENT_UNTESTED],
  [SEQUENCER_FAIL, SESSION_CLOSED, SESSION_OPEN, SESSION_REFUSED, SHADOW_BAD, SHAPE_DIFF, SHORT_LATCH, SHORT_TRIP, SHUNT_OPEN],
  [SOURCE_CHANGE, SO_OPEN_FAIL, SO_SHORT, SO_STUCK, SO_TEST_FAIL, SPARE_LOST, SPOOF_CN0, SPOOF_DECLARED, SPOOF_GEOM],
  [SQM_FAULT, SRST_STUCK, SSI_DISCARDED, STALL_SHORT, STRAP_CHANGED, STRAP_UNSTABLE, STRIDE_LATE, STRIDE_REDUCED, STRIDE_STALL],
  [STUCK_ON, SUBSUMED, SUPPLY_FAULT, SW_CHANGED, SW_INVALID, TAKEOVER, TB_AHEAD, TB_MARK, TB_SLEW],
  [TB_STEP, TEAM_FULL, THERMAL_OFF, THERM_LATCH, TILE_LOST, TLS_ERROR, TILE_RELOAD, TIME_SET, TOPO_MISMATCH],
  [TP_DRIVER, TP_FAULT, TRANSFER, TRIP, VLOG_HIGH, VLOG_LOW, VLOG_OV, WD_EXPIRED, WD_SUSPEND],
  [WIRE_BREAK, WRITE_DENIED]]

/-- The messages that leave the module: RAP answers, team messages over TC2 to TC5, PL messages, CAN messages, requests to units outside
the model. -/
inductive MsgKind where
  | ADDRESS_CLAIMED
  | CANNOT_CLAIM
  | CATCH_UP_RESTART
  | CATCH_UP_SEQ_TABLE
  | CATCH_UP_TILE
  | COLLECT
  | COMMIT_STRIP
  | DM1
  | DM_ACK
  | DRIVE_CLAIM
  | EXCL_ACK
  | EXCL_NAMED
  | EXCL_POLYGON
  | GNSS_RECORD
  | HELLO
  | JOB_COMMAND
  | JOB_DEFINITION
  | JOB_RUN
  | KEYOFF
  | KEYOFF_REPORT
  | LEADER_BEAT
  | LINK_CONTROL
  | LINK_FRAME
  | MODE_CHANGE
  | PARTNER_ABSENT
  | PATH_SWITCH
  | PL_ACK
  | PL_HEARTBEAT
  | PL_LOOP_STATE
  | PL_PLAN
  | PL_READING
  | PL_SHADOW
  | PL_STRIP
  | PL_WIRED
  | POSE_RECORD
  | POSITION_SAFE
  | PREPARE
  | PREPARE_ACK
  | RAP_ANSWER
  | RASTER_HASH
  | RELAY_DATA
  | RELAY_REQUEST
  | RELAY_RESPONSE
  | RESEND
  | ROLE_MOVE
  | ROUTING_TABLE
  | RTCM
  | SAFETY_PDU
  | SAFETY_PDU_CAN
  | SECTION_STATE
  | SESSION_ANSWER
  | SESSION_REFUSED
  | LMK_WRAP
  | SESSION_REKEY
  | STAGED_OK
  | SWAP_ABORT
  | TC_SETPOINT
  | TC_STATUS
  | TC_WORK_STATE
  | TEAM_IMAGE
  | TEAM_RESTART
  | TEAM_STATE_CHANGE
  | TILE_REQUEST
  | TIME_SYNC_REPLY
  | TIME_SYNC_REQUEST
  | TLS_KEY_UPDATE
  | TPO
  | TP_ABORT
  | TRANSFER
  | TSK_WRAP
  | TT_OFS
  | WAKE_BURST
deriving DecidableEq, Repr, Inhabited

end Sys2Proof
end

