-- ==== Sys2Proof/Config.lean ====
section
/-!
DEFINITION. Config.lean: what the running firmware and the device fix outside spec/, and the free values: each is a constant with no
body, so that nothing can be proved of its value (notes/assumptions/).
-/

namespace Sys2Proof.Config

/-- SRAM macros that hold the map cache, and those that hold the lane register files (R421); spec/ does not number them. -/
opaque cacheMacro : Nat → Bool
/-- See `cacheMacro`. -/
opaque laneMacro : Nat → Bool
/-- TYPE the running firmware's catalogue gives an event (R431, R488). Log 7: DESIGN CHOICE. -/
opaque evType : Ev → Nat
/-- Payload bytes the catalogue gives an event (R431, R488). Log 7: DESIGN CHOICE. -/
opaque evPlen : Ev → Nat
/-- Class the catalogue gives a fault event (R446, R488). Log 7: DESIGN CHOICE. Log 66: DESIGN CHOICE. -/
opaque evClass : Ev → Nat
/-- The entry of the catalogue for a TYPE (R488), as FLT_CAT shows it. Log 7: DESIGN CHOICE. -/
opaque fltCat : Nat → Word
/-- The free values, in the order in which they are used up. Log 8: DESIGN CHOICE. -/
opaque freeWord : Nat → Word
/-- Whether a division whose rounding spec/ does not state rounds up. Log 9: DESIGN CHOICE. -/
opaque roundUp : Int → Int → Bool
/-- One step of a first-order filter with a time constant in ms (R70): ticks since the last sample, previous output, input. Log 11: DESIGN CHOICE. -/
opaque filterStep : Nat → Nat → Int → Int → Int
/-- The physical value of an analog input's code (R70). Log 11: DESIGN CHOICE. -/
opaque ainScale : Nat → Nat → Int
/-- What a field of a number of bits shows of a value that does not fit it. Log 10: DESIGN CHOICE. -/
opaque unfit : Nat → Int → Nat
/-- The binary32 value CALIB gives an analog input's code (R282). Log 11: DESIGN CHOICE. -/
opaque ainCal : Nat → Nat → Word
/-- What a channel latches at an epoch where the command does not bring it (R120): tick and channel. Log 34: DEDUCED. -/
opaque latched : Nat → Nat → GMeas
/-- Sign and payload of the NaN an invalid binary32 operation gives. Log 12: DEDUCED. -/
opaque nanBits : Word → Word → Word
/-- One step of the first-order filter of a feedback (R282): TF_PV in ms, Ts in s, previous output, input. Log 11: DESIGN CHOICE. -/
opaque filterF : Nat → Word → Word → Word → Word
/-- The maximum-length sequence of a PRBS injection (R295): its order and the chip. Log 11: DESIGN CHOICE. -/
opaque prbs : Nat → Nat → Bool

/-- Where between 119 and 127 a REC above 127 falls back at a frame received (R310, ISO 11898-1). Log 47: DEDUCED. -/
opaque recBack : Nat → Nat
/-- The exponent of the default code of a team section mapped to NONE (R191, R193). Log 43: DEDUCED. -/
opaque noneExp : Nat → Int

/-- TT, in 156.25 ps, at which a version of the firmware was built (R458). Log 73: PRESUMED. -/
opaque fwBuild : Nat → Int

/-- SHA-256 over the tiles and layers a member rasterises from a job (R202). Log 28: DESIGN CHOICE. -/
opaque rasterHash : JobDef → Nat

/-- Payload bytes of the frame a team message travels in (R332). Log 28: DESIGN CHOICE. -/
opaque msgLen : MsgKind → List Int → Nat

/-- Whether the check value of a safety PDU takes the bits of a byte least significant first, and what is exclusive-ored onto the result: R376 gives
the polynomial, the initial value and what is covered. Log 54: DEDUCED. -/
opaque chkLow : Bool
opaque chkXor : BitVec 32

/-- Rate code, EXP + 3 and product unit of another position's output at a commit (R403): position, output, SEQ. Log 56: DEDUCED. -/
opaque stripRate : Nat → Nat → Nat → Nat × Nat × Nat

end Sys2Proof.Config
end

