-- ==== Sys2Proof/Machine/RegMap.lean ====
section
/-!
DEFINITION. Machine/RegMap.lean: the register map of the module, block by block, from the register tables of spec/
(R21, R60, R75, R104, R105, R128, R148, R181, R182, R207, R208, R227, R249 to R252, R274 to R276, R300 to R303, R329,
R330, R357, R358, R383, R384, R413, R414, R430, R445, R476, R486, R487): the address of each register, the place of each
field, the word each register holds at reset, and which of its bits RAP may write (R16).
-/

namespace Sys2Proof.Machine

/-- A field of a register: its lowest bit and its width. -/
structure Fld where
  lo : Nat
  w  : Nat
deriving DecidableEq, Repr, Inhabited

/-- One register, or one indexed family of registers, of the map. `dims` holds (stride, count), the widest stride first.
`rw` are the bits RAP may write (RW), `rwa` those whose write goes to a shadow (RWA), `w1c` those a written 1 clears,
`wo` those that act and read as zero, `rwi` those only the image sets; every other bit is read-only (R16). -/
structure RegDesc where
  base  : Nat
  dims  : List (Nat × Nat)
  rw    : Nat
  rwa   : Nat
  w1c   : Nat
  wo    : Nat
  rwi   : Nat
  reset : Nat
deriving DecidableEq, Repr, Inhabited

namespace R

/-- R21. -/
abbrev SYS_GAIT_CFG : Nat := 0x1FC
/-- R21. -/
abbrev SYS_GAIT_PACE (n : Nat) : Nat := 0x200 + 4 * n
/-- R60. -/
abbrev IMG_CTRL : Nat := 0x30000
/-- R60. -/
abbrev IMG_STATUS : Nat := 0x30004
/-- R60. -/
abbrev IMG_SVN : Nat := 0x30008
/-- R60. -/
abbrev IMG_SWAP_CNT : Nat := 0x3000C
/-- R60. -/
abbrev IMG_COMMIT_TB_LO : Nat := 0x30010
/-- R60. -/
abbrev IMG_COMMIT_TB_HI : Nat := 0x30014
/-- R60. -/
abbrev IMG_ACTIVE_HASH (n : Nat) : Nat := 0x30020 + 4 * n
/-- R75. -/
abbrev STR_GEOM_STATUS : Nat := 0x134000
/-- R75. -/
abbrev STR_LINK (n : Nat) : Nat := 0x134100 + 4 * n
/-- R75. -/
abbrev STR_PRESS (k : Nat) : Nat := 0x134300 + 4 * k
/-- R75. -/
abbrev STR_DELAY (n : Nat) : Nat := 0x134400 + 4 * n
/-- R104. -/
abbrev FBI_CFG (n : Nat) : Nat := 0x100000 + 256 * n
/-- R104. -/
abbrev FBI_INCFG (n : Nat) : Nat := 0x100004 + 256 * n
/-- R104. -/
abbrev FBI_LIM (n : Nat) : Nat := 0x100008 + 256 * n
/-- R104. -/
abbrev FBI_IDX (n : Nat) : Nat := 0x10000C + 256 * n
/-- R104. -/
abbrev FBI_TMO (n : Nat) : Nat := 0x100010 + 256 * n
/-- R104. -/
abbrev FBI_CNT_LO (n : Nat) : Nat := 0x100020 + 256 * n
/-- R104. -/
abbrev FBI_CNT_HI (n : Nat) : Nat := 0x100024 + 256 * n
/-- R104. -/
abbrev FBI_SNAP_LO (n : Nat) : Nat := 0x100028 + 256 * n
/-- R104. -/
abbrev FBI_SNAP_HI (n : Nat) : Nat := 0x10002C + 256 * n
/-- R104. -/
abbrev FBI_LOAD_LO (n : Nat) : Nat := 0x100048 + 256 * n
/-- R104. -/
abbrev FBI_LOAD_HI (n : Nat) : Nat := 0x10004C + 256 * n
/-- R104. -/
abbrev FBI_VEL (n : Nat) : Nat := 0x100030 + 256 * n
/-- R104. -/
abbrev FBI_PERIOD (n : Nat) : Nat := 0x100034 + 256 * n
/-- R104. -/
abbrev FBI_LINE (n : Nat) : Nat := 0x100038 + 256 * n
/-- R104. -/
abbrev FBI_FCNT (n : Nat) : Nat := 0x10003C + 256 * n
/-- R104. -/
abbrev FBI_STAT (n : Nat) : Nat := 0x100040 + 256 * n
/-- R104. -/
abbrev FBI_CTRL (n : Nat) : Nat := 0x100044 + 256 * n
/-- R104. -/
abbrev FBI_CAP_LO (n : Nat) : Nat := 0x100050 + 256 * n
/-- R104. -/
abbrev FBI_CAP_HI (n : Nat) : Nat := 0x100054 + 256 * n
/-- R104. -/
abbrev FBI_CAPTB_LO (n : Nat) : Nat := 0x100058 + 256 * n
/-- R104. -/
abbrev FBI_CAPTB_HI (n : Nat) : Nat := 0x10005C + 256 * n
/-- R105. -/
abbrev FBI_CMP_CFG (k : Nat) : Nat := 0x101000 + 64 * k
/-- R105. -/
abbrev FBI_CMP_VAL_LO (k : Nat) : Nat := 0x101004 + 64 * k
/-- R105. -/
abbrev FBI_CMP_VAL_HI (k : Nat) : Nat := 0x101008 + 64 * k
/-- R105. -/
abbrev FBI_CMP_STEP (k : Nat) : Nat := 0x10100C + 64 * k
/-- R105. -/
abbrev FBI_CMP_MOD (k : Nat) : Nat := 0x101010 + 64 * k
/-- R105. -/
abbrev FBI_CMP_HITS (k : Nat) : Nat := 0x101014 + 64 * k
/-- R105. -/
abbrev FBI_CMP_STAT (k : Nat) : Nat := 0x101018 + 64 * k
/-- R105. -/
abbrev FBI_SSI_VALUE (k : Nat) : Nat := 0x101100 + 64 * k
/-- R105. -/
abbrev FBI_SSI_TB_LO (k : Nat) : Nat := 0x101104 + 64 * k
/-- R105. -/
abbrev FBI_SSI_TB_HI (k : Nat) : Nat := 0x101108 + 64 * k
/-- R105. -/
abbrev FBI_SSI_STAT (k : Nat) : Nat := 0x10110C + 64 * k
/-- R105. -/
abbrev FBI_AIN (n : Nat) : Nat := 0x101200 + 4 * n
/-- R105. -/
abbrev FBI_SUP : Nat := 0x101300
/-- R128. -/
abbrev GNS_CFG : Nat := 0x110000
/-- R128. -/
abbrev GNS_CFG2 : Nat := 0x110004
/-- R128. -/
abbrev GNS_STATUS : Nat := 0x110008
/-- R128. -/
abbrev GNS_PDOP : Nat := 0x11000C
/-- R128. -/
abbrev GNS_EPOCH_TB_LO : Nat := 0x110010
/-- R128. -/
abbrev GNS_EPOCH_TB_HI : Nat := 0x110014
/-- R128. -/
abbrev GNS_EPOCH_CNT : Nat := 0x110018
/-- R128. -/
abbrev GNS_CLK_OFS : Nat := 0x11001C
/-- R128. -/
abbrev GNS_AGC : Nat := 0x110020
/-- R128. -/
abbrev GNS_NOTCH (k : Nat) : Nat := 0x110024 + 4 * k
/-- R128. -/
abbrev GNS_ISTO (k : Nat) : Nat := 0x110030 + 4 * k
/-- R128. -/
abbrev GNS_INTEG : Nat := 0x110040
/-- R128. -/
abbrev GNS_ACQ : Nat := 0x110044
/-- R128. -/
abbrev GNS_TRK : Nat := 0x110048
/-- R128. -/
abbrev GNS_REC : Nat := 0x11004C
/-- R128. -/
abbrev GNS_CH (n : Nat) : Nat := 0x110100 + 4 * n
/-- R148. -/
abbrev POS_CFG : Nat := 0x120000
/-- R148. -/
abbrev POS_HOLD : Nat := 0x120004
/-- R148. -/
abbrev POS_STATUS : Nat := 0x120008
/-- R148. -/
abbrev POS_ACC : Nat := 0x12000C
/-- R148. -/
abbrev POS_TT_OFS_LO : Nat := 0x120010
/-- R148. -/
abbrev POS_TT_OFS_HI : Nat := 0x120014
/-- R148. -/
abbrev POS_TT_STATUS : Nat := 0x120018
/-- R148. -/
abbrev POS_TT_ERR : Nat := 0x12001C
/-- R148. -/
abbrev POS_TPO_CFG : Nat := 0x120020
/-- R148. -/
abbrev POS_LEAP : Nat := 0x120024
/-- R148. -/
abbrev POS_CORR : Nat := 0x120028
/-- R148. -/
abbrev POS_SHAPE (n : Nat) : Nat := 0x120100 + 4 * n
/-- R181. -/
abbrev STR_CFG : Nat := 0x130000
/-- R181. -/
abbrev STR_HZ (k : Nat) : Nat := 0x130010 + 4 * k
/-- R181. -/
abbrev STR_STATUS : Nat := 0x130040
/-- R181. -/
abbrev STR_CYCLE_LO : Nat := 0x130044
/-- R181. -/
abbrev STR_CYCLE_HI : Nat := 0x130048
/-- R181. -/
abbrev STR_OVR : Nat := 0x13004C
/-- R181. -/
abbrev STR_SQUASH_CNT : Nat := 0x130050
/-- R181. -/
abbrev STR_LATE_EVT_CNT : Nat := 0x130054
/-- R181. -/
abbrev STR_TRUNC_CNT : Nat := 0x130058
/-- R181. -/
abbrev STR_GAP_CNT : Nat := 0x13005C
/-- R181. -/
abbrev STR_MISMATCH_CNT : Nat := 0x130060
/-- R181. -/
abbrev STR_EVICT_CNT : Nat := 0x130064
/-- R181. -/
abbrev STR_LANE (n : Nat) : Nat := 0x130080 + 4 * n
/-- R182. -/
abbrev STR_OUT (n : Nat) : Nat := 0x131000 + 4 * n
/-- R182. -/
abbrev STR_NEXT (n : Nat) : Nat := 0x131200 + 4 * n
/-- R182. -/
abbrev STR_RATE (n : Nat) : Nat := 0x131400 + 4 * n
/-- R207. -/
abbrev COV_JOB_CTRL : Nat := 0x140000
/-- R207. -/
abbrev COV_JOB_SEL : Nat := 0x140004
/-- R207. -/
abbrev COV_JOB_STATUS : Nat := 0x140008
/-- R207. -/
abbrev COV_JOB_ID : Nat := 0x14000C
/-- R207. -/
abbrev COV_GRID : Nat := 0x140010
/-- R207. -/
abbrev COV_X0 : Nat := 0x140014
/-- R207. -/
abbrev COV_Y0 : Nat := 0x140018
/-- R207. -/
abbrev COV_LAYER (k : Nat) : Nat := 0x140200 + 4 * k
/-- R208. -/
abbrev COV_TILES : Nat := 0x14001C
/-- R208. -/
abbrev COV_ONCE : Nat := 0x140020
/-- R208. -/
abbrev COV_TWICE : Nat := 0x140024
/-- R208. -/
abbrev COV_EXCL : Nat := 0x140028
/-- R208. -/
abbrev COV_MERGED : Nat := 0x140030
/-- R208. -/
abbrev COV_DUP : Nat := 0x140034
/-- R208. -/
abbrev COV_FOREIGN : Nat := 0x140038
/-- R208. -/
abbrev COV_HOLE : Nat := 0x14003C
/-- R208. -/
abbrev COV_EXCL_HIT : Nat := 0x140040
/-- R208. -/
abbrev COV_OUTSIDE : Nat := 0x140044
/-- R208. -/
abbrev COV_LAG : Nat := 0x14004C
/-- R208. -/
abbrev COV_SEQ (n : Nat) : Nat := 0x140400 + 4 * n
/-- R227. -/
abbrev STR_MODE : Nat := 0x136000
/-- R227. -/
abbrev STR_SECCTL : Nat := 0x136004
/-- R227. -/
abbrev STR_SECSW (k : Nat) : Nat := 0x136010 + 4 * k
/-- R227. -/
abbrev STR_SECEN (k : Nat) : Nat := 0x136020 + 4 * k
/-- R227. -/
abbrev STR_TCSCH (k : Nat) : Nat := 0x136030 + 4 * k
/-- R227. -/
abbrev STR_PLAT_POS : Nat := 0x136100
/-- R227. -/
abbrev STR_PLAT_REV : Nat := 0x136104
/-- R227. -/
abbrev STR_STALL (n : Nat) : Nat := 0x136200 + 4 * n
/-- R227. -/
abbrev STR_STALL_DLV (n : Nat) : Nat := 0x136400 + 4 * n
/-- R227. -/
abbrev STR_ALLEY_S : Nat := 0x136600
/-- R227. -/
abbrev STR_ALLEY_SET : Nat := 0x13660C
/-- R227. -/
abbrev STR_ALLEY_SCALE : Nat := 0x136614
/-- R227. -/
abbrev STR_ALLEY_STAT : Nat := 0x136604
/-- R227. -/
abbrev STR_ALLEY_CORR : Nat := 0x136610
/-- R249. -/
abbrev PWM_CTRL : Nat := 0x150000
/-- R249. -/
abbrev PWM_STATUS : Nat := 0x150004
/-- R249. -/
abbrev PWM_HOLD : Nat := 0x150008
/-- R249. -/
abbrev PWM_CG_PER (k : Nat) : Nat := 0x150100 + 4 * k
/-- R250. -/
abbrev PWM_CH_CFG (n : Nat) : Nat := 0x151000 + 16 * n
/-- R250. -/
abbrev PWM_CH_DUTY (n : Nat) : Nat := 0x151004 + 16 * n
/-- R250. -/
abbrev PWM_CH_PHASE (n : Nat) : Nat := 0x151008 + 16 * n
/-- R250. -/
abbrev PWM_CH_STAT (n : Nat) : Nat := 0x15100C + 16 * n
/-- R250. -/
abbrev PWM_HB_CFG (m : Nat) : Nat := 0x152000 + 4 * m
/-- R251. -/
abbrev PWM_LG_CFG (k : Nat) : Nat := 0x153000 + 16 * k
/-- R251. -/
abbrev PWM_LG_CTRL (k : Nat) : Nat := 0x153004 + 16 * k
/-- R251. -/
abbrev PWM_LG_STAT (k : Nat) : Nat := 0x153008 + 16 * k
/-- R251. -/
abbrev PWM_LG_XTB (k : Nat) : Nat := 0x15300C + 16 * k
/-- R252. -/
abbrev PWM_TRIP_CFG (k : Nat) : Nat := 0x154000 + 16 * k
/-- R252. -/
abbrev PWM_TRIP_MASK (k : Nat) : Nat := 0x154004 + 16 * k
/-- R252. -/
abbrev PWM_TRIP_STAT (k : Nat) : Nat := 0x154008 + 16 * k
/-- R252. -/
abbrev PWM_TRIP_TB (k : Nat) : Nat := 0x15400C + 16 * k
/-- R252. -/
abbrev PWM_FORCE_SH : Nat := 0x155000
/-- R252. -/
abbrev PWM_FORCE_ACT : Nat := 0x15500C
/-- R252. -/
abbrev PWM_FORCE_ONE : Nat := 0x155004
/-- R252. -/
abbrev PWM_FORCE_ONE_ACT : Nat := 0x155010
/-- R252. -/
abbrev PWM_FORCE_CTRL : Nat := 0x155008
/-- R252. -/
abbrev PWM_GATE (k : Nat) : Nat := 0x155100 + 4 * k
/-- R274. -/
abbrev LSW_CH_CFG0 (n : Nat) : Nat := 0x160000 + 32 * n
/-- R274. -/
abbrev LSW_CH_CFG1 (n : Nat) : Nat := 0x160004 + 32 * n
/-- R274. -/
abbrev LSW_CH_CUR (n : Nat) : Nat := 0x160008 + 32 * n
/-- R274. -/
abbrev LSW_CH_STAT (n : Nat) : Nat := 0x16000C + 32 * n
/-- R274. -/
abbrev LSW_CH_CTRL (n : Nat) : Nat := 0x160010 + 32 * n
/-- R274. -/
abbrev LSW_CH_CLAMP (n : Nat) : Nat := 0x160014 + 32 * n
/-- R274. -/
abbrev LSW_CH_CNT (n : Nat) : Nat := 0x160018 + 32 * n
/-- R275. -/
abbrev LSW_FEED_CFG (f : Nat) : Nat := 0x161000 + 16 * f
/-- R275. -/
abbrev LSW_FEED_STAT (f : Nat) : Nat := 0x161004 + 16 * f
/-- R275. -/
abbrev LSW_FEED_CNT (f : Nat) : Nat := 0x161008 + 16 * f
/-- R275. -/
abbrev LSW_CLUSTER (c : Nat) : Nat := 0x161100 + 4 * c
/-- R275. -/
abbrev LSW_TOTAL : Nat := 0x161140
/-- R275. -/
abbrev LSW_HB_STAT (m : Nat) : Nat := 0x161150 + 4 * m
/-- R276. -/
abbrev LSW_HALTER_STAT : Nat := 0x161200
/-- R276. -/
abbrev LSW_HALTER_IN (n : Nat) : Nat := 0x161210 + 4 * n
/-- R276. -/
abbrev LSW_HALTER_MAP (n : Nat) : Nat := 0x161300 + 4 * n
/-- R300. -/
abbrev CTL_STATUS : Nat := 0x170000
/-- R300. -/
abbrev CTL_LATE_CNT : Nat := 0x170004
/-- R300. -/
abbrev CTL_MISMATCH_CNT : Nat := 0x170008
/-- R300. -/
abbrev CTL_LANE (n : Nat) : Nat := 0x170010 + 4 * n
/-- R301. -/
abbrev CTL_LOOP_CFG (n : Nat) : Nat := 0x171000 + 64 * n
/-- R301. -/
abbrev CTL_LOOP_CFG1 (n : Nat) : Nat := 0x171004 + 64 * n
/-- R301. -/
abbrev CTL_LOOP_SP (n : Nat) : Nat := 0x171008 + 64 * n
/-- R301. -/
abbrev CTL_LOOP_MAN (n : Nat) : Nat := 0x17100C + 64 * n
/-- R301. -/
abbrev CTL_LOOP_CMD (n : Nat) : Nat := 0x171010 + 64 * n
/-- R301. -/
abbrev CTL_LOOP_STAT (n : Nat) : Nat := 0x171014 + 64 * n
/-- R301. -/
abbrev CTL_LOOP_SPR (n : Nat) : Nat := 0x171018 + 64 * n
/-- R301. -/
abbrev CTL_LOOP_PV (n : Nat) : Nat := 0x17101C + 64 * n
/-- R301. -/
abbrev CTL_LOOP_E (n : Nat) : Nat := 0x171020 + 64 * n
/-- R301. -/
abbrev CTL_LOOP_I (n : Nat) : Nat := 0x171024 + 64 * n
/-- R301. -/
abbrev CTL_LOOP_URAW (n : Nat) : Nat := 0x171028 + 64 * n
/-- R301. -/
abbrev CTL_LOOP_U (n : Nat) : Nat := 0x17102C + 64 * n
/-- R301. -/
abbrev CTL_LOOP_UACT (n : Nat) : Nat := 0x171030 + 64 * n
/-- R301. -/
abbrev CTL_LOOP_KP (n : Nat) : Nat := 0x171034 + 64 * n
/-- R301. -/
abbrev CTL_LOOP_KI (n : Nat) : Nat := 0x171038 + 64 * n
/-- R301. -/
abbrev CTL_LOOP_KD (n : Nat) : Nat := 0x17103C + 64 * n
/-- R302. -/
abbrev CTL_CURB_STAT (k : Nat) : Nat := 0x172000 + 16 * k
/-- R302. -/
abbrev CTL_CURB_MAN (k : Nat) : Nat := 0x172004 + 16 * k
/-- R302. -/
abbrev CTL_CURB_CMD (k : Nat) : Nat := 0x172008 + 16 * k
/-- R303. -/
abbrev CTL_TRC_CTRL : Nat := 0x173000
/-- R303. -/
abbrev CTL_TRC_TRIG : Nat := 0x173004
/-- R303. -/
abbrev CTL_TRC_LEVEL : Nat := 0x173008
/-- R303. -/
abbrev CTL_TRC_PRE : Nat := 0x17300C
/-- R303. -/
abbrev CTL_TRC_STAT : Nat := 0x173010
/-- R303. -/
abbrev CTL_TRC_TRIG_TB_LO : Nat := 0x173014
/-- R303. -/
abbrev CTL_TRC_TRIG_TB_HI : Nat := 0x173018
/-- R303. -/
abbrev CTL_TRC_CFG (c : Nat) : Nat := 0x173100 + 16 * c
/-- R303. -/
abbrev CTL_TRC_IDX (c : Nat) : Nat := 0x173104 + 16 * c
/-- R303. -/
abbrev CTL_TRC_TB_LO (c : Nat) : Nat := 0x173108 + 16 * c
/-- R303. -/
abbrev CTL_TRC_TB_HI (c : Nat) : Nat := 0x17310C + 16 * c
/-- R303. -/
abbrev CTL_INJ_CFG : Nat := 0x174000
/-- R303. -/
abbrev CTL_INJ_AMP : Nat := 0x174004
/-- R303. -/
abbrev CTL_INJ_F0 : Nat := 0x174008
/-- R303. -/
abbrev CTL_INJ_F1 : Nat := 0x17400C
/-- R303. -/
abbrev CTL_INJ_ABORT_LO : Nat := 0x174014
/-- R303. -/
abbrev CTL_INJ_ABORT_HI : Nat := 0x174018
/-- R303. -/
abbrev CTL_INJ_DUR : Nat := 0x174010
/-- R303. -/
abbrev CTL_INJ_CTRL : Nat := 0x17401C
/-- R303. -/
abbrev CTL_INJ_STAT : Nat := 0x174020
/-- R303. -/
abbrev CTL_INJ_TB_LO : Nat := 0x174024
/-- R303. -/
abbrev CTL_INJ_TB_HI : Nat := 0x174028
/-- R329. -/
abbrev CAN_CTRL (n : Nat) : Nat := 0x180000 + 16384 * n
/-- R329. -/
abbrev CAN_NBT (n : Nat) : Nat := 0x180004 + 16384 * n
/-- R329. -/
abbrev CAN_DBT (n : Nat) : Nat := 0x180008 + 16384 * n
/-- R329. -/
abbrev CAN_TDC (n : Nat) : Nat := 0x18000C + 16384 * n
/-- R329. -/
abbrev CAN_STATUS (n : Nat) : Nat := 0x180010 + 16384 * n
/-- R329. -/
abbrev CAN_ERR (n : Nat) : Nat := 0x180014 + 16384 * n
/-- R329. -/
abbrev CAN_RSEQ (n : Nat) : Nat := 0x180018 + 16384 * n
/-- R329. -/
abbrev CAN_LOSS (n : Nat) : Nat := 0x18001C + 16384 * n
/-- R329. -/
abbrev CAN_WAKE_ID (n : Nat) : Nat := 0x180020 + 16384 * n
/-- R329. -/
abbrev CAN_WAKE_MASK (n : Nat) : Nat := 0x180024 + 16384 * n
/-- R329. -/
abbrev CAN_WAKE_DATA_LO (n : Nat) : Nat := 0x180028 + 16384 * n
/-- R329. -/
abbrev CAN_WAKE_DATA_HI (n : Nat) : Nat := 0x18002C + 16384 * n
/-- R329. -/
abbrev CAN_WAKE_CFG (n : Nat) : Nat := 0x180030 + 16384 * n
/-- R329. -/
abbrev CAN_FILT (n : Nat) : Nat := 0x180034 + 16384 * n
/-- R329. -/
abbrev CAN_ISO (n : Nat) : Nat := 0x180038 + 16384 * n
/-- R330. -/
abbrev CAN_SLOT_ID (n : Nat) (s : Nat) : Nat := 0x181000 + 16384 * n + 96 * s
/-- R330. -/
abbrev CAN_SLOT_CTRL (n : Nat) (s : Nat) : Nat := 0x181004 + 16384 * n + 96 * s
/-- R330. -/
abbrev CAN_SLOT_TB_LO (n : Nat) (s : Nat) : Nat := 0x181008 + 16384 * n + 96 * s
/-- R330. -/
abbrev CAN_SLOT_TB_HI (n : Nat) (s : Nat) : Nat := 0x18100C + 16384 * n + 96 * s
/-- R330. -/
abbrev CAN_SLOT_LATE (n : Nat) (s : Nat) : Nat := 0x181010 + 16384 * n + 96 * s
/-- R330. -/
abbrev CAN_SLOT_CMD (n : Nat) (s : Nat) : Nat := 0x181014 + 16384 * n + 96 * s
/-- R330. -/
abbrev CAN_SLOT_STAT (n : Nat) (s : Nat) : Nat := 0x181018 + 16384 * n + 96 * s
/-- R330. -/
abbrev CAN_SLOT_STAMP (n : Nat) (s : Nat) : Nat := 0x18101C + 16384 * n + 96 * s
/-- R330. -/
abbrev CAN_SLOT_DATA (n : Nat) (s : Nat) (w : Nat) : Nat := 0x181020 + 16384 * n + 96 * s + 4 * w
/-- R357. -/
abbrev TLK_STATUS : Nat := 0x190000
/-- R357. -/
abbrev TLK_TERM : Nat := 0x190004
/-- R357. -/
abbrev TLK_MEMBERS0 : Nat := 0x190008
/-- R357. -/
abbrev TLK_MEMBERS1 : Nat := 0x19000C
/-- R357. -/
abbrev TLK_CLK : Nat := 0x190010
/-- R358. -/
abbrev TLK_LINK_STAT (n : Nat) : Nat := 0x190100 + 16 * n
/-- R358. -/
abbrev TLK_LINK_DLY (n : Nat) : Nat := 0x190104 + 16 * n
/-- R358. -/
abbrev TLK_LINK_CNT (n : Nat) : Nat := 0x190108 + 16 * n
/-- R358. -/
abbrev TLK_PAIR_STAT : Nat := 0x190200
/-- R358. -/
abbrev TLK_PAIR_T_LO : Nat := 0x190204
/-- R358. -/
abbrev TLK_PAIR_T_HI : Nat := 0x190208
/-- R358. -/
abbrev TLK_PAIR_CTRL : Nat := 0x19020C
/-- R383. -/
abbrev SAF_STATUS : Nat := 0x1A0000
/-- R383. -/
abbrev SAF_SW : Nat := 0x1A0004
/-- R383. -/
abbrev SAF_IN (x : Nat) : Nat := 0x1A0010 + 4 * x
/-- R384. -/
abbrev SAF_SO (x : Nat) : Nat := 0x1A0020 + 4 * x
/-- R384. -/
abbrev SAF_CUT (x : Nat) (w : Nat) : Nat := 0x1A0040 + 16 * x + 4 * w
/-- R384. -/
abbrev SAF_CONN_STAT (n : Nat) : Nat := 0x1A0100 + 8 * n
/-- R384. -/
abbrev SAF_CONN_ERR (n : Nat) : Nat := 0x1A0104 + 8 * n
/-- R413. -/
abbrev BRD_STATUS : Nat := 0x1B0000
/-- R413. -/
abbrev BRD_CMD : Nat := 0x1B0004
/-- R413. -/
abbrev BRD_RESULT : Nat := 0x1B0008
/-- R413. -/
abbrev BRD_CHAL : Nat := 0x1B000C
/-- R413. -/
abbrev BRD_TT_HWM_LO : Nat := 0x1B0010
/-- R413. -/
abbrev BRD_TT_HWM_HI : Nat := 0x1B0014
/-- R414. -/
abbrev BRD_SESS_STAT (k : Nat) : Nat := 0x1B0100 + 8 * k
/-- R414. -/
abbrev BRD_SESS_CNT (k : Nat) : Nat := 0x1B0104 + 8 * k
/-- R414. -/
abbrev BRD_LIV (n : Nat) : Nat := 0x1B0280 + 4 * n
/-- R414. -/
abbrev BRD_HIRE_STAT (m : Nat) : Nat := 0x1B0300 + 16 * m
/-- R414. -/
abbrev BRD_HIRE_AREA (m : Nat) : Nat := 0x1B0304 + 16 * m
/-- R414. -/
abbrev BRD_HIRE_VOL (m : Nat) : Nat := 0x1B0308 + 16 * m
/-- R430. -/
abbrev FAR_STATUS : Nat := 0x1C0000
/-- R430. -/
abbrev FAR_CMD : Nat := 0x1C0004
/-- R430. -/
abbrev FAR_RESULT : Nat := 0x1C0008
/-- R430. -/
abbrev FAR_LAST : Nat := 0x1C000C
/-- R430. -/
abbrev FAR_CAP (k : Nat) : Nat := 0x1C0100 + 4 * k
/-- R430. -/
abbrev FAR_SRAM_REP : Nat := 0x1C0200
/-- R430. -/
abbrev FAR_DRAM_REP : Nat := 0x1C0204
/-- R445. -/
abbrev STB_STATUS : Nat := 0x1D0000
/-- R445. -/
abbrev STB_CMD : Nat := 0x1D0004
/-- R445. -/
abbrev STB_RESULT : Nat := 0x1D0008
/-- R445. -/
abbrev STB_CHAL : Nat := 0x1D000C
/-- R445. -/
abbrev STB_SEQ : Nat := 0x1D0010
/-- R445. -/
abbrev STB_OPT_LO : Nat := 0x1D0014
/-- R445. -/
abbrev STB_OPT_HI : Nat := 0x1D0018
/-- R445. -/
abbrev STB_PCC : Nat := 0x1D001C
/-- R445. -/
abbrev STB_FILL : Nat := 0x1D0020
/-- R445. -/
abbrev STB_RECS : Nat := 0x1D0024
/-- R445. -/
abbrev STB_NOR : Nat := 0x1D0028
/-- R445. -/
abbrev STB_HOLD : Nat := 0x1D002C
/-- R445. -/
abbrev STB_DROP (s : Nat) : Nat := 0x1D0030 + 4 * s
/-- R445. -/
abbrev STB_OVW (s : Nat) : Nat := 0x1D0040 + 4 * s
/-- R476. -/
abbrev PWR_STATUS : Nat := 0x10000
/-- R476. -/
abbrev PWR_CFG : Nat := 0x10004
/-- R476. -/
abbrev PWR_CAUSE : Nat := 0x10008
/-- R476. -/
abbrev PWR_CMD : Nat := 0x1000C
/-- R476. -/
abbrev PWR_FW : Nat := 0x10010
/-- R476. -/
abbrev PWR_FW_CTRL : Nat := 0x10014
/-- R476. -/
abbrev PWR_FW_VERA : Nat := 0x10018
/-- R476. -/
abbrev PWR_FW_VERB : Nat := 0x1001C
/-- R486. -/
abbrev SYS_ID : Nat := 0x0
/-- R486. -/
abbrev SYS_SERIAL_LO : Nat := 0x4
/-- R486. -/
abbrev SYS_SERIAL_HI : Nat := 0x8
/-- R486. -/
abbrev SYS_LEVEL : Nat := 0xC
/-- R486. -/
abbrev SYS_TB_LO : Nat := 0x10
/-- R486. -/
abbrev SYS_TB_HI : Nat := 0x14
/-- R486. -/
abbrev SYS_RAP_CNT : Nat := 0x18
/-- R487. -/
abbrev FLT_STATUS : Nat := 0x20000
/-- R487. -/
abbrev FLT_QCNT : Nat := 0x20004
/-- R487. -/
abbrev FLT_ESC : Nat := 0x20008
/-- R487. -/
abbrev FLT_SEC_SRAM : Nat := 0x2000C
/-- R487. -/
abbrev FLT_SEC_DRAM : Nat := 0x20010
/-- R487. -/
abbrev FLT_DED : Nat := 0x20014
/-- R487. -/
abbrev FLT_PARITY : Nat := 0x20018
/-- R487. -/
abbrev FLT_EMMC : Nat := 0x2001C
/-- R487. -/
abbrev FLT_ACT (n : Nat) : Nat := 0x20100 + 4 * n
end R

namespace F
abbrev SYS_GAIT_CFG_WARN_PCT : Fld := ⟨0, 5⟩
abbrev SYS_GAIT_PACE_PACE : Fld := ⟨0, 16⟩
abbrev SYS_GAIT_PACE_MARGIN : Fld := ⟨16, 8⟩
abbrev SYS_GAIT_PACE_LOW : Fld := ⟨24, 1⟩
abbrev SYS_GAIT_PACE_RETIRED : Fld := ⟨25, 1⟩
abbrev SYS_GAIT_PACE_SPARE : Fld := ⟨26, 1⟩
abbrev IMG_CTRL_CMD : Fld := ⟨0, 4⟩
abbrev IMG_STATUS_STATE : Fld := ⟨0, 3⟩
abbrev IMG_STATUS_ERR : Fld := ⟨8, 8⟩
abbrev IMG_STATUS_ERR_SEG : Fld := ⟨16, 8⟩
abbrev IMG_STATUS_FR_MODE : Fld := ⟨24, 1⟩
abbrev IMG_STATUS_LAST_GOOD_VALID : Fld := ⟨25, 1⟩
abbrev IMG_STATUS_FALLBACK : Fld := ⟨26, 1⟩
abbrev IMG_SVN_IMAGE_SVN : Fld := ⟨0, 7⟩
abbrev IMG_SVN_OTP_SVN : Fld := ⟨8, 7⟩
abbrev IMG_SWAP_CNT_COMMITS : Fld := ⟨0, 16⟩
abbrev IMG_SWAP_CNT_ABORTS : Fld := ⟨16, 16⟩
abbrev IMG_COMMIT_TB_LO_TB : Fld := ⟨0, 32⟩
abbrev IMG_COMMIT_TB_HI_TB : Fld := ⟨0, 32⟩
abbrev IMG_ACTIVE_HASH_HASH : Fld := ⟨0, 32⟩
abbrev STR_GEOM_STATUS_PRESS_ANY_INVALID : Fld := ⟨0, 1⟩
abbrev STR_GEOM_STATUS_CHAIN_INVALID : Fld := ⟨1, 31⟩
abbrev STR_LINK_VALUE : Fld := ⟨0, 16⟩
abbrev STR_LINK_VALID : Fld := ⟨16, 1⟩
abbrev STR_LINK_ON_SECONDARY : Fld := ⟨17, 1⟩
abbrev STR_LINK_HELD : Fld := ⟨18, 1⟩
abbrev STR_LINK_FALLBACK : Fld := ⟨19, 1⟩
abbrev STR_LINK_CHAIN : Fld := ⟨20, 5⟩
abbrev STR_LINK_LINK : Fld := ⟨25, 3⟩
abbrev STR_PRESS_KPA : Fld := ⟨0, 16⟩
abbrev STR_PRESS_VALID : Fld := ⟨16, 1⟩
abbrev STR_PRESS_RANGE_CLAMP : Fld := ⟨17, 1⟩
abbrev STR_DELAY_ON : Fld := ⟨0, 16⟩
abbrev STR_DELAY_OFF : Fld := ⟨16, 16⟩
abbrev FBI_CFG_MODE : Fld := ⟨0, 4⟩
abbrev FBI_CFG_IDX_MODE : Fld := ⟨4, 2⟩
abbrev FBI_CFG_DIR_INV : Fld := ⟨6, 1⟩
abbrev FBI_CFG_Z_GATE : Fld := ⟨7, 1⟩
abbrev FBI_CFG_B_GATE : Fld := ⟨8, 1⟩
abbrev FBI_CFG_CAPSRC : Fld := ⟨9, 4⟩
abbrev FBI_CFG_CAP_EN : Fld := ⟨13, 1⟩
abbrev FBI_INCFG_MIN_SPACING : Fld := ⟨0, 16⟩
abbrev FBI_INCFG_DIFF : Fld := ⟨16, 1⟩
abbrev FBI_INCFG_PULL : Fld := ⟨17, 2⟩
abbrev FBI_INCFG_THRESH : Fld := ⟨19, 8⟩
abbrev FBI_LIM_ILL_LIMIT : Fld := ⟨0, 8⟩
abbrev FBI_LIM_FAST_LIMIT : Fld := ⟨8, 8⟩
abbrev FBI_LIM_FLT_WIN : Fld := ⟨16, 16⟩
abbrev FBI_IDX_LINES : Fld := ⟨0, 24⟩
abbrev FBI_IDX_LINE_TOL : Fld := ⟨24, 8⟩
abbrev FBI_TMO_ACTIVE_LIM : Fld := ⟨0, 16⟩
abbrev FBI_TMO_ZERO_TMO : Fld := ⟨16, 8⟩
abbrev FBI_TMO_VEL_WIN : Fld := ⟨24, 8⟩
abbrev FBI_CNT_LO_VALUE : Fld := ⟨0, 32⟩
abbrev FBI_CNT_HI_VALUE : Fld := ⟨0, 32⟩
abbrev FBI_SNAP_LO_VALUE : Fld := ⟨0, 32⟩
abbrev FBI_SNAP_HI_VALUE : Fld := ⟨0, 32⟩
abbrev FBI_LOAD_LO_VALUE : Fld := ⟨0, 32⟩
abbrev FBI_LOAD_HI_VALUE : Fld := ⟨0, 32⟩
abbrev FBI_VEL_VEL : Fld := ⟨0, 32⟩
abbrev FBI_PERIOD_PERIOD : Fld := ⟨0, 32⟩
abbrev FBI_LINE_LINE_DEV : Fld := ⟨0, 16⟩
abbrev FBI_LINE_IN_TOL_CNT : Fld := ⟨16, 8⟩
abbrev FBI_LINE_SKIP_CNT : Fld := ⟨24, 8⟩
abbrev FBI_FCNT_FAST_CNT : Fld := ⟨0, 16⟩
abbrev FBI_FCNT_ILLEGAL_CNT : Fld := ⟨16, 16⟩
abbrev FBI_STAT_VALID : Fld := ⟨0, 1⟩
abbrev FBI_STAT_DIR : Fld := ⟨1, 1⟩
abbrev FBI_STAT_STILL : Fld := ⟨2, 1⟩
abbrev FBI_STAT_ARMED : Fld := ⟨3, 1⟩
abbrev FBI_STAT_PRESENT : Fld := ⟨4, 1⟩
abbrev FBI_STAT_CH_FAULT : Fld := ⟨5, 1⟩
abbrev FBI_STAT_LINE_FAULT : Fld := ⟨6, 1⟩
abbrev FBI_STAT_INDEX_TIMEOUT : Fld := ⟨7, 1⟩
abbrev FBI_STAT_INDEX_MISSING : Fld := ⟨8, 1⟩
abbrev FBI_STAT_WIRE_BREAK : Fld := ⟨9, 1⟩
abbrev FBI_STAT_SUPPLY_FAULT : Fld := ⟨10, 1⟩
abbrev FBI_STAT_COUNT_WRAP : Fld := ⟨11, 1⟩
abbrev FBI_STAT_DIR_CNT : Fld := ⟨24, 8⟩
abbrev FBI_CTRL_ARM : Fld := ⟨0, 1⟩
abbrev FBI_CTRL_LOAD : Fld := ⟨1, 1⟩
abbrev FBI_CTRL_CLEAR : Fld := ⟨2, 1⟩
abbrev FBI_CAP_LO_VALUE : Fld := ⟨0, 32⟩
abbrev FBI_CAP_HI_VALUE : Fld := ⟨0, 32⟩
abbrev FBI_CAPTB_LO_VALUE : Fld := ⟨0, 32⟩
abbrev FBI_CAPTB_HI_VALUE : Fld := ⟨0, 32⟩
abbrev FBI_CMP_CFG_SRC : Fld := ⟨0, 4⟩
abbrev FBI_CMP_CFG_PIN_MODE : Fld := ⟨4, 2⟩
abbrev FBI_CMP_CFG_PW : Fld := ⟨6, 16⟩
abbrev FBI_CMP_CFG_POL : Fld := ⟨22, 1⟩
abbrev FBI_CMP_VAL_LO_VAL_LO : Fld := ⟨0, 32⟩
abbrev FBI_CMP_VAL_HI_VAL_HI : Fld := ⟨0, 16⟩
abbrev FBI_CMP_STEP_STEP : Fld := ⟨0, 32⟩
abbrev FBI_CMP_MOD_MOD : Fld := ⟨0, 32⟩
abbrev FBI_CMP_HITS_HITS : Fld := ⟨0, 32⟩
abbrev FBI_CMP_STAT_ARMED : Fld := ⟨0, 1⟩
abbrev FBI_CMP_STAT_OVERLAP : Fld := ⟨1, 1⟩
abbrev FBI_SSI_VALUE_VALUE : Fld := ⟨0, 32⟩
abbrev FBI_SSI_TB_LO_TB : Fld := ⟨0, 32⟩
abbrev FBI_SSI_TB_HI_TB : Fld := ⟨0, 32⟩
abbrev FBI_SSI_STAT_VALID : Fld := ⟨0, 1⟩
abbrev FBI_SSI_STAT_STALE : Fld := ⟨1, 1⟩
abbrev FBI_SSI_STAT_SSI_WIRE : Fld := ⟨2, 1⟩
abbrev FBI_SSI_STAT_BAD_CNT : Fld := ⟨16, 16⟩
abbrev FBI_AIN_CODE : Fld := ⟨0, 16⟩
abbrev FBI_AIN_VALID : Fld := ⟨16, 1⟩
abbrev FBI_AIN_OPEN : Fld := ⟨17, 1⟩
abbrev FBI_AIN_OVER : Fld := ⟨18, 1⟩
abbrev FBI_AIN_SHUNT_OPEN : Fld := ⟨19, 1⟩
abbrev FBI_AIN_SUPPLY_FAULT : Fld := ⟨20, 1⟩
abbrev FBI_SUP_SUP5A_OK : Fld := ⟨0, 1⟩
abbrev FBI_SUP_SUP5B_OK : Fld := ⟨1, 1⟩
abbrev FBI_SUP_SUP5A_TRIPS : Fld := ⟨8, 8⟩
abbrev FBI_SUP_SUP5B_TRIPS : Fld := ⟨16, 8⟩
abbrev GNS_CFG_MAIN_SYS : Fld := ⟨0, 2⟩
abbrev GNS_CFG_EPOCH_RATE : Fld := ⟨2, 3⟩
abbrev GNS_CFG_MIN_SV : Fld := ⟨5, 4⟩
abbrev GNS_CFG_PDOP_MAX : Fld := ⟨9, 6⟩
abbrev GNS_CFG_CN0_MIN : Fld := ⟨15, 6⟩
abbrev GNS_CFG_ELEV_MASK : Fld := ⟨21, 5⟩
abbrev GNS_CFG_BG_CH : Fld := ⟨26, 6⟩
abbrev GNS_CFG2_SBAS_CH : Fld := ⟨0, 2⟩
abbrev GNS_CFG2_ANT_BIAS_EN : Fld := ⟨2, 1⟩
abbrev GNS_STATUS_FALLBACK : Fld := ⟨0, 1⟩
abbrev GNS_STATUS_USABLE_MAIN : Fld := ⟨1, 8⟩
abbrev GNS_STATUS_USABLE_ALL : Fld := ⟨9, 8⟩
abbrev GNS_STATUS_COHERENT : Fld := ⟨17, 1⟩
abbrev GNS_STATUS_JAM : Fld := ⟨18, 1⟩
abbrev GNS_STATUS_SUSPECT : Fld := ⟨19, 1⟩
abbrev GNS_STATUS_SPOOF : Fld := ⟨20, 1⟩
abbrev GNS_STATUS_ANT : Fld := ⟨21, 2⟩
abbrev GNS_PDOP_PDOP_MAIN : Fld := ⟨0, 16⟩
abbrev GNS_PDOP_PDOP_ALL : Fld := ⟨16, 16⟩
abbrev GNS_EPOCH_TB_LO_VALUE : Fld := ⟨0, 32⟩
abbrev GNS_EPOCH_TB_HI_VALUE : Fld := ⟨0, 32⟩
abbrev GNS_EPOCH_CNT_VALUE : Fld := ⟨0, 32⟩
abbrev GNS_CLK_OFS_VALUE : Fld := ⟨0, 32⟩
abbrev GNS_AGC_GAIN : Fld := ⟨0, 8⟩
abbrev GNS_AGC_NOM_GAIN : Fld := ⟨8, 8⟩
abbrev GNS_AGC_JN : Fld := ⟨16, 8⟩
abbrev GNS_AGC_NOTCH_A_ON : Fld := ⟨24, 1⟩
abbrev GNS_AGC_NOTCH_B_ON : Fld := ⟨25, 1⟩
abbrev GNS_NOTCH_FREQ : Fld := ⟨0, 16⟩
abbrev GNS_NOTCH_ACTIVE : Fld := ⟨16, 1⟩
abbrev GNS_ISTO_OFFSET : Fld := ⟨0, 24⟩
abbrev GNS_ISTO_VALID : Fld := ⟨24, 1⟩
abbrev GNS_ISTO_BROADCAST : Fld := ⟨25, 1⟩
abbrev GNS_INTEG_CCD : Fld := ⟨0, 1⟩
abbrev GNS_INTEG_SQM : Fld := ⟨1, 1⟩
abbrev GNS_INTEG_DOPPLER : Fld := ⟨2, 1⟩
abbrev GNS_INTEG_NAV_DATA : Fld := ⟨3, 1⟩
abbrev GNS_INTEG_SPOOF_CN0 : Fld := ⟨4, 1⟩
abbrev GNS_INTEG_CLOCK_JUMP : Fld := ⟨5, 1⟩
abbrev GNS_INTEG_ANT_INCONSISTENT : Fld := ⟨6, 1⟩
abbrev GNS_INTEG_SPOOF_GEOM : Fld := ⟨7, 1⟩
abbrev GNS_INTEG_SPOOF_DECLARED : Fld := ⟨8, 1⟩
abbrev GNS_INTEG_JAM_DETECT : Fld := ⟨9, 1⟩
abbrev GNS_INTEG_ACQ_CAPACITY : Fld := ⟨10, 1⟩
abbrev GNS_ACQ_TILES_IN : Fld := ⟨0, 5⟩
abbrev GNS_ACQ_SPARES_LEFT : Fld := ⟨5, 2⟩
abbrev GNS_ACQ_SEARCHING : Fld := ⟨7, 1⟩
abbrev GNS_ACQ_DROPPED : Fld := ⟨8, 8⟩
abbrev GNS_TRK_BANKS_IN : Fld := ⟨0, 4⟩
abbrev GNS_TRK_SPARE_FREE : Fld := ⟨4, 1⟩
abbrev GNS_TRK_CH_AVAIL : Fld := ⟨5, 7⟩
abbrev GNS_REC_WR_IDX : Fld := ⟨0, 9⟩
abbrev GNS_REC_OVERRUN : Fld := ⟨16, 16⟩
abbrev GNS_CH_STATE : Fld := ⟨0, 3⟩
abbrev GNS_CH_SYS : Fld := ⟨3, 3⟩
abbrev GNS_CH_SVID : Fld := ⟨6, 8⟩
abbrev GNS_CH_CN0 : Fld := ⟨14, 10⟩
abbrev GNS_CH_PHASE_LOCK : Fld := ⟨24, 1⟩
abbrev GNS_CH_EXCLUDED : Fld := ⟨25, 1⟩
abbrev GNS_CH_SUSPECT : Fld := ⟨26, 1⟩
abbrev GNS_CH_HALF_CYC : Fld := ⟨27, 1⟩
abbrev POS_CFG_SRC_ORDER : Fld := ⟨0, 1⟩
abbrev POS_CFG_DR_LIMIT : Fld := ⟨1, 6⟩
abbrev POS_CFG_ACC_MAX : Fld := ⟨7, 9⟩
abbrev POS_CFG_CORR_AGE_MAX : Fld := ⟨16, 6⟩
abbrev POS_CFG_HOLD_POLICY : Fld := ⟨22, 1⟩
abbrev POS_HOLD_HOLD_S : Fld := ⟨0, 16⟩
abbrev POS_STATUS_SOURCE : Fld := ⟨0, 3⟩
abbrev POS_STATUS_FIX : Fld := ⟨3, 3⟩
abbrev POS_STATUS_VALID : Fld := ⟨6, 1⟩
abbrev POS_STATUS_BLEND : Fld := ⟨7, 1⟩
abbrev POS_STATUS_STALE : Fld := ⟨8, 1⟩
abbrev POS_STATUS_SPOOF_HOLD : Fld := ⟨9, 1⟩
abbrev POS_STATUS_DR_AGE : Fld := ⟨16, 8⟩
abbrev POS_STATUS_CORR_AGE : Fld := ⟨24, 8⟩
abbrev POS_ACC_H95 : Fld := ⟨0, 16⟩
abbrev POS_ACC_HEAD95 : Fld := ⟨16, 16⟩
abbrev POS_TT_OFS_LO_OFS : Fld := ⟨0, 32⟩
abbrev POS_TT_OFS_HI_OFS : Fld := ⟨0, 32⟩
abbrev POS_TT_STATUS_TT_STATE : Fld := ⟨0, 3⟩
abbrev POS_TT_STATUS_SLEWING : Fld := ⟨3, 1⟩
abbrev POS_TT_STATUS_TIME_STEP : Fld := ⟨4, 1⟩
abbrev POS_TT_STATUS_STEP_CNT : Fld := ⟨8, 8⟩
abbrev POS_TT_STATUS_HOLD_AGE : Fld := ⟨16, 16⟩
abbrev POS_TT_ERR_ERR : Fld := ⟨0, 32⟩
abbrev POS_TPO_CFG_CABLE_DELAY : Fld := ⟨0, 23⟩
abbrev POS_TPO_CFG_POL : Fld := ⟨23, 1⟩
abbrev POS_TPO_CFG_EN : Fld := ⟨24, 1⟩
abbrev POS_TPO_CFG_WIDTH : Fld := ⟨25, 7⟩
abbrev POS_LEAP_GPS_UTC : Fld := ⟨0, 8⟩
abbrev POS_LEAP_VALID : Fld := ⟨8, 1⟩
abbrev POS_CORR_STATION : Fld := ⟨0, 12⟩
abbrev POS_CORR_VIA_ETH : Fld := ⟨12, 1⟩
abbrev POS_CORR_VIA_CAN : Fld := ⟨13, 1⟩
abbrev POS_CORR_MSG_CNT : Fld := ⟨16, 16⟩
abbrev POS_SHAPE_VALUE : Fld := ⟨0, 16⟩
abbrev POS_SHAPE_VALID : Fld := ⟨16, 1⟩
abbrev POS_SHAPE_FIXED : Fld := ⟨17, 1⟩
abbrev POS_SHAPE_SHAPE_DIFF : Fld := ⟨18, 1⟩
abbrev STR_CFG_N_HZ : Fld := ⟨0, 4⟩
abbrev STR_CFG_MARK_AGE : Fld := ⟨4, 6⟩
abbrev STR_CFG_REPLAN_TOL : Fld := ⟨10, 10⟩
abbrev STR_HZ_HZ : Fld := ⟨0, 16⟩
abbrev STR_STATUS_RUN : Fld := ⟨0, 1⟩
abbrev STR_STATUS_N_EFF : Fld := ⟨1, 4⟩
abbrev STR_STATUS_REDUCED : Fld := ⟨5, 1⟩
abbrev STR_STATUS_LANES_IN : Fld := ⟨6, 4⟩
abbrev STR_STATUS_SPARE_FREE : Fld := ⟨10, 1⟩
abbrev STR_STATUS_RECOMPUTE_OFF : Fld := ⟨11, 1⟩
abbrev STR_STATUS_PROV_FULL : Fld := ⟨12, 1⟩
abbrev STR_STATUS_STRIDE_LATE : Fld := ⟨13, 1⟩
abbrev STR_STATUS_MAP_MISS : Fld := ⟨14, 1⟩
abbrev STR_CYCLE_LO_TB : Fld := ⟨0, 32⟩
abbrev STR_CYCLE_HI_TB : Fld := ⟨0, 32⟩
abbrev STR_OVR_OVERRUNS : Fld := ⟨0, 16⟩
abbrev STR_OVR_CONSEC : Fld := ⟨16, 8⟩
abbrev STR_OVR_LOW_SKIP : Fld := ⟨24, 3⟩
abbrev STR_SQUASH_CNT_COUNT : Fld := ⟨0, 32⟩
abbrev STR_LATE_EVT_CNT_COUNT : Fld := ⟨0, 32⟩
abbrev STR_TRUNC_CNT_COUNT : Fld := ⟨0, 32⟩
abbrev STR_GAP_CNT_COUNT : Fld := ⟨0, 32⟩
abbrev STR_MISMATCH_CNT_COUNT : Fld := ⟨0, 32⟩
abbrev STR_EVICT_CNT_COUNT : Fld := ⟨0, 32⟩
abbrev STR_LANE_EVALS : Fld := ⟨0, 8⟩
abbrev STR_LANE_IN_SERVICE : Fld := ⟨8, 1⟩
abbrev STR_LANE_SPARE : Fld := ⟨9, 1⟩
abbrev STR_LANE_RETIRED : Fld := ⟨10, 1⟩
abbrev STR_LANE_CHECKED : Fld := ⟨11, 1⟩
abbrev STR_LANE_MISMATCH : Fld := ⟨12, 8⟩
abbrev STR_OUT_GATE : Fld := ⟨0, 1⟩
abbrev STR_OUT_GROUND : Fld := ⟨1, 1⟩
abbrev STR_OUT_GEN : Fld := ⟨2, 12⟩
abbrev STR_OUT_QDEPTH : Fld := ⟨14, 4⟩
abbrev STR_OUT_REASON : Fld := ⟨18, 4⟩
abbrev STR_OUT_HEIGHT_LIMIT : Fld := ⟨22, 1⟩
abbrev STR_OUT_LATE : Fld := ⟨23, 1⟩
abbrev STR_OUT_TRUNC : Fld := ⟨24, 1⟩
abbrev STR_OUT_STALL : Fld := ⟨25, 1⟩
abbrev STR_NEXT_VALID : Fld := ⟨0, 1⟩
abbrev STR_NEXT_TYPE : Fld := ⟨1, 1⟩
abbrev STR_NEXT_HZ : Fld := ⟨2, 3⟩
abbrev STR_NEXT_LATE : Fld := ⟨5, 1⟩
abbrev STR_NEXT_DT : Fld := ⟨6, 26⟩
abbrev STR_RATE_RATE : Fld := ⟨0, 16⟩
abbrev STR_RATE_VALID : Fld := ⟨16, 1⟩
abbrev STR_RATE_DEFAULT : Fld := ⟨17, 1⟩
abbrev COV_JOB_CTRL_CMD : Fld := ⟨0, 4⟩
abbrev COV_JOB_SEL_JOB : Fld := ⟨0, 16⟩
abbrev COV_JOB_STATUS_STATE : Fld := ⟨0, 3⟩
abbrev COV_JOB_STATUS_ERR : Fld := ⟨8, 8⟩
abbrev COV_JOB_STATUS_EXPORT_READY : Fld := ⟨16, 1⟩
abbrev COV_JOB_STATUS_CATCHING_UP : Fld := ⟨17, 1⟩
abbrev COV_JOB_STATUS_MERGE_LAG : Fld := ⟨18, 1⟩
abbrev COV_JOB_STATUS_COV_LOST : Fld := ⟨19, 1⟩
abbrev COV_JOB_ID_ID : Fld := ⟨0, 32⟩
abbrev COV_GRID_CELL : Fld := ⟨0, 10⟩
abbrev COV_GRID_TX : Fld := ⟨10, 11⟩
abbrev COV_GRID_TY : Fld := ⟨21, 11⟩
abbrev COV_X0_VALUE : Fld := ⟨0, 32⟩
abbrev COV_Y0_VALUE : Fld := ⟨0, 32⟩
abbrev COV_LAYER_G : Fld := ⟨0, 16⟩
abbrev COV_LAYER_EXP : Fld := ⟨16, 3⟩
abbrev COV_LAYER_VALID : Fld := ⟨19, 1⟩
abbrev COV_LAYER_UNIT : Fld := ⟨20, 8⟩
abbrev COV_TILES_ALLOC : Fld := ⟨0, 17⟩
abbrev COV_TILES_CACHED : Fld := ⟨17, 9⟩
abbrev COV_ONCE_CELLS : Fld := ⟨0, 32⟩
abbrev COV_TWICE_CELLS : Fld := ⟨0, 32⟩
abbrev COV_EXCL_CELLS : Fld := ⟨0, 32⟩
abbrev COV_MERGED_COUNT : Fld := ⟨0, 32⟩
abbrev COV_DUP_COUNT : Fld := ⟨0, 32⟩
abbrev COV_FOREIGN_COUNT : Fld := ⟨0, 32⟩
abbrev COV_HOLE_COUNT : Fld := ⟨0, 32⟩
abbrev COV_EXCL_HIT_COUNT : Fld := ⟨0, 32⟩
abbrev COV_OUTSIDE_COUNT : Fld := ⟨0, 32⟩
abbrev COV_LAG_BACKLOG : Fld := ⟨0, 16⟩
abbrev COV_LAG_QUEUED : Fld := ⟨16, 16⟩
abbrev COV_SEQ_SEQ : Fld := ⟨0, 32⟩
abbrev STR_MODE_MODE : Fld := ⟨0, 3⟩
abbrev STR_MODE_DIRECT : Fld := ⟨3, 1⟩
abbrev STR_MODE_MODE_REQ : Fld := ⟨4, 1⟩
abbrev STR_MODE_TC_SC : Fld := ⟨5, 1⟩
abbrev STR_MODE_TC_LOST : Fld := ⟨6, 1⟩
abbrev STR_MODE_TC_OVF : Fld := ⟨7, 1⟩
abbrev STR_SECCTL_MASTER : Fld := ⟨0, 1⟩
abbrev STR_SECCTL_WORK : Fld := ⟨1, 1⟩
abbrev STR_SECSW_SEC : Fld := ⟨0, 32⟩
abbrev STR_SECEN_SEC : Fld := ⟨0, 32⟩
abbrev STR_TCSCH_SEC : Fld := ⟨0, 32⟩
abbrev STR_PLAT_POS_COUNT : Fld := ⟨0, 24⟩
abbrev STR_PLAT_POS_VALID : Fld := ⟨24, 1⟩
abbrev STR_PLAT_REV_REVS : Fld := ⟨0, 32⟩
abbrev STR_STALL_DOSE : Fld := ⟨0, 16⟩
abbrev STR_STALL_EN : Fld := ⟨16, 1⟩
abbrev STR_STALL_DONE : Fld := ⟨17, 1⟩
abbrev STR_STALL_DLV_DELIV : Fld := ⟨0, 16⟩
abbrev STR_STALL_DLV_WINDOWS : Fld := ⟨16, 14⟩
abbrev STR_STALL_DLV_SHORT : Fld := ⟨30, 1⟩
abbrev STR_ALLEY_S_VALUE : Fld := ⟨0, 32⟩
abbrev STR_ALLEY_SET_VALUE : Fld := ⟨0, 32⟩
abbrev STR_ALLEY_SCALE_VALUE : Fld := ⟨0, 32⟩
abbrev STR_ALLEY_STAT_LAST_MAG : Fld := ⟨0, 8⟩
abbrev STR_ALLEY_STAT_VALID : Fld := ⟨8, 1⟩
abbrev STR_ALLEY_STAT_ORIENT : Fld := ⟨9, 1⟩
abbrev STR_ALLEY_STAT_SET : Fld := ⟨10, 1⟩
abbrev STR_ALLEY_CORR_LAST_CORR : Fld := ⟨0, 16⟩
abbrev STR_ALLEY_CORR_UNMATCHED : Fld := ⟨16, 8⟩
abbrev STR_ALLEY_CORR_SCALE_REJECT : Fld := ⟨24, 8⟩
abbrev PWM_CTRL_OWN : Fld := ⟨0, 1⟩
abbrev PWM_CTRL_WD_SUSPEND : Fld := ⟨1, 1⟩
abbrev PWM_STATUS_FROZEN : Fld := ⟨0, 1⟩
abbrev PWM_STATUS_WD_RUN : Fld := ⟨1, 1⟩
abbrev PWM_STATUS_WD_SUSP : Fld := ⟨2, 1⟩
abbrev PWM_STATUS_WD_EXPIRED : Fld := ⟨3, 1⟩
abbrev PWM_STATUS_OWNED : Fld := ⟨4, 1⟩
abbrev PWM_HOLD_HOLD_MS : Fld := ⟨0, 9⟩
abbrev PWM_HOLD_FORCE_TMO : Fld := ⟨16, 10⟩
abbrev PWM_CG_PER_PER : Fld := ⟨0, 32⟩
abbrev PWM_CH_CFG_CARRIER : Fld := ⟨0, 4⟩
abbrev PWM_CH_CFG_LG : Fld := ⟨4, 3⟩
abbrev PWM_CH_CFG_GATE_MODE : Fld := ⟨7, 1⟩
abbrev PWM_CH_CFG_ALIGN : Fld := ⟨8, 1⟩
abbrev PWM_CH_CFG_POLICY : Fld := ⟨9, 1⟩
abbrev PWM_CH_CFG_MINP : Fld := ⟨16, 16⟩
abbrev PWM_CH_DUTY_DUTY : Fld := ⟨0, 17⟩
abbrev PWM_CH_PHASE_PHASE : Fld := ⟨0, 16⟩
abbrev PWM_CH_STAT_ACT_DUTY : Fld := ⟨0, 17⟩
abbrev PWM_CH_STAT_LEVEL : Fld := ⟨17, 1⟩
abbrev PWM_CH_STAT_DROPPED : Fld := ⟨18, 1⟩
abbrev PWM_CH_STAT_STRETCHED : Fld := ⟨19, 1⟩
abbrev PWM_HB_CFG_MODE : Fld := ⟨0, 1⟩
abbrev PWM_HB_CFG_DEAD : Fld := ⟨1, 14⟩
abbrev PWM_HB_CFG_OGROUP : Fld := ⟨15, 4⟩
abbrev PWM_LG_CFG_OWNER : Fld := ⟨0, 3⟩
abbrev PWM_LG_CFG_INST : Fld := ⟨3, 4⟩
abbrev PWM_LG_CFG_XFER : Fld := ⟨7, 1⟩
abbrev PWM_LG_CFG_REFCG : Fld := ⟨8, 4⟩
abbrev PWM_LG_CTRL_LOAD_ALL : Fld := ⟨0, 1⟩
abbrev PWM_LG_CTRL_CANCEL : Fld := ⟨1, 1⟩
abbrev PWM_LG_STAT_ARMED : Fld := ⟨0, 1⟩
abbrev PWM_LG_STAT_WRITE_WHILE_ARMED : Fld := ⟨1, 1⟩
abbrev PWM_LG_STAT_NOT_OWNER_CNT : Fld := ⟨8, 8⟩
abbrev PWM_LG_STAT_TRANSFERS : Fld := ⟨16, 16⟩
abbrev PWM_LG_XTB_TB : Fld := ⟨0, 32⟩
abbrev PWM_TRIP_CFG_LEN : Fld := ⟨0, 16⟩
abbrev PWM_TRIP_CFG_UNIT : Fld := ⟨16, 1⟩
abbrev PWM_TRIP_CFG_POL : Fld := ⟨17, 1⟩
abbrev PWM_TRIP_CFG_MODE : Fld := ⟨18, 1⟩
abbrev PWM_TRIP_MASK_MASK : Fld := ⟨0, 16⟩
abbrev PWM_TRIP_MASK_RELEASE : Fld := ⟨16, 16⟩
abbrev PWM_TRIP_STAT_LEVEL : Fld := ⟨0, 1⟩
abbrev PWM_TRIP_STAT_LATCH : Fld := ⟨1, 1⟩
abbrev PWM_TRIP_STAT_CLEAR : Fld := ⟨2, 1⟩
abbrev PWM_TRIP_STAT_CLEAR_REFUSED : Fld := ⟨8, 8⟩
abbrev PWM_TRIP_STAT_COUNT : Fld := ⟨16, 16⟩
abbrev PWM_TRIP_TB_TB : Fld := ⟨0, 32⟩
abbrev PWM_FORCE_SH_GROUPS : Fld := ⟨0, 32⟩
abbrev PWM_FORCE_ACT_GROUPS : Fld := ⟨0, 32⟩
abbrev PWM_FORCE_ONE_CH : Fld := ⟨0, 7⟩
abbrev PWM_FORCE_ONE_VAL : Fld := ⟨7, 2⟩
abbrev PWM_FORCE_ONE_ACT_CH : Fld := ⟨0, 7⟩
abbrev PWM_FORCE_ONE_ACT_VAL : Fld := ⟨7, 2⟩
abbrev PWM_FORCE_CTRL_COMMIT : Fld := ⟨0, 1⟩
abbrev PWM_FORCE_CTRL_CLEAR_ALL : Fld := ⟨1, 1⟩
abbrev PWM_GATE_GATE : Fld := ⟨0, 32⟩
abbrev LSW_CH_CFG0_OC_THR : Fld := ⟨0, 8⟩
abbrev LSW_CH_CFG0_OC_N : Fld := ⟨8, 4⟩
abbrev LSW_CH_CFG0_RETRY_N : Fld := ⟨12, 4⟩
abbrev LSW_CH_CFG0_RETRY_GAP : Fld := ⟨16, 7⟩
abbrev LSW_CH_CFG0_RETRY_WIN : Fld := ⟨23, 9⟩
abbrev LSW_CH_CFG1_I_RATED : Fld := ⟨0, 6⟩
abbrev LSW_CH_CFG1_OL_THR : Fld := ⟨6, 6⟩
abbrev LSW_CH_CFG1_COMP : Fld := ⟨12, 2⟩
abbrev LSW_CH_CFG1_V_NOM : Fld := ⟨14, 9⟩
abbrev LSW_CH_CFG1_LATCH_CLR : Fld := ⟨23, 1⟩
abbrev LSW_CH_CFG1_CLAMP_BUDGET : Fld := ⟨24, 7⟩
abbrev LSW_CH_CFG1_PAIR_WIRED : Fld := ⟨31, 1⟩
abbrev LSW_CH_CUR_CUR : Fld := ⟨0, 12⟩
abbrev LSW_CH_CUR_CUR_ON : Fld := ⟨12, 12⟩
abbrev LSW_CH_STAT_ON : Fld := ⟨0, 1⟩
abbrev LSW_CH_STAT_SHORT_LATCH : Fld := ⟨1, 1⟩
abbrev LSW_CH_STAT_OC_LATCH : Fld := ⟨2, 1⟩
abbrev LSW_CH_STAT_CLAMP_LOCK : Fld := ⟨3, 1⟩
abbrev LSW_CH_STAT_THERMAL : Fld := ⟨4, 1⟩
abbrev LSW_CH_STAT_THERM_LATCH : Fld := ⟨5, 1⟩
abbrev LSW_CH_STAT_FEED_UV : Fld := ⟨6, 1⟩
abbrev LSW_CH_STAT_RETRYING : Fld := ⟨7, 1⟩
abbrev LSW_CH_STAT_RETRY_PAUSED : Fld := ⟨8, 1⟩
abbrev LSW_CH_STAT_OPEN_LOAD : Fld := ⟨9, 1⟩
abbrev LSW_CH_STAT_OL_UNKNOWN : Fld := ⟨10, 1⟩
abbrev LSW_CH_STAT_COMP_SAT : Fld := ⟨11, 1⟩
abbrev LSW_CH_STAT_SEGS : Fld := ⟨12, 3⟩
abbrev LSW_CH_STAT_DERATED : Fld := ⟨15, 1⟩
abbrev LSW_CH_STAT_RETIRED : Fld := ⟨16, 1⟩
abbrev LSW_CH_STAT_STUCK_ON : Fld := ⟨17, 1⟩
abbrev LSW_CH_STAT_HALTER : Fld := ⟨18, 1⟩
abbrev LSW_CH_CTRL_CLEAR : Fld := ⟨0, 1⟩
abbrev LSW_CH_CLAMP_WIN_SUM : Fld := ⟨0, 16⟩
abbrev LSW_CH_CLAMP_LAST_E : Fld := ⟨16, 16⟩
abbrev LSW_CH_CNT_SHORTS : Fld := ⟨0, 8⟩
abbrev LSW_CH_CNT_OC_TRIPS : Fld := ⟨8, 8⟩
abbrev LSW_CH_CNT_RETRIES : Fld := ⟨16, 8⟩
abbrev LSW_CH_CNT_CLEAR_REFUSED : Fld := ⟨24, 8⟩
abbrev LSW_FEED_CFG_UV_THR : Fld := ⟨0, 8⟩
abbrev LSW_FEED_CFG_UV_HYST : Fld := ⟨8, 5⟩
abbrev LSW_FEED_CFG_UV_T : Fld := ⟨13, 7⟩
abbrev LSW_FEED_CFG_RESTART_T : Fld := ⟨20, 10⟩
abbrev LSW_FEED_STAT_VOLT : Fld := ⟨0, 10⟩
abbrev LSW_FEED_STAT_UV : Fld := ⟨10, 1⟩
abbrev LSW_FEED_STAT_OVERLOAD : Fld := ⟨11, 1⟩
abbrev LSW_FEED_STAT_CURRENT : Fld := ⟨16, 12⟩
abbrev LSW_FEED_CNT_UV_EVENTS : Fld := ⟨0, 16⟩
abbrev LSW_CLUSTER_TEMP : Fld := ⟨0, 9⟩
abbrev LSW_CLUSTER_WARN : Fld := ⟨9, 1⟩
abbrev LSW_TOTAL_CURRENT : Fld := ⟨0, 12⟩
abbrev LSW_TOTAL_OVERLOAD : Fld := ⟨12, 1⟩
abbrev LSW_HB_STAT_DESAT : Fld := ⟨0, 1⟩
abbrev LSW_HB_STAT_DRV_UV : Fld := ⟨1, 1⟩
abbrev LSW_HB_STAT_CLEAR : Fld := ⟨2, 1⟩
abbrev LSW_HALTER_STAT_IN : Fld := ⟨0, 8⟩
abbrev LSW_HALTER_STAT_ARMED : Fld := ⟨8, 8⟩
abbrev LSW_HALTER_STAT_STUCK : Fld := ⟨16, 8⟩
abbrev LSW_HALTER_STAT_EN : Fld := ⟨24, 1⟩
abbrev LSW_HALTER_STAT_ACTIVE : Fld := ⟨25, 1⟩
abbrev LSW_HALTER_STAT_CORE_ALIVE : Fld := ⟨26, 1⟩
abbrev LSW_HALTER_IN_DEB : Fld := ⟨0, 9⟩
abbrev LSW_HALTER_IN_POL : Fld := ⟨9, 1⟩
abbrev LSW_HALTER_IN_STUCK_LIM : Fld := ⟨10, 12⟩
abbrev LSW_HALTER_MAP_IN : Fld := ⟨0, 4⟩
abbrev LSW_HALTER_MAP_MODE : Fld := ⟨4, 1⟩
abbrev LSW_HALTER_MAP_PERIOD : Fld := ⟨5, 10⟩
abbrev LSW_HALTER_MAP_DUTY16 : Fld := ⟨15, 5⟩
abbrev CTL_STATUS_LANES_IN : Fld := ⟨0, 3⟩
abbrev CTL_STATUS_SPARE_FREE : Fld := ⟨3, 1⟩
abbrev CTL_STATUS_RECOMPUTE_OFF : Fld := ⟨4, 1⟩
abbrev CTL_STATUS_LATE : Fld := ⟨5, 1⟩
abbrev CTL_STATUS_LOOPS : Fld := ⟨6, 7⟩
abbrev CTL_STATUS_CURBS : Fld := ⟨13, 5⟩
abbrev CTL_LATE_CNT_COUNT : Fld := ⟨0, 32⟩
abbrev CTL_MISMATCH_CNT_COUNT : Fld := ⟨0, 32⟩
abbrev CTL_LANE_STEPS : Fld := ⟨0, 7⟩
abbrev CTL_LANE_IN_SERVICE : Fld := ⟨7, 1⟩
abbrev CTL_LANE_SPARE : Fld := ⟨8, 1⟩
abbrev CTL_LANE_RETIRED : Fld := ⟨9, 1⟩
abbrev CTL_LANE_CHECKED : Fld := ⟨10, 1⟩
abbrev CTL_LANE_MISMATCH : Fld := ⟨11, 8⟩
abbrev CTL_LOOP_CFG_DIV : Fld := ⟨0, 4⟩
abbrev CTL_LOOP_CFG_PHASE : Fld := ⟨4, 4⟩
abbrev CTL_LOOP_CFG_GROUP : Fld := ⟨8, 4⟩
abbrev CTL_LOOP_CFG_CURB : Fld := ⟨12, 5⟩
abbrev CTL_LOOP_CFG_SP_SRC : Fld := ⟨17, 2⟩
abbrev CTL_LOOP_CFG_PV_SRC : Fld := ⟨19, 3⟩
abbrev CTL_LOOP_CFG_SRC_IDX : Fld := ⟨22, 6⟩
abbrev CTL_LOOP_CFG_DMODE : Fld := ⟨28, 1⟩
abbrev CTL_LOOP_CFG_DIR : Fld := ⟨29, 1⟩
abbrev CTL_LOOP_CFG1_EN_SRC : Fld := ⟨0, 2⟩
abbrev CTL_LOOP_CFG1_EN_IDX : Fld := ⟨2, 7⟩
abbrev CTL_LOOP_CFG1_FB_LOSS : Fld := ⟨9, 1⟩
abbrev CTL_LOOP_CFG1_FB_TMO : Fld := ⟨10, 13⟩
abbrev CTL_LOOP_CFG1_ACT : Fld := ⟨23, 2⟩
abbrev CTL_LOOP_CFG1_ACT_HB : Fld := ⟨25, 2⟩
abbrev CTL_LOOP_SP_VALUE : Fld := ⟨0, 32⟩
abbrev CTL_LOOP_MAN_VALUE : Fld := ⟨0, 32⟩
abbrev CTL_LOOP_CMD_CMD : Fld := ⟨0, 2⟩
abbrev CTL_LOOP_STAT_STATE : Fld := ⟨0, 3⟩
abbrev CTL_LOOP_STAT_REGION : Fld := ⟨3, 4⟩
abbrev CTL_LOOP_STAT_WINNER : Fld := ⟨7, 1⟩
abbrev CTL_LOOP_STAT_SAT_HI : Fld := ⟨8, 1⟩
abbrev CTL_LOOP_STAT_SAT_LO : Fld := ⟨9, 1⟩
abbrev CTL_LOOP_STAT_SLEW : Fld := ⟨10, 1⟩
abbrev CTL_LOOP_STAT_BUMP_CLAMP : Fld := ⟨11, 1⟩
abbrev CTL_LOOP_STAT_LATE : Fld := ⟨12, 1⟩
abbrev CTL_LOOP_STAT_FB_INVALID : Fld := ⟨13, 1⟩
abbrev CTL_LOOP_STAT_INJ : Fld := ⟨14, 1⟩
abbrev CTL_LOOP_STAT_SKIP_ARMED : Fld := ⟨16, 8⟩
abbrev CTL_LOOP_STAT_RGN_CHG : Fld := ⟨24, 8⟩
abbrev CTL_LOOP_SPR_VALUE : Fld := ⟨0, 32⟩
abbrev CTL_LOOP_PV_VALUE : Fld := ⟨0, 32⟩
abbrev CTL_LOOP_E_VALUE : Fld := ⟨0, 32⟩
abbrev CTL_LOOP_I_VALUE : Fld := ⟨0, 32⟩
abbrev CTL_LOOP_URAW_VALUE : Fld := ⟨0, 32⟩
abbrev CTL_LOOP_U_VALUE : Fld := ⟨0, 32⟩
abbrev CTL_LOOP_UACT_VALUE : Fld := ⟨0, 32⟩
abbrev CTL_LOOP_KP_VALUE : Fld := ⟨0, 32⟩
abbrev CTL_LOOP_KI_VALUE : Fld := ⟨0, 32⟩
abbrev CTL_LOOP_KD_VALUE : Fld := ⟨0, 32⟩
abbrev CTL_CURB_STAT_WINNER : Fld := ⟨0, 6⟩
abbrev CTL_CURB_STAT_MEMBERS : Fld := ⟨6, 3⟩
abbrev CTL_CURB_STAT_MANUAL : Fld := ⟨9, 1⟩
abbrev CTL_CURB_STAT_SWITCHES : Fld := ⟨16, 16⟩
abbrev CTL_CURB_MAN_VALUE : Fld := ⟨0, 32⟩
abbrev CTL_CURB_CMD_CMD : Fld := ⟨0, 2⟩
abbrev CTL_TRC_CTRL_ARM : Fld := ⟨0, 1⟩
abbrev CTL_TRC_CTRL_STOP : Fld := ⟨1, 1⟩
abbrev CTL_TRC_CTRL_FORCE : Fld := ⟨2, 1⟩
abbrev CTL_TRC_CTRL_MODE : Fld := ⟨3, 1⟩
abbrev CTL_TRC_TRIG_SRC : Fld := ⟨0, 4⟩
abbrev CTL_TRC_TRIG_EDGE : Fld := ⟨4, 2⟩
abbrev CTL_TRC_TRIG_TRIG_INJ : Fld := ⟨6, 1⟩
abbrev CTL_TRC_LEVEL_LEVEL : Fld := ⟨0, 32⟩
abbrev CTL_TRC_PRE_PRE : Fld := ⟨0, 16⟩
abbrev CTL_TRC_STAT_STATE : Fld := ⟨0, 2⟩
abbrev CTL_TRC_STAT_TRIG_IDX : Fld := ⟨16, 16⟩
abbrev CTL_TRC_TRIG_TB_LO_TB : Fld := ⟨0, 32⟩
abbrev CTL_TRC_TRIG_TB_HI_TB : Fld := ⟨0, 32⟩
abbrev CTL_TRC_CFG_LOOP : Fld := ⟨0, 6⟩
abbrev CTL_TRC_CFG_NODE : Fld := ⟨6, 4⟩
abbrev CTL_TRC_CFG_DEC : Fld := ⟨10, 8⟩
abbrev CTL_TRC_CFG_EN : Fld := ⟨18, 1⟩
abbrev CTL_TRC_IDX_WR_IDX : Fld := ⟨0, 16⟩
abbrev CTL_TRC_IDX_WRAPS : Fld := ⟨16, 16⟩
abbrev CTL_TRC_TB_LO_TB : Fld := ⟨0, 32⟩
abbrev CTL_TRC_TB_HI_TB : Fld := ⟨0, 32⟩
abbrev CTL_INJ_CFG_LOOP : Fld := ⟨0, 6⟩
abbrev CTL_INJ_CFG_POINT : Fld := ⟨6, 2⟩
abbrev CTL_INJ_CFG_SIG : Fld := ⟨8, 2⟩
abbrev CTL_INJ_CFG_N : Fld := ⟨10, 4⟩
abbrev CTL_INJ_CFG_HOLD : Fld := ⟨14, 6⟩
abbrev CTL_INJ_AMP_VALUE : Fld := ⟨0, 32⟩
abbrev CTL_INJ_F0_VALUE : Fld := ⟨0, 32⟩
abbrev CTL_INJ_F1_VALUE : Fld := ⟨0, 32⟩
abbrev CTL_INJ_ABORT_LO_VALUE : Fld := ⟨0, 32⟩
abbrev CTL_INJ_ABORT_HI_VALUE : Fld := ⟨0, 32⟩
abbrev CTL_INJ_DUR_DUR : Fld := ⟨0, 20⟩
abbrev CTL_INJ_CTRL_START : Fld := ⟨0, 1⟩
abbrev CTL_INJ_CTRL_STOP : Fld := ⟨1, 1⟩
abbrev CTL_INJ_STAT_STATE : Fld := ⟨0, 2⟩
abbrev CTL_INJ_STAT_CAUSE : Fld := ⟨2, 4⟩
abbrev CTL_INJ_TB_LO_TB : Fld := ⟨0, 32⟩
abbrev CTL_INJ_TB_HI_TB : Fld := ⟨0, 32⟩
abbrev CAN_CTRL_MODE : Fld := ⟨0, 2⟩
abbrev CAN_CTRL_RECOVER : Fld := ⟨2, 1⟩
abbrev CAN_CTRL_AUTO_REC : Fld := ⟨3, 1⟩
abbrev CAN_CTRL_ACK_LIMIT : Fld := ⟨4, 8⟩
abbrev CAN_CTRL_FD_EN : Fld := ⟨12, 1⟩
abbrev CAN_CTRL_WAKE_MODE : Fld := ⟨13, 2⟩
abbrev CAN_NBT_BRP : Fld := ⟨0, 6⟩
abbrev CAN_NBT_TSEG1 : Fld := ⟨6, 9⟩
abbrev CAN_NBT_TSEG2 : Fld := ⟨15, 8⟩
abbrev CAN_NBT_SJW : Fld := ⟨23, 8⟩
abbrev CAN_DBT_BRP : Fld := ⟨0, 6⟩
abbrev CAN_DBT_TSEG1 : Fld := ⟨6, 6⟩
abbrev CAN_DBT_TSEG2 : Fld := ⟨12, 5⟩
abbrev CAN_DBT_SJW : Fld := ⟨17, 5⟩
abbrev CAN_TDC_TDC_EN : Fld := ⟨0, 1⟩
abbrev CAN_TDC_TDCO : Fld := ⟨1, 7⟩
abbrev CAN_TDC_TDCV : Fld := ⟨8, 7⟩
abbrev CAN_TDC_TDC_SAT : Fld := ⟨15, 1⟩
abbrev CAN_STATUS_STATE : Fld := ⟨0, 2⟩
abbrev CAN_STATUS_TEC : Fld := ⟨2, 8⟩
abbrev CAN_STATUS_REC : Fld := ⟨10, 8⟩
abbrev CAN_STATUS_NO_PEER : Fld := ⟨18, 1⟩
abbrev CAN_STATUS_ACK_RUN : Fld := ⟨19, 8⟩
abbrev CAN_STATUS_MODE_ACT : Fld := ⟨27, 2⟩
abbrev CAN_STATUS_WOKE : Fld := ⟨29, 1⟩
abbrev CAN_ERR_ERR_CNT : Fld := ⟨0, 16⟩
abbrev CAN_ERR_BUS_OFF_CNT : Fld := ⟨16, 8⟩
abbrev CAN_ERR_LAST_ERR : Fld := ⟨24, 3⟩
abbrev CAN_RSEQ_RSEQ : Fld := ⟨0, 32⟩
abbrev CAN_LOSS_QUEUE_OVF : Fld := ⟨0, 16⟩
abbrev CAN_LOSS_DELIV_OVF : Fld := ⟨16, 16⟩
abbrev CAN_WAKE_ID_WAKE_ID : Fld := ⟨0, 29⟩
abbrev CAN_WAKE_ID_IDE : Fld := ⟨29, 1⟩
abbrev CAN_WAKE_MASK_WAKE_MASK : Fld := ⟨0, 29⟩
abbrev CAN_WAKE_DATA_LO_WAKE_DATA : Fld := ⟨0, 32⟩
abbrev CAN_WAKE_DATA_HI_WAKE_DATA : Fld := ⟨0, 32⟩
abbrev CAN_WAKE_CFG_WAKE_DLC : Fld := ⟨0, 4⟩
abbrev CAN_WAKE_CFG_DATA_CHK : Fld := ⟨4, 1⟩
abbrev CAN_WAKE_CFG_WAKE_RATE : Fld := ⟨5, 2⟩
abbrev CAN_FILT_INSTR : Fld := ⟨0, 11⟩
abbrev CAN_FILT_PATH : Fld := ⟨11, 9⟩
abbrev CAN_FILT_MAPS : Fld := ⟨20, 7⟩
abbrev CAN_ISO_ADDR : Fld := ⟨0, 8⟩
abbrev CAN_ISO_ROLE : Fld := ⟨8, 1⟩
abbrev CAN_ISO_ADDR_LOST : Fld := ⟨9, 1⟩
abbrev CAN_ISO_RAP_FOREIGN : Fld := ⟨16, 16⟩
abbrev CAN_SLOT_ID_ID : Fld := ⟨0, 29⟩
abbrev CAN_SLOT_ID_IDE : Fld := ⟨29, 1⟩
abbrev CAN_SLOT_ID_FDF : Fld := ⟨30, 1⟩
abbrev CAN_SLOT_ID_BRS : Fld := ⟨31, 1⟩
abbrev CAN_SLOT_CTRL_DLC : Fld := ⟨0, 4⟩
abbrev CAN_SLOT_CTRL_MODE : Fld := ⟨4, 1⟩
abbrev CAN_SLOT_CTRL_POLICY : Fld := ⟨5, 1⟩
abbrev CAN_SLOT_CTRL_PERIOD : Fld := ⟨6, 16⟩
abbrev CAN_SLOT_CTRL_OWNER : Fld := ⟨22, 1⟩
abbrev CAN_SLOT_TB_LO_TX_TB : Fld := ⟨0, 32⟩
abbrev CAN_SLOT_TB_HI_TX_TB : Fld := ⟨0, 32⟩
abbrev CAN_SLOT_LATE_LATE_LIM : Fld := ⟨0, 16⟩
abbrev CAN_SLOT_CMD_ARM : Fld := ⟨0, 1⟩
abbrev CAN_SLOT_CMD_ABORT : Fld := ⟨1, 1⟩
abbrev CAN_SLOT_STAT_STATE : Fld := ⟨0, 3⟩
abbrev CAN_SLOT_STAT_RESULT : Fld := ⟨3, 4⟩
abbrev CAN_SLOT_STAT_ARM_PENDING : Fld := ⟨7, 1⟩
abbrev CAN_SLOT_STAT_ATTEMPTS : Fld := ⟨8, 8⟩
abbrev CAN_SLOT_STAT_SKIPPED : Fld := ⟨16, 16⟩
abbrev CAN_SLOT_STAMP_SOF : Fld := ⟨0, 32⟩
abbrev CAN_SLOT_DATA_BYTES : Fld := ⟨0, 32⟩
abbrev TLK_STATUS_MID : Fld := ⟨0, 6⟩
abbrev TLK_STATUS_LEADER : Fld := ⟨6, 6⟩
abbrev TLK_STATUS_STATE : Fld := ⟨12, 3⟩
abbrev TLK_STATUS_ALIGNED : Fld := ⟨15, 1⟩
abbrev TLK_STATUS_POSE_ROLE : Fld := ⟨16, 1⟩
abbrev TLK_STATUS_TIME_ROLE : Fld := ⟨17, 1⟩
abbrev TLK_STATUS_ISOBUS_ROLE : Fld := ⟨18, 1⟩
abbrev TLK_STATUS_TOPO_MISMATCH : Fld := ⟨19, 1⟩
abbrev TLK_STATUS_HOPS_EXCEEDED : Fld := ⟨20, 1⟩
abbrev TLK_STATUS_LEADER_VALID : Fld := ⟨21, 1⟩
abbrev TLK_TERM_TERM : Fld := ⟨0, 16⟩
abbrev TLK_TERM_ELECTIONS : Fld := ⟨16, 8⟩
abbrev TLK_MEMBERS0_MAP : Fld := ⟨0, 32⟩
abbrev TLK_MEMBERS1_MAP : Fld := ⟨0, 32⟩
abbrev TLK_CLK_CLK_OFS : Fld := ⟨0, 16⟩
abbrev TLK_CLK_DEPTH : Fld := ⟨16, 4⟩
abbrev TLK_CLK_TB_STEP : Fld := ⟨20, 1⟩
abbrev TLK_CLK_TB_SLEW : Fld := ⟨21, 1⟩
abbrev TLK_CLK_TB_AHEAD : Fld := ⟨22, 1⟩
abbrev TLK_LINK_STAT_STATE : Fld := ⟨0, 2⟩
abbrev TLK_LINK_STAT_PEER : Fld := ⟨2, 6⟩
abbrev TLK_LINK_STAT_PARENT : Fld := ⟨8, 1⟩
abbrev TLK_LINK_STAT_BACKUP_USE : Fld := ⟨9, 1⟩
abbrev TLK_LINK_DLY_DELAY : Fld := ⟨0, 16⟩
abbrev TLK_LINK_DLY_OFFSET : Fld := ⟨16, 16⟩
abbrev TLK_LINK_CNT_CRC_ERR : Fld := ⟨0, 16⟩
abbrev TLK_LINK_CNT_RESENDS : Fld := ⟨16, 8⟩
abbrev TLK_LINK_CNT_DOWNS : Fld := ⟨24, 8⟩
abbrev TLK_PAIR_STAT_STATE : Fld := ⟨0, 3⟩
abbrev TLK_PAIR_STAT_B : Fld := ⟨3, 1⟩
abbrev TLK_PAIR_STAT_PARTNER_HB : Fld := ⟨4, 1⟩
abbrev TLK_PAIR_STAT_SHADOW_BAD : Fld := ⟨5, 1⟩
abbrev TLK_PAIR_STAT_PAIR_UNRESOLVED : Fld := ⟨6, 1⟩
abbrev TLK_PAIR_STAT_PAIR_SYNC : Fld := ⟨7, 1⟩
abbrev TLK_PAIR_STAT_TAKEOVERS : Fld := ⟨8, 8⟩
abbrev TLK_PAIR_STAT_HB_MISSED : Fld := ⟨16, 16⟩
abbrev TLK_PAIR_T_LO_TB : Fld := ⟨0, 32⟩
abbrev TLK_PAIR_T_HI_TB : Fld := ⟨0, 32⟩
abbrev TLK_PAIR_CTRL_HANDOVER : Fld := ⟨0, 1⟩
abbrev SAF_STATUS_SO_CLOSED : Fld := ⟨0, 4⟩
abbrev SAF_STATUS_SI_RELEASED : Fld := ⟨4, 4⟩
abbrev SAF_STATUS_ISLAND_OK : Fld := ⟨8, 1⟩
abbrev SAF_STATUS_SAFE_LOCK : Fld := ⟨9, 1⟩
abbrev SAF_STATUS_MIRROR_OK : Fld := ⟨10, 1⟩
abbrev SAF_STATUS_SRST_STUCK : Fld := ⟨11, 1⟩
abbrev SAF_STATUS_SW_INVALID : Fld := ⟨12, 1⟩
abbrev SAF_STATUS_SW_CHANGED : Fld := ⟨13, 1⟩
abbrev SAF_STATUS_RESETS : Fld := ⟨14, 8⟩
abbrev SAF_SW_SW : Fld := ⟨0, 16⟩
abbrev SAF_SW_VALID : Fld := ⟨16, 16⟩
abbrev SAF_IN_A : Fld := ⟨0, 1⟩
abbrev SAF_IN_B : Fld := ⟨1, 1⟩
abbrev SAF_IN_RELEASED : Fld := ⟨2, 1⟩
abbrev SAF_IN_DISCREPANCY : Fld := ⟨3, 1⟩
abbrev SAF_IN_TP_FAULT : Fld := ⟨4, 1⟩
abbrev SAF_IN_CROSS_SHORT : Fld := ⟨5, 1⟩
abbrev SAF_IN_TP_DRIVER : Fld := ⟨6, 1⟩
abbrev SAF_IN_MODE : Fld := ⟨7, 2⟩
abbrev SAF_IN_DEMANDS : Fld := ⟨16, 16⟩
abbrev SAF_SO_CLOSED : Fld := ⟨0, 1⟩
abbrev SAF_SO_H_RB : Fld := ⟨1, 1⟩
abbrev SAF_SO_L_RB : Fld := ⟨2, 1⟩
abbrev SAF_SO_OUT_FAULT : Fld := ⟨3, 1⟩
abbrev SAF_SO_WAIT_SRST : Fld := ⟨4, 1⟩
abbrev SAF_SO_AUTO : Fld := ⟨5, 1⟩
abbrev SAF_SO_OPENS : Fld := ⟨8, 8⟩
abbrev SAF_SO_TESTS : Fld := ⟨16, 16⟩
abbrev SAF_CUT_MAP : Fld := ⟨0, 32⟩
abbrev SAF_CONN_STAT_USED : Fld := ⟨0, 1⟩
abbrev SAF_CONN_STAT_PRODUCER : Fld := ⟨1, 1⟩
abbrev SAF_CONN_STAT_STATE : Fld := ⟨2, 2⟩
abbrev SAF_CONN_STAT_SIG : Fld := ⟨8, 8⟩
abbrev SAF_CONN_STAT_LAST : Fld := ⟨16, 16⟩
abbrev SAF_CONN_ERR_CRC_ERR : Fld := ⟨0, 16⟩
abbrev SAF_CONN_ERR_SEQ_ERR : Fld := ⟨16, 16⟩
abbrev BRD_STATUS_LOCK : Fld := ⟨0, 2⟩
abbrev BRD_STATUS_OWNER : Fld := ⟨2, 1⟩
abbrev BRD_STATUS_LIVERY : Fld := ⟨3, 2⟩
abbrev BRD_STATUS_LIVERY_OPEN : Fld := ⟨5, 1⟩
abbrev BRD_STATUS_UNLOCKS : Fld := ⟨6, 5⟩
abbrev BRD_STATUS_TLS : Fld := ⟨11, 3⟩
abbrev BRD_STATUS_CAN : Fld := ⟨14, 6⟩
abbrev BRD_STATUS_TT_HWM_VALID : Fld := ⟨20, 1⟩
abbrev BRD_CMD_CMD : Fld := ⟨0, 4⟩
abbrev BRD_RESULT_RESULT : Fld := ⟨0, 8⟩
abbrev BRD_RESULT_CMD : Fld := ⟨8, 4⟩
abbrev BRD_CHAL_VALUE : Fld := ⟨0, 32⟩
abbrev BRD_TT_HWM_LO_VALUE : Fld := ⟨0, 32⟩
abbrev BRD_TT_HWM_HI_VALUE : Fld := ⟨0, 32⟩
abbrev BRD_SESS_STAT_OPEN : Fld := ⟨0, 1⟩
abbrev BRD_SESS_STAT_ROLE : Fld := ⟨1, 4⟩
abbrev BRD_SESS_STAT_CTRL : Fld := ⟨5, 2⟩
abbrev BRD_SESS_STAT_ADDR : Fld := ⟨7, 8⟩
abbrev BRD_SESS_STAT_AGE : Fld := ⟨16, 16⟩
abbrev BRD_SESS_CNT_TAG_FAIL : Fld := ⟨0, 16⟩
abbrev BRD_SESS_CNT_REKEYS : Fld := ⟨16, 8⟩
abbrev BRD_SESS_CNT_UNAUTH_DROP : Fld := ⟨24, 8⟩
abbrev BRD_LIV_STATE : Fld := ⟨0, 2⟩
abbrev BRD_LIV_BOUND : Fld := ⟨2, 7⟩
abbrev BRD_LIV_VERSION : Fld := ⟨9, 16⟩
abbrev BRD_HIRE_STAT_STATE : Fld := ⟨0, 3⟩
abbrev BRD_HIRE_STAT_LIVERY : Fld := ⟨3, 2⟩
abbrev BRD_HIRE_STAT_OVER : Fld := ⟨5, 1⟩
abbrev BRD_HIRE_AREA_M2 : Fld := ⟨0, 32⟩
abbrev BRD_HIRE_VOL_UNITS : Fld := ⟨0, 32⟩
abbrev FAR_STATUS_STARTUP_DONE : Fld := ⟨0, 1⟩
abbrev FAR_STATUS_STARTUP_MS : Fld := ⟨1, 10⟩
abbrev FAR_STATUS_SLICES_RUN : Fld := ⟨11, 1⟩
abbrev FAR_STATUS_CAPACITY_LOST : Fld := ⟨12, 1⟩
abbrev FAR_STATUS_SPARE_LOST : Fld := ⟨13, 1⟩
abbrev FAR_STATUS_FIELD_MAP_LOST : Fld := ⟨14, 1⟩
abbrev FAR_CMD_CMD : Fld := ⟨0, 4⟩
abbrev FAR_CMD_KIND : Fld := ⟨4, 4⟩
abbrev FAR_CMD_INDEX : Fld := ⟨8, 9⟩
abbrev FAR_RESULT_RESULT : Fld := ⟨0, 3⟩
abbrev FAR_RESULT_PASSES : Fld := ⟨3, 2⟩
abbrev FAR_LAST_KIND : Fld := ⟨0, 4⟩
abbrev FAR_LAST_INDEX : Fld := ⟨4, 9⟩
abbrev FAR_CAP_NOMINAL : Fld := ⟨0, 9⟩
abbrev FAR_CAP_IN_SERVICE : Fld := ⟨9, 9⟩
abbrev FAR_CAP_SPARES : Fld := ⟨18, 4⟩
abbrev FAR_CAP_RETIRED : Fld := ⟨22, 9⟩
abbrev FAR_CAP_LOST : Fld := ⟨31, 1⟩
abbrev FAR_SRAM_REP_ROWS_USED : Fld := ⟨0, 9⟩
abbrev FAR_SRAM_REP_FENCED : Fld := ⟨9, 9⟩
abbrev FAR_DRAM_REP_PPR_USED : Fld := ⟨0, 6⟩
abbrev FAR_DRAM_REP_PAGES_RET : Fld := ⟨6, 13⟩
abbrev FAR_DRAM_REP_RESERVE_LEFT : Fld := ⟨19, 13⟩
abbrev STB_STATUS_FROZEN : Fld := ⟨0, 1⟩
abbrev STB_STATUS_FULL : Fld := ⟨1, 1⟩
abbrev STB_STATUS_NOR_FULL : Fld := ⟨2, 1⟩
abbrev STB_STATUS_UNCLEAN : Fld := ⟨3, 1⟩
abbrev STB_STATUS_DROP : Fld := ⟨4, 1⟩
abbrev STB_STATUS_CORRUPT : Fld := ⟨5, 1⟩
abbrev STB_STATUS_COLLECTING : Fld := ⟨6, 1⟩
abbrev STB_CMD_CMD : Fld := ⟨0, 4⟩
abbrev STB_CMD_SEV_MASK : Fld := ⟨4, 4⟩
abbrev STB_RESULT_RESULT : Fld := ⟨0, 8⟩
abbrev STB_RESULT_CMD : Fld := ⟨8, 4⟩
abbrev STB_CHAL_VALUE : Fld := ⟨0, 32⟩
abbrev STB_SEQ_VALUE : Fld := ⟨0, 32⟩
abbrev STB_OPT_LO_VALUE : Fld := ⟨0, 32⟩
abbrev STB_OPT_HI_VALUE : Fld := ⟨0, 32⟩
abbrev STB_PCC_VALUE : Fld := ⟨0, 32⟩
abbrev STB_FILL_USED_KIB : Fld := ⟨0, 17⟩
abbrev STB_RECS_COUNT : Fld := ⟨0, 32⟩
abbrev STB_NOR_USED_KIB : Fld := ⟨0, 11⟩
abbrev STB_HOLD_HELD : Fld := ⟨0, 9⟩
abbrev STB_HOLD_HOLD_LOST : Fld := ⟨16, 16⟩
abbrev STB_DROP_COUNT : Fld := ⟨0, 32⟩
abbrev STB_OVW_COUNT : Fld := ⟨0, 32⟩
abbrev PWR_STATUS_VLOG : Fld := ⟨0, 10⟩
abbrev PWR_STATUS_VLOG_LOW : Fld := ⟨10, 1⟩
abbrev PWR_STATUS_VLOG_HIGH : Fld := ⟨11, 1⟩
abbrev PWR_STATUS_ATTN : Fld := ⟨12, 1⟩
abbrev PWR_STATUS_KEYOFF : Fld := ⟨13, 1⟩
abbrev PWR_STATUS_STAY : Fld := ⟨14, 1⟩
abbrev PWR_STATUS_DOMAINS : Fld := ⟨16, 12⟩
abbrev PWR_CFG_KEYOFF_DEB : Fld := ⟨0, 10⟩
abbrev PWR_CFG_STAY_AWAKE : Fld := ⟨10, 6⟩
abbrev PWR_CFG_WAKE_TMR : Fld := ⟨16, 14⟩
abbrev PWR_CFG_LINK_WAKE : Fld := ⟨30, 1⟩
abbrev PWR_CFG_HALTER_WAKE : Fld := ⟨31, 1⟩
abbrev PWR_CAUSE_CAUSE : Fld := ⟨0, 4⟩
abbrev PWR_CAUSE_CAN : Fld := ⟨4, 2⟩
abbrev PWR_CAUSE_LINK : Fld := ⟨6, 3⟩
abbrev PWR_CAUSE_BROWNOUTS : Fld := ⟨16, 8⟩
abbrev PWR_CMD_CMD : Fld := ⟨0, 2⟩
abbrev PWR_FW_SLOT : Fld := ⟨0, 1⟩
abbrev PWR_FW_TRIAL : Fld := ⟨1, 1⟩
abbrev PWR_FW_A_VALID : Fld := ⟨2, 1⟩
abbrev PWR_FW_B_VALID : Fld := ⟨3, 1⟩
abbrev PWR_FW_FALLBACK : Fld := ⟨4, 1⟩
abbrev PWR_FW_FW_SVN : Fld := ⟨5, 7⟩
abbrev PWR_FW_OTP_FW_SVN : Fld := ⟨12, 7⟩
abbrev PWR_FW_CTRL_CMD : Fld := ⟨0, 2⟩
abbrev PWR_FW_VERA_VERSION : Fld := ⟨0, 32⟩
abbrev PWR_FW_VERB_VERSION : Fld := ⟨0, 32⟩
abbrev SYS_ID_PART : Fld := ⟨0, 16⟩
abbrev SYS_ID_CODE_G : Fld := ⟨16, 1⟩
abbrev SYS_ID_DIE_STEP : Fld := ⟨24, 8⟩
abbrev SYS_SERIAL_LO_SERIAL : Fld := ⟨0, 32⟩
abbrev SYS_SERIAL_HI_SERIAL : Fld := ⟨0, 32⟩
abbrev SYS_LEVEL_LEVEL : Fld := ⟨0, 2⟩
abbrev SYS_LEVEL_LIMIT : Fld := ⟨4, 4⟩
abbrev SYS_LEVEL_CHANGES : Fld := ⟨16, 16⟩
abbrev SYS_TB_LO_TB : Fld := ⟨0, 32⟩
abbrev SYS_TB_HI_TB : Fld := ⟨0, 32⟩
abbrev SYS_RAP_CNT_REQUESTS : Fld := ⟨0, 16⟩
abbrev SYS_RAP_CNT_REFUSED : Fld := ⟨16, 16⟩
abbrev FLT_STATUS_TOP_CLASS : Fld := ⟨0, 3⟩
abbrev FLT_STATUS_RESET_LOOP : Fld := ⟨3, 1⟩
abbrev FLT_STATUS_QUEUED : Fld := ⟨4, 7⟩
abbrev FLT_STATUS_HANDLING : Fld := ⟨11, 1⟩
abbrev FLT_STATUS_ACTIVE : Fld := ⟨16, 8⟩
abbrev FLT_QCNT_DISPLACED : Fld := ⟨0, 16⟩
abbrev FLT_QCNT_SUBSUMED : Fld := ⟨16, 16⟩
abbrev FLT_ESC_ESCALATED : Fld := ⟨0, 16⟩
abbrev FLT_SEC_SRAM_COUNT : Fld := ⟨0, 32⟩
abbrev FLT_SEC_DRAM_COUNT : Fld := ⟨0, 32⟩
abbrev FLT_DED_SRAM : Fld := ⟨0, 16⟩
abbrev FLT_DED_DRAM : Fld := ⟨16, 16⟩
abbrev FLT_PARITY_COUNT : Fld := ⟨0, 32⟩
abbrev FLT_EMMC_LIFE_A : Fld := ⟨0, 4⟩
abbrev FLT_EMMC_LIFE_B : Fld := ⟨4, 4⟩
abbrev FLT_EMMC_PRE_EOL : Fld := ⟨8, 2⟩
abbrev FLT_EMMC_EMMC_WEAR : Fld := ⟨10, 1⟩
abbrev FLT_ACT_TYPE : Fld := ⟨0, 16⟩
abbrev FLT_ACT_CLASS : Fld := ⟨16, 3⟩
abbrev FLT_ACT_OCC : Fld := ⟨19, 7⟩
abbrev FLT_ACT_VALID : Fld := ⟨26, 1⟩
end F

/-- Registers of block SYS. -/
def regsSys : List RegDesc := [
  ⟨0x1FC, [], 0x0, 0x0, 0x0, 0x0, 0x1F, 0xF⟩,
  ⟨0x200, [(4, 32)], 0x0, 0x0, 0x0, 0x0, 0x0, 0x0⟩,
  ⟨0x0, [], 0x0, 0x0, 0x0, 0x0, 0x0, 0x960⟩,
  ⟨0x4, [], 0x0, 0x0, 0x0, 0x0, 0x0, 0x0⟩,
  ⟨0x8, [], 0x0, 0x0, 0x0, 0x0, 0x0, 0x0⟩,
  ⟨0xC, [], 0x0, 0x0, 0x0, 0x0, 0x0, 0x0⟩,
  ⟨0x10, [], 0x0, 0x0, 0x0, 0x0, 0x0, 0x0⟩,
  ⟨0x14, [], 0x0, 0x0, 0x0, 0x0, 0x0, 0x0⟩,
  ⟨0x18, [], 0x0, 0x0, 0x0, 0x0, 0x0, 0x0⟩]

/-- Registers of block PWR. -/
def regsPwr : List RegDesc := [
  ⟨0x10000, [], 0x0, 0x0, 0x0, 0x0, 0x0, 0x10000⟩,
  ⟨0x10004, [], 0x0, 0x0, 0x0, 0x0, 0xFFFFFFFF, 0x800015F4⟩,
  ⟨0x10008, [], 0x0, 0x0, 0x0, 0x0, 0x0, 0x1⟩,
  ⟨0x1000C, [], 0x0, 0x0, 0x0, 0x3, 0x0, 0x0⟩,
  ⟨0x10010, [], 0x0, 0x0, 0x0, 0x0, 0x0, 0x0⟩,
  ⟨0x10014, [], 0x0, 0x0, 0x0, 0x3, 0x0, 0x0⟩,
  ⟨0x10018, [], 0x0, 0x0, 0x0, 0x0, 0x0, 0x0⟩,
  ⟨0x1001C, [], 0x0, 0x0, 0x0, 0x0, 0x0, 0x0⟩]

/-- Registers of block FLT. -/
def regsFlt : List RegDesc := [
  ⟨0x20000, [], 0x0, 0x0, 0x0, 0x0, 0x0, 0x0⟩,
  ⟨0x20004, [], 0x0, 0x0, 0x0, 0x0, 0x0, 0x0⟩,
  ⟨0x20008, [], 0x0, 0x0, 0x0, 0x0, 0x0, 0x0⟩,
  ⟨0x2000C, [], 0x0, 0x0, 0x0, 0x0, 0x0, 0x0⟩,
  ⟨0x20010, [], 0x0, 0x0, 0x0, 0x0, 0x0, 0x0⟩,
  ⟨0x20014, [], 0x0, 0x0, 0x0, 0x0, 0x0, 0x0⟩,
  ⟨0x20018, [], 0x0, 0x0, 0x0, 0x0, 0x0, 0x0⟩,
  ⟨0x2001C, [], 0x0, 0x0, 0x400, 0x0, 0x0, 0x0⟩,
  ⟨0x20100, [(4, 32)], 0x0, 0x0, 0x0, 0x0, 0x0, 0x0⟩]

/-- Registers of block IMG. -/
def regsImg : List RegDesc := [
  ⟨0x30000, [], 0x0, 0x0, 0x0, 0xF, 0x0, 0x0⟩,
  ⟨0x30004, [], 0x0, 0x0, 0x0, 0x0, 0x0, 0xFF0000⟩,
  ⟨0x30008, [], 0x0, 0x0, 0x0, 0x0, 0x0, 0x0⟩,
  ⟨0x3000C, [], 0x0, 0x0, 0x0, 0x0, 0x0, 0x0⟩,
  ⟨0x30010, [], 0x0, 0x0, 0x0, 0x0, 0x0, 0x0⟩,
  ⟨0x30014, [], 0x0, 0x0, 0x0, 0x0, 0x0, 0x0⟩,
  ⟨0x30020, [(4, 8)], 0x0, 0x0, 0x0, 0x0, 0x0, 0x0⟩]

/-- Registers of block FBI. -/
def regsFbi : List RegDesc := [
  ⟨0x100000, [(256, 16)], 0x0, 0x0, 0x0, 0x0, 0x3FFF, 0x0⟩,
  ⟨0x100004, [(256, 16)], 0x0, 0x0, 0x0, 0x0, 0x7FFFFFF, 0xC80028⟩,
  ⟨0x100008, [(256, 16)], 0x0, 0x0, 0x0, 0x0, 0xFFFFFFFF, 0x3E81004⟩,
  ⟨0x10000C, [(256, 16)], 0x0, 0x0, 0x0, 0x0, 0xFFFFFFFF, 0x0⟩,
  ⟨0x100010, [(256, 16)], 0x0, 0x0, 0x0, 0x0, 0xFFFFFFFF, 0x3214FFFF⟩,
  ⟨0x100020, [(256, 16)], 0x0, 0x0, 0x0, 0x0, 0x0, 0x0⟩,
  ⟨0x100024, [(256, 16)], 0x0, 0x0, 0x0, 0x0, 0x0, 0x0⟩,
  ⟨0x100028, [(256, 16)], 0x0, 0x0, 0x0, 0x0, 0x0, 0x0⟩,
  ⟨0x10002C, [(256, 16)], 0x0, 0x0, 0x0, 0x0, 0x0, 0x0⟩,
  ⟨0x100048, [(256, 16)], 0xFFFFFFFF, 0x0, 0x0, 0x0, 0x0, 0x0⟩,
  ⟨0x10004C, [(256, 16)], 0xFFFFFFFF, 0x0, 0x0, 0x0, 0x0, 0x0⟩,
  ⟨0x100030, [(256, 16)], 0x0, 0x0, 0x0, 0x0, 0x0, 0x0⟩,
  ⟨0x100034, [(256, 16)], 0x0, 0x0, 0x0, 0x0, 0x0, 0xFFFFFFFF⟩,
  ⟨0x100038, [(256, 16)], 0x0, 0x0, 0x0, 0x0, 0x0, 0x0⟩,
  ⟨0x10003C, [(256, 16)], 0x0, 0x0, 0x0, 0x0, 0x0, 0x0⟩,
  ⟨0x100040, [(256, 16)], 0x0, 0x0, 0x940, 0x0, 0x0, 0x4⟩,
  ⟨0x100044, [(256, 16)], 0x0, 0x0, 0x0, 0x7, 0x0, 0x0⟩,
  ⟨0x100050, [(256, 16)], 0x0, 0x0, 0x0, 0x0, 0x0, 0x0⟩,
  ⟨0x100054, [(256, 16)], 0x0, 0x0, 0x0, 0x0, 0x0, 0x0⟩,
  ⟨0x100058, [(256, 16)], 0x0, 0x0, 0x0, 0x0, 0x0, 0x0⟩,
  ⟨0x10005C, [(256, 16)], 0x0, 0x0, 0x0, 0x0, 0x0, 0x0⟩,
  ⟨0x101000, [(64, 4)], 0x0, 0x0, 0x0, 0x0, 0x7FFFFF, 0x3200⟩,
  ⟨0x101004, [(64, 4)], 0xFFFFFFFF, 0x0, 0x0, 0x0, 0x0, 0x0⟩,
  ⟨0x101008, [(64, 4)], 0xFFFF, 0x0, 0x0, 0x0, 0x0, 0x0⟩,
  ⟨0x10100C, [(64, 4)], 0xFFFFFFFF, 0x0, 0x0, 0x0, 0x0, 0x0⟩,
  ⟨0x101010, [(64, 4)], 0xFFFFFFFF, 0x0, 0x0, 0x0, 0x0, 0x0⟩,
  ⟨0x101014, [(64, 4)], 0x0, 0x0, 0x0, 0x0, 0x0, 0x0⟩,
  ⟨0x101018, [(64, 4)], 0x0, 0x0, 0x2, 0x0, 0x0, 0x0⟩,
  ⟨0x101100, [(64, 4)], 0x0, 0x0, 0x0, 0x0, 0x0, 0x0⟩,
  ⟨0x101104, [(64, 4)], 0x0, 0x0, 0x0, 0x0, 0x0, 0x0⟩,
  ⟨0x101108, [(64, 4)], 0x0, 0x0, 0x0, 0x0, 0x0, 0x0⟩,
  ⟨0x10110C, [(64, 4)], 0x0, 0x0, 0x0, 0x0, 0x0, 0x0⟩,
  ⟨0x101200, [(4, 16)], 0x0, 0x0, 0x0, 0x0, 0x0, 0x0⟩,
  ⟨0x101300, [], 0x0, 0x0, 0x0, 0x0, 0x0, 0x0⟩]

/-- Registers of block GNS. -/
def regsGns : List RegDesc := [
  ⟨0x110000, [], 0x0, 0x0, 0x0, 0x0, 0xFFFFFFFF, 0x614F3CED⟩,
  ⟨0x110004, [], 0x0, 0x0, 0x0, 0x0, 0x7, 0x6⟩,
  ⟨0x110008, [], 0x0, 0x0, 0x0, 0x0, 0x0, 0x0⟩,
  ⟨0x11000C, [], 0x0, 0x0, 0x0, 0x0, 0x0, 0xFFFFFFFF⟩,
  ⟨0x110010, [], 0x0, 0x0, 0x0, 0x0, 0x0, 0x0⟩,
  ⟨0x110014, [], 0x0, 0x0, 0x0, 0x0, 0x0, 0x0⟩,
  ⟨0x110018, [], 0x0, 0x0, 0x0, 0x0, 0x0, 0x0⟩,
  ⟨0x11001C, [], 0x0, 0x0, 0x0, 0x0, 0x0, 0x0⟩,
  ⟨0x110020, [], 0x0, 0x0, 0x0, 0x0, 0x0, 0x0⟩,
  ⟨0x110024, [(4, 2)], 0x0, 0x0, 0x0, 0x0, 0x0, 0x0⟩,
  ⟨0x110030, [(4, 4)], 0x0, 0x0, 0x0, 0x0, 0x0, 0x0⟩,
  ⟨0x110040, [], 0x0, 0x0, 0x7FF, 0x0, 0x0, 0x0⟩,
  ⟨0x110044, [], 0x0, 0x0, 0x0, 0x0, 0x0, 0x50⟩,
  ⟨0x110048, [], 0x0, 0x0, 0x0, 0x0, 0x0, 0xC1C⟩,
  ⟨0x11004C, [], 0x0, 0x0, 0x0, 0x0, 0x0, 0x0⟩,
  ⟨0x110100, [(4, 96)], 0x0, 0x0, 0x0, 0x0, 0x0, 0x0⟩]

/-- Registers of block POS. -/
def regsPos : List RegDesc := [
  ⟨0x120000, [], 0x0, 0x0, 0x0, 0x0, 0x7FFFFF, 0xA1914⟩,
  ⟨0x120004, [], 0x0, 0x0, 0x0, 0x0, 0xFFFF, 0x258⟩,
  ⟨0x120008, [], 0x0, 0x0, 0x0, 0x0, 0x0, 0xFF000000⟩,
  ⟨0x12000C, [], 0x0, 0x0, 0x0, 0x0, 0x0, 0xFFFFFFFF⟩,
  ⟨0x120010, [], 0x0, 0x0, 0x0, 0x0, 0x0, 0x0⟩,
  ⟨0x120014, [], 0x0, 0x0, 0x0, 0x0, 0x0, 0x0⟩,
  ⟨0x120018, [], 0x0, 0x0, 0x10, 0x0, 0x0, 0x0⟩,
  ⟨0x12001C, [], 0x0, 0x0, 0x0, 0x0, 0x0, 0xFFFFFFFF⟩,
  ⟨0x120020, [], 0x0, 0x0, 0x0, 0x0, 0xFFFFFFFF, 0x15000000⟩,
  ⟨0x120024, [], 0x0, 0x0, 0x0, 0x0, 0x0, 0x0⟩,
  ⟨0x120028, [], 0x0, 0x0, 0x0, 0x0, 0x0, 0x0⟩,
  ⟨0x120100, [(4, 64)], 0x0, 0x0, 0x40000, 0x0, 0x0, 0x0⟩]

/-- Registers of block STR. -/
def regsStr : List RegDesc := [
  ⟨0x134000, [], 0x0, 0x0, 0x0, 0x0, 0x0, 0x0⟩,
  ⟨0x134100, [(4, 64)], 0x0, 0x0, 0x0, 0x0, 0x0, 0x0⟩,
  ⟨0x134300, [(4, 8)], 0x0, 0x0, 0x0, 0x0, 0x0, 0x0⟩,
  ⟨0x134400, [(4, 96)], 0x0, 0x0, 0x0, 0x0, 0x0, 0x0⟩,
  ⟨0x130000, [], 0x0, 0x0, 0x0, 0x0, 0xFFFFF, 0x19148⟩,
  ⟨0x130010, [], 0x0, 0x0, 0x0, 0x0, 0xFFFF, 0xC8⟩,
  ⟨0x130014, [], 0x0, 0x0, 0x0, 0x0, 0xFFFF, 0x1F4⟩,
  ⟨0x130018, [], 0x0, 0x0, 0x0, 0x0, 0xFFFF, 0x3E8⟩,
  ⟨0x13001C, [], 0x0, 0x0, 0x0, 0x0, 0xFFFF, 0x7D0⟩,
  ⟨0x130020, [], 0x0, 0x0, 0x0, 0x0, 0xFFFF, 0xFA0⟩,
  ⟨0x130024, [], 0x0, 0x0, 0x0, 0x0, 0xFFFF, 0x1F40⟩,
  ⟨0x130028, [], 0x0, 0x0, 0x0, 0x0, 0xFFFF, 0x36B0⟩,
  ⟨0x13002C, [], 0x0, 0x0, 0x0, 0x0, 0xFFFF, 0x4E20⟩,
  ⟨0x130040, [], 0x0, 0x0, 0x6000, 0x0, 0x0, 0x600⟩,
  ⟨0x130044, [], 0x0, 0x0, 0x0, 0x0, 0x0, 0x0⟩,
  ⟨0x130048, [], 0x0, 0x0, 0x0, 0x0, 0x0, 0x0⟩,
  ⟨0x13004C, [], 0x0, 0x0, 0x0, 0x0, 0x0, 0x7000000⟩,
  ⟨0x130050, [], 0x0, 0x0, 0x0, 0x0, 0x0, 0x0⟩,
  ⟨0x130054, [], 0x0, 0x0, 0x0, 0x0, 0x0, 0x0⟩,
  ⟨0x130058, [], 0x0, 0x0, 0x0, 0x0, 0x0, 0x0⟩,
  ⟨0x13005C, [], 0x0, 0x0, 0x0, 0x0, 0x0, 0x0⟩,
  ⟨0x130060, [], 0x0, 0x0, 0x0, 0x0, 0x0, 0x0⟩,
  ⟨0x130064, [], 0x0, 0x0, 0x0, 0x0, 0x0, 0x0⟩,
  ⟨0x130080, [(4, 9)], 0x0, 0x0, 0x0, 0x0, 0x0, 0x0⟩,
  ⟨0x131000, [(4, 96)], 0x0, 0x0, 0x1800000, 0x0, 0x0, 0x0⟩,
  ⟨0x131200, [(4, 96)], 0x0, 0x0, 0x0, 0x0, 0x0, 0x0⟩,
  ⟨0x131400, [(4, 96)], 0x0, 0x0, 0x0, 0x0, 0x0, 0x0⟩,
  ⟨0x136000, [], 0x10, 0x0, 0xC0, 0x0, 0x0, 0x0⟩,
  ⟨0x136004, [], 0x1, 0x0, 0x0, 0x0, 0x0, 0x0⟩,
  ⟨0x136010, [(4, 3)], 0xFFFFFFFF, 0x0, 0x0, 0x0, 0x0, 0xFFFFFFFF⟩,
  ⟨0x136020, [(4, 3)], 0x0, 0x0, 0x0, 0x0, 0x0, 0x0⟩,
  ⟨0x136030, [(4, 3)], 0x0, 0x0, 0x0, 0x0, 0x0, 0x0⟩,
  ⟨0x136100, [], 0x0, 0x0, 0x0, 0x0, 0x0, 0x0⟩,
  ⟨0x136104, [], 0x0, 0x0, 0x0, 0x0, 0x0, 0x0⟩,
  ⟨0x136200, [(4, 96)], 0x1FFFF, 0x0, 0x0, 0x0, 0x0, 0x0⟩,
  ⟨0x136400, [(4, 96)], 0x0, 0x0, 0x0, 0x0, 0x0, 0x0⟩,
  ⟨0x136600, [], 0x0, 0x0, 0x0, 0x0, 0x0, 0x0⟩,
  ⟨0x13660C, [], 0xFFFFFFFF, 0x0, 0x0, 0x0, 0x0, 0x0⟩,
  ⟨0x136614, [], 0x0, 0x0, 0x0, 0x0, 0x0, 0x0⟩,
  ⟨0x136604, [], 0x200, 0x0, 0x0, 0x400, 0x0, 0x0⟩]

/-- Registers of block STR. -/
def regsStr1 : List RegDesc := [
  ⟨0x136610, [], 0x0, 0x0, 0x0, 0x0, 0x0, 0x0⟩]

/-- Registers of block COV. -/
def regsCov : List RegDesc := [
  ⟨0x140000, [], 0x0, 0x0, 0x0, 0xF, 0x0, 0x0⟩,
  ⟨0x140004, [], 0xFFFF, 0x0, 0x0, 0x0, 0x0, 0x0⟩,
  ⟨0x140008, [], 0x0, 0x0, 0x80000, 0x0, 0x0, 0x0⟩,
  ⟨0x14000C, [], 0x0, 0x0, 0x0, 0x0, 0x0, 0x0⟩,
  ⟨0x140010, [], 0x0, 0x0, 0x0, 0x0, 0x0, 0x0⟩,
  ⟨0x140014, [], 0x0, 0x0, 0x0, 0x0, 0x0, 0x0⟩,
  ⟨0x140018, [], 0x0, 0x0, 0x0, 0x0, 0x0, 0x0⟩,
  ⟨0x140200, [(4, 8)], 0x0, 0x0, 0x0, 0x0, 0x0, 0x0⟩,
  ⟨0x14001C, [], 0x0, 0x0, 0x0, 0x0, 0x0, 0x0⟩,
  ⟨0x140020, [], 0x0, 0x0, 0x0, 0x0, 0x0, 0x0⟩,
  ⟨0x140024, [], 0x0, 0x0, 0x0, 0x0, 0x0, 0x0⟩,
  ⟨0x140028, [], 0x0, 0x0, 0x0, 0x0, 0x0, 0x0⟩,
  ⟨0x140030, [], 0x0, 0x0, 0x0, 0x0, 0x0, 0x0⟩,
  ⟨0x140034, [], 0x0, 0x0, 0x0, 0x0, 0x0, 0x0⟩,
  ⟨0x140038, [], 0x0, 0x0, 0x0, 0x0, 0x0, 0x0⟩,
  ⟨0x14003C, [], 0x0, 0x0, 0x0, 0x0, 0x0, 0x0⟩,
  ⟨0x140040, [], 0x0, 0x0, 0x0, 0x0, 0x0, 0x0⟩,
  ⟨0x140044, [], 0x0, 0x0, 0x0, 0x0, 0x0, 0x0⟩,
  ⟨0x14004C, [], 0x0, 0x0, 0x0, 0x0, 0x0, 0x0⟩,
  ⟨0x140400, [(4, 96)], 0x0, 0x0, 0x0, 0x0, 0x0, 0x0⟩]

/-- Registers of block PWM. -/
def regsPwm : List RegDesc := [
  ⟨0x150000, [], 0x2, 0x0, 0x0, 0x1, 0x0, 0x0⟩,
  ⟨0x150004, [], 0x0, 0x0, 0x8, 0x0, 0x0, 0x0⟩,
  ⟨0x150008, [], 0x0, 0x0, 0x0, 0x0, 0x3FF01FF, 0x1E0064⟩,
  ⟨0x150100, [(4, 16)], 0x0, 0x0, 0x0, 0x0, 0xFFFFFFFF, 0x1312D00⟩,
  ⟨0x151000, [(16, 104)], 0x0, 0x0, 0x0, 0x0, 0xFFFF01FF, 0x80⟩,
  ⟨0x151004, [(16, 104)], 0x0, 0x1FFFF, 0x0, 0x0, 0x0, 0x0⟩,
  ⟨0x151008, [(16, 104)], 0x0, 0xFFFF, 0x0, 0x0, 0x0, 0x0⟩,
  ⟨0x15100C, [(16, 104)], 0x0, 0x0, 0xC0000, 0x0, 0x0, 0x0⟩,
  ⟨0x152000, [(4, 4)], 0x0, 0x0, 0x0, 0x0, 0x7FFFF, 0x3200⟩,
  ⟨0x153000, [(16, 8)], 0x0, 0x0, 0x0, 0x0, 0xFFF, 0x0⟩,
  ⟨0x153004, [(16, 8)], 0x0, 0x0, 0x0, 0x3, 0x0, 0x0⟩,
  ⟨0x153008, [(16, 8)], 0x0, 0x0, 0x2, 0x0, 0x0, 0x0⟩,
  ⟨0x15300C, [(16, 8)], 0x0, 0x0, 0x0, 0x0, 0x0, 0x0⟩,
  ⟨0x154000, [(16, 8)], 0x0, 0x0, 0x0, 0x0, 0x7FFFF, 0xC8⟩,
  ⟨0x154004, [(16, 8)], 0x0, 0x0, 0x0, 0x0, 0xFFFFFFFF, 0x640000⟩,
  ⟨0x154008, [(16, 8)], 0x0, 0x0, 0x0, 0x4, 0x0, 0x0⟩,
  ⟨0x15400C, [(16, 8)], 0x0, 0x0, 0x0, 0x0, 0x0, 0x0⟩,
  ⟨0x155000, [], 0xFFFFFFFF, 0x0, 0x0, 0x0, 0x0, 0x0⟩,
  ⟨0x15500C, [], 0x0, 0x0, 0x0, 0x0, 0x0, 0x0⟩,
  ⟨0x155004, [], 0x1FF, 0x0, 0x0, 0x0, 0x0, 0x0⟩,
  ⟨0x155010, [], 0x0, 0x0, 0x0, 0x0, 0x0, 0x0⟩,
  ⟨0x155008, [], 0x0, 0x0, 0x0, 0x3, 0x0, 0x0⟩,
  ⟨0x155100, [(4, 3)], 0x0, 0x0, 0x0, 0x0, 0x0, 0x0⟩]

/-- Registers of block LSW. -/
def regsLsw : List RegDesc := [
  ⟨0x160000, [(32, 96)], 0x0, 0x0, 0x0, 0x0, 0xFFFFFFFF, 0xC850232⟩,
  ⟨0x160004, [(32, 96)], 0x0, 0x0, 0x0, 0x0, 0xFFFFFFFF, 0x3C21C172⟩,
  ⟨0x160008, [(32, 96)], 0x0, 0x0, 0x0, 0x0, 0x0, 0x0⟩,
  ⟨0x16000C, [(32, 96)], 0x0, 0x0, 0x800, 0x0, 0x0, 0x4000⟩,
  ⟨0x160010, [(32, 96)], 0x0, 0x0, 0x0, 0x1, 0x0, 0x0⟩,
  ⟨0x160014, [(32, 96)], 0x0, 0x0, 0x0, 0x0, 0x0, 0x0⟩,
  ⟨0x160018, [(32, 96)], 0x0, 0x0, 0x0, 0x0, 0x0, 0x0⟩,
  ⟨0x161000, [(16, 6)], 0x0, 0x0, 0x0, 0x0, 0x3FFFFFFF, 0x640AA50⟩,
  ⟨0x161004, [(16, 6)], 0x0, 0x0, 0x0, 0x0, 0x0, 0x0⟩,
  ⟨0x161008, [(16, 6)], 0x0, 0x0, 0x0, 0x0, 0x0, 0x0⟩,
  ⟨0x161100, [(4, 12)], 0x0, 0x0, 0x0, 0x0, 0x0, 0x0⟩,
  ⟨0x161140, [], 0x0, 0x0, 0x0, 0x0, 0x0, 0x0⟩,
  ⟨0x161150, [(4, 4)], 0x0, 0x0, 0x0, 0x4, 0x0, 0x0⟩,
  ⟨0x161200, [], 0x0, 0x0, 0x0, 0x0, 0x0, 0x0⟩,
  ⟨0x161210, [(4, 8)], 0x0, 0x0, 0x0, 0x0, 0x3FFFFF, 0x14⟩,
  ⟨0x161300, [(4, 96)], 0x0, 0x0, 0x0, 0x0, 0xFFFFF, 0x80000⟩]

/-- Registers of block CTL. -/
def regsCtl : List RegDesc := [
  ⟨0x170000, [], 0x0, 0x0, 0x20, 0x0, 0x0, 0xC⟩,
  ⟨0x170004, [], 0x0, 0x0, 0x0, 0x0, 0x0, 0x0⟩,
  ⟨0x170008, [], 0x0, 0x0, 0x0, 0x0, 0x0, 0x0⟩,
  ⟨0x170010, [(4, 5)], 0x0, 0x0, 0x0, 0x0, 0x0, 0x0⟩,
  ⟨0x171000, [(64, 64)], 0x0, 0x0, 0x0, 0x0, 0x3FFFFFFF, 0x1F001⟩,
  ⟨0x171004, [(64, 64)], 0x0, 0x0, 0x0, 0x0, 0x7FFFFFF, 0x19000⟩,
  ⟨0x171008, [(64, 64)], 0xFFFFFFFF, 0x0, 0x0, 0x0, 0x0, 0x0⟩,
  ⟨0x17100C, [(64, 64)], 0xFFFFFFFF, 0x0, 0x0, 0x0, 0x0, 0x0⟩,
  ⟨0x171010, [(64, 64)], 0x0, 0x0, 0x0, 0x3, 0x0, 0x0⟩,
  ⟨0x171014, [(64, 64)], 0x0, 0x0, 0x1800, 0x0, 0x0, 0x0⟩,
  ⟨0x171018, [(64, 64)], 0x0, 0x0, 0x0, 0x0, 0x0, 0x0⟩,
  ⟨0x17101C, [(64, 64)], 0x0, 0x0, 0x0, 0x0, 0x0, 0x0⟩,
  ⟨0x171020, [(64, 64)], 0x0, 0x0, 0x0, 0x0, 0x0, 0x0⟩,
  ⟨0x171024, [(64, 64)], 0x0, 0x0, 0x0, 0x0, 0x0, 0x0⟩,
  ⟨0x171028, [(64, 64)], 0x0, 0x0, 0x0, 0x0, 0x0, 0x0⟩,
  ⟨0x17102C, [(64, 64)], 0x0, 0x0, 0x0, 0x0, 0x0, 0x0⟩,
  ⟨0x171030, [(64, 64)], 0x0, 0x0, 0x0, 0x0, 0x0, 0x0⟩,
  ⟨0x171034, [(64, 64)], 0x0, 0x0, 0x0, 0x0, 0x0, 0x0⟩,
  ⟨0x171038, [(64, 64)], 0x0, 0x0, 0x0, 0x0, 0x0, 0x0⟩,
  ⟨0x17103C, [(64, 64)], 0x0, 0x0, 0x0, 0x0, 0x0, 0x0⟩,
  ⟨0x172000, [(16, 16)], 0x0, 0x0, 0x0, 0x0, 0x0, 0x0⟩,
  ⟨0x172004, [(16, 16)], 0xFFFFFFFF, 0x0, 0x0, 0x0, 0x0, 0x0⟩,
  ⟨0x172008, [(16, 16)], 0x0, 0x0, 0x0, 0x3, 0x0, 0x0⟩,
  ⟨0x173000, [], 0x8, 0x0, 0x0, 0x7, 0x0, 0x0⟩,
  ⟨0x173004, [], 0x7F, 0x0, 0x0, 0x0, 0x0, 0x0⟩,
  ⟨0x173008, [], 0xFFFFFFFF, 0x0, 0x0, 0x0, 0x0, 0x0⟩,
  ⟨0x17300C, [], 0xFFFF, 0x0, 0x0, 0x0, 0x0, 0x0⟩,
  ⟨0x173010, [], 0x0, 0x0, 0x0, 0x0, 0x0, 0x0⟩,
  ⟨0x173014, [], 0x0, 0x0, 0x0, 0x0, 0x0, 0x0⟩,
  ⟨0x173018, [], 0x0, 0x0, 0x0, 0x0, 0x0, 0x0⟩,
  ⟨0x173100, [(16, 16)], 0x7FFFF, 0x0, 0x0, 0x0, 0x0, 0x400⟩,
  ⟨0x173104, [(16, 16)], 0x0, 0x0, 0x0, 0x0, 0x0, 0x0⟩,
  ⟨0x173108, [(16, 16)], 0x0, 0x0, 0x0, 0x0, 0x0, 0x0⟩,
  ⟨0x17310C, [(16, 16)], 0x0, 0x0, 0x0, 0x0, 0x0, 0x0⟩,
  ⟨0x174000, [], 0xFFFFF, 0x0, 0x0, 0x0, 0x0, 0x5C00⟩,
  ⟨0x174004, [], 0xFFFFFFFF, 0x0, 0x0, 0x0, 0x0, 0x0⟩,
  ⟨0x174008, [], 0xFFFFFFFF, 0x0, 0x0, 0x0, 0x0, 0x0⟩,
  ⟨0x17400C, [], 0xFFFFFFFF, 0x0, 0x0, 0x0, 0x0, 0x0⟩,
  ⟨0x174014, [], 0xFFFFFFFF, 0x0, 0x0, 0x0, 0x0, 0x0⟩,
  ⟨0x174018, [], 0xFFFFFFFF, 0x0, 0x0, 0x0, 0x0, 0x0⟩]

/-- Registers of block CTL. -/
def regsCtl1 : List RegDesc := [
  ⟨0x174010, [], 0xFFFFF, 0x0, 0x0, 0x0, 0x0, 0x3E8⟩,
  ⟨0x17401C, [], 0x0, 0x0, 0x0, 0x3, 0x0, 0x0⟩,
  ⟨0x174020, [], 0x0, 0x0, 0x0, 0x0, 0x0, 0x0⟩,
  ⟨0x174024, [], 0x0, 0x0, 0x0, 0x0, 0x0, 0x0⟩,
  ⟨0x174028, [], 0x0, 0x0, 0x0, 0x0, 0x0, 0x0⟩]

/-- Registers of block CAN. -/
def regsCan : List RegDesc := [
  ⟨0x180000, [(16384, 4)], 0x3, 0x0, 0x0, 0x4, 0x7FF8, 0x2208⟩,
  ⟨0x180004, [(16384, 4)], 0x0, 0x0, 0x0, 0x0, 0x7FFFFFFF, 0x8080FC4⟩,
  ⟨0x180008, [(16384, 4)], 0x0, 0x0, 0x0, 0x0, 0x3FFFFF, 0x842C1⟩,
  ⟨0x18000C, [(16384, 4)], 0x0, 0x0, 0x8000, 0x0, 0xFF, 0x0⟩,
  ⟨0x180010, [(16384, 4)], 0x0, 0x0, 0x20000000, 0x0, 0x0, 0x3⟩,
  ⟨0x180014, [(16384, 4)], 0x0, 0x0, 0x0, 0x0, 0x0, 0x0⟩,
  ⟨0x180018, [(16384, 4)], 0x0, 0x0, 0x0, 0x0, 0x0, 0x0⟩,
  ⟨0x18001C, [(16384, 4)], 0x0, 0x0, 0x0, 0x0, 0x0, 0x0⟩,
  ⟨0x180020, [(16384, 4)], 0x0, 0x0, 0x0, 0x0, 0x3FFFFFFF, 0x0⟩,
  ⟨0x180024, [(16384, 4)], 0x0, 0x0, 0x0, 0x0, 0x1FFFFFFF, 0x0⟩,
  ⟨0x180028, [(16384, 4)], 0x0, 0x0, 0x0, 0x0, 0xFFFFFFFF, 0x0⟩,
  ⟨0x18002C, [(16384, 4)], 0x0, 0x0, 0x0, 0x0, 0xFFFFFFFF, 0x0⟩,
  ⟨0x180030, [(16384, 4)], 0x0, 0x0, 0x0, 0x0, 0x7F, 0x20⟩,
  ⟨0x180034, [(16384, 4)], 0x0, 0x0, 0x0, 0x0, 0x0, 0x0⟩,
  ⟨0x180038, [(16384, 4)], 0x0, 0x0, 0x200, 0x0, 0x0, 0xFE⟩,
  ⟨0x181000, [(16384, 4), (96, 128)], 0xFFFFFFFF, 0x0, 0x0, 0x0, 0x0, 0x0⟩,
  ⟨0x181004, [(16384, 4), (96, 128)], 0x3FFFFF, 0x0, 0x0, 0x0, 0x400000, 0x0⟩,
  ⟨0x181008, [(16384, 4), (96, 128)], 0xFFFFFFFF, 0x0, 0x0, 0x0, 0x0, 0x0⟩,
  ⟨0x18100C, [(16384, 4), (96, 128)], 0xFFFFFFFF, 0x0, 0x0, 0x0, 0x0, 0x0⟩,
  ⟨0x181010, [(16384, 4), (96, 128)], 0xFFFF, 0x0, 0x0, 0x0, 0x0, 0x0⟩,
  ⟨0x181014, [(16384, 4), (96, 128)], 0x0, 0x0, 0x0, 0x3, 0x0, 0x0⟩,
  ⟨0x181018, [(16384, 4), (96, 128)], 0x0, 0x0, 0x0, 0x0, 0x0, 0x0⟩,
  ⟨0x18101C, [(16384, 4), (96, 128)], 0x0, 0x0, 0x0, 0x0, 0x0, 0x0⟩,
  ⟨0x181020, [(16384, 4), (96, 128), (4, 16)], 0xFFFFFFFF, 0x0, 0x0, 0x0, 0x0, 0x0⟩]

/-- Registers of block TLK. -/
def regsTlk : List RegDesc := [
  ⟨0x190000, [], 0x0, 0x0, 0x180000, 0x0, 0x0, 0x0⟩,
  ⟨0x190004, [], 0x0, 0x0, 0x0, 0x0, 0x0, 0x0⟩,
  ⟨0x190008, [], 0x0, 0x0, 0x0, 0x0, 0x0, 0x0⟩,
  ⟨0x19000C, [], 0x0, 0x0, 0x0, 0x0, 0x0, 0x0⟩,
  ⟨0x190010, [], 0x0, 0x0, 0x100000, 0x0, 0x0, 0x0⟩,
  ⟨0x190100, [(16, 5)], 0x0, 0x0, 0x0, 0x0, 0x0, 0x0⟩,
  ⟨0x190104, [(16, 5)], 0x0, 0x0, 0x0, 0x0, 0x0, 0x0⟩,
  ⟨0x190108, [(16, 5)], 0x0, 0x0, 0x0, 0x0, 0x0, 0x0⟩,
  ⟨0x190200, [], 0x0, 0x0, 0x20, 0x0, 0x0, 0x0⟩,
  ⟨0x190204, [], 0x0, 0x0, 0x0, 0x0, 0x0, 0x0⟩,
  ⟨0x190208, [], 0x0, 0x0, 0x0, 0x0, 0x0, 0x0⟩,
  ⟨0x19020C, [], 0x0, 0x0, 0x0, 0x1, 0x0, 0x0⟩]

/-- Registers of block SAF. -/
def regsSaf : List RegDesc := [
  ⟨0x1A0000, [], 0x0, 0x0, 0x0, 0x0, 0x0, 0x0⟩,
  ⟨0x1A0004, [], 0x0, 0x0, 0x0, 0x0, 0x0, 0x0⟩,
  ⟨0x1A0010, [(4, 4)], 0x0, 0x0, 0x0, 0x0, 0x0, 0x0⟩,
  ⟨0x1A0020, [(4, 4)], 0x0, 0x0, 0x0, 0x0, 0x0, 0x0⟩,
  ⟨0x1A0040, [(16, 4), (4, 4)], 0x0, 0x0, 0x0, 0x0, 0x0, 0x0⟩,
  ⟨0x1A0100, [(8, 64)], 0x0, 0x0, 0x0, 0x0, 0x0, 0x0⟩,
  ⟨0x1A0104, [(8, 64)], 0x0, 0x0, 0x0, 0x0, 0x0, 0x0⟩]

/-- Registers of block BRD. -/
def regsBrd : List RegDesc := [
  ⟨0x1B0000, [], 0x0, 0x0, 0x0, 0x0, 0x0, 0x0⟩,
  ⟨0x1B0004, [], 0x0, 0x0, 0x0, 0xF, 0x0, 0x0⟩,
  ⟨0x1B0008, [], 0x0, 0x0, 0x0, 0x0, 0x0, 0x0⟩,
  ⟨0x1B000C, [], 0x0, 0x0, 0x0, 0x0, 0x0, 0x0⟩,
  ⟨0x1B0010, [], 0x0, 0x0, 0x0, 0x0, 0x0, 0x0⟩,
  ⟨0x1B0014, [], 0x0, 0x0, 0x0, 0x0, 0x0, 0x0⟩,
  ⟨0x1B0100, [(8, 36)], 0x0, 0x0, 0x0, 0x0, 0x0, 0x0⟩,
  ⟨0x1B0104, [(8, 36)], 0x0, 0x0, 0x0, 0x0, 0x0, 0x0⟩,
  ⟨0x1B0280, [(4, 4)], 0x0, 0x0, 0x0, 0x0, 0x0, 0x0⟩,
  ⟨0x1B0300, [(16, 8)], 0x0, 0x0, 0x0, 0x0, 0x0, 0x0⟩,
  ⟨0x1B0304, [(16, 8)], 0x0, 0x0, 0x0, 0x0, 0x0, 0x0⟩,
  ⟨0x1B0308, [(16, 8)], 0x0, 0x0, 0x0, 0x0, 0x0, 0x0⟩]

/-- Registers of block FAR. -/
def regsFar : List RegDesc := [
  ⟨0x1C0000, [], 0x0, 0x0, 0x7000, 0x0, 0x0, 0x0⟩,
  ⟨0x1C0004, [], 0x0, 0x0, 0x0, 0x1FFFF, 0x0, 0x0⟩,
  ⟨0x1C0008, [], 0x0, 0x0, 0x0, 0x0, 0x0, 0x0⟩,
  ⟨0x1C000C, [], 0x0, 0x0, 0x0, 0x0, 0x0, 0x0⟩,
  ⟨0x1C0100, [], 0x0, 0x0, 0x0, 0x0, 0x0, 0x41009⟩,
  ⟨0x1C0104, [], 0x0, 0x0, 0x0, 0x0, 0x0, 0x40805⟩,
  ⟨0x1C0108, [], 0x0, 0x0, 0x0, 0x0, 0x0, 0x1008⟩,
  ⟨0x1C010C, [], 0x0, 0x0, 0x0, 0x0, 0x0, 0x402⟩,
  ⟨0x1C0110, [], 0x0, 0x0, 0x0, 0x0, 0x0, 0x804⟩,
  ⟨0x1C0114, [], 0x0, 0x0, 0x0, 0x0, 0x0, 0x402⟩,
  ⟨0x1C0118, [], 0x0, 0x0, 0x0, 0x0, 0x0, 0x201⟩,
  ⟨0x1C011C, [], 0x0, 0x0, 0x0, 0x0, 0x0, 0x82012⟩,
  ⟨0x1C0120, [], 0x0, 0x0, 0x0, 0x0, 0x0, 0x4180D⟩,
  ⟨0x1C0124, [], 0x0, 0x0, 0x0, 0x0, 0x0, 0x206030⟩,
  ⟨0x1C0128, [], 0x0, 0x0, 0x0, 0x0, 0x0, 0x201⟩,
  ⟨0x1C012C, [], 0x0, 0x0, 0x0, 0x0, 0x0, 0x30180⟩,
  ⟨0x1C0130, [], 0x0, 0x0, 0x0, 0x0, 0x0, 0x180C⟩,
  ⟨0x1C0134, [], 0x0, 0x0, 0x0, 0x0, 0x0, 0x201⟩,
  ⟨0x1C0200, [], 0x0, 0x0, 0x0, 0x0, 0x0, 0x0⟩,
  ⟨0x1C0204, [], 0x0, 0x0, 0x0, 0x0, 0x0, 0x80000000⟩]

/-- Registers of block STB. -/
def regsStb : List RegDesc := [
  ⟨0x1D0000, [], 0x0, 0x0, 0x30, 0x0, 0x0, 0x0⟩,
  ⟨0x1D0004, [], 0x0, 0x0, 0x0, 0xFF, 0x0, 0x0⟩,
  ⟨0x1D0008, [], 0x0, 0x0, 0x0, 0x0, 0x0, 0x0⟩,
  ⟨0x1D000C, [], 0x0, 0x0, 0x0, 0x0, 0x0, 0x0⟩,
  ⟨0x1D0010, [], 0x0, 0x0, 0x0, 0x0, 0x0, 0x0⟩,
  ⟨0x1D0014, [], 0x0, 0x0, 0x0, 0x0, 0x0, 0x0⟩,
  ⟨0x1D0018, [], 0x0, 0x0, 0x0, 0x0, 0x0, 0x0⟩,
  ⟨0x1D001C, [], 0x0, 0x0, 0x0, 0x0, 0x0, 0x0⟩,
  ⟨0x1D0020, [], 0x0, 0x0, 0x0, 0x0, 0x0, 0x0⟩,
  ⟨0x1D0024, [], 0x0, 0x0, 0x0, 0x0, 0x0, 0x0⟩,
  ⟨0x1D0028, [], 0x0, 0x0, 0x0, 0x0, 0x0, 0x0⟩,
  ⟨0x1D002C, [], 0x0, 0x0, 0x0, 0x0, 0x0, 0x0⟩,
  ⟨0x1D0030, [(4, 4)], 0x0, 0x0, 0x0, 0x0, 0x0, 0x0⟩,
  ⟨0x1D0040, [(4, 4)], 0x0, 0x0, 0x0, 0x0, 0x0, 0x0⟩]

/-- The blocks of R477 with the registers each one lists. -/
def regBlocks : List (Nat × List RegDesc) := [
  (0x0, regsSys),
  (0x1, regsPwr),
  (0x2, regsFlt),
  (0x3, regsImg),
  (0x10, regsFbi),
  (0x11, regsGns),
  (0x12, regsPos),
  (0x13, regsStr ++ regsStr1),
  (0x14, regsCov),
  (0x15, regsPwm),
  (0x16, regsLsw),
  (0x17, regsCtl ++ regsCtl1),
  (0x18, regsCan),
  (0x19, regsTlk),
  (0x1A, regsSaf),
  (0x1B, regsBrd),
  (0x1C, regsFar),
  (0x1D, regsStb)]

/-- Does an offset fall on one of the instances the strides and counts give? -/
def dimsCover : Nat → List (Nat × Nat) → Bool
  | off, [] => off == 0
  | off, (st, n) :: ds => decide (off / st < n) && dimsCover (off % st) ds

/-- Is the address one of this register's instances? -/
def descCovers (d : RegDesc) (a : Nat) : Bool :=
  decide (d.base ≤ a) && dimsCover (a - d.base) d.dims

/-- The register of the map at an address (R477), or none where the block lists none there. -/
def regDesc (a : Nat) : Option RegDesc :=
  match regBlocks.find? (fun b => b.1 == a / 0x10000) with
  | some b => b.2.find? (fun d => descCovers d a)
  | none => none

/-- What a register holds at reset (R16's reset column); an address no register has reads 0 (R478). -/
def resetWord (a : Nat) : Word :=
  match regDesc a with
  | some d => BitVec.ofNat 32 d.reset
  | none => 0

end Sys2Proof.Machine
end

