-- ==== Sys2Proof/Machine/State.lean ====
section
/-!
DEFINITION. Machine/State.lean: everything the spec gives the module to hold, as plain data, with the queue of the commands that wait;
the faults and refusals a command may end in; and the module right after reset.
-/

namespace Sys2Proof.Machine

/-! ### Recorder (stud book) -/

/-- A record (R431): the event, its arguments in the order the raising rule lists them, and its header's marks. -/
structure Rec where
  ev   : Ev
  args : List Int
  /-- severity 0 INFO to 3 SAFETY -/
  sev  : Nat
  /-- raised during a freeze (R437) -/
  held : Bool
  /-- raised while PD1 was not running (R434) -/
  ao   : Bool
  /-- module ID at the raise, 255 before the straps are read -/
  mid  : Nat
  seq  : Nat
  opt  : Nat
  pcc  : Nat
  /-- TB bits 31..0 at the happening -/
  tbLo : Nat
deriving DecidableEq, Repr, Inhabited

/-- An export (R439): what its header gives, and its records as stored; the DIK signs both. -/
structure StbExport where
  serial : Nat
  mid    : Nat
  pcc    : Nat
  opt    : Nat
  mask   : Nat
  recs   : List Rec
deriving DecidableEq, Repr, Inhabited

/-- The event recorder's state (R431 to R445). -/
structure Stb where
  /-- last SEQ issued, 0 before the first (R432) -/
  seq       : Nat
  /-- resume mark in NOR, above every SEQ issued (R432) -/
  mark      : Nat
  /-- power-cycle count (R433) -/
  pcc       : Nat
  /-- operating time in TB-length ticks of 5 ns while awake (R433) -/
  optTicks  : Nat
  /-- OPT in ms as last saved to NOR (R433) -/
  optSaved  : Nat
  /-- the raise queue in SRAM, 1,024 records (R436) -/
  raiseQ    : List Rec
  /-- the retention buffer in PD0, 64 records (R434) -/
  retBuf    : List Rec
  /-- the holding queue of a freeze, 256 records (R437) -/
  holdQ     : List Rec
  /-- records stored in the eMMC log (R435) -/
  log       : List Rec
  /-- severity-3 records stored in NOR (R435) -/
  nor       : List Rec
  /-- TB stamp at which the freeze in force began (R437) -/
  frozenAt  : Option Nat
  /-- the session that gave the freeze -/
  frozenBy  : Nat
  /-- TB stamp at which the last freeze ended (R437) -/
  freezeEnd : Option Nat
  /-- records lost from the holding queue in this freeze (R437) -/
  holdLost  : Nat
  /-- drops by severity (STB_DROPs, R436) -/
  drops     : List Nat
  /-- removals by severity (STB_OVWs, R436) -/
  ovw       : List Nat
  /-- drops by severity since the last DROPPED record (R436) -/
  dropSec   : List Nat
  /-- first and last dropped SEQ since the last DROPPED record -/
  dropRange : Nat × Nat
  /-- a record has been dropped (STB_STATUS.DROP) -/
  dropSeen  : Bool
  /-- OPT in ms of the last DROPPED record and of the last TB_MARK (R436, R440) -/
  dropAt    : Nat
  markAt    : Nat
  /-- the second of OPT last counted, and the records of each limited TYPE raised in it (R441) -/
  limSec    : Nat
  limited   : List (Nat × Nat)
  /-- severity-0 and severity-1 records are no longer written to eMMC (R459) -/
  wearStop  : Bool
  /-- a collection is in progress: the members still to answer (R439) -/
  collect   : List Nat
  /-- last SEQ collected from each device serial (R439) -/
  collected : List (Nat × Nat)
  /-- members recorded as missing in the collection (R439) -/
  missing   : List Nat
  /-- TB stamp at which the collection began -/
  collectAt : Nat
  /-- the file a collection has joined so far: (device serial, first SEQ, last SEQ, bytes) of each export (R439) -/
  joined    : List (Nat × Nat × Nat × Nat)
  /-- the SEQ up to which records in NOR stand in signed sectors (R435) -/
  norSigned : Nat
  /-- the challenge a clear permit must name (R442), none before the first read -/
  chal      : Option Nat
  /-- the last export built (R439) -/
  exported  : Option StbExport
  /-- SEQs of stored records marked corrupt (R35) -/
  corrupt   : List Nat
deriving DecidableEq, Repr, Inhabited

/-! ### Fault manager -/

/-- A report of a fault, or of the end of its condition, on its way to the fault manager (R447). -/
structure Report where
  ev    : Ev
  args  : List Int
  /-- class by the catalogue (R446) -/
  cls   : Nat
  /-- false: the condition has ended (R450) -/
  onset : Bool
  tb    : Nat
deriving DecidableEq, Repr, Inhabited

/-- An active fault or, after its end, a previously active one (R450). -/
structure Active where
  ev  : Ev
  args : List Int
  cls : Nat
  /-- occurrence count, 1 to 126 (R450) -/
  occ : Nat
  tb  : Nat
deriving DecidableEq, Repr, Inhabited

/-- The fault manager's state (R446 to R453). -/
structure Flt where
  /-- reports that have arrived and not yet been admitted to the queue -/
  inbox  : List Report
  /-- the queue of 64 entries (R447) -/
  queue  : List Report
  /-- active faults in order of onset (DM1, R450) -/
  active : List Active
  /-- faults previously active (DM2, R450) -/
  prev   : List Active
  /-- for each raising block, the class and event of its last fault and the TB stamp to which it escalates (R448) -/
  recent : List (Nat × Nat × Ev × Nat)
  /-- stamps of the resets of class 5 or 6 within the last 10 min (R449) -/
  resets : List Nat
  /-- domains being reset, with the TB stamp of the order (R451, R454) -/
  down   : List (Nat × Nat)
  /-- operating time, in ticks, at which the eMMC's life was last read in this start (R459) -/
  lifeAt : Option Nat
deriving DecidableEq, Repr, Inhabited
/-! ### Power and start-up -/

/-- Power, start-up, sleep and firmware slots (R460 to R476). -/
structure Pwr where
  /-- PD0 is powered (R460) -/
  powered  : Bool
  /-- TB runs: started by start-up, stopped in sleep and by loss of REF (R463, R471, R23) -/
  tbRun    : Bool
  asleep   : Bool
  /-- REF is present and every PLL is locked (R23) -/
  refOk    : Bool
  /-- ATTN_N accepted active, as sampled on AO (R469) -/
  attn     : Bool
  /-- over-voltage holds PD1 to PD11 off (R460) -/
  ovOff    : Bool
  /-- brown-out holds PD1 to PD11 off (R460) -/
  brown    : Bool
  /-- CAUSE the next start takes (R476) -/
  cause    : Nat
  /-- the last power-down was not clean (R461, R435) -/
  unclean  : Bool
  /-- this member's key-off condition holds (R469) -/
  keyCond  : Bool
  /-- K, the boundary at which key-off starts (R469) -/
  keyoffK  : Option Nat
  /-- TB stamp at which ATTN_N was last accepted inactive (R469) -/
  attnOff  : Nat
  /-- key-off has begun and not yet reached step 3 of R470 -/
  keyRun   : Bool
  /-- TB stamp at which over-voltage or brown-out was last accepted (R460) -/
  supplyAt : Nat
  /-- AO and SAFE are in tolerance (R23) -/
  aoOk     : Bool
  safeOk   : Bool
  /-- TB stamp from which STAY_AWAKE counts (R473) -/
  stayFrom : Nat
  slotA    : FwSlot
  slotB    : FwSlot
  boot1    : BootRec
  boot2    : BootRec
  /-- running slot (R467), none: PD1 is held -/
  running  : Option Nat
  /-- OTP firmware count (R467) -/
  otpFwSvn : Nat
  /-- this start runs a slot on trial (R468) -/
  trialRun : Bool
  /-- TB stamp of L1 in a trial start (R468) -/
  trialAt  : Option Nat
  /-- a fault of class 5 or 6 occurred in this start -/
  trialBad : Bool
  /-- module ID from the straps, none: not read or unstable (R337) -/
  mid      : Option Nat
  /-- PAIR_N strap active (R337) -/
  paired   : Bool
  /-- the straps last sampled in service (R337) -/
  strapNow : Nat
  /-- consecutive windows each unit has been at or above WARN_PCT + 5 (R20) -/
  gaitOk   : List (Nat × Nat)
  /-- device serial number, fused (R486) -/
  serial   : Nat
  /-- a start-up is due (R463) -/
  startDue : Bool
  /-- woken while ATTN_N was inactive: STAY_AWAKE holds (R473) -/
  woken    : Bool
deriving DecidableEq, Repr, Inhabited
/-! ### Harness image -/

/-- The image store and the swap in progress (R46 to R57). -/
structure Img where
  /-- SHA-256 and OEM_ID of the active container (R40, R60) -/
  hash     : Nat
  oemId    : Nat
  /-- the slots of the store in eMMC (R48) -/
  slotActive : Option Container
  slotPending : Option Container
  slotGood : Option Container
  /-- the image the module runs, none: neither slot passed (R49) -/
  active   : Option Container
  /-- halter map and safety mirror of the active image in NOR (R48) -/
  norHalter : List (Nat × Word)
  norMir   : Option Safmir
  /-- anti-rollback count in OTP (R46) -/
  otpSvn   : Nat
  /-- staging needs a restart of the team (R54) -/
  teamWide : Bool
  /-- as leader: a distribution in progress, members still to acknowledge, stamps of the send and of the last acknowledgement (R55) -/
  sending  : Bool
  acks     : List Nat
  sentAt   : Nat
  ackAt    : Nat
  /-- C of the swap prepared, none: no swap is prepared (R50) -/
  swapC    : Option Nat
  /-- outputs and loops in the scope of the swap, and the loops it removes (R42, R52) -/
  scope    : List Nat
  loopScope : List Nat
  loopGone : List Nat
  /-- a loop group is within the swap (R296) -/
  loopSwap : Bool
  /-- sets of loops before a swap, until their first step under the new ones (R52, R289) -/
  oldSets  : List (Nat × LoopSet)
  /-- boundary of a team restart (R54) -/
  restartAt : Option Nat
  /-- C of the last commit, 0: none since power-up (R60) -/
  lastC    : Nat
  /-- PENDING arrived by upload or distribution, not by REVERT (R47 check 10) -/
  uploaded : Bool
  /-- the Ualdarvo root key in OTP (R44) -/
  otpRoot  : Nat
deriving DecidableEq, Repr, Inhabited
/-! ### Waveforms -/

/-- The active waveform of a PWM channel (R230, R238, R240), times in ticks for a high-side channel and in 1/32 tick for a gate. -/
structure Wav where
  duty  : Nat
  phase : Nat
  /-- pulses of this waveform start at or after this time -/
  from_ : Nat
  /-- end of the pulse that was in progress at the transfer -/
  tail  : Nat
  /-- a START landing: the tick of gate ON and the end of the first pulse after it (R240) -/
  land  : Option (Nat × Nat)
  /-- time from which dropped and stretched pulses are still to be shown in PWM_CHn_STAT -/
  seen  : Nat
deriving DecidableEq, Repr, Inhabited
/-! ### Machine model -/

/-- What the module holds of one link's joint (R64, R65). -/
structure LinkSt where
  /-- joint value in use -/
  value  : Int
  s1Fail : Bool
  s2Fail : Bool
  onSec  : Bool
  held   : Bool
  fall   : Bool
  /-- both sources failed, HOLD ended and POLICY OFF: the chain is invalid -/
  dead   : Bool
  /-- consecutive snapshots in which SRC1 has been valid -/
  good   : Nat
  /-- latest valid sample of each source, whether its newest sample was valid, and the tick of the latest valid one (R64) -/
  v1     : Option Int
  v2     : Option Int
  ok1    : Bool
  ok2    : Bool
  at1    : Nat
  at2    : Nat
  /-- tick from which the last valid value is held (R65) -/
  heldAt : Nat
  /-- snapshots in a row that differ from the partner's, and the boundary of the last one compared (R74) -/
  diff   : Nat
  diffB  : Nat
deriving DecidableEq, Repr, Inhabited

/-- What the module holds of a pressure source (R70, R72). -/
structure PressSt where
  /-- filter output in kPa -/
  out   : Int
  /-- the last input sample lay in the valid range -/
  ok    : Bool
  /-- the source was invalid at the last boundary, and PRESS_INVALID is reported -/
  bad   : Bool
  /-- DELAY_CLAMP has been reported for the present entry -/
  clamp : Bool
deriving DecidableEq, Repr, Inhabited

/-- Joints and pressure sources (R64 to R72). -/
structure Geo where
  /-- by link number in the order of declaration (R75) -/
  links : List (Nat × LinkSt)
  /-- by pressure source -/
  press : List (Nat × PressSt)
deriving DecidableEq, Repr, Inhabited
/-! ### Feedback interface -/

/-- A counted edge (R86): acceptance tick, stamp, and the net count in the 64-bit accumulator after it. -/
structure Edge where
  acc   : Nat
  stamp : Nat
  cnt   : Int
deriving DecidableEq, Repr, Inhabited

/-- What a load replaced, for a count or an index of its own tick, which come before it (R103): its tick, the counter, the accumulator of the
line-count check and its flags. -/
structure PreLoad where
  at_   : Nat
  cnt   : Int
  acc   : Int
  pos   : Bool
  neg   : Bool
  seen  : Bool
  known : Bool
deriving DecidableEq, Repr, Inhabited

/-- The counters that CLEAR clears, as they stood before a tick's first happening (R103). -/
structure ChBase where
  at_  : Nat
  fast : Nat
  ill  : Nat
  tol  : Nat
  skip : Nat
  dir  : Nat
deriving DecidableEq, Repr, Inhabited

/-- One counter channel beside its registers (R77 to R93). -/
structure ChSt where
  /-- accepted levels of A, B and Z; none before the first sample since PD11 started (R77) -/
  a : Option Bool
  b : Option Bool
  z : Option Bool
  /-- net counts since PD11 started, free of resets, loads and wraps (R86) -/
  total : Int
  /-- the counted edges that velocity and period may still need, newest first (R86) -/
  edges : List Edge
  /-- a count has set DIR since power-up or the last load (R85) -/
  dirKnown : Bool
  /-- DIR_CHG has been raised in this stride cycle (R85) -/
  dirSent  : Bool
  /-- direction latched at the last boundary (R83) -/
  snapDir  : Bool
  /-- IDX_ACC: net counts since the last index, and whether counts of each sign have entered it (R89) -/
  idxAcc   : Int
  idxPos   : Bool
  idxNeg   : Bool
  /-- an index has come since power-up or the last load (R89) -/
  idxSeen  : Bool
  /-- INDEX_MISSING has been raised since the last index (R90) -/
  missing  : Bool
  /-- TB stamp of the last ARM (R88, R103) -/
  armAt    : Nat
  /-- stamps of fast edges and of illegal transitions within FLT_WIN (R78, R80) -/
  fastT    : List Nat
  illT     : List Nat
  /-- EDGE_FAULT, ILLEGAL_FAULT raised and not yet free to be raised again (R78, R80) -/
  fastRaised : Bool
  illRaised  : Bool
  /-- TB stamp of the last fast edge or illegal transition, and of the end of the last wire break (R81) -/
  lastBad   : Option Nat
  lastBreak : Option Nat
  /-- inputs with a broken wire, by input 0 A, 1 B, 2 Z (R81) -/
  broken   : List Nat
  /-- inputs held active beyond ACTIVE_LIM (R93) -/
  stuck    : List Nat
  /-- count and stamp captured at the onset of the presence in progress (R91) -/
  onset    : Option (Int × Nat)
  /-- PRESENT at the last boundary (R91) -/
  snapPres : Bool
  /-- counts of either direction accepted since PD11 started (R92) -/
  gross    : Nat
  /-- inputs held active: the input, the tick since which it is, and the counts of the channel it is measured by at that tick (R77, R92) -/
  act      : List (Nat × Nat × Nat)
  /-- counter and DIR as they stood before a tick that may have changed them, newest first (R83, R91) -/
  hist     : List (Nat × Int × Bool)
  /-- tick of a LOAD written and not yet done (R84) -/
  loadAt   : Option Nat
  /-- the last load (R84, R103) -/
  pre      : Option PreLoad
  /-- the fault and statistics counters before the first happening of a tick (R103) -/
  base     : ChBase
  /-- ARMED stood before the ARM of this tick (R103) -/
  armWas   : Bool
deriving DecidableEq, Repr, Inhabited

/-- One compare unit beside its registers (R94, R96). -/
structure CmpSt where
  /-- VAL as committed and advanced -/
  val    : Nat
  /-- pin state of PIN_MODE TOGGLE -/
  toggle : Bool
  /-- spans of TB ticks in which pulses drive the pin -/
  pulse  : List (Nat × Nat)
  /-- the last commit: its tick, and what VAL and ARMED were before it (R103) -/
  pre    : Option (Nat × Nat × Bool)
deriving DecidableEq, Repr, Inhabited

/-- Feedback interface (R76 to R105). -/
structure Fbi where
  ch  : List (Nat × ChSt)
  cmp : List (Nat × CmpSt)
  /-- consecutive invalid samples of each SSI port (R64, R99) -/
  ssiBad : List (Nat × Nat)
  /-- TB stamp of the last sample of each analog input (R101) -/
  ainTb  : List (Nat × Nat)
  /-- code and VALID of each analog input before its last sample (R211) -/
  ainWas : List (Nat × Nat × Bool)
  /-- tick at which each SSI port was last read (R98) -/
  ssiAt  : List (Nat × Nat)
  /-- tick at which the shunt of each analog input last opened (R101) -/
  shuntAt : List (Nat × Nat)
  /-- tick at which each sensor supply last switched off, 0 SUP5A, 1 SUP5B (R102) -/
  supAt  : List (Nat × Nat)
  /-- compare hits since the last boundary, and those the cycle in progress uses: unit, HITS, stamp (R96) -/
  hits   : List (Nat × Nat × Nat)
  hitsUsed : List (Nat × Nat × Nat)
deriving DecidableEq, Repr, Inhabited
/-! ### GNSS baseband -/

/-- A tracking channel beside its register (R116). -/
structure Chan where
  state   : Nat
  sat     : Sat
  elev    : Nat
  /-- stamp at which PULL_IN began -/
  since   : Nat
  /-- stamp since which the lock indicator has been above 0.8 -/
  okFrom  : Option Nat
  /-- dumps in a row with the indicator below 0.6 -/
  low     : Nat
  cn0     : Nat
  /-- stamp since which C/N0 has been below 20 dB-Hz -/
  weak    : Option Nat
  /-- stamp of phase lock or of the last slip -/
  lockAt  : Option Nat
  slip    : Bool
  swapped : Bool
  /-- bit, NH or secondary-code sync, and time of week, decoded -/
  sync    : Bool
  tow     : Bool
  half    : Bool
  /-- correlator symmetry: stamps since which it has been above 0.2 and below 0.1, and whether the satellite is EXCLUDED by it (R125) -/
  symHi   : Option Nat
  symLo   : Option Nat
  symEx   : Bool
  /-- stamp of the last integration dump (R117) -/
  dumpAt  : Nat
deriving DecidableEq, Repr, Inhabited

/-- A search of the acquisition bank (R113, R114): a satellite, PRN 0 for every PRN of the system; 0 team-aided, 1 warm, 2 cold; the tile dwells
still to come; and whether what it finds carries SLIP (R118). -/
structure Search where
  sat  : Sat
  kind : Nat
  left : Nat
  slip : Bool
deriving DecidableEq, Repr, Inhabited

/-- Why a satellite is EXCLUDED (R125); `told` is the pose solver's word on a module that is not the solver. -/
inductive ExclCause where
  | ccd | doppler | nav | told
deriving DecidableEq, Repr, Inhabited

/-- An exclusion: antenna by module ID, none for every antenna. -/
structure Excl where
  ant   : Option Nat
  sat   : Sat
  cause : ExclCause
  at_   : Nat
deriving DecidableEq, Repr, Inhabited

/-- What the solver holds of an antenna (R125). -/
structure AntSt where
  suspect : Bool
  /-- stamp at which it became SUSPECT, and of the last check it failed -/
  susAt   : Nat
  badAt   : Nat
  /-- navigation data failures: stamp and satellite -/
  nav     : List (Nat × Sat)
  coh     : Bool
  /-- stamp of the first record with new measurements since SPOOF was declared (R126) -/
  freshAt : Option Nat
  /-- the conditions SPOOF_CN0, CLOCK_JUMP and ANT_INCONSISTENT stand -/
  cn0Bad  : Bool
  clkBad  : Bool
  incBad  : Bool
deriving DecidableEq, Repr, Inhabited

/-- GNSS baseband and integrity (R106 to R128). -/
structure Gns where
  chans    : List (Nat × Chan)
  /-- banks of 8 channels out of service (R118) -/
  outBanks : List Nat
  /-- the ring of 512 records, newest first, with whether each has been consumed (R122) -/
  ring     : List (GRec × Bool)
  epochs   : Nat
  /-- newest record of each module, at the pose solver (R109, R121), and the sky as GEpoch brought it -/
  recs     : List GRec
  sky      : List (Sat × Nat × Bool)
  /-- evaluation made of the epoch at this tick (R110) -/
  evalAt   : Option Nat
  /-- channels as they stood before they lost lock: tick, channel, state (R127) -/
  preLoss  : List (Nat × Nat × Chan)
  /-- TB alignment has been lost since the last epoch (R123) -/
  alignBad : Bool
  /-- searches in the order in which they are made, and the end of the last round (R114) -/
  search   : List Search
  roundAt  : Nat
  /-- satellites whose ephemeris eMMC holds (R114) -/
  eph      : List Sat
  ants     : List (Nat × AntSt)
  excl     : List Excl
  /-- Doppler check: epochs in a row beyond ±10 Hz and within ±5 Hz, by antenna and satellite -/
  dopRun   : List (Nat × Sat × Nat × Nat)
  /-- cross-antenna geometry: epochs in a row, the last of them, and whether SPOOF_GEOM stands -/
  geomRun  : Nat
  geomAt   : Nat
  geomOn   : Bool
  /-- path switch announced: its epoch and whether to fall-back (R110) -/
  pathNext : Option (Nat × Bool)
  badEval  : Nat
  goodEval : Nat
  /-- interference: FFTs in a row a line has stood 15 dB above the floor; stamps (R124) -/
  lineRun  : List (Int × Nat)
  lowA     : Option Nat
  lowB     : Option Nat
  wideFrom : Option Nat
  jamClear : Option Nat
  /-- JAM_DETECT stands: narrowband, wideband -/
  jamN     : Bool
  jamW     : Bool
  /-- NOM_GAIN as held over starts, the beginning of the present hour without JAM, and the gains counted in it (R124) -/
  nomGain  : Nat
  nomAt    : Nat
  gains    : List (Nat × Nat)
  /-- antenna bias (R107): stamp of the last check and of the last short, whether the bias is off for it, and the faults that stand -/
  antAt    : Nat
  shortAt  : Nat
  biasOff  : Bool
  openF    : Bool
  shortF   : Bool
  /-- stamp at which the last search ended (R114) -/
  searchAt : Nat
  /-- SPOOF: stamp of entry, of the last failed check, and of the last failed SPOOF_CN0, CLOCK_JUMP or NAV_DATA_FAULT (R126) -/
  spoofAt  : Nat
  spoofBad : Nat
  spoofBad1 : Nat
deriving DecidableEq, Repr, Inhabited
/-! ### Pose, team time and the time pulse -/

/-- Pose, team time and time pulse (R129 to R146). -/
structure Pos where
  /-- the record in force for the present cycle -/
  cur      : Option PoseRec
  /-- the record of the cycle before -/
  prev     : Option PoseRec
  /-- records received for boundaries to come, the first received of each (R137) -/
  next     : List PoseRec
  /-- consecutive boundaries without their record (R137) -/
  missing  : Nat
  /-- newest samples of the two position sources, the newest first, two at most (R130, R135) -/
  gnss     : List SrcSt
  ext      : List SrcSt
  /-- newest SPEED sample: mm/s and stamp (R129) -/
  speed    : Option (Int × Nat)
  /-- stamp of the newest inertial sample that passed its CRC, and the count of those discarded (R35, R456) -/
  insTb    : Option Nat
  insBad   : Nat
  insSilent : Bool
  /-- source the solver used last: 0 NONE, 1 TEAM_GNSS, 2 EXTERNAL, 3 DEAD_RECKON -/
  source   : Nat
  /-- stamp at which dead reckoning began (R130) -/
  drSince  : Option Nat
  /-- the pose is invalid by R131 or R137 -/
  invalid  : Bool
  /-- blending (R132): the difference still to be removed in µm, and the whole of it: along x and y in mm, and its length in µm -/
  blendUm  : Nat
  blendV   : Int × Int × Nat
  /-- correction stream in use: reference station and stamp of its newest epoch (R133, R134) -/
  corrSt   : Option (Nat × Nat)
  /-- RTCM messages discarded (R133) -/
  corrDrop : Nat
  /-- consecutive epochs with a valid TEAM_GNSS solution (R141, R145) -/
  validEp  : Nat
  /-- epoch of the last TEAM_GNSS solution the time master has had -/
  solAt    : Option Nat
  /-- stamp at which HOLDOVER began (R144) -/
  holdAt   : Option Nat
  /-- TT has been set from PGN 129029 (R141) -/
  extSet   : Bool
  /-- a step of TT_OFS that falls due after the next pulse, in units of 156.25 ps (R145) -/
  stepPend : Option Int
  /-- phase error still to be slewed (R145) -/
  slew     : Option Int
  /-- stamp up to which the slew has been given out -/
  slewAt   : Nat
  /-- TT_OFS values and the boundaries at which they apply (R140) -/
  ofsNamed : List (Nat × Int)
  /-- last second S whose pulse was emitted, and the tick of that pulse (R143) -/
  lastS    : Option Nat
  lastPulse : Option Nat
  /-- the time pulse output is active, and the place of its last leading edge within the tick, in 1/32 tick (R142) -/
  tpo      : Bool
  tpoSub   : Nat
  /-- consecutive epochs a joint has differed from its GNSS_SHAPE value, by link (R139) -/
  shapeRun : List (Nat × Nat)
  /-- epoch count at which each link's GNSS_SHAPE value was computed (R138) -/
  shapeEp  : List (Nat × Nat)
  /-- consecutive epochs the ratio test of a link's baseline has held (R138) -/
  ratioRun : List (Nat × Nat)
deriving DecidableEq, Repr, Inhabited
/-! ### Stride engine -/


/-- A run whose provisional marks lie in the layer (R166): its ground interval and the cells it added 1 to, each with the ground tick at
which the predicted footprint reaches it. -/
structure ProvRun where
  from_ : Nat
  to_   : Nat
  cells : List (Nat × Nat)
deriving DecidableEq, Repr, Inhabited

/-- Evidence: the actual state of an output from a tick on (R170): 0 off, 1 on, 2 following its waveform `wav`; and whether the load channel
lets an ON count as applying. `onD` and `offD` are the delays in ticks latched for that tick (R171). -/
structure EvSeg where
  tick : Nat
  st   : Nat
  load : Bool
  onD  : Nat
  offD : Nat
  wav  : Wav
deriving DecidableEq, Repr, Inhabited

/-- A point of a sweep from which the decision of R155 is another: ground tick, decision, reason, the row that gave it, and the horizon. -/
structure TlEnt where
  g      : Nat
  on     : Bool
  reason : Nat
  row    : Nat
  hz     : Nat
deriving DecidableEq, Repr, Inhabited

/-- What the evaluations of an output have returned in a cycle (R152): the decisions in order, the end of each segment, the end of the
span, the tiles its footprint touched with the earliest ground tick of each, and the tile at which the span ended with MAP_MISS. -/
structure Sweep where
  tl   : List TlEnt
  ends : List Nat
  span : Nat
  want : List (Nat × Nat)
  miss : Option Nat
deriving DecidableEq, Repr, Inhabited

/-- A footprint as an output carries it through a cycle (R62, R67): shape, output point in the machine frame in mm with FP_DX added, half
depth and half width in µm, and whether its chain is valid. -/
structure FootP where
  shape : Shape
  x     : Int
  y     : Int
  z     : Int
  hd    : Int
  hw    : Int
  ok    : Bool
deriving DecidableEq, Repr, Inhabited

/-- What the engine holds of an output beside its registers. -/
structure OutSt where
  queue   : List QEnt
  /-- ground ticks of transitions already commanded, with their types, newest first -/
  fixed   : List (Nat × Bool)
  runs    : List ProvRun
  evid    : List EvSeg
  /-- times at which the partner's channel of a pair-wired output has applied, by its readings, the last perhaps without end (R170, R267) -/
  mate    : List (Nat × Option Nat)
  /-- what the evaluations of the cycle have returned, until write-back -/
  sweep   : Option Sweep
  /-- lowest horizon abandoned in this cycle (R176) -/
  cutHz   : Option Nat
  /-- cycles in a row in which horizon 0 has not completed (R178) -/
  noHz0   : Nat
  /-- ground tick up to which the output is committed (R172, R180) -/
  doneTo  : Nat
  /-- the output applied at the end of the last committed interval (R195) -/
  applied : Bool
  /-- a gap in progress: first and last ground tick and cause (R173) -/
  gap     : Option (Nat × Nat × Nat)
  /-- stall window (R220, R221): 0 none, 1 in progress, 2 left backward across its start -/
  win     : Nat
  /-- offset of the platform count from the window's start, modulo COUNTS_REV -/
  winOff  : Nat
  /-- first ground tick of the window -/
  winFrom : Nat
  /-- delivered ground time of the window in ticks, and the ground tick up to which it is counted -/
  dose    : Nat
  doseTo  : Nat
  /-- the window saw a time without a pose (0) or with the engine not running (1) (R221) -/
  winGap  : Option Nat
  /-- the entry executed last: its tick, itself, and the gate and `fixed` before it (R248) -/
  last    : Option (Nat × QEnt × Bool × List (Nat × Bool))
deriving DecidableEq, Repr, Inhabited

/-- Direct control of a section (R218): the target, the state in force, and the changes of target still to come with their ground ticks. -/
structure DirSec where
  target  : Bool
  base    : Bool
  changes : List (Nat × Bool)
deriving DecidableEq, Repr, Inhabited

/-- Stride engine (R149 to R182). -/
structure Str where
  outs      : List (Nat × OutSt)
  /-- boundary of the cycle in progress -/
  cycle     : Nat
  /-- the plans of the cycle have been written back -/
  written   : Bool
  /-- footprints of this cycle and of the one before, by output (R153, R172) -/
  foots     : List (Nat × FootP)
  prevFoots : List (Nat × FootP)
  /-- the engine decided in the cycle before (R173): 0 yes, otherwise the cause of a gap -/
  prevGap   : Nat
  /-- counts of the provisional layer by cell (R166) -/
  prov      : List (Nat × Nat)
  /-- tiles of the provisional layer -/
  provTiles : List Nat
  /-- recent plane: blocks that are OLD, and blocks with a stamp, in 50 ms of ground time (R167) -/
  old       : List (Nat × Bool)
  stamp     : List (Nat × Nat)
  recTiles  : List Nat
  /-- tiles in the map cache, the last wanted last (R186, R187) -/
  cache     : List Nat
  /-- tiles wanted, with the earliest ground time a footprint reaches them (R186) -/
  want      : List (Nat × Nat)
  /-- the cycle has overrun (R176) -/
  late      : Bool
  /-- cycles in a row without overrun (R177) -/
  cleanRun  : Nat
  /-- abandoned evaluations since the last record, and the stamp of that record (R176) -/
  lateSum   : Nat
  lateAt    : Nat
  /-- the lane whose results differed in the last cycle (R175) -/
  misLane   : Option Nat
  /-- next lane the spare checks (R175) -/
  chkLane   : Nat
  /-- stamp at which the module left L2 (R218) -/
  leftL2    : Option Nat
  /-- direct section control by module section (R218) -/
  direct    : List (Nat × DirSec)
  /-- mode dynamics: changes of team state and the boundaries named for them (R212) -/
  chgs      : List (Nat × TeamChg)
  /-- the working-position reading last sent (R212) -/
  workSent  : Bool
  /-- work state last reported to the task controller, by team section (R213) -/
  workTold  : List (Nat × Nat)
  /-- a member has sent its working-position signal: the term applies (R211, R212) -/
  teamWork  : Bool
  /-- change of field mode and the boundary named for it (R217) -/
  modeNext  : Option (Nat × ModeChg)
  /-- task controller schedules: by module section, state in force and edges (ground tick, state) (R214) -/
  scheds    : List (Nat × (Bool × List (Nat × Bool)))
  /-- schedules are forced off (R217) -/
  schedOff  : Bool
  /-- receive stamp of the last task controller status message (R217) -/
  tcAt      : Option Nat
  /-- alley track: S_REF in mm, C_REF in counts, a SET waiting, ORIENT in force, last match (magnet, count) (R222 to R224) -/
  sRef      : Int
  cRef      : Int
  setPend   : Bool
  orient    : Bool
  lastMatch : Option (Nat × Int)
  /-- platform: an index has been seen since power-up (R219) -/
  platIdx   : Bool
deriving DecidableEq, Repr, Inhabited
/-! ### Coverage and jobs -/

/-- A signed application record made at CLOSE (R406). -/
structure AppRec where
  jobId   : Nat
  once    : Nat
  twice   : Nat
  excl    : Nat
  exclHit : Nat
  gaps    : List (Nat × Nat × Nat)
  /-- the owner has released it -/
  freed   : Bool
deriving DecidableEq, Repr, Inhabited

/-- An entry of a task's time log (R205): tick, position of the MRP in field mm, work state of each team section (0 off, 1 on, 2 error), and the
setpoint and the process value of each running loop. -/
structure TlgEnt where
  at_   : Nat
  x     : Int
  y     : Int
  work  : List (Nat × Nat)
  rates : List (Nat × Word × Word)
deriving DecidableEq, Repr, Inhabited

/-- The ISO 11783-10 task data of a job (R205): the task with its partfield, polygons and layers as the definition delivers them, the exclusions
added, the device with its team sections in team order and their product units, the time log, the gaps by team section, and the areas in mm². -/
structure TaskData where
  job    : JobDef
  added  : List Poly
  device : List (Nat × List Nat)
  tlog   : List TlgEnt
  gaps   : List (Nat × Nat × Nat)
  once   : Nat
  twice  : Nat
  excl   : Nat
deriving DecidableEq, Repr, Inhabited

/-- Coverage replica and job (R183 to R208). -/
structure Cov where
  job      : Option JobDef
  /-- extent: south-west corner in mm, tiles (R185) -/
  x0       : Int
  y0       : Int
  tx       : Nat
  ty       : Nat
  /-- codes of committed cells, and 11b of a cell whose exclusion came with a catch-up; an unlisted cell is 00b, and a cell that a polygon
  excludes is 11b whatever is listed (R183, R189, R200) -/
  code     : List (Nat × Nat)
  /-- exclusions added in RUN and in force (R190) -/
  added    : List Poly
  /-- exclusions distributed and not yet in force, by number (R190) -/
  polys    : List (Nat × Poly)
  /-- as leader: members still to acknowledge an exclusion, and the boundaries named -/
  acks     : List (Nat × List Nat)
  exclAt   : List (Nat × Nat)
  nextExcl : Nat
  /-- SEQTAB by position × 128 + output (R198) -/
  seqTab   : List (Nat × SeqEnt)
  /-- strips held for the merge at the next boundary, in order of arrival (R198) -/
  held     : List Strip
  /-- overflow queue (R198) -/
  early    : List Strip
  /-- holes: key × 2^32 + SEQ, and the stamp at which each opened (R199) -/
  holes    : List (Nat × Nat)
  /-- strips this position sent in the last 10 s, each with the tick it was sent at (R199) -/
  ring     : List (Nat × Strip)
  /-- strips the partner has still to acknowledge (R180) -/
  toAck    : List Strip
  /-- boundary at which the job entered RUN first: strips before it are foreign (R198); none: not yet -/
  startAt  : Option Nat
  /-- as leader: members that have reported their raster hash, and those that take no part until they do (R202) -/
  hashOk   : List Nat
  hashBad  : List Nat
  /-- stamps of the send of the definition and of the last report (R202) -/
  hashSent : Nat
  hashAt   : Nat
  /-- boundary at which the job enters RUN (R202) -/
  runAt    : Option Nat
  /-- boundary at which the leader gives SUSPEND because a lease has ended (R403) -/
  suspAt   : Option Nat
  /-- as leader: the joiner and S (R200) -/
  catchFor : Option (Nat × Nat)
  /-- as joiner: S -/
  catchS   : Nat
  /-- the replica's codes and sequence table as last stored, with the TB stamp of the store (R204) -/
  storedCode : List (Nat × Nat)
  storedSeq  : List (Nat × SeqEnt)
  storedAt : Nat
  /-- changed tiles not yet stored, and the write count of the job (R204) -/
  dirty    : List Nat
  writes   : Nat
  /-- the last store found the job store full (R204) -/
  storeFull : Bool
  /-- the stored job, and whether it was SUSPENDED -/
  storedJob : Option JobDef
  storedSusp : Bool
  /-- the stored job was in RUN, the power-cycle count of its last store, and its COMMIT_GAP intervals -/
  storedRun : Bool
  storedPcc : Nat
  storedGaps : List (Nat × Nat × Nat)
  /-- COVERAGE_LOST is due where no member holds the job (R204) -/
  lostDue  : Bool
  /-- tiles asked of the leader after a failed load (R204) -/
  fetch    : List Nat
  /-- export under way, and the export built last (R205) -/
  exporting : Bool
  exported : Option TaskData
  /-- the time log of the job, and as last stored (R205) -/
  tlog     : List TlgEnt
  storedLog : List TlgEnt
  /-- the exclusions added in RUN as last stored (R190, R204) -/
  storedAdded : List Poly
  /-- COMMIT_GAP intervals of the job: (output, first, last) (R173, R205, R406) -/
  gaps     : List (Nat × Nat × Nat)
  /-- signed application records (R406) -/
  records  : List AppRec
  /-- prescription packages taken for jobs: (JOB_ID) (R405) -/
  rxTaken  : List Nat
deriving DecidableEq, Repr, Inhabited
/-! ### PWM generator and output stage -/

/-- A COMMIT sampled in this tick, or a release that takes effect at the next (R241, R242). -/
structure ForcePend where
  groups : Nat
  one    : Nat
  who    : Nat
deriving DecidableEq, Repr, Inhabited

/-- A trip filter beside its registers (R243, R244). -/
structure TripSt where
  /-- stamp from which the filtered level has been inactive -/
  quiet : Nat
  /-- the last CLEAR: its tick, whether it was accepted, and the LATCH (accepted) or the CLEAR_REFUSED (refused) that it found (R244) -/
  clr   : Option (Nat × Bool × Nat)
deriving DecidableEq, Repr, Inhabited

/-- A change on its way over PL for a pair-wired channel, and the values it follows (R266). -/
structure PairCh where
  gate  : Bool
  force : Nat
deriving DecidableEq, Repr, Inhabited

/-- PWM generator and output stage (R228 to R252). -/
structure Pwm where
  wavs    : List (Nat × Wav)
  /-- tick in which LOAD_ALL armed a group (R237) -/
  armAt   : List (Nat × Nat)
  /-- force: a commit and a release that take effect in the next tick, the session of the forces in effect, stamp of the last COMMIT -/
  pend    : Option ForcePend
  release : Option Nat
  by_     : Option Nat
  commitAt : Nat
  trips   : List (Nat × TripSt)
  /-- hold-over watchdog: stamp at which it started (R247) -/
  wd      : Option Nat
  /-- stamp of the last OWN (R269) -/
  ownAt   : Option Nat
  /-- the values of levels 5 to 7 held by R33 or by a freeze, by channel 0 to 103 -/
  held    : Option (List Bool)
  /-- tick of the freeze in force (R246) -/
  frozen  : Option Nat
  /-- PD1 is halted by a debug session (R246) -/
  halted  : Bool
  /-- half-bridges: times in 1/32 tick before which the high and the low gate do not turn on (R235) -/
  hbWait  : List (Nat × (Nat × Nat))
  /-- actual state of each high-side channel since its last change other than the waveform's own edges -/
  sw      : List (Nat × EvSeg)
  /-- what pair-wired channels follow on the module that does not drive (R266) -/
  pair    : List (Nat × PairCh)
  /-- changes still to take effect: (tick, channel, gate, force, duty, phase) -/
  pairPend : List (Nat × Nat × Bool × Nat × Nat × Nat)
  /-- pair-wired channels held at their safe state after PAIR_WIRE_MISMATCH (R266) -/
  pairBad : List Nat
  /-- feed voltage in mV after the 1 ms filter, by feed: (stamp, mV), newest first (R263) -/
  volts   : List (Nat × List (Nat × Nat))
  /-- the tick of each load group's last transfer (R248) -/
  xferAt  : List (Nat × Nat)
  /-- what the driving module last told its partner of each pair-wired channel: gate, force, DUTY and PHASE (R266) -/
  pairSent : List (Nat × (Bool × Nat × Nat × Nat))
deriving DecidableEq, Repr, Inhabited
/-! ### Load channels and halter mode -/

/-- What levels 3 to 7 command of a channel since the last change of what drives it (R259): 0 off, 1 on, 2 its waveform. -/
structure CmdSeg where
  st      : Nat
  wav     : Wav
  /-- stamp from which the command has been off, as of that change -/
  offFrom : Nat
deriving DecidableEq, Repr, Inhabited

/-- A load channel beside its registers (R256 to R265). -/
structure LswCh where
  /-- tick at which the pending retry falls due (R258) -/
  due     : Option Nat
  /-- gap left of a paused retry -/
  left    : Option Nat
  /-- the gap ended during feed under-voltage: the retry is held (R264) -/
  held    : Bool
  /-- end of the retry window, and what is left of a frozen one -/
  winEnd  : Option Nat
  winLeft : Option Nat
  used    : Nat
  /-- consecutive qualifying on-samples above OC_THR (R257) -/
  ocRun   : Nat
  /-- consecutive qualifying on-samples below, and at or above, OL_THR, with the stamp of the first of each run (R260) -/
  lowRun  : Nat
  lowAt   : Nat
  highRun : Nat
  highAt  : Nat
  /-- stamp of the last qualifying on-sample -/
  qualAt  : Nat
  /-- stamps of thermal shutdowns within 10 s (R257) -/
  therm   : List Nat
  /-- clamp account: 10 ms buckets and the energy in each in 1/40,000,000,000 of 0.1 mJ (R261) -/
  clamp   : List (Nat × Nat)
  /-- by segment: consecutive samples with a share below 5 % and below 15 % (R422) -/
  share   : List (Nat × Nat)
  /-- segments out of service (R265) -/
  dead    : List (Fin 4)
  /-- stamp from which the channel has actually been on, as of the last change of what drives it -/
  onAt    : Nat
  cmd     : CmdSeg
  /-- tick from which something has driven the channel on, a waveform with its off intervals included (R260) -/
  driveAt : Nat
  /-- the tick at which each latch was set, by its bit of LSW_CHn_STAT (R273) -/
  latchAt : List (Nat × Nat)
deriving DecidableEq, Repr, Inhabited

/-- Load channels (R253 to R276). -/
structure Lsw where
  ch      : List (Nat × LswCh)
  /-- PULSE channels within their on-time (R270) -/
  pulseOn : List Nat
  /-- feeds whose second cluster is still to restart, with its stamp (R264) -/
  second  : List (Nat × Nat)
  /-- stamp of the last under-voltage of each feed (R264) -/
  uvAt    : List (Nat × Nat)
  /-- by feed: the codes of the readings of its channels, summed over buckets of 10 ms (R255) -/
  load    : List (Nat × List (Nat × Nat))
  /-- stamps at which halter inputs were accepted active, and of the last edge of PULSE channels (R270) -/
  inAt    : List (Nat × Nat)
  pulseAt : List (Nat × Nat)
deriving DecidableEq, Repr, Inhabited
/-! ### Rate control engine -/


/-- The inputs of the steps at a boundary (R278). -/
structure CtlIn where
  /-- outputs whose stride gate is ON -/
  gates : List Nat
  /-- calibrated analog values and SSI values, with their validity -/
  ain   : List (Word × Bool)
  ssi   : List (Word × Bool)
  /-- R_k of outputs whose STR_RATEn is VALID (R281) -/
  rates : List (Nat × Word)
  /-- v in mm/s -/
  v     : Word
deriving DecidableEq, Repr, Inhabited

/-- A trace channel (R293, R294). -/
structure TrcCh where
  /-- samples, newest first, at most 65,536 -/
  buf   : List Word
  /-- samples taken since ARM -/
  taken : Nat
  /-- steps of the tapped loop since ARM -/
  steps : Nat
  /-- samples still to take after the trigger -/
  left  : Option Nat
  /-- node value at the step before -/
  prev  : Option Word
deriving DecidableEq, Repr, Inhabited

/-- The injection that runs (R295 to R297). -/
structure Inj where
  loop  : Nat
  point : Nat
  sig   : Nat
  n     : Nat
  hold  : Nat
  amp   : Word
  f0    : Word
  f1    : Word
  lo    : Word
  hi    : Word
  dur   : Nat
  who   : Nat
  /-- boundary of its first step -/
  first : Option Nat
  /-- steps done -/
  steps : Nat
deriving DecidableEq, Repr, Inhabited

/-- A step of the checked lane as it may have to be discarded (R280): the loop, the injection and the registers before it. -/
structure LoopUndo where
  loop : Nat
  st   : LoopSt
  inj  : Option Inj
  regs : List (Nat × Word)
deriving DecidableEq, Repr, Inhabited

/-- Control engine (R277 to R303). -/
structure Ctl where
  loops   : List (Nat × LoopSt)
  inp     : CtlIn
  /-- loop lane whose steps the spare recomputes (R37) -/
  chkLane : Nat
  /-- the lane whose results differed in this cycle, and in the cycle before (R280) -/
  misNow  : Option Nat
  misLast : Option Nat
  trc     : List (Nat × TrcCh)
  inj     : Option Inj
  /-- lanes the steps of this cycle are dealt to (R279) -/
  lanes   : List Nat
  /-- steps of the checked lane in this cycle, newest first -/
  undo    : List LoopUndo
  /-- load groups written in this cycle, with the loop, and those found ARMED (R292) -/
  wrote   : List (Nat × Nat)
  skip    : List Nat
  /-- a FORCE waits for the next boundary (R294) -/
  trcForce : Bool
deriving DecidableEq, Repr, Inhabited
/-! ### CAN -/

/-- An entry of a controller's queue and ring (R313, R314). -/
structure CanEnt where
  stamp : Nat
  rseq  : Nat
  id    : Nat
  ide   : Bool
  rtr   : Bool
  fdf   : Bool
  dlc   : Nat
  flags : Nat
  tag   : Nat
  slot  : Nat
  deliv : Nat
  data  : List Nat
deriving DecidableEq, Repr, Inhabited

/-- The active content of a transmit slot (R320). -/
structure SlotAct where
  idw    : Word
  dlc    : Nat
  single : Bool
  abortP : Bool
  period : Nat
  txTb   : Nat
  late   : Nat
  data   : List Word
deriving DecidableEq, Repr, Inhabited

/-- A CAN controller beside its registers (R304 to R327). -/
structure CanCtl where
  /-- the on-chip queue of 256 entries (R313) -/
  queue  : List CanEnt
  /-- frames lost since the queue was full: stamp of the first and number -/
  lost   : Option (Nat × Nat)
  /-- the ring of 65,536 entries, newest first (R315) -/
  ring   : List CanEnt
  /-- entries delivered to each consumer and not yet taken, by RSEQ (R318) -/
  deliv  : List (Nat × List Nat)
  /-- active content of the slots, and content held by ARM_PENDING -/
  act    : List (Nat × SlotAct)
  hold   : List (Nat × SlotAct)
  /-- the attempt on the bus: slot and start-of-frame stamp -/
  cur    : Option (Nat × Nat)
  /-- ABORT was given during the attempt (R322) -/
  aborting : Bool
  /-- tick at which bus-off recovery was started (R310) -/
  recover : Option Nat
  /-- program and commit tick before a live swap: frames stamped before it are filtered by this (R52) -/
  oldFilt : Option (Nat × Filt)
  /-- address claim: 0 none, 1 claimed and silent, 2 in use, 3 lost until power-up (R326); stamp of the claim -/
  claim  : Nat
  claimAt : Nat
  /-- the NAME presented, shadowed to the partner (R324) -/
  name   : Nat
  /-- addresses known to be in use on the bus, by NAME (R326) -/
  used   : List (Nat × Nat)
  tp     : List TpSess
deriving DecidableEq, Repr, Inhabited

/-- The four CAN controllers. -/
structure Can where
  ctl : List (Nat × CanCtl)
deriving DecidableEq, Repr, Inhabited
/-! ### Team and pair -/

/-- A team link or PL beside its registers (R332 to R336, R346): by class, the LSEQ expected and the next to send, credits, and failures in
a row of the first frame not acknowledged. -/
structure LinkTx where
  rxExp   : List (Nat × Nat)
  txSeq   : List (Nat × Nat)
  credits : List (Nat × Nat)
  fails   : List (Nat × Nat)
  /-- frames sent and not acknowledged, with the stamp of the sending -/
  unacked : List (LFrame × Nat)
  waiting : List LFrame
  /-- stamp of the last change of state -/
  since   : Nat
  /-- stamp of the last timing request, and its departure in 1/32 tick until its reply -/
  syncAt  : Option Nat
  t1      : Option Nat
  /-- the class that comes next in the round-robin order (R335) -/
  rr      : Nat
  /-- the last 8 offsets -/
  offs    : List Int
deriving DecidableEq, Repr, Inhabited

/-- A module heard (R339): its HELLO, and this module's TB minus its TB at the hearing. -/
structure Heard where
  h    : Hello
  dtb  : Int
deriving DecidableEq, Repr, Inhabited

/-- Team and pair (R331 to R358). -/
structure Team where
  links    : List (Nat × LinkTx)
  /-- frames discarded because HOPS reached 0 (R332) -/
  hopsLost : Nat
  /-- MSGID of the next message by class (R332) -/
  msgId    : List (Nat × Nat)
  /-- messages handed to the links so far -/
  pumped   : Nat
  /-- (SRC, MSGID) of the last 256 TC4 frames (R345) -/
  seen     : List (Nat × Nat)
  heard    : List Heard
  /-- stamp of the first HELLO (R339) -/
  helloAt  : Option Nat
  /-- modules refused membership -/
  refused  : List Nat
  members  : List Nat
  /-- stamps of the last HELLO and the last beat sent -/
  helloTx  : Option Nat
  beatTx   : Option Nat
  /-- stamp of the last beat received; the last beat heard: leader, term, members -/
  beatAt   : Option Nat
  beat     : Option (Nat × Nat × List Nat)
  /-- discovery has ended for this module -/
  formed   : Bool
  /-- members at the last routing table (R341) -/
  tabMembers : List Nat
  /-- TEAM_PLAN_HASH or the active image differs from the leader's: the module takes no part (R339, R56) -/
  noPart   : Bool
  /-- TEAM_PLAN_HASH differs from the leader's (R339) -/
  planBad  : Bool
  /-- planned positions reported as not heard (R339) -/
  missing  : List Nat
  /-- changes of team state this module has asked the leader for and that are not named yet (R212, R342) -/
  asked    : List TeamChg
  routes   : RouteTab
  routeNext : Option RouteTab
  /-- holders of the roles by position: 0 pose solver, 1 time master, 2 ISOBUS -/
  roles    : List (Nat × Nat)
  /-- role moves and their boundaries: (boundary, role, position) (R342) -/
  roleNext : List (Nat × Nat × Nat)
  /-- the last 10 values of CLK_OFS (R347), and phase trimmed so far in 1/32 tick -/
  clk10    : List Int
  trim     : Int
  /-- TB ticks still to be withheld while slowed, and TB ticks since the last withheld one (R348) -/
  slewLeft : Nat
  slewCnt  : Nat
  /-- pair: stamp of the last valid heartbeat and its count, of the partner's loss; the last complete shadow (R350 to R353) -/
  hbAt     : Option Nat
  hbCnt    : Nat
  hbDrive  : Bool
  hbNext   : Nat
  hbTx     : Option Nat
  lostAt   : Option Nat
  shadow   : Option Shadow
  /-- as driving module: the last complete state sent to the partner (R350) -/
  shadowTx : Option Shadow
  /-- as driving module: the partner has acknowledged a complete state (R350, R354) -/
  partnerSh : Bool
  /-- boundary H of a handover (R354) -/
  handover : Option Nat
  /-- this module has sent a DRIVE_CLAIM (R353); the fence at which a module that yielded goes OFF -/
  claimed  : Bool
  splitF   : Nat
  /-- HEALTHY of this module's heartbeat (R351) -/
  healthy  : Bool
deriving DecidableEq, Repr, Inhabited
/-! ### Safety island -/

/-- A safety input beside SAF_INx (R363 to R365). Times count the ms of the SAFE clock. -/
structure SafIn where
  /-- time at which the first channel changed while the other has not followed (R365) -/
  firstAt : Option Nat
  /-- both channels have been at their demanding levels together since the fault, and have since left within DISC -/
  both    : Bool
  cycled  : Bool
  /-- consecutive failures of the checks of R364, and consecutive good pulses -/
  tpFail  : Nat
  csFail  : Nat
  good    : Nat
  /-- when channel A and channel B last changed their accepted levels, none: not since the island started -/
  accA    : Option Nat
  accB    : Option Nat
deriving DecidableEq, Repr, Inhabited

/-- A safety output beside SAF_SOx (R366 to R369). -/
structure SafSo where
  /-- time since which its conditions hold -/
  since  : Option Nat
  /-- the output test before the first closure has passed since the island started, and when it was last made -/
  tested : Bool
  preAt  : Option Nat
  /-- when SOx_H and SOx_L are next tested -/
  dueH   : Nat
  dueL   : Nat
  /-- an SRST edge must restart it whatever its restart mode (R361) -/
  needEdge : Bool
  /-- time since which a readback has contradicted the command -/
  rbAt   : Option Nat
  /-- it has closed since the island started (R367) -/
  shut   : Bool
deriving DecidableEq, Repr, Inhabited

/-- A safety connection beside SAF_CONNn (R377, R378). -/
structure SafConn where
  /-- LAST has been set -/
  seen  : Bool
  /-- consecutive PDUs accepted -/
  good  : Nat
  /-- the last 100 PDUs received, true where discarded -/
  hist  : List Bool
  /-- the evaluation that accepted the last PDU, or the time one was sent -/
  at_   : Nat
  /-- PRODUCER_FAULT of the last PDU accepted, or sent -/
  flt   : Bool
deriving DecidableEq, Repr, Inhabited

/-- The safety island (R359 to R384). -/
structure Saf where
  /-- evaluations since power-up, one each ms of the SAFE clock -/
  ms     : Nat
  /-- the first evaluation after the island last started (R363) -/
  start  : Nat
  /-- island resets of the last hour (R361) -/
  resets : List Nat
  ins    : List (Nat × SafIn)
  sos    : List (Nat × SafSo)
  conns  : List (Nat × SafConn)
  /-- consecutive good pulses of TPA and TPB since their drivers' faults, none: no fault (R364, R365) -/
  drvA   : Option Nat
  drvB   : Option Nat
  /-- when a pulse of TPA and of TPB was last checked -/
  tpaAt  : Option Nat
  tpbAt  : Option Nat
  /-- SRST (R370): accepted level, when it last changed, since when it is accepted active, a valid edge since the last evaluation, the valid edge
  of the last evaluation; active since the island started -/
  srst   : Bool
  srstAcc : Option Nat
  srstAt : Option Nat
  edgeIn : Bool
  edge   : Bool
  srstBoot : Bool
  /-- SAFMIR in force (R373) -/
  mir    : Option Safmir
deriving DecidableEq, Repr, Inhabited
/-! ### Bridle -/

/-- A livery partition (R398, R399). -/
structure Livery where
  /-- owner root -/
  root    : Nat
  /-- serials bound -/
  serials : List Nat
  /-- highest binding version ever taken -/
  version : Nat
  /-- this module holds a wrap of the LMK -/
  wrap    : Bool
  /-- number of the LMK in use: it rises with every rotation -/
  lmk     : Nat
  /-- LMKs kept wrapped under the present one, for jobs not yet rewritten -/
  oldLmk  : List Nat
  /-- owner revocation list and its version (R386) -/
  revoked : List Nat
  revVer  : Nat
deriving DecidableEq, Repr, Inhabited

/-- An installed lease with what has been counted (R403): area in mm², volume by product unit in 10⁻¹³ units. -/
structure LeaseSt where
  lease  : Lease
  area   : Nat
  vols   : List (Nat × Nat)
  /-- TT of the first and last commit counted -/
  firstT : Option Int
  lastT  : Option Int
  /-- JOB_IDs counted, COMMIT_GAP records -/
  jobs   : List Nat
  gaps   : Nat
  /-- it ended while a job under it was in RUN, which has not been in RUN anew since (R403) -/
  tail   : Bool
deriving DecidableEq, Repr, Inhabited

/-- A signed summary (R404): LEASE_ID, counts, OVER, final state. -/
structure LeaseSum where
  leaseId : Nat
  livery  : Nat
  st      : LeaseSt
  beyond  : Bool
  final   : Nat
deriving DecidableEq, Repr, Inhabited

/-- Bridle (R385 to R414). -/
structure Brd where
  sess    : List (Nat × Sess)
  /-- handshakes of CAN sessions: controller × 256 + address, and what the peer presented -/
  shakes  : List (Nat × Cred)
  /-- liveries by number 0 to 3 -/
  livs    : List (Nat × Livery)
  leases  : List (Nat × LeaseSt)
  sums    : List LeaseSum
  /-- numbers of permits used (R387) -/
  used    : List Nat
  /-- the object staged for the next BRD_CMD (R485) -/
  object  : Option BrdObj
  /-- unlock challenge (R413): the number of the free value it is -/
  chal    : Nat
  /-- TT_HWM as stored in eMMC, and the stamp of the last store (R393) -/
  hwmStored : Int
  hwmAt   : Nat
  /-- an ownership transfer and the boundary named for it: (boundary, livery, keep, new root) (R400) -/
  transfer : Option (Nat × Nat × Bool × Nat)
  /-- the UNLOCK in force, in ticks of operating time -/
  unlockAt : Option Nat
  /-- OTP unlock bits are in BRD_STATUS.UNLOCKS; team session key: its epoch and the stamp at which it was made (R396) -/
  tsk     : Nat
  tskAt   : Nat
  /-- an earlier TSK still accepted, and the stamp since which (R412) -/
  tskOld  : Option Nat
  /-- number of the DRAM key in use (R396) -/
  dramKey : Nat
  /-- the module is not bound to the selected livery, as last reported (R398) -/
  unbound : Bool
deriving DecidableEq, Repr, Inhabited
/-! ### Farrier -/

/-- A slice in progress (R420): kind, unit under test, boundary or stamp of its start, failures so far. -/
structure Slice where
  kind  : Nat
  unit  : Nat
  from_ : Nat
  fails : Nat
deriving DecidableEq, Repr, Inhabited

/-- Farrier (R415 to R430). The retired units, the SRAM rows, the DRAM rows and pages are the field repair map (R425). -/
structure Far where
  /-- retired units: (kind, unit) -/
  retired : List (Nat × Nat)
  /-- unused spares: (kind, unit) -/
  spares  : List (Nat × Nat)
  /-- the tracking bank that stands in for a bank of channels (R118); unlisted: the bank of the same number -/
  bankAt  : List (Nat × Nat)
  slices  : List Slice
  /-- consecutive passes of a retired unit: (kind, unit, passes) (R427) -/
  passes  : List (Nat × Nat × Nat)
  /-- a RETEST that waits for a slice of its kind to end -/
  waiting : Option (Nat × Nat)
  /-- DRAM pages retired without replacement (R426) -/
  pagesLost : Nat
  /-- redundant SRAM rows assigned, those to assign at the next start-up, and rows fenced: (macro, row) -/
  rows    : List (Nat × Nat)
  rowsDue : List (Nat × Nat)
  fenced  : List (Nat × Nat)
  /-- DRAM row repairs made and to make: (bank, row); retired pages -/
  ppr     : List (Nat × Nat)
  pprDue  : List (Nat × Nat)
  pages   : List Nat
  /-- addresses that a correction has been counted at, by memory: (memory, address, corrections) (R35) -/
  corr    : List (Nat × Nat × Nat)
  /-- consecutive reference conversions out of limits, by converter (R423) -/
  adcBad  : List (Nat × Nat)
  adcFail : List Nat
  /-- consecutive AIN resamples out of limits, by input, and the inputs with 3 within the present sweep -/
  ainBad  : List (Nat × Nat)
  ainSweep : List Nat
  /-- every AIN input's VALID is held clear (R423) -/
  ainFail : Bool
  /-- bus sequencers isolated until the next reset of PD1 (R456) -/
  seqOff  : List Nat
  /-- operating time in ticks of the last scrub of DRAM (R35) -/
  scrubAt : Nat
  /-- the two copies of the field repair map hold their CRC -/
  copy1   : Bool
  copy2   : Bool
  /-- the farrier's known-answer test has failed (R417) -/
  katBad  : Bool
  /-- stamp of the last slice by kind × 65,536 + unit (R420) -/
  sliceAt : List (Nat × Nat)
  /-- the analog input that is resampled next (R420) -/
  ainNext : Nat
deriving DecidableEq, Repr, Inhabited
/-! ### Register access -/

/-- An open handle (R485): object, session, direction, PARAM, LENGTH, and the bytes written so far by offset. -/
structure Handle where
  obj   : Nat
  who   : Nat
  write : Bool
  param : Nat
  len   : Nat
  data  : List (Nat × Nat)
deriving DecidableEq, Repr, Inhabited

/-- A request relayed to another member and not yet answered (R483): session, tag, member, stamp. -/
structure Relay where
  who : Nat
  tag : Nat
  mid : Nat
  at_ : Nat
deriving DecidableEq, Repr, Inhabited

/-- RAP (R478 to R486). -/
structure Rap where
  /-- SYS_RAP_CNT -/
  requests : Nat
  refused  : Nat
  handles  : List (Nat × Handle)
  /-- HI values latched by a session or relaying member: requester × 2^32 + address of LO (R479) -/
  latch    : List (Nat × Word)
  relays   : List Relay
  /-- set points of loops that a RAP write has set: the tick after the write (R484) -/
  spAt     : List (Nat × Nat)
deriving DecidableEq, Repr, Inhabited
/-! ### The state -/

/-- What the image in force gives this module's position (R41, R42, R47). -/
structure Cfg where
  outs : List OutEnt
  secs : List SecEnt
  chains : List Chain
  geom0 : Geom0
  pinfn : Pinfn
  gnss : GnssPar
  calib : Calib
  stbPol : StbPol
  loops : List LoopDef
  filts : List Filt
  /-- NAME and preferred address by position (R326) -/
  iso : List (Nat × IsoCfg)
  plan : TeamPlan
  secpol : SecPol
  /-- words of the registers only the image sets (RWI, R16) -/
  regs : List (Nat × Word)
  pwmInit : List PwmInit
  /-- a FORERUNNER image (R58) -/
  fore : Bool
  /-- hash of the STBPOL segment (R440) -/
  stbHash : Nat
deriving DecidableEq, Repr, Inhabited

/-- A message on its way out of the module. -/
structure Msg where
  kind : MsgKind
  dst : Nat
  args : List Int
deriving DecidableEq, Repr, Inhabited

/-- The module. -/
structure State where
  /-- commands that wait, first in first out -/
  pending : List Instr
  /-- the registers of R477: address and word, those that differ from their reset word (R16) -/
  regs : List (Nat × Word)
  /-- TB, in ticks of 5 ns (R14, R22) -/
  tb : Nat
  pwr : Pwr
  img : Img
  cfg : Cfg
  geo : Geo
  fbi : Fbi
  gns : Gns
  pos : Pos
  str : Str
  saf : Saf
  cov : Cov
  pwm : Pwm
  lsw : Lsw
  ctl : Ctl
  can : Can
  team : Team
  brd : Brd
  far : Far
  stb : Stb
  flt : Flt
  rap : Rap
  /-- messages that have left the module, oldest first -/
  sent : List Msg
  /-- free values used up so far: the model's own counter, no state of the module -/
  freeCnt : Nat
deriving DecidableEq, Repr, Inhabited

/-- What stops the module. -/
inductive Fault where
  /-- A quantity beyond the absolute maximum ratings, for which R494 states no behaviour. Raised by VLOG_OVERVOLTAGE and by POWER_UP.
  Safe: nothing is claimed of a module beyond its ratings. -/
  | beyondRatings
deriving DecidableEq, Repr, Inhabited

/-- What the model does not do. -/
inductive Refusal where
  /-- A command without a meaning. Raised by no meaning, only by an arm of exec that has none. Safe. -/
  | notModelled (mnemonic : String)
deriving DecidableEq, Repr, Inhabited

/-! ### The module right after reset

Each value is what the module holds with PD0 powered and nothing else (R24): an empty queue is empty, a count is 0, nothing is in
progress. -/

/-- A lever arm of 0 on the machine body. -/
def noLever : Lever := ⟨0, 0, 0, 0, 0⟩

/-- GEOM instance 0 before an image is in force. -/
def noGeom : Geom0 :=
  { family := .field, groundZ := 0, mrp := noLever, antenna := noLever, ins := noLever, ext := noLever, extLat := 0, press := [], workSrc := .none
    directedOk := false, latTc := 0, tcAuto := false, enc := 0, countsRev := 0, nStalls := 0, platVmin := 0, stallOf := [], odo := 0, mag := 0
    scale := 0, adapt := false, xa := 0, ya := 0, psiA := 0, m0 := 0, mPitch := 0, nM := 0, mCapture := 0, drMax := 0 }

/-- A team plan before an image is in force. -/
def noPlan : TeamPlan := ⟨[], [], [], [], 0, [], 0, 0⟩

/-- The recorder's policy before an image is in force: nothing disabled, raised or limited. -/
def noPolicy : StbPol := ⟨[], [], []⟩

/-- No image is in force. -/
def noCfg : Cfg :=
  { outs := [], secs := [], chains := [], geom0 := noGeom, pinfn := ⟨[], [], [], []⟩, gnss := ⟨[], .none, 0⟩, calib := ⟨[]⟩, stbPol := noPolicy, loops := [], filts := []
    iso := [], plan := noPlan, secpol := ⟨[], [], [], [], 0, false, false⟩, regs := [], pwmInit := [], fore := false, stbHash := 0 }

/-- An empty firmware slot. -/
def noSlot : FwSlot := ⟨false, 0, 0, 0, 0, [], false⟩

/-- See `State.reset`. -/
def Pwr.reset : Pwr :=
  { powered := true, tbRun := false, asleep := false, refOk := true, attn := false, ovOff := false, brown := false, cause := 1, unclean := false
    keyCond := false, keyoffK := none, attnOff := 0, keyRun := false, supplyAt := 0, aoOk := true, safeOk := true, stayFrom := 0, slotA := noSlot, slotB := noSlot
    boot1 := ⟨false, 0, false, 0⟩, boot2 := ⟨false, 0, false, 0⟩, running := none, otpFwSvn := 0, trialRun := false, trialAt := none, trialBad := false, mid := none
    paired := false, strapNow := 0, gaitOk := [], serial := 0, startDue := true, woken := false }

/-- See `State.reset`. -/
def Img.reset : Img :=
  { hash := 0, oemId := 0, slotActive := none, slotPending := none, slotGood := none, active := none, norHalter := [], norMir := none, otpSvn := 0
    teamWide := false, sending := false, acks := [], sentAt := 0, ackAt := 0, swapC := none, scope := [], loopScope := [], loopGone := []
    loopSwap := false, oldSets := [], restartAt := none, lastC := 0, uploaded := false, otpRoot := 0 }

/-- See `State.reset`. -/
def Geo.reset : Geo := ⟨[], []⟩

/-- See `State.reset`. -/
def Fbi.reset : Fbi := ⟨[], [], [], [], [], [], [], [], [], []⟩

/-- See `State.reset`. -/
def Gns.reset : Gns :=
  { chans := [], outBanks := [], ring := [], epochs := 0, recs := [], sky := [], evalAt := none, preLoss := [], alignBad := false, search := []
    roundAt := 0, eph := [], ants := [], excl := [], dopRun := [], geomRun := 0, geomAt := 0, geomOn := false, pathNext := none, badEval := 0
    goodEval := 0, lineRun := [], lowA := none, lowB := none, wideFrom := none, jamClear := none, jamN := false, jamW := false, nomGain := 0
    nomAt := 0, gains := [], antAt := 0, shortAt := 0, biasOff := false, openF := false, shortF := false, searchAt := 0, spoofAt := 0, spoofBad := 0, spoofBad1 := 0 }

/-- See `State.reset`. The pose is invalid until a source is valid (R131). -/
def Pos.reset : Pos :=
  { cur := none, prev := none, next := [], missing := 0, gnss := [], ext := [], speed := none, insTb := none, insBad := 0, insSilent := false
    source := 0, drSince := none, invalid := true, blendUm := 0, blendV := (0, 0, 0), corrSt := none, corrDrop := 0, validEp := 0, solAt := none, holdAt := none
    extSet := false, stepPend := none, slew := none, slewAt := 0, ofsNamed := [], lastS := none, lastPulse := none, tpo := false, tpoSub := 0, shapeRun := []
    shapeEp := [], ratioRun := [] }

/-- See `State.reset`. The engine did not run in the cycle before (R173). -/
def Str.reset : Str :=
  { outs := [], cycle := 0, written := true, foots := [], prevFoots := [], prevGap := 2, prov := [], provTiles := [], old := [], stamp := []
    recTiles := [], cache := [], want := [], late := false, cleanRun := 0, lateSum := 0, lateAt := 0, misLane := none, chkLane := 0, leftL2 := none
    direct := [], chgs := [], workSent := false, workTold := [], teamWork := false, modeNext := none, scheds := [], schedOff := false
    tcAt := none, sRef := 0, cRef := 0, setPend := false, orient := false, lastMatch := none, platIdx := false }

/-- See `State.reset`. -/
def Saf.reset : Saf :=
  { ms := 0, start := 0, resets := [], ins := [], sos := [], conns := [], drvA := none, drvB := none, tpaAt := none, tpbAt := none, srst := true
    srstAcc := none, srstAt := none, edgeIn := false, edge := false, srstBoot := false, mir := none }

/-- See `State.reset`. -/
def Cov.reset : Cov :=
  { job := none, x0 := 0, y0 := 0, tx := 0, ty := 0, code := [], added := [], polys := [], acks := [], exclAt := [], nextExcl := 0, seqTab := []
    held := [], early := [], holes := [], ring := [], toAck := [], startAt := none, hashOk := [], hashBad := [], hashSent := 0, hashAt := 0
    runAt := none, suspAt := none, catchFor := none, catchS := 0, storedCode := [], storedSeq := [], storedAt := 0, dirty := [], writes := 0
    storeFull := false, storedJob := none, storedSusp := false, storedRun := false, storedPcc := 0, storedGaps := [], lostDue := false, fetch := [], exporting := false, exported := none, tlog := []
    storedLog := [], storedAdded := [], gaps := [], records := [], rxTaken := [] }

/-- See `State.reset`. -/
def Pwm.reset : Pwm :=
  { wavs := [], armAt := [], pend := none, release := none, by_ := none, commitAt := 0, trips := [], wd := none, ownAt := none, held := none
    frozen := none, halted := false, hbWait := [], sw := [], pair := [], pairPend := [], pairBad := [], volts := [], xferAt := [], pairSent := [] }

/-- See `State.reset`. -/
def Lsw.reset : Lsw := ⟨[], [], [], [], [], [], []⟩

/-- See `State.reset`. -/
def Ctl.reset : Ctl :=
  { loops := [], inp := ⟨[], [], [], [], 0⟩, chkLane := 0, misNow := none, misLast := none, trc := [], inj := none, lanes := [],
    undo := [], wrote := [], skip := [], trcForce := false }

/-- See `State.reset`. -/
def Team.reset : Team :=
  { links := [], hopsLost := 0, msgId := [], pumped := 0, seen := [], heard := [], helloAt := none, refused := [], members := [], helloTx := none
    beatTx := none, beatAt := none, beat := none, formed := false, tabMembers := [], noPart := false, planBad := false, missing := []
    asked := [], shadowTx := none, routes := ⟨0, [], [], [], none, 0, 0, 0⟩
    routeNext := none, roles := [], roleNext := [], clk10 := [], trim := 0, slewLeft := 0, slewCnt := 0, hbAt := none, hbCnt := 0, hbDrive := false
    hbNext := 0, hbTx := none, lostAt := none, shadow := none, partnerSh := false, handover := none, claimed := false, splitF := 0
    healthy := true }

/-- See `State.reset`. -/
def Brd.reset : Brd :=
  { sess := [], shakes := [], livs := [], leases := [], sums := [], used := [], object := none, chal := 0, hwmStored := 0, hwmAt := 0
    transfer := none, unlockAt := none, tsk := 0, tskAt := 0, tskOld := none, dramKey := 0, unbound := false }

/-- See `State.reset`. The spares as shipped are lane S8, loop lane C4, two acquisition tiles and a tracking bank (R21, R115, R118). -/
def Far.reset : Far :=
  { retired := [], spares := [(0, 8), (1, 4), (7, 16), (7, 17), (8, 12)], bankAt := (List.range 12).map (fun b => (b, b)), slices := []
    passes := [], waiting := none, pagesLost := 0, rows := [], rowsDue := [], fenced := [], ppr := [], pprDue := [], pages := [], corr := []
    adcBad := [], adcFail := [], ainBad := [], ainSweep := [], ainFail := false, seqOff := [], scrubAt := 0, copy1 := true, copy2 := true
    katBad := false, sliceAt := [], ainNext := 0 }

/-- See `State.reset`. -/
def Stb.reset : Stb :=
  { seq := 0, mark := 4096, pcc := 0, optTicks := 0, optSaved := 0, raiseQ := [], retBuf := [], holdQ := [], log := [], nor := [], frozenAt := none
    frozenBy := 0, freezeEnd := none, holdLost := 0, drops := [0, 0, 0, 0], ovw := [0, 0, 0, 0], dropSec := [0, 0, 0, 0], dropRange := (0, 0)
    dropSeen := false, dropAt := 0, markAt := 0, limSec := 0, limited := [], wearStop := false, collect := [], collected := [], missing := []
    collectAt := 0, joined := [], norSigned := 0, chal := none
    exported := none, corrupt := [] }

/-- See `State.reset`. -/
def Flt.reset : Flt := { inbox := [], queue := [], active := [], prev := [], recent := [], resets := [], down := [], lifeAt := none }

/-- See `State.reset`. -/
def Rap.reset : Rap := { requests := 0, refused := 0, handles := [], latch := [], relays := [], spAt := [] }

/-- The module right after reset: PD0 is powered, every register holds its reset word, and start-up has not begun (R24, R463). -/
def State.reset : State :=
  { pending := [], regs := [], tb := 0, pwr := Pwr.reset, img := Img.reset, cfg := noCfg, geo := Geo.reset, fbi := Fbi.reset, gns := Gns.reset
    pos := Pos.reset, str := Str.reset, saf := Saf.reset, cov := Cov.reset, pwm := Pwm.reset, lsw := Lsw.reset, ctl := Ctl.reset, can := ⟨[]⟩
    team := Team.reset, brd := Brd.reset, far := Far.reset, stb := Stb.reset, flt := Flt.reset, rap := Rap.reset, sent := [], freeCnt := 0 }

end Sys2Proof.Machine
end

