-- ==== Sys2Proof/Machine/Ops.lean ====
section
/-!
DEFINITION. Machine/Ops.lean: the named operations every command is written over: sparse maps in canonical form, the register
file and its fields, time, raising records and faults (R431 to R436, R446, R447), messages sent, free values, the power
domains and the service level.
-/

namespace Sys2Proof.Machine

/-- The outcome of a command. -/
abbrev Out := Host.Outcome State Fault Refusal

/-! ### Sparse maps -/

/-- The value a sparse map holds at a key; an unlisted key holds the default. -/
def smGet {α : Type} (d : Nat → α) : List (Nat × α) → Nat → α
  | [], k => d k
  | (k', v) :: m, k => if k' = k then v else smGet d m k

/-- Remove a key. -/
def smDel {α : Type} (k : Nat) : List (Nat × α) → List (Nat × α)
  | [] => []
  | (k', v) :: m => if k' = k then smDel k m else (k', v) :: smDel k m

/-- Put a key at its place in rising order. -/
def smIns {α : Type} (k : Nat) (v : α) : List (Nat × α) → List (Nat × α)
  | [] => [(k, v)]
  | (k', v') :: m =>
    if k < k' then (k, v) :: (k', v') :: m
    else if k' = k then (k, v) :: m
    else (k', v') :: smIns k v m

/-- Write a key, keeping the canonical form: an entry equal to the default is removed. -/
def smSet {α : Type} [DecidableEq α] (d : Nat → α) (k : Nat) (v : α) (m : List (Nat × α)) : List (Nat × α) :=
  if v = d k then smDel k m else smIns k v m

/-- The canonical form: keys strictly rising and no entry equal to the default. -/
def smWf {α : Type} [DecidableEq α] (d : Nat → α) : List (Nat × α) → Bool
  | [] => true
  | [(k, v)] => decide (v ≠ d k)
  | (k, v) :: (k', v') :: m => decide (v ≠ d k) && decide (k < k') && smWf d ((k', v') :: m)

/-- The entry a sparse map lists at a key, if it lists one. -/
def smFind {α : Type} (m : List (Nat × α)) (k : Nat) : Option α := (m.find? (fun x => x.1 == k)).map (·.2)

/-- The default of a map of counters. -/
def zero : Nat → Nat := fun _ => 0

/-- The default of a map of optional entries. -/
def absent {α : Type} : Nat → Option α := fun _ => none

/-- A key of a map indexed by two numbers, the second below 65,536. -/
def key2 (a b : Nat) : Nat := a * 65536 + b

/-! ### Lists -/

/-- Replace the entry at an index. -/
def setAt {α : Type} (l : List α) (i : Nat) (v : α) : List α := l.set i v

/-- Add one to the entry at an index. -/
def bumpAt (l : List Nat) (i : Nat) : List Nat := l.set i (l.getD i 0 + 1)

/-- Add one, saturating at a limit. -/
def satInc (lim v : Nat) : Nat := if v < lim then v + 1 else lim

/-- Add, saturating at a limit. -/
def satAdd (lim v n : Nat) : Nat := min lim (v + n)

/-- Remove the first entry that satisfies a predicate. -/
def removeFirst {α : Type} (p : α → Bool) : List α → List α
  | [] => []
  | x :: xs => if p x then xs else x :: removeFirst p xs

/-- A signed value of `w` bits from its bits. -/
def sext (w v : Nat) : Int := if v % 2 ^ w < 2 ^ (w - 1) then (v % 2 ^ w : Nat) else (v % 2 ^ w : Nat) - (2 ^ w : Nat)

/-- The bits of a signed value in `w` bits. -/
def bitsOf (w : Nat) (v : Int) : Nat := (v % (2 ^ w : Nat)).toNat

/-- Clamp an integer into a range. -/
def clampInt (lo hi v : Int) : Int := if v < lo then lo else if hi < v then hi else v

/-- The bits a register field of `w` bits shows of a signed value: where the value does not fit, the open value of
`Config.unfit` (spec/ states none). Log 10: DESIGN CHOICE. -/
def fitS (w : Nat) (v : Int) : Nat :=
  if -(2 ^ (w - 1) : Int) ≤ v ∧ v < 2 ^ (w - 1) then bitsOf w v else Config.unfit w v % 2 ^ w

/-- The same for an unsigned field. Log 10: DESIGN CHOICE. -/
def fitU (w : Nat) (v : Nat) : Nat := if v < 2 ^ w then v else Config.unfit w v % 2 ^ w

/-- A division whose rounding spec/ leaves open: the floor or the ceiling of the quotient. Log 9: DESIGN CHOICE. -/
def divOpen (a b : Int) : Int :=
  if a % b = 0 then a / b else a / b + (if Config.roundUp a b then 1 else 0)

/-- A bit of a number. -/
def bitOf (v i : Nat) : Bool := v / 2 ^ i % 2 = 1

/-- A number with one bit set or cleared. -/
def setBit (v i : Nat) (b : Bool) : Nat := v - (if bitOf v i then 2 ^ i else 0) + (if b then 2 ^ i else 0)

/-- A Boolean as a bit. -/
def b2n (b : Bool) : Nat := if b then 1 else 0

/-! ### Registers -/

/-- A field of a word. -/
def fgetW (w : Word) (f : Fld) : Nat := w.toNat / 2 ^ f.lo % 2 ^ f.w

/-- A word with a field replaced by the low bits of a value. -/
def fsetW (w : Word) (f : Fld) (v : Nat) : Word :=
  BitVec.ofNat 32 (w.toNat % 2 ^ f.lo + v % 2 ^ f.w * 2 ^ f.lo + w.toNat / 2 ^ (f.lo + f.w) * 2 ^ (f.lo + f.w))

/-- The word a register holds (R16, R477). Log 13: DESIGN CHOICE. -/
def rget (s : State) (a : Nat) : Word := smGet resetWord s.regs a

/-- Set a whole register. Log 13: DESIGN CHOICE. -/
def rset (s : State) (a : Nat) (w : Word) : State := { s with regs := smSet resetWord a w s.regs }

/-- A field of a register. -/
def fget (s : State) (a : Nat) (f : Fld) : Nat := fgetW (rget s a) f

/-- A one-bit field of a register. -/
def fbit (s : State) (a : Nat) (f : Fld) : Bool := fget s a f != 0

/-- Set a field of a register. -/
def fset (s : State) (a : Nat) (f : Fld) (v : Nat) : State := rset s a (fsetW (rget s a) f v)

/-- Set or clear a one-bit field. -/
def fsetb (s : State) (a : Nat) (f : Fld) (b : Bool) : State := fset s a f (b2n b)

/-- Add one to a counter field that saturates at its highest value. -/
def fincSat (s : State) (a : Nat) (f : Fld) : State := fset s a f (satInc (2 ^ f.w - 1) (fget s a f))

/-- Add to a counter field that saturates at its highest value. -/
def faddSat (s : State) (a : Nat) (f : Fld) (n : Nat) : State := fset s a f (satAdd (2 ^ f.w - 1) (fget s a f) n)

/-- Add one to a counter field that wraps. -/
def fincWrap (s : State) (a : Nat) (f : Fld) : State := fset s a f (fget s a f + 1)

/-- Add to a counter field that wraps. -/
def faddWrap (s : State) (a : Nat) (f : Fld) (n : Nat) : State := fset s a f (fget s a f + n)

/-- Set a whole register from a number, modulo 2^32. -/
def rsetN (s : State) (a : Nat) (v : Nat) : State := rset s a (BitVec.ofNat 32 v)

/-- Set a LO/HI pair to the 64 bits of a number. -/
def rset64 (s : State) (lo hi : Nat) (v : Nat) : State := rsetN (rsetN s lo v) hi (v / 2 ^ 32)

/-- Read a LO/HI pair. -/
def rget64 (s : State) (lo hi : Nat) : Nat := (rget s lo).toNat + (rget s hi).toNat * 2 ^ 32

/-- Return every register that satisfies a predicate to its reset word. -/
def rclear (s : State) (p : Nat → Bool) : State := { s with regs := s.regs.filter (fun c => !p c.1) }

/-- Write a list of (address, word) pairs. -/
def rsetAll (s : State) : List (Nat × Word) → State
  | [] => s
  | (a, w) :: l => rsetAll (rset s a w) l

/-- Apply a function for each index below a bound, lowest first. -/
def forN (n : Nat) (f : Nat → State → State) (s : State) : State := (List.range n).foldl (fun s i => f i s) s

/-- Apply a function for each entry of a list in order. -/
def forEach {α : Type} (l : List α) (f : α → State → State) (s : State) : State := l.foldl (fun s x => f x s) s

/-- Apply a function where a condition holds. -/
def whenB (c : Bool) (f : State → State) (s : State) : State := if c then f s else s

/-! ### Time -/

/-- TB ticks in a number of milliseconds (R22: TB is 200 MHz). -/
def msTicks (n : Nat) : Nat := n * 200000

/-- TB ticks in a number of microseconds. -/
def usTicks (n : Nat) : Nat := n * 200

/-- TB ticks in one second. -/
def secTicks : Nat := 200000000

/-- TB ticks of one stride cycle, 200 µs (R149). -/
def cycleTicks : Nat := 40000

/-- The last stride boundary at or before a tick (R149). -/
def boundaryAt (t : Nat) : Nat := t / cycleTicks * cycleTicks

/-- The first stride boundary after a tick. -/
def nextBoundary (t : Nat) : Nat := boundaryAt t + cycleTicks

/-- The first stride boundary at or after a tick. -/
def boundaryFrom (t : Nat) : Nat := (t + (cycleTicks - 1)) / cycleTicks * cycleTicks

/-- Has a time been reached since a stamp? Log 4: DESIGN CHOICE. -/
def elapsed (s : State) (since n : Nat) : Bool := decide (since + n ≤ s.tb)

/-- Has a time counted on AO passed since a stamp of TB (R22, R502)? AO may run ahead of TB by its ±50 ppm and REF's ±20 ppm, and the edge counts
within 2 ticks of TB. While TB is stopped it measures nothing: the happening itself says that its time has come. Log 63: DESIGN CHOICE. -/
def aoElapsed (s : State) (since n : Nat) : Bool := !s.pwr.tbRun || decide (since + n ≤ s.tb + (n * 70 / 1000000 + 2))

/-- The same from a stamp that may be missing: where TB has stopped meanwhile none is held. Log 63: DESIGN CHOICE. -/
def aoPast (s : State) (since : Option Nat) (n : Nat) : Bool := match since with
  | some t => aoElapsed s t n
  | none => true

/-- AO ticks of 1/32,768 s in ticks of TB (R22). -/
def aoTicks (n : Nat) : Nat := n * 390625 / 64

/-- OPT, operating time in ms: 40 bits, holding at its maximum (R433, R457). -/
def optMs (s : State) : Nat := min (2 ^ 40 - 1) (s.stb.optTicks / 200000)

/-! ### Messages and free values -/

/-- Put a message on its way out of the module. Log 62: DESIGN CHOICE. -/
def send (s : State) (k : MsgKind) (dst : Nat) (args : List Int) : State :=
  { s with sent := s.sent ++ [⟨k, dst, args⟩] }

/-- Use up the free value the counter stands at. Log 8: DESIGN CHOICE. -/
def freeNext (s : State) : State := { s with freeCnt := s.freeCnt + 1 }

/-! ### Power domains -/

/-- PDd is powered (R24, PWR_STATUS.DOMAINS). -/
def domPow (s : State) (d : Nat) : Bool := bitOf (fget s R.PWR_STATUS F.PWR_STATUS_DOMAINS) d

/-- PDd is powered and its clocks run: every domain but PD0 takes its clocks from REF and stops with it (R22, R23, R24). Log 22: DEDUCED. -/
def domOn (s : State) (d : Nat) : Bool := domPow s d && (d == 0 || s.pwr.refOk)

/-- Switch a domain (R24). -/
def domSet (s : State) (d : Nat) (b : Bool) : State :=
  fset s R.PWR_STATUS F.PWR_STATUS_DOMAINS (setBit (fget s R.PWR_STATUS F.PWR_STATUS_DOMAINS) d b)

/-- The service level L0 to L2 (R6, SYS_LEVEL). -/
def level (s : State) : Nat := fget s R.SYS_LEVEL F.SYS_LEVEL_LEVEL

/-- The module ID, 255 before the straps are read (R337, R431). -/
def midOf (s : State) : Nat := s.pwr.mid.getD 255

/-- Team position of this module: its module ID is 2 × position + B (R337). -/
def posOf (s : State) : Nat := midOf s / 2

/-- The part is an NSC960-G (R1). -/
def isG (s : State) : Bool := fbit s R.SYS_ID F.SYS_ID_CODE_G

/-! ### Records and faults -/

/-- Severity where a rule of spec/ gives one (R431, R440); otherwise 2 for a fault event and 1 for any other. Log 35: DEDUCED. -/
def evSev (isFault : Bool) : Ev → Nat
  | .CLEARED => 3
  | .ISLAND_FAULT => 3
  | .SW_INVALID => 3
  | .SW_CHANGED => 3
  | .DEBUG_UNLOCK => 3
  | .TRANSFER => 3
  | .DROPPED => 2
  | .TB_MARK => 0
  | _ => if isFault then 2 else 1

/-- The recorder's own types, always raised (R440, R441). -/
def evOwn : Ev → Bool
  | .POWER_UP => true
  | .TIME_SET => true
  | .CLEARED => true
  | .FREEZE => true
  | .DROPPED => true
  | .POLICY => true
  | .TB_MARK => true
  | _ => false

/-- Events that are no faults: the rules record them and name nothing that fails (R431, R446). Log 35: DEDUCED. -/
def evNotes : List Ev := [
    .CAN_WAKE, .CH_FAULT, .CLEARED, .CMP_HIT, .COLLECT_MISSING, .COMMIT_GAP, .CONN_STATE, .COUNT_WRAP, .COVERAGE_LOST, .DEBUG_UNLOCK, .DELAY_CLAMP,
    .DIR_CHG, .DROPPED, .ESCALATED, .FAR_RESTORED, .FAR_TEST_FAIL, .FEED_RESTART, .FORCE_RELEASE, .FREEZE, .FW_CONFIRMED, .GEOM_HELD,
    .HALTER_ENTRY, .HALTER_EXIT, .IMG_CHECKED, .IMG_SWAPPED, .INDEX_MISSING, .INJ_END, .INJ_START, .LEVEL_CHANGE, .LOOP_STATE, .MAG_CENTRE,
    .NOTCH_OFF, .NOTCH_ON, .PAIR_ALONE, .PAIR_SPLIT, .POLICY, .POWER_UP, .PRESENT_OFF, .PRESENT_ON, .REPLICA_HOLE, .RETRY, .RETRY_PAUSED,
    .RETRY_RESUMED, .SAFETY_CRC, .SEGMENT_UNTESTED, .SESSION_CLOSED, .SESSION_OPEN, .SESSION_REFUSED, .SHAPE_DIFF, .SHUNT_OPEN, .SOURCE_CHANGE,
    .SRST_STUCK, .STALL_SHORT, .SUBSUMED, .TAKEOVER, .TB_AHEAD, .TB_MARK, .TB_SLEW, .TB_STEP, .TIME_SET, .TRANSFER, .WD_SUSPEND, .WRITE_DENIED]

/-- The event is a fault's (R446, R488). Log 35: DEDUCED. -/
def evFault (e : Ev) : Bool := !evNotes.contains e

/-- TYPE of an event (R431): the recorder's own types by R440, every other by the running firmware's catalogue. Log 7: DESIGN CHOICE. -/
def evType : Ev → Nat
  | .POWER_UP => 0x1D01
  | .TIME_SET => 0x1D02
  | .CLEARED => 0x1D03
  | .FREEZE => 0x1D04
  | .DROPPED => 0x1D05
  | .POLICY => 0x1D06
  | .TB_MARK => 0x1D07
  | e => Config.evType e

/-- Payload bytes of an event: the recorder's own by R440, every other by the catalogue (R488). Log 7: DESIGN CHOICE. -/
def evPlen : Ev → Nat
  | .POWER_UP => 24
  | .TIME_SET => 28
  | .CLEARED => 20
  | .FREEZE => 8
  | .DROPPED => 16
  | .POLICY => 16
  | .TB_MARK => 20
  | e => Config.evPlen e

/-- Bytes a record takes in storage: header, payload and CRC (R431). -/
def recSize (r : Rec) : Nat := 24 + evPlen r.ev + 4

/-- Index of the oldest record of severity at most `sev`. -/
def oldestAtMost (sev : Nat) : List Rec → Option Nat
  | [] => none
  | r :: rs => if r.sev ≤ sev then some 0 else (oldestAtMost sev rs).map (· + 1)

/-- Count a drop (R436). -/
def stbDrop (b : Stb) (r : Rec) : Stb :=
  { b with
    drops := bumpAt b.drops r.sev
    dropSeen := true
    dropSec := bumpAt b.dropSec r.sev
    dropRange := if b.dropSec.foldl (· + ·) 0 = 0 then (r.seq, r.seq) else (b.dropRange.1, r.seq) }

/-- Count a removal (R436). -/
def stbRemove (b : Stb) (r : Rec) : Stb := { b with ovw := bumpAt b.ovw r.sev }

/-- Enter a record into a queue of a number of places by R436: the oldest record of its severity or below makes room, and where
none can, the record is dropped. DROPPED replaces the oldest record of any severity. -/
def stbAdmit (cap : Nat) (q : List Rec) (r : Rec) (b : Stb) : List Rec × Stb :=
  if q.length < cap then (q ++ [r], b)
  else match oldestAtMost (if r.ev = Ev.DROPPED then 3 else r.sev) q with
    | some i => (q.eraseIdx i ++ [r], match q[i]? with | some x => stbRemove b x | none => b)
    | none => (q, stbDrop b r)

/-- Bytes of NOR a list of records takes, none spanning a 4 KiB sector (R435). -/
def packedSize : List Rec → Nat → Nat
  | [], pos => pos
  | r :: rs, pos =>
    packedSize rs (if pos % 4096 + recSize r ≤ 4096 then pos + recSize r else (pos / 4096 + 1) * 4096 + recSize r)

/-- Remove the oldest records of a record's severity or below until it fits (R436). -/
def stbRoom (cap : Nat) (r : Rec) : Nat → List Rec → Stb → List Rec × Stb
  | 0, q, b => (q, b)
  | n + 1, q, b =>
    if packedSize (q ++ [r]) 0 ≤ cap then (q, b)
    else match oldestAtMost r.sev q with
      | some i => stbRoom cap r n (q.eraseIdx i) (match q[i]? with | some x => stbRemove b x | none => b)
      | none => (q, b)

/-- Store a record in a log of a number of bytes by R436: where the records of its severity or below cannot make room, it is dropped. Log 59: DEDUCED. -/
def stbStore (cap : Nat) (r : Rec) (q : List Rec) (b : Stb) : List Rec × Stb :=
  if packedSize (q.filter (fun x => decide (r.sev < x.sev)) ++ [r]) 0 ≤ cap then
    let p := stbRoom cap r q.length q b
    (p.1 ++ [r], p.2)
  else (q, stbDrop b r)

/-- Bytes of the eMMC log and of the NOR area (R435). -/
def logBytes : Nat := 64 * 1024 * 1024
/-- Bytes of the NOR area of severity-3 records (R435). -/
def norBytes : Nat := 1024 * 1024

/-- Write a severity-3 record to NOR (R434, R435); a sector that it finds full is signed. Log 59: DEDUCED. -/
def stbNor (r : Rec) (b : Stb) : Stb :=
  if r.sev = 3 ∧ r ∉ b.nor then
    let p := stbStore norBytes r b.nor b
    let full := decide (packedSize b.nor 0 % 4096 + recSize r > 4096)
    { p.2 with nor := p.1, norSigned := if full then ((b.nor.getLast?).map (·.seq)).getD b.norSigned else b.norSigned }
  else b

/-- Take the next SEQ (R432): from 1, wrapping to 1, with the resume mark kept a multiple of 4,096 above every SEQ issued. -/
def stbSeq (b : Stb) : Stb :=
  let n := if b.seq + 1 < 2 ^ 32 then b.seq + 1 else 1
  { b with seq := n, mark := if n < b.seq then 4096 else if n = b.mark then b.mark + 4096 else b.mark }

/-- How many records of a TYPE were raised in the present second (R441). -/
def limitCount (b : Stb) (t : Nat) : Nat := smGet zero b.limited t

/-- Does STBPOL disable a TYPE (R441)? -/
def polDisabled (p : StbPol) (t : Nat) : Bool := p.disabled.contains t

/-- The records per second STBPOL allows a TYPE (R441). -/
def polLimit (p : StbPol) (t : Nat) : Option Nat := (p.limits.find? (fun l => l.1 == t)).map (·.2)

/-- Raise a record (R431, R434, R436, R437, R441): it takes the next SEQ and the stamps of the happening and enters the queue
where it waits: the retention buffer while PD1 is not running, the holding queue during a freeze, the raise queue otherwise. -/
def recRaise (s : State) (isFault : Bool) (e : Ev) (args : List Int) : State :=
  let sev0 := evSev isFault e
  let pol := s.cfg.stbPol
  let sev := if sev0 < 2 ∧ evOwn e = false ∧ pol.raised.contains (evType e) then sev0 + 1 else sev0
  let free := decide (2 ≤ sev0) || evOwn e
  if free = false ∧ polDisabled pol (evType e) then s
  else
    let b := stbSeq s.stb
    let r : Rec := ⟨e, args, sev, b.frozenAt.isSome, !domPow s 1, midOf s, b.seq, optMs s, b.pcc, s.tb % 2 ^ 32⟩
    match (if free then none else polLimit pol (evType e)) with
    | some n =>
      let sec := optMs s / 1000
      let had := if s.stb.limSec = sec then limitCount s.stb (evType e) else 0
      if n ≤ had then
        -- beyond the limit: not raised, counted in DROPPED as if dropped
        { s with stb := { s.stb with dropSec := bumpAt s.stb.dropSec sev, drops := bumpAt s.stb.drops sev, dropSeen := true } }
      else { s with stb := enter r { b with
        limSec := sec, limited := smSet zero (evType e) (had + 1) (if b.limSec = sec then b.limited else []) } }
    | none => { s with stb := enter r b }
where
  /-- Put the record into the queue where it waits. -/
  enter (r : Rec) (b : Stb) : Stb :=
    if r.ao then
      let p := stbAdmit 64 b.retBuf r (stbNor r b)
      { p.2 with retBuf := p.1 }
    else if r.held then
      let b1 := stbNor r b
      let p := stbAdmit 256 b1.holdQ r b1
      { p.2 with holdQ := p.1, holdLost := if b1.holdQ.length < 256 then p.2.holdLost else p.2.holdLost + 1 }
    else
      let p := stbAdmit 1024 b.raiseQ r b
      { p.2 with raiseQ := p.1 }

/-- Raise an event that is no fault. -/
def raise (s : State) (e : Ev) (args : List Int) : State := recRaise s false e args

/-- Class of a fault event: where spec/ names one (R446, R456, R459), that; GAIT_LOW, which changes no behaviour (R20), is a NOTE; every other by the
catalogue (R488). Log 7: DESIGN CHOICE. Log 66: DESIGN CHOICE. -/
def evClass : Ev → Nat
  | .LANE_RETIRED => 1
  | .SPARE_LOST => 1
  | .GEOM_SECONDARY => 1
  | .GNSS_FALLBACK => 1
  | .STUCK_ON => 2
  | .GAIT_LOW => 0
  | .CAN_ERROR => 0
  | .INERTIAL_CRC => 0
  | .LINK_RESEND => 0
  | .SSI_DISCARDED => 0
  | .TLS_ERROR => 0
  | .LOOP_FAULT => 2
  | .OC_LATCH => 2
  | .SHORT_LATCH => 2
  | .THERM_LATCH => 2
  | .POSE_INVALID => 3
  | e => Config.evClass e

/-- A report to the fault manager (R446, R447): the event, its class, and whether its condition has begun or ended. -/
def report (e : Ev) (args : List Int) (cls : Nat) (onset : Bool) (s : State) : State :=
  { s with flt := { s.flt with inbox := s.flt.inbox ++ [⟨e, args, cls, onset, s.tb⟩] } }

/-- Raise a fault of a given class: its record, and its report to the fault manager (R446, R447). -/
def faultCls (s : State) (e : Ev) (args : List Int) (cls : Nat) : State := report e args cls true (recRaise s true e args)

/-- Raise a fault. -/
def fault (s : State) (e : Ev) (args : List Int) : State := faultCls s e args (evClass e)

/-- The condition of a fault has ended, of which spec/ names no record: the report to the fault manager (R450). -/
def faultOver (s : State) (e : Ev) (args : List Int) : State := report e args (evClass e) false s

/-- A fault whose condition is over with the check that finds it (R450). Log 23: DEDUCED. -/
def faultOnce (s : State) (e : Ev) (args : List Int) : State := faultOver (fault s e args) e args

/-- A fault is named by its event and its first argument. -/
def fltKey (e : Ev) (args : List Int) : Ev × Int := (e, args.headD 0)

/-- Does the fault manager hold a fault as active, queued or arrived? -/
def fltHeld (s : State) (e : Ev) (args : List Int) : Bool :=
  s.flt.active.any (fun a => fltKey a.ev a.args == fltKey e args) || (s.flt.queue ++ s.flt.inbox).any (fun r => r.onset && fltKey r.ev r.args == fltKey e args)

/-- A fault that is held ends (R450). Log 23: DEDUCED. -/
def faultPast (s : State) (e : Ev) (args : List Int) : State := if fltHeld s e args then faultOver s e args else s

/-- The condition of a fault has ended: a record, and the end's report to the fault manager (R450). -/
def faultEnd (s : State) (e : Ev) (args : List Int) : State := report e args (evClass e) false (recRaise s true e args)

end Sys2Proof.Machine
end

