-- ==== Sys2Proof/Machine/Access.lean ====
section
/-!
DEFINITION. Machine/Access.lean: the role a session holds and what each role may do (R385, R388 to R390), the order of checks of a
register access (R478), and the answer a request gets (R480 to R482).
-/

namespace Sys2Proof.Machine

/-! ### Times and chains -/

/-- TT_OFS as a signed value (R140). -/
def ttOfsI (s : State) : Int := sext 64 (rget64 s R.POS_TT_OFS_LO R.POS_TT_OFS_HI)

/-- TT in units of 156.25 ps (R140). -/
def ttNow (s : State) : Int := (s.tb : Int) * 32 + ttOfsI s

/-- TT_HWM (R393). -/
def ttHwm (s : State) : Int := sext 64 (rget64 s R.BRD_TT_HWM_LO R.BRD_TT_HWM_HI)

/-- The check time (R393). -/
def checkTime (s : State) : Int :=
  if fbit s R.BRD_STATUS F.BRD_STATUS_TT_HWM_VALID then max (ttNow s) (ttHwm s) else ttNow s

/-- Certificates of an accepted form, each signed by the next one's key and the last by the anchor (R386). -/
def certsTo (anchor : Nat) : List Cert → Bool
  | [] => false
  | x :: l => x.form && decide (x.len ≤ 1024) && x.sigOk &&
    (match l with | [] => x.issuer == anchor | y :: _ => x.issuer == y.key && certsTo anchor l)

/-- A chain of at most three certificates to an anchor, each within its validity at the check time (R386, R393). -/
def chainHolds (s : State) (anchor : Nat) (l : List Cert) : Bool :=
  decide (l.length ≤ 3) && certsTo anchor l && l.all (fun x => decide (x.fromT ≤ checkTime s) && decide (checkTime s ≤ x.toT))

/-! ### Roles -/

/-- Code of a role (R385). -/
def roleCode : Role → Nat
  | .vendor => 1
  | .oem => 2
  | .owner => 3
  | .operator => 4
  | .contractor => 5
  | .service => 6
  | .inspector => 7
  | .agronomist => 8
  | .debug => 9

/-- The role of a code (R385). -/
def roleOfCode : Nat → Option Role
  | 1 => some .vendor
  | 2 => some .oem
  | 3 => some .owner
  | 4 => some .operator
  | 5 => some .contractor
  | 6 => some .service
  | 7 => some .inspector
  | 8 => some .agronomist
  | 9 => some .debug
  | _ => none

/-- The role an open session holds (R385, BRD_SESSk_STAT); none: the session is not open. -/
def sessRole (s : State) (k : Nat) : Option Role :=
  if fbit s (R.BRD_SESS_STAT k) F.BRD_SESS_STAT_OPEN then roleOfCode (fget s (R.BRD_SESS_STAT k) F.BRD_SESS_STAT_ROLE)
  else none

/-- The actions of R390, and the register writes it does not name (R389). -/
inductive Act where
  | job | discard | addExcl | operate | force (off : Bool) | duty | test | can | image | rtcm | farrier | handover | debug
  | sleep | stbRead | brd | other
deriving DecidableEq, Repr, Inhabited

/-- May a role do an action (R390, R389, R469)? Log 50: DEDUCED. -/
def mayAct : Act → Role → Bool
  | .job, r => r == .owner || r == .operator || r == .contractor
  | .discard, r => r == .owner
  | .addExcl, r => r == .owner || r == .operator
  | .operate, r => r == .owner || r == .operator || r == .contractor
  | .force off, r => r == .oem || r == .service || (r == .operator && off)
  | .duty, r => r == .oem || r == .service
  | .test, r => r == .oem || r == .service
  | .can, r => r == .oem || r == .service
  | .image, r => r == .oem || r == .service
  | .rtcm, r => r != .inspector && r != .agronomist && r != .debug
  | .farrier, r => r == .oem || r == .service
  | .handover, r => r == .owner || r == .oem || r == .service
  | .debug, r => r == .debug
  | .sleep, r => r == .owner || r == .oem || r == .service
  | .stbRead, r => r == .vendor || r == .oem || r == .owner || r == .service
  | .brd, r => r == .vendor || r == .oem || r == .owner || r == .debug
  | .other, r => r == .oem || r == .service

/-- Code of a RAP status (R482). -/
def rapCode : RapStatus → Nat
  | .ok => 0
  | .badKind => 1
  | .badAddr => 2
  | .noReg => 3
  | .readOnly => 4
  | .domainOff => 5
  | .masked => 6
  | .denied => 7
  | .notOwner => 8
  | .injDenied => 9
  | .busy => 10
  | .noSession => 11
  | .relayTimeout => 12
  | .noMember => 13
  | .badHandle => 14
  | .tooLong => 15

/-- What the module holds of a session. -/
def sessOf (s : State) (k : Nat) : Option Sess := (s.brd.sess.find? (fun x => x.1 == k)).map (·.2)

/-- Record it. -/
def setSess (k : Nat) (x : Sess) (s : State) : State := { s with brd := { s.brd with sess := smIns k x s.brd.sess } }

/-- Any request renews STAY_AWAKE and the session's idle time (R391, R473). An answer in a CAN session takes the next freshness value; at
2^31 + 2^20 the old keys send nothing more (R393, R394). -/
def sessTouch (s : State) (who : Nat) : State :=
  let s1 := { s with pwr := { s.pwr with stayFrom := s.tb } }
  match sessOf s who with
  | some x => setSess who { x with lastAt := s.tb, fTx := if who < 4 then x.fTx else x.fTx + 1 } s1
  | none => s1

/-- An answer may still be sent under the session's keys (R394). -/
def sessSends (s : State) (who : Nat) : Bool :=
  match sessOf s who with
  | some x => decide (who < 4) || decide (x.fTx < 2 ^ 31 + 2 ^ 20)
  | none => true

/-- A CAN controller before its first frame (R313). -/
def canInit : Nat → CanCtl := fun _ =>
  { queue := [], lost := none, ring := [], deliv := [], act := [], hold := [], cur := none, aborting := false, recover := none,
    oldFilt := none, claim := 0, claimAt := 0, name := 0, used := [], tp := [] }

/-- What the module holds of a CAN controller. -/
def canOf (s : State) (c : Nat) : CanCtl := smGet canInit s.can.ctl c

/-- Record it. -/
def setCan (c : Nat) (x : CanCtl) (s : State) : State := { s with can := { s.can with ctl := smSet canInit c x s.can.ctl } }

/-- The default of a map of lists. -/
def noList {α : Type} : Nat → List α := fun _ => []

/-- A consumer takes the oldest entry delivered to it (R318): 0 ISO, 1 RAP, 2 CORR, 3 EXTPOSE, 4 SPEED, 5 SAFETY. Log 46: DEDUCED. -/
def canTake (c k : Nat) (s : State) : State :=
  let x := canOf s c
  match smGet noList x.deliv k with
  | [] => s
  | _ :: l => setCan c { x with deliv := smSet noList k l x.deliv } s

/-- Stamp of the oldest frame delivered to a consumer and not yet taken (R315, R318); none is held: now. -/
def canStamp (c k : Nat) (s : State) : Nat :=
  let x := canOf s c
  (((smGet noList x.deliv k).head?.bind (fun q => x.ring.find? (fun e => e.rseq == q))).map (·.stamp)).getD s.tb

/-- The position that holds a role: 0 pose solver, 1 time master, 2 ISOBUS. -/
def roleAt (s : State) (r : Nat) : Option Nat := (s.team.roles.find? (fun x => x.1 == r)).map (·.2)

/-- Answer a request of a session: the answer leaves, and the request is counted (SYS_RAP_CNT, R486). -/
def rapAnswer (s : State) (who : Nat) (st : RapStatus) (data : List Int) : State :=
  let s0 := (if who < 4 then id else canTake (fget s (R.BRD_SESS_STAT who) F.BRD_SESS_STAT_CTRL) 1) (sessTouch s who)
  let s1 := if sessSends s who then send s0 MsgKind.RAP_ANSWER who ((rapCode st : Int) :: data) else s0
  { s1 with rap := { s1.rap with
      requests := (s1.rap.requests + 1) % 65536
      refused := if st = .ok then s1.rap.refused else satInc 65535 s1.rap.refused } }

/-- A denied write: a WRITE_DENIED record with the role and the register (R390). -/
def writeDenied (s : State) (r : Role) (reg : Nat) : State := raise s Ev.WRITE_DENIED [roleCode r, reg]

/-- The lease of a contractor's session has not ended (R403). Log 50: DEDUCED. -/
def leaseLive (s : State) (who : Nat) : Bool :=
  match (sessOf s who).bind (·.lease) with
  | some m => let st := fget s (R.BRD_HIRE_STAT m) F.BRD_HIRE_STAT_STATE; st == 1 || st == 2
  | none => false

/-- May a session do an action: by its role (R390), and a contractor only while its lease has not ended (R403)? Log 50: DEDUCED. -/
def sessMay (s : State) (who : Nat) (act : Act) (r : Role) : Bool := mayAct act r && (r != .contractor || leaseLive s who)

/-- May a session act on a job: a contractor only on the jobs its lease names (R390)? -/
def sessJob (s : State) (who job : Nat) : Bool :=
  match sessRole s who with
  | some .contractor => match (sessOf s who).bind (·.lease) with
    | some m => ((s.brd.leases.find? (fun x => x.1 == m)).map (fun x => x.2.lease.jobs.contains job)).getD false
    | none => false
  | _ => true

/-- A COMMIT_GAP of the job counts under each lease that counts its area (R403, R404). -/
def gapLease (s : State) : State :=
  let j := (s.cov.job.map (·.jobId)).getD 0
  let on (x : Nat × LeaseSt) : Bool :=
    x.2.lease.jobs.contains j && (x.2.tail || fget s (R.BRD_HIRE_STAT x.1) F.BRD_HIRE_STAT_STATE == 2)
  let up (l : LeaseSt) : LeaseSt := { l with gaps := l.gaps + 1 }
  { s with brd := { s.brd with
    leases := s.brd.leases.map (fun x => if on x then (x.1, up x.2) else x)
    sums := s.brd.sums.map (fun y => if y.st.tail && y.st.lease.jobs.contains j then { y with st := up y.st } else y) } }

/-- FW_VERSION of the running firmware (R40, R440, R476). -/
def fwVersion (s : State) : Nat :=
  match s.pwr.running with
  | some 0 => s.pwr.slotA.version
  | some _ => s.pwr.slotB.version
  | none => 0

/-- The path of a session over Ethernet or CAN stands: RAP needs PD1, and both paths run in PD7 (R24, R477). A request that finds no path does
not arrive. -/
def rapPath (s : State) : Bool := domOn s 1 && domOn s 7

/-- Does a command given by a session reach its register: its path stands, the session is open, its role permits the action and the domain
of the register is on (R477, R478)? -/
def rapMay (s : State) (who : Nat) (act : Act) (dom : Nat) : Bool :=
  rapPath s && match sessRole s who with
  | some r => sessMay s who act r && domOn s dom
  | none => false

/-- What a request that fails R478 leaves: its answer, and a WRITE_DENIED record where the role forbids it. -/
def rapRefuse (s : State) (who dom reg : Nat) (act : Act) : State :=
  if rapPath s = false then s else match sessRole s who with
  | none => rapAnswer s who .noSession []
  | some r =>
    if sessMay s who act r = false then rapAnswer (writeDenied s r reg) who .denied []
    else if domOn s dom = false then rapAnswer s who .domainOff []
    else s

/-- A command a session gives by writing a register: refused by R478, or done and answered OK. -/
def rapDo (s : State) (who : Nat) (act : Act) (dom reg : Nat) (f : State → State) : State :=
  if rapMay s who act dom then rapAnswer (f s) who .ok [] else rapRefuse s who dom reg act

/-- The members of the team other than this module (R339). -/
def otherMembers (s : State) : List Nat := s.team.members.filter (fun m => m != midOf s)

/-- This module leads its team (R340). -/
def isLeader (s : State) : Bool :=
  fbit s R.TLK_STATUS F.TLK_STATUS_LEADER_VALID && (fget s R.TLK_STATUS F.TLK_STATUS_LEADER == midOf s)

/-- Send a message to the leader over TC4. -/
def toLeader (s : State) (k : MsgKind) (args : List Int) : State :=
  if fbit s R.TLK_STATUS F.TLK_STATUS_LEADER_VALID then send s k (fget s R.TLK_STATUS F.TLK_STATUS_LEADER) args else s

/-- Send a message to every other member of the team. -/
def toTeam (s : State) (k : MsgKind) (args : List Int) : State := forEach (otherMembers s) (fun m s => send s k m args) s

end Sys2Proof.Machine
end

