-- ==== Sys2Proof/Machine/SafeOut.lean ====
section
/-!
DEFINITION. Machine/SafeOut.lean: what service level L0 rests on (R6, R8, R460) and the opening of the safety outputs (R366), which the levels, the
output stage and the island share.
-/

namespace Sys2Proof.Machine

/-! ### Level L0 -/

/-- VLOG is in range for the domains above PD0 (R460). -/
def vlogOk (s : State) : Bool := s.pwr.powered && !s.pwr.ovOff && !s.pwr.brown

/-- At least one load feed is in range (R6, R264). -/
def feedOk (s : State) : Bool := (List.range 6).any (fun f => !fbit s (R.LSW_FEED_STAT f) F.LSW_FEED_STAT_UV)

/-- The module holds L0 (R6): PD0 runs, VLOG is not above its range and a load feed is in range. A brown-out leaves L0 (R460). -/
def l0Ok (s : State) : Bool := s.pwr.powered && !s.pwr.ovOff && feedOk s

/-! ### Opening a safety output -/

/-- A safety output of the island before anything has happened to it. -/
def soInit : Nat → SafSo := fun _ => ⟨none, false, none, 0, 0, false, none, false⟩

/-- What the island holds of a SOx. -/
def soOf (s : State) (x : Nat) : SafSo := smGet soInit s.saf.sos x

/-- Record it. -/
def setSo (x : Nat) (o : SafSo) (s : State) : State := { s with saf := { s.saf with sos := smSet soInit x o s.saf.sos } }

/-- SO_CLOSED of SAF_STATUS. -/
def soShow (s : State) : State :=
  fset s R.SAF_STATUS F.SAF_STATUS_SO_CLOSED
    ((List.range 4).foldl (fun v k => v + (if fbit s (R.SAF_SO k) F.SAF_SO_CLOSED then 2 ^ k else 0)) 0)

/-- Both switches of a SOx open; level 1 takes its cut map (R366). -/
def soOpen (x : Nat) (s : State) : State :=
  let s1 := fsetb s (R.SAF_SO x) F.SAF_SO_WAIT_SRST false
  let s2 := setSo x { soOf s1 x with since := none, rbAt := none } s1
  if fbit s (R.SAF_SO x) F.SAF_SO_CLOSED then soShow (fincSat (fsetb s2 (R.SAF_SO x) F.SAF_SO_CLOSED false) (R.SAF_SO x) F.SAF_SO_OPENS)
  else s2

/-- With L0 lost the island holds SO1 to SO4 open (R8). -/
def l0Open (s : State) : State := if l0Ok s then s else forN 4 soOpen s

end Sys2Proof.Machine
end

