-- ==== Sys2Proof/Machine/Geometry.lean ====
section
/-!
DEFINITION. Machine/Geometry.lean: the machine model (R61 to R74): joints and their sources, boom segment chains, pressure sources and
their filters, delays against line pressure, and the transforms from link frames to the machine and the field frame.
-/

namespace Sys2Proof.Machine

/-! ### Joints -/

/-- A link's state before its first snapshot. -/
def linkInit : Nat → LinkSt := fun _ => ⟨0, false, false, false, false, false, false, 0, none, none, false, false, 0, 0, 0, 0, 0⟩

/-- A chain of the image in force, by its GEOM instance (R63). -/
def chainOf (s : State) (c : Nat) : Option Chain := s.cfg.chains.find? (fun x => x.inst == c)

/-- A declared link. -/
def linkOf (s : State) (c l : Nat) : Option Link := (chainOf s c).bind (fun x => x.links[l]?)

/-- Links are numbered in the order of declaration, chain 1 link 0 first (R75). -/
def linkNo (s : State) (c l : Nat) : Nat :=
  (s.cfg.chains.filter (fun x => decide (x.inst < c))).foldl (fun n x => n + x.links.length) 0 + l

/-- What the module holds of a link. -/
def linkSt (s : State) (n : Nat) : LinkSt := smGet linkInit s.geo.links n

/-- Record what the module holds of a link. -/
def setLink (s : State) (n : Nat) (l : LinkSt) : State :=
  { s with geo := { s.geo with links := smSet linkInit n l s.geo.links } }

/-- Raw latest valid sample of a joint source, as its interface holds it (R64, R101, R99, R138); none: the last sample failed its
transport check. -/
def jointRaw (s : State) (n : Nat) : JointSrc → Option Int
  | .fixed => none
  | .ssi k => if fbit s (R.FBI_SSI_STAT k.val) F.FBI_SSI_STAT_VALID then some (fget s (R.FBI_SSI_VALUE k.val) F.FBI_SSI_VALUE_VALUE)
      else none
  | .ain k => if fbit s (R.FBI_AIN k.val) F.FBI_AIN_VALID then some (fget s (R.FBI_AIN k.val) F.FBI_AIN_CODE) else none
  | .gnssShape => if fbit s (R.POS_SHAPE n) F.POS_SHAPE_VALID then some (sext 16 (fget s (R.POS_SHAPE n) F.POS_SHAPE_VALUE)) else none

/-- A joint value from a raw sample, valid only within VMIN to VMAX (R63, R64). A GNSS_SHAPE sample is the joint value itself
(R138), and a FIXED source gives FALLBACK. -/
def jointValue (s : State) (n : Nat) (l : Link) (src : JointSrc) : Option Int :=
  match src with
  | .fixed => some l.fallback
  | .gnssShape => (jointRaw s n src).filter (fun v => decide (l.vmin ≤ v ∧ v ≤ l.vmax))
  | _ => (jointRaw s n src).bind (fun r =>
      let v := l.offset + divOpen (l.gain * r) 65536
      if l.vmin ≤ v ∧ v ≤ l.vmax then some v else none)

/-- A new sample of a joint's source (R64): a valid one is the latest valid one from now on. -/
def jointTake (second : Bool) (v : Option Int) (t : Nat) (st : LinkSt) : LinkSt :=
  match v, second with
  | some x, false => { st with v1 := some x, ok1 := true, at1 := t }
  | some x, true => { st with v2 := some x, ok2 := true, at2 := t }
  | none, false => { st with ok1 := false }
  | none, true => { st with ok2 := false }

/-- Every joint on a source takes its new sample (R64), which a GNSS_SHAPE source has for one link. An SSI port that gives one of its joints a
valid sample is not STALE (R99). Log 29: DEDUCED. -/
def jointSample (src : JointSrc) (only : Option Nat) (s : State) : State :=
  forEach s.cfg.chains (fun c s => forEach c.links.zipIdx (fun x s =>
    let n := linkNo s c.inst x.2
    if only.isSome ∧ only ≠ some n ∨ (x.1.src1 ≠ src ∧ x.1.src2 ≠ src) then s
    else
      let v := jointValue s n x.1 src
      let st1 := if x.1.src1 = src then jointTake false v s.tb (linkSt s n) else linkSt s n
      let s1 := setLink s n (if x.1.src2 = src then jointTake true v s.tb st1 else st1)
      match src, v with
      | .ssi k, some _ => fsetb s1 (R.FBI_SSI_STAT k.val) F.FBI_SSI_STAT_STALE false
      | _, _ => s1) s) s

/-- What a source of a joint has at a snapshot: its latest valid sample, and of a source that has failed only a newest sample that is valid
(R64, R65). -/
def jointNow (l : Link) (second failed : Bool) (st : LinkSt) : Option Int :=
  if (if second then l.src2 else l.src1) = JointSrc.fixed then some l.fallback
  else if second then (if failed && !st.ok2 then none else st.v2)
  else (if failed && !st.ok1 then none else st.v1)

/-- A link's joint at a snapshot (R64, R65): the source in use gives the value; a source that returns while both had failed is
used from this snapshot. -/
def jointSnap (l : Link) (v1 v2 : Option Int) (st : LinkSt) : LinkSt :=
  if st.s1Fail = false then
    match v1 with
    | some v => { st with value := v, onSec := false, held := false, fall := false, dead := false }
    | none => st
  else
    let good := if v1.isSome then st.good + 1 else 0
    if st.s2Fail = false then
      match v2 with
      | some v => { st with value := v, onSec := true, held := false, fall := false, dead := false, good := good }
      | none => { st with good := good }
    else match v1, v2 with
      | some v, _ => { st with value := v, s1Fail := false, onSec := false, held := false, fall := false, dead := false, good := good }
      | none, some v => { st with value := v, s2Fail := false, onSec := true, held := false, fall := false, dead := false, good := 0 }
      | none, none => { st with good := 0, value := if st.fall then l.fallback else st.value }

/-- A chain is invalid while one of its joints has lost both sources under POLICY OFF (R65). -/
def chainInvalid (s : State) (c : Nat) : Bool :=
  match chainOf s c with
  | some x => (List.range x.links.length).any (fun l => (linkSt s (linkNo s c l)).dead)
  | none => false

/-- STR_LINKn of a link (R75). -/
def linkReg (s : State) (c l : Nat) : State :=
  let n := linkNo s c l
  let st := linkSt s n
  let a := R.STR_LINK n
  let s1 := fset s a F.STR_LINK_VALUE (bitsOf 16 st.value)
  let s2 := fsetb s1 a F.STR_LINK_VALID (!chainInvalid s c)
  let s3 := fsetb s2 a F.STR_LINK_ON_SECONDARY st.onSec
  let s4 := fsetb s3 a F.STR_LINK_HELD st.held
  let s5 := fsetb s4 a F.STR_LINK_FALLBACK st.fall
  fset (fset s5 a F.STR_LINK_CHAIN c) a F.STR_LINK_LINK l

/-- Chain-valid bit of STR_GEOM_STATUS (R75): bit n of the register is bit n − 1 of its field. -/
def chainBit (s : State) (c : Nat) (b : Bool) : State :=
  fset s R.STR_GEOM_STATUS F.STR_GEOM_STATUS_CHAIN_INVALID
    (setBit (fget s R.STR_GEOM_STATUS F.STR_GEOM_STATUS_CHAIN_INVALID) (c - 1) b)

/-- One link's part of JOINT_SNAPSHOT, with the reports of R65. Log 29: DEDUCED. -/
def linkSnap (c l : Nat) (k : Link) (s : State) : State :=
  let n := linkNo s c l
  let st := linkSt s n
  let st' := jointSnap k (jointNow k false st.s1Fail st) (jointNow k true st.s2Fail st) st
  let s1 := setLink s n st'
  let s2 := if st.onSec = false ∧ st'.onSec then fault s1 Ev.GEOM_SECONDARY [c, l]
    else if st.onSec ∧ st'.onSec = false then faultEnd s1 Ev.GEOM_SECONDARY [c, l] else s1
  let s2 := if st.held ∧ st'.held = false then raise s2 Ev.GEOM_HELD [c, l, 0] else s2
  let s3 := if st.fall ∧ st'.fall = false then faultEnd s2 Ev.GEOM_FALLBACK [c, l] else s2
  let s4 := if st.dead ∧ st'.dead = false ∧ chainInvalid s3 c = false then chainBit (faultEnd s3 Ev.GEOM_INVALID [c]) c false else s3
  linkReg s4 c l

/-- JOINT_SNAPSHOT: one snapshot of every joint value (R64). -/
def jointSnapshot (s : State) : State :=
  forEach s.cfg.chains (fun c s => forEach c.links.zipIdx (fun x s => linkSnap c.inst x.2 x.1 s) s) s

/-- A source of a link fails (R65): SRC2, or, with both failed, the last valid value held. Log 29: DEDUCED. -/
def jointFail (c l : Nat) (k : Link) (second : Bool) (s : State) : State :=
  let n := linkNo s c l
  let st := linkSt s n
  if (if second then k.src2 else k.src1) = JointSrc.fixed then s
  else
    let st1 := if second then { st with s2Fail := true } else { st with s1Fail := true, good := 0 }
    let both := st1.s1Fail && st1.s2Fail
    let hold := both && !st.held && !st.fall && !st.dead
    let st2 := if hold then { st1 with held := true, heldAt := s.tb } else st1
    let s1 := linkReg (whenB hold (fun s => raise s Ev.GEOM_HELD [c, l, 1]) (setLink s n st2)) c l
    match (if second then k.src2 else k.src1) with
    | .ssi p => fsetb s1 (R.FBI_SSI_STAT p.val) F.FBI_SSI_STAT_STALE true
    | _ => s1

/-- TB ticks between epochs (R119, R128). -/
def epochTicks (s : State) : Nat :=
  match fget s R.GNS_CFG F.GNS_CFG_EPOCH_RATE with
  | 0 => 200000000
  | 1 => 100000000
  | 2 => 40000000
  | 3 => 20000000
  | 4 => 10000000
  | _ => 4000000

/-- Sample period of a joint source in ticks (R64): an SSI port's reads, an analog input's 100 µs, the epochs of GNSS_SHAPE. Log 29: DEDUCED. -/
def jointPeriod (s : State) : JointSrc → Nat
  | .fixed => 0
  | .ssi k => (match s.cfg.pinfn.ssi.getD k.val none with | some c => c.every | none => 1) * cycleTicks
  | .ain _ => 20000
  | .gnssShape => epochTicks s

/-- JOINT_SOURCE_FAIL (R64, R65): no valid sample for 3 of the source's own periods. A FIXED source never fails (R63). -/
def execJointSourceFail (chain : Fin 32) (link : Fin 8) (second : Bool) (s : State) : Out :=
  .next (match linkOf s chain.val link.val with
    | some k =>
      let st := linkSt s (linkNo s chain.val link.val)
      if s.tb < (if second then st.at2 else st.at1) + 3 * jointPeriod s (if second then k.src2 else k.src1) then s
      else jointFail chain.val link.val k second s
    | none => s)

/-- JOINT_SRC1_RETURN (R65): after 10 consecutive valid snapshots the joint returns to SRC1. -/
def execJointSrc1Return (chain : Fin 32) (link : Fin 8) (s : State) : Out :=
  .next (match linkOf s chain.val link.val with
    | none => s
    | some _ =>
      let n := linkNo s chain.val link.val
      let st := linkSt s n
      if st.s1Fail = false ∨ st.good < 10 then s
      else
        let s1 := setLink s n { st with s1Fail := false, good := 0, onSec := false }
        linkReg (whenB st.onSec (fun s => faultEnd s Ev.GEOM_SECONDARY [chain.val, link.val]) s1) chain.val link.val)

/-- JOINT_HOLD_EXPIRY (R65): HOLD ends with both sources failed. -/
def execJointHoldExpiry (chain : Fin 32) (link : Fin 8) (s : State) : Out :=
  .next (match linkOf s chain.val link.val with
    | none => s
    | some k =>
      let n := linkNo s chain.val link.val
      let st := linkSt s n
      if st.held = false ∨ s.tb < st.heldAt + msTicks k.hold then s
      else if k.fixed then
        linkReg (fault (raise (setLink s n { st with held := false, fall := true, value := k.fallback }) Ev.GEOM_HELD
          [chain.val, link.val, 0]) Ev.GEOM_FALLBACK [chain.val, link.val]) chain.val link.val
      else
        linkReg (chainBit (fault (raise (setLink s n { st with held := false, dead := true }) Ev.GEOM_HELD [chain.val, link.val, 0])
          Ev.GEOM_INVALID [chain.val]) chain.val true) chain.val link.val)

/-- Two snapshots of a joint differ by more than 2 × (VMAX − VMIN) / 256 (R74). -/
def pairDiffers (k : Link) (a b : Int) : Bool := decide (2 * (k.vmax - k.vmin) < 256 * ((a - b).natAbs : Int))

/-- The partner's snapshot of a link at boundary B is held against this module's (R74): the 50th cycle in a row that differs is reported, and the
first that does not ends the report. It changes no decision. Log 29: DEDUCED. -/
def pairDiff (c l : Nat) (k : Link) (theirs : Int) (B : Nat) (s : State) : State :=
  let n := linkNo s c l
  let st := linkSt s n
  if B ≤ st.diffB ∧ st.diff ≠ 0 then s
  else if pairDiffers k st.value theirs = false then
    whenB (decide (50 ≤ st.diff)) (fun s => faultEnd s Ev.GEOM_PAIR_DIFF [c, l]) (setLink s n { st with diff := 0, diffB := B })
  else
    let run := if st.diffB + cycleTicks = B then st.diff + 1 else 1
    whenB (run == 50) (fun s => fault s Ev.GEOM_PAIR_DIFF [c, l]) (setLink s n { st with diff := run, diffB := B })

/-- GEOM_PAIR_DIFF (R74): a pair partner's snapshot of a link in the cycle in progress. -/
def execGeomPairDiff (chain : Fin 32) (link : Fin 8) (theirs : BitVec 16) (s : State) : Out :=
  .next (match linkOf s chain.val link.val with
    | some k => if s.pwr.paired then pairDiff chain.val link.val k theirs.toInt (boundaryAt s.tb) s else s
    | none => s)

/-! ### Transforms -/

/-- Fine units in a millimetre: a straight path by R136, at half ticks, is exact in them. -/
def fu : Int := 320000000000000000

/-- Scale of the sines below. -/
def sinOne : Nat := 2 ^ 80

/-- A power series in θ²: 1 − t/(m(m+1)) × (1 − t/((m+2)(m+3)) × …), `t` being θ² in units of 2^−80. -/
def sinSeries (t : Nat) : Nat → Nat → Nat
  | 0, _ => sinOne
  | n + 1, m => sinOne - t * sinSeries t n (m + 2) / (sinOne * (m * (m + 1)))

/-- Cosine and sine of an angle in 2^−24 turn, in units of 2^−80: exact at quarter turns, else to better than 2^−70. -/
def cosSin (a : Int) : Int × Int :=
  let n := (a % 16777216).toNat
  let r := n % 4194304
  -- 2π in units of 2^−80
  let th := r * 7595904947272677161575987 / 16777216
  let t := th * th / sinOne
  let c : Int := sinSeries t 14 1
  let d : Int := th * sinSeries t 14 2 / sinOne
  match n / 4194304 with
  | 0 => (c, d)
  | 1 => (-d, c)
  | 2 => (-c, -d)
  | _ => (d, -c)

/-- Rotate a point of a plane by an angle in 2^−24 turn (R61): at a quarter turn the result is exact; at any other angle its rounding to the
unit of its arguments is open. Log 11: DESIGN CHOICE. -/
def rot24 (a : Int) (x y : Int) : Int × Int :=
  match (a % 16777216).toNat with
  | 0 => (x, y)
  | 4194304 => (-y, x)
  | 8388608 => (-x, -y)
  | 12582912 => (y, -x)
  | n =>
    let w := cosSin n
    (divOpen (x * w.1 - y * w.2) sinOne, divOpen (x * w.2 + y * w.1) sinOne)

/-- Rotate by a binary angle of 16 bits (R11, R61). -/
def rot2 (a : Int) (x y : Int) : Int × Int := rot24 (a * 256) x y

/-- A point in mm. -/
abbrev P3 : Type := Int × Int × Int

/-- Rotation about the x axis. -/
def rotX (a : Int) (p : P3) : P3 := let q := rot2 a p.2.1 p.2.2; (p.1, q.1, q.2)
/-- Rotation about the y axis. -/
def rotY (a : Int) (p : P3) : P3 := let q := rot2 a p.2.2 p.1; (q.2, p.2.1, q.1)
/-- Rotation about the z axis. -/
def rotZ (a : Int) (p : P3) : P3 := let q := rot2 a p.1 p.2.1; (q.1, q.2, p.2.2)

/-- A point of a link frame in its parent's frame (R63). -/
def linkToParent (k : Link) (v : Int) (p : P3) : P3 :=
  let q := match k.joint with
    | .rotX => rotX v p
    | .rotY => rotY v p
    | .rotZ => rotZ v p
    | .lift => (p.1, p.2.1, p.2.2 + v)
  (q.1 + k.hx, q.2.1 + k.hy, q.2.2 + k.hz)

/-- A point of a link frame in the machine frame, by the joints of the snapshot; at most 8 links deep (R63). -/
def toMachine (s : State) (c : Nat) : Nat → Nat → P3 → P3
  | 0, _, p => p
  | n + 1, l, p =>
    match linkOf s c l with
    | none => p
    | some k =>
      let q := linkToParent k (linkSt s (linkNo s c l)).value p
      match k.parent with
      | none => q
      | some m => toMachine s c n m q

/-- The machine-frame point of an output (R66). -/
def outPoint (s : State) (o : OutEnt) : P3 :=
  if o.chain = 0 then (o.ofsX, o.ofsY, o.ofsZ) else toMachine s o.chain 8 o.link (o.ofsX, o.ofsY, o.ofsZ)

/-- Machine-to-field transform of R61: roll first, then pitch, then heading. -/
def toField (mrp : P3) (psi theta phi : Int) (p : P3) : P3 :=
  let q := rotZ psi (rotY theta (rotX phi p))
  (mrp.1 + q.1, mrp.2.1 + q.2.1, mrp.2.2 + q.2.2)

/-- Height of an output point above ground (R62). -/
def outHeight (s : State) (o : OutEnt) : Int := (outPoint s o).2.2 - s.cfg.geom0.groundZ

/-- Width of a FAN across travel as (numerator, denominator): W × h / H_NOM limited to 0.5 × W to 2.0 × W (R67). -/
def fanWidth (o : OutEnt) (h : Int) : Int × Int :=
  (clampInt (o.w * o.hNom) (4 * o.w * o.hNom) (2 * o.w * h), 2 * o.hNom)

/-- Is a FAN's width at its limit: the height lies outside 0.5 × H_NOM to 2.0 × H_NOM (R67)? -/
def heightLimit (o : OutEnt) (h : Int) : Bool := o.shape == .fan && (decide (2 * h < o.hNom) || decide (2 * (o.hNom : Int) < h))

/-! ### Pressure sources and delays -/

/-- A pressure source before its first sample. -/
def pressInit : Nat → PressSt := fun _ => ⟨0, false, false, false⟩

/-- A declared pressure source (R70). -/
def pressOf (s : State) (k : Nat) : Option PressSrc := s.cfg.geom0.press.find? (fun x => x.idx == k)

/-- What the module holds of a pressure source. -/
def pressSt (s : State) (k : Nat) : PressSt := smGet pressInit s.geo.press k

/-- Record it. -/
def setPress (s : State) (k : Nat) (p : PressSt) : State :=
  { s with geo := { s.geo with press := smSet pressInit k p s.geo.press } }

/-- PRESSURE_FILTER_UPDATE (R70): a new input sample in kPa, `dt` ticks after the one before. Outside the valid range the filter is not updated; the first valid
sample after an invalid one restarts it; a time constant of 0 passes each sample. -/
def pressSample (k : PressSrc) (x : Int) (good : Bool) (dt : Nat) (s : State) : State :=
  let st := pressSt s k.idx
  if good = false ∨ x < k.lo ∨ k.hi < x then setPress s k.idx { st with ok := false }
  else if st.ok = false ∨ k.tau = 0 then setPress s k.idx { st with ok := true, out := x }
  else setPress s k.idx { st with out := Config.filterStep k.tau dt st.out x }

/-- Every pressure source on an input takes its new sample. -/
def pressInput (inp : PressIn) (x : Int) (good : Bool) (dt : Nat) (s : State) : State :=
  forEach (s.cfg.geom0.press.filter (fun k => k.inp = inp)) (fun k s => pressSample k x good dt s) s

/-- The delays of an output and whether an end point clamps them (R71). -/
def delayAt (p : Int) : List DelayPt → Nat × Nat × Bool
  | [] => (0, 0, false)
  | [d] => (d.on, d.off, decide (p ≠ d.p))
  | d0 :: d1 :: ds =>
    if p ≤ d0.p then (d0.on, d0.off, decide (p < d0.p))
    else if p < d1.p then
      let den : Int := d1.p - d0.p
      let f (x0 x1 : Nat) : Nat := ((2 * (x0 * den + (p - d0.p) * ((x1 : Int) - x0)) + den) / (2 * den)).toNat
      (f d0.on d1.on, f d0.off d1.off, false)
    else delayAt p (d1 :: ds)

/-- The pressure an output's source gives: its sampled value, or P_REF while it is invalid (R71). -/
def pressNow (s : State) (k : PressSrc) : Int := if (pressSt s k.idx).ok then (pressSt s k.idx).out else k.pref

/-- On-delay and off-delay of an output in 0.1 ms, with clamp (R71). Log 29: DEDUCED. -/
def outDelay (s : State) (o : OutEnt) : Nat × Nat × Bool :=
  match o.press.bind (pressOf s), o.delays with
  | _, [] => (0, 0, false)
  | none, d :: _ => (d.on, d.off, false)
  | _, [d] => (d.on, d.off, false)
  | some k, ds => delayAt (pressNow s k) ds

/-- Is the output of roles 1 to 4, under the Stride engine (R66)? -/
def strideRole (o : OutEnt) : Bool := o.role != .unused && o.role != .aux

/-- Number of outputs on a source that are clamped to an end point (R72). Log 29: DEDUCED. -/
def clampCount (s : State) (k : Nat) : Nat :=
  (s.cfg.outs.filter (fun o => strideRole o && o.press == some k && (outDelay s o).2.2)).length

/-- The input of a pressure source reports no fault, or its loop runs (R70). Log 29: DEDUCED. -/
def pressLive (s : State) : PressIn → Bool
  | .ain n => fbit s (R.FBI_AIN n.val) F.FBI_AIN_VALID
  | .loop l => fget s (R.CTL_LOOP_STAT l.val) F.CTL_LOOP_STAT_STATE != 0

/-- A source whose input fails between its samples is invalid (R70). -/
def pressCheck (k : PressSrc) (s : State) : State :=
  if pressLive s k.inp then s else setPress s k.idx { pressSt s k.idx with ok := false }

/-- The pressure source's part of DELAY_LATCH: its register and the reports of R72. Log 29: DEDUCED. -/
def pressLatch (k : PressSrc) (s : State) : State :=
  let st := pressSt s k.idx
  let n := clampCount s k.idx
  let a := R.STR_PRESS k.idx
  let s1 := fset s a F.STR_PRESS_KPA (bitsOf 16 st.out)
  let s2 := fsetb (fsetb s1 a F.STR_PRESS_VALID st.ok) a F.STR_PRESS_RANGE_CLAMP (decide (0 < n))
  let s3 := if st.ok = false ∧ st.bad = false then fault s2 Ev.PRESS_INVALID [k.idx]
    else if st.ok ∧ st.bad then faultEnd s2 Ev.PRESS_INVALID [k.idx] else s2
  let cl := decide (0 < n)
  let s4 := if cl ∧ st.clamp = false then raise s3 Ev.DELAY_CLAMP [k.idx, n] else s3
  setPress s4 k.idx { st with bad := !st.ok, clamp := cl }

/-- DELAY_LATCH (R71, R72): pressures sampled, delays of every output of roles 1 to 4 latched for the cycle. -/
def delayLatch (s : State) : State :=
  let s1 := forEach s.cfg.geom0.press pressLatch (forEach s.cfg.geom0.press pressCheck s)
  let s2 := fsetb s1 R.STR_GEOM_STATUS F.STR_GEOM_STATUS_PRESS_ANY_INVALID
    (s1.cfg.geom0.press.any (fun k => !(pressSt s1 k.idx).ok))
  forEach (s2.cfg.outs.filter strideRole) (fun o s =>
    let d := outDelay s2 o
    fset (fset s (R.STR_DELAY o.out) F.STR_DELAY_ON d.1) (R.STR_DELAY o.out) F.STR_DELAY_OFF d.2.1) s2

end Sys2Proof.Machine
end

