-- ==== Sys2Proof/Machine/Channels.lean ====
section
/-!
DEFINITION. Machine/Channels.lean: access to what the module holds of a counter channel and of a compare unit beside their registers, and the speed signals of ISO 11786 (R100).
-/

namespace Sys2Proof.Machine

/-- A counter channel when PD11 starts (R77). -/
def chInit : Nat → ChSt := fun _ =>
  { a := none, b := none, z := none, total := 0, edges := [], dirKnown := false, dirSent := false, snapDir := false,
    idxAcc := 0, idxPos := false, idxNeg := false, idxSeen := false, missing := false, armAt := 0, fastT := [], illT := [],
    fastRaised := false, illRaised := false, lastBad := none, lastBreak := none, broken := [], stuck := [], onset := none, snapPres := false,
    gross := 0, act := [], hist := [], loadAt := none, pre := none, base := ⟨0, 0, 0, 0, 0, 0⟩, armWas := false }

/-- What the module holds of a counter channel. -/
def chSt (s : State) (n : Nat) : ChSt := smGet chInit s.fbi.ch n

/-- Record it. -/
def setCh (s : State) (n : Nat) (c : ChSt) : State := { s with fbi := { s.fbi with ch := smSet chInit n c s.fbi.ch } }

/-- A compare unit before its first commit (R94). -/
def cmpInit : Nat → CmpSt := fun _ => ⟨0, false, [], none⟩

/-- FBI_CFGn.MODE. -/
def chMode (s : State) (n : Nat) : Nat := fget s (R.FBI_CFG n) F.FBI_CFG_MODE

/-! ### ISO 11786 signals -/

/-- The speed in mm/s of an ISO 11786 speed signal on a channel (R100): the channel is single-ended in PULSE or PERIOD mode and valid; in PULSE mode
a direction signal on B makes it negative while B is low. Log 68: PRESUMED. -/
def isoSpeed (s : State) (n : Nat) : Option Int :=
  match s.cfg.calib.pulses.find? (fun x => x.ch == n && !x.pto) with
  | some p =>
    if fbit s (R.FBI_STAT n) F.FBI_STAT_VALID ∧ fbit s (R.FBI_INCFG n) F.FBI_INCFG_DIFF = false ∧ (chMode s n = 6 ∨ chMode s n = 7) ∧ 0 < p.scale then
      let v := divOpen ((sext 32 (rget s (R.FBI_VEL n)).toNat).natAbs * 1000) (16 * p.scale)
      some (if p.dirOnB ∧ chMode s n = 6 ∧ (chSt s n).b = some false then -v else v)
    else none
  | none => none

end Sys2Proof.Machine
end

