-- ==== Sys2Proof/Machine/Alley.lean ====
section
/-!
DEFINITION. Machine/Alley.lean: the tracks that stand for the pose in ALLEY and PLATFORM (R219, R222 to R224, R226): odometry with
floor magnets, and the index of a rotary platform.
-/

namespace Sys2Proof.Machine

/-- Signed difference of two 48-bit counts. -/
def countDiff (a b : Int) : Int := sext 48 (bitsOf 48 (a - b))

/-- SCALE_USE (R222, R223): SCALE of the image until an adapted value is taken. Log 31: DEDUCED. -/
def scaleUse (s : State) : Int :=
  let v := (rget s R.STR_ALLEY_SCALE).toNat
  if v = 0 then s.cfg.geom0.scale else v

/-- s along the alley line in 1/65536 mm at a count (R222). -/
def alleyQ16 (s : State) (count : Int) : Int := s.str.sRef * 65536 + countDiff count s.str.cRef * scaleUse s

/-- The magnet that lies within M_CAPTURE of a distance (R223): at most one, since M_CAPTURE is below M_PITCH / 2. -/
def magnetNear (g : Geom0) (q : Int) : Option Nat :=
  (List.range g.nM).find? fun m => decide ((q - (g.m0 + m * g.mPitch) * 65536).natAbs ≤ g.mCapture * 65536)

/-- Is the scale that M_PITCH over a count difference gives within 5 % of SCALE (R223)? -/
def scaleTaken (g : Geom0) (d : Nat) : Bool :=
  decide (d ≠ 0 ∧ ((g.mPitch * 65536 : Nat) - (g.scale * d : Nat) : Int).natAbs * 20 ≤ g.scale * d)

/-- ADAPT (R223): SCALE_USE from two magnets matched one after the other, or SCALE_REJECT. -/
def alleyAdapt (m : Nat) (centre : Int) (s : State) : State :=
  let g := s.cfg.geom0
  match s.str.lastMatch with
  | none => s
  | some (l, c) =>
    if g.adapt = false ∨ (l ≠ m + 1 ∧ l + 1 ≠ m) then s
    else
      let d := (countDiff centre c).natAbs
      if scaleTaken g d then rsetN s R.STR_ALLEY_SCALE (divOpen (g.mPitch * 65536) d).toNat
      else fincSat s R.STR_ALLEY_CORR F.STR_ALLEY_CORR_SCALE_REJECT

/-- A MAG_CENTRE of channel `n` (R223): the nearest magnet within M_CAPTURE is matched; an unmatched magnet is counted and changes
nothing. With a SET waiting for the same boundary the magnet is not matched (R226). Log 31: DEDUCED. -/
def alleyMagnet (n : Nat) (centre : Int) (_ct : Nat) (s : State) : State :=
  let g := s.cfg.geom0
  if g.family ≠ .alley ∨ n ≠ g.mag ∨ s.str.setPend then s
  else
    let q := alleyQ16 s centre
    match magnetNear g q with
    | none => fincSat s R.STR_ALLEY_CORR F.STR_ALLEY_CORR_UNMATCHED
    | some m =>
      let sm := g.m0 + m * g.mPitch
      let s1 := alleyAdapt m centre s
      let s2 := { s1 with str := { s1.str with sRef := sm, cRef := centre, lastMatch := some (m, centre) } }
      let s3 := fset s2 R.STR_ALLEY_STAT F.STR_ALLEY_STAT_LAST_MAG m
      let s4 := fset s3 R.STR_ALLEY_CORR F.STR_ALLEY_CORR_LAST_CORR (fitS 16 (divOpen (sm * 65536 - q) 65536))
      fsetb s4 R.STR_ALLEY_STAT F.STR_ALLEY_STAT_VALID true

/-- The count of a channel at the last boundary (R83). -/
def snapCount (s : State) (n : Nat) : Int := sext 48 (rget64 s (R.FBI_SNAP_LO n) (R.FBI_SNAP_HI n))

/-- The alley track at a boundary (R222, R224): SET and ORIENT take effect, DR_MAX is checked, and s is formed. Log 31: DEDUCED. Log 76: DESIGN CHOICE. -/
def alleyBoundary (s : State) : State :=
  let g := s.cfg.geom0
  let c := snapCount s g.odo
  let s1 := { s with str := { s.str with orient := fbit s R.STR_ALLEY_STAT F.STR_ALLEY_STAT_ORIENT } }
  let s2 := if s.str.setPend then
      fsetb { s1 with str := { s1.str with setPend := false, cRef := c, sRef := sext 32 (rget s R.STR_ALLEY_SET).toNat } }
        R.STR_ALLEY_STAT F.STR_ALLEY_STAT_VALID true
    else s1
  let s3 := if (countDiff c s2.str.cRef).natAbs * (scaleUse s2).toNat > g.drMax * 65536 then
      fsetb s2 R.STR_ALLEY_STAT F.STR_ALLEY_STAT_VALID false
    else s2
  let s4 := rsetN s3 R.STR_ALLEY_S (bitsOf 32 (divOpen (alleyQ16 s3 c) 65536))
  rsetN s4 R.STR_ALLEY_SCALE (scaleUse s4).toNat

/-- An index of channel `n` on a platform (R219, R227): counted, and the track has seen one since power-up. -/
def platIndex (n : Nat) (s : State) : State :=
  if s.cfg.geom0.family = .platform ∧ n = s.cfg.geom0.enc then
    fincWrap { s with str := { s.str with platIdx := true } } R.STR_PLAT_REV F.STR_PLAT_REV_REVS
  else s

/-- The platform track at a boundary (R219): c modulo COUNTS_REV, valid while ENC is VALID and an index has been seen. Log 31: DEDUCED. -/
def platBoundary (s : State) : State :=
  let g := s.cfg.geom0
  let c := (snapCount s g.enc % (g.countsRev : Int)).toNat
  let s1 := fset s R.STR_PLAT_POS F.STR_PLAT_POS_COUNT c
  fsetb s1 R.STR_PLAT_POS F.STR_PLAT_POS_VALID (s.str.platIdx && fbit s (R.FBI_STAT g.enc) F.FBI_STAT_VALID)

end Sys2Proof.Machine
end

