-- ==== Sys2Proof/Machine/Modes.lean ====
section
/-!
DEFINITION. Machine/Modes.lean: dispensing modes (R209 to R227): section enables and the team state they rest on, FIELD-DIRECTED and
its schedules, the alley commands.
-/

namespace Sys2Proof.Machine

/-- STR_MODE.MODE: 0 FIELD-AUTONOMOUS, 1 FIELD-DIRECTED, 2 PLATFORM, 3 ALLEY, 4 FORERUNNER (R227). -/
def modeOf (s : State) : Nat := fget s R.STR_MODE F.STR_MODE_MODE

/-- A job is in RUN (R201, COV_JOB_STATUS). -/
def jobRun (s : State) : Bool := fget s R.COV_JOB_STATUS F.COV_JOB_STATUS_STATE == 3

/-- STR_SECSWk bit of a module section. -/
def secSwitch (s : State) (sect : Nat) : Bool := bitOf (rget s (R.STR_SECSW (sect / 32))).toNat (sect % 32)

/-- Is the working-position term in force: the image declares the signal, or a member has sent one (R211, R212)? -/
def workDeclared (s : State) : Bool := s.cfg.geom0.workSrc != .none || s.str.teamWork

/-- Every section enable is clear while the job is SUSPENDING or SUSPENDED (R203), while the module catches up (R200), and while it does not
hold the key of the selected livery under a job (R398). Log 32: DEDUCED. Log 44: DEDUCED. -/
def jobHold (s : State) : Bool :=
  let st := fget s R.COV_JOB_STATUS F.COV_JOB_STATUS_STATE
  st == 4 || st == 5 || fbit s R.COV_JOB_STATUS F.COV_JOB_STATUS_CATCHING_UP
    || (s.cov.job.isSome && fbit s R.BRD_STATUS F.BRD_STATUS_OWNER && !fbit s R.BRD_STATUS F.BRD_STATUS_LIVERY_OPEN)

/-- The section enable of row 1 of R155, by mode (R211). The stall EN of PLATFORM is `stallEn`. Log 32: DEDUCED. Log 44: DEDUCED. -/
def secEnable (s : State) (sect : Nat) : Bool :=
  let m := modeOf s
  !jobHold s && fbit s R.STR_SECCTL F.STR_SECCTL_MASTER && secSwitch s sect
    && (m == 2 || !workDeclared s || fbit s R.STR_SECCTL F.STR_SECCTL_WORK)
    && (m == 1 || m == 2 || jobRun s)

/-- EN of a stall (R211, R227). -/
def stallEn (s : State) (k : Nat) : Bool := fbit s (R.STR_STALL k) F.STR_STALL_EN

/-- The stall a STALL output serves (R210). -/
def stallOf (s : State) (out : Nat) : Option Nat := (s.cfg.geom0.stallOf.find? (fun x => x.1 == out)).map (·.2)

/-- The words of a bit per module section. -/
def sectWord (s : State) (f : Nat → Bool) (k : Nat) : Nat :=
  ((s.cfg.secs.filter (fun x => x.sect / 32 == k)).map (fun x => if f x.sect then 2 ^ (x.sect % 32) else 0)).foldl (· ||| ·) 0

/-- STR_SECENk at a boundary. -/
def secEnLatch (s : State) : State := forN 3 (fun k s' => rsetN s' (R.STR_SECEN k) (sectWord s (secEnable s) k)) s

/-! ### Team state -/

/-- How a change of team state is written into a message. -/
def chgArgs : TeamChg → List Int
  | .master b => [0, b2n b, 0]
  | .secsw k w => [1, k.val, w.toNat]
  | .stall n w => [2, n.val, w.toNat]
  | .work b => [3, b2n b, 0]

/-- The leader names the first boundary at least 10 stride cycles after a change reached it (R212). -/
def nameChange (c : TeamChg) (s : State) : State :=
  let b := boundaryFrom (s.tb + 10 * cycleTicks)
  toTeam { s with str := { s.str with chgs := s.str.chgs ++ [(b, c)] } } MsgKind.SECTION_STATE ((b : Int) :: chgArgs c)

/-- A change of team state made on this member goes to the leader (R212). -/
def teamChange (c : TeamChg) (s : State) : State :=
  if isLeader s then nameChange c s
  else
    let l := s.team.asked
    toLeader { s with team := { s.team with asked := if l.contains c then l else l ++ [c] } } MsgKind.TEAM_STATE_CHANGE (chgArgs c)

/-- Changes not yet named are sent again to a new leader, which names its own (R342). Log 52: DEDUCED. -/
def askAgain (s : State) : State :=
  if isLeader s then forEach s.team.asked nameChange { s with team := { s.team with asked := [] } }
  else forEach s.team.asked (fun c s => toLeader s MsgKind.TEAM_STATE_CHANGE (chgArgs c)) s

/-- A change of team state takes effect (R212). Log 32: DEDUCED. -/
def applyChange (c : TeamChg) (s : State) : State :=
  match c with
  | .master b => fsetb s R.STR_SECCTL F.STR_SECCTL_MASTER b
  | .secsw k w => rset s (R.STR_SECSW k.val) w
  | .stall n w =>
    fset (fset s (R.STR_STALL n.val) F.STR_STALL_DOSE (fgetW w F.STR_STALL_DOSE)) (R.STR_STALL n.val) F.STR_STALL_EN
      (fgetW w F.STR_STALL_EN)
  | .work b => fsetb { s with str := { s.str with teamWork := true } } R.STR_SECCTL F.STR_SECCTL_WORK b

/-- MASTER_WRITE (R212). -/
def execMasterWrite (who : Fin 36) (b : Bool) (s : State) : Out :=
  .next (rapDo s who.val .operate 1 R.STR_SECCTL (teamChange (.master b)))

/-- SECSW_WRITE (R212). -/
def execSecswWrite (who : Fin 36) (k : Fin 3) (w : Word) (s : State) : Out :=
  .next (rapDo s who.val .operate 1 (R.STR_SECSW k.val) (teamChange (.secsw k w)))

/-- STALL_WRITE (R212): EN and DOSE. -/
def execStallWrite (who : Fin 36) (n : Fin 96) (w : Word) (s : State) : Out :=
  .next (rapDo s who.val .operate 1 (R.STR_STALL n.val) (teamChange (.stall n w)))

/-- TEAM_STATE_CHANGE (R212): a member's change reaches the leader. -/
def execTeamStateChange (_m : Fin 64) (c : TeamChg) (s : State) : Out :=
  .next (if isLeader s then nameChange c s else s)

/-- SECTION_STATE_APPLY (R212): the boundary `b` named for a change. The leader applies what it has named. -/
def execSectionStateApply (b : Nat) (c : TeamChg) (s : State) : Out :=
  .next (if s.tb < b then s
    else if isLeader s = false then applyChange c { s with team := { s.team with asked := s.team.asked.filter (fun x => x != c) } }
    else if s.str.chgs.contains (b, c) then applyChange c { s with str := { s.str with chgs := removeFirst (· == (b, c)) s.str.chgs } }
    else s)

/-- Code and VALID of an analog input's latest sample stamped before a boundary (R211). -/
def ainBefore (s : State) (n B : Nat) : Nat × Bool :=
  let now := (fget s (R.FBI_AIN n) F.FBI_AIN_CODE, fbit s (R.FBI_AIN n) F.FBI_AIN_VALID)
  if smGet zero s.fbi.ainTb n = B ∧ 0 < B then smGet (fun _ => (0, false)) s.fbi.ainWas n else now

/-- The working-position signal the module reads at a boundary (R211); none: it owns no such input. -/
def workRead (s : State) : Option Bool :=
  match s.cfg.geom0.workSrc with
  | .none => none
  | .ain n mv =>
    let x := ainBefore s n.val s.tb
    some (x.2 && decide (mv * 65535 ≤ x.1 * 5000))
  | .trip k => some (fbit s (R.PWM_TRIP_STAT k.val) F.PWM_TRIP_STAT_LEVEL)

/-- A reading that differs from the last one sent is sent as a change (R212). -/
def workBoundary (s : State) : State :=
  match workRead s with
  | none => s
  | some b => if b = s.str.workSent then s else teamChange (.work b) { s with str := { s.str with workSent := b } }

/-! ### FIELD-DIRECTED -/

/-- A task controller status message came within the last 6 s with section control on (R214, R217). -/
def tcFresh (s : State) : Bool :=
  fbit s R.STR_MODE F.STR_MODE_TC_SC && (match s.str.tcAt with | some t => decide (s.tb < t + 6 * secTicks) | none => false)

/-- A change of field mode the leader names (R217). -/
def modeArg : ModeChg → Int
  | .enter => 0
  | .leave => 1
  | .forceOff => 2

/-- The leader names M, at least 10 stride cycles ahead (R217). -/
def nameMode (c : ModeChg) (s : State) : State :=
  if isLeader s = false then s
  else
    let b := boundaryFrom (s.tb + 10 * cycleTicks)
    toTeam { s with str := { s.str with modeNext := some (b, c) } } MsgKind.MODE_CHANGE [b, modeArg c]

/-- The conditions of R214 are held against the mode in force: entry, or leaving once MODE_REQ is withdrawn. Log 32: DEDUCED. -/
def modeEval (s : State) : State :=
  let g := s.cfg.geom0
  let req := fbit s R.STR_MODE F.STR_MODE_MODE_REQ
  if s.str.modeNext.isSome ∨ g.family ≠ .field then s
  else if g.directedOk && req && tcFresh s && (modeOf s == 0 || s.str.schedOff) then nameMode .enter s
  else if modeOf s = 1 ∧ req = false then nameMode .leave s
  else s

/-- MODE_REQ_WRITE (R214). -/
def execModeReqWrite (who : Fin 36) (b : Bool) (s : State) : Out :=
  .next (rapDo s who.val .operate 1 R.STR_MODE fun s => modeEval (fsetb s R.STR_MODE F.STR_MODE_MODE_REQ b))

/-- The task controller is lost (R217). -/
def tcLost (s : State) : State :=
  if modeOf s ≠ 1 then s
  else nameMode (if s.cfg.geom0.tcAuto then .leave else .forceOff) (fsetb s R.STR_MODE F.STR_MODE_TC_LOST true)

/-- A message of the task controller (R214, R217): the ISOBUS holder takes it with its receive stamp and forwards both to the team. Log 32: DEDUCED. -/
def tcTake (fwd : Option Nat) (k : MsgKind) (args : List Int) (f : Nat → State → State) (s : State) : State :=
  match fwd with
  | some r => f r s
  | none => match (List.range 4).find? (fun c => fbit s (R.CAN_ISO c) F.CAN_ISO_ROLE && domOn s 7) with
    | some c =>
      let r := canStamp c 0 s
      f r (toTeam (canTake c 0 s) k (args ++ [(r : Int)]))
    | none => s

/-- TC_STATUS (R214, R217). -/
def execTcStatus (scOn : Bool) (fwd : Option Nat) (s : State) : Out :=
  .next (tcTake fwd MsgKind.TC_STATUS [b2n scOn] (fun r s =>
    let s1 := fsetb { s with str := { s.str with tcAt := some r } } R.STR_MODE F.STR_MODE_TC_SC scOn
    if scOn then modeEval s1 else if fbit s R.STR_MODE F.STR_MODE_TC_SC then tcLost s1 else s1) s)

/-- TC_LOSS (R217): no status message for 6 s. -/
def execTcLoss (s : State) : Out :=
  .next (match s.str.tcAt with
    | some t => if t + 6 * secTicks ≤ s.tb then tcLost { s with str := { s.str with tcAt := none } } else s
    | none => s)

/-- The schedule of a module section (R214): state in force, and edges (ground tick, state) in order. -/
def schedOf (s : State) (sect : Nat) : Option (Bool × List (Nat × Bool)) :=
  (s.str.scheds.find? (fun x => x.1 == sect)).map (·.2)

/-- Replace a schedule. Log 32: DEDUCED. -/
def schedSet (sect : Nat) (v : Bool × List (Nat × Bool)) (s : State) : State :=
  { s with str := { s.str with scheds := s.str.scheds.filter (fun x => x.1 != sect) ++ [(sect, v)] } }

/-- The schedule's state at a ground tick (R214). -/
def schedAt (base : Bool) (es : List (Nat × Bool)) (g : Nat) : Bool := (es.filter (fun e => decide (e.1 ≤ g))).getLast?.elim base (·.2)

/-- An edge enters a schedule (R214, R215): none for the state the schedule ends with; a ninth removes the oldest. -/
def schedEdge (sect g : Nat) (on : Bool) (s : State) : State :=
  let cur := (schedOf s sect).getD (!on, [])
  if cur.2.getLast?.elim cur.1 (·.2) = on then s
  else if cur.2.length < 8 then schedSet sect (cur.1, cur.2 ++ [(g, on)]) s
  else match cur.2 with
    | e :: es => fsetb (schedSet sect (e.2, es ++ [(g, on)]) s) R.STR_MODE F.STR_MODE_TC_OVF true
    | [] => s

/-- Setpoints enter schedules: the mode is FIELD-DIRECTED with schedules in force, or FIELD-AUTONOMOUS with DIRECTED_OK, where an edge
is kept until the next boundary in case that boundary is M (R217, R226). -/
def schedOpen (s : State) : Bool :=
  let g := s.cfg.geom0
  g.family == .field && ((modeOf s == 1 && !s.str.schedOff) || (modeOf s == 0 && g.directedOk))

/-- TC_SETPOINT (R214): an edge at g = r + LAT_TC in every module section of the team section. -/
def execTcSetpoint (sect : Fin 1024) (on : Bool) (fwd : Option Nat) (s : State) : Out :=
  .next (tcTake fwd MsgKind.TC_SETPOINT [sect.val, b2n on] (fun r s =>
    if schedOpen s = false then s
    else forEach (s.cfg.secs.filter (fun x => x.team == sect.val))
      (fun x s => schedEdge x.sect (r + s.cfg.geom0.latTc * 20000) on s) s) s)

/-- STR_TCSCHk. -/
def tcschLatch (s : State) : State :=
  forN 3 (fun k s' => rsetN s' (R.STR_TCSCH k) (sectWord s (fun x => (schedOf s x).elim false (·.1)) k)) s

/-- Edges whose ground tick has passed become the state in force (R215); outside FIELD-DIRECTED edges are discarded. Log 32: DEDUCED. -/
def schedBoundary (B : Nat) (s : State) : State :=
  let l := if modeOf s ≠ 1 then []
    else s.str.scheds.map fun x => (x.1, schedAt x.2.1 x.2.2 B, x.2.2.filter (fun e => decide (B < e.1)))
  tcschLatch { s with str := { s.str with scheds := l } }

/-- A change of field mode takes effect at M (R217). Log 32: DEDUCED. -/
def applyMode (c : ModeChg) (s : State) : State :=
  match c with
  | .enter =>
    tcschLatch (fset { s with str := { s.str with
      schedOff := false
      scheds := s.cfg.secs.map fun x => (x.sect, secEnable s x.sect, ((schedOf s x.sect).getD (false, [])).2) } }
      R.STR_MODE F.STR_MODE_MODE 1)
  | .leave => tcschLatch (fset { s with str := { s.str with schedOff := false, scheds := [] } } R.STR_MODE F.STR_MODE_MODE 0)
  | .forceOff => tcschLatch { s with str := { s.str with schedOff := true, scheds := s.cfg.secs.map fun x => (x.sect, false, []) } }

/-- MODE_CHANGE_APPLY (R217): at M. The leader applies what it has named. -/
def execModeChangeApply (M : Nat) (c : ModeChg) (s : State) : Out :=
  .next (if s.cfg.geom0.family ≠ .field ∨ s.tb < M then s
    else if isLeader s ∧ s.str.modeNext ≠ some (M, c) then s
    else applyMode c { s with str := { s.str with modeNext := none } })

/-! ### ALLEY -/

/-- ALLEY_SET (R222): STR_ALLEY_SET is applied at the next boundary. -/
def execAlleySet (who : Fin 36) (s : State) : Out :=
  .next (rapDo s who.val .other 1 R.STR_ALLEY_STAT fun s =>
    if s.cfg.geom0.family = .alley then { s with str := { s.str with setPend := true } } else s)

/-- ALLEY_ORIENT (R224): it takes effect at the next boundary. -/
def execAlleyOrient (who : Fin 36) (b : Bool) (s : State) : Out :=
  .next (rapDo s who.val .other 1 R.STR_ALLEY_STAT fun s => fsetb s R.STR_ALLEY_STAT F.STR_ALLEY_STAT_ORIENT b)

end Sys2Proof.Machine
end

