-- ==== Sys2Proof/Machine/Queue.lean ====
section
/-!
DEFINITION. Machine/Queue.lean: the event queue of an output (R162 to R166): entries, squashing, withdrawal of provisional marks, the
stop of the engine.
-/

namespace Sys2Proof.Machine

/-- What the engine holds of an output before its first cycle. -/
def outInit : Nat → OutSt := fun _ =>
  { queue := [], fixed := [], runs := [], evid := [], mate := [], sweep := none, cutHz := none, noHz0 := 0, doneTo := 0, applied := false, gap := none,
    win := 0, winOff := 0, winFrom := 0, dose := 0, doseTo := 0, winGap := none, last := none }

/-- What the engine holds of an output. -/
def outSt (s : State) (n : Nat) : OutSt := smGet outInit s.str.outs n

/-- Record it. -/
def setOut (s : State) (n : Nat) (o : OutSt) : State := { s with str := { s.str with outs := smSet outInit n o s.str.outs } }

/-- The partner's reading of a pair-wired output shows that its channel applies, or no longer (R170, R267). Log 37: DEDUCED. -/
def mateTake (n : Nat) (on : Bool) (s : State) : State :=
  let o := outSt s n
  match o.mate.getLast? with
  | some (_, none) => if on then s else setOut s n { o with mate := o.mate.map (fun x => (x.1, some (x.2.getD s.tb))) }
  | _ => if on then setOut s n { o with mate := o.mate ++ [(s.tb, none)] } else s

/-- The entry of the output table for a channel, of roles 1 to 4. -/
def outEnt (s : State) (n : Nat) : Option OutEnt := s.cfg.outs.find? (fun o => o.out == n && strideRole o)

/-- The outputs under the engine. -/
def strideOuts (s : State) : List OutEnt := s.cfg.outs.filter strideRole

/-- The parameters of an output's section (R154). -/
def secPar (s : State) (o : OutEnt) : Option SecPar := (s.cfg.secs.find? (fun x => x.sect == o.sect)).map (·.par)

/-- The stride gate of an output, level 6 of R31. -/
def gateOn (s : State) (n : Nat) : Bool := fbit s (R.STR_OUT n) F.STR_OUT_GATE

/-- The gate after the entries of a queue with a tick before `t` have executed. -/
def gateAfter (g : Bool) (q : List QEnt) (t : Nat) : Bool := (q.filter (fun e => decide (e.tick < t))).foldl (fun _ e => e.on) g

/-- The gate of an output as the queue leaves it at a tick. -/
def gateAt (s : State) (n t : Nat) : Bool := gateAfter (gateOn s n) (outSt s n).queue t

/-- Put an entry at its place by command tick (R162). -/
def qIns (e : QEnt) : List QEnt → List QEnt
  | [] => [e]
  | x :: xs => if e.tick < x.tick then e :: x :: xs else x :: qIns e xs

/-- STR_NEXTn and QDEPTH of an output (R182). -/
def nextReg (n : Nat) (s : State) : State :=
  let q := (outSt s n).queue
  let s1 := fset s (R.STR_OUT n) F.STR_OUT_QDEPTH q.length
  match q with
  | [] => rsetN s1 (R.STR_NEXT n) 0
  | e :: _ =>
    let w := fsetW (fsetW (fsetW (fsetW 0 F.STR_NEXT_VALID 1) F.STR_NEXT_TYPE (b2n e.on)) F.STR_NEXT_HZ e.hz) F.STR_NEXT_LATE (b2n e.late)
    rset s1 (R.STR_NEXT n) (fsetW w F.STR_NEXT_DT ((e.tick - s.str.cycle) / 8))

/-- Add one to the provisional count of cells: a count saturates at 15 (R166). -/
def provAdd (cells : List Nat) (s : State) : State :=
  forEach cells (fun c s => { s with str := { s.str with prov := smSet zero c (satInc 15 (smGet zero s.str.prov c)) s.str.prov } }) s

/-- Take one from the provisional count of cells: a count of 15 stays (R166). -/
def provSub (cells : List Nat) (s : State) : State :=
  forEach cells (fun c s =>
    let v := smGet zero s.str.prov c
    if v = 15 then s else { s with str := { s.str with prov := smSet zero c (v - 1) s.str.prov } }) s

/-- Withdraw the provisional marks of an output's runs that satisfy a predicate (R163, R166, R172). -/
def withdraw (n : Nat) (p : ProvRun → Bool) (s : State) : State :=
  let o := outSt s n
  let s1 := forEach (o.runs.filter p) (fun r s => provSub (r.cells.map (·.1)) s) s
  setOut s1 n { o with runs := o.runs.filter (fun r => !p r) }

/-- Withdraw the provisional marks of an output from a ground time on (R51, R163). -/
def cutMarks (n g : Nat) (s : State) : State :=
  let o := outSt s n
  let s1 := provSub (o.runs.flatMap (fun r => (r.cells.filter (fun c => decide (g ≤ c.2))).map (·.1))) s
  setOut s1 n { o with
    runs := (o.runs.filter (fun r => decide (r.from_ < g))).map (fun r =>
      { r with to_ := min g r.to_, cells := r.cells.filter (fun c => decide (c.2 < g)) }) }

/-- Squash the entries of an output that satisfy a predicate, with the provisional marks from the first of them on, advancing its
generation (R51, R163 steps 1, 2 and 4). -/
def squash (n : Nat) (p : QEnt → Bool) (s : State) : State :=
  let l := (outSt s n).queue.filter p
  let k := l.length
  let s1 := match l with
    | [] => s
    | e :: r => cutMarks n (r.foldl (fun g x => min g x.ground) e.ground) s
  let o := outSt s1 n
  let s2 := setOut s1 n { o with queue := o.queue.filter (fun e => !p e) }
  faddWrap (fincWrap s2 (R.STR_OUT n) F.STR_OUT_GEN) R.STR_SQUASH_CNT F.STR_SQUASH_CNT_COUNT k

/-- The generation of an output. -/
def genOf (s : State) (n : Nat) : Nat := fget s (R.STR_OUT n) F.STR_OUT_GEN

/-- On-delay and off-delay of an output in ticks as latched for the cycle (R71). -/
def onDelay (s : State) (n : Nat) : Nat := fget s (R.STR_DELAY n) F.STR_DELAY_ON * 20000
/-- See `onDelay`. -/
def offDelay (s : State) (n : Nat) : Nat := fget s (R.STR_DELAY n) F.STR_DELAY_OFF * 20000

/-- Squash what an output holds at or after the fence, and turn its gate off there (R165, R178). -/
def stopOut (n f reason : Nat) (s : State) : State :=
  let later := (outSt s n).queue.any (fun e => decide (f ≤ e.tick))
  let on := gateAt s n f
  let s0 := fset s (R.STR_OUT n) F.STR_OUT_REASON reason
  if later = false ∧ on = false then s0
  else
    let s1 := squash n (fun e => decide (f ≤ e.tick)) s0
    let o := outSt s1 n
    nextReg n (if on then
      cutMarks n (f + offDelay s n) <| setOut s1 n { o with queue := qIns ⟨false, f, f + offDelay s n, genOf s1 n, 0, false, reason⟩ o.queue } else s1)

/-- ENGINE_STOP (R165): the engine stops deciding; entries at or after the fence are squashed and every gate that is ON there gets an
OFF at the fence. -/
def engineStop (s : State) : State :=
  if fbit s R.STR_STATUS F.STR_STATUS_RUN = false then s
  else
    let f := nextBoundary s.tb
    forEach (strideOuts s) (fun o s => stopOut o.out f 8 s) (fsetb s R.STR_STATUS F.STR_STATUS_RUN false)

end Sys2Proof.Machine
end

