-- ==== Sys2Proof/Machine/Level.lean ====
section
/-!
DEFINITION. Machine/Level.lean: service levels (R6, R7, R454): the working set, the drop to the highest level whose set is complete,
and the rise.
-/

namespace Sys2Proof.Machine

/-- A domain counts as present while it is on, or while a reset of it has not passed its time (R454). -/
def domHere (s : State) (d : Nat) : Bool := domPow s d || s.flt.down.any (fun x => x.1 == d)

/-- The pose is valid for L2 (R131). -/
def poseValid (s : State) : Bool := fbit s R.POS_STATUS F.POS_STATUS_VALID

/-- Units of a kind that are not retired. Log 65: DESIGN CHOICE. -/
def unitsLeft (s : State) (k : Nat) : Nat := fget s (R.FAR_CAP k) F.FAR_CAP_NOMINAL - (s.far.retired.filter (fun x => x.1 == k)).length

/-- A domain passes its self-test (R6, R417): PD1 the farrier's known-answer test and, of each kind of unit it needs, at least one; PD2 one navigation
processor; PD8 its DRAM; PD10 one current ADC. The other domains hold no unit under test. Log 65: DESIGN CHOICE. -/
def domPass (s : State) (d : Nat) : Bool :=
  match d with
  | 1 => !s.far.katBad && [0, 1, 3, 5, 6].all (fun k => decide (0 < unitsLeft s k))
  | 2 => decide (0 < unitsLeft s 2)
  | 8 => decide (0 < unitsLeft s 10)
  | 10 => decide (0 < unitsLeft s 12)
  | _ => true

/-- A domain of the working set is present and passes its self-test (R6). Log 65: DESIGN CHOICE. -/
def domItem (s : State) (d : Nat) : Bool := domHere s d && domPass s d

/-- The items of L1 and of L2 in the order of SYS_LEVEL.LIMIT, each with its code and whether it is present (R6). -/
def levelItems (s : State) : List (Nat × Bool) × List (Nat × Bool) :=
  ([(1, vlogOk s), (2, feedOk s), (3, domItem s 1 && s.img.active.isSome), (4, domItem s 7), (5, domItem s 8), (6, domItem s 9),
    (10, domItem s 10)], [(7, domItem s 2), (8, poseValid s)])

/-- The highest level whose working set is complete, and the first missing item of the next (R7). -/
def levelHave (s : State) : Nat × Nat :=
  if fbit s R.FLT_STATUS F.FLT_STATUS_RESET_LOOP then (0, 9)
  else match (levelItems s).1.find? (fun x => !x.2) with
    | some x => (0, x.1)
    | none => match (levelItems s).2.find? (fun x => !x.2) with
      | some x => (1, x.1)
      | none => (2, 0)

/-- The OTP image count rises to the SVN of an image under which the module has reached L1 (R46); a start under LAST_GOOD does not change
it (R49). -/
def otpRaise (s : State) : State :=
  match s.img.active with
  | some c =>
    if 1 ≤ level s ∧ s.img.otpSvn < c.svn ∧ fbit s R.IMG_STATUS F.IMG_STATUS_FALLBACK = false then
      fset { s with img := { s.img with otpSvn := c.svn } } R.IMG_SVN F.IMG_SVN_OTP_SVN c.svn
    else s
  | none => s

/-- A trial start has reached L1 (R468). Log 20: DEDUCED. -/
def trialReached (s : State) : State :=
  if s.pwr.trialRun then
    { s with pwr := { s.pwr with trialAt := some s.tb } } else s

/-- The injection ends (R297): STATE 2 DONE or 3 ABORTED, with its cause. -/
def injEnd (cause : Nat) (s : State) : State :=
  match s.ctl.inj with
  | none => s
  | some j =>
    let s1 := fset (fset s R.CTL_INJ_STAT F.CTL_INJ_STAT_STATE (if cause = 2 then 2 else 3)) R.CTL_INJ_STAT F.CTL_INJ_STAT_CAUSE cause
    let s2 := fsetb { s1 with ctl := { s1.ctl with inj := none } } (R.CTL_LOOP_STAT j.loop) F.CTL_LOOP_STAT_INJ false
    raise s2 Ev.INJ_END [j.loop, cause]

/-- Change the level, with its record (R7). Leaving L2 stops the engine (R165), and so does leaving L1 under direct control (R218). Log 40: DEDUCED. -/
def setLevel (l : Nat) (s : State) : State :=
  let old := level s
  if l = old then s
  else
    let s1 := raise (fincSat (fset s R.SYS_LEVEL F.SYS_LEVEL_LEVEL l) R.SYS_LEVEL F.SYS_LEVEL_CHANGES) Ev.LEVEL_CHANGE [old, l]
    let s2 := if old = 2 then { s1 with str := { s1.str with leftL2 := some s.tb } } else s1
    let s3 := if old = 1 ∨ l = 0 then injEnd 12 s2 else s2
    if l < old then engineStop s3 else if old = 0 then trialReached (otpRaise s3) else s3

/-- LEVEL_DROP (R7): in the tick of a loss the module drops to the highest level whose working set is still complete. -/
def levelDrop (s : State) : State :=
  let h := levelHave s
  let s1 := fset s R.SYS_LEVEL F.SYS_LEVEL_LIMIT h.2
  if h.1 < level s then setLevel h.1 s1 else s1

/-- The rise at a boundary (R7). -/
def levelUp (s : State) : State :=
  let h := levelHave s
  let s1 := fset s R.SYS_LEVEL F.SYS_LEVEL_LIMIT h.2
  if level s < h.1 then setLevel h.1 s1 else s1

end Sys2Proof.Machine
end

