-- ==== Sys2Proof/Machine/StudBook.lean ====
section
/-!
DEFINITION. Machine/StudBook.lean: the event recorder's commands (R431 to R445): storage, freeze, export, collection, clearing.
-/

namespace Sys2Proof.Machine

/-- Bit s of a severity mask (STB_CMD.SEV_MASK). -/
def inMask (mask : Nat) (r : Rec) : Bool := bitOf mask r.sev

/-- Store one record in the eMMC log and, at severity 3, in NOR (R435, R436). A worn eMMC takes no record of severity 0 or 1
(R459). -/
def stbLog (r : Rec) (b : Stb) : Stb :=
  let b1 := stbNor r b
  if b1.wearStop ∧ r.sev < 2 then b1
  else
    let p := stbStore logBytes r b1.log b1
    { p.2 with log := p.1 }

/-- Store records in order. -/
def stbLogAll (b : Stb) (rs : List Rec) : Stb := rs.foldl (fun b r => stbLog r b) b

/-- Write the records that wait (R435): into the log and NOR, or, during a freeze, only severity 3 into NOR (R437). The
retention buffer drains at L1 (R434). -/
def recordWrite (s : State) : State :=
  let b := s.stb
  if b.frozenAt.isSome then { s with stb := b.raiseQ.foldl (fun b r => stbNor r b) b }
  else
    let drain := decide (1 ≤ level s)
    let b1 := if drain then stbLogAll { b with retBuf := [] } b.retBuf else b
    { s with stb := stbLogAll { b1 with raiseQ := [] } b.raiseQ }

/-- RECORD_WRITE (R435). Nothing is stored while the store domain PD9 is off (R24). -/
def execRecordWrite (s : State) : Out := .next (if domOn s 9 then recordWrite s else s)

/-- Saturate the count of a 16-bit payload field. -/
def u16 (n : Nat) : Int := (min n 65535 : Nat)

/-- DROPPED_RECORD (R436): once per second in which drops occurred, one DROPPED record, with the drops per severity and the
dropped SEQ range (R440). Log 59: DEDUCED. -/
def execDroppedRecord (s : State) : Out :=
  .next (if s.stb.dropSec.foldl (· + ·) 0 = 0 ∨ optMs s < s.stb.dropAt + 1000 then s
    else
      let d := s.stb.dropSec
      let b := s.stb
      raise { s with stb := { b with dropSec := [0, 0, 0, 0], dropRange := (0, 0), dropAt := optMs s } } Ev.DROPPED
        [u16 (d.getD 0 0), u16 (d.getD 1 0), u16 (d.getD 2 0), u16 (d.getD 3 0), b.dropRange.1, b.dropRange.2])

/-- TT_OFS as the 64-bit register pair holds it (R139, R148). -/
def ttOfs (s : State) : Nat := rget64 s R.POS_TT_OFS_LO R.POS_TT_OFS_HI

/-- TB_MARK (R440), every 60 s of operating time: the full TB, TT_OFS, the TT state and GPS_UTC. Log 59: DEDUCED. -/
def execTbMark (s : State) : Out :=
  .next (if optMs s < s.stb.markAt + 60000 then s
    else raise { s with stb := { s.stb with markAt := optMs s } } Ev.TB_MARK [s.tb, ttOfs s, fget s R.POS_TT_STATUS F.POS_TT_STATUS_TT_STATE,
    fget s R.POS_LEAP F.POS_LEAP_GPS_UTC])

/-- Save OPT (R433). -/
def optSave (s : State) : State := { s with stb := { s.stb with optSaved := optMs s } }

/-- OPT_SAVE (R433): every 10 s of operating time. Log 59: DEDUCED. -/
def execOptSave (s : State) : Out := .next (if optMs s < s.stb.optSaved + 10000 then s else optSave s)

/-- Answer of STB_CMD in STB_RESULT (R445). -/
def stbResult (s : State) (cmd res : Nat) : State :=
  rset s R.STB_RESULT (fsetW (fsetW (rget s R.STB_RESULT) F.STB_RESULT_RESULT res) F.STB_RESULT_CMD cmd)

/-- A FREEZE is refused during a freeze or within 10 s after the end of the previous one (R437). -/
def freezeBusy (s : State) : Bool :=
  s.stb.frozenAt.isSome || (match s.stb.freezeEnd with | some e => decide (s.tb < e + 10 * secTicks) | none => false)

/-- FREEZE (R437). -/
def execFreeze (who : Fin 36) (s : State) : Out :=
  .next (rapDo s who.val .farrier 9 R.STB_CMD fun s =>
    if freezeBusy s then stbResult s 1 6
    else stbResult (fsetb { s with stb := { s.stb with frozenAt := some s.tb, frozenBy := who.val, holdLost := 0 } }
      R.STB_STATUS F.STB_STATUS_FROZEN true) 1 0)

/-- End a freeze (R437, R444): the records that waited before it and then the held ones enter the log, ahead of any newer record, and one FREEZE
record gives the duration in ms, the records held and the records lost. Log 59: DEDUCED. -/
def freezeStop (s : State) : State :=
  match s.stb.frozenAt with
  | none => s
  | some t0 =>
    let held := s.stb.holdQ
    let lost := s.stb.holdLost
    let b := stbLogAll { s.stb with frozenAt := none, freezeEnd := some s.tb, raiseQ := [], holdQ := [] } (s.stb.raiseQ ++ held)
    raise (fsetb { s with stb := b } R.STB_STATUS F.STB_STATUS_FROZEN false) Ev.FREEZE
      [(s.tb - t0) / 200000, held.length, u16 lost]

/-- UNFREEZE (R437). -/
def execUnfreeze (who : Fin 36) (s : State) : Out :=
  .next (rapDo s who.val .farrier 9 R.STB_CMD fun s => stbResult (freezeStop s) 2 0)

/-- FREEZE_TIMEOUT (R437): the freeze ends 10 s after it began. Log 59: DEDUCED. -/
def execFreezeTimeout (s : State) : Out :=
  .next (match s.stb.frozenAt with
    | some t => if t + 10 * secTicks ≤ s.tb then freezeStop s else s
    | none => s)

/-- A fresh challenge of 32 bits (R442). Log 8: DESIGN CHOICE. -/
def freshChal (s : State) : Nat := (Config.freeWord s.freeCnt).toNat

/-- The result code of a CLEAR (R442, R445): NOT_ROLE, BUSY during a freeze, STATE for a mask that mixes severity 3 with
others, BAD_SIG, WRONG_DEVICE, EXPIRED, REPLAY where the challenge is not the one last read, or OK. Log 59: DEDUCED. -/
def clearResult (s : State) (who mask : Nat) (p : ClearPermit) : Nat :=
  let need : Role := if mask = 8 then .vendor else .service
  if sessRole s who ≠ some need then 2
  else if s.stb.frozenAt.isSome then 6
  else if 8 < mask ∨ mask = 0 then 7
  else if p.sigOk = false ∨ p.factory ≠ decide (mask = 8) ∨ chainHolds s s.img.otpRoot p.chain = false ∨
      (p.factory = false ∧ p.oemId ≠ s.img.oemId) then 1
  else if p.serial ≠ s.pwr.serial then 4
  else if p.toT < checkTime s ∨ checkTime s + 86400 * 6400000000 < p.toT then 3
  else if s.stb.chal ≠ some p.chal ∨ p.mask ≠ mask then 5
  else 0

/-- CLEAR removes every stored record of its mask but CLEARED records (R442, R443). -/
def clearLog (mask : Nat) (l : List Rec) : List Rec := l.filter (fun r => !(inMask mask r && r.ev != Ev.CLEARED))

/-- CLEAR with its permit (R442 to R444): the records are removed, the challenge is renewed, and a CLEARED record is written with
the mask, the permit serial, the records removed, the highest SEQ removed and the role. -/
def stbClear (s : State) (who mask : Nat) (p : ClearPermit) : State :=
  let res := clearResult s who mask p
  let s0 := freeNext { s with stb := { s.stb with chal := some (freshChal s) } }
  if res ≠ 0 then stbResult s0 3 res
  else
    let gone := s.stb.log.filter (fun r => inMask mask r && r.ev != Ev.CLEARED)
    let nor := if mask = 8 then clearLog mask s.stb.nor else s.stb.nor
    let s1 := { s0 with stb := { s0.stb with log := clearLog mask s.stb.log, nor := nor } }
    stbResult (raise s1 Ev.CLEARED [mask, p.permitSerial, gone.length, (gone.map (·.seq)).foldl max 0,
      match sessRole s who with | some r => roleCode r | none => 0]) 3 0

/-- STB_CLEAR (R442, R443): a session without the role it needs has the result NOT_ROLE. -/
def execStbClear (who : Fin 36) (mask : Nat) (p : ClearPermit) (s : State) : Out :=
  .next (if rapPath s = false then s
    else if (sessRole s who.val).isNone then rapAnswer s who.val .noSession []
    else if domOn s 9 then rapAnswer (stbClear s who.val (mask % 16) p) who.val .ok []
    else rapAnswer s who.val .domainOff [])

/-- The records an export selects (R439). -/
def exportSel (mask : Nat) (l : List Rec) : List Rec := l.filter (inMask mask)

/-- The export of a list of records (R439). Log 59: DEDUCED. -/
def exportOf (s : State) (mask : Nat) (l : List Rec) : StbExport := ⟨s.pwr.serial, midOf s, s.stb.pcc, optMs s, mask, exportSel mask l⟩

/-- Bytes of an export: header, records, signature (R439). -/
def exportSize (l : List Rec) : Nat := (l.map recSize).foldl (· + ·) 0 + 128

/-- First and last SEQ of the records of an export, 0 where it holds none. -/
def exportEnds (l : List Rec) : Nat × Nat := (((l.head?).map (·.seq)).getD 0, ((l.getLast?).map (·.seq)).getD 0)

/-- STB_EXPORT (R439). -/
def execStbExport (who : Fin 36) (mask : Nat) (s : State) : Out :=
  .next (rapDo s who.val .stbRead 9 R.STB_CMD fun s =>
    stbResult { s with stb := { s.stb with exported := some (exportOf s (mask % 16) s.stb.log) } } 4 0)

/-- The oldest records that fit into a number of bytes (R439). -/
def recsFit : Nat → List Rec → List Rec
  | _, [] => []
  | room, r :: l => if recSize r ≤ room then r :: recsFit (room - recSize r) l else []

/-- Bytes of the file a collection joins (R439). -/
def fileBytes : Nat := 16 * 1024 * 1024

/-- Bytes of the exports a collection has joined. -/
def joinedBytes (b : Stb) : Nat := (b.joined.map (·.2.2.2)).foldl (· + ·) 0

/-- The last SEQ collected from a device serial. -/
def collectedTo (s : State) (serial : Nat) : Nat := smGet zero s.stb.collected serial

/-- An export joins the file where it fits, and the last SEQ collected from its serial advances; otherwise its records follow at the next COLLECT
(R439). Log 59: DEDUCED. -/
def joinExport (serial first last bytes : Nat) (b : Stb) : Stb :=
  if fileBytes < joinedBytes b + bytes then b
  else { b with
    joined := b.joined ++ [(serial, first, last, bytes)], collected := smSet zero serial (max last (smGet zero b.collected serial)) b.collected }

/-- COLLECT asks a member for the records above the last SEQ collected from its serial (R439). -/
def collectAsk (mask m : Nat) (s : State) : State :=
  let serial := ((s.team.heard.find? (fun x => x.h.mid == m)).map (·.h.serial)).getD 0
  send s MsgKind.COLLECT m [(mask : Int), (collectedTo s serial : Int)]

/-- COLLECT (R439): the leader asks every member over TC5 and begins with its own records. -/
def execCollect (who : Fin 36) (mask : Nat) (s : State) : Out :=
  .next (rapDo s who.val .stbRead 9 R.STB_CMD fun s =>
    if isLeader s = false then stbResult s 5 7
    else if s.stb.collect ≠ [] then stbResult s 5 6
    else
      let ms := otherMembers s
      let own := recsFit (fileBytes - 128) (exportSel (mask % 16) (s.stb.log.filter (fun r => decide (collectedTo s s.pwr.serial < r.seq))))
      let e := exportEnds own
      let s1 := forEach ms (collectAsk (mask % 16)) s
      let b := joinExport s.pwr.serial e.1 e.2 (exportSize own) { s1.stb with collect := ms, missing := [], joined := [], collectAt := s.tb }
      stbResult (fsetb { s1 with stb := b } R.STB_STATUS F.STB_STATUS_COLLECTING (!ms.isEmpty)) 5 0)

/-- A member is waited for no longer. -/
def collectLess (m : Nat) (s : State) : State :=
  let left := s.stb.collect.filter (fun x => x != m)
  fsetb { s with stb := { s.stb with collect := left } } R.STB_STATUS F.STB_STATUS_COLLECTING (!left.isEmpty)

/-- COLLECT_ANSWER (R439): a member's export is joined unchanged. -/
def execCollectAnswer (m : Fin 64) (serial first last bytes : Nat) (s : State) : Out :=
  .next (if m.val ∈ s.stb.collect then
      let s1 := collectLess m.val s
      { s1 with stb := joinExport serial first last bytes s1.stb }
    else s)

/-- COLLECT_TIMEOUT (R439): a member that has not answered within 10 s is recorded as missing. -/
def execCollectTimeout (m : Fin 64) (s : State) : Out :=
  .next (if m.val ∈ s.stb.collect ∧ s.stb.collectAt + 10 * secTicks ≤ s.tb then
      let s1 := collectLess m.val s
      raise { s1 with stb := { s1.stb with missing := s1.stb.missing ++ [m.val] } } Ev.COLLECT_MISSING [m.val]
    else s)

/-- STB_CHAL_READ (R442): the challenge is renewed at each read and returned. -/
def execStbChalRead (who : Fin 36) (s : State) : Out :=
  .next (if rapPath s = false then s else match sessRole s who.val with
    | none => rapAnswer s who.val .noSession []
    | some r =>
      if mayAct .stbRead r = false then rapAnswer s who.val .masked [0]
      else if domOn s 9 = false then rapAnswer s who.val .domainOff [0, 0]
      else
        let c := freshChal s
        let s1 := rsetN (freeNext { s with stb := { s.stb with chal := some c } }) R.STB_CHAL c
        rapAnswer s1 who.val .ok [1, c])

end Sys2Proof.Machine
end

