-- ==== Sys2Proof/Machine/Segs.lean ====
section
/-!
DEFINITION. Machine/Segs.lean: the segments of an image that a position takes (R41), what changes between two images (R42, R50), and the
preparation of a live swap with its scope (R42, R55).
-/

namespace Sys2Proof.Machine

/-! ### The view of a position -/

/-- The segments a position takes, with their directory indexes (R41). -/
def segView (c : Container) (pos : Nat) : List (Nat × Seg) :=
  (c.segs.zipIdx.filter (fun x => x.1.pos == none || x.1.pos == some pos)).map (fun x => (x.2, x.1))

/-- The bodies of a view. -/
def viewOf {α : Type} (f : SegBody → Option α) (v : List (Nat × Seg)) : List α := v.filterMap (fun x => f x.2.body)

/-- The register words of a view (RWI, R16). -/
def viewWords (v : List (Nat × Seg)) : List (Nat × Word) := v.flatMap (fun x => x.2.words)

/-- An NSC480 output without a counterpart (R59): a channel outside 1 to 48, a delay above 2,000 ms. -/
def frBad (o : FrOut) : Bool := decide (o.ch < 1) || decide (48 < o.ch) || decide (2000 < o.onMs) || decide (2000 < o.offMs)

/-- ROLE as R66 codes it. -/
def outRoleCode : OutRole → Nat
  | .unused => 0 | .nozzle => 1 | .row => 2 | .spout => 3 | .stall => 4 | .aux => 5

/-- An output of an NSC480 image (R59): delays of 1 ms become delays of 0.1 ms. Log 27: DEDUCED. -/
def frOutput (o : FrOut) : OutEnt :=
  { out := o.ch - 1, roleCode := outRoleCode o.role, chain := 0, link := 0, ofsX := o.ofsX, ofsY := o.ofsY, ofsZ := 0, shapeCode := 0, flags := 0
    sect := o.sect, w := o.w, d := o.d, hNom := 0, fpDx := 0, group := 0, pressCode := 255, npts := 1
    points := ⟨0, o.onMs * 10, o.offMs * 10⟩ :: List.replicate 7 ⟨0, 0, 0⟩, unit := o.unit }

/-- A section of an NSC480 image (R59) with its outputs, and the defaults of R154. Log 27: DEDUCED. -/
def frSection (os : List FrOut) (x : FrSec) : SecEnt :=
  { sect := x.sect, team := x.sect, width := x.width
    outs := (os.filter (fun o => !frBad o && o.sect == x.sect && o.role != .unused && o.role != .aux)).map (fun o => o.ch - 1)
    par := { vMin := 600, ovlOff := 50, ovlHyst := 20, avoid := true, zeroOff := true, minRun := 0, follow := false, direct := .off
             laOn := x.laOn, laOff := x.laOff } }

/-- The output table of a view; an NSC480 output without a counterpart is left to check 13 of R47 (R59). -/
def viewOuts (v : List (Nat × Seg)) : List OutEnt :=
  (viewOf (fun b => match b with | .outtab l => some l | .fr480 os _ _ => some ((os.filter (fun o => !frBad o)).map frOutput) | _ => none) v).flatten

/-- The sections of a view. -/
def viewSecs (v : List (Nat × Seg)) : List SecEnt :=
  (viewOf (fun b => match b with | .sections l => some l | .fr480 os ss _ => some (ss.map (frSection os)) | _ => none) v).flatten

/-- The chains of a view. -/
def viewChains (v : List (Nat × Seg)) : List Chain := viewOf (fun b => match b with | .chain c => some c | _ => none) v

/-- GEOM instance 0 of a view; the flag FORERUNNER sets the family (R209). -/
def viewGeom (c : Container) (v : List (Nat × Seg)) : Geom0 :=
  let g := (viewOf (fun b => match b with | .geom0 g => some g | _ => none) v).headD noGeom
  if c.fore then { g with family := .forerunner } else g

/-- The loops of a view. -/
def viewLoops (v : List (Nat × Seg)) : List LoopDef := (viewOf (fun b => match b with | .loopgrp l => some l | _ => none) v).flatten

/-- The filter programs of a view. -/
def viewFilts (v : List (Nat × Seg)) : List Filt := viewOf (fun b => match b with | .canfilt f => some f | _ => none) v

/-- The safety mirror of a view. -/
def viewMirror (v : List (Nat × Seg)) : Option Safmir := (viewOf (fun b => match b with | .safmir m => some m | _ => none) v).head?

/-- The team plan of a view, with its hash. -/
def viewPlan (c : Container) (v : List (Nat × Seg)) : TeamPlan :=
  { (viewOf (fun b => match b with | .teamplan p _ => some p | _ => none) v).headD noPlan with hash := c.planHash }

/-- The policy of a view. -/
def viewPolicy (v : List (Nat × Seg)) : StbPol := (viewOf (fun b => match b with | .stbpol p => some p | _ => none) v).headD noPolicy

/-- The configuration an image gives a position. -/
def cfgOf (c : Container) (pos : Nat) : Cfg :=
  let v := segView c pos
  { outs := viewOuts v, secs := viewSecs v, chains := viewChains v, geom0 := viewGeom c v
    pinfn := (viewOf (fun b => match b with | .pinfn p => some p | _ => none) v).headD noCfg.pinfn
    gnss := (viewOf (fun b => match b with | .gnsscfg g => some g | _ => none) v).headD noCfg.gnss
    calib := (viewOf (fun b => match b with | .calib x => some x | _ => none) v).headD noCfg.calib
    stbPol := viewPolicy v, loops := viewLoops v, filts := viewFilts v
    iso := (viewOf (fun b => match b with | .teamplan _ i => some i | _ => none) v).headD []
    plan := viewPlan c v
    secpol := (viewOf (fun b => match b with | .secpol p => some p | _ => none) v).headD noCfg.secpol
    regs := viewWords v
    pwmInit := (viewOf (fun b => match b with | .pwmcfg l => some l | _ => none) v).headD []
    fore := c.fore
    stbHash := ((v.find? (fun x => x.2.typ == 0x0B)).map (·.2.hash)).getD 0 }

/-! ### Changes -/

/-- Change class (R42): 0 LIVE, 1 MODULE, 2 TEAM. -/
def segClass (x : Seg) : Nat :=
  if x.typ = 8 then 2
  else if x.typ = 3 ∨ x.typ = 4 ∨ x.typ = 5 ∨ x.typ = 6 ∨ x.typ = 11 ∨ (x.typ = 2 ∧ x.inst ≠ 0) then 0
  else 1

/-- The segments of a new view that the old one does not hold alike, and those of the old that the new lacks (R50). A FORERUNNER image has
no LIVE segment (R59). -/
def segChanges (old new : List (Nat × Seg)) : List (Nat × Seg) :=
  let same (x y : Seg) : Bool := x.typ == y.typ && x.inst == y.inst && x.hash == y.hash
  new.filter (fun x => !old.any (fun y => same x.2 y.2))
    ++ (old.filter (fun x => !new.any (fun y => x.2.typ == y.2.typ && x.2.inst == y.2.inst))).map (fun x => (255, x.2))

/-- Class of a set of changes: the highest. -/
def changeClass (fore : Bool) (l : List (Nat × Seg)) : Nat :=
  l.foldl (fun m x => max m (max (segClass x.2) (if fore then 1 else 0))) 0

/-! ### Status -/

/-- IMG_STATUS.STATE (R60). -/
def imgState (s : State) : Nat := fget s R.IMG_STATUS F.IMG_STATUS_STATE

/-- Set it. -/
def setImgState (n : Nat) (s : State) : State := fset s R.IMG_STATUS F.IMG_STATUS_STATE n

/-- Set ERR and ERR_SEG (R47). -/
def setImgErr (code seg : Nat) (s : State) : State := fset (fset s R.IMG_STATUS F.IMG_STATUS_ERR code) R.IMG_STATUS F.IMG_STATUS_ERR_SEG seg

/-- A live swap is in progress in the team (R47 check 14). -/
def swapBusy (s : State) : Bool := s.img.sending || s.img.swapC.isSome || imgState s == 5 || imgState s == 6

/-! ### The scope of a swap -/

/-- The outputs a changed segment takes in (R42). -/
def segOuts (outs : List OutEnt) (b : SegBody) : List Nat :=
  match b with
  | .outtab l => l.map (·.out)
  | .sections l => (outs.filter (fun o => l.any (fun x => x.sect == o.sect))).map (·.out)
  | .chain c => (outs.filter (fun o => o.chain == c.inst)).map (·.out)
  | _ => []

/-- The loops a segment holds. -/
def segLoops : SegBody → List Nat
  | .loopgrp l => l.map (fun d => d.loop.val)
  | _ => []

/-- The changed segments with the old segments they replace. -/
def changedBodies (old new : List (Nat × Seg)) : List SegBody :=
  let l := (segChanges old new).map (·.2)
  l.map (·.body) ++ ((old.map (·.2)).filter (fun x => l.any (fun y => y.typ == x.typ && y.inst == x.inst))).map (·.body)

/-- The swap is prepared: C is set, and the scope is known (R42, R50, R55). Log 26: DEDUCED. -/
def prepare (C : Nat) (s : State) : State :=
  match s.img.slotPending with
  | none => s
  | some c =>
    let new := segView c (posOf s)
    let old := (s.img.active.map (fun a => segView a (posOf s))).getD []
    let l := changedBodies old new
    let outs := s.cfg.outs ++ viewOuts new
    let lo := (l.flatMap segLoops).eraseDups
    let gone := lo.filter (fun n => !(viewLoops new).any (fun d => d.loop.val == n))
    let s1 := { s with img := { s.img with
      swapC := some C, sending := false, acks := [], scope := (l.flatMap (segOuts outs)).eraseDups, loopScope := lo, loopGone := gone
      loopSwap := !lo.isEmpty } }
    rset64 (setImgState 5 s1) R.IMG_COMMIT_TB_LO R.IMG_COMMIT_TB_HI C

end Sys2Proof.Machine
end

