-- ==== Sys2Proof/Machine/PoseTime.lean ====
section
/-!
DEFINITION. Machine/PoseTime.lean: the pose and its prediction, position sources, corrections, team time and the time pulse
(R129 to R148).
-/

namespace Sys2Proof.Machine

/-! ### Prediction -/

/-- Heading in 2^−24 turn `h` half ticks after a record's boundary (R136). Log 11: DESIGN CHOICE. -/
def headAt (r : PoseRec) (h : Nat) : Int := r.psi * 256 + r.omega * h / 400000000 + r.omegaDot * (h * h) / 320000000000000000

/-- The speeds of R136 along the field's axes at the 2n + 1 points of n sub-intervals of `h` half ticks, summed with the weights of the composite
Simpson rule (R153), in units of 1/(800,000,000 n) mm/s × `sinOne`. -/
def simpson (r : PoseRec) (h n : Nat) : Int × Int :=
  (List.range (2 * n + 1)).foldl (fun acc j =>
    let w : Int := if j = 0 ∨ j = 2 * n then 1 else if j % 2 = 1 then 4 else 2
    let cs := cosSin (headAt r (j * h / (2 * n)))
    let v := r.v * 400000000 * (2 * n) + r.a * (j * h)
    let u := r.vy * 400000000 * (2 * n)
    (acc.1 + w * (v * cs.1 - u * cs.2), acc.2 + w * (v * cs.2 + u * cs.1))) (0, 0)

/-- MRP in fine units `h` half ticks after a record's boundary (R136, R153): where the heading does not change the exact displacement turned by it,
otherwise composite Simpson over the fewest equal sub-intervals of at most 20 ms. Log 11: DESIGN CHOICE. -/
def mrpAt (r : PoseRec) (h : Nat) : Int × Int :=
  if r.omega = 0 ∧ r.omegaDot = 0 then
    let d := rot24 (r.psi * 256) (r.v * h * 800000000 + r.a * (h * h)) (r.vy * h * 800000000)
    (r.x * fu + d.1, r.y * fu + d.2)
  else
    let n := (h + 7999999) / 8000000
    let q := simpson r h n
    let den : Int := 800000000 * n * sinOne * (2400000000 * n)
    if h = 0 then (r.x * fu, r.y * fu) else (r.x * fu + divOpen (q.1 * h * fu) den, r.y * fu + divOpen (q.2 * h * fu) den)

/-- MRP of a record `n` ticks after its boundary, in µm, with its heading in 2^−24 turn (R136). -/
def predict (r : PoseRec) (n : Nat) : Int × Int × Int :=
  let q := mrpAt r (2 * n)
  (divOpen q.1 (fu / 1000), divOpen q.2 (fu / 1000), headAt r (2 * n))

/-- MRP speed along machine x `n` ticks after the record's boundary, in units of 1/200,000,000 mm/s (R136). -/
def speedAt (r : PoseRec) (n : Nat) : Int := r.v * 200000000 + r.a * n

/-! ### Position sources -/

/-- This module holds the pose solver role (R342). -/
def poseRole (s : State) : Bool := fbit s R.TLK_STATUS F.TLK_STATUS_POSE_ROLE && domOn s 2

/-- This module holds the time master role (R342). -/
def timeRole (s : State) : Bool := fbit s R.TLK_STATUS F.TLK_STATUS_TIME_ROLE

/-- The leader this module knows. -/
def leaderOf (s : State) : Option Nat :=
  if fbit s R.TLK_STATUS F.TLK_STATUS_LEADER_VALID then some (fget s R.TLK_STATUS F.TLK_STATUS_LEADER) else none

/-- The pose solver's own sources take part: not in PLATFORM and ALLEY (R219, R222). -/
def solverFamily (s : State) : Bool := s.cfg.geom0.family != .platform && s.cfg.geom0.family != .alley

/-- SPOOF state in force (R126). -/
def inSpoof (s : State) : Bool := fbit s R.GNS_STATUS F.GNS_STATUS_SPOOF

/-- A new sample of a position source: the two newest stay. -/
def srcPush (x : SrcSt) (l : List SrcSt) : List SrcSt := (x :: l).take 2

/-- A position source is valid at a cut-off (R130, R135): accuracy and age of its newest sample stamped before it, and for TEAM_GNSS a
solution. -/
def srcGood (s : State) (cut : Nat) (l : List SrcSt) (maxAge : Nat) : Bool :=
  match l.find? (fun x => decide (x.tb < cut)) with
  | some r => r.ok && decide (r.acc ≤ fget s R.POS_CFG F.POS_CFG_ACC_MAX * 10) && decide (s.tb ≤ r.tb + maxAge)
  | none => false

/-- TEAM_GNSS is valid (R130): no SPOOF is in force. Log 33: DEDUCED. -/
def gnssGood (s : State) (cut : Nat) : Bool := srcGood s cut s.pos.gnss (3 * epochTicks s) && !inSpoof s

/-- EXTERNAL is valid (R130). -/
def extGood (s : State) (cut : Nat) : Bool := srcGood s cut s.pos.ext (msTicks 300)

/-- The first valid source in the order of SRC_ORDER: 1 TEAM_GNSS, 2 EXTERNAL; 0 none (R130). -/
def pickSource (s : State) (cut : Nat) : Nat :=
  let order : List (Nat × Bool) := [(1, gnssGood s cut), (2, extGood s cut)]
  (((if fbit s R.POS_CFG F.POS_CFG_SRC_ORDER then order.reverse else order).find? (·.2)).map (·.1)).getD 0

/-- DR_LIMIT in ticks. -/
def drLimit (s : State) : Nat := fget s R.POS_CFG F.POS_CFG_DR_LIMIT * secTicks

/-- The solver selects its source by the samples stamped before a cut-off: with none valid it dead-reckons from the source it had. At a change
with more than 50 mm between the two positions the difference is blended out (R130, R132, R135). Log 33: DEDUCED. -/
def chooseSource (cut : Nat) (jx jy : Int) (s : State) : State :=
  let p := pickSource s cut
  let src := if p ≠ 0 then p else if s.pos.source = 0 then 0 else 3
  let dr := if src = 3 then (if s.pos.source = 3 then s.pos.drSince else some s.tb) else none
  if src = s.pos.source then { s with pos := { s.pos with drSince := dr } }
  else
    let d2 := if s.pos.source = 0 then 0 else (jx * jx + jy * jy).toNat
    let um := Nat.sqrt (d2 * 1000000)
    let s1 := { s with pos := { s.pos with source := src, drSince := dr } }
    raise (if 2500 < d2 then { s1 with pos := { s1.pos with blendUm := um, blendV := (jx, jy, um) } } else s1)
      Ev.SOURCE_CHANGE [s.pos.source, src, Nat.sqrt d2]

/-- The pose of the solver's source is valid (R131). -/
def sourceValid (s : State) : Bool :=
  match s.pos.source with
  | 1 => true
  | 2 => true
  | 3 => (match s.pos.drSince with | some t => decide (s.tb < t + drLimit s) | none => false)
  | _ => false

/-- The TT state of R141. -/
def ttState (s : State) : Nat := fget s R.POS_TT_STATUS F.POS_TT_STATUS_TT_STATE

/-- Set the TT state. -/
def setTt (n : Nat) (s : State) : State := fset s R.POS_TT_STATUS F.POS_TT_STATUS_TT_STATE n

/-- The TT state as the time master has told it (R141): HOLDOVER and what follows it are counted from the first word of it. Log 33: DEDUCED. -/
def ttSee (n : Nat) (s : State) : State :=
  setTt n { s with pos := { s.pos with holdAt := if n = 2 ∨ n = 3 then some (s.pos.holdAt.getD s.tb) else none } }

/-- The TT_OFS in force at a boundary (R140, R146): the last named up to it. -/
def ofsAt (s : State) (B : Nat) : Int := ((s.pos.ofsNamed.filter (fun x => decide (x.1 ≤ B))).getLast?.map (·.2)).getD (ttOfsI s)

/-- Corrections older than CORR_AGE_MAX are not used (R134). -/
def corrUsable (s : State) : Bool :=
  match s.pos.corrSt with
  | some (_, ep) => decide (s.tb ≤ ep + fget s R.POS_CFG F.POS_CFG_CORR_AGE_MAX * secTicks)
  | none => false

/-- An SBAS satellite is tracked by an antenna of the team (R112, R134). -/
def sbasOn (s : State) : Bool := s.gns.recs.any (fun r => r.ents.any (fun e => e.sat.1 == 4 && e.state == 4))

/-- FIX of a TEAM_GNSS position (R134, R135): without usable corrections SBAS where available, else single. -/
def fixOf (s : State) (fix : Nat) : Nat :=
  if s.pos.source = 1 ∧ corrUsable s = false then min fix (if sbasOn s then 2 else 1) else fix

/-- A lever arm's point in the machine frame, by the joints of the snapshot where it is attached to a link (R62). -/
def leverPoint (s : State) (v : Lever) : P3 := if v.chain = 0 then (v.x, v.y, v.z) else toMachine s v.chain 8 v.link (v.x, v.y, v.z)

/-- The antenna of a module, as the image in force gives its position (R62). -/
def antennaOf (s : State) (m : Nat) : Lever :=
  match s.img.active with
  | some c => (viewGeom c (segView c (m / 2))).antenna
  | none => s.cfg.geom0.antenna

/-- The MRP from the position of a point of the machine (R61, R62, R129). -/
def mrpFrom (s : State) (f : Fused) : P3 :=
  match f.point with
  | .mrp => (f.x, f.y, f.z)
  | p =>
    let v := match p with | .antenna m => antennaOf s m.val | _ => s.cfg.geom0.ext
    let d := toField (0, 0, 0) f.psi f.pitch f.roll (leverPoint s v)
    (f.x - d.1, f.y - d.2.1, f.z - d.2.2)

/-- A record's fields in their widths (R10, R11, R135): angles wrap; of another value that does not fit, the bits are open. Log 10: DESIGN CHOICE. -/
def recFit (r : PoseRec) : PoseRec :=
  let w (v : Int) : Int := sext 32 (fitS 32 v)
  { r with
    x := w r.x, y := w r.y, z := w r.z, v := w r.v, vy := w r.vy, a := w r.a, psi := r.psi % 65536, pitch := sext 16 (bitsOf 16 r.pitch)
    roll := sext 16 (bitsOf 16 r.roll), omega := w r.omega, omegaDot := w r.omegaDot, h95 := min r.h95 65535, head95 := fitU 16 r.head95 }

/-- The record the role holder publishes for a boundary (R135), with the difference that is still to be blended out (R132). -/
def buildRecord (f : Fused) (B : Nat) (s : State) : PoseRec :=
  let p := mrpFrom s f
  let b := s.pos.blendV
  let left (j : Int) : Int := if s.pos.blendUm = 0 then 0 else divOpen (j * s.pos.blendUm) b.2.2
  recFit
    { b := B, x := p.1 + left b.1, y := p.2.1 + left b.2.1, z := p.2.2, v := f.v, vy := f.vy, a := f.a, psi := f.psi, pitch := f.pitch
      roll := f.roll, omega := f.omega, omegaDot := f.omegaDot, h95 := f.h95, head95 := f.head95, source := s.pos.source, fix := fixOf s f.fix
      valid := sourceValid s, blend := decide (0 < s.pos.blendUm), stale := false, spoof := inSpoof s, ttSt := ttState s, ttOfs := ofsAt s B }

/-- Keep the first record received for a boundary (R137). -/
def keepRecord (r : PoseRec) (s : State) : State :=
  if s.pos.next.any (fun x => x.b == r.b) then s else { s with pos := { s.pos with next := s.pos.next ++ [recFit r] } }

/-- Numbers of a record for a message. -/
def recordArgs (r : PoseRec) : List Int :=
  [r.b, r.x, r.y, r.z, r.v, r.vy, r.a, r.psi, r.pitch, r.roll, r.omega, r.omegaDot, r.h95, r.head95, r.source, r.fix,
    (b2n r.valid + 2 * b2n r.blend + 4 * b2n r.stale + 8 * b2n r.spoof + 16 * b2n r.ttValid : Nat), r.ttOfs, r.ttSt]

/-- POSE_RECORD_PUBLISH (R135): the record for the next boundary, once, from samples stamped before the boundary 40,000 ticks ahead of it. -/
def execPoseRecordPublish (f : Fused) (s : State) : Out :=
  .next (
    let B := nextBoundary s.tb
    if poseRole s = false ∨ solverFamily s = false ∨ s.pos.next.any (fun x => x.b == B) then s
    else
      let s1 := chooseSource (B - cycleTicks) f.jumpX f.jumpY s
      let r := buildRecord f B s1
      keepRecord r (toTeam s1 MsgKind.POSE_RECORD (recordArgs r)))

/-- The pose ceases to be valid: POSE_INVALID once, and the level falls (R131, R137, R7). -/
def poseLost (s : State) : State :=
  let s1 := fsetb s R.POS_STATUS F.POS_STATUS_VALID false
  if s.pos.invalid then levelDrop s1
  else levelDrop (fault { s1 with pos := { s1.pos with invalid := true } } Ev.POSE_INVALID [s.tb])

/-- A record that arrives after its boundary is discarded (R137). SPOOF reaches the members with the record. -/
def execPoseRecord (r : PoseRec) (s : State) : Out :=
  .next (if r.b ≤ s.str.cycle then fault s Ev.POSE_STALE [r.b] else keepRecord r s)

/-- DR_LIMIT_EXPIRY (R131). -/
def execDrLimitExpiry (s : State) : Out :=
  .next (match s.pos.source, s.pos.drSince with
    | 3, some t => if t + drLimit s ≤ s.tb ∧ poseRole s then poseLost s else s
    | _, _ => s)

/-- POS_STATUS and POS_ACC show the record in force. -/
def showRecord (r : PoseRec) (s : State) : State :=
  let a := R.POS_STATUS
  let s1 := fset (fset s a F.POS_STATUS_SOURCE r.source) a F.POS_STATUS_FIX r.fix
  let s2 := fsetb (fsetb (fsetb (fsetb s1 a F.POS_STATUS_VALID r.valid) a F.POS_STATUS_BLEND r.blend) a F.POS_STATUS_STALE r.stale)
    a F.POS_STATUS_SPOOF_HOLD r.spoof
  rsetN s2 R.POS_ACC (r.h95 % 65536 + r.head95 % 65536 * 65536)

/-- Every module but the time master holds the TT state and the TT_OFS of the record in force, unless an offset named for its boundary is still
to be applied (R140, R141). Log 33: DEDUCED. -/
def ttFollow (r : PoseRec) (s : State) : State :=
  if timeRole s ∨ r.stale ∨ r.source = 4 then s
  else
    let s1 := if s.pos.ofsNamed.any (fun x => decide (x.1 ≤ r.b)) then s else rset64 s R.POS_TT_OFS_LO R.POS_TT_OFS_HI (bitsOf 64 r.ttOfs)
    ttSee r.ttSt s1

/-- A record comes into force. Log 33: DEDUCED. -/
def takeRecord (r : PoseRec) (s0 : State) : State :=
  let s := ttFollow r s0
  let was := fbit s R.POS_STATUS F.POS_STATUS_STALE
  let s1 := showRecord r { s with pos := { s.pos with prev := s.pos.cur, cur := some r, missing := 0 } }
  let s2 := if was ∧ r.stale = false then faultEnd s1 Ev.POSE_STALE [r.b] else s1
  if r.valid then
    (if s2.pos.invalid then faultEnd { s2 with pos := { s2.pos with invalid := false } } Ev.POSE_INVALID [r.b] else s2)
  else if s2.pos.invalid then s2 else poseLost s2

/-- The record built from the platform track (R219). -/
def platRecord (B : Nat) (s : State) : PoseRec :=
  { b := B, x := 0, y := 0, z := 0, v := 0, vy := 0, a := 0, psi := 0, pitch := 0, roll := 0, omega := 0, omegaDot := 0, h95 := 0,
    head95 := 0, source := 4, fix := 0, valid := fbit s R.STR_PLAT_POS F.STR_PLAT_POS_VALID, blend := false, stale := false,
    spoof := false, ttSt := ttState s, ttOfs := ttOfsI s }

/-- The record built from the alley track (R222). -/
def alleyRecord (B : Nat) (s : State) : PoseRec :=
  let g := s.cfg.geom0
  let d := rot2 g.psiA (alleyQ16 s (snapCount s g.odo)) 0
  let v := divOpen (sext 32 (rget s (R.FBI_VEL g.odo)).toNat * scaleUse s) (16 * 65536)
  { platRecord B s with
    x := g.xa + divOpen d.1 65536, y := g.ya + divOpen d.2 65536, v := if s.str.orient then -v else v
    psi := if s.str.orient then (g.psiA + 32768) % 65536 else g.psiA
    valid := fbit s R.STR_ALLEY_STAT F.STR_ALLEY_STAT_VALID }

/-- The pose at a boundary: the track of the family, the record received for B, or the record before it marked STALE; at the 10th
missing record the pose is invalid (R137). Log 33: DEDUCED. Log 76: DESIGN CHOICE. -/
def poseBoundary (B : Nat) (s : State) : State :=
  match s.cfg.geom0.family with
  | .platform => takeRecord (platRecord B (platBoundary s)) (platBoundary s)
  | .alley => takeRecord (alleyRecord B (alleyBoundary s)) (alleyBoundary s)
  | _ =>
    let mine := s.pos.next.find? (fun r => r.b == B)
    let s1 := { s with pos := { s.pos with next := s.pos.next.filter (fun r => decide (B < r.b)), blendUm := s.pos.blendUm - 40 } }
    match mine with
    | some r => takeRecord r s1
    | none =>
      let late := s1.pos.cur.map (fun r => { r with stale := true })
      let s2 := { s1 with pos := { s1.pos with missing := s1.pos.missing + 1, prev := s1.pos.cur, cur := late } }
      let s3 := if fbit s R.POS_STATUS F.POS_STATUS_STALE ∨ s.pos.cur = none then s2
        else fault (fsetb s2 R.POS_STATUS F.POS_STATUS_STALE true) Ev.POSE_STALE [B]
      if s3.pos.missing = 10 then poseLost s3 else s3

/-- INS_SAMPLE (R35, R129): a frame whose CRC fails is discarded and counted. -/
def execInsSample (crcOk : Bool) (s : State) : Out :=
  .next (if domOn s 11 = false then s
    else if crcOk then
      whenB s.pos.insSilent (fun s => faultEnd { s with pos := { s.pos with insSilent := false } } Ev.INERTIAL_FAULT [])
        { s with pos := { s.pos with insTb := some s.tb } }
    else fault { s with pos := { s.pos with insBad := s.pos.insBad + 1 } } Ev.INERTIAL_CRC [s.pos.insBad + 1])

/-- INERTIAL_SILENCE (R456): no sample for 100 ms. -/
def execInertialSilence (s : State) : Out :=
  .next (match s.pos.insTb with
    | some t => if t + msTicks 100 ≤ s.tb ∧ s.pos.insSilent = false then
        faultCls { s with pos := { s.pos with insSilent := true } } Ev.INERTIAL_FAULT [] 1 else s
    | none => s)

/-- SPEED_MESSAGE (R129): the ISO 11783 ground-based speed on the controller of the image. -/
def execSpeedMessage (ctrl : Fin 4) (v : Int) (ok : Bool) (s0 : State) : Out :=
  .next (
    let s := canTake ctrl.val 4 s0
    if s.cfg.gnss.speed = .iso ∧ ctrl.val = s.cfg.gnss.poseCan ∧ ok then { s with pos := { s.pos with speed := some (v, s.tb) } }
    else s)

/-! ### Corrections -/

/-- RTCM messages the solver accepts (R133). -/
def rtcmTypes : List Nat := [1005, 1006, 1074, 1077, 1094, 1097, 1114, 1117, 1124, 1127]

/-- Every carrier-phase ambiguity is dropped, and its resolution starts again (R134). -/
def ambDrop (s : State) : State :=
  { forEach s.pos.ratioRun (fun x s => fsetb s (R.POS_SHAPE x.1) F.POS_SHAPE_FIXED false) s with pos := { s.pos with ratioRun := [] } }

/-- The holder takes a correction message: the path that delivered the newer epoch of the station is used; a change of station
drops every ambiguity (R133, R134). -/
def takeCorr (eth : Bool) (station epoch : Nat) (s : State) : State :=
  let s1 := fincWrap s R.POS_CORR F.POS_CORR_MSG_CNT
  let use (s : State) : State :=
    let s2 := fset s R.POS_CORR F.POS_CORR_STATION station
    fsetb (fsetb { s2 with pos := { s2.pos with corrSt := some (station, epoch) } } R.POS_CORR F.POS_CORR_VIA_ETH eth)
      R.POS_CORR F.POS_CORR_VIA_CAN (!eth)
  match s.pos.corrSt with
  | none => use s1
  | some (st, ep) => if st ≠ station then use (ambDrop s1) else if ep < epoch then use s1 else s1

/-- The module at the position of the pose solver (R342). -/
def poseHolder (s : State) : Nat :=
  (((s.team.roles.find? (fun x => x.1 == 0)).bind (fun r => s.team.members.find? (fun m => m / 2 == r.2)))).getD 255

/-- A correction message, whatever its path (R133). -/
def corrIn (eth : Bool) (typ station epoch : Nat) (crcOk : Bool) (s : State) : State :=
  if crcOk ∧ typ = 1230 then s
  else if crcOk = false ∨ typ ∉ rtcmTypes then { s with pos := { s.pos with corrDrop := s.pos.corrDrop + 1 } }
  else if poseRole s then takeCorr eth station epoch s
  else send s MsgKind.RTCM (poseHolder s) [typ, station, epoch, b2n eth]

/-- RTCM_MESSAGE (R133): accepted, discarded and counted, or forwarded to the role holder over TC1. A TLS session whose role may not deliver
corrections is refused (R390); what comes on no open TLS session is no message. -/
def execRtcmMessage (path : CorrPath) (typ station epoch : Nat) (crcOk : Bool) (s0 : State) : Out :=
  .next (
    let s := match path with | .can c => canTake c.val 2 s0 | _ => s0
    let eth := match path with | .session _ => true | .can _ => false | .forward e => e
    let role : Option (Option Role) := match path with | .session k => some (if k.val < 4 then sessRole s k.val else none) | _ => none
    match role with
    | some none => s
    | some (some r) => if mayAct .rtcm r = false then writeDenied s r 0 else corrIn eth typ station epoch crcOk s
    | none => corrIn eth typ station epoch crcOk s)

/-! ### Team time -/

/-- A TT_OFS named for a boundary, in the order of the boundaries; the newer of two for one boundary (R140). -/
def ofsAdd (ofs : Int) (B : Nat) (s : State) : State := { s with pos := { s.pos with ofsNamed := smIns B ofs s.pos.ofsNamed } }

/-- The time master names a new TT_OFS for a boundary and tells the team, with the TT state (R140, R141). -/
def nameOfs (ofs : Int) (B : Nat) (s : State) : State := toTeam (ofsAdd ofs B s) MsgKind.TT_OFS [ofs, B, ttState s]

/-- The time master's TT state changes, and the team is told it with the TT_OFS of the next boundary (R141). Log 33: DEDUCED. -/
def tellTt (n : Nat) (s : State) : State :=
  let B := nextBoundary s.tb
  toTeam (setTt n s) MsgKind.TT_OFS [ofsAt s B, B, n]

/-- TT_OFS_ANNOUNCE (R140, R141): the time master's word. -/
def execTtOfsAnnounce (ofs : Int) (b st : Nat) (s : State) : Out :=
  .next (if timeRole s then s else ttSee (st % 5) (ofsAdd ofs b s))

/-- A TT_OFS takes effect (R140): a change of 1 µs or more is a step, with TIME_STEP and its TIME_SET record (R145). -/
def applyOfs (new : Int) (s : State) : State :=
  let old := ttOfsI s
  let s1 := rset64 s R.POS_TT_OFS_LO R.POS_TT_OFS_HI (bitsOf 64 new)
  if (new - old).natAbs < 6400 then s1
  else raise (fincSat (fsetb s1 R.POS_TT_STATUS F.POS_TT_STATUS_TIME_STEP true) R.POS_TT_STATUS F.POS_TT_STATUS_STEP_CNT)
    Ev.TIME_SET [old, new]

/-- TT_OFS_APPLY (R140, R15): the offsets named for boundaries that have come, in the order of their boundaries. -/
def execTtOfsApply (s : State) : Out :=
  .next (forEach (s.pos.ofsNamed.filter (fun x => decide (x.1 ≤ s.tb))) (fun x s => applyOfs x.2 s)
    { s with pos := { s.pos with ofsNamed := s.pos.ofsNamed.filter (fun x => decide (s.tb < x.1)) } })

/-- A step that has been named and is not yet in force is taken back (R146): its boundary keeps the present TT_OFS. Log 33: DEDUCED. -/
def stepVoid (s : State) : State :=
  forEach (s.pos.ofsNamed.filter (fun x => decide (6400 ≤ (x.2 - ttOfsI s).natAbs))) (fun x s => nameOfs (ttOfsI s) x.1 s)
    { s with pos := { s.pos with stepPend := none } }

/-- TT enters HOLDOVER on the time master (R141, R146): a pending step is voided. Log 33: DEDUCED. -/
def ttHoldover (s : State) : State :=
  if timeRole s = false then s
  else
    let s1 := stepVoid { s with pos := { s.pos with validEp := 0 } }
    if ttState s = 1 then tellTt 2 { s1 with pos := { s1.pos with holdAt := some s.tb } } else s1

/-- The time pulse is being emitted (R142). -/
def tpoOn (s : State) : Bool :=
  fbit s R.POS_TPO_CFG F.POS_TPO_CFG_EN && ttState s != 0
    && !(ttState s == 3 && fbit s R.POS_CFG F.POS_CFG_HOLD_POLICY)

/-- TT is LOCKED; a phase error of 1 µs or more steps, a smaller one slews (R141, R145). With no pulse to wait for, the step is named
at once. -/
def ttLock (err : Int) (s : State) : State :=
  let s1 := tellTt 1 { s with pos := { s.pos with holdAt := none } }
  if err.natAbs < 6400 then
    if err.natAbs < 32 then s1
    else fsetb { s1 with pos := { s1.pos with slew := some err, slewAt := s.tb } } R.POS_TT_STATUS F.POS_TT_STATUS_SLEWING true
  else
    let s2 := fsetb { s1 with pos := { s1.pos with slew := none } } R.POS_TT_STATUS F.POS_TT_STATUS_SLEWING false
    if tpoOn s then { s2 with pos := { s2.pos with stepPend := some err } } else nameOfs (ttOfsI s + err) (nextBoundary s.tb) s2

/-- The TEAM_GNSS solution of an epoch on the time master (R141, R145): none formed, or formed with GNSS time minus TT. -/
def ttEpoch (ep : Nat) (sol : Option Int) (s : State) : State :=
  match sol with
  | none => ttHoldover s
  | some err =>
    let n := if s.pos.solAt = some (ep - epochTicks s) then s.pos.validEp + 1 else 1
    let s1 := { s with pos := { s.pos with validEp := n, solAt := some ep } }
    if 10 ≤ n ∧ ttState s ≠ 1 then ttLock err s1 else s1

/-- An epoch has passed without a TEAM_GNSS solution (R141): nothing has come for it by the next epoch. Log 33: DEDUCED. -/
def ttMissed (B : Nat) (s : State) : State :=
  match s.pos.solAt with
  | some e => if ttState s = 1 ∧ e + 2 * epochTicks s ≤ B then ttHoldover s else s
  | none => s

/-- One boundary of a slew (R145): one unit for each 312,500 ticks is 100 ns/s. Log 33: DEDUCED. -/
def slewBoundary (B : Nat) (s : State) : State :=
  match s.pos.slew with
  | none => s
  | some e =>
    if timeRole s = false ∨ e.natAbs < 32 ∨ B < s.pos.slewAt + 312500 then s
    else
      let d : Int := if e < 0 then -1 else 1
      let last := (s.pos.ofsNamed.getLast?.map (·.2)).getD (ttOfsI s)
      nameOfs (last + d) (B + cycleTicks) { s with pos := { s.pos with slew := some (e - d), slewAt := s.pos.slewAt + 312500 } }

/-- SLEW_END (R145): the error is below 5 ns. -/
def execSlewEnd (s : State) : Out :=
  .next (match s.pos.slew with
    | some e => if e.natAbs < 32 then
        fsetb { s with pos := { s.pos with slew := none } } R.POS_TT_STATUS F.POS_TT_STATUS_SLEWING false else s
    | none => s)

/-- HOLDOVER_LIMIT (R141, R144): HOLDOVER has lasted HOLD_S. -/
def execHoldoverLimit (s : State) : Out :=
  .next (match s.pos.holdAt with
    | some t => if ttState s = 2 ∧ t + fget s R.POS_HOLD F.POS_HOLD_HOLD_S * secTicks ≤ s.tb then
        (if timeRole s then tellTt 3 s else setTt 3 s) else s
    | none => s)

/-- EXTERNAL sets TT (R141): with no own GNSS, once by step after INVALID, then only when the difference exceeds 10 ms. Log 33: DEDUCED. -/
def extTime (ofs : Int) (s : State) : State :=
  if timeRole s = false ∨ gnssGood s (s.tb + 1) then s
  else if ttState s = 0 then
    nameOfs ofs (nextBoundary s.tb) (setTt 4 { s with pos := { s.pos with extSet := true } })
  else if ttState s = 4 ∧ 64000000 < (ofs - ttOfsI s).natAbs then nameOfs ofs (nextBoundary s.tb) s
  else s

/-- EXTERNAL_POSE_PGN (R129, R130, R141): a position stamped with the TB of its CAN receive minus EXT_LAT. -/
def execExternalPosePgn (ctrl : Fin 4) (pgn acc : Nat) (ok : Bool) (tt : Option Int) (s0 : State) : Out :=
  .next (
    let s := canTake ctrl.val 3 s0
    if ctrl.val ≠ s.cfg.gnss.poseCan ∨ (pgn ≠ 129025 ∧ pgn ≠ 129026 ∧ pgn ≠ 129029) then s
    else
      let at_ := canStamp ctrl.val 3 s0 - msTicks s.cfg.geom0.extLat
      let s1 := if pgn = 129026 then s else { s with pos := { s.pos with ext := srcPush ⟨at_, acc, ok⟩ s.pos.ext } }
      match pgn, tt with
      | 129029, some t => extTime t s1
      | _, _ => s1)

/-! ### Time pulse -/

/-- The instant of the pulse for TT second S in 1/32 tick of TB: TT equals S × 6,400,000,000 − CABLE_DELAY (R142). -/
def pulseAt (s : State) (sec : Nat) : Int := sec * 6400000000 - sext 23 (fget s R.POS_TPO_CFG F.POS_TPO_CFG_CABLE_DELAY) - ttOfsI s

/-- That instant falls within this tick. -/
def pulseDue (s : State) (sec : Nat) : Bool := decide ((s.tb : Int) * 32 ≤ pulseAt s sec ∧ pulseAt s sec < ((s.tb : Int) + 1) * 32)

/-- A pulse for a second is never emitted twice, nor less than 0.5 s after the previous one (R143). -/
def pulseAllowed (s : State) (sec : Nat) : Bool :=
  (match s.pos.lastS with | some l => decide (l < sec) | none => true) &&
  (match s.pos.lastPulse with | some t => decide (t + 100000000 ≤ s.tb) | none => true)

/-- TPO_PULSE (R142, R143, R145): the leading edge; a step that waits for it is named for the boundary after it. -/
def execTpoPulse (sec : Nat) (s : State) : Out :=
  .next (if tpoOn s = false ∨ pulseDue s sec = false ∨ pulseAllowed s sec = false then s
    else
      let sub := (pulseAt s sec % 32).toNat
      let s1 := send { s with pos := { s.pos with tpo := true, tpoSub := sub, lastS := some sec, lastPulse := some s.tb } } MsgKind.TPO 0 [sec, sub]
      match s.pos.stepPend with
      | some e => nameOfs (ttOfsI s + e) (nextBoundary s.tb) { s1 with pos := { s1.pos with stepPend := none } }
      | none => s1)

/-- TPO_PULSE_END (R142): WIDTH in units of 10 ms. -/
def execTpoPulseEnd (s : State) : Out :=
  .next (match s.pos.lastPulse with
    | some t => if t + fget s R.POS_TPO_CFG F.POS_TPO_CFG_WIDTH * msTicks 10 ≤ s.tb then { s with pos := { s.pos with tpo := false } } else s
    | none => s)

/-- The level of pin TPO (R142): POL sets the active level. -/
def tpoPin (s : State) : Bool := s.pos.tpo != fbit s R.POS_TPO_CFG F.POS_TPO_CFG_POL

/-- Estimated time error in ns (R144): 20 ns in LOCKED; from HOLDOVER on 0.025 ppm of the time since it began. Log 9: DESIGN CHOICE. Log 33: DEDUCED. -/
def ttErr (s : State) : Nat :=
  match ttState s, s.pos.holdAt with
  | 0, _ => 2 ^ 32 - 1
  | 4, _ => 2000000
  | 1, _ => 20
  | _, some t => 20 + (divOpen (s.tb - t) 8000000).toNat
  | _, none => 20

end Sys2Proof.Machine
end

