-- ==== Sys2Proof/Machine/Gnss.lean ====
section
/-!
DEFINITION. Machine/Gnss.lean: GNSS baseband of the NSC960-G (R106 to R128): antenna bias, acquisition, tracking channels, the epoch
strobe and its record, availability and fall-back, interference, integrity checks and the spoofing state.
-/

namespace Sys2Proof.Machine

/-! ### Signals -/

/-- The satellites the baseband acquires and tracks (R108). -/
def satOk (x : Sat) : Bool :=
  match x.1 with
  | 0 => decide (1 ≤ x.2 ∧ x.2 ≤ 32)
  | 1 => decide (1 ≤ x.2 ∧ x.2 ≤ 36)
  | 2 => decide (1 ≤ x.2 ∧ x.2 ≤ 63)
  | 3 => decide (193 ≤ x.2 ∧ x.2 ≤ 202)
  | 4 => decide (120 ≤ x.2 ∧ x.2 ≤ 158)
  | _ => false

/-- PRNs of a system (R108). -/
def sysPrns (sys : Nat) : Nat :=
  match sys with
  | 0 => 32
  | 1 => 36
  | 2 => 63
  | 3 => 10
  | _ => 39

/-- Signal of a satellite for its tracking parameters (R117): a BeiDou satellite that sends D2 is in geostationary orbit (R108). Log 34: PRESUMED,
the PRNs 1 to 5 and 59 to 63. Log 71: PRESUMED. -/
def sigOf (x : Sat) : Nat :=
  if x.1 = 1 then 1 else if x.1 = 2 then (if x.2 ≤ 5 ∨ 59 ≤ x.2 then 3 else 2) else 0

/-- Coherent time of a signal in ms: the image's or the default (R117). -/
def cohMs (s : State) (sig : Nat) : Nat :=
  ((s.cfg.gnss.sigs.find? (fun x => x.sig == sig)).bind (·.coh)).getD (match sig with | 1 => 20 | 3 => 2 | _ => 10)

/-- Coherent time of a channel in ticks (R117): before the bit, NH or secondary-code sync the shortest; D2 needs none. -/
def cohTicks (s : State) (c : Chan) : Nat :=
  let sig := sigOf c.sat
  msTicks (if c.sync ∨ sig = 3 then cohMs s sig else if sig = 1 then 4 else 1)

/-! ### Channels -/

/-- A channel that is not allocated. -/
def chanIdle : Nat → Chan := fun _ =>
  { state := 0, sat := (0, 0), elev := 0, since := 0, okFrom := none, low := 0, cn0 := 0, weak := none, lockAt := none, slip := false,
    swapped := false, sync := false, tow := false, half := false, symHi := none, symLo := none, symEx := false, dumpAt := 0 }

/-- What the module holds of a tracking channel. -/
def chan (s : State) (n : Nat) : Chan := smGet chanIdle s.gns.chans n

/-- A satellite is EXCLUDED on this module's antenna (R125). -/
def ownExcl (s : State) (c : Chan) : Bool :=
  c.symEx || s.gns.excl.any (fun e => e.sat == c.sat && (e.ant.isNone || e.ant == some (midOf s)))

/-- GNS_CHn of a channel (R128). -/
def chanReg (n : Nat) (s : State) : State :=
  let c := chan s n
  let a := R.GNS_CH n
  let s2 := fset (fset (fset s a F.GNS_CH_STATE c.state) a F.GNS_CH_SYS c.sat.1) a F.GNS_CH_SVID c.sat.2
  let s3 := fset s2 a F.GNS_CH_CN0 (min 1023 (c.cn0 / 10))
  let s4 := fsetb (fsetb s3 a F.GNS_CH_PHASE_LOCK (decide (3 ≤ c.state))) a F.GNS_CH_EXCLUDED (ownExcl s c)
  fsetb (fsetb s4 a F.GNS_CH_SUSPECT (c.state != 0 && fbit s R.GNS_STATUS F.GNS_STATUS_SUSPECT)) a F.GNS_CH_HALF_CYC c.half

/-- Record a channel, with its register. -/
def setChan (n : Nat) (c : Chan) (s : State) : State := chanReg n { s with gns := { s.gns with chans := smSet chanIdle n c s.gns.chans } }

/-- The registers of the channels in use follow what is excluded or SUSPECT (R128). -/
def chanShow (s : State) : State := forEach s.gns.chans (fun x s => chanReg x.1 s) s

/-! ### Searches -/

/-- The main system (R110). -/
def mainSys (s : State) : Nat := fget s R.GNS_CFG F.GNS_CFG_MAIN_SYS

/-- QZSS satellites count as GPS satellites (R108). -/
def isMain (s : State) (sys : Nat) : Bool := sys == mainSys s || (sys == 3 && mainSys s == 0)

/-- Tiles of a search unit (R113, R114): 2,048 code cells to a tile; a team-aided window has 129 cells. -/
def searchTiles (kind sys : Nat) : Nat :=
  let cells := if kind = 0 then 129 else match sys with | 1 => 8184 | 2 => 4092 | _ => 2046
  (cells + 2047) / 2048

/-- Doppler bins of a search (R113 to R115): twice the uncertainty over the bin, rounded up, and one. -/
def searchBins (kind sys : Nat) : Nat :=
  let unc := match kind with | 0 => 100 | 1 => 1000 | _ => 5000
  let bin := if sys = 1 then 125 else 500
  (2 * unc + bin - 1) / bin + 1

/-- Dwell of a signal in ticks (R113). -/
def dwellTicks (sys : Nat) : Nat := msTicks (if sys = 1 then 20 else 10)

/-- Tile dwells of a search (R115). -/
def searchWork (kind : Nat) (x : Sat) : Nat := (if x.2 = 0 then sysPrns x.1 else 1) * searchBins kind x.1 * searchTiles kind x.1

/-- A search covers a satellite. -/
def Search.covers (q : Search) (x : Sat) : Bool := q.sat == x || (q.sat.2 == 0 && q.sat.1 == x.1)

/-- A search is pending: PD3 is powered (R114). -/
def searchOn (s : State) : State := domSet (fsetb s R.GNS_ACQ F.GNS_ACQ_SEARCHING true) 3 true

/-- A search joins those pending, the main system's first, unless one of them covers it (R114). -/
def addSearch (x : Sat) (kind : Nat) (slip : Bool) (s : State) : State :=
  let l := s.gns.search
  if l.any (fun q => q.covers x) then { s with gns := { s.gns with search := l.map (fun q => if q.sat = x ∧ slip then { q with slip := true } else q) } }
  else
    let q : Search := ⟨x, kind, searchWork kind x, slip⟩
    let l' := if isMain s x.1 then l.takeWhile (fun p => isMain s p.sat.1) ++ q :: l.dropWhile (fun p => isMain s p.sat.1) else l ++ [q]
    searchOn { s with gns := { s.gns with search := l', roundAt := if l = [] then s.tb else s.gns.roundAt } }

/-- The narrowest search that applies to a satellite (R114, R126): team-aided where the records the module holds show it on another antenna, warm
where its ephemeris is stored and TT and the last pose are known, else cold. Log 34: DEDUCED. -/
def searchKind (s : State) (x : Sat) : Nat :=
  if inSpoof s then 2
  else if s.gns.recs.any (fun r => r.pos != midOf s && r.ents.any (fun e => e.sat == x)) then 0
  else if s.gns.eph.contains x && ttState s != 0 && s.pos.cur.isSome then 1
  else 2

/-- The search of one satellite (R116): a cold one takes every PRN of the system. -/
def searchSat (x : Sat) (slip : Bool) (s : State) : State :=
  let k := searchKind s x
  addSearch (if k = 2 then (x.1, 0) else x) k slip s

/-- The systems in the order in which they are searched (R114). -/
def sysOrder (s : State) : List Nat := let l := [0, 3, 1, 2, 4]; l.filter (isMain s) ++ l.filter (fun k => !isMain s k)

/-- The search of every system begins: of each satellite known where that makes it warm or team-aided, else cold. -/
def searchAll (s : State) : State :=
  forEach (sysOrder s) (fun k s =>
    match s.gns.eph.filter (fun x => x.1 == k && searchKind s x != 2) with
    | [] => addSearch (k, 0) 2 false s
    | l => forEach l (fun x s => searchSat x false s) s) s

/-- A channel goes to IDLE and its satellite is searched again (R116). -/
def toIdle (n : Nat) (slip : Bool) (s : State) : State :=
  let c := chan s n
  if c.state = 0 then s else searchSat c.sat slip (setChan n (chanIdle 0) s)

/-! ### Allocation -/

/-- Priority of a satellite in the order of R112, lower first. -/
def allocKey (s : State) (sat : Sat) (elev : Nat) : Nat :=
  let above := decide (fget s R.GNS_CFG F.GNS_CFG_ELEV_MASK ≤ elev)
  if isMain s sat.1 && above then 0
  else if sat.1 = 4 then 1000
  else if above && !isMain s sat.1 then 2000 + (90 - elev)
  else 3000 + (90 - elev)

/-- Priority of a channel's satellite. -/
def chanKey (s : State) (n : Nat) : Nat := allocKey s (chan s n).sat (chan s n).elev

/-- The channels in service. -/
def liveChans (s : State) : List Nat := (List.range 96).filter (fun n => !(s.gns.outBanks.contains (n / 8)))

/-- The allocated channels of a priority class. -/
def classChans (s : State) (k : Nat) : List Nat := (liveChans s).filter (fun n => (chan s n).state != 0 && chanKey s n / 1000 == k)

/-- How many channels a priority class may have (R112): none, no limit. -/
def classMax (s : State) (k : Nat) : Option Nat :=
  match k with
  | 1 => some (fget s R.GNS_CFG2 F.GNS_CFG2_SBAS_CH)
  | 2 => if fbit s R.GNS_STATUS F.GNS_STATUS_FALLBACK then none else some (fget s R.GNS_CFG F.GNS_CFG_BG_CH)
  | _ => none

/-- The channel of least priority among some, with its key. -/
def worstChan (s : State) (l : List Nat) : Option (Nat × Nat) :=
  l.foldl (fun b n => match b with
    | some x => if x.2 < chanKey s n then some (n, chanKey s n) else b
    | none => some (n, chanKey s n)) none

/-- The channel of least priority among some, where its satellite comes after the candidate. -/
def yields (s : State) (l : List Nat) (key : Nat) : Option Nat := ((worstChan s l).filter (fun x => decide (key < x.2))).map (·.1)

/-- The channel that takes a candidate (R112): where its class is full, that of its class with the lowest elevation; a free one; else the one of
lowest priority. -/
def chanFor (s : State) (key : Nat) : Option Nat :=
  let full := match classMax s (key / 1000) with | some m => decide (m ≤ (classChans s (key / 1000)).length) | none => false
  if full then yields s (classChans s (key / 1000)) key
  else match (liveChans s).find? (fun n => (chan s n).state == 0) with
    | some n => some n
    | none => yields s (liveChans s) key

/-- Hand a detected cell to a tracking channel (R112, R113): a signal outside the table of R108 is interference. -/
def handOver (c : Cand) (slip : Bool) (s : State) : State :=
  if satOk c.sat = false ∨ s.gns.chans.any (fun x => x.2.state != 0 && x.2.sat == c.sat) then s
  else match chanFor s (allocKey s c.sat c.elev) with
    | some n => setChan n { chanIdle 0 with state := 1, sat := c.sat, elev := c.elev, since := s.tb, dumpAt := s.tb, slip := slip } s
    | none => s

/-- Secondary channels beyond BG_CH are released on the main path, the lowest elevation first (R112). -/
def classTrim (s : State) : State :=
  forN 96 (fun _ s => match classMax s 2 with
    | some m => if m < (classChans s 2).length then
        (match worstChan s (classChans s 2) with | some x => setChan x.1 (chanIdle 0) s | none => s) else s
    | none => s) s

/-- The channels of a bank that goes out of service without a spare (R112, R118): the satellites of lowest priority lose their channels, those of
the bank that come before them are searched again. -/
def banksLess (b : Nat) (s : State) : State :=
  let lost := ((List.range 8).map (fun k => 8 * b + k)).filter (fun n => (chan s n).state != 0)
  let keep := lost.map (fun n => ((chan s n).sat, chanKey s n))
  let s1 := forEach lost (fun n s => setChan n (chanIdle 0) s) s
  let s2 := { s1 with gns := { s1.gns with outBanks := s1.gns.outBanks ++ [b] } }
  (keep.foldl (fun (p : Nat × State) x =>
    let s := p.2
    let free := ((liveChans s).filter (fun n => (chan s n).state == 0)).length
    let s1 := if free ≤ p.1 then
        (match yields s (liveChans s) x.2 with | some n => setChan n (chanIdle 0) s | none => s) else s
    (p.1 + 1, searchSat x.1 false s1)) (0, s2)).2

/-- GNSS is in the part and its tracking channels are powered (R1, R24). -/
def trkOn (s : State) : Bool := isG s && domOn s 4

/-! ### Acquisition -/

/-- The searches a round of a number of tiles serves, and those left after it (R114). Log 34: DEDUCED. -/
def roundTake : Nat → List Search → List Search × List Search
  | 0, l => ([], l)
  | _, [] => ([], [])
  | t + 1, q :: l =>
    if q.left ≤ t + 1 then let r := roundTake (t + 1 - q.left) l; (q :: r.1, r.2)
    else ([q], { q with left := q.left - (t + 1) } :: l)

/-- ACQ_ROUND (R113 to R115): every tile in service has made one dwell, the round taking the longest dwell of its signals; the cells found are
handed to tracking channels, and a satellite found is searched no further. A search whose dwells are all made has ended. -/
def execAcqRound (found : List Cand) (s : State) : Out :=
  .next (
    let tiles := fget s R.GNS_ACQ F.GNS_ACQ_TILES_IN
    let r := roundTake tiles s.gns.search
    let dwell := r.1.foldl (fun m q => max m (dwellTicks q.sat.1)) 0
    if isG s = false ∨ domOn s 3 = false ∨ r.1 = [] ∨ s.tb < s.gns.roundAt + dwell then s
    else
      let cells := (found.filter (fun c => r.1.any (fun q => q.covers c.sat))).take tiles
      let s1 := if trkOn s then forEach cells (fun c s => handOver c (r.1.any (fun q => q.sat == c.sat && q.slip)) s) s else s
      let rest := r.2.filter (fun q => !(cells.any (fun c => c.sat == q.sat)))
      let s2 := { s1 with gns := { s1.gns with search := rest, roundAt := s.tb } }
      if rest = [] then { fsetb s2 R.GNS_ACQ F.GNS_ACQ_SEARCHING false with gns := { s2.gns with searchAt := s.tb } } else s2)

/-- PULL_IN_TIMEOUT (R113, R116): the candidate is dropped. -/
def execPullInTimeout (ch : Fin 96) (s : State) : Out :=
  .next (
    let c := chan s ch.val
    if c.state ≠ 1 ∨ s.tb < c.since + msTicks 500 then s
    else fincSat (setChan ch.val (chanIdle 0) s) R.GNS_ACQ F.GNS_ACQ_DROPPED)

/-- ACQ_POWER_OFF (R114): 60 s without a pending search. -/
def execAcqPowerOff (s : State) : Out :=
  .next (if fbit s R.GNS_ACQ F.GNS_ACQ_SEARCHING ∨ s.tb < s.gns.searchAt + 60 * secTicks then s else domSet s 3 false)

/-! ### Tracking -/

/-- The channel has a half cycle to resolve after phase lock (R116). -/
def hasHalf (sys : Nat) : Bool := sys == 0 || sys == 2 || sys == 3

/-- A channel's state after a dump (R116): none, it goes to IDLE. -/
def dumpState (t : Nat) (c : Chan) (d : Dump) : Option Chan :=
  let ok := if 800 < d.ind then some (c.okFrom.getD t) else none
  let low := if d.ind < 600 then c.low + 1 else 0
  let weak := if d.cn0 < 2000 then some (c.weak.getD t) else none
  let c1 := { c with
    okFrom := ok, low := low, weak := weak, cn0 := d.cn0, sync := c.sync || d.sync, tow := c.tow || d.tow, half := c.half && !d.pol, dumpAt := t }
  match c.state with
  | 0 => some c
  | 1 => some (if d.code ∧ t < c.since + msTicks 500 then { c1 with state := 2, okFrom := none, low := 0 } else c1)
  | 2 =>
    if d.code = false then none
    else match ok with
      | some f => some (if f + msTicks 200 ≤ t then
          { c1 with state := 3, lockAt := some t, low := 0, tow := d.tow, half := hasHalf c.sat.1 && !d.pol } else c1)
      | none => some c1
  | _ =>
    if d.code = false then none
    else if 3 ≤ low then some { c1 with state := 2, slip := true, lockAt := some t, low := 0, okFrom := none }
    else some (if c.state = 3 ∧ c1.sync ∧ c1.tow then { c1 with state := 4 } else c1)

/-- Correlator symmetry (R125): above 0.2 for 1 s in PHASE or TRACK excludes, until below 0.1 for 10 s. -/
def symState (t : Nat) (c : Chan) (sym : Nat) : Chan :=
  let hi := if 200 < sym ∧ 3 ≤ c.state then some (c.symHi.getD t) else none
  let lo := if sym < 100 then some (c.symLo.getD t) else none
  let ex := if c.symEx then (match lo with | some f => decide (t < f + 10 * secTicks) | none => true)
    else (match hi with | some f => decide (f + secTicks ≤ t) | none => false)
  { c with symHi := hi, symLo := lo, symEx := ex }

/-- A channel loses lock at an epoch tick: the entry of that epoch carries the state before the loss (R127). -/
def lossKeep (n : Nat) (s : State) : State :=
  if s.tb % epochTicks s ≠ 0 then s
  else { s with gns := { s.gns with preLoss := (s.tb, n, chan s n) :: s.gns.preLoss.filter (fun x => x.1 == s.tb && x.2.1 != n) } }

/-- eMMC holds the ephemeris of a satellite that has come to TRACK (R114). -/
def ephKeep (c : Chan) (s : State) : State :=
  if c.state = 4 ∧ c.sat ∉ s.gns.eph then { s with gns := { s.gns with eph := s.gns.eph ++ [c.sat] } } else s

/-- TRACKING_DUMP (R116, R117, R125): one coherent time after the dump before. -/
def execTrackingDump (ch : Fin 96) (d : Dump) (s : State) : Out :=
  .next (
    let n := ch.val
    let c := chan s n
    if trkOn s = false ∨ c.state = 0 ∨ n / 8 ∈ s.gns.outBanks ∨ s.tb < c.dumpAt + cohTicks s c then s
    else match dumpState s.tb c d with
      | none => toIdle n false (lossKeep n s)
      | some c1 =>
        let c2 := symState s.tb c1 d.sym
        let s1 := ephKeep c2 (setChan n c2 (if c2.state < c.state then lossKeep n s else s))
        if c2.symEx ∧ c.symEx = false then
          fault (fsetb s1 R.GNS_INTEG F.GNS_INTEG_SQM true) Ev.SQM_FAULT [midOf s, c.sat.1, c.sat.2]
        else if c.symEx ∧ c2.symEx = false then faultEnd s1 Ev.SQM_FAULT [midOf s, c.sat.1, c.sat.2]
        else s1)

/-- CN0_LOSS (R116): below 20 dB-Hz for 1 s. -/
def execCn0Loss (ch : Fin 96) (s : State) : Out :=
  .next (match (chan s ch.val).weak with
    | some f => if f + secTicks ≤ s.tb ∧ (chan s ch.val).state ≠ 0 then toIdle ch.val false (lossKeep ch.val s) else s
    | none => s)

/-! ### Antenna bias -/

/-- The bias is supplied: PD5 on and ANT_BIAS_EN set (R107). -/
def biasOn (s : State) : Bool := isG s && domOn s 5 && fbit s R.GNS_CFG2 F.GNS_CFG2_ANT_BIAS_EN

/-- GNS_STATUS.ANT as it stands (R107, R128). -/
def antShow (s : State) : State :=
  fset s R.GNS_STATUS F.GNS_STATUS_ANT (if biasOn s = false then 3 else if s.gns.biasOff then 2 else if s.gns.openF then 1 else 0)

/-- ANT_BIAS_CHECK (R107), each 100 ms: open below 2 mA; back in 2 to 55 mA a fault is cleared. -/
def execAntBiasCheck (ua : Nat) (s : State) : Out :=
  .next (if isG s = false ∨ domOn s 5 = false ∨ s.tb < s.gns.antAt + msTicks 100 then s
    else
      let s0 := { s with gns := { s.gns with antAt := s.tb } }
      if biasOn s = false ∨ s.gns.biasOff then antShow s0
      else if ua < 2000 then
        let s1 := antShow { s0 with gns := { s0.gns with openF := true } }
        if s.gns.openF then s1 else fault s1 Ev.ANT_OPEN []
      else if 55000 < ua then antShow s0
      else
        let s1 := antShow { s0 with gns := { s0.gns with openF := false, shortF := false } }
        let s2 := if s.gns.openF then faultEnd s1 Ev.ANT_OPEN [] else s1
        if s.gns.shortF then faultEnd s2 Ev.ANT_SHORT [] else s2)

/-- ANT_SHORT (R107): above 55 mA for 10 ms. -/
def execAntShort (s : State) : Out :=
  .next (if biasOn s = false ∨ s.gns.biasOff then s
    else
      let s1 := antShow { s with gns := { s.gns with biasOff := true, shortF := true, shortAt := s.tb } }
      if s.gns.shortF then s1 else fault s1 Ev.ANT_SHORT [])

/-- ANT_BIAS_RETRY (R107): 1 s after a short. -/
def execAntBiasRetry (s : State) : Out :=
  .next (if s.gns.biasOff = false ∨ s.tb < s.gns.shortAt + secTicks then s else antShow { s with gns := { s.gns with biasOff := false } })

/-! ### Availability and the path -/

/-- An antenna not yet heard. -/
def antInit : Nat → AntSt := fun _ => ⟨false, 0, 0, [], false, none, false, false, false⟩

/-- What the solver holds of an antenna, by module ID. -/
def antSt (s : State) (m : Nat) : AntSt := smGet antInit s.gns.ants m

/-- Elevation of a satellite whose ephemeris is valid and healthy (R109). -/
def elevOf (s : State) (x : Sat) : Option Nat := (s.gns.sky.find? (fun y => y.1 == x && y.2.2)).map (·.2.1)

/-- An entry of a record makes its satellite usable (R109). An SBAS satellite is never used for ranging (R108). -/
def entUsable (s : State) (m : Nat) (e : GEnt) : Bool :=
  e.state == 4 && e.sat.1 != 4 && decide (fget s R.GNS_CFG F.GNS_CFG_CN0_MIN * 100 ≤ e.cn0)
    && (match elevOf s e.sat with | some d => decide (fget s R.GNS_CFG F.GNS_CFG_ELEV_MASK ≤ d) | none => false)
    && !bitOf e.mflags 4 && !(s.gns.excl.any (fun x => x.sat == e.sat && (x.ant.isNone || x.ant == some m)))

/-- The satellites of a record that are usable (R109): none while the antenna is SUSPECT. -/
def recUsable (s : State) (r : GRec) : List Sat :=
  if bitOf r.hflags 2 || (antSt s r.pos).suspect then [] else (r.ents.filter (entUsable s r.pos)).map (·.sat)

/-- The satellites usable at an epoch, for at least one antenna of the team (R109). Log 34: DEDUCED. -/
def usableSats (s : State) (ep : Nat) : List Sat :=
  ((s.gns.recs.filter (fun r => r.epoch == ep)).flatMap (recUsable s)).eraseDups

/-- How many of them count for a system (R108, R110, R111). -/
def usableOf (l : List Sat) (sys : Nat) : Nat := (l.filter (fun x => x.1 == sys || (x.1 == 3 && sys == 0))).length

/-- PDOP in 0.01 units against a limit in 0.1 units; no solution is never within it. -/
def pdopWithin (p : Option Nat) (lim10 : Nat) : Bool := match p with | some v => decide (v ≤ lim10 * 10) | none => false

/-- The role holder announces a switch over TC1; every module applies it at the next epoch on a whole second of TB (R110). -/
def announcePath (fall : Bool) (s : State) : State :=
  let e := (s.tb / secTicks + 1) * secTicks
  let s1 := toTeam { s with gns := { s.gns with pathNext := some (e, fall), badEval := 0, goodEval := 0 } } MsgKind.PATH_SWITCH [e, b2n fall]
  if fall then fault s1 Ev.GNSS_FALLBACK [] else faultEnd s1 Ev.GNSS_FALLBACK []

/-- GNS_STATUS and GNS_PDOP show an evaluation (R128). -/
def evalShow (main all : Nat) (a : Avail) (s : State) : State :=
  let s1 := fset (fset s R.GNS_STATUS F.GNS_STATUS_USABLE_MAIN (min 255 main)) R.GNS_STATUS F.GNS_STATUS_USABLE_ALL (min 255 all)
  fset (fset s1 R.GNS_PDOP F.GNS_PDOP_PDOP_MAIN (min 65535 (a.pdopMain.getD 65535))) R.GNS_PDOP F.GNS_PDOP_PDOP_ALL
    (min 65535 (a.pdopAll.getD 65535))

/-- AVAILABILITY_EVAL (R109, R110): of each epoch on a whole second of TB once, when its records are due, 2 ms after it (R120). Log 34: DEDUCED. -/
def execAvailabilityEval (a : Avail) (s : State) : Out :=
  .next (
    let ep := s.tb / secTicks * secTicks
    if poseRole s = false ∨ s.tb < ep + msTicks 2 ∨ s.gns.evalAt = some ep then s
    else
      let l := usableSats s ep
      let main := usableOf l (mainSys s)
      let s2 := evalShow main l.length a { s with gns := { s.gns with evalAt := some ep } }
      let lim := fget s R.GNS_CFG F.GNS_CFG_PDOP_MAX
      let min_ := fget s R.GNS_CFG F.GNS_CFG_MIN_SV
      if inSpoof s ∨ s.gns.pathNext.isSome then s2
      else if fbit s R.GNS_STATUS F.GNS_STATUS_FALLBACK = false then
        let bad := decide (main < min_) || !pdopWithin a.pdopMain lim
        let n := if bad then s.gns.badEval + 1 else 0
        if main < 4 ∨ 5 ≤ n then announcePath true s2 else { s2 with gns := { s2.gns with badEval := n } }
      else
        let good := decide (min_ ≤ main) && pdopWithin a.pdopMain (lim - 5)
        let n := if good then s.gns.goodEval + 1 else 0
        if 30 ≤ n then announcePath false s2 else { s2 with gns := { s2.gns with goodEval := n } })

/-- The path is in use: back on the main path the extra secondary channels are released (R112). -/
def setPath (fall : Bool) (s : State) : State := classTrim (fsetb s R.GNS_STATUS F.GNS_STATUS_FALLBACK fall)

/-- The switch announced takes effect at an epoch on a whole second of TB (R110); none does in SPOOF (R127). -/
def applyPath (told : Option Bool) (s : State) : State :=
  if s.tb % secTicks ≠ 0 ∨ inSpoof s then s
  else if poseRole s then
    match s.gns.pathNext with
    | some (e, fall) => if e ≤ s.tb then setPath fall { s with gns := { s.gns with pathNext := none } } else s
    | none => s
  else match told with
    | some fall => setPath fall s
    | none => s

/-- What the pose solver has told a module that is not the solver: its antenna SUSPECT and its EXCLUDED satellites (R125). -/
def takeTold (x : GTold) (s : State) : State :=
  if poseRole s then s
  else chanShow (fsetb { s with gns := { s.gns with excl := x.excl.map (fun e => ⟨some (midOf s), e, .told, s.tb⟩) } } R.GNS_STATUS
    F.GNS_STATUS_SUSPECT x.suspect)

/-! ### Epoch strobe -/

/-- A channel as an epoch's entry shows it: before a loss of lock at that tick (R127). -/
def strobeChan (s : State) (n : Nat) : Chan := ((s.gns.preLoss.find? (fun x => x.1 == s.tb && x.2.1 == n)).map (·.2.2)).getD (chan s n)

/-- The entry of the record for a channel in CODE, PHASE or TRACK (R120, R121); what the strobe does not bring of its phases is open. Log 34: DEDUCED. -/
def strobeEntry (s : State) (l : List GMeas) (n : Nat) : Option GEnt :=
  let c := strobeChan s n
  if c.state < 2 ∨ n / 8 ∈ s.gns.outBanks then none
  else
    some { m := (l.find? (fun m => m.ch == n)).getD { Config.latched s.tb n with ch := n }, sat := c.sat, state := c.state, cn0 := min 65535 c.cn0
           mflags := b2n (decide (3 ≤ c.state)) + 2 * b2n c.slip + 4 * b2n c.half + 8 * b2n c.tow + 16 * b2n (ownExcl s c) + 32 * b2n c.swapped
           lockTime := match c.lockAt with | some t => min (2 ^ 32 - 1) ((s.tb - t) / 200000) | none => 0 }

/-- HFLAGS and PATH of a record (R121). -/
def recHead (s : State) (coh : Bool) : Nat × Nat :=
  let ant := fget s R.GNS_STATUS F.GNS_STATUS_ANT
  (b2n (fbit s R.GNS_STATUS F.GNS_STATUS_FALLBACK) + 2 * mainSys s,
   b2n coh + 2 * b2n (fbit s R.GNS_STATUS F.GNS_STATUS_JAM) + 4 * b2n (fbit s R.GNS_STATUS F.GNS_STATUS_SUSPECT)
     + 8 * b2n (inSpoof s) + 16 * b2n (ant == 1 || ant == 2) + 32 * b2n (midOf s % 2 == 1))

/-- Both conditions of COHERENT have held since the epoch before, and there is a leader to refer to (R123, R347). -/
def coherent (s : State) (freqOk : Bool) : Bool :=
  freqOk && fbit s R.TLK_STATUS F.TLK_STATUS_ALIGNED && !s.gns.alignBad && (leaderOf s).isSome

/-- The number `v` in `n` bytes, the lowest first. -/
def numBytes : Nat → Nat → List Nat
  | 0, _ => []
  | n + 1, v => v % 256 :: numBytes n (v / 256)

/-- A measurement record as it lies in its slot and is sent (R121). -/
def gnsBytes (r : GRec) : List Nat :=
  numBytes 8 r.epoch ++ numBytes 8 (bitsOf 64 r.tt) ++ numBytes 4 r.cnt ++ numBytes 4 (bitsOf 32 r.clkOfs) ++ [r.pos / 2, r.ents.length, r.path]
    ++ [r.hflags % 32 + 32 * (r.pos % 2)] ++ numBytes 4 0
    ++ r.ents.flatMap (fun e => [e.m.ch, e.sat.1, e.sat.2, e.state] ++ numBytes 4 e.m.codePhase ++ numBytes 4 e.m.txPeriods
      ++ numBytes 8 (bitsOf 64 e.m.carr) ++ numBytes 4 (bitsOf 32 e.m.doppler) ++ numBytes 2 e.cn0 ++ numBytes 2 e.mflags ++ numBytes 4 e.lockTime)

/-- Build the record, put it into the ring and send it to the pose solver (R120 to R122). A record another module's solver takes counts as consumed
when it is sent. -/
def strobeRecord (e : GStrobe) (s : State) : State :=
  let coh := coherent s e.freqOk
  let h := recHead s coh
  let ofs := sext 16 (fget s R.TLK_CLK F.TLK_CLK_CLK_OFS)
  let r : GRec :=
    { epoch := s.tb, tt := 32 * (s.tb : Int) + ttOfsI s, cnt := s.gns.epochs % 2 ^ 32, clkOfs := ofs, pos := midOf s
      path := h.1, hflags := h.2, ents := (List.range 96).filterMap (strobeEntry s e.meas) }
  let lost := decide (512 ≤ s.gns.ring.length) && (match s.gns.ring.getLast? with | some x => !x.2 | none => false)
  let s1 := whenB lost (fun s => fincSat s R.GNS_REC F.GNS_REC_OVERRUN) s
  let shown (n : Nat) (c : Chan) : Bool := decide (2 ≤ c.state) && !(s.gns.preLoss.any (fun x => x.1 == s.tb && x.2.1 == n))
  let s2 := { s1 with gns := { s1.gns with
    ring := ((r, !poseRole s) :: s1.gns.ring).take 512
    epochs := s1.gns.epochs + 1
    alignBad := false
    chans := s1.gns.chans.map (fun x => (x.1, if shown x.1 x.2 then { x.2 with slip := false, swapped := false } else x.2)) } }
  let s3 := fincWrap s2 R.GNS_REC F.GNS_REC_WR_IDX
  let s4 := rset64 s3 R.GNS_EPOCH_TB_LO R.GNS_EPOCH_TB_HI s.tb
  let s5 := rsetN (rsetN s4 R.GNS_EPOCH_CNT r.cnt) R.GNS_CLK_OFS (bitsOf 32 ofs)
  send (fsetb s5 R.GNS_STATUS F.GNS_STATUS_COHERENT coh) MsgKind.GNSS_RECORD (poseHolder s) ((gnsBytes r).map Int.ofNat)

/-- EPOCH_STROBE (R119, R120): at the ticks that are multiples of the epoch period, once. -/
def execEpochStrobe (e : GStrobe) (s : State) : Out :=
  .next (if trkOn s = false ∨ s.tb % epochTicks s ≠ 0 ∨ (s.gns.ring.head?.map (·.1.epoch)) = some s.tb then s
    else strobeRecord e (takeTold e.told (applyPath e.told.path s)))

/-! ### Spoofing -/

/-- SPOOF_ENTER (R126, R127, R146): every channel goes to IDLE and searches cold, a pending path switch is voided with its counts, and
TT holds over. Log 34: DEDUCED. -/
def spoofEnter (s : State) : State :=
  let s1 := forEach s.gns.chans (fun x s => setChan x.1 (chanIdle 0) s) s
  let s2 := { s1 with gns :=
    { s1.gns with
      pathNext := none, badEval := 0, goodEval := 0, spoofAt := s.tb, spoofBad := s.tb, spoofBad1 := s.tb, search := []
      ants := s1.gns.ants.map (fun x => (x.1, { x.2 with freshAt := none })) } }
  let s3 := fsetb (fsetb s2 R.GNS_STATUS F.GNS_STATUS_SPOOF true) R.GNS_INTEG F.GNS_INTEG_SPOOF_DECLARED true
  let s4 := if isG s then searchAll s3 else s3
  fault (ttHoldover s4) Ev.SPOOF_DECLARED []

/-- SPOOF ends (R126). Log 34: DEDUCED. -/
def spoofLeave (s : State) : State := faultEnd (fsetb s R.GNS_STATUS F.GNS_STATUS_SPOOF false) Ev.SPOOF_DECLARED []

/-- A member takes the SPOOF state from the pose record in force (R126, R135). -/
def spoofSync (s : State) : State :=
  match s.pos.cur with
  | some r => if poseRole s ∨ solverFamily s = false then s
    else if r.spoof ∧ inSpoof s = false then spoofEnter s
    else if r.spoof = false ∧ inSpoof s then spoofLeave s
    else s
  | none => s

/-- The antennas of the team: the positions the plan holds as taking GNSS measurements, and any antenna heard (R126). -/
def teamAnts (s : State) : Nat := max s.gns.ants.length (s.cfg.plan.positions.filter (·.codeG)).length

/-- An antenna whose measurements since SPOOF began have lasted 60 s (R126). -/
def antNew (s : State) (x : AntSt) : Bool := match x.freshAt with | some t => decide (t + 60 * secTicks ≤ s.tb) | none => false

/-- SPOOF_CLEAR (R126): every check has passed for 60 s on the new measurements of at least 2 coherent antennas, or, with a single
antenna, 60 s of new measurements without SPOOF_CN0, CLOCK_JUMP or NAV_DATA_FAULT. -/
def execSpoofClear (s : State) : Out :=
  .next (
    let two := decide (2 ≤ (s.gns.ants.filter (fun x => antNew s x.2 && x.2.coh)).length) && decide (s.gns.spoofBad + 60 * secTicks ≤ s.tb)
    let one := decide (teamAnts s ≤ 1) && s.gns.ants.any (fun x => antNew s x.2) && decide (s.gns.spoofBad1 + 60 * secTicks ≤ s.tb)
    if inSpoof s && poseRole s && (two || one) then spoofLeave s else s)

/-! ### Integrity checks -/

/-- Record what the solver holds of an antenna. -/
def setAnt (m : Nat) (a : AntSt) (s : State) : State := { s with gns := { s.gns with ants := smIns m a s.gns.ants } }

/-- Exclude a satellite (R125). Log 34: DEDUCED. -/
def exclude (ant : Option Nat) (sat : Sat) (c : ExclCause) (ev : Ev) (bit : Fld) (s : State) : State :=
  let old := s.gns.excl.any (fun e => e.ant == ant && e.sat == sat && e.cause == c)
  let s1 := { s with gns := { s.gns with
    excl := ⟨ant, sat, c, s.tb⟩ :: s.gns.excl.filter (fun e => !(e.ant == ant && e.sat == sat && e.cause == c)) } }
  let s2 := chanShow (fsetb s1 R.GNS_INTEG bit true)
  if old then s2 else fault s2 ev [((ant.getD 255 : Nat) : Int), sat.1, sat.2]

/-- End an exclusion (R125). Log 34: DEDUCED. -/
def unexclude (ant : Option Nat) (sat : Sat) (c : ExclCause) (ev : Ev) (s : State) : State :=
  if s.gns.excl.any (fun e => e.ant == ant && e.sat == sat && e.cause == c) then
    let s1 := { s with gns := { s.gns with excl := s.gns.excl.filter (fun e => !(e.ant == ant && e.sat == sat && e.cause == c)) } }
    faultEnd (chanShow s1) ev [((ant.getD 255 : Nat) : Int), sat.1, sat.2]
  else s

/-- An antenna is SUSPECT, from its first failed check (R125). -/
def suspect (m : Nat) (s : State) : State :=
  let a := antSt s m
  let s1 := setAnt m { a with suspect := true, susAt := if a.suspect then a.susAt else s.tb, badAt := s.tb } s
  if a.suspect then s1
  else fault (if m = midOf s then chanShow (fsetb s1 R.GNS_STATUS F.GNS_STATUS_SUSPECT true) else s1) Ev.ANT_SUSPECT [m]

/-- One of the checks that make an antenna SUSPECT, as a record finds it (R125): its entry and its exit are recorded. -/
def antCheck (m : Nat) (was now : Bool) (ev : Ev) (bit : Fld) (s : State) : State :=
  if now then suspect m (fsetb (if was then s else fault s ev [m]) R.GNS_INTEG bit true)
  else if was then faultEnd s ev [m]
  else s

/-- The Doppler check on one satellite of one antenna (R125): 5 epochs beyond ±10 Hz exclude, until 10 epochs within ±5 Hz. Log 34: DEDUCED. -/
def dopCheck (m : Nat) (x : Sat × Nat) (s : State) : State :=
  let old := (s.gns.dopRun.find? (fun r => r.1 == m && r.2.1 == x.1)).elim (0, 0) (fun r => r.2.2)
  let hi := if 10000 < x.2 then old.1 + 1 else 0
  let lo := if x.2 ≤ 5000 then old.2 + 1 else 0
  let s1 := { s with gns := { s.gns with
    dopRun := (m, x.1, hi, lo) :: s.gns.dopRun.filter (fun r => !(r.1 == m && r.2.1 == x.1)) } }
  if 5 ≤ hi then exclude (some m) x.1 .doppler Ev.DOPPLER_FAULT F.GNS_INTEG_DOPPLER s1
  else if 10 ≤ lo then unexclude (some m) x.1 .doppler Ev.DOPPLER_FAULT s1
  else s1

/-- A satellite without a Doppler at an epoch breaks its runs (R125). -/
def dopBreak (m : Nat) (l : List (Sat × Nat)) (s : State) : State :=
  { s with gns := { s.gns with dopRun := s.gns.dopRun.filter (fun r => r.1 != m || l.any (fun x => x.1 == r.2.1)) } }

/-- Navigation data of one satellite fails (R125): excluded on every antenna; the third satellite within 10 s makes the antenna SUSPECT. Log 34: DEDUCED. -/
def navFail (m : Nat) (sat : Sat) (s : State) : State :=
  let s1 := exclude none sat .nav Ev.NAV_DATA_FAULT F.GNS_INTEG_NAV_DATA s
  let a := antSt s1 m
  let l := (s.tb, sat) :: a.nav.filter (fun x => decide (s.tb < x.1 + 10 * secTicks) && x.2 != sat)
  let s2 := setAnt m { a with nav := l } s1
  if 3 ≤ l.length then suspect m s2 else s2

/-- The cross-antenna geometry at an epoch (R125): epochs in a row at which it holds; SPOOF_GEOM stands from the tenth until an epoch passes
without it. -/
def geomCheck (ep : Nat) (now : Bool) (s : State) : State :=
  let T := epochTicks s
  if now then
    let run := if s.gns.geomRun = 0 then 1 else if ep = s.gns.geomAt then s.gns.geomRun
      else if ep = s.gns.geomAt + T then s.gns.geomRun + 1 else 1
    let s1 := { s with gns := { s.gns with geomRun := run, geomAt := ep, geomOn := s.gns.geomOn || decide (10 ≤ run) } }
    if 10 ≤ run ∧ s.gns.geomOn = false then fault (fsetb s1 R.GNS_INTEG F.GNS_INTEG_SPOOF_GEOM true) Ev.SPOOF_GEOM [] else s1
  else if s.gns.geomRun ≠ 0 ∧ s.gns.geomAt + T < ep then
    let s1 := { s with gns := { s.gns with geomRun := 0, geomOn := false } }
    if s.gns.geomOn then faultEnd s1 Ev.SPOOF_GEOM [] else s1
  else s

/-- Weeks of a system's week number, and the GPS week at which it is 0 (R458). Log 73: PRESUMED. -/
def weekMod (sys : Nat) : Nat × Nat := match sys with | 1 => (4096, 1024) | 2 => (8192, 1356) | _ => (1024, 0)

/-- TT of a week and a second of it. -/
def weekTT (w : Int) (tow : Nat) : Int := (w * 604800 + tow) * 6400000000

/-- The GPS week a decoded week stands for: the cycle nearest to TT_HWM, or to the firmware's build where it is not held (R458). Log 73: PRESUMED. -/
def weekNear (s : State) (sys week : Nat) : Int :=
  let near := if fbit s R.BRD_STATUS F.BRD_STATUS_TT_HWM_VALID then ttHwm s else Config.fwBuild (fwVersion s)
  let m := weekMod sys
  let w0 : Int := near / weekTT 1 0
  let d : Int := ((week : Int) + m.2 - w0) % m.1
  w0 + (if 2 * d < m.1 then d else d - m.1)

/-- A decoded week lies more than one week before TT_HWM (R458). -/
def weekBack (s : State) (x : Sat × Nat × Nat) : Bool :=
  fbit s R.BRD_STATUS F.BRD_STATUS_TT_HWM_VALID && decide (weekTT (weekNear s x.1.1 x.2.1 + 1) x.2.2 < ttHwm s)

/-- The failures of a record's checks that count: those between antennas only of coherent ones (R123, R125). -/
def chkCoh (s : State) (r : GRec) (c : GChk) : GChk :=
  let coh := bitOf r.hflags 0
  let others := (s.gns.ants.filter (fun x => x.1 != r.pos && x.2.coh)).length
  let weeks := (c.weeks.filter (weekBack s)).map (·.1)
  { c with navBad := c.navBad ++ weeks.filter (fun x => !c.navBad.contains x), incons := c.incons && coh && decide (2 ≤ others), geom := c.geom && coh && decide (1 ≤ others) }

/-- Does a record's set of checks hold a failure, and one of the three that a single antenna's SPOOF waits for? -/
def anyFail (c : GChk) : Bool × Bool :=
  let one := c.cn0 || decide (1000 < c.clkJump) || c.clkDrift || !c.navBad.isEmpty
  (one || c.incons || c.geom || c.ccd.any (fun x => decide (5000 < x.2)) || c.dop.any (fun x => decide (10000 < x.2)), one)

/-- INTEGRITY_CHECK (R125) of one record. -/
def integrity (r : GRec) (c : GChk) (s : State) : State :=
  let m := r.pos
  let s1 := forEach (c.ccd.filter (fun x => decide (5000 < x.2)))
    (fun x s => exclude (some m) x.1 .ccd Ev.CCD_FAULT F.GNS_INTEG_CCD s) s
  let s2 := dopBreak m c.dop (forEach c.dop (fun x s => dopCheck m x s) s1)
  let s3 := forEach c.navNew (fun x s => unexclude none x .nav Ev.NAV_DATA_FAULT s) (forEach c.navBad (fun x s => navFail m x s) s2)
  let a := antSt s3 m
  let clk := decide (1000 < c.clkJump) || c.clkDrift
  let s4 := setAnt m { a with cn0Bad := c.cn0, clkBad := clk, incBad := c.incons } s3
  let s5 := antCheck m a.cn0Bad c.cn0 Ev.SPOOF_CN0 F.GNS_INTEG_SPOOF_CN0 s4
  let s6 := antCheck m a.clkBad clk Ev.CLOCK_JUMP F.GNS_INTEG_CLOCK_JUMP s5
  let s7 := geomCheck r.epoch c.geom (antCheck m a.incBad c.incons Ev.ANT_INCONSISTENT F.GNS_INTEG_ANT_INCONSISTENT s6)
  let f := anyFail c
  let b := antSt s7 m
  let s8 := setAnt m { b with badAt := if f.1 then s.tb else b.badAt } s7
  { s8 with gns := { s8.gns with
    spoofBad := if f.1 then s.tb else s8.gns.spoofBad
    spoofBad1 := if f.2 then s.tb else s8.gns.spoofBad1 } }

/-- The checks that declare SPOOF (R125): 10 epochs of the cross-antenna geometry, 2 antennas SUSPECT, or a single antenna SUSPECT for
30 s. Log 34: DEDUCED. -/
def spoofCheck (s : State) : State :=
  let sus := s.gns.ants.filter (fun x => x.2.suspect)
  let alone := decide (teamAnts s ≤ 1) && sus.any (fun x => decide (x.2.susAt + 30 * secTicks ≤ s.tb))
  if inSpoof s = false ∧ (10 ≤ s.gns.geomRun ∨ 2 ≤ sus.length ∨ alone) then spoofEnter s else s

/-- EXCLUSION_END (R125): 60 s of a code–carrier divergence have passed. -/
def execExclusionEnd (ant : Fin 64) (sat : Sat) (s : State) : Out :=
  .next (match s.gns.excl.find? (fun e => e.ant == some ant.val && e.sat == sat && e.cause == .ccd) with
    | some e => if e.at_ + 60 * secTicks ≤ s.tb then unexclude (some ant.val) sat .ccd Ev.CCD_FAULT s else s
    | none => s)

/-- SUSPECT_CLEAR (R125): every check of the antenna has passed for 60 s. -/
def execSuspectClear (ant : Fin 64) (s : State) : Out :=
  .next (
    let a := antSt s ant.val
    if a.suspect = false ∨ s.tb < a.badAt + 60 * secTicks then s
    else
      let s1 := setAnt ant.val { a with suspect := false } s
      let s2 := if ant.val = midOf s then chanShow (fsetb s1 R.GNS_STATUS F.GNS_STATUS_SUSPECT false) else s1
      faultEnd s2 Ev.ANT_SUSPECT [ant.val])

/-! ### The solver's epoch -/

/-- The plan holds boom-shape measurement for a module's position (R138, R338). -/
def shapePlanned (s : State) (m : Nat) : Bool := bitOf s.cfg.plan.shape (m / 2)

/-- The newest record of a module at an epoch. -/
def recAt (s : State) (ep m : Nat) : Option GRec := s.gns.recs.find? (fun r => r.pos == m && r.epoch == ep)

/-- The links between a lever arm and the body (R62, R63): from the link it is attached to down its chain. -/
def pathLinks (s : State) (c : Nat) : Nat → Nat → List Nat
  | 0, _ => []
  | n + 1, l => match linkOf s c l with
    | none => []
    | some k => l :: (match k.parent with | some p => pathLinks s c n p | none => [])

/-- A joint has a valid source other than GNSS_SHAPE (R138). -/
def jointElse (s : State) (c l : Nat) : Bool :=
  match linkOf s c l with
  | none => false
  | some k =>
    let st := linkSt s (linkNo s c l)
    (k.src1 != .gnssShape && !st.s1Fail && (jointNow k false false st).isSome) || (k.src2 != .gnssShape && !st.s2Fail && (jointNow k true false st).isSome)

/-- What R138 asks of a baseline beside its ratio: both positions planned, both records coherent, 5 usable satellites common, every other joint on
the path between the antennas with a source of its own, and a valid pose. -/
def shapeOk (s : State) (ep : Nat) (x : ShapeIn) : Bool :=
  match recAt s ep x.antA, recAt s ep x.antB with
  | some a, some b =>
    let path (v : Lever) : List (Nat × Nat) := if v.chain = 0 then [] else (pathLinks s v.chain 8 v.link).map (fun l => (v.chain, l))
    let pa := path (antennaOf s x.antA)
    let pb := path (antennaOf s x.antB)
    let on := pa.filter (fun y => !pb.contains y) ++ pb.filter (fun y => !pa.contains y)
    shapePlanned s x.antA && shapePlanned s x.antB && bitOf a.hflags 0 && bitOf b.hflags 0
      && decide (5 ≤ ((recUsable s a).filter (recUsable s b).contains).eraseDups.length)
      && on.contains (x.chain, x.link) && on.all (fun y => y == (x.chain, x.link) || jointElse s y.1 y.2)
      && fbit s R.POS_STATUS F.POS_STATUS_VALID
  | _, _ => false

/-- The SHAPE_DIFF run of a link: none where SRC1 and the shape are not both valid (R139). -/
def shapeDiffRun (n r : Nat) (s : State) : State := { s with pos := { s.pos with shapeRun := smSet zero n r s.pos.shapeRun } }

/-- GNSS_SHAPE_UPDATE (R138, R139) of one baseline, at an epoch. -/
def shapeUpdate (ep : Nat) (x : ShapeIn) (s : State) : State :=
  match linkOf s x.chain x.link with
  | none => s
  | some k =>
    let n := linkNo s x.chain x.link
    let run := if 30 ≤ x.ratio ∧ shapeOk s ep x then smGet zero s.pos.ratioRun n + 1 else 0
    let s1 := { s with pos := { s.pos with ratioRun := smSet zero n run s.pos.ratioRun } }
    let s2 := fsetb s1 (R.POS_SHAPE n) F.POS_SHAPE_FIXED (decide (10 ≤ run))
    if run < 10 then shapeDiffRun n 0 s2
    else
      let s3 := fsetb (fset s2 (R.POS_SHAPE n) F.POS_SHAPE_VALUE (fitS 16 x.val)) (R.POS_SHAPE n) F.POS_SHAPE_VALID true
      let s4 := jointSample .gnssShape (some n) { s3 with pos := { s3.pos with shapeEp := smSet zero n ep s3.pos.shapeEp } }
      match jointNow k false (linkSt s4 n).s1Fail (linkSt s4 n) with
      | none => shapeDiffRun n 0 s4
      | some v =>
        let far := decide (2 * (k.vmax - k.vmin) < (v - x.val).natAbs * 256)
        let r := if far then smGet zero s.pos.shapeRun n + 1 else 0
        let s5 := shapeDiffRun n r s4
        if r = 20 then raise (fsetb s5 (R.POS_SHAPE n) F.POS_SHAPE_SHAPE_DIFF true) Ev.SHAPE_DIFF [x.chain, x.link] else s5

/-- A link without a baseline at an epoch: its runs are broken (R138, R139); a value older than 2 epochs is not valid (R138). -/
def shapeAge (ep : Nat) (l : List ShapeIn) (s : State) : State :=
  let here := l.map (fun x => linkNo s x.chain x.link)
  let s1 := { s with pos := { s.pos with
    ratioRun := s.pos.ratioRun.filter (fun x => here.contains x.1), shapeRun := s.pos.shapeRun.filter (fun x => here.contains x.1) } }
  let s2 := forEach (s.pos.ratioRun.filter (fun x => !here.contains x.1)) (fun x s => fsetb s (R.POS_SHAPE x.1) F.POS_SHAPE_FIXED false) s1
  forEach s.pos.shapeEp (fun x s => if x.2 + 2 * epochTicks s < ep then fsetb s (R.POS_SHAPE x.1) F.POS_SHAPE_VALID false else s) s2

/-- What a secondary system brings on the fall-back path (R111): it contributes with 2 usable satellites, its offset then estimated, or with a valid
broadcast offset. -/
structure SysPart where
  sys  : Nat
  n    : Nat
  est  : Bool
  cast : Bool
deriving DecidableEq, Repr, Inhabited

/-- The secondary systems that contribute to the solution: none on the main path (R110, R111). -/
def sysParts (s : State) (l : List Sat) (isto : List (Nat × Int × Bool)) : List SysPart :=
  if fbit s R.GNS_STATUS F.GNS_STATUS_FALLBACK = false then []
  else ([0, 1, 2].filter (fun k => k != mainSys s)).filterMap (fun k =>
    let n := usableOf l k
    let cast := isto.any (fun x => x.1 == k && x.2.2)
    if 2 ≤ n ∨ (1 ≤ n ∧ cast) then some ⟨k, n, decide (2 ≤ n), cast⟩ else none)

/-- Can a solution be formed (R111): the usable satellites that contribute against 4 and the offsets estimated. -/
def solvable (s : State) (l : List Sat) (isto : List (Nat × Int × Bool)) : Bool :=
  let p := sysParts s l isto
  decide (4 + (p.filter (·.est)).length ≤ usableOf l (mainSys s) + p.foldl (fun n x => n + x.n) 0)

/-- GNS_ISTOk (R108, R111): in use where the system contributes; QZSS by its broadcast offset to GPS. Log 34: DEDUCED. -/
def istoSet (p : List SysPart) (l : List Sat) (x : Nat × Int × Bool) (s : State) : State :=
  if 4 ≤ x.1 then s
  else
    let a := R.GNS_ISTO x.1
    let part := p.find? (fun y => y.sys == x.1)
    let valid := if x.1 = 3 then x.2.2 && l.any (fun y => y.1 == 3) else part.isSome
    let cast := if x.1 = 3 then x.2.2 else (match part with | some y => !y.est | none => false)
    fsetb (fsetb (fset s a F.GNS_ISTO_OFFSET (fitS 24 x.2.1)) a F.GNS_ISTO_VALID valid) a F.GNS_ISTO_BROADCAST cast

/-- The epoch's solution (R111, R126, R130, R141): formed where the usable satellites allow it, outside SPOOF. -/
def epochSolution (ep : Nat) (e : GEpoch) (s0 : State) : State :=
  let s := { s0 with gns := { s0.gns with sky := e.sky } }
  let l := usableSats s ep
  let parts := sysParts s l e.isto
  let sol := e.sol.filter (fun _ => solvable s l e.isto && !inSpoof s)
  let s1 := { s with pos := { s.pos with gnss := srcPush (match sol with | some x => ⟨ep, x.acc, true⟩ | none => ⟨ep, 0, false⟩) s.pos.gnss } }
  let s2 := shapeAge ep e.shapes (forEach e.isto (istoSet parts l) (forEach e.shapes (shapeUpdate ep) s1))
  let s3 := match e.leap with
    | some l => fsetb (fset s2 R.POS_LEAP F.POS_LEAP_GPS_UTC (bitsOf 8 l)) R.POS_LEAP F.POS_LEAP_VALID true
    | none => s2
  let good := sol.filter (fun x => decide (x.acc ≤ fget s R.POS_CFG F.POS_CFG_ACC_MAX * 10))
  if timeRole s then ttEpoch ep (good.map (·.err)) s3 else s3

/-- The solver holds a record, and the first new measurements of an antenna since SPOOF was declared (R121, R126). -/
def recTake (r : GRec) (s : State) : State :=
  let a := antSt s r.pos
  let new := decide (s.gns.spoofAt < r.epoch) && !r.ents.isEmpty
  setAnt r.pos { a with coh := bitOf r.hflags 0, freshAt := if new then some (a.freshAt.getD s.tb) else a.freshAt }
    { s with gns := { s.gns with
      recs := r :: s.gns.recs.filter (fun x => x.pos != r.pos)
      ring := s.gns.ring.map (fun x => if x.1.epoch = r.epoch ∧ r.pos = midOf s then (x.1, true) else x) } }

/-- GNSS_RECORD (R121, R125, R138, R141): a module's record reaches the pose solver, and with the last of an epoch the solution is formed; on a time
master that is not the solver, the epoch's solution is the solver's (R141, R342). -/
def execGnssRecord (r : GRec) (c : GChk) (e : Option GEpoch) (s : State) : Out :=
  .next (if poseRole s then
      let s2 := recTake r s
      let s3 := spoofCheck (integrity r (chkCoh s2 r c) s2)
      match e with
      | some x => epochSolution r.epoch x s3
      | none => s3
    else match e with
      | some x => if timeRole s then ttEpoch r.epoch (if inSpoof s then none else x.sol.map (·.err)) s else s
      | none => s)

/-! ### Interference -/

/-- Does a notch of 200 kHz cover a line (R124)? -/
def notchCovers (s : State) (k : Nat) (f : Int) : Bool :=
  fbit s (R.GNS_NOTCH k) F.GNS_NOTCH_ACTIVE && decide ((f - sext 16 (fget s (R.GNS_NOTCH k) F.GNS_NOTCH_FREQ)).natAbs ≤ 100)

/-- Place or release a notch. -/
def notchSet (k : Nat) (on : Bool) (f : Int) (s : State) : State :=
  let s1 := fsetb (fset s (R.GNS_NOTCH k) F.GNS_NOTCH_FREQ (bitsOf 16 f)) (R.GNS_NOTCH k) F.GNS_NOTCH_ACTIVE on
  fsetb s1 R.GNS_AGC (if k = 0 then F.GNS_AGC_NOTCH_A_ON else F.GNS_AGC_NOTCH_B_ON) on

/-- The stamp since which a notched line has been below 10 dB above the floor. -/
def notchLow (s : State) (k : Nat) (lines : List (Int × Nat)) (since : Option Nat) : Option Nat :=
  if fbit s (R.GNS_NOTCH k) F.GNS_NOTCH_ACTIVE && !(lines.any (fun l => notchCovers s k l.1 && decide (10 ≤ l.2))) then
    some (since.getD s.tb)
  else none

/-- Release a notch whose line has been low for 1 s (R124). -/
def notchRelease (k : Nat) (since : Option Nat) (s : State) : State :=
  match since with
  | some t => if t + secTicks ≤ s.tb then
      raise (notchSet k false (sext 16 (fget s (R.GNS_NOTCH k) F.GNS_NOTCH_FREQ)) s) Ev.NOTCH_OFF
        [sext 16 (fget s (R.GNS_NOTCH k) F.GNS_NOTCH_FREQ)] else s
  | none => s

/-- A line that has stood for 3 FFTs: NOTCH_A, then NOTCH_B; with both in use none (R124). -/
def notchPlace (f : Int) (s : State) : State :=
  if notchCovers s 0 f || notchCovers s 1 f then s
  else if fbit s (R.GNS_NOTCH 0) F.GNS_NOTCH_ACTIVE = false then raise (notchSet 0 true f s) Ev.NOTCH_ON [f]
  else if fbit s (R.GNS_NOTCH 1) F.GNS_NOTCH_ACTIVE = false then raise (notchSet 1 true f s) Ev.NOTCH_ON [f]
  else s

/-- JAM_DETECT of one kind begins: 0 narrowband, 1 wideband with J/N (R124). Log 34: DEDUCED. -/
def jamOn (args : List Int) (s : State) : State :=
  fault (fsetb (fsetb s R.GNS_STATUS F.GNS_STATUS_JAM true) R.GNS_INTEG F.GNS_INTEG_JAM_DETECT true) Ev.JAM_DETECT args

/-- The gains of the present hour: without JAM one more is counted, with JAM the hour begins anew (R124). -/
def gainCount (gain : Nat) (s : State) : State :=
  { s with gns := if fbit s R.GNS_STATUS F.GNS_STATUS_JAM then { s.gns with gains := [], nomAt := s.tb }
    else { s.gns with gains := smSet zero gain (smGet zero s.gns.gains gain + 1) s.gns.gains } }

/-- JAM_DETECT of each kind begins and ends with its conditions (R124). -/
def jamSet (third wide : Bool) (jn : Nat) (clear : Option Nat) (s : State) : State :=
  let g := s.gns
  let s1 := { s with gns := { g with jamClear := clear, jamN := g.jamN || third, jamW := g.jamW || wide } }
  let s2 := whenB (wide && !g.jamW) (jamOn [1, jn]) (whenB (third && !g.jamN) (jamOn [0]) s1)
  match clear with
  | some t =>
    if t + 10 * secTicks ≤ s.tb ∧ fbit s2 R.GNS_STATUS F.GNS_STATUS_JAM then
      let s3 := fsetb { s2 with gns := { s2.gns with jamN := false, jamW := false } } R.GNS_STATUS F.GNS_STATUS_JAM false
      whenB g.jamW (fun s => faultEnd s Ev.JAM_DETECT [1]) (whenB g.jamN (fun s => faultEnd s Ev.JAM_DETECT [0]) s3)
    else s2
  | none => s2

/-- INTERFERENCE_FFT (R124). -/
def execInterferenceFft (lines : List (Int × Nat)) (gain jn : Nat) (s : State) : Out :=
  .next (if isG s = false ∨ domOn s 5 = false then s
    else
      let runs := (lines.filter (fun l => decide (15 ≤ l.2))).map (fun l =>
        (l.1, ((s.gns.lineRun.find? (fun r => r.1 == l.1)).elim 0 (·.2)) + 1))
      let s1 := fset (fset s R.GNS_AGC F.GNS_AGC_GAIN gain) R.GNS_AGC F.GNS_AGC_JN jn
      let s2 := { s1 with gns := { s1.gns with lineRun := runs, lowA := notchLow s 0 lines s.gns.lowA, lowB := notchLow s 1 lines s.gns.lowB } }
      let s3 := notchRelease 1 s2.gns.lowB (notchRelease 0 s2.gns.lowA s2)
      let stood := (runs.filter (fun r => decide (3 ≤ r.2))).map (·.1)
      let s4 := forEach stood notchPlace s3
      let third := stood.any (fun f => !(notchCovers s4 0 f) && !(notchCovers s4 1 f))
      let wide := if gain + 12 ≤ fget s R.GNS_AGC F.GNS_AGC_NOM_GAIN then some (s.gns.wideFrom.getD s.tb) else none
      let wideNow := match wide with | some t => decide (t + secTicks ≤ s.tb) | none => false
      let clear := if third ∨ wide.isSome then none else some (s.gns.jamClear.getD s.tb)
      gainCount gain (jamSet third wideNow jn clear { s4 with gns := { s4.gns with wideFrom := wide } }))

/-- The median of gains counted: the least with at least half of all up to it (R124). -/
def median (l : List (Nat × Nat)) : Option Nat :=
  let upTo (k : Nat) : Nat := (l.filter (fun x => decide (x.1 ≤ k))).foldl (fun n x => n + x.2) 0
  let all := l.foldl (fun n x => n + x.2) 0
  (l.map (·.1)).find? (fun k => decide (all ≤ 2 * upTo k))

/-- NOM_GAIN_UPDATE (R124): the median over an hour without JAM, each hour. Log 34: DEDUCED. -/
def execNomGainUpdate (s : State) : Out :=
  .next (match median s.gns.gains with
    | some m => if isG s && domOn s 5 && !fbit s R.GNS_STATUS F.GNS_STATUS_JAM && decide (s.gns.nomAt + 3600 * secTicks ≤ s.tb) then
        fset { s with gns := { s.gns with nomGain := m, gains := [], nomAt := s.tb } } R.GNS_AGC F.GNS_AGC_NOM_GAIN m else s
    | none => s)

end Sys2Proof.Machine
end

