-- ==== Sys2Proof/Machine/Pwm.lean ====
section
/-!
DEFINITION. Machine/Pwm.lean: the PWM generator's waveforms, half-bridges with dead time, load groups, force registers, and the output
stage that resolves the precedence chain (R31 to R34, R228 to R242, R246).
-/

namespace Sys2Proof.Machine

/-! ### Waveforms -/

/-- A quotient rounded to the nearest, halves up. -/
def rnd (a b : Nat) : Nat := (2 * a + b) / (2 * b)

/-- Units of time in a tick: 1 for a high-side channel, 32 delay-line steps for a gate (R228). -/
def unitOf (n : Nat) : Nat := if n < 96 then 1 else 32

/-- Carrier period of a channel in its units (R229, R230). -/
def perOf (s : State) (n : Nat) : Nat :=
  (rget s (R.PWM_CG_PER (fget s (R.PWM_CH_CFG n) F.PWM_CH_CFG_CARRIER))).toNat * unitOf n

/-- A channel whose waveform PWMCFG has not set. -/
def wavInit : Nat → Wav := fun _ => ⟨0, 0, 0, 0, none, 0⟩

/-- The active waveform of a channel. -/
def wavOf (s : State) (n : Nat) : Wav := smGet wavInit s.pwm.wavs n

/-- Record it. -/
def setWav (n : Nat) (w : Wav) (s : State) : State := { s with pwm := { s.pwm with wavs := smSet wavInit n w s.pwm.wavs } }

/-- The minimum-pulse policy (R232; gates always DROP, R233): the high time, and 0 kept, 1 dropped, 2 stretched. -/
def minPulse (T h P : Nat) (stretch : Bool) : Nat × Nat :=
  if 0 < h ∧ h < P then (if stretch then (P, 2) else (0, 1))
  else if 0 < T - h ∧ T - h < P then (if stretch then (T - P, 2) else (T, 1))
  else (h, 0)

/-- MINPULSE STRETCH of a channel (R232). -/
def stretchOf (s : State) (n : Nat) : Bool :=
  decide (n < 96) && (s.cfg.outs.any (fun o => o.out == n && o.stretch))

/-- Filtered feed voltage in mV at a tick (R263); before the first measurement the nominal voltage of the channel. -/
def voltAt (s : State) (n t : Nat) : Nat :=
  match (smGet (fun _ => []) s.pwm.volts (n / 16)).find? (fun x => decide (x.1 ≤ t)) with
  | some x => x.2
  | none => fget s (R.LSW_CH_CFG1 n) F.LSW_CH_CFG1_V_NOM * 100

/-- The compensation factor K in Q16 at a voltage in mV (R263): limited to 4.0. -/
def compK (mode vnom mv : Nat) : Nat :=
  if mode = 0 then 65536
  else if mv = 0 then 4 * 65536
  else min (4 * 65536) (if mode = 1 then rnd (vnom * 100 * (vnom * 100) * 65536) (mv * mv) else rnd (vnom * 100 * 65536) mv)

/-- A duty with the compensation of its sampling tick, before its limit to 65,536 (R231, R263). -/
def compDuty (s : State) (n duty : Nat) (t : Int) : Nat :=
  if n < 96 then
    rnd (duty * compK (fget s (R.LSW_CH_CFG1 n) F.LSW_CH_CFG1_COMP) (fget s (R.LSW_CH_CFG1 n) F.LSW_CH_CFG1_V_NOM)
      (voltAt s n t.toNat)) 65536
  else duty

/-- Pulse `k` of a waveform (R230, R231): its start, its length after the minimum-pulse policy, and what the policy did. -/
def pulseOf (s : State) (n : Nat) (w : Wav) (k : Int) : Int × Nat × Nat :=
  let T := perOf s n
  let pt : Int := (rnd (w.phase * T) 65536 : Nat) + k * T
  let d := min 65536 (compDuty s n (min w.duty 65536) (pt - T / 2))
  let h := minPulse T (rnd (d * T) 65536) (fget s (R.PWM_CH_CFG n) F.PWM_CH_CFG_MINP) (stretchOf s n)
  ((if fbit s (R.PWM_CH_CFG n) F.PWM_CH_CFG_ALIGN then pt - (h.1 / 2 : Nat) else pt), h.1, h.2)

/-- The pulses of a waveform that may cover a time. -/
def pulsesNear (s : State) (n : Nat) (w : Wav) (t : Nat) : List (Int × Nat × Nat) :=
  let T := perOf s n
  if T = 0 then []
  else
    let k : Int := ((t : Int) - (rnd (w.phase * T) 65536 : Nat)) / T
    [pulseOf s n w (k - 1), pulseOf s n w k, pulseOf s n w (k + 1)].filter (fun p => decide ((w.from_ : Int) ≤ p.1 ∧ 0 < p.2.1))

/-- The value of a waveform at a time in its units (R230, R238), without a START landing. Log 36: DEDUCED. -/
def waveAt (s : State) (n : Nat) (w : Wav) (t : Nat) : Bool :=
  decide (t < w.tail) || (pulsesNear s n w t).any (fun p => decide (p.1 ≤ (t : Int) ∧ (t : Int) < p.1 + p.2.1))

/-- The value of level 7 of a high-side channel with its START landing (R240). -/
def wave7 (s : State) (n : Nat) (w : Wav) (t : Nat) : Bool :=
  waveAt s n w t || (match w.land with | some (g, e) => decide (g ≤ t ∧ t < e) | none => false)

/-- The start of the run of pulses, each beginning where the one before ends, that covers a time: as far back as `n` pulses. -/
def runStart (s : State) (c : Nat) (w : Wav) : Nat → Nat → Nat
  | 0, t => t
  | n + 1, t =>
    match (pulsesNear s c w (t - 1)).find? (fun p => decide (p.1 ≤ ((t - 1 : Nat) : Int) ∧ ((t - 1 : Nat) : Int) < p.1 + p.2.1)) with
    | some p => if t = 0 ∨ t ≤ p.1.toNat then t else runStart s c w n p.1.toNat
    | none => t

/-- The time from which a waveform has kept the value it has at a time, as far back as the pulses in hand or the gap before them. -/
def waveSince (s : State) (n : Nat) (w : Wav) (t : Nat) : Nat :=
  let ps := pulsesNear s n w t
  if wave7 s n w t then
    let a := runStart s n w 4 (t + 1)
    match w.land with
    | some (g, e) => if g ≤ t ∧ a ≤ e then (if a = t + 1 then g else min g a) else a
    | none => if a = t + 1 then w.from_ else a
  else
    ps.foldl (fun m p => if p.1 + p.2.1 ≤ (t : Int) then max m (p.1 + p.2.1).toNat else m) w.tail

/-- The first pulse that starts at or after a tick (R238, R240): its start and end; none at duty 0. -/
def firstPulse (s : State) (n : Nat) (w : Wav) (t : Nat) : Option (Nat × Nat) :=
  let T := perOf s n
  if T = 0 then none
  else
    let k : Int := ((t : Int) - (rnd (w.phase * T) 65536 : Nat)) / T
    ([pulseOf s n w (k - 1), pulseOf s n w k, pulseOf s n w (k + 1), pulseOf s n w (k + 2)].find? (fun p =>
      decide ((t : Int) ≤ p.1 ∧ (w.from_ : Int) ≤ p.1 ∧ 0 < p.2.1))).map (fun p => (p.1.toNat, (p.1 + p.2.1).toNat))

/-! ### Half-bridges -/

/-- MODE COMPLEMENTARY of half-bridge m (R233). -/
def hbComp (s : State) (m : Nat) : Bool := !fbit s (R.PWM_HB_CFG m) F.PWM_HB_CFG_MODE

/-- Is a gate's waveform derived from the high gate's channel (R233)? -/
def hbGate (s : State) (n : Nat) : Bool := decide (96 ≤ n) && hbComp s ((n - 96) / 2)

/-- The channel whose DUTY and PHASE a channel follows: a gate of a COMPLEMENTARY half-bridge the high gate's (R233). -/
def waveSrc (s : State) (n : Nat) : Nat := if hbGate s n then 96 + 2 * ((n - 96) / 2) else n

/-- The gates (high, low) that level 7 requests at a time in steps (R233, R234). Both gates keep the P of the high gate's channel. Log 36: DEDUCED. -/
def hbWave (s : State) (m t : Nat) : Bool × Bool :=
  let n := 96 + 2 * m
  let w := wavOf s n
  if hbComp s m = false then (waveAt s n w t, false)
  else
    let T := perOf s n
    let D := fget s (R.PWM_HB_CFG m) F.PWM_HB_CFG_DEAD
    let P := fget s (R.PWM_CH_CFG n) F.PWM_CH_CFG_MINP
    let h := rnd (min w.duty 65536 * T) 65536
    let a := rnd (w.phase * T) 65536
    let st := if fbit s (R.PWM_CH_CFG n) F.PWM_CH_CFG_ALIGN then a + T - h / 2 else a
    if T = 0 then (false, false)
    else if h < D + P then (decide (t < w.tail), decide (w.tail = 0 ∨ w.tail + D ≤ t))
    else if T - h < D + P then (decide (t < w.tail ∨ w.from_ + D ≤ t), false)
    else
      -- time since the last requested rising edge
      let e := (t + T * (st / T + 1) - st) % T
      if t < w.from_ + e then (decide (t < w.tail), decide (w.tail + D ≤ t))
      else (decide (D ≤ e ∧ e < h), decide (h + D ≤ e))

/-- What the policy does to pulse `k` of a channel, with the pulse's start: 0 nothing, 1 dropped, 2 stretched (R232). In a COMPLEMENTARY half-bridge the
high gate's pulse or the low gate's is dropped (R234); the low gate of LOW_OFF has none. -/
def pulseFate (s : State) (n : Nat) (w : Wav) (k : Int) : Int × Nat :=
  if hbGate s n then
    let c := 96 + 2 * ((n - 96) / 2)
    let T := perOf s c
    let h := rnd (min w.duty 65536 * T) 65536
    let pt : Int := (rnd (w.phase * T) 65536 : Nat) + k * T
    let D := fget s (R.PWM_HB_CFG ((n - 96) / 2)) F.PWM_HB_CFG_DEAD
    let P := fget s (R.PWM_CH_CFG c) F.PWM_CH_CFG_MINP
    (if fbit s (R.PWM_CH_CFG c) F.PWM_CH_CFG_ALIGN then pt - (h / 2 : Nat) else pt, b2n (if n = c then decide (h < D + P) else decide (T - h < D + P)))
  else
    let p := pulseOf s n w k
    (p.1, if 96 ≤ n ∧ n % 2 = 1 then 0 else p.2.2)

/-- Show in PWM_CHn_STAT and COMP_SAT what the policy and the limit have done to the pulses since the last look (R232, R234, R263). -/
def waveFold (n : Nat) (s : State) : State :=
  let w := wavOf s (waveSrc s n)
  let seen := (wavOf s n).seen
  let t := s.tb * unitOf n
  let T := perOf s (waveSrc s n)
  if T = 0 ∨ t < seen then s
  else
    let k0 : Int := ((seen : Int) - (rnd (w.phase * T) 65536 : Nat)) / T
    let ps := [k0, k0 + 1, k0 + 2].map (fun k => (k, pulseFate s n w k))
    let hit := ps.filter (fun p => decide (((max w.from_ seen : Nat) : Int) ≤ p.2.1 ∧ p.2.1 ≤ (t : Int)))
    let a := R.PWM_CH_STAT n
    let s1 := whenB (hit.any (fun p => p.2.2 == 1)) (fun s => fsetb s a F.PWM_CH_STAT_DROPPED true) s
    let s2 := whenB (hit.any (fun p => p.2.2 == 2)) (fun s => fsetb s a F.PWM_CH_STAT_STRETCHED true) s1
    let sat := decide (n < 96) && hit.any (fun p =>
      decide (65536 < compDuty s n (min w.duty 65536) (((rnd (w.phase * T) 65536 : Nat) : Int) + p.1 * T - T / 2)))
    let s3 := whenB sat (fun s => fsetb s (R.LSW_CH_STAT n) F.LSW_CH_STAT_COMP_SAT true) s2
    setWav n { wavOf s n with seen := t + 1 } s3

/-! ### The precedence chain -/

/-- This module takes no part in operation, and its outputs stay at their safe state: it is refused membership (R339), its plan or image
differs from the leader's (R339, R56), or a takeover failed (R355). Log 52: DEDUCED. -/
def sidelined (s : State) : Bool :=
  fget s R.TLK_STATUS F.TLK_STATUS_STATE == 4 || s.team.noPart || fget s R.TLK_PAIR_STAT F.TLK_PAIR_STAT_STATE == 6

/-- This module drives its position: it is alone or driving (R349). -/
def drives (s : State) : Bool := decide (fget s R.TLK_PAIR_STAT F.TLK_PAIR_STAT_STATE ≤ 1) && !sidelined s

/-- Its gates command its outputs: it drives its position, or has yielded and the fence at which it goes OFF has not passed (R353). -/
def gateLive (s : State) : Bool :=
  drives s || (fget s R.TLK_PAIR_STAT F.TLK_PAIR_STAT_STATE == 5 && decide (s.tb ≤ s.team.splitF))

/-- What drives an output at a level: off, on, or its waveform. -/
inductive Drive where
  | off | on | wave
deriving DecidableEq, Repr, Inhabited

/-- Output group of a channel (R69): an output with no entry lies in G0. -/
def groupOf (s : State) (n : Nat) : Nat := ((s.cfg.outs.find? (fun o => o.out == n)).map (·.group)).getD 0

/-- The role of an output, UNUSED without an entry (R66). -/
def roleOf (s : State) (n : Nat) : OutRole := ((s.cfg.outs.find? (fun o => o.out == n)).map (·.role)).getD .unused

/-- Safe state of an output (R34); an UNUSED channel is off (R66). -/
def safeOn (s : State) (n : Nat) : Bool := s.cfg.outs.any (fun o => o.out == n && o.safeOn && o.role != .unused)

/-- The force value in effect for a channel of a group (R241): a channel force of 1 to 3 precedes the group's. -/
def forceOf (s : State) (n g : Nat) : Nat :=
  let one := rget s R.PWM_FORCE_ONE_ACT
  let v := fgetW one F.PWM_FORCE_ONE_ACT_VAL
  if fgetW one F.PWM_FORCE_ONE_ACT_CH = n ∧ v ≠ 0 then v else (rget s R.PWM_FORCE_ACT).toNat / 4 ^ g % 4

/-- Level 1: an SOx is open and the output is in its cut map (R31); bits 96 to 99 are HB1 to HB4. -/
def cutOff (s : State) (b : Nat) : Bool :=
  (List.range 4).any (fun x => !fbit s (R.SAF_SO x) F.SAF_SO_CLOSED && bitOf (rget s (R.SAF_CUT x (b / 32))).toNat (b % 32))

/-- Level 2 holds a channel off (R257, R258, R264, R265): a latch, a retry that is pending, thermal shutdown, feed under-voltage, or
retirement. -/
def protOff (s : State) (n : Nat) : Bool := (rget s (R.LSW_CH_STAT n)).toNat &&& 0x100FE != 0

/-- Level 3: a trip latch is set and its mask includes the group (R243). -/
def tripOff (s : State) (g : Nat) : Bool :=
  (List.range 8).any (fun k => fbit s (R.PWM_TRIP_STAT k) F.PWM_TRIP_STAT_LATCH && bitOf (fget s (R.PWM_TRIP_MASK k) F.PWM_TRIP_MASK_MASK) g)

/-- Halter mode is in force (R269). Log 38: DEDUCED. -/
def halterActive (s : State) : Bool := fbit s R.LSW_HALTER_STAT F.LSW_HALTER_STAT_ACTIVE

/-- The halter input a channel is mapped to (R268); none: not mapped. -/
def halterIn (s : State) (n : Nat) : Option Nat :=
  match fget s (R.LSW_HALTER_MAP n) F.LSW_HALTER_MAP_IN with
  | 0 => none
  | i + 1 => some i

/-- Level 4's value of a mapped channel (R270): its input accepted active and ARMED, and a PULSE channel within its on-time. -/
def halterOn (s : State) (n i : Nat) : Bool :=
  bitOf (fget s R.LSW_HALTER_STAT F.LSW_HALTER_STAT_IN) i && bitOf (fget s R.LSW_HALTER_STAT F.LSW_HALTER_STAT_ARMED) i
    && (!fbit s (R.LSW_HALTER_MAP n) F.LSW_HALTER_MAP_MODE || s.lsw.pulseOn.contains n)

/-- A Boolean as a drive. Log 36: DEDUCED. -/
def driveOf (b : Bool) : Drive := if b then .on else .off

/-- The generator's levels 5 to 7 of a high-side channel (R31, R240, R241). -/
def genDrive (s : State) (n : Nat) : Drive :=
  if roleOf s n = .unused then .off
  else match forceOf s n (groupOf s n) with
    | 1 => .off
    | 2 => .on
    | 3 => .wave
    | _ => if (outEnt s n).isSome && !gateOn s n then .off else .wave

/-- What a pair-wired channel follows while the partner drives (R266); an UNUSED one is held off (R66). -/
def pairDrive (s : State) (n : Nat) : Drive :=
  let p := smGet (fun _ => (⟨false, 0⟩ : PairCh)) s.pwm.pair n
  if roleOf s n = .unused then .off
  else match p.force with
  | 1 => .off
  | 2 => .on
  | 3 => .wave
  | _ => if p.gate then .wave else .off

/-- Levels 5 to 7 as the output stage takes them: the safe state without PD10 or ownership, a held value, or the generator (R33, R247,
R272, R349); off in sleep and without power (R24, R471). -/
def lowDrive (s : State) (n : Nat) : Drive :=
  if s.pwr.asleep ∨ s.pwr.powered = false then .off
  else if domPow s 10 = false ∨ s.pwm.pairBad.contains n ∨ sidelined s = true then driveOf (safeOn s n)
  else match s.pwm.held with
    | some h => driveOf (h.getD n false)
    | none =>
      if fbit s R.PWM_STATUS F.PWM_STATUS_OWNED = false then driveOf (safeOn s n)
      else if gateLive s then genDrive s n
      else if fbit s (R.LSW_CH_CFG1 n) F.LSW_CH_CFG1_PAIR_WIRED then pairDrive s n
      else driveOf (safeOn s n)

/-- Levels 3 to 7 of a high-side channel: the value commanded (R259), with the level that decides. Without AO, and while L0 is lost, every
output is in its safe state (R8, R23). -/
def cmdDrive (s : State) (n : Nat) : Nat × Drive :=
  if s.pwr.aoOk = false ∨ (l0Ok s = false ∧ s.pwr.asleep = false) then (5, driveOf (safeOn s n))
  else if tripOff s (groupOf s n) then (3, .off)
  else match (if halterActive s then halterIn s n else none) with
    | some i => (4, driveOf (halterOn s n i))
    | none => (5, lowDrive s n)

/-- The whole chain of a high-side channel (R31). A STUCK_ON channel conducts whatever lies below level 1: only a safety cut removes power from its load (R257, R265). -/
def chain (s : State) (n : Nat) : Nat × Drive :=
  if cutOff s n then (1, .off)
  else if fbit s (R.LSW_CH_STAT n) F.LSW_CH_STAT_STUCK_ON then (0, .on)
  else if protOff s n then (2, .off)
  else cmdDrive s n

/-- A drive's value at a tick. -/
def driveAt (s : State) (n : Nat) (d : Drive) (t : Nat) : Bool :=
  match d with
  | .off => false
  | .on => true
  | .wave => wave7 s n (wavOf s n) t

/-- The actual state of a high-side channel now (R31, LSW_CHn_STAT.ON). -/
def actualOn (s : State) (n : Nat) : Bool := driveAt s n (chain s n).2 s.tb

/-- The value levels 3 to 7 command now (R259). -/
def commandOn (s : State) (n : Nat) : Bool := driveAt s n (cmdDrive s n).2 s.tb

/-- The force value in effect for half-bridge m (R241): a channel force of 1 to 3 on either of its gates precedes its group's. Log 36: DEDUCED. -/
def hbForce (s : State) (m : Nat) : Nat :=
  let g := fget s (R.PWM_HB_CFG m) F.PWM_HB_CFG_OGROUP
  let c := fget s R.PWM_FORCE_ONE_ACT F.PWM_FORCE_ONE_ACT_CH
  forceOf s (if c = 97 + 2 * m then c else 96 + 2 * m) g

/-- What the chain requests of the gates of half-bridge m at a time in steps (R31, R34, R241, R257). -/
def hbRequest (s : State) (m t : Nat) : Bool × Bool :=
  let g := fget s (R.PWM_HB_CFG m) F.PWM_HB_CFG_OGROUP
  if s.pwr.aoOk = false ∨ l0Ok s = false ∨ cutOff s (96 + m) ∨ fbit s (R.LSW_HB_STAT m) F.LSW_HB_STAT_DESAT ∨ fbit s (R.LSW_HB_STAT m) F.LSW_HB_STAT_DRV_UV ∨ tripOff s g then
    (false, false)
  else if domPow s 10 = false then (false, false)
  else match s.pwm.held with
    | some h => (h.getD (96 + 2 * m) false, h.getD (97 + 2 * m) false)
    | none =>
      if fbit s R.PWM_STATUS F.PWM_STATUS_OWNED = false ∨ drives s = false then (false, false)
      else match hbForce s m with
        | 1 => (false, false)
        | 2 => (true, false)
        | _ => hbWave s m t

/-- Times before which the gates of a half-bridge wait (R235). -/
def hbWaitOf (s : State) (m : Nat) : Nat × Nat := smGet (fun _ => (0, 0)) s.pwm.hbWait m

/-- The gates of half-bridge m at a time in steps: never both on (R235). -/
def hbGates (s : State) (m t : Nat) : Bool × Bool :=
  let r := hbRequest s m t
  let w := hbWaitOf s m
  (r.1 && decide (w.1 ≤ t), r.2 && decide (w.2 ≤ t))

/-- A change of the chain at a half-bridge: a gate that comes on while the other was on waits the dead time (R235). -/
def hbSettle (old : State) (m : Nat) (s : State) : State :=
  let t := s.tb * 32
  let D := fget s (R.PWM_HB_CFG m) F.PWM_HB_CFG_DEAD
  let o := hbGates old m t
  let r := hbRequest s m t
  let w := hbWaitOf s m
  let w' := (if r.1 && !o.1 && o.2 then t + D else w.1, if r.2 && !o.2 && o.1 then t + D else w.2)
  if w' = w then s else { s with pwm := { s.pwm with hbWait := smSet (fun _ => (0, 0)) m w' s.pwm.hbWait } }

/-- A drive as evidence records it (R170). -/
def driveCode : Drive → Nat
  | .off => 0
  | .on => 1
  | .wave => 2

/-- A channel that has been off since PD0 started. -/
def segInit : Nat → EvSeg := fun _ => ⟨0, 0, true, 0, 0, wavInit 0⟩

/-- The actual state of a high-side channel since its last change. -/
def swOf (s : State) (n : Nat) : EvSeg := smGet segInit s.pwm.sw n

/-- A load channel before its first sample. -/
def lchInit : Nat → LswCh := fun _ =>
  { due := none, left := none, held := false, winEnd := none, winLeft := none, used := 0, ocRun := 0, lowRun := 0, lowAt := 0, highRun := 0,
    highAt := 0, qualAt := 0, therm := [], clamp := [], share := [], dead := [], onAt := 0, cmd := ⟨0, wavInit 0, 0⟩, driveAt := 0, latchAt := [] }

/-- What the module holds of a load channel. -/
def lch (s : State) (n : Nat) : LswCh := smGet lchInit s.lsw.ch n

/-- Record it. -/
def setLch (n : Nat) (f : LswCh → LswCh) (s : State) : State :=
  { s with lsw := { s.lsw with ch := smSet lchInit n (f (lch s n)) s.lsw.ch } }

/-- A recorded drive's value at a tick. -/
def segAt (s : State) (n st : Nat) (w : Wav) (t : Nat) : Bool := st == 1 || (st == 2 && wave7 s n w t)

/-- The stamp from which a channel that is actually on has been on (R256); none while it is off. -/
def onSince (s : State) (n : Nat) : Option Nat :=
  let e := swOf s n
  if segAt s n e.st e.wav s.tb = false then none
  else some (if e.st = 1 then (lch s n).onAt else max (lch s n).onAt (waveSince s n e.wav s.tb))

/-- The stamp from which levels 3 to 7 have commanded a channel off (R259); none while they command it on. -/
def cmdOffSince (s : State) (n : Nat) : Option Nat :=
  let c := (lch s n).cmd
  if segAt s n c.st c.wav s.tb then none
  else some (if c.st = 0 then c.offFrom else max c.offFrom (waveSince s n c.wav s.tb))

/-- A retry whose channel is commanded off before it falls due is cancelled, but has been used (R258). The retry window runs on. Log 37: DEDUCED. -/
def retryCancel (n : Nat) (s : State) : State :=
  if fbit s (R.LSW_CH_STAT n) F.LSW_CH_STAT_RETRYING ∧ commandOn s n = false then
    let s1 := fsetb (fsetb s (R.LSW_CH_STAT n) F.LSW_CH_STAT_RETRYING false) (R.LSW_CH_STAT n) F.LSW_CH_STAT_RETRY_PAUSED false
    setLch n (fun c =>
      { c with due := none, left := none, held := false, used := c.used + 1,
               winEnd := if c.left.isSome ∧ fbit s (R.LSW_CH_STAT n) F.LSW_CH_STAT_FEED_UV = false then c.winLeft.map (s.tb + ·) else c.winEnd,
               winLeft := if c.left.isSome ∧ fbit s (R.LSW_CH_STAT n) F.LSW_CH_STAT_FEED_UV = false then none else c.winLeft }) s1
  else s

/-- The command of levels 3 to 7 after a change. -/
def command (n : Nat) (s : State) : State :=
  let d := (cmdDrive s n).2
  let w := if d = .wave then { wavOf s n with seen := 0 } else wavInit 0
  let c := (lch s n).cmd
  let s1 := if c.st = driveCode d ∧ c.wav = w then s
    else setLch n (fun x => { x with cmd := ⟨driveCode d, w, (cmdOffSince s n).getD s.tb⟩ }) s
  retryCancel n s1

/-- OUTPUT_EVIDENCE (R170): the output stage reports a change of what drives a channel, or of the delays latched for it. None is reported
while PD10 is off (R451). -/
def evidence (n : Nat) (s0 : State) : State :=
  let s := command n s0
  let c := chain s n
  let w := wavOf s n
  let old := swOf s n
  -- before the first boundary after a start no delays are latched: those latched last hold
  let d := if rget64 s R.STR_CYCLE_LO R.STR_CYCLE_HI = 0 then (old.onD, old.offD) else (onDelay s n, offDelay s n)
  let e : EvSeg := ⟨s.tb, driveCode c.2, !fbit s (R.LSW_CH_STAT n) F.LSW_CH_STAT_OPEN_LOAD, d.1, d.2,
    if c.2 = .wave then { w with seen := 0 } else wavInit 0⟩
  if { e with tick := old.tick } = old then s
  else
    let s1 := if e.st = old.st ∧ e.wav = old.wav then s
      else setLch n (fun x => { x with onAt := (onSince s n).getD s.tb, driveAt := if old.st = 0 then s.tb else x.driveAt }) s
    let e1 := if e.st = old.st ∧ e.wav = old.wav then { e with tick := old.tick } else e
    let s2 := { s1 with pwm := { s1.pwm with sw := smSet segInit n e1 s1.pwm.sw } }
    if (outEnt s n).isNone ∨ domOn s 10 = false then s2
    else
      let o := outSt s2 n
      setOut s2 n { o with evid := o.evid ++ [e] }

/-- Retries cancelled by the edges of their channels' waveforms (R258). Log 3: DESIGN CHOICE. -/
def retryTick (s : State) : State :=
  match (List.range 96).filter (fun n => fbit s (R.LSW_CH_STAT n) F.LSW_CH_STAT_RETRYING && !commandOn s n) with
  | [] => s
  | l => forEach l (fun n s => evidence n (retryCancel n s)) s

/-- The module drives its position with a partner beside it (R349): TLK_PAIR_STAT.STATE 1. -/
def pairLeads (s : State) : Bool := fget s R.TLK_PAIR_STAT F.TLK_PAIR_STAT_STATE == 1

/-- The driving module tells its partner each change of a pair-wired channel, with the tick at which it takes effect (R266). Log 52: DEDUCED. -/
def wiredSend (n : Nat) (s : State) : State :=
  if fbit s (R.LSW_CH_CFG1 n) F.LSW_CH_CFG1_PAIR_WIRED = false ∨ pairLeads s = false then s
  else
    let w := wavOf s n
    let v := (gateOn s n, forceOf s n (groupOf s n), w.duty, w.phase)
    if s.pwm.pairSent.find? (fun x => x.1 == n) = some (n, v) then s
    else send { s with pwm := { s.pwm with pairSent := smIns n v s.pwm.pairSent } } MsgKind.PL_WIRED (midOf s ^^^ 1)
      (([n, b2n v.1, v.2.1, v.2.2.1, v.2.2.2, s.tb] : List Nat).map Int.ofNat)

/-- The output stage resolves every chain after a change (R32), and a partner follows (R266). -/
def settle (old s : State) : State := forN 96 wiredSend (forN 96 evidence (forN 4 (hbSettle old) s))

/-- A change that the output stage resolves in its tick (R32). -/
def staged (f : State → State) (s : State) : State := settle s (f s)

/-! ### Gates -/

/-- Set the stride gate of an output (R165, R240): PWM_GATEk and STR_OUTn show it; under START an ON lands on the waveform. -/
def setGate (n : Nat) (on : Bool) (s : State) : State :=
  if gateOn s n = on then s
  else
    let w := wavOf s n
    let land := if on && fbit s (R.PWM_CH_CFG n) F.PWM_CH_CFG_GATE_MODE then (firstPulse s n w s.tb).map (fun p => (s.tb, p.2)) else none
    let s1 := setWav n { w with land := land } s
    let s2 := fsetb s1 (R.STR_OUT n) F.STR_OUT_GATE on
    rsetN s2 (R.PWM_GATE (n / 32)) (setBit (rget s2 (R.PWM_GATE (n / 32))).toNat (n % 32) on)

/-! ### Load groups -/

/-- The load group of a channel (R236): in COMPLEMENTARY mode both gates lie in the group of the high gate. -/
def lgOf (s : State) (n : Nat) : Nat :=
  fget s (R.PWM_CH_CFG (if 96 ≤ n ∧ hbComp s ((n - 96) / 2) then 96 + 2 * ((n - 96) / 2) else n)) F.PWM_CH_CFG_LG

/-- Does a writer own a load group (R236)? -/
def lgOwner (s : State) (k : Nat) (src : Writer) : Bool :=
  let o := fget s (R.PWM_LG_CFG k) F.PWM_LG_CFG_OWNER
  let i := fget s (R.PWM_LG_CFG k) F.PWM_LG_CFG_INST
  match src with
  | .rap _ => o == 1
  | .ctl g => o == 2 && i == g.val
  | .can c => o == 3 && i == c.val

/-- A write to a load group: a RAP session is held to R478 and gets its answer; a write from any other source than the owner is
discarded and counted (R236). -/
def lgWrite (src : Writer) (k reg : Nat) (f : State → State) (s : State) : State :=
  let lost (s : State) : State := fincSat s (R.PWM_LG_STAT k) F.PWM_LG_STAT_NOT_OWNER_CNT
  match src with
  | .rap who =>
    if rapMay s who.val .duty 10 = false then rapRefuse s who.val 10 reg .duty
    else if lgOwner s k src then rapAnswer (f s) who.val .ok []
    else rapAnswer (lost s) who.val .notOwner []
  | _ => if domOn s 10 = false then s else if lgOwner s k src then f s else lost s

/-- A boundary of a group's kind (R237). -/
def lgBoundary (s : State) (k : Nat) : Bool :=
  if fbit s (R.PWM_LG_CFG k) F.PWM_LG_CFG_XFER then s.tb % cycleTicks == 0
  else
    let per := (rget s (R.PWM_CG_PER (fget s (R.PWM_LG_CFG k) F.PWM_LG_CFG_REFCG))).toNat
    s.tb % per == 0

/-- A group's transfer falls in this tick (R237): armed in an earlier one, at a boundary, and no freeze (R246). -/
def lgDue (s : State) (k : Nat) : Bool :=
  fbit s (R.PWM_LG_STAT k) F.PWM_LG_STAT_ARMED && decide (smGet zero s.pwm.armAt k < s.tb) && lgBoundary s k && s.pwm.frozen.isNone && domOn s 10

/-- A group is armed, or was until the transfer of this tick (R248). Log 36: DEDUCED. -/
def lgArmed (s : State) (k : Nat) : Bool :=
  fbit s (R.PWM_LG_STAT k) F.PWM_LG_STAT_ARMED || s.pwm.xferAt.contains (k, s.tb)

/-- A shadow write (R237, R248): ignored while the group is armed. A DUTY above 65,536 is taken as 65,536 (R230). -/
def shadowSet (n : Nat) (phase : Bool) (v : Nat) (s : State) : State :=
  let k := lgOf s n
  if lgArmed s k then fsetb s (R.PWM_LG_STAT k) F.PWM_LG_STAT_WRITE_WHILE_ARMED true
  else if phase then fset s (R.PWM_CH_PHASE n) F.PWM_CH_PHASE_PHASE v
  else fset s (R.PWM_CH_DUTY n) F.PWM_CH_DUTY_DUTY (min 65536 (v % 131072))

/-- SHADOW_WRITE (R236, R237). -/
def execShadowWrite (src : Writer) (ch : Fin 104) (phase : Bool) (v : Word) (s : State) : Out :=
  .next (lgWrite src (lgOf s ch.val) (if phase then R.PWM_CH_PHASE ch.val else R.PWM_CH_DUTY ch.val) (shadowSet ch.val phase v.toNat) s)

/-- Arm a group (R237): a LOAD_ALL while it is armed changes nothing. Log 36: DEDUCED. -/
def lgArm (k : Nat) (s : State) : State :=
  if lgArmed s k then s
  else fsetb { s with pwm := { s.pwm with armAt := smIns k s.tb s.pwm.armAt } } (R.PWM_LG_STAT k) F.PWM_LG_STAT_ARMED true

/-- LOAD_ALL (R237, R239): with CANCEL in the same write neither acts. -/
def execLoadAll (src : Writer) (k : Fin 8) (cancel : Bool) (s : State) : Out :=
  .next (lgWrite src k.val (R.PWM_LG_CTRL k.val) (fun s => if cancel then s else lgArm k.val s) s)

/-- LG_CANCEL (R239): in the tick of the transfer it comes too late. -/
def execLgCancel (src : Writer) (k : Fin 8) (s : State) : Out :=
  .next (lgWrite src k.val (R.PWM_LG_CTRL k.val) (fun s => if lgDue s k.val then s else fsetb s (R.PWM_LG_STAT k.val) F.PWM_LG_STAT_ARMED false) s)

/-- A new active DUTY and PHASE of a channel at a time (R238, R248): a pulse in progress that began before it ends at its old length,
and the next starts at or after both. Log 36: DEDUCED. -/
def newWave (s : State) (n duty phase t : Nat) : Wav :=
  let w := wavOf s n
  let live := if n < 96 then pulsesNear s n w t else []
  let own := (live.find? (fun p => decide (p.1 < (t : Int) ∧ (t : Int) < p.1 + p.2.1))).elim 0 (fun p => (p.1 + p.2.1).toNat)
  let hb :=
    let T := perOf s n
    let h := rnd (min w.duty 65536 * T) 65536
    let a := rnd (w.phase * T) 65536
    let st := if fbit s (R.PWM_CH_CFG n) F.PWM_CH_CFG_ALIGN then a + T - h / 2 else a
    let e := if T = 0 then 0 else (t + T * (st / T + 1) - st) % T
    if 96 ≤ n ∧ 0 < e ∧ e < h ∧ w.from_ + e ≤ t then t - e + h else 0
  let land := match w.land with | some (g, e) => if g ≤ t ∧ t < e then e else 0 | none => 0
  let tail := max (max own hb) (if t < w.tail then w.tail else 0)
  { duty := min duty 65536, phase := phase, from_ := max t (max tail land), tail := tail,
    land := if land = 0 then none else w.land, seen := t }

/-- Bring a channel's shadow into its active register (R237). Log 36: DEDUCED. -/
def chTransfer (n : Nat) (s : State) : State :=
  let s1 := waveFold n s
  let d := fget s (R.PWM_CH_DUTY n) F.PWM_CH_DUTY_DUTY
  let w := newWave s1 n d (fget s (R.PWM_CH_PHASE n) F.PWM_CH_PHASE_PHASE) (s.tb * unitOf n)
  fset (setWav n w s1) (R.PWM_CH_STAT n) F.PWM_CH_STAT_ACT_DUTY w.duty

/-- The transfer of a group (R237): every shadow of the group in one tick, and the group disarms. -/
def lgTransfer (k : Nat) (s : State) : State :=
  let s0 := forN 104 (fun n s => if lgOf s n = k then waveFold n s else s) s
  let s1 := forN 104 (fun n s => if lgOf s n = k then chTransfer n s else s) s0
  let s2 := fsetb { s1 with pwm := { s1.pwm with xferAt := smIns k s.tb s1.pwm.xferAt } } (R.PWM_LG_STAT k) F.PWM_LG_STAT_ARMED false
  rsetN (fincWrap s2 (R.PWM_LG_STAT k) F.PWM_LG_STAT_TRANSFERS) (R.PWM_LG_XTB k) s.tb

/-- LG_TRANSFER (R237): the first boundary strictly after the tick in which LOAD_ALL was sampled; none during a freeze (R246). -/
def execLgTransfer (k : Fin 8) (s : State) : Out :=
  .next (if lgDue s k.val then staged (lgTransfer k.val) s else s)

/-! ### Forces -/

/-- Every value of a force word is NONE or OFF. Log 36: DEDUCED. -/
def offOnly (groups one : Nat) : Bool :=
  (List.range 16).all (fun g => decide (groups / 4 ^ g % 4 ≤ 1)) && decide (one / 128 % 4 ≤ 1)

/-- FORCE_COMMIT (R241): the shadows take effect at the next tick; with CLEAR_ALL in the same write only the release acts. -/
def execForceCommit (who : Fin 36) (clear : Bool) (s : State) : Out :=
  .next (
    let g := (rget s R.PWM_FORCE_SH).toNat
    let o := (rget s R.PWM_FORCE_ONE).toNat
    rapDo s who.val (.force (clear || offOnly g o)) 10 R.PWM_FORCE_CTRL fun s =>
      if clear then { s with pwm := { s.pwm with release := some 0, pend := none } }
      else { s with pwm := { s.pwm with pend := some ⟨g, o, who.val⟩, commitAt := s.tb } })

/-- FORCE_CLEAR_ALL (R242). -/
def execForceClearAll (who : Fin 36) (s : State) : Out :=
  .next (rapDo s who.val (.force true) 10 R.PWM_FORCE_CTRL fun s => { s with pwm := { s.pwm with release := some 0, pend := none } })

/-- A force is in effect or on its way. -/
def forcing (s : State) : Bool :=
  rget s R.PWM_FORCE_ACT != 0 || fget s R.PWM_FORCE_ONE_ACT F.PWM_FORCE_ONE_ACT_VAL != 0 || s.pwm.pend.isSome

/-- FORCE_TIMEOUT (R242): no further COMMIT within FORCE_TMO. -/
def execForceTimeout (s : State) : Out :=
  .next (if forcing s ∧ s.pwm.commitAt + fget s R.PWM_HOLD F.PWM_HOLD_FORCE_TMO * secTicks ≤ s.tb then
      { s with pwm := { s.pwm with release := some 1, pend := none } } else s)

/-- The session that committed the forces ends (R242): they are released at the next tick. -/
def forceSessionEnd (who : Nat) (s : State) : State :=
  let p := match s.pwm.pend with | some p => p.who == who | none => false
  if s.pwm.by_ = some who ∨ p = true then { s with pwm := { s.pwm with release := some 2, pend := none } } else s

/-- Release every force to NONE (R242), with its record: cause 0 CLEAR_ALL, 1 timeout, 2 the session ended, 3 PD10 went off, 6 key-off. Log 36: DEDUCED. -/
def forceRelease (cause : Nat) (s : State) : State :=
  let s0 := { s with pwm := { s.pwm with release := none, by_ := none } }
  if forcing s0 = false then s0
  else raise (rsetN (rsetN s0 R.PWM_FORCE_ACT 0) R.PWM_FORCE_ONE_ACT 0) Ev.FORCE_RELEASE [cause]

/-- The forces that take effect in a tick (R241, R242): a release, then a commit; none during a freeze (R246). Log 3: DESIGN CHOICE. Log 36: DEDUCED. -/
def forceTick (s : State) : State :=
  if s.pwm.frozen.isSome ∨ domOn s 10 = false then s
  else match s.pwm.release, s.pwm.pend with
    | some c, _ => staged (forceRelease c) s
    | none, some p => staged (fun s =>
        rsetN (rsetN { s with pwm := { s.pwm with pend := none, by_ := some p.who } } R.PWM_FORCE_ACT p.groups) R.PWM_FORCE_ONE_ACT p.one) s
    | none, none => s

end Sys2Proof.Machine
end

