-- ==== Sys2Proof/Machine/Stage.lean ====
section
/-!
DEFINITION. Machine/Stage.lean: trip inputs (R243 to R245), ownership and the hold-over watchdog (R33, R247), the freeze (R246), halter
mode's entry (R269) and pair-wired channels (R266).
-/

namespace Sys2Proof.Machine

/-! ### Trips -/

/-- The groups a trip input masks. -/
def tripMask (s : State) (k : Nat) : Nat := fget s (R.PWM_TRIP_MASK k) F.PWM_TRIP_MASK_MASK

/-- Set a trip latch (R243): with an empty mask it never sets (R244). -/
def tripSet (k first : Nat) (s : State) : State :=
  if tripMask s k = 0 ∨ fbit s (R.PWM_TRIP_STAT k) F.PWM_TRIP_STAT_LATCH then s
  else
    let s1 := fincSat (fsetb s (R.PWM_TRIP_STAT k) F.PWM_TRIP_STAT_LATCH true) (R.PWM_TRIP_STAT k) F.PWM_TRIP_STAT_COUNT
    fault (rsetN s1 (R.PWM_TRIP_TB k) first) Ev.TRIP [k, first]

/-- What the output stage holds of a trip input. -/
def tripSt (s : State) (k : Nat) : TripSt := smGet (fun _ => ⟨0, none⟩) s.pwm.trips k

/-- Record it. -/
def setTrip (k : Nat) (f : TripSt → TripSt) (s : State) : State :=
  { s with pwm := { s.pwm with trips := smIns k (f (tripSt s k)) s.pwm.trips } }

/-- The filter length of a trip input in ticks (R243). -/
def tripLen (s : State) (k : Nat) : Nat :=
  fget s (R.PWM_TRIP_CFG k) F.PWM_TRIP_CFG_LEN * (if fbit s (R.PWM_TRIP_CFG k) F.PWM_TRIP_CFG_UNIT then usTicks 1 else 1)

/-- TRIP_ACTIVE (R243): the filtered level becomes active, its first sample Lf ticks ago. A CLEAR sampled in this tick is refused (R244): a latch that it
cleared stands again, with no new setting. Log 36: DEDUCED. -/
def execTripActive (k : Fin 8) (s : State) : Out :=
  .next (if fbit s (R.PWM_TRIP_STAT k.val) F.PWM_TRIP_STAT_LEVEL ∨ s.pwr.tbRun = false then s
    else
      let first := s.tb - tripLen s k.val
      staged (fun s =>
        let s1 := fsetb s (R.PWM_TRIP_STAT k.val) F.PWM_TRIP_STAT_LEVEL true
        match (tripSt s k.val).clr with
        | some (t, true, n) =>
          if t = s.tb ∧ tripMask s k.val ≠ 0 then
            fault (fset (fincSat s1 (R.PWM_TRIP_STAT k.val) F.PWM_TRIP_STAT_CLEAR_REFUSED) (R.PWM_TRIP_STAT k.val) F.PWM_TRIP_STAT_LATCH n) Ev.TRIP
              [k.val, (rget s (R.PWM_TRIP_TB k.val)).toNat]
          else tripSet k.val first s1
        | _ => tripSet k.val first s1) s)

/-- The latch clears (R244). -/
def tripClear (k : Nat) (s : State) : State :=
  if fbit s (R.PWM_TRIP_STAT k) F.PWM_TRIP_STAT_LATCH then
    staged (fun s => faultEnd (fsetb s (R.PWM_TRIP_STAT k) F.PWM_TRIP_STAT_LATCH false) Ev.TRIP [k]) s
  else s

/-- TRIP_INACTIVE (R243). A CLEAR sampled in this tick is accepted (R244). Log 36: DEDUCED. -/
def execTripInactive (k : Fin 8) (s : State) : Out :=
  .next (if fbit s (R.PWM_TRIP_STAT k.val) F.PWM_TRIP_STAT_LEVEL = false ∨ s.pwr.tbRun = false then s
    else
      let s1 := setTrip k.val (fun x => { x with quiet := s.tb }) (fsetb s (R.PWM_TRIP_STAT k.val) F.PWM_TRIP_STAT_LEVEL false)
      match (tripSt s k.val).clr with
      | some (t, false, n) => if t = s.tb then tripClear k.val (fset s1 (R.PWM_TRIP_STAT k.val) F.PWM_TRIP_STAT_CLEAR_REFUSED n) else s1
      | _ => s1)

/-- TRIP_CLEAR (R244): ignored with an empty mask, refused while the filtered level is active. -/
def execTripClear (who : Fin 36) (k : Fin 8) (s : State) : Out :=
  .next (rapDo s who.val .other 0 (R.PWM_TRIP_STAT k.val) fun s =>
    if tripMask s k.val = 0 then s
    else if fbit s (R.PWM_TRIP_STAT k.val) F.PWM_TRIP_STAT_LEVEL then
      setTrip k.val (fun x => { x with clr := some (s.tb, false, fget s (R.PWM_TRIP_STAT k.val) F.PWM_TRIP_STAT_CLEAR_REFUSED) })
        (fincSat s (R.PWM_TRIP_STAT k.val) F.PWM_TRIP_STAT_CLEAR_REFUSED)
    else tripClear k.val (setTrip k.val (fun x =>
      { x with clr := some (s.tb, true, fget s (R.PWM_TRIP_STAT k.val) F.PWM_TRIP_STAT_LATCH) }) s))

/-- TRIP_AUTO_RELEASE (R244): MODE AUTO, inactive for RELEASE. -/
def execTripAutoRelease (k : Fin 8) (s : State) : Out :=
  .next (
    let quiet := (tripSt s k.val).quiet
    if fbit s (R.PWM_TRIP_CFG k.val) F.PWM_TRIP_CFG_MODE ∧ fbit s (R.PWM_TRIP_STAT k.val) F.PWM_TRIP_STAT_LEVEL = false ∧
        quiet + msTicks (fget s (R.PWM_TRIP_MASK k.val) F.PWM_TRIP_MASK_RELEASE) ≤ s.tb then tripClear k.val s else s)

/-- TRIP_SAFE_SAMPLE (R245): TB is stopped and the input has been active for 4 SAFE cycles. -/
def execTripSafeSample (k : Fin 8) (s : State) : Out :=
  .next (if s.pwr.tbRun then s else staged (tripSet k.val s.tb) s)

/-! ### Ownership and the watchdog -/

/-- The core is alive, but for halter mode itself (R269, LSW_HALTER_STAT.CORE_ALIVE). -/
def coreAlive (s : State) : Bool :=
  domPow s 1 && domPow s 10 && !s.pwm.halted
    && (match s.pwm.ownAt with | some t => !s.pwr.tbRun || decide (s.tb ≤ t + msTicks 20) | none => false)

/-- WATCHDOG_START (R247): it runs from a freeze, a reset of PD1 or PD10, or a core that stops renewing ownership. -/
def wdStart (s : State) : State :=
  if s.pwm.wd.isSome ∨ fbit s R.PWM_STATUS F.PWM_STATUS_OWNED = false then s
  else fsetb { s with pwm := { s.pwm with wd := some s.tb } } R.PWM_STATUS F.PWM_STATUS_WD_RUN true

/-- The watchdog expires (R247): every non-halter output and every gate goes to its safe state. -/
def wdExpire (s : State) : State :=
  let s1 := { s with pwm := { s.pwm with wd := none, held := none } }
  let s2 := fsetb (fsetb s1 R.PWM_STATUS F.PWM_STATUS_WD_RUN false) R.PWM_STATUS F.PWM_STATUS_OWNED false
  fault (fsetb s2 R.PWM_STATUS F.PWM_STATUS_WD_EXPIRED true) Ev.WD_EXPIRED []

/-- HOLD_MS has elapsed on AO since the watchdog started (R247, R502). Log 63: DESIGN CHOICE. -/
def wdDue (s : State) : Bool :=
  match s.pwm.wd with
  | some t => aoElapsed s t (msTicks (fget s R.PWM_HOLD F.PWM_HOLD_HOLD_MS))
  | none => false

/-- WD_EXPIRED (R247): not while the watchdog is suspended. -/
def execWdExpired (s : State) : Out :=
  .next (if wdDue s ∧ fbit s R.PWM_CTRL F.PWM_CTRL_WD_SUSPEND = false then staged wdExpire s else s)

/-- Firmware's OWN reaches the output stage (R247): it takes levels 5 to 7 from the generator again. -/
def own (s : State) : State :=
  let s1 := faultPast { s with pwm := { s.pwm with ownAt := some s.tb, wd := none, held := none } } Ev.WD_EXPIRED []
  fsetb (fsetb s1 R.PWM_STATUS F.PWM_STATUS_WD_RUN false) R.PWM_STATUS F.PWM_STATUS_OWNED true

/-- OWN_WRITE (R247): an expiry in the same AO tick prevails and the OWN is lost. -/
def execOwnWrite (expiry : Bool) (s : State) : Out :=
  .next (if domOn s 1 = false ∨ domOn s 10 = false ∨ s.pwm.halted ∨ s.pwm.frozen.isSome then s
    else if expiry && s.pwm.wd.isSome && !fbit s R.PWM_CTRL F.PWM_CTRL_WD_SUSPEND then staged wdExpire s
    else staged own s)

/-- WD_SUSPEND_WRITE (R247, R390): only in a debug session. -/
def execWdSuspendWrite (who : Fin 36) (b : Bool) (s : State) : Out :=
  .next (rapDo s who.val .debug 10 R.PWM_CTRL fun s =>
    if fbit s R.PWM_CTRL F.PWM_CTRL_WD_SUSPEND = b then s
    else raise (fsetb (fsetb s R.PWM_CTRL F.PWM_CTRL_WD_SUSPEND b) R.PWM_STATUS F.PWM_STATUS_WD_SUSP b) Ev.WD_SUSPEND [b2n b])

/-- The values levels 5 to 7 give now, by channel (R33, R246). -/
def lowValues (s : State) : List Bool :=
  (List.range 96).map (fun n => driveAt s n (lowDrive s n) s.tb) ++
    (List.range 4).foldl (fun l m => let g := hbGates s m (s.tb * 32); l ++ [g.1, g.2]) []

/-- The output stage holds what it last received from levels 5 to 7, and the watchdog starts (R33, R247). -/
def hold (s : State) : State :=
  if fbit s R.PWM_STATUS F.PWM_STATUS_OWNED = false then s
  else wdStart (if s.pwm.held.isSome then s else { s with pwm := { s.pwm with held := some (lowValues s) } })

/-- The generator freezes (R246). -/
def freeze (s : State) : State :=
  let s1 := hold s
  fsetb { s1 with pwm := { s1.pwm with frozen := some (s.pwm.frozen.getD s.tb) } } R.PWM_STATUS F.PWM_STATUS_FROZEN true

/-- The freeze ends: each channel takes the waveform value that TB gives (R246). -/
def unfreeze (s : State) : State :=
  fsetb { s with pwm := { s.pwm with frozen := none, held := none } } R.PWM_STATUS F.PWM_STATUS_FROZEN false

/-! ### Halter mode's entry -/

/-- HALTER_ENTRY (R269, R270): inputs inactive at entry are ARMED. Log 38: DEDUCED. -/
def halterEnter (s : State) : State :=
  if halterActive s then s
  else
    let in_ := fget s R.LSW_HALTER_STAT F.LSW_HALTER_STAT_IN
    let s1 := fsetb s R.LSW_HALTER_STAT F.LSW_HALTER_STAT_ACTIVE true
    let s2 := fset s1 R.LSW_HALTER_STAT F.LSW_HALTER_STAT_ARMED (255 - in_)
    raise { s2 with lsw := { s2.lsw with pulseOn := [] } } Ev.HALTER_ENTRY []

/-- A core that is not alive with HALTER_EN accepted active enters halter mode (R269); not in sleep (R471). -/
def halterCheck (s : State) : State :=
  if fbit s R.LSW_HALTER_STAT F.LSW_HALTER_STAT_EN ∧ coreAlive s = false ∧ s.pwr.asleep = false then halterEnter s else s

/-- CORE_NOT_ALIVE (R269): OWN has not come within 20 ms, or PD1 or PD10 has stopped. -/
def execCoreNotAlive (s : State) : Out :=
  .next (if coreAlive s then s else staged (fun s => halterCheck (wdStart s)) s)

/-! ### Pair-wired channels -/

/-- A change of a pair-wired channel takes effect (R266). -/
def pairApply (n : Nat) (gate : Bool) (force duty phase : Nat) (s : State) : State :=
  let w := wavOf s n
  let s1 := if w.duty = duty ∧ w.phase = phase then s
    else fset (setWav n (newWave s n duty phase s.tb) (waveFold n s)) (R.PWM_CH_STAT n) F.PWM_CH_STAT_ACT_DUTY (min duty 65536)
  { s1 with pwm := { s1.pwm with pair := smIns n ⟨gate, force⟩ s1.pwm.pair } }

/-- PAIR_WIRED_UPDATE (R266): at its tick, or on arrival where that has passed. -/
def execPairWiredUpdate (ch : Fin 96) (gate : Bool) (force : Fin 4) (duty phase tick : Nat) (s : State) : Out :=
  .next (if drives s ∨ fbit s (R.LSW_CH_CFG1 ch.val) F.LSW_CH_CFG1_PAIR_WIRED = false then s
    else if tick ≤ s.tb then staged (pairApply ch.val gate force.val duty (phase % 65536)) s
    else { s with pwm := { s.pwm with pairPend := s.pwm.pairPend ++ [(tick, ch.val, gate, force.val, duty, phase % 65536)] } })

/-- The changes whose tick has come. Log 3: DESIGN CHOICE. -/
def pairTick (s : State) : State :=
  match s.pwm.pairPend.filter (fun x => decide (x.1 ≤ s.tb)) with
  | [] => s
  | l => staged (fun s => forEach l (fun x s => pairApply x.2.1 x.2.2.1 x.2.2.2.1 x.2.2.2.2.1 x.2.2.2.2.2 s)
      { s with pwm := { s.pwm with pairPend := s.pwm.pairPend.filter (fun x => decide (s.tb < x.1)) } }) s

end Sys2Proof.Machine
end

