-- ==== Sys2Proof/Machine/Load.lean ====
section
/-!
DEFINITION. Machine/Load.lean: load channels (R253 to R267): current samples, overcurrent, open load, retries, latches, the clamp
account, feed under-voltage, switch segments and the half-bridge drivers.
-/

namespace Sys2Proof.Machine

/-! ### The farrier's counts -/

/-- Count a unit of a kind out of service (R428, FAR_CAPk). -/
def capRetire (k : Nat) (s : State) : State :=
  let a := R.FAR_CAP k
  fsetb (fincSat (fset s a F.FAR_CAP_IN_SERVICE (fget s a F.FAR_CAP_IN_SERVICE - 1)) a F.FAR_CAP_RETIRED) a F.FAR_CAP_LOST true

/-- CAPACITY_LOST (R428). -/
def capacityLost (k i : Nat) (s : State) : State :=
  fault (fsetb s R.FAR_STATUS F.FAR_STATUS_CAPACITY_LOST true) Ev.CAPACITY_LOST [k, i]

/-- A test has failed (R416). Log 39: DEDUCED. -/
def testFailed (k i t : Nat) (sig : Int) (s : State) : State :=
  raise (fset (fset s R.FAR_LAST F.FAR_LAST_KIND k) R.FAR_LAST F.FAR_LAST_INDEX i) Ev.FAR_TEST_FAIL [k, i, t, sig]

/-! ### Retries and latches -/

/-- The channel's status register, and its bits by name. -/
def chBit (s : State) (n : Nat) (f : Fld) : Bool := fbit s (R.LSW_CH_STAT n) f

/-- The cluster of a channel is at its warning level (R258). -/
def clusterWarn (s : State) (n : Nat) : Bool := fbit s (R.LSW_CLUSTER (n / 8)) F.LSW_CLUSTER_WARN

/-- Hold a channel's gap and window to R258 and R264: the gap of a pending retry freezes while the cluster is at its warning level, the
window freezes with it and in feed under-voltage. -/
def retrySync (n : Nat) (s : State) : State :=
  let c := lch s n
  let gapStop := chBit s n F.LSW_CH_STAT_RETRYING && !c.held && clusterWarn s n
  let winStop := gapStop || chBit s n F.LSW_CH_STAT_FEED_UV
  let s1 := setLch n (fun c =>
    { c with
      due := if gapStop then none else match c.left with | some l => some (s.tb + l) | none => c.due
      left := if gapStop then (match c.due with | some d => some (d - s.tb) | none => c.left) else none
      winEnd := if winStop then none else match c.winLeft with | some l => some (s.tb + l) | none => c.winEnd
      winLeft := if winStop then (match c.winEnd with | some d => some (d - s.tb) | none => c.winLeft) else none }) s
  let s2 := fsetb s1 (R.LSW_CH_STAT n) F.LSW_CH_STAT_RETRY_PAUSED gapStop
  if gapStop = chBit s n F.LSW_CH_STAT_RETRY_PAUSED then s2
  else raise s2 (if gapStop then Ev.RETRY_PAUSED else Ev.RETRY_RESUMED) [n, s.tb]

/-- The retry window ends (R258). Log 37: DEDUCED. -/
def windowEnd (c : LswCh) : LswCh := { c with winEnd := none, winLeft := none, used := 0 }

/-- Note the tick at which a latch sets (R273). -/
def latchNote (n : Nat) (f : Fld) (s : State) : State := setLch n (fun c => { c with latchAt := smIns f.lo s.tb c.latchAt }) s

/-- Set SHORT_LATCH or OC_LATCH (R258): setting a latch ends the window. -/
def tripLatch (n : Nat) (short : Bool) (s : State) : State :=
  let s1 := setLch n (fun c => { windowEnd c with due := none, left := none, held := false }) s
  let f := if short then F.LSW_CH_STAT_SHORT_LATCH else F.LSW_CH_STAT_OC_LATCH
  let s2 := latchNote n f (fsetb s1 (R.LSW_CH_STAT n) f true)
  fault s2 (if short then Ev.SHORT_LATCH else Ev.OC_LATCH) [n, s.tb]

/-- A retry window that has elapsed is over (R258). -/
def windowPast (n : Nat) (s : State) : State :=
  match (lch s n).winEnd with
  | some e => if e ≤ s.tb then setLch n windowEnd s else s
  | none => s

/-- A short or overcurrent trip (R257, R258). Log 37: DEDUCED. -/
def chTrip (n : Nat) (short : Bool) (s0 : State) : State :=
  let s := windowPast n s0
  let s1 := fincSat s (R.LSW_CH_CNT n) (if short then F.LSW_CH_CNT_SHORTS else F.LSW_CH_CNT_OC_TRIPS)
  let s2 := fault s1 (if short then Ev.SHORT_TRIP else Ev.OC_TRIP) [n, s.tb]
  let s3 := if short then s2 else setLch n (fun c => { c with ocRun := 0 }) s2
  let N := fget s (R.LSW_CH_CFG0 n) F.LSW_CH_CFG0_RETRY_N
  let c := lch s n
  if N = 0 ∨ N ≤ c.used then tripLatch n short s3
  else
    let gap := msTicks (fget s (R.LSW_CH_CFG0 n) F.LSW_CH_CFG0_RETRY_GAP)
    let win := msTicks (10 * fget s (R.LSW_CH_CFG0 n) F.LSW_CH_CFG0_RETRY_WIN)
    let s4 := setLch n (fun c =>
      { c with due := some (s.tb + gap), winEnd := if c.winEnd.isNone && c.winLeft.isNone then some (s.tb + win) else c.winEnd }) s3
    retrySync n (fsetb s4 (R.LSW_CH_STAT n) F.LSW_CH_STAT_RETRYING true)

/-- A trip of the power stage is over: the channel retries, or a latch takes its place (R258, R450). Log 23: DEDUCED. -/
def tripPast (n : Nat) (s : State) : State := faultPast (faultPast s Ev.SHORT_TRIP [n]) Ev.OC_TRIP [n]

/-- Make a retry (R258): the channel takes the value of the highest active level. Log 37: DEDUCED. -/
def retryMake (n : Nat) (s : State) : State :=
  let s1 := setLch n (fun c => { c with due := none, left := none, held := false, used := c.used + 1 }) (tripPast n s)
  let s2 := fsetb s1 (R.LSW_CH_STAT n) F.LSW_CH_STAT_RETRYING false
  retrySync n (raise (fincSat s2 (R.LSW_CH_CNT n) F.LSW_CH_CNT_RETRIES) Ev.RETRY [n, s.tb])

/-- SHORT_TRIP (R253, R257): the power stage acts with PD0 alone; the retry counting needs PD10, so without it the trip latches. -/
def execShortTrip (ch : Fin 96) (s : State) : Out :=
  .next (if domPow s 0 = false ∨ protOff s ch.val then s
    else staged (fun s => if domPow s 10 then chTrip ch.val true s
      else tripLatch ch.val true (fault (fincSat s (R.LSW_CH_CNT ch.val) F.LSW_CH_CNT_SHORTS) Ev.SHORT_TRIP [ch.val, s.tb])) s)

/-- RETRY (R258, R264): the gap has ended. During feed under-voltage the retry is held. -/
def execRetry (ch : Fin 96) (s : State) : Out :=
  .next (
    let n := ch.val
    match (lch s n).due with
    | some d =>
      if s.tb < d ∨ chBit s n F.LSW_CH_STAT_RETRYING = false ∨ domOn s 10 = false then s
      else if clusterWarn s n then retrySync n s
      else if chBit s n F.LSW_CH_STAT_FEED_UV then setLch n (fun c => { c with due := none, held := true }) s
      else staged (retryMake n) s
    | none => s)

/-- RETRY_WINDOW_END (R258): the window elapses. -/
def execRetryWindowEnd (ch : Fin 96) (s : State) : Out :=
  .next (windowPast ch.val s)

/-! ### Evidence of the load -/

/-- Mark an output's evidence from a stamp on (R260): whether an ON applies. -/
def evLoad (n t : Nat) (ok : Bool) (s : State) : State :=
  let o := outSt s n
  let before := o.evid.filter (fun e => decide (e.tick < t))
  let after := o.evid.filter (fun e => decide (t ≤ e.tick))
  let cut := match before.getLast? with
    | some e => if after.any (fun x => x.tick == t) then [] else [{ e with tick := t, load := ok }]
    | none => []
  let s1 := if (outEnt s n).isNone then s else setOut s n { o with evid := before ++ cut ++ after.map (fun e => { e with load := ok }) }
  { s1 with pwm := { s1.pwm with sw := smSet segInit n { swOf s1 n with load := ok } s1.pwm.sw } }

/-! ### Segments -/

/-- A channel is RETIRED (R265, R423): too few segments for its rating, or its cluster's converter has failed. -/
def chRetired (s : State) (n : Nat) : Bool :=
  let k := 4 - (lch s n).dead.length
  k ≤ 1 || (k == 2 && decide (25 < fget s (R.LSW_CH_CFG1 n) F.LSW_CH_CFG1_I_RATED)) || s.far.adcFail.contains (n / 8)

/-- Show the segments in service of a channel, and whether it is RETIRED or DERATED (R265). -/
def segShow (n : Nat) (s : State) : State :=
  let a := R.LSW_CH_STAT n
  let k := 4 - (lch s n).dead.length
  let gone := chRetired s n
  fsetb (fsetb (fset s a F.LSW_CH_STAT_SEGS k) a F.LSW_CH_STAT_RETIRED gone) a F.LSW_CH_STAT_DERATED (!gone && decide (k < 4))

/-- Retire a switch segment (R265, R422), without interrupting the channel. -/
def segRetire (n : Nat) (g : Fin 4) (s : State) : State :=
  if g ∈ (lch s n).dead then s
  else
    let s1 := setLch n (fun c => { c with dead := c.dead ++ [g] }) s
    let s2 := segShow n (capRetire 11 { s1 with far := { s1.far with retired := s1.far.retired ++ [(11, 4 * n + g.val)] } })
    let k := 4 - (lch s1 n).dead.length
    if chRetired s1 n ∨ (k = 3 ∧ 37 < fget s (R.LSW_CH_CFG1 n) F.LSW_CH_CFG1_I_RATED) then capacityLost 11 (4 * n + g.val) s2 else s2

/-- The overcurrent threshold in effect in codes of 2.5 mA (R265). -/
def ocThr (s : State) (n : Nat) : Nat :=
  let t := fget s (R.LSW_CH_CFG0 n) F.LSW_CH_CFG0_OC_THR
  20 * (match fget s (R.LSW_CH_STAT n) F.LSW_CH_STAT_SEGS with
    | 4 => t
    | 3 => min t 120
    | _ => min t 80)

/-- The share check of one segment (R422). -/
def segShare (n code : Nat) (g : Fin 4) (cur : Nat) (s : State) : State :=
  if g ∈ (lch s n).dead then s
  else
    let old := (lch s n).share.getD g.val (0, 0)
    let new := (if cur * 100 < 5 * code then old.1 + 1 else 0, if cur * 100 < 15 * code then old.2 + 1 else 0)
    let s1 := setLch n (fun c => { c with share := (List.range 4).map (fun j => if j = g.val then new else c.share.getD j (0, 0)) }) s
    if 3 ≤ new.1 ∨ 32 ≤ new.2 then segRetire n g (testFailed 11 (4 * n + g.val) 1 cur s1) else s1

/-- Has a time passed since the last slice of a unit, or of a kind under unit 0 (R420)? -/
def farDue (s : State) (k i n : Nat) : Bool := match smFind s.far.sliceAt (key2 k i) with
  | some t => elapsed s t n
  | none => true

/-- Stamp a slice. -/
def farStamp (k i : Nat) (s : State) : State := { s with far := { s.far with sliceAt := smIns (key2 k i) s.tb s.far.sliceAt } }

/-- SEGMENT_STUCK_CHECK (R420, R422): a segment that conducts in a channel that is off makes it STUCK_ON. -/
def execSegmentStuckCheck (ch : Fin 96) (seg : Option (Fin 4)) (s : State) : Out :=
  .next (if domOn s 10 = false ∨ actualOn s ch.val ∨ farDue s 11 ch.val (msTicks 100) = false then s
    else
      let s1 := farStamp 11 ch.val s
      match seg with
      | some g => if chBit s1 ch.val F.LSW_CH_STAT_STUCK_ON then s1
          else staged (fun s => fault (fsetb s (R.LSW_CH_STAT ch.val) F.LSW_CH_STAT_STUCK_ON true) Ev.STUCK_ON [ch.val, g.val]) s1
      | none => s1)

/-! ### Current samples -/

/-- The feed and module currents (R255, R275). -/
def sumCurrents (n : Nat) (s : State) : State :=
  let cur (l : List Nat) : Nat := (l.map (fun k => fget s (R.LSW_CH_CUR k) F.LSW_CH_CUR_CUR)).foldl (· + ·) 0
  let f := n / 16
  let feed := (divOpen (cur ((List.range 16).map (16 * f + ·))) 4).toNat
  let all := (divOpen (cur (List.range 96)) 40).toNat
  fset (fset s (R.LSW_FEED_STAT f) F.LSW_FEED_STAT_CURRENT (min 0xFFF feed)) R.LSW_TOTAL F.LSW_TOTAL_CURRENT (fitU 12 all)

/-- The overcurrent test of a qualifying on-sample (R257). -/
def ocTest (n code : Nat) (s : State) : State :=
  let run := if ocThr s n < code then (lch s n).ocRun + 1 else 0
  let s1 := setLch n (fun c => { c with ocRun := run }) s
  if fget s (R.LSW_CH_CFG0 n) F.LSW_CH_CFG0_OC_N ≤ run then chTrip n false s1 else s1

/-- Open load sets or clears (R260), from the stamp of the first of three samples. Log 37: DEDUCED. -/
def openLoad (n : Nat) (b : Bool) (t : Nat) (s : State) : State :=
  if chBit s n F.LSW_CH_STAT_OPEN_LOAD = b then s
  else
    let s1 := evLoad n t (!b) (fsetb s (R.LSW_CH_STAT n) F.LSW_CH_STAT_OPEN_LOAD b)
    if b then fault s1 Ev.OPEN_LOAD [n, t] else faultEnd s1 Ev.OPEN_LOAD [n, t]

/-- The open-load test of a qualifying on-sample (R260). With OL_THR 0 the check is off. Log 37: DEDUCED. -/
def olTest (n code : Nat) (s : State) : State :=
  let thr := 4 * fget s (R.LSW_CH_CFG1 n) F.LSW_CH_CFG1_OL_THR
  let s1 := setLch n (fun c =>
    if code < thr then
      { c with lowRun := c.lowRun + 1, lowAt := if c.lowRun = 0 then s.tb else c.lowAt, highRun := 0, qualAt := s.tb }
    else
      { c with highRun := c.highRun + 1, highAt := if c.highRun = 0 then s.tb else c.highAt, lowRun := 0, qualAt := s.tb }) s
  let s2 := fsetb s1 (R.LSW_CH_STAT n) F.LSW_CH_STAT_OL_UNKNOWN false
  if thr = 0 then s2
  else
    let c := lch s2 n
    if c.lowRun = 3 then openLoad n true c.lowAt s2 else if c.highRun = 3 then openLoad n false c.highAt s2 else s2

/-- The feed's filtered voltage (R263), with its history for the sampling points of R231. -/
def feedVolt (f mv : Nat) (s0 : State) : State :=
  let s := forN 16 (fun i s => waveFold (16 * f + i) s) s0
  let h := (smGet (fun _ => []) s.pwm.volts f)
  let keep := h.filter (fun x => decide (s.tb ≤ x.1 + secTicks))
  let s1 := { s with pwm := { s.pwm with volts := smIns f ((s.tb, mv) :: keep) s.pwm.volts } }
  fset s1 (R.LSW_FEED_STAT f) F.LSW_FEED_STAT_VOLT (fitU 10 (divOpen mv 100).toNat)

/-- A reading enters the sums of the last second (R255), in buckets of 10 ms. -/
def loadAdd (f code : Nat) (s : State) : State :=
  let b := s.tb / msTicks 10
  let l := (smGet (fun _ => []) s.lsw.load f).filter (fun x => decide (b ≤ x.1 + 100))
  { s with lsw := { s.lsw with load := smIns f (smSet zero b (smGet zero l b + code) l) s.lsw.load } }

/-- The mean current of a feed over the last second in mA (R255): each channel is read 4,000 times in it, in codes of 2.5 mA. Log 37: DEDUCED. -/
def loadSum (s : State) (f : Nat) : Nat :=
  let b := s.tb / msTicks 10
  (((smGet (fun _ => []) s.lsw.load f).filter (fun x => decide (b ≤ x.1 + 100 ∧ x.1 < b))).map (·.2)).foldl (· + ·) 0

/-- Has a channel actually been on for at least 50 µs (R256)? -/
def qualifies (s : State) (n : Nat) : Bool :=
  match onSince s n with
  | some t => decide (t + usTicks 50 ≤ s.tb)
  | none => false

/-- CURRENT_SAMPLE (R256): the reading of a channel at its sample tick, its segments' currents, the reading of the partner where the
channel is pair-wired (R267), and the feed's voltage after its filter. Log 37: DEDUCED. Log 64: DESIGN CHOICE. -/
def execCurrentSample (ch : Fin 96) (code : BitVec 12) (segs : SegCur) (partner : BitVec 12) (mv : Nat) (s : State) : Out :=
  .next (
    let n := ch.val
    if domOn s 10 = false ∨ s.tb % 50000 ≠ 6250 * (n % 8) ∨ n / 8 ∈ s.far.adcFail then s
    else staged (fun s0 =>
      let wired := fbit s0 (R.LSW_CH_CFG1 n) F.LSW_CH_CFG1_PAIR_WIRED
      let s := if wired ∧ (outEnt s0 n).isSome then mateTake n (decide (max 1 (4 * fget s0 (R.LSW_CH_CFG1 n) F.LSW_CH_CFG1_OL_THR) ≤ partner.toNat)) s0 else s0
      let told := if wired ∧ s0.pwr.paired then send s MsgKind.PL_READING (midOf s ^^^ 1) [(n : Int), (code.toNat : Int), (s.tb : Int)] else s
      let s1 := sumCurrents n (loadAdd (n / 16) code.toNat (fset (feedVolt (n / 16) mv told) (R.LSW_CH_CUR n) F.LSW_CH_CUR_CUR code.toNat))
      if qualifies s n = false then s1
      else
        let s2 := fset s1 (R.LSW_CH_CUR n) F.LSW_CH_CUR_CUR_ON code.toNat
        let s3 := if code.toNat < 160 then s2
          else forEach [(0, segs.s0), (1, segs.s1), (2, segs.s2), (3, segs.s3)] (fun x s => segShare n code.toNat x.1 x.2.toNat s) s2
        let load := if wired then code.toNat + partner.toNat else code.toNat
        ocTest n code.toNat (olTest n load s3)) s)

/-- OL_UNKNOWN (R260): driven on for 100 ms with no qualifying on-sample; the last open-load state is kept. Log 37: DEDUCED. -/
def execOlUnknown (ch : Fin 96) (s : State) : Out :=
  .next (if domOn s 10 = false ∨ fget s (R.LSW_CH_CFG1 ch.val) F.LSW_CH_CFG1_OL_THR = 0 ∨ (swOf s ch.val).st = 0 ∨
      s.tb < max (lch s ch.val).qualAt (lch s ch.val).driveAt + msTicks 100 then s
    else fsetb s (R.LSW_CH_STAT ch.val) F.LSW_CH_STAT_OL_UNKNOWN true)

/-- FEED_OVERLOAD (R255): the mean current over 1 s of a feed, or of the module, crosses its limit. Nothing is switched off. -/
def execFeedOverload (f : Option (Fin 6)) (s : State) : Out :=
  .next (if domOn s 10 = false then s else match f with
    | some f =>
      let mean := divOpen (loadSum s f.val * 5) 8000
      let on := decide (25000 * 8000 < loadSum s f.val * 5)
      if fbit s (R.LSW_FEED_STAT f.val) F.LSW_FEED_STAT_OVERLOAD = on then s
      else
        let s1 := fsetb s (R.LSW_FEED_STAT f.val) F.LSW_FEED_STAT_OVERLOAD on
        if on then fault s1 Ev.FEED_OVERLOAD [f.val, mean] else faultEnd s1 Ev.FEED_OVERLOAD [f.val]
    | none =>
      let sum : Nat := ((List.range 6).map (loadSum s)).foldl (· + ·) 0
      let mean := divOpen (sum * 5) 8000
      let on := decide (120000 * 8000 < sum * 5)
      if fbit s R.LSW_TOTAL F.LSW_TOTAL_OVERLOAD = on then s
      else
        let s1 := fsetb s R.LSW_TOTAL F.LSW_TOTAL_OVERLOAD on
        if on then fault s1 Ev.MODULE_OVERLOAD [mean] else faultEnd s1 Ev.MODULE_OVERLOAD [])

/-! ### Temperature -/

/-- THERMAL_OFF (R257): the junction reaches 175 °C. The 8th shutdown within 10 s sets THERM_LATCH. -/
def execThermalOff (ch : Fin 96) (s : State) : Out :=
  .next (if domOn s 0 = false ∨ chBit s ch.val F.LSW_CH_STAT_THERMAL then s
    else staged (fun s =>
      let n := ch.val
      let l := s.tb :: (lch s n).therm.filter (fun t => decide (s.tb < t + 10 * secTicks))
      let s1 := fault (setLch n (fun c => { c with therm := l }) (fsetb s (R.LSW_CH_STAT n) F.LSW_CH_STAT_THERMAL true)) Ev.THERMAL_OFF [n, s.tb]
      if l.length < 8 ∨ chBit s n F.LSW_CH_STAT_THERM_LATCH then s1
      else fault (latchNote n F.LSW_CH_STAT_THERM_LATCH (fsetb s1 (R.LSW_CH_STAT n) F.LSW_CH_STAT_THERM_LATCH true)) Ev.THERM_LATCH [n, s.tb]) s)

/-- THERMAL_ON (R257): the junction falls to 160 °C. -/
def execThermalOn (ch : Fin 96) (s : State) : Out :=
  .next (if chBit s ch.val F.LSW_CH_STAT_THERMAL = false then s
    else staged (fun s => faultEnd (fsetb s (R.LSW_CH_STAT ch.val) F.LSW_CH_STAT_THERMAL false) Ev.THERMAL_OFF [ch.val, s.tb]) s)

/-- The channels of a cluster. -/
def clusterChans (c : Nat) : List Nat := (List.range 8).map (8 * c + ·)

/-- CLUSTER_WARN (R258): the cluster's temperature in °C stands at 140 or above; pending retries pause. Log 64: DESIGN CHOICE. -/
def execClusterWarn (c : Fin 12) (temp : BitVec 9) (s : State) : Out :=
  .next (if domOn s 10 = false ∨ temp.toInt < 140 then s
    else forEach (clusterChans c.val) retrySync
      (fsetb (fset s (R.LSW_CLUSTER c.val) F.LSW_CLUSTER_TEMP temp.toNat) (R.LSW_CLUSTER c.val) F.LSW_CLUSTER_WARN true))

/-- CLUSTER_WARN_CLEAR (R258): the cluster falls below 137 °C; paused retries resume. -/
def execClusterWarnClear (c : Fin 12) (temp : BitVec 9) (s : State) : Out :=
  .next (if domOn s 10 = false ∨ 137 ≤ temp.toInt then s
    else forEach (clusterChans c.val) retrySync
      (fsetb (fset s (R.LSW_CLUSTER c.val) F.LSW_CLUSTER_TEMP temp.toNat) (R.LSW_CLUSTER c.val) F.LSW_CLUSTER_WARN false))

/-! ### Clamp account -/

/-- The sliding 1 s sum over 100 buckets of 10 ms (R261). Log 37: DEDUCED. -/
def clampSum (s : State) (n : Nat) : Nat :=
  (((lch s n).clamp.filter (fun b => decide (s.tb / msTicks 10 < b.1 + 100))).map (·.2)).foldl (· + ·) 0

/-- Units of the account in 0.1 mJ: 1 mV · 1 mA over 5 ns, halved. -/
def clampUnit : Nat := 40000000000

/-- CLAMP_BUDGET in the account's units. -/
def clampBudget (s : State) (n : Nat) : Nat := fget s (R.LSW_CH_CFG1 n) F.LSW_CH_CFG1_CLAMP_BUDGET * 100 * clampUnit

/-- CLAMP_EVENT (R261, R262): I0 in mA at the turn-off tick, the clamp time in ticks, and the feed voltage in mV. -/
def execClampEvent (ch : Fin 96) (i0 tcl vf : Nat) (s : State) : Out :=
  .next (if domOn s 10 = false then s else staged (fun s =>
    let n := ch.val
    let e := (vf + 38000) * i0 * tcl
    let b := s.tb / msTicks 10
    let l := (lch s n).clamp.filter (fun x => decide (b < x.1 + 100))
    let s1 := setLch n (fun c => { c with clamp := smSet zero b (smGet zero l b + e) l }) s
    let sum := clampSum s1 n
    let s2 := fset s1 (R.LSW_CH_CLAMP n) F.LSW_CH_CLAMP_LAST_E (min 0xFFFF (divOpen e clampUnit).toNat)
    let s3 := fset s2 (R.LSW_CH_CLAMP n) F.LSW_CH_CLAMP_WIN_SUM (min 0xFFFF (divOpen sum clampUnit).toNat)
    if (1200 * clampUnit < e ∨ clampBudget s n < sum) ∧ chBit s n F.LSW_CH_STAT_CLAMP_LOCK = false then
      fault (latchNote n F.LSW_CH_STAT_CLAMP_LOCK (fsetb s3 (R.LSW_CH_STAT n) F.LSW_CH_STAT_CLAMP_LOCK true)) Ev.CLAMP_LOCK [n, s.tb]
    else s3) s)

/-! ### Clearing latches -/

/-- The latches of a channel with their events (R259). -/
def latches : List (Fld × Ev) :=
  [(F.LSW_CH_STAT_SHORT_LATCH, Ev.SHORT_LATCH), (F.LSW_CH_STAT_OC_LATCH, Ev.OC_LATCH), (F.LSW_CH_STAT_CLAMP_LOCK, Ev.CLAMP_LOCK),
    (F.LSW_CH_STAT_THERM_LATCH, Ev.THERM_LATCH)]

/-- The condition under which a clear of a latch is accepted (R259). The junction is below 160 °C once its shutdown is over. Log 37: DEDUCED. -/
def causeGone (s : State) (n : Nat) (f : Fld) : Bool :=
  if f = F.LSW_CH_STAT_CLAMP_LOCK then decide (2 * clampSum s n < clampBudget s n)
  else if f = F.LSW_CH_STAT_THERM_LATCH then !chBit s n F.LSW_CH_STAT_THERMAL
  else true

/-- The latches that are set, but for those set in this tick: a clear comes before a trip (R273). Log 34: DEDUCED. -/
def latched (s : State) (n : Nat) : List (Fld × Ev) :=
  latches.filter (fun x => chBit s n x.1 && !(lch s n).latchAt.contains (x.1.lo, s.tb))

/-- Clear what can be cleared (R259). -/
def latchClear (n : Nat) (s : State) : State :=
  forEach ((latched s n).filter (fun x => causeGone s n x.1)) (fun x s => faultEnd (fsetb s (R.LSW_CH_STAT n) x.1 false) x.2 [n, s.tb]) s

/-- CHANNEL_CLEAR (R259): a refused clear leaves the latch set and counts. -/
def execChannelClear (who : Fin 36) (ch : Fin 96) (s : State) : Out :=
  .next (rapDo s who.val .other 10 (R.LSW_CH_CTRL ch.val) fun s =>
    let s1 := if (latched s ch.val).all (fun x => causeGone s ch.val x.1) then s else fincSat s (R.LSW_CH_CNT ch.val) F.LSW_CH_CNT_CLEAR_REFUSED
    staged (latchClear ch.val) s1)

/-- LATCH_AUTO_CLEAR (R259): LATCH_CLR CMD_OFF, the command off for 100 ms continuously, and the latch's condition. -/
def execLatchAutoClear (ch : Fin 96) (s : State) : Out :=
  .next (
    let n := ch.val
    match cmdOffSince s n with
    | some t =>
      if domOn s 10 ∧ fbit s (R.LSW_CH_CFG1 n) F.LSW_CH_CFG1_LATCH_CLR ∧ t + msTicks 100 ≤ s.tb then staged (latchClear n) s else s
    | none => s)

/-! ### Feed under-voltage -/

/-- The channels of a feed. -/
def feedChans (f : Nat) : List Nat := (List.range 16).map (16 * f + ·)

/-- A cluster restarts (R264): a held retry is made and used at the restart. -/
def clusterRestart (c : Nat) (s : State) : State :=
  let s1 := forEach (clusterChans c) (fun n s =>
    let s1 := fsetb s (R.LSW_CH_STAT n) F.LSW_CH_STAT_FEED_UV false
    if (lch s n).held then
      (if clusterWarn s n then retrySync n (setLch n (fun c => { c with held := false, left := some 0 }) s1) else retryMake n s1)
    else retrySync n s1) s
  raise s1 Ev.FEED_RESTART [c, s.tb]

/-- FEED_RESTART (R264): at or above UV_THR + UV_HYST for RESTART_T, the lower-numbered cluster restarts. -/
def execFeedRestart (f : Fin 6) (s : State) : Out :=
  .next (if domOn s 0 = false ∨ fbit s (R.LSW_FEED_STAT f.val) F.LSW_FEED_STAT_UV = false ∨
      s.tb < smGet zero s.lsw.uvAt f.val + msTicks (fget s (R.LSW_FEED_CFG f.val) F.LSW_FEED_CFG_RESTART_T) then s
    else staged (fun s =>
      let s1 := faultEnd (fsetb s (R.LSW_FEED_STAT f.val) F.LSW_FEED_STAT_UV false) Ev.FEED_UV [f.val, s.tb]
      clusterRestart (2 * f.val) { s1 with lsw := { s1.lsw with second := smIns f.val (s.tb + msTicks 2) s1.lsw.second } }) s)

/-- FEED_RESTART_SECOND (R264): the other cluster, 2 ms later. -/
def execFeedRestartSecond (f : Fin 6) (s : State) : Out :=
  .next (match smGet absent (s.lsw.second.map (fun x => (x.1, some x.2))) f.val with
    | some t =>
      if s.tb < t then s
      else staged (fun s => clusterRestart (2 * f.val + 1) { s with lsw := { s.lsw with second := smDel f.val s.lsw.second } }) s
    | none => s)

/-! ### Half-bridge drivers -/

/-- HB_DESAT (R257): both gates off, DESAT latch set. -/
def execHbDesat (m : Fin 4) (s : State) : Out :=
  .next (if domOn s 0 = false ∨ fbit s (R.LSW_HB_STAT m.val) F.LSW_HB_STAT_DESAT then s
    else staged (fun s => fault (fsetb s (R.LSW_HB_STAT m.val) F.LSW_HB_STAT_DESAT true) Ev.HB_DESAT [m.val, s.tb]) s)

/-- HB_DRV_UV (R257): both gates off. -/
def execHbDrvUv (m : Fin 4) (s : State) : Out :=
  .next (if domOn s 0 = false ∨ fbit s (R.LSW_HB_STAT m.val) F.LSW_HB_STAT_DRV_UV then s
    else staged (fun s => fault (fsetb s (R.LSW_HB_STAT m.val) F.LSW_HB_STAT_DRV_UV true) Ev.HB_DRV_UV [m.val, s.tb]) s)

/-- HB_DRV_UV_RELEASE (R257): the supply returns. -/
def execHbDrvUvRelease (m : Fin 4) (s : State) : Out :=
  .next (if fbit s (R.LSW_HB_STAT m.val) F.LSW_HB_STAT_DRV_UV = false then s
    else staged (fun s => faultEnd (fsetb s (R.LSW_HB_STAT m.val) F.LSW_HB_STAT_DRV_UV false) Ev.HB_DRV_UV [m.val, s.tb]) s)

/-- HB_CLEAR (R259): always accepted. -/
def execHbClear (who : Fin 36) (m : Fin 4) (s : State) : Out :=
  .next (rapDo s who.val .other 10 (R.LSW_HB_STAT m.val) fun s =>
    if fbit s (R.LSW_HB_STAT m.val) F.LSW_HB_STAT_DESAT = false then s
    else staged (fun s => faultEnd (fsetb s (R.LSW_HB_STAT m.val) F.LSW_HB_STAT_DESAT false) Ev.HB_DESAT [m.val, s.tb]) s)

end Sys2Proof.Machine
end

