-- ==== Sys2Proof/Machine/Halter.lean ====
section
/-!
DEFINITION. Machine/Halter.lean: halter mode (R268 to R271): inputs, the enable, pulses, the stuck limit and the exit.
-/

namespace Sys2Proof.Machine

/-- The channels mapped to a halter input whose MODE is PULSE (R268). Log 38: DEDUCED. -/
def pulseChans (s : State) (i : Nat) : List Nat :=
  (List.range 96).filter (fun n => decide (halterIn s n = some i) && fbit s (R.LSW_HALTER_MAP n) F.LSW_HALTER_MAP_MODE)

/-- PULSE channels that start an on-time now. -/
def pulseStart (l : List Nat) (s : State) : State :=
  { s with lsw := { s.lsw with pulseOn := s.lsw.pulseOn ++ l, pulseAt := l.foldl (fun m n => smIns n s.tb m) s.lsw.pulseAt } }

/-- The period of a PULSE channel in AO ticks, rounded to the nearest with halves up (R270). -/
def pulsePeriod (s : State) (n : Nat) : Nat := (fget s (R.LSW_HALTER_MAP n) F.LSW_HALTER_MAP_PERIOD * 32768 + 500) / 1000

/-- Its on-time in AO ticks, rounded likewise (R270). -/
def pulseOnTime (s : State) (n : Nat) : Nat := (pulsePeriod s n * fget s (R.LSW_HALTER_MAP n) F.LSW_HALTER_MAP_DUTY16 + 8) / 16

/-- A bit of a field of LSW_HALTER_STAT. -/
def halterBit (s : State) (f : Fld) (i : Nat) (b : Bool) : State := fset s R.LSW_HALTER_STAT f (setBit (fget s R.LSW_HALTER_STAT f) i b)

/-- An input disarms and its pulses end (R270). Log 38: DEDUCED. -/
def halterDisarm (i : Nat) (s : State) : State :=
  let s1 := halterBit s F.LSW_HALTER_STAT_ARMED i false
  { s1 with lsw := { s1.lsw with pulseOn := s1.lsw.pulseOn.filter (fun n => decide (halterIn s n ≠ some i)) } }

/-- HALTER_INPUT (R268, R270): a level accepted after DEB. An input accepted inactive in halter mode is ARMED, and is no longer stuck. An
ARMED input accepted active starts the first on-time of its PULSE channels. -/
def execHalterInput (i : Fin 8) (active : Bool) (s : State) : Out :=
  .next (if domOn s 0 = false ∨ bitOf (fget s R.LSW_HALTER_STAT F.LSW_HALTER_STAT_IN) i.val = active then s
    else staged (fun s =>
      let s1 := halterBit s F.LSW_HALTER_STAT_IN i.val active
      let l := s1.lsw.pulseOn.filter (fun n => decide (halterIn s n ≠ some i.val))
      if active then
        let armed := halterActive s && bitOf (fget s R.LSW_HALTER_STAT F.LSW_HALTER_STAT_ARMED) i.val
        let s2 := { s1 with lsw := { s1.lsw with pulseOn := l, inAt := smIns i.val s.tb s1.lsw.inAt } }
        if armed then pulseStart (pulseChans s i.val) s2 else s2
      else
        let s2 := whenB (bitOf (fget s R.LSW_HALTER_STAT F.LSW_HALTER_STAT_STUCK) i.val) (fun s => faultEnd s Ev.HALTER_STUCK [i.val])
          (halterBit { s1 with lsw := { s1.lsw with pulseOn := l, inAt := smDel i.val s1.lsw.inAt } } F.LSW_HALTER_STAT_STUCK i.val false)
        if halterActive s then halterBit s2 F.LSW_HALTER_STAT_ARMED i.val true else s2) s)

/-- HALTER_EN_ACTIVE (R269). -/
def execHalterEnActive (s : State) : Out :=
  .next (if domOn s 0 = false ∨ fbit s R.LSW_HALTER_STAT F.LSW_HALTER_STAT_EN then s
    else staged (fun s => halterCheck (fsetb s R.LSW_HALTER_STAT F.LSW_HALTER_STAT_EN true)) s)

/-- HALTER_EN_INACTIVE (R269 to R271): halter mode ends, every input disarms, and each mapped channel takes the value of the highest
active level in that tick. -/
def execHalterEnInactive (s : State) : Out :=
  .next (if fbit s R.LSW_HALTER_STAT F.LSW_HALTER_STAT_EN = false then s
    else staged (fun s =>
      let s1 := fsetb s R.LSW_HALTER_STAT F.LSW_HALTER_STAT_EN false
      if halterActive s = false then s1
      else
        let s2 := fset (fsetb s1 R.LSW_HALTER_STAT F.LSW_HALTER_STAT_ACTIVE false) R.LSW_HALTER_STAT F.LSW_HALTER_STAT_ARMED 0
        raise { s2 with lsw := { s2.lsw with pulseOn := [] } } Ev.HALTER_EXIT []) s)

/-- HALTER_PULSE (R270): a PULSE channel's on-time or period ends. A DUTY16 of 16 gives a channel that stays on. -/
def execHalterPulse (ch : Fin 96) (s : State) : Out :=
  .next (
    let n := ch.val
    match (if halterActive s then halterIn s n else none) with
    | some i =>
      if fbit s (R.LSW_HALTER_MAP n) F.LSW_HALTER_MAP_MODE = false ∨ 16 ≤ fget s (R.LSW_HALTER_MAP n) F.LSW_HALTER_MAP_DUTY16 ∨
          bitOf (fget s R.LSW_HALTER_STAT F.LSW_HALTER_STAT_IN) i = false ∨
          bitOf (fget s R.LSW_HALTER_STAT F.LSW_HALTER_STAT_ARMED) i = false ∨
          aoPast s (smFind s.lsw.pulseAt n)
            (aoTicks (if n ∈ s.lsw.pulseOn then pulseOnTime s n else pulsePeriod s n - pulseOnTime s n)) = false then s
      else if n ∈ s.lsw.pulseOn then staged (fun s =>
        { s with lsw := { s.lsw with pulseOn := s.lsw.pulseOn.filter (· != n), pulseAt := smIns n s.tb s.lsw.pulseAt } }) s
      else staged (pulseStart [n]) s
    | none => s)

/-- HALTER_STUCK (R270): an input active for longer than STUCK_LIM; its channels turn off and it disarms until accepted inactive. -/
def execHalterStuck (i : Fin 8) (s : State) : Out :=
  .next (if fget s (R.LSW_HALTER_IN i.val) F.LSW_HALTER_IN_STUCK_LIM = 0 ∨
      bitOf (fget s R.LSW_HALTER_STAT F.LSW_HALTER_STAT_IN) i.val = false ∨
      bitOf (fget s R.LSW_HALTER_STAT F.LSW_HALTER_STAT_STUCK) i.val ∨
      aoPast s (smFind s.lsw.inAt i.val) (fget s (R.LSW_HALTER_IN i.val) F.LSW_HALTER_IN_STUCK_LIM * secTicks) = false then s
    else staged (fun s => fault (halterDisarm i.val (halterBit s F.LSW_HALTER_STAT_STUCK i.val true)) Ev.HALTER_STUCK [i.val]) s)

end Sys2Proof.Machine
end

