-- ==== Sys2Proof/Machine/Farrier.lean ====
section
/-!
DEFINITION. Machine/Farrier.lean: self-test and self-repair (R415 to R430): spares, slices, memory repairs, converter checks, RETEST.
-/

namespace Sys2Proof.Machine

/-- The unused spares of a kind. -/
def sparesOf (s : State) (k : Nat) : List Nat := (s.far.spares.filter (fun x => x.1 == k)).map (·.2)

/-- A unit is retired (R425). -/
def isRetired (s : State) (k i : Nat) : Bool := s.far.retired.contains (k, i)

/-- The slice in progress on a kind. -/
def sliceOf (s : State) (k : Nat) : Option Slice := s.far.slices.find? (fun x => x.kind == k)

/-- Show the roles of a kind's units where registers show them (STR_LANEn, STR_STATUS, CTL_LANEn, GNS_ACQ). -/
def showRoles (k : Nat) (s : State) : State :=
  let serving (i : Nat) : Bool := !isRetired s k i && !(sparesOf s k).contains i && (sliceOf s k).all (fun x => x.unit != i)
  match k with
  | 0 =>
    let s1 := forN 9 (fun i s' =>
      let a := R.STR_LANE i
      fsetb (fsetb (fsetb s' a F.STR_LANE_IN_SERVICE (serving i)) a F.STR_LANE_SPARE ((sparesOf s 0).contains i)) a F.STR_LANE_RETIRED
        (isRetired s 0 i)) s
    fsetb (fset s1 R.STR_STATUS F.STR_STATUS_LANES_IN (fget s (R.FAR_CAP 0) F.FAR_CAP_IN_SERVICE)) R.STR_STATUS F.STR_STATUS_SPARE_FREE
      (!(sparesOf s 0).isEmpty)
  | 1 =>
    let s1 := forN 5 (fun i s' =>
      let a := R.CTL_LANE i
      fsetb (fsetb (fsetb s' a F.CTL_LANE_IN_SERVICE (serving i)) a F.CTL_LANE_SPARE ((sparesOf s 1).contains i)) a F.CTL_LANE_RETIRED
        (isRetired s 1 i)) s
    fsetb (fset s1 R.CTL_STATUS F.CTL_STATUS_LANES_IN (fget s (R.FAR_CAP 1) F.FAR_CAP_IN_SERVICE)) R.CTL_STATUS F.CTL_STATUS_SPARE_FREE
      (!(sparesOf s 1).isEmpty)
  | 7 =>
    let n := fget s (R.FAR_CAP 7) F.FAR_CAP_IN_SERVICE
    let s1 := fset s R.GNS_ACQ F.GNS_ACQ_TILES_IN n
    if n < 16 ∧ 16 ≤ fget s R.GNS_ACQ F.GNS_ACQ_TILES_IN then
      fault (fsetb s1 R.GNS_INTEG F.GNS_INTEG_ACQ_CAPACITY true) Ev.ACQ_CAPACITY [n] else s1
  | _ => s

/-- Put a kind's list of unused spares in force, with its count. -/
def setSpares (k : Nat) (l : List Nat) (s : State) : State :=
  let s1 := { s with far := { s.far with spares := s.far.spares.filter (fun x => x.1 != k) ++ l.map (fun i => (k, i)) } }
  fset s1 (R.FAR_CAP k) F.FAR_CAP_SPARES l.length

/-- Show whether an engine of lanes has lost its recomputation, and raise or end RECOMPUTE_OFF (R38): no spare is left, and none is about to
return from a slice. -/
def recompSync (k : Nat) (s : State) : State :=
  let a := if k = 0 then R.STR_STATUS else R.CTL_STATUS
  let f := if k = 0 then F.STR_STATUS_RECOMPUTE_OFF else F.CTL_STATUS_RECOMPUTE_OFF
  let off := (sparesOf s k).isEmpty && (sliceOf s k).isNone
  if off = fbit s a f then s
  else if off then fault (fsetb s a f true) Ev.RECOMPUTE_OFF [k] else faultEnd (fsetb s a f false) Ev.RECOMPUTE_OFF [k]

/-- SPARE_LOST (R428); with the spare of a lane engine its recomputation stops (R38). -/
def spareLost (k : Nat) (s : State) : State :=
  let s1 := fault (fsetb s R.FAR_STATUS F.FAR_STATUS_SPARE_LOST true) Ev.SPARE_LOST [k]
  if k ≤ 1 then recompSync k s1 else s1

/-- Enter a unit in the field repair map (R425). -/
def mapRetire (k i : Nat) (s : State) : State := { s with far := { s.far with retired := s.far.retired ++ [(k, i)] } }

/-- Retire a unit that is out of service for its test (R419): the kind has one spare fewer. -/
def retireTested (k i : Nat) (s : State) : State :=
  let s1 := fincSat (mapRetire k i s) (R.FAR_CAP k) F.FAR_CAP_RETIRED
  showRoles k (if sparesOf s k = [] then spareLost k s1 else s1)

/-- The channels of a bank carry SWAPPED in their next record (R118). -/
def bankSwapped (b : Nat) (s : State) : State :=
  { s with gns := { s.gns with chans := s.gns.chans.map (fun x => (x.1, if x.1 / 8 = b then { x.2 with swapped := true } else x.2)) } }

/-- A retired tracking bank with no spare left takes its 8 channels out of service (R118). -/
def bankOut (i : Nat) (s : State) : State :=
  forEach ((s.far.bankAt.filter (fun b => b.2 == i)).map (·.1)) banksLess s

/-- A spare bank takes the channels a bank served (R118). -/
def bankMove (i u : Nat) (s : State) : State :=
  forEach ((s.far.bankAt.filter (fun b => b.2 == i)).map (·.1)) bankSwapped
    { s with far := { s.far with bankAt := s.far.bankAt.map (fun b => if b.2 = i then (b.1, u) else b) } }

/-- Take a unit out of service (R36, R118, R419, R428): a spare takes its place, a unit under test first (R429); without one, capacity is
lost. Log 39: DEDUCED. -/
def unitRetire (k i : Nat) (s : State) : State :=
  if isRetired s k i then s
  else match sliceOf s k with
    | some _ => retireTested k i { s with far := { s.far with slices := s.far.slices.filter (fun y => y.kind != k) } }
    | none => match sparesOf s k with
      | u :: us =>
        if (sparesOf s k).contains i then retireTested k i (setSpares k ((sparesOf s k).filter (· != i)) s)
        else retireTested k i (whenB (k == 8) (bankMove i u) (setSpares k us s))
      | [] => showRoles k (capacityLost k i (whenB (k == 8) (bankOut i) (capRetire k (mapRetire k i s))))

/-! ### Slices -/

/-- The quiesce cycle of a live swap is in progress (R53). -/
def quiescing (s : State) : Bool := fget s R.IMG_STATUS F.IMG_STATUS_STATE == 6

/-- Does a unit serve the scope of the swap whose quiesce cycle is in progress (R53)? A lane serves the outputs or loops of its engine, a current
ADC its cluster's outputs; an SRAM macro and the analog converter may serve any of them. Log 39: DEDUCED. -/
def servesScope (s : State) (k i : Nat) : Bool :=
  quiescing s && match k with
    | 0 => !s.img.scope.isEmpty
    | 1 => !s.img.loopScope.isEmpty
    | 9 => !s.img.scope.isEmpty || !s.img.loopScope.isEmpty
    | 12 => s.img.scope.any (fun n => n / 8 == i)
    | 13 => !s.img.scope.isEmpty || !s.img.loopScope.isEmpty
    | _ => false

/-- A slice may start on a kind (R419, R429, R430): slices run, PD1 is on and not halted, TB runs, no takeover is in progress, no slice
of the kind is in progress, and the kind has an unused spare where it is spared. -/
def sliceMay (s : State) (k : Nat) (spared : Bool) : Bool :=
  fbit s R.FAR_STATUS F.FAR_STATUS_SLICES_RUN && domOn s 1 && !s.pwm.halted && s.pwr.tbRun
    && fget s R.TLK_PAIR_STAT F.TLK_PAIR_STAT_STATE != 4 && (sliceOf s k).isNone && (!spared || !(sparesOf s k).isEmpty)

/-- A lane is in service: neither retired nor an unused spare. -/
def laneIn (s : State) (k i : Nat) : Bool := !isRetired s k i && !(sparesOf s k).contains i

/-- The next lane in service after a lane, in rotation (R37). -/
def laneAfter (s : State) (k i : Nat) : Nat :=
  let n := if k = 0 then 9 else 5
  ((List.range n).map (fun d => (i + 1 + d) % n)).find? (laneIn s k) |>.getD i

/-- The lane whose recomputation is due (R37): where the lane noted has left service, the next in service. -/
def laneDue (s : State) (k : Nat) : Nat :=
  let i := if k = 0 then s.str.chkLane else s.ctl.chkLane
  if laneIn s k i then i else laneAfter s k i

/-- The rotation moves on from a lane. -/
def rotate (k i : Nat) (s : State) : State :=
  if k = 0 then { s with str := { s.str with chkLane := laneAfter s 0 i } }
  else { s with ctl := { s.ctl with chkLane := laneAfter s 1 i } }

/-- LANE_SLICE (R420): every 1 s, at a boundary, the lane due for recomputation is swapped out for LBIST. -/
def execLaneSlice (loop : Bool) (s : State) : Out :=
  .next (
    let k := b2n loop
    if s.tb % cycleTicks ≠ 0 ∨ servesScope s k 0 ∨ farDue s k 0 secTicks = false ∨ sliceMay s k true = false then s
    else
      let s1 := setSpares k ((sparesOf s k).drop 1) (farStamp k 0 s)
      showRoles k { s1 with far := { s1.far with slices := s1.far.slices ++ [⟨k, laneDue s k, s.tb, 0⟩] } })

/-- What a test of two tries comes to (R416): every failure leaves its record, which names the test as 0 at start-up, 1 in a slice and 2 on RETEST. Log 39: DEDUCED. -/
def judge (k i n : Nat) (t : Test2) (s : State) : State × Bool :=
  if t.ok then (s, true)
  else
    let s1 := testFailed k i n t.sig.toNat s
    if t.ok2 then (s1, true) else (testFailed k i n t.sig2.toNat s1, false)

/-- The unit a slice has freed becomes an unused spare (R419). Log 39: DEDUCED. -/
def newSpare (k i : Nat) (s : State) : State := showRoles k (setSpares k (sparesOf s k ++ [i]) s)

/-- A slice in progress is given up: the unit under test becomes the unused spare again, and the test is not counted (R429). -/
def slicesDrop (s : State) : State :=
  forEach s.far.slices (fun x s => newSpare x.kind x.unit s) { s with far := { s.far with slices := [], waiting := none } }

/-- The conditions that a restored unit ends (R38, R428): a spare is there again, and the kind is back at its nominal capacity. -/
def restoreEnds (k : Nat) (s0 s : State) : State :=
  let spare := (sparesOf s0 k).isEmpty && !(sparesOf s k).isEmpty
  let full := fget s0 (R.FAR_CAP k) F.FAR_CAP_LOST != 0 && fget s (R.FAR_CAP k) F.FAR_CAP_LOST == 0
  let s1 := if spare then faultEnd s Ev.SPARE_LOST [k] else s
  let s2 := if spare ∧ k ≤ 1 then recompSync k s1 else s1
  if full then faultEnd s2 Ev.CAPACITY_LOST [k] else s2

/-- A retired unit returns (R427): as the kind's spare, as a segment in service, or, in a kind without spares, in service. Log 17: DEDUCED. -/
def unitRestore (k i : Nat) (s : State) : State :=
  let a := R.FAR_CAP k
  let s0 := { s with far := { s.far with retired := s.far.retired.filter (· != (k, i)), passes := s.far.passes.filter (fun x => x.1 ≠ k ∨ x.2.1 ≠ i) } }
  let s1 := fset s0 a F.FAR_CAP_RETIRED (fget s0 a F.FAR_CAP_RETIRED - 1)
  let back (s : State) : State :=
    let n := fget s a F.FAR_CAP_IN_SERVICE + 1
    fsetb (fset s a F.FAR_CAP_IN_SERVICE n) a F.FAR_CAP_LOST (decide (n < fget s a F.FAR_CAP_NOMINAL))
  let s2 :=
    if k = 0 ∨ k = 1 ∨ k = 7 ∨ k = 8 then newSpare k i s1
    else if k = 11 then
      staged (fun s => segShow (i / 4) (setLch (i / 4) (fun c => { c with dead := c.dead.filter (fun d => d.val != i % 4) }) s)) (back s1)
    else if k = 12 then
      faultEnd (staged (fun s => forEach (clusterChans i) segShow { s with far := { s.far with adcFail := s.far.adcFail.filter (· != i) } })
        (back s1)) Ev.ADC_FAIL [12, i]
    else back s1
  raise (restoreEnds k s s2) Ev.FAR_RESTORED [k, i]

/-- FAR_RESULT. -/
def farResult (r p : Nat) (s : State) : State := fset (fset s R.FAR_RESULT F.FAR_RESULT_RESULT r) R.FAR_RESULT F.FAR_RESULT_PASSES p

/-- One test of a retired unit (R427): it is restored after 3 consecutive passes. Log 39: DEDUCED. -/
def retest (k i : Nat) (t : Test2) (s : State) : State :=
  let p := ((s.far.passes.find? (fun x => x.1 == k && x.2.1 == i)).map (·.2.2)).getD 0
  let r := judge k i 2 t s
  let others := s.far.passes.filter (fun x => x.1 ≠ k ∨ x.2.1 ≠ i)
  if r.2 = false then farResult 2 0 { r.1 with far := { r.1.far with passes := others } }
  else if p + 1 < 3 then farResult 1 (p + 1) { r.1 with far := { r.1.far with passes := others ++ [(k, i, p + 1)] } }
  else farResult 3 3 (unitRestore k i r.1)

/-- A slice of a kind has ended: a RETEST that waited for it runs (R429). Log 39: DEDUCED. -/
def sliceEnd (k : Nat) (w : Test2) (s : State) : State :=
  let s1 := { s with far := { s.far with slices := s.far.slices.filter (fun x => x.kind != k) } }
  match s1.far.waiting with
  | some x => if x.1 = k then retest k x.2 w { s1 with far := { s1.far with waiting := none } } else s1
  | none => s1

/-- LANE_SLICE_RESULT (R416, R420): the signature at the end of a cycle under test. A pass makes the lane the spare; a first failure
repeats the test in the next cycle; a second retires the lane. `w` is the result of a RETEST that waited. -/
def execLaneSliceResult (loop ok : Bool) (sig : Word) (w : Test2) (s : State) : Out :=
  .next (
    let k := b2n loop
    match sliceOf s k with
    | none => s
    | some x =>
      if s.tb < x.from_ + cycleTicks ∨ s.pwm.halted then s
      else if ok then rotate k x.unit (newSpare k x.unit (sliceEnd k w s))
      else
        let s1 := testFailed k x.unit 1 sig.toNat s
        if x.fails = 0 then
          { s1 with far := { s1.far with slices := s1.far.slices.map (fun y => if y.kind = k then { y with from_ := s.tb, fails := 1 } else y) } }
        else rotate k x.unit (retireTested k x.unit (sliceEnd k w s1)))

/-- NAV_CORE_SLICE (R420): while 8 cores are in service, one runs LBIST, each every 10 s. -/
def execNavCoreSlice (core : Fin 8) (t : Test2) (s : State) : Out :=
  .next (if sliceMay s 2 false = false ∨ domOn s 2 = false ∨ fget s (R.FAR_CAP 2) F.FAR_CAP_IN_SERVICE < 8 ∨
      farDue s 2 core.val (10 * secTicks) = false then s
    else
      let r := judge 2 core.val 1 t (farStamp 2 core.val s)
      if r.2 then r.1 else unitRetire 2 core.val r.1)

/-- ACQ_TILE_SLICE (R420): every 10 s, between rounds, a tile is swapped out and tested with one dwell. -/
def execAcqTileSlice (tile : Fin 18) (t : Test2) (s : State) : Out :=
  .next (if sliceMay s 7 true = false ∨ isG s = false ∨ domOn s 3 = false ∨ isRetired s 7 tile.val ∨ tile.val ∈ sparesOf s 7 ∨
      farDue s 7 0 (10 * secTicks) = false then s
    else
      let r := judge 7 tile.val 1 t (setSpares 7 ((sparesOf s 7).drop 1) (farStamp 7 0 s))
      if r.2 then newSpare 7 tile.val r.1 else retireTested 7 tile.val r.1)

/-- The tracking bank that serves a bank of channels. Log 39: DEDUCED. -/
def bankUnit (s : State) (b : Nat) : Nat := ((s.far.bankAt.find? (fun x => x.1 == b)).map (·.2)).getD b

/-- A spare bank takes the channels of a bank (R118). Log 39: DEDUCED. -/
def bankSwap (b : Nat) (s : State) : State :=
  match sparesOf s 8 with
  | [] => s
  | u :: us =>
    let s1 := setSpares 8 us s
    bankSwapped b { s1 with far := { s1.far with bankAt := s1.far.bankAt.filter (fun x => x.1 != b) ++ [(b, u)] } }

/-- TRK_BANK_SLICE (R118, R420): every 60 s a bank of channels is swapped to the spare bank and the freed bank is tested. -/
def execTrkBankSlice (bank : Fin 12) (t : Test2) (s : State) : Out :=
  .next (if sliceMay s 8 true = false ∨ isG s = false ∨ domOn s 4 = false ∨ bank.val ∈ s.gns.outBanks ∨
      farDue s 8 0 (60 * secTicks) = false then s
    else
      let u := bankUnit s bank.val
      let r := judge 8 u 1 t (bankSwap bank.val (farStamp 8 0 s))
      if r.2 then newSpare 8 u r.1 else retireTested 8 u r.1)

/-! ### Memory -/

/-- A failing SRAM row (R426): a redundant row is assigned at the next start-up; with none left in its macro the row is fenced. Log 25: DEDUCED. -/
def sramRowBad (m row : Nat) (s : State) : State :=
  let of (l : List (Nat × Nat)) : Nat := (l.filter (fun x => x.1 == m)).length
  if (m, row) ∈ s.far.rows ∨ (m, row) ∈ s.far.rowsDue ∨ (m, row) ∈ s.far.fenced then s
  else if of s.far.rows + of s.far.rowsDue < 8 then { s with far := { s.far with rowsDue := s.far.rowsDue ++ [(m, row)] } }
  else
    let s1 := { s with far := { s.far with fenced := s.far.fenced ++ [(m, row)] } }
    capacityLost 9 m (fset s1 R.FAR_SRAM_REP F.FAR_SRAM_REP_FENCED (s1.far.fenced.length))

/-- A failing DRAM row (R426): repaired at the next start-up, at most one per bank and 32 in all; with no repair left its page is retired
and replaced from the reserve, and without reserve retired without replacement. Log 25: DEDUCED. -/
def dramRowBad (bank row page : Nat) (s : State) : State :=
  let l := s.far.ppr ++ s.far.pprDue
  if (bank, row) ∈ s.far.pprDue ∨ page ∈ s.far.pages then s
  else if l.length < 32 ∧ l.all (fun x => x.1 != bank) then { s with far := { s.far with pprDue := s.far.pprDue ++ [(bank, row)] } }
  else
    let s1 := { s with far := { s.far with pages := s.far.pages ++ [page] } }
    let s2 := fincSat s1 R.FAR_DRAM_REP F.FAR_DRAM_REP_PAGES_RET
    let left := fget s R.FAR_DRAM_REP F.FAR_DRAM_REP_RESERVE_LEFT
    if 0 < left then fset s2 R.FAR_DRAM_REP F.FAR_DRAM_REP_RESERVE_LEFT (left - 1)
    else capacityLost 10 page { s2 with far := { s2.far with pagesLost := s2.far.pagesLost + 1 } }

/-- When a row of a macro may be tested (R421): in the map cache and the lane register files only from B + 39,000, after write-back, and so that the
lock of 1.6 µs has ended by B + 40,000; in any other macro at any tick. Log 39: DEDUCED. -/
def rowWindow (s : State) (m : Nat) : Bool :=
  (!Config.cacheMacro m && !Config.laneMacro m) ||
    (s.str.written && decide (39000 ≤ s.tb % cycleTicks) && decide (s.tb % cycleTicks + 320 ≤ cycleTicks))

/-- SRAM_ROW_TEST (R420, R421): a transparent test of one row of a macro, each macro one row per 1 ms. -/
def execSramRowTest (m : Fin 48) (row : Fin 512) (t : Test2) (s : State) : Out :=
  .next (if sliceMay s 9 false = false ∨ servesScope s 9 m.val ∨ rowWindow s m.val = false ∨ farDue s 9 m.val (msTicks 1) = false then s
    else
      let r := judge 9 m.val 1 t (farStamp 9 m.val s)
      if r.2 then r.1 else sramRowBad m.val row.val r.1)

/-- DRAM_PAGE_TEST (R420): a test of a free page, which takes 400 µs; `bank` and `row` are where it fails. -/
def execDramPageTest (page bank row : Nat) (t : Test2) (s : State) : Out :=
  .next (if sliceMay s 10 false = false ∨ domOn s 8 = false ∨ 524288 ≤ page ∨ page ∈ s.far.pages ∨ farDue s 10 0 (usTicks 400) = false then s
    else
      let r := judge 10 0 1 t (farStamp 10 0 s)
      if r.2 then r.1 else dramRowBad bank row page r.1)

/-! ### Converters -/

/-- A cluster's current ADC is out of service (R423): its channels are held off at level 2. With every cluster the fault is of class 4 (R446). -/
def curAdcOut (c : Nat) (s : State) : State :=
  if s.far.adcFail.contains c then s
  else
    let s2 := mapRetire 12 c { s with far := { s.far with adcFail := s.far.adcFail ++ [c] } }
    let s3 := forEach (clusterChans c) segShow s2
    let cls := if s.far.adcFail.length = 11 then 4 else evClass Ev.ADC_FAIL
    faultCls (capacityLost 12 c (capRetire 12 s3)) Ev.ADC_FAIL [12, c] cls

/-- Every analog input's VALID is held clear (R423). -/
def ainOut (s : State) : State :=
  if s.far.ainFail then s
  else fault (forN 16 (fun j s => fsetb s (R.FBI_AIN j) F.FBI_AIN_VALID false) { s with far := { s.far with ainFail := true } })
    Ev.ADC_FAIL [13, 0]

/-- CUR_ADC_REFERENCE (R420, R423): at t mod 50,000 = 3,125. At the 4th conversion in a row outside 2,048 ± 8 codes the cluster's
channels are retired. -/
def execCurAdcReference (c : Fin 12) (code : BitVec 12) (s : State) : Out :=
  .next (if domOn s 10 = false ∨ s.tb % 50000 ≠ 3125 ∨ s.far.adcFail.contains c.val ∨ servesScope s 12 c.val then s
    else
      let bad := decide (code.toNat < 2040 ∨ 2056 < code.toNat)
      let n := if bad then smGet zero s.far.adcBad c.val + 1 else 0
      let s1 := { s with far := { s.far with adcBad := smSet zero c.val n s.far.adcBad } }
      let s2 := if bad then testFailed 12 c.val 1 code.toNat s1 else s1
      if n < 4 then s2 else staged (curAdcOut c.val) s2)

/-- AIN_RESAMPLE (R420, R423): the second converter's code of one input, one input per stride cycle in rotation. A sweep begins at AIN01. -/
def execAinResample (n : Fin 16) (code : BitVec 16) (s : State) : Out :=
  .next (if domOn s 10 = false ∨ fbit s R.FAR_STATUS F.FAR_STATUS_SLICES_RUN = false ∨ n.val ≠ s.far.ainNext ∨ servesScope s 13 0 ∨
      farDue s 13 0 (cycleTicks - s.tb % cycleTicks) = false then s
    else
      let main := fget s (R.FBI_AIN n.val) F.FBI_AIN_CODE
      let bad := decide (main + 131 < code.toNat ∨ code.toNat + 131 < main)
      let k := if bad then smGet zero s.far.ainBad n.val + 1 else 0
      let sweep := (if n.val = 0 then [] else s.far.ainSweep) ++ (if bad then [n.val] else [])
      let s0 := farStamp 13 0 (if bad then testFailed 13 0 1 code.toNat s else s)
      let s1 := { s0 with far := { s0.far with
        ainBad := smSet zero n.val k s.far.ainBad, ainSweep := sweep, ainNext := (n.val + 1) % 16 } }
      let s2 := if k = 3 then fault (fsetb s1 (R.FBI_AIN n.val) F.FBI_AIN_VALID false) Ev.AIN_CHECK [n.val]
        else if k = 0 ∧ 3 ≤ smGet zero s.far.ainBad n.val then faultEnd s1 Ev.AIN_CHECK [n.val] else s1
      if sweep.length < 3 then s2 else ainOut s2)

/-! ### Commands -/

/-- RETEST (R427, R429): refused while a job is in RUN or of a unit that is not retired; it waits for a slice of its kind. -/
def execRetest (who : Fin 36) (kind : Fin 16) (index : Fin 512) (t : Test2) (s : State) : Out :=
  .next (rapDo s who.val .farrier 1 R.FAR_CMD fun s =>
    if jobRun s ∨ isRetired s kind.val index.val = false then farResult 4 0 s
    else if s.far.waiting.isSome then farResult 5 0 s
    else if (sliceOf s kind.val).isSome then { s with far := { s.far with waiting := some (kind.val, index.val) } }
    else retest kind.val index.val t s)

/-- FARRIER_PAUSE (R430). -/
def execFarrierPause (who : Fin 36) (s : State) : Out :=
  .next (rapDo s who.val .farrier 1 R.FAR_CMD fun s => fsetb s R.FAR_STATUS F.FAR_STATUS_SLICES_RUN false)

/-- FARRIER_RESUME (R430). -/
def execFarrierResume (who : Fin 36) (s : State) : Out :=
  .next (rapDo s who.val .farrier 1 R.FAR_CMD fun s => fsetb s R.FAR_STATUS F.FAR_STATUS_SLICES_RUN true)

/-! ### Start-up -/

/-- POST_PACKAGE_REPAIR (R426): the rows and DRAM rows that were submitted are applied at start-up. -/
def farRepair (s : State) : State :=
  let s1 := { s with far :=
    { s.far with
      rows := s.far.rows ++ s.far.rowsDue, rowsDue := []
      ppr := s.far.ppr ++ s.far.pprDue, pprDue := [] } }
  fset (fset s1 R.FAR_SRAM_REP F.FAR_SRAM_REP_ROWS_USED s1.far.rows.length) R.FAR_DRAM_REP F.FAR_DRAM_REP_PPR_USED s1.far.ppr.length

/-- The field repair map and the counts the registers show of it, as they stand without an entry (R424, R425). -/
def mapEmpty (s : State) : State :=
  let f := s.far
  let s1 := { s with
    far := { f with
      retired := [], spares := Far.reset.spares, bankAt := Far.reset.bankAt, passes := [], pagesLost := 0, rows := [], rowsDue := []
      fenced := [], ppr := [], pprDue := [], pages := [], adcBad := [], adcFail := [], ainFail := false }
    gns := { s.gns with outBanks := [] } }
  let s2 := rclear s1 (fun a => decide (R.FAR_CAP 0 ≤ a) && decide (a ≤ R.FAR_DRAM_REP))
  forN 96 (fun n s => segShow n (if (lch s n).dead = [] then s else setLch n (fun c => { c with dead := [] }) s)) s2

/-- The field repair map at a start (R425): a copy that fails its CRC is rebuilt from the other; where both fail, the map is rebuilt by the tests
that follow, with FIELD_MAP_LOST. Log 39: DEDUCED. -/
def farMap (crc1 crc2 : Bool) (s : State) : State :=
  if (s.far.copy1 && crc1) || (s.far.copy2 && crc2) then { s with far := { s.far with copy1 := true, copy2 := true } }
  else
    let s1 := mapEmpty { s with far := { s.far with copy1 := true, copy2 := true } }
    fault (fsetb s1 R.FAR_STATUS F.FAR_STATUS_FIELD_MAP_LOST true) Ev.FIELD_MAP_LOST []

/-- A unit that has failed, or has not passed by 800 ms, at start-up (R416, R417). Segments and converters act as in service. -/
def farStartFail (k i : Nat) (s : State) : State :=
  if k = 11 then (if h : i % 4 < 4 then segRetire (i / 4) ⟨i % 4, h⟩ s else s)
  else if k = 12 then curAdcOut i s
  else if k = 13 then ainOut (unitRetire 13 i s)
  else unitRetire k i s

/-- The start-up tests cover a unit (R415, R417, R418): it exists, kinds 7 and 8 not on an NSC960-N, and a segment only of a channel that no
level 1 to 4 holds off and whose load draws enough. -/
def farCovers (s : State) (untested : List Nat) (k i : Nat) : Bool :=
  decide (i < fget s (R.FAR_CAP k) F.FAR_CAP_NOMINAL) && (isG s || (k != 7 && k != 8)) &&
    (k != 11 || !(untested.contains (i / 4) || cutOff s (i / 4) || protOff s (i / 4) || tripOff s (groupOf s (i / 4)) || halterActive s && (halterIn s (i / 4)).isSome))

/-- The channels whose segments the start-up test skips (R418). -/
def segSkipped (s : State) (untested : List Nat) : List Nat := (List.range 96).filter (fun n => !farCovers s untested 11 (4 * n))

/-- The start-up tests of the kinds that satisfy a predicate (R416, R417): each failed try leaves its record, and a unit that fails twice, or has not
passed by 800 ms, is retired; failing rows are repaired by R426. -/
def farTests (p : Nat → Bool) (f : FarRun) (s : State) : State :=
  let here (k i : Nat) : Bool := p k && farCovers s f.untested k i
  let s1 := forEach (f.bad.filter (fun x => here x.1 x.2.1)) (fun x s =>
    let r := judge x.1 x.2.1 0 x.2.2 s
    if r.2 then r.1 else farStartFail x.1 x.2.1 r.1) s
  let s2 := if 800 < f.ms then forEach (f.late.filter (fun x => here x.1 x.2)) (fun x s => farStartFail x.1 x.2 s) s1 else s1
  let s3 := if p 9 then forEach (f.rows.filter (fun x => decide (x.1 < 48) && decide (x.2 < 512))) (fun x s => sramRowBad x.1 x.2 s) s2 else s2
  if p 10 then forEach f.dram (fun x s => dramRowBad x.1 x.2.1 x.2.2 s) s3 else s3

/-- FARRIER_STARTUP_TESTS (R417, R418, R425): the known-answer test; the field repair map is applied; then the units of the kinds released are
tested. The tests' results come with the start. -/
def farStartup (p : Nat → Bool) (f : FarRun) (s : State) : State :=
  let s0 := { s with far := { s.far with katBad := !f.kat } }
  if f.kat = false then s0
  else
    let s1 := farTests p f (forN 96 segShow (farRepair (farMap f.crc1 f.crc2 s0)))
    let skip := if p 11 then segSkipped s1 f.untested else []
    let s2 := if skip = [] then s1 else raise s1 Ev.SEGMENT_UNTESTED (skip.map (fun (n : Nat) => (n : Int)))
    let s3 := showRoles 7 (recompSync 1 (showRoles 1 (recompSync 0 (showRoles 0 s2))))
    fsetb (fset (fsetb s3 R.FAR_STATUS F.FAR_STATUS_STARTUP_DONE true) R.FAR_STATUS F.FAR_STATUS_STARTUP_MS (min 1023 f.ms)) R.FAR_STATUS
      F.FAR_STATUS_SLICES_RUN true

end Sys2Proof.Machine
end

