-- ==== Sys2Proof/Machine/Float.lean ====
section
/-!
DEFINITION. Machine/Float.lean: IEEE 754 binary32 arithmetic on 32-bit words, rounding to nearest, ties to even (R283, R319).
-/

namespace Sys2Proof.Machine

/-- The sign bit. -/
def fNeg (w : Word) : Bool := decide (2 ^ 31 ≤ w.toNat)

/-- The exponent field. -/
def fExp (w : Word) : Nat := w.toNat / 2 ^ 23 % 256

/-- The fraction field. -/
def fFrac (w : Word) : Nat := w.toNat % 2 ^ 23

/-- A NaN. -/
def fIsNaN (w : Word) : Bool := fExp w == 255 && fFrac w != 0

/-- An infinity. -/
def fIsInf (w : Word) : Bool := fExp w == 255 && fFrac w == 0

/-- A finite value. -/
def fFinite (w : Word) : Bool := fExp w != 255

/-- The significand of a finite value as a signed integer, in units of 2 to the power of `fScale`. -/
def fSig (w : Word) : Int :=
  let m : Int := if fExp w = 0 then (fFrac w : Nat) else (fFrac w + 2 ^ 23 : Nat)
  if fNeg w then -m else m

/-- The power of two of the significand's unit. -/
def fScale (w : Word) : Int := if fExp w = 0 then -149 else (fExp w : Int) - 150

/-- A zero of either sign. -/
def fIsZero (w : Word) : Bool := w.toNat % 2 ^ 31 == 0

/-- A zero with a sign. -/
def fZero (neg : Bool) : Word := if neg then BitVec.ofNat 32 (2 ^ 31) else 0

/-- An infinity with a sign. -/
def fInf (neg : Bool) : Word := if neg then 0xFF800000 else 0x7F800000

/-- The NaN an invalid operation gives: IEEE 754 leaves its sign and payload open. Log 12: DEDUCED. -/
def fNaN (a b : Word) : Word := 0x7FC00000 ||| (Config.nanBits a b &&& 0x803FFFFF)

/-- Half-even rounding of `m / 2^k`. -/
def halfEven (m k : Nat) : Nat :=
  let q := m / 2 ^ k
  let r := m % 2 ^ k
  if 2 * r < 2 ^ k then q else if 2 ^ k < 2 * r then q + 1 else q + q % 2

/-- Round `m · 2^e` to binary32. The lowest bit of `m` may stand for a remainder below it. Log 12: DEDUCED. -/
def fRound (neg : Bool) (m : Nat) (e : Int) : Word :=
  if m = 0 then fZero neg
  else
    let top : Int := (Nat.log2 m : Nat) + e
    let q : Int := if top - 23 < -149 then -149 else top - 23
    let r := if q ≤ e then m * 2 ^ (e - q).toNat else halfEven m (q - e).toNat
    let v := ((q + 149).toNat) * 2 ^ 23 + r
    if 0x7F800000 ≤ v then fInf neg else BitVec.ofNat 32 (v + (if neg then 2 ^ 31 else 0))

/-- Round a signed integer times a power of two. -/
def fOfScaled (v e : Int) : Word := fRound (decide (v < 0)) v.natAbs e

/-- An integer as binary32. -/
def fOfInt (v : Int) : Word := fOfScaled v 0

/-- A quotient of integers as binary32, rounded once. -/
def fOfRatio (num : Int) (den : Nat) : Word :=
  if den = 0 then fInf (decide (num < 0))
  else
    let k := 64 + Nat.log2 den
    let m := num.natAbs * 2 ^ k
    fRound (decide (num < 0)) (2 * (m / den) + (if m % den = 0 then 0 else 1)) (-(k : Int) - 1)

/-- Change of sign. -/
def fNegate (w : Word) : Word := w ^^^ 0x80000000

/-- Sum. Log 12: DEDUCED. -/
def fAdd (a b : Word) : Word :=
  if fIsNaN a ∨ fIsNaN b then fNaN a b
  else if fIsInf a then (if fIsInf b ∧ fNeg a ≠ fNeg b then fNaN a b else a)
  else if fIsInf b then b
  else
    let e := if fScale a ≤ fScale b then fScale a else fScale b
    let v := fSig a * 2 ^ (fScale a - e).toNat + fSig b * 2 ^ (fScale b - e).toNat
    if v = 0 then fZero (fNeg a && fNeg b) else fOfScaled v e

/-- Difference. -/
def fSub (a b : Word) : Word := fAdd a (fNegate b)

/-- Product. Log 12: DEDUCED. -/
def fMul (a b : Word) : Word :=
  let neg := fNeg a != fNeg b
  if fIsNaN a ∨ fIsNaN b then fNaN a b
  else if fIsInf a ∨ fIsInf b then (if fIsZero a ∨ fIsZero b then fNaN a b else fInf neg)
  else fRound neg ((fSig a).natAbs * (fSig b).natAbs) (fScale a + fScale b)

/-- Quotient. Log 12: DEDUCED. -/
def fDiv (a b : Word) : Word :=
  let neg := fNeg a != fNeg b
  if fIsNaN a ∨ fIsNaN b ∨ (fIsInf a ∧ fIsInf b) ∨ (fIsZero a ∧ fIsZero b) then fNaN a b
  else if fIsInf a ∨ fIsZero b then fInf neg
  else if fIsInf b ∨ fIsZero a then fZero neg
  else
    let m := (fSig a).natAbs * 2 ^ 64
    let d := (fSig b).natAbs
    fRound neg (2 * (m / d) + (if m % d = 0 then 0 else 1)) (fScale a - fScale b - 65)

/-- Is one value below another? Never of a NaN. Log 12: DEDUCED. -/
def fLt (a b : Word) : Bool :=
  if fIsNaN a ∨ fIsNaN b then false
  else
    -- the encodings order as sign and magnitude
    let v (w : Word) : Int := if fNeg w then -((w.toNat % 2 ^ 31 : Nat) : Int) else (w.toNat : Nat)
    decide (v a < v b)

/-- Is one value at or below another? Never of a NaN. -/
def fLe (a b : Word) : Bool := !fIsNaN a && !fIsNaN b && !fLt b a

/-- Clamp a value into a range. -/
def fClamp (x lo hi : Word) : Word := if fLt x lo then lo else if fLt hi x then hi else x

/-- The nearest integer to a finite value times a ratio, halves rounded up. -/
def fRoundUp (w : Word) (num : Int) (den : Nat) : Int :=
  let n := fSig w * num
  if 0 ≤ fScale w then (2 * (n * 2 ^ (fScale w).toNat) + den) / (2 * den)
  else
    let d : Int := den * 2 ^ (-(fScale w)).toNat
    (2 * n + d) / (2 * d)

end Sys2Proof.Machine
end

