-- ==== Sys2Proof/Machine/Loops.lean ====
section
/-!
DEFINITION. Machine/Loops.lean: the rate control engine (R277 to R299): the loop element and its states, gain scheduling, curb groups,
actuators, trace and test signals.
-/

namespace Sys2Proof.Machine

/-! ### Access -/

/-- A loop before its first step. -/
def loopInit : Nat → LoopSt := fun _ =>
  { manual := false, cmd := none, sp := 0, spR := 0, pvRaw := 0, filt := none, pv := 0, e := 0, ff := 0, p := 0, i := 0, d := 0,
    xPrev := 0, uRaw := 0, u := 0, uAct := 0, inj := 0, injOut := 0, s1 := 0, s2 := 0, bin1 := 0, bin2 := 0, holdAt := 0, lateRun := 0,
    fault := none, stepAt := none }

/-- What the engine holds of a loop. -/
def loopSt (s : State) (n : Nat) : LoopSt := smGet loopInit s.ctl.loops n

/-- Record it. -/
def setLoop (n : Nat) (l : LoopSt) (s : State) : State := { s with ctl := { s.ctl with loops := smSet loopInit n l s.ctl.loops } }

/-- The definition of a loop. -/
def loopDef (s : State) (n : Nat) : Option LoopDef := s.cfg.loops.find? (fun d => d.loop.val == n)

/-- A field of CTL_LOOPn_CFG. -/
def lcfg (s : State) (n : Nat) (f : Fld) : Nat := fget s (R.CTL_LOOP_CFG n) f

/-- A field of CTL_LOOPn_CFG1. -/
def lcfg1 (s : State) (n : Nat) (f : Fld) : Nat := fget s (R.CTL_LOOP_CFG1 n) f

/-- STATE of a loop (R285). -/
def lstate (s : State) (n : Nat) : Nat := fget s (R.CTL_LOOP_STAT n) F.CTL_LOOP_STAT_STATE

/-- The curb group of a loop. -/
def curbOf (s : State) (n : Nat) : Option Nat := let k := lcfg s n F.CTL_LOOP_CFG_CURB; if k < 16 then some k else none

/-- The members of a curb group, in loop order. -/
def curbMembers (s : State) (k : Nat) : List Nat :=
  (List.range 64).filter (fun n => (loopDef s n).isSome && lcfg s n F.CTL_LOOP_CFG_CURB == k)

/-- A curb group is in MANUAL (R291). -/
def curbManual (s : State) (k : Nat) : Bool := fbit s (R.CTL_CURB_STAT k) F.CTL_CURB_STAT_MANUAL

/-- A node of a loop after its last step (R293). -/
def nodeOf (s : State) (n : Nat) (x : LNode) : Word :=
  let l := loopSt s n
  match x with
  | .sp => l.sp
  | .spR => l.spR
  | .pvRaw => l.pvRaw
  | .pv => l.pv
  | .e => l.e
  | .ff => l.ff
  | .p => l.p
  | .i => l.i
  | .d => l.d
  | .uRaw => l.uRaw
  | .u => l.u
  | .uAct => l.uAct
  | .inj => l.inj
  | .region => fOfInt (4 * l.bin2 + l.bin1 : Nat)
  | .s1 => l.s1
  | .s2 => l.s2

/-- The node of a code of CTL_TRCc_CFG (R303). -/
def nodeCode : Nat → LNode
  | 0 => .sp
  | 1 => .spR
  | 2 => .pvRaw
  | 3 => .pv
  | 4 => .e
  | 5 => .ff
  | 6 => .p
  | 7 => .i
  | 8 => .d
  | 9 => .uRaw
  | 10 => .u
  | 11 => .uAct
  | 12 => .inj
  | 13 => .region
  | 14 => .s1
  | _ => .s2

/-! ### Timing and lanes -/

/-- A loop steps at a boundary (R277). -/
def loopDue (s : State) (B n : Nat) : Bool :=
  (loopDef s n).isSome && lcfg s n F.CTL_LOOP_CFG_DIV != 0
    && B / cycleTicks % lcfg s n F.CTL_LOOP_CFG_DIV == lcfg s n F.CTL_LOOP_CFG_PHASE

/-- What the lanes are dealt at a boundary (R279): a loop alone, or all members of a curb group at the place of the first. -/
def loopUnits (s : State) (B : Nat) : List (List Nat) :=
  let due := (List.range 64).filter (loopDue s B)
  due.filterMap fun n =>
    match curbOf s n with
    | none => some [n]
    | some k =>
      let m := due.filter (fun x => curbOf s x = some k)
      if m.head? = some n then some m else none

/-- The loop lanes in service. -/
def loopLanes (s : State) : List Nat :=
  (List.range 5).filter (fun i => !isRetired s 1 i && !(sparesOf s 1).contains i && (sliceOf s 1).all (fun x => x.unit != i))

/-- The lane a loop's step is dealt to (R279), over the lanes in service at the boundary. -/
def loopLane (s : State) (B n : Nat) : Option Nat :=
  let ls := s.ctl.lanes
  match (loopUnits s B).findIdx? (fun u => u.contains n) with
  | some i => if ls = [] then none else ls[i % ls.length]?
  | none => none

/-- Ts in seconds (R277). -/
def loopTs (s : State) (n : Nat) : Word := fOfRatio (lcfg s n F.CTL_LOOP_CFG_DIV : Nat) 5000

/-! ### Setpoint, feedback, schedule -/

/-- W_k in mm (R281). -/
def widthOf (s : State) (d : LoopDef) (o : Nat) : Nat :=
  if d.wSp ≠ 0 then d.wSp else ((s.cfg.outs.find? (fun x => x.out == o)).map (·.w)).getD 0

/-- One term R_k × v × W_k × 10^−10 of R281. -/
def rxTerm (s : State) (d : LoopDef) (o : Nat) : Word :=
  let r := ((s.ctl.inp.rates.find? (fun x => x.1 == o)).map (·.2)).getD d.defRate
  fMul (fMul (fMul r s.ctl.inp.v) (fOfInt (widthOf s d o))) (fOfRatio 1 10000000000)

/-- The sum of R281 over outputs, times K_SP. Log 12: DEDUCED. -/
def rxSum (s : State) (d : LoopDef) (os : List Nat) : Word := fMul d.kSp (os.foldl (fun a o => fAdd a (rxTerm s d o)) 0)

/-- The setpoint (R281). -/
def setpoint (s : State) (n : Nat) (d : LoopDef) : Word :=
  let on := d.outset.filter (fun o => s.ctl.inp.gates.contains o)
  match lcfg s n F.CTL_LOOP_CFG_SP_SRC with
  | 0 => rget s (R.CTL_LOOP_SP n)
  | 1 => if on = [] then 0 else rxSum s d on
  | 2 =>
    let l := if on = [] then d.outset else on
    if l = [] then 0 else fDiv (rxSum s d l) (fOfInt l.length)
  | _ => fAdd (fMul d.kSp (loopSt s (lcfg s n F.CTL_LOOP_CFG_SRC_IDX)).u) d.spOfs

/-- The raw feedback and its validity (R282): a source that does not exist is never valid. -/
def feedback (s : State) (n : Nat) : Word × Bool :=
  let k := lcfg s n F.CTL_LOOP_CFG_SRC_IDX
  match lcfg s n F.CTL_LOOP_CFG_PV_SRC with
  | 0 => (0, true)
  | 1 => s.ctl.inp.ain.getD k (0, false)
  | 2 => if k < 16 then (fOfScaled (sext 32 (rget s (R.FBI_VEL k)).toNat) (-4), fbit s (R.FBI_STAT k) F.FBI_STAT_VALID) else (0, false)
  | 3 => if k < 16 then (fOfRatio 200000000 (rget s (R.FBI_PERIOD k)).toNat, fbit s (R.FBI_STAT k) F.FBI_STAT_VALID) else (0, false)
  | 4 => s.ctl.inp.ssi.getD k (0, false)
  | 5 => match pressOf s k with
    | some x => (fOfInt (pressSt s x.idx).out, (pressSt s x.idx).ok)
    | none => (0, false)
  | _ => ((loopSt s k).pv, !fbit s (R.CTL_LOOP_STAT k) F.CTL_LOOP_STAT_FB_INVALID)

/-- A scheduling variable as it stands at the start of the step (R288). -/
def schedVal (s : State) (n : Nat) : SchedVar → Word
  | .none => 0
  | .spR => (loopSt s n).spR
  | .pv => (loopSt s n).pv
  | .uAct => (loopSt s n).uAct
  | .node m x => nodeOf s m.val x
  | .press k => fOfInt (pressSt s k).out
  | .speed => s.ctl.inp.v
  | .ain k => (s.ctl.inp.ain.getD k.val (0, false)).1

/-- The bin of an axis with its hysteresis (R288). -/
def schedBin (a : Axis) (x : Word) (old : Nat) : Nat :=
  let up := (([a.b1, a.b2, a.b3]).filter (fun b => fLe (fAdd b a.hys) x)).length
  let down := (([a.b1, a.b2, a.b3]).filter (fun b => fLe (fSub b a.hys) x)).length
  if a.var = .none then 0 else if old < up then up else if down < old then down else old

/-- A set of zero gains, for a region the schedule does not define. -/
def setZero : LoopSet := ⟨0, 0, 0, 0, 0, 0, 0⟩

/-! ### Enable and state -/

/-- EN_SRC (R286). -/
def loopEnabled (s : State) (n : Nat) (d : LoopDef) : Bool :=
  match lcfg1 s n F.CTL_LOOP_CFG1_EN_SRC with
  | 0 => true
  | 1 => let k := lcfg1 s n F.CTL_LOOP_CFG1_EN_IDX; bitOf (rget s (R.STR_SECEN (k / 32))).toNat (k % 32)
  | _ => d.outset.any (fun o => s.ctl.inp.gates.contains o)

/-- The state a loop takes at a step (R285 to R287, R291, R299). Log 40: DEDUCED. -/
def nextState (s : State) (n : Nat) (d : LoopDef) (valid : Bool) : Nat :=
  let l := loopSt s n
  let st := lstate s n
  let man := match curbOf s n with
    | some k => curbManual s k
    | none => match l.cmd with
      | some b => b
      | none => if st = 2 ∨ st = 0 then l.manual else false
  if st = 5 ∧ l.cmd ≠ some false then 5
  else if loopEnabled s n d = false then 0
  else if man then 2
  else if valid then 1
  else if st = 3 ∨ st = 4 then st
  else if lcfg1 s n F.CTL_LOOP_CFG1_FB_LOSS = 0 then 3
  else 4

/-- A state of R285 other than OFF and RUN, whose entry and leaving is recorded. -/
def recorded (st : Nat) : Bool := decide (2 ≤ st)

/-! ### Injection -/

/-- The channels a loop's actuator drives (R292). -/
def actChans (s : State) (n : Nat) (d : LoopDef) : List Nat :=
  match lcfg1 s n F.CTL_LOOP_CFG1_ACT with
  | 1 => d.chans
  | 2 => [96 + 2 * lcfg1 s n F.CTL_LOOP_CFG1_ACT_HB]
  | _ => []

/-- Level 1, 2 or 3 of R31 acts on a channel of the actuator: the cause of R297. -/
def injBlocked (s : State) (chs : List Nat) : Option Nat :=
  let hb (n : Nat) : Bool := decide (96 ≤ n)
  let m (n : Nat) : Nat := (n - 96) / 2
  if chs.any (fun n => cutOff s (if hb n then 96 + m n else n)) then some 9
  else if chs.any (fun n => if hb n then fbit s (R.LSW_HB_STAT (m n)) F.LSW_HB_STAT_DESAT || fbit s (R.LSW_HB_STAT (m n)) F.LSW_HB_STAT_DRV_UV
      else protOff s n) then some 7
  else if chs.any (fun n => tripOff s (if hb n then fget s (R.PWM_HB_CFG (m n)) F.PWM_HB_CFG_OGROUP else groupOf s n)) then some 8
  else none

/-- End an injection whose condition has gone before the step at B computes it (R297, R299). `st` is the state of the loop. Log 40: DEDUCED. -/
def injCheck (n B st : Nat) (d : LoopDef) (s : State) : State :=
  match s.ctl.inj with
  | none => s
  | some j =>
    if j.loop ≠ n then s
    else match injBlocked s (actChans s n d) with
      | some c => injEnd c s
      | none =>
        if st ≠ 1 ∧ ¬(st = 2 ∧ j.point = 2) then injEnd 5 s
        else match j.first with
          | some f => if f + msTicks j.dur ≤ B then injEnd 2 s else s
          | none => s

/-- A binary32 value of the non-negative kind, in units of 2^−149. -/
def fUnits (w : Word) : Int := fSig w * 2 ^ (fScale w + 149).toNat

/-- The sine of a phase of num/den turns, rounded once to binary32 (R295). Log 12: DEDUCED. -/
def fSinTurns (num : Int) (den : Nat) : Word :=
  let n := (num % den).toNat
  let th := 4 * n % den * 7595904947272677161575987 / (4 * den)
  let t := th * th / sinOne
  let c : Int := sinSeries t 14 1
  let d : Int := th * sinSeries t 14 2 / sinOne
  fOfScaled (match 4 * n / den with | 0 => d | 1 => c | 2 => -d | _ => -c) (-80)

/-- The sine factor of a SINE or CHIRP injection (R295), `k` times 200 µs after its start. -/
def injSine (j : Inj) (k : Nat) : Word :=
  let f0 := fUnits j.f0
  if j.sig = 2 then
    fSinTurns (f0 * k * 10000 * j.dur + (fUnits j.f1 - f0) * (k * k * 1000 : Nat)) (2 ^ 149 * 50000000 * j.dur)
  else fSinTurns (f0 * k) (2 ^ 149 * 5000)

/-- The signal at the injection's next step (R295). -/
def injSignal (s : State) (j : Inj) : Word :=
  match j.sig with
  | 0 => j.amp
  | 1 =>
    let chip := j.steps / (if j.hold = 0 then 64 else j.hold) % (2 ^ j.n - 1)
    if Config.prbs j.n chip then j.amp else fNegate j.amp
  | _ => fMul j.amp (injSine j (j.steps * lcfg s j.loop F.CTL_LOOP_CFG_DIV))

/-- The injected value of a step of loop n at a point (R283, R295). -/
def injValue (s : State) (n : Nat) : Option (Nat × Word) :=
  match s.ctl.inj with
  | some j => if j.loop = n then some (j.point, injSignal s j) else none
  | none => none

/-- The value injected at a point, zero unless an injection acts there. -/
def injAt (v : Option (Nat × Word)) (point : Nat) : Word :=
  match v with
  | some (p, w) => if p = point then w else 0
  | none => 0

/-! ### The step -/

/-- `prev` moved toward a limited value, by at most the slew rates (R283); whether the limit acted. -/
def slewTo (d : LoopDef) (ts prev lim : Word) : Word × Bool :=
  let x := fSub lim prev
  let lo := fNegate (fMul d.slewDn ts)
  let hi := fMul d.slewUp ts
  let y := if fIsZero d.slewDn = false ∧ fLt x lo then lo else if fIsZero d.slewUp = false ∧ fLt hi x then hi else x
  (fAdd prev y, y != x)

/-- The D node of a step (R283). -/
def dNode (g : LoopSet) (ts d x xPrev : Word) : Word :=
  if fIsZero g.tf then fDiv (fMul g.kd (fSub x xPrev)) ts
  else
    let a := fDiv g.tf (fAdd g.tf ts)
    let b := fDiv g.kd (fAdd g.tf ts)
    fAdd (fMul a d) (fMul b (fSub x xPrev))

/-- The I node of a step (R283). -/
def iNode (d : LoopDef) (g : LoopSet) (ts i e uAct uRaw : Word) : Word :=
  fClamp (fAdd i (fMul ts (fAdd (fMul g.ki e) (fMul g.kaw (fSub uAct uRaw))))) d.outMin d.outMax

/-- A node that holds no number starts again from 0 (R283, R285). Log 72: DESIGN CHOICE. -/
def finNode (w : Word) : Word := if fFinite w then w else 0

/-- The nodes up to the error, common to every state (R281 to R283): sp, sp_r, pv and e, with the raw feedback and the filter. -/
def frontNodes (s : State) (n : Nat) (d : LoopDef) (inj : Option (Nat × Word)) (l : LoopSt) : LoopSt :=
  let ts := loopTs s n
  let sp := setpoint s n d
  let r := fMul d.spRate ts
  let spR := if fIsZero d.spRate then fAdd sp (injAt inj 0)
    else fAdd (fAdd (finNode l.spR) (fClamp (fSub sp (finNode l.spR)) (fNegate r) r)) (injAt inj 0)
  let fb := feedback s n
  let x := fAdd (fMul d.pvGain fb.1) d.pvOfs
  let f := if fb.2 = false then l.filt
    else some (if d.tfPv = 0 then x else match l.filt.filter fFinite with | some y => Config.filterF d.tfPv ts y x | none => x)
  let pv := fAdd (f.getD 0) (injAt inj 1)
  let none_ := lcfg s n F.CTL_LOOP_CFG_PV_SRC == 0
  let e := if none_ then 0 else if lcfg s n F.CTL_LOOP_CFG_DIR = 0 then fSub spR pv else fSub pv spR
  { l with sp := sp, spR := spR, pvRaw := fb.1, filt := f, pv := pv, e := e,
           inj := (match inj with | some v => v.2 | none => 0), injOut := injAt inj 2 }

/-- x of the D node (R283). -/
def xNode (s : State) (n : Nat) (l : LoopSt) : Word :=
  if lcfg s n F.CTL_LOOP_CFG_DMODE = 0 then l.e else if lcfg s n F.CTL_LOOP_CFG_DIR = 0 then fNegate l.pv else l.pv

/-- The manual output of a loop, or of its curb group (R285, R291). -/
def manValue (s : State) (n : Nat) : Word :=
  rget s (match curbOf s n with | some k => R.CTL_CURB_MAN k | none => R.CTL_LOOP_MAN n)

/-- A value that lies outside its range after a transfer (R289): I clamped, and whether it was. -/
def iTransfer (d : LoopDef) (i : Word) : Word × Bool := let c := fClamp i d.outMin d.outMax; (c, c != i)

/-- The step of a loop in RUN (R283, R286, R289). `old` is the state before; `g0` the set before, `g` the set in use. Answers the
loop, the value before the limits, and whether a transfer was clamped. -/
def runNodes (s : State) (n : Nat) (d : LoopDef) (old : Nat) (g0 g : LoopSet) (inj : Option (Nat × Word)) (b l : LoopSt) :
    LoopSt × Bool :=
  let ts := loopTs s n
  let io := injAt inj 2
  let ff := fAdd (fMul g.ffGain l.spR) g.ffOfs
  if lcfg s n F.CTL_LOOP_CFG_PV_SRC = 0 then
    ({ l with ff := ff, p := 0, i := 0, d := 0, xPrev := 0, uRaw := fAdd (fAdd (fAdd (fAdd ff 0) 0) 0) io }, false)
  else
    let p := fMul g.kp l.e
    let x := xNode s n l
    let raw (i dd : Word) : Word := fAdd (fAdd (fAdd (fAdd ff p) i) dd) io
    if old = 0 ∨ old = 5 then
      let i := fSub (fSub (fSub d.preset ff) p) io
      ({ l with ff := ff, p := p, i := i, d := 0, xPrev := x, uRaw := raw i 0 }, false)
    else if 2 ≤ old then
      -- return from MANUAL, HOLD or FF_ONLY
      let target := if old = 4 then fAdd (fAdd (fMul g0.ffGain l.spR) g0.ffOfs) b.i
        else if old = 3 then b.u
        else (slewTo d ts b.u (fClamp (fAdd (manValue s n) io) d.outMin d.outMax)).1
      let t := iTransfer d (fSub (fSub (fSub (fSub target ff) p) b.d) io)
      ({ l with ff := ff, p := p, i := t.1, d := b.d, xPrev := x, uRaw := raw t.1 b.d }, t.2)
    else if g0 = g ∧ s.img.oldSets.all (fun x => x.1 != n) then
      let dd := dNode g ts b.d x b.xPrev
      let i := iNode d g ts b.i l.e b.uAct b.uRaw
      ({ l with ff := ff, p := p, i := i, d := dd, xPrev := x, uRaw := raw i dd }, false)
    else
      -- the gain schedule region has changed, or a live swap has given new segments (R52)
      let ff0 := fAdd (fMul g0.ffGain l.spR) g0.ffOfs
      let d0 := dNode g0 ts b.d x b.xPrev
      let i0 := iNode d g0 ts b.i l.e b.uAct b.uRaw
      let u0 := fAdd (fAdd (fAdd ff0 (fMul g0.kp l.e)) i0) d0
      let t := iTransfer d (fSub (fSub (fSub u0 ff) p) b.d)
      ({ l with ff := ff, p := p, i := t.1, d := b.d, xPrev := x, uRaw := raw t.1 b.d }, t.2)

/-- U of a step by state (R283, R285), before curb selection: the loop, whether the slew limit acted and whether BUMP_CLAMP sets. -/
def uNodes (s : State) (n : Nat) (d : LoopDef) (old st : Nat) (g0 g : LoopSet) (inj : Option (Nat × Word)) (b l : LoopSt) :
    LoopSt × Bool × Bool :=
  let ts := loopTs s n
  let ff := fAdd (fMul g.ffGain l.spR) g.ffOfs
  let open_ := lcfg s n F.CTL_LOOP_CFG_PV_SRC == 0
  let p := if open_ then 0 else fMul g.kp l.e
  match st with
  | 0 => ({ l with ff := ff, p := p, u := d.offOut, uAct := d.offOut, uRaw := d.offOut }, false, false)
  | 1 =>
    let r := runNodes s n d old g0 g inj b l
    let w := slewTo d ts b.u (fClamp r.1.uRaw d.outMin d.outMax)
    ({ r.1 with u := w.1, uAct := w.1 }, w.2, r.2)
  | 2 =>
    let w := slewTo d ts b.u (fClamp (fAdd (manValue s n) (injAt inj 2)) d.outMin d.outMax)
    let x := xNode s n l
    let dd := if open_ ∨ old = 5 then 0 else dNode g ts b.d x b.xPrev
    ({ l with ff := ff, p := p, d := dd, xPrev := x, i := if open_ then 0 else fSub (fSub (fSub (fSub w.1 ff) p) dd) (injAt inj 2),
              uRaw := w.1, u := w.1, uAct := w.1 }, w.2, false)
  | 3 => ({ l with ff := ff, p := p, uAct := b.u }, false, false)
  | 4 =>
    let raw := fAdd ff l.i
    let w := slewTo d ts b.u (fClamp raw d.outMin d.outMax)
    ({ l with ff := ff, p := p, uRaw := raw, u := w.1, uAct := w.1 }, w.2, false)
  | _ => ({ l with ff := ff, p := p, u := d.safeOut, uAct := d.safeOut, uRaw := d.safeOut }, false, false)

/-- A node that is NaN or infinite (R283). -/
def badNode (l : LoopSt) : Bool := [l.sp, l.spR, l.pv, l.e, l.ff, l.p, l.d, l.i, l.uRaw, l.u].any (fun w => !fFinite w)

/-- Show a loop's nodes in its registers (R301). -/
def showLoop (n : Nat) (g : LoopSet) (s : State) : State :=
  let l := loopSt s n
  rsetAll s [(R.CTL_LOOP_SPR n, l.spR), (R.CTL_LOOP_PV n, l.pv), (R.CTL_LOOP_E n, l.e), (R.CTL_LOOP_I n, l.i), (R.CTL_LOOP_URAW n, l.uRaw),
    (R.CTL_LOOP_U n, l.u), (R.CTL_LOOP_UACT n, l.uAct), (R.CTL_LOOP_KP n, g.kp), (R.CTL_LOOP_KI n, g.ki), (R.CTL_LOOP_KD n, g.kd)]

/-- Change a loop's STATE with its record (R285). -/
def setLState (n st : Nat) (s : State) : State :=
  let old := lstate s n
  let s1 := fset s (R.CTL_LOOP_STAT n) F.CTL_LOOP_STAT_STATE st
  if old = st ∨ (recorded old = false ∧ recorded st = false) then s1 else raise s1 Ev.LOOP_STATE [n, old, st]

/-- What reports a loop in FAULT (R280, R283, R287). -/
def causeEv : LoopCause → Ev
  | .num => Ev.LOOP_NUM
  | _ => Ev.LOOP_FAULT

/-- A loop enters FAULT (R280, R283, R287). -/
def loopFault (n : Nat) (c : LoopCause) (s : State) : State :=
  match loopDef s n with
  | none => s
  | some d =>
    let s1 := setLoop n { loopSt s n with u := d.safeOut, uAct := d.safeOut, fault := some c, cmd := none } (setLState n 5 s)
    fault s1 (causeEv c) [n]

/-- What put a loop into FAULT has gone (R285). Log 72: DESIGN CHOICE. -/
def faultGone (s : State) (n : Nat) : Bool :=
  let l := loopSt s n
  match l.fault with
  | some .late => l.lateRun == 0
  | some .num => [l.sp, l.spR, l.pv, l.e, l.ff, l.p].all fFinite
  | some .feedback => (feedback s n).2
  | none => true

/-! ### Actuators -/

/-- DUTY of an output in percent (R292). -/
def dutyOf (u : Word) : Nat := (fRoundUp u 65536 100).toNat

/-- The load groups of an actuator that its loop's group owns (R236, R292). -/
def actGroups (s : State) (n : Nat) (d : LoopDef) : List Nat :=
  (List.range 8).filter (fun k => domOn s 10 && (actChans s n d).any (fun c => lgOf s c == k)
    && fget s (R.PWM_LG_CFG k) F.PWM_LG_CFG_OWNER == 2 && fget s (R.PWM_LG_CFG k) F.PWM_LG_CFG_INST == lcfg s n F.CTL_LOOP_CFG_GROUP)

/-- Write an actuator's duty to its channels' shadows (R292). A group found ARMED gets nothing for the cycle, and each loop concerned counts
it. Log 40: DEDUCED. -/
def actWrite (n : Nat) (d : LoopDef) (ls : List Nat) (u : Word) (s : State) : State :=
  let ks := actGroups s n d
  let armed := ks.filter (fun k => s.ctl.skip.contains k || lgArmed s k)
  let free := ks.filter (fun k => !armed.contains k)
  let s1 := forEach ((actChans s n d).filter (fun c => free.contains (lgOf s c))) (fun c s => shadowSet c false (dutyOf u) s) s
  let s2 := { s1 with ctl := { s1.ctl with wrote := s1.ctl.wrote ++ free.map (fun k => (n, k)), skip := armed ++ s1.ctl.skip } }
  if armed = [] then s2 else forEach ls (fun m s => fincSat s (R.CTL_LOOP_STAT m) F.CTL_LOOP_STAT_SKIP_ARMED) s2

/-- After all steps of the cycle the engine sets LOAD_ALL once for each load group written (R278, R292). Log 40: DEDUCED. -/
def ctlLoad (B : Nat) (s : State) : State :=
  if (List.range 64).all (fun n => !loopDue s B n || (loopSt s n).stepAt == some B) then
    forEach ((List.range 8).filter (fun k => s.ctl.wrote.any (fun w => w.2 == k))) lgArm { s with ctl := { s.ctl with wrote := [] } }
  else s

/-- Show whether a member's U was held by the limits or by the slew rate in its last step (R301). -/
def satShow (n : Nat) (d : LoopDef) (on slew : Bool) (u : Word) (s : State) : State :=
  let a := R.CTL_LOOP_STAT n
  fsetb (fsetb (fsetb s a F.CTL_LOOP_STAT_SAT_HI (on && fLe d.outMax u && !slew)) a F.CTL_LOOP_STAT_SAT_LO (on && fLe u d.outMin && !slew)) a
    F.CTL_LOOP_STAT_SLEW slew

/-- U_ACT of a member, in its register too. -/
def setUAct (m : Nat) (u : Word) (s : State) : State := rset (setLoop m { loopSt s m with uAct := u } s) (R.CTL_LOOP_UACT m) u

/-- An injection at PV or SP ends when its loop no longer wins its curb group (R296, R297). -/
def injLost (ms : List Nat) (win : Option Nat) (s : State) : State :=
  match s.ctl.inj with
  | some j => if ms.contains j.loop ∧ j.point ≠ 2 ∧ win ≠ some j.loop then injEnd 5 s else s
  | none => s

/-- The curb selection once its last due member has stepped (R290, R291). Log 40: DEDUCED. -/
def curbSelect (k : Nat) (s : State) : State :=
  let ms := curbMembers s k
  match ms with
  | [] => s
  | m0 :: _ =>
    match loopDef s m0 with
    | none => s
    | some d0 =>
      if curbManual s k then
        let io := ms.foldl (fun w m => if fIsZero (loopSt s m).injOut then w else (loopSt s m).injOut) 0
        let w := slewTo d0 (loopTs s m0) (loopSt s m0).uAct (fClamp (fAdd (rget s (R.CTL_CURB_MAN k)) io) d0.outMin d0.outMax)
        let s1 := forEach ms (fun m s =>
          let l := loopSt s m
          if lstate s m = 2 then
            let i := if lcfg s m F.CTL_LOOP_CFG_PV_SRC = 0 then 0 else fSub (fSub (fSub (fSub w.1 l.ff) l.p) l.d) l.injOut
            let l1 := { l with u := w.1, uRaw := w.1, i := i }
            let s1 := rsetAll (setLoop m l1 s) [(R.CTL_LOOP_U m, w.1), (R.CTL_LOOP_URAW m, w.1), (R.CTL_LOOP_I m, l1.i)]
            setUAct m w.1 (satShow m d0 true w.2 w.1 s1)
          else setUAct m w.1 s) s
        actWrite m0 d0 ms w.1 s1
      else
        let part := ms.filter (fun m => lstate s m == 1 || lstate s m == 3 || lstate s m == 4)
        let win := part.foldl (fun (b : Option Nat) m => match b with
          | none => some m
          | some x => if fLt (loopSt s m).u (loopSt s x).u then some m else some x) none
        let u := match win with | some m => (loopSt s m).u | none => d0.safeOut
        let last := ms.find? (fun m => fbit s (R.CTL_LOOP_STAT m) F.CTL_LOOP_STAT_WINNER)
        let s1 := forEach ms (fun m s =>
          fsetb (setUAct m u s) (R.CTL_LOOP_STAT m) F.CTL_LOOP_STAT_WINNER (decide (win = some m))) s
        let s2 := match win with
          | some m =>
            let s2 := fset s1 (R.CTL_CURB_STAT k) F.CTL_CURB_STAT_WINNER m
            if last.isSome ∧ last ≠ some m then fincWrap s2 (R.CTL_CURB_STAT k) F.CTL_CURB_STAT_SWITCHES else s2
          | none => s1
        actWrite m0 d0 ms u (injLost ms win s2)

/-! ### Trace -/

/-- A trace channel before ARM. -/
def trcInit : Nat → TrcCh := fun _ => ⟨[], 0, 0, none, none⟩

/-- A trace channel. -/
def trcOf (s : State) (c : Nat) : TrcCh := smGet trcInit s.ctl.trc c

/-- Record it. -/
def setTrc (c : Nat) (t : TrcCh) (s : State) : State := { s with ctl := { s.ctl with trc := smSet trcInit c t s.ctl.trc } }

/-- Samples in a trace buffer (R293). -/
def trcLen : Nat := 65536

/-- The trace triggers at a boundary (R294): each channel keeps its PRE samples and records until its buffer is full. Log 40: DEDUCED. -/
def trcTrigger (B : Nat) (s : State) : State :=
  if fget s R.CTL_TRC_STAT F.CTL_TRC_STAT_STATE ≠ 1 then s
  else
    let pre := fget s R.CTL_TRC_PRE F.CTL_TRC_PRE_PRE
    let src := fget s R.CTL_TRC_TRIG F.CTL_TRC_TRIG_SRC
    -- a sample of the trigger's boundary is not from before it
    let now (c : Nat) : Nat := b2n (decide (0 < (trcOf s c).taken) && decide (rget64 s (R.CTL_TRC_TB_LO c) (R.CTL_TRC_TB_HI c) = B))
    let s1 := forN 16 (fun c s => let t := trcOf s c; setTrc c { t with left := some (trcLen - min pre (t.taken - now c) - now c) } s) s
    let s2 := fset (fset s1 R.CTL_TRC_STAT F.CTL_TRC_STAT_STATE 2) R.CTL_TRC_STAT F.CTL_TRC_STAT_TRIG_IDX
      (fget s (R.CTL_TRC_IDX src) F.CTL_TRC_IDX_WR_IDX + trcLen - now src)
    rset64 s2 R.CTL_TRC_TRIG_TB_LO R.CTL_TRC_TRIG_TB_HI B

/-- A channel takes a sample (R293, R294). -/
def trcSample (c B : Nat) (w : Word) (s : State) : State :=
  let t := trcOf s c
  let i := fget s (R.CTL_TRC_IDX c) F.CTL_TRC_IDX_WR_IDX
  let s1 := setTrc c { t with buf := (w :: t.buf).take trcLen, taken := t.taken + 1, left := t.left.map (· - 1) } s
  let s2 := fset s1 (R.CTL_TRC_IDX c) F.CTL_TRC_IDX_WR_IDX (i + 1)
  let s3 := if i + 1 = trcLen then fincSat s2 (R.CTL_TRC_IDX c) F.CTL_TRC_IDX_WRAPS else s2
  rset64 s3 (R.CTL_TRC_TB_LO c) (R.CTL_TRC_TB_HI c) B

/-- The trace's part of a step of loop n (R293, R294, R299). -/
def trcStep (n B : Nat) (s : State) : State :=
  let cfg (c : Nat) (f : Fld) : Nat := fget s (R.CTL_TRC_CFG c) f
  let st0 := fget s R.CTL_TRC_STAT F.CTL_TRC_STAT_STATE
  if st0 ≠ 1 ∧ st0 ≠ 2 then s
  else
    let src := fget s R.CTL_TRC_TRIG F.CTL_TRC_TRIG_SRC
    let now := nodeOf s n (nodeCode (cfg src F.CTL_TRC_CFG_NODE))
    let lev := rget s R.CTL_TRC_LEVEL
    let edge := fget s R.CTL_TRC_TRIG F.CTL_TRC_TRIG_EDGE
    let cross := decide (cfg src F.CTL_TRC_CFG_LOOP = n) && (match (trcOf s src).prev with
      | some p => (bitOf edge 0 && fLt p lev && fLe lev now) || (bitOf edge 1 && fLt lev p && fLe now lev)
      | none => false)
    let inj := fbit s R.CTL_TRC_TRIG F.CTL_TRC_TRIG_TRIG_INJ && (match s.ctl.inj with
      | some j => j.loop == n && j.first == some B
      | none => false)
    let s1 := if cross || inj then trcTrigger B s else s
    let s2 := forN 16 (fun c s =>
      if cfg c F.CTL_TRC_CFG_EN = 0 ∨ cfg c F.CTL_TRC_CFG_LOOP ≠ n then s
      else
        let t := trcOf s c
        let w := nodeOf s n (nodeCode (cfg c F.CTL_TRC_CFG_NODE))
        let dec := if cfg c F.CTL_TRC_CFG_DEC = 0 then 256 else cfg c F.CTL_TRC_CFG_DEC
        let take := t.steps % dec == 0 && t.left != some 0
        let s3 := if take then trcSample c B w s else s
        setTrc c { trcOf s3 c with steps := t.steps + 1, prev := some w } s3) s1
    let live := (List.range 16).filter (fun c => cfg c F.CTL_TRC_CFG_EN != 0)
    if fget s2 R.CTL_TRC_STAT F.CTL_TRC_STAT_STATE = 2 ∧ fbit s R.CTL_TRC_CTRL F.CTL_TRC_CTRL_MODE ∧ live.all (fun c => (trcOf s2 c).left == some 0)
      then fset s2 R.CTL_TRC_STAT F.CTL_TRC_STAT_STATE 3 else s2

/-! ### LOOP_STEP -/

/-- The nodes of one step (R283), with its state change, schedule, records and registers; before curb selection. Log 40: DEDUCED. -/
def loopStep (n B : Nat) (d : LoopDef) (s : State) : State :=
  let b := loopSt s n
  let old := lstate s n
  let fb := feedback s n
  let st := nextState s n d fb.2
  let s1 := injCheck n B st d s
  -- the injection's first step
  let s2 := match s1.ctl.inj with
    | some j => if j.loop = n ∧ j.first = none then { s1 with ctl := { s1.ctl with inj := some { j with first := some B } } } else s1
    | none => s1
  let inj := injValue s2 n
  -- the region
  let v1 := schedVal s2 n d.ax1.var
  let v2 := schedVal s2 n d.ax2.var
  let bin1 := schedBin d.ax1 v1 b.bin1
  let bin2 := schedBin d.ax2 v2 b.bin2
  let g0 := ((s.img.oldSets.find? (fun x => x.1 == n)).map (·.2)).getD (d.sets.getD (4 * b.bin2 + b.bin1) setZero)
  let g := d.sets.getD (4 * bin2 + bin1) setZero
  let l0 := { frontNodes s2 n d inj b with s1 := v1, s2 := v2, bin1 := bin1, bin2 := bin2 }
  let r := uNodes s2 n d old st g0 g inj b l0
  let l := { r.1 with
    cmd := none
    manual := if st = 2 then true else if st = 0 ∨ st = 5 then b.manual else false
    holdAt := if st = 3 ∧ old ≠ 3 then B else b.holdAt
    fault := if st = 5 then b.fault else none
    lateRun := 0
    stepAt := some B }
  let a := R.CTL_LOOP_STAT n
  let s3 := setLoop n l (setLState n st { s2 with img := { s2.img with oldSets := s2.img.oldSets.filter (fun x => x.1 != n) } })
  let s3 := whenB (b.lateRun != 0) (fun s => faultEnd s Ev.LOOP_LATE [n]) s3
  let s3 := match b.fault with | some c => whenB (st != 5) (fun s => faultEnd s (causeEv c) [n]) s3 | none => s3
  let s4 := fset (if 4 * bin2 + bin1 = 4 * b.bin2 + b.bin1 then s3 else fincWrap s3 a F.CTL_LOOP_STAT_RGN_CHG) a F.CTL_LOOP_STAT_REGION (4 * bin2 + bin1)
  let s5 := satShow n d (st == 1 || st == 2 || st == 4) r.2.1 l.u s4
  let s6 := fsetb (fsetb s5 a F.CTL_LOOP_STAT_FB_INVALID (!fb.2)) a F.CTL_LOOP_STAT_INJ inj.isSome
  let s7 := whenB r.2.2 (fun s => fsetb s a F.CTL_LOOP_STAT_BUMP_CLAMP true) s6
  let s8 := if badNode l ∧ st ≠ 5 then loopFault n .num s7 else s7
  -- the injection has used one of its steps; a PV outside its band ends it
  let s9 := match s8.ctl.inj with
    | some j =>
      if j.loop ≠ n then s8
      else
        let s9 := { s8 with ctl := { s8.ctl with inj := some { j with steps := j.steps + 1 } } }
        if fLt l.pv j.lo ∨ fLt j.hi l.pv then injEnd 6 s9 else s9
    | none => s8
  showLoop n g s9

/-- A step of the checked lane may have to be discarded (R280): what it may change is kept. -/
def undoKeep (n : Nat) (d : LoopDef) (s : State) : State :=
  let regs := [R.CTL_LOOP_STAT n, R.CTL_LOOP_SPR n, R.CTL_LOOP_PV n, R.CTL_LOOP_E n, R.CTL_LOOP_I n, R.CTL_LOOP_URAW n, R.CTL_LOOP_U n,
    R.CTL_LOOP_UACT n, R.CTL_LOOP_KP n, R.CTL_LOOP_KI n, R.CTL_LOOP_KD n] ++ (actChans s n d).map R.PWM_CH_DUTY
    ++ (match curbOf s n with | some k => [R.CTL_CURB_STAT k] | none => [])
  let u : LoopUndo := ⟨n, loopSt s n, s.ctl.inj.filter (fun j => j.loop == n), regs.map (fun a => (a, rget s a))⟩
  { s with ctl := { s.ctl with undo := u :: s.ctl.undo } }

/-- A step is discarded (R280): the loop's state stays as before it, and an injection goes on at the next step (R299). Log 40: DEDUCED. -/
def undoStep (u : LoopUndo) (s : State) : State :=
  let s1 := rsetAll (setLoop u.loop u.st s) u.regs
  { s1 with ctl := { s1.ctl with wrote := s1.ctl.wrote.filter (fun w => w.1 != u.loop), inj := if u.inj.isSome then u.inj else s1.ctl.inj } }

/-- The spare lane's recomputation differs from the checked lane (R280): the lane's steps of the cycle are discarded; a lane that also
differed in the cycle before is retired. Log 40: DEDUCED. -/
def loopMismatch (lane B : Nat) (s : State) : State :=
  let s0 := forEach s.ctl.undo undoStep s
  let s1 := forEach ((List.range 64).filter (fun n => loopDue s B n && loopLane s B n == some lane))
    (fun n s => setLoop n { loopSt s n with stepAt := some B } s) s0
  let s2 := fincSat (fincWrap { s1 with ctl := { s1.ctl with misNow := some lane, undo := [] } } R.CTL_MISMATCH_CNT F.CTL_MISMATCH_CNT_COUNT)
    (R.CTL_LANE lane) F.CTL_LANE_MISMATCH
  let s3 := fault s2 Ev.LOOP_LANE_MISMATCH [lane]
  ctlLoad B (if s.ctl.misLast = some lane then unitRetire 1 lane (fault s3 Ev.LANE_RETIRED [1, lane]) else s3)

/-- Every due member of a curb group has stepped or been abandoned: the selection, and the trace of the members that stepped (R290). Log 40: DEDUCED. -/
def curbFinish (k B : Nat) (s : State) : State :=
  let ms := (curbMembers s k).filter (loopDue s B)
  let done := ms.filter (fun m => (loopSt s m).lateRun == 0)
  if ms.all (fun m => (loopSt s m).stepAt == some B) ∧ done ≠ [] then forEach done (fun m s => trcStep m B s) (curbSelect k s) else s

/-- What the partner is sent of a loop after its step (R298). -/
def loopWords (s : State) (n : Nat) : List Int :=
  let l := loopSt s n
  [(n : Int), ((rget s (R.CTL_LOOP_STAT n)).toNat : Int)]
    ++ [l.i, l.d, l.xPrev, l.u, l.uAct, l.spR, l.filt.getD 0].map (fun w => (w.toNat : Int)) ++ [(b2n l.filt.isSome : Int), (l.bin1 : Int), (l.bin2 : Int)]

/-- The engine runs loops: PD1 is on, the module drives its position, and the level is L1 or L2 (R6, R298). -/
def loopsRun (s : State) : Bool := domOn s 1 && !s.pwm.halted && drives s && decide (1 ≤ level s)

/-- A loop that a live swap removes holds its last output for the quiesce cycle (R52). -/
def loopHeld (s : State) (n : Nat) : Bool := quiescing s && s.img.loopGone.contains n

/-- LOOP_STEP (R278 to R283, R290, R292, R298): a due loop steps by B + 30,000. `mis`: the spare lane's recomputation of its lane
differs in this cycle. -/
def execLoopStep (n : Fin 64) (mis : Bool) (s : State) : Out :=
  .next (
    let B := boundaryAt s.tb
    match loopDef s n.val with
    | none => s
    | some d =>
      if loopsRun s = false ∨ loopDue s B n.val = false ∨ B + 30000 < s.tb ∨ (loopSt s n.val).stepAt = some B ∨ loopHeld s n.val then s
      else
        match loopLane s B n.val with
        | none => s
        | some lane =>
          let checked := !(sparesOf s 1).isEmpty && lane == laneDue s 1
          if mis && checked then loopMismatch lane B s
          else
            let s1 := loopStep n.val B d (whenB checked (undoKeep n.val d) s)
            let s2 := match curbOf s n.val with
              | some k => curbFinish k B s1
              | none => trcStep n.val B (actWrite n.val d [n.val] (loopSt s1 n.val).uAct s1)
            let s3 := pressInput (.loop n) (fRoundUp (loopSt s2 n.val).pv 1 1) (fFinite (loopSt s2 n.val).pv && (feedback s n.val).2)
              (lcfg s n.val F.CTL_LOOP_CFG_DIV * cycleTicks) s2
            ctlLoad B (if s.pwr.paired then send s3 MsgKind.PL_LOOP_STATE (midOf s ^^^ 1) (loopWords s3 n.val) else s3))

/-- LOOP_LATE (R280): a due step not finished by B + 30,000 is abandoned. -/
def execLoopLate (n : Fin 64) (s : State) : Out :=
  .next (
    let B := boundaryAt s.tb
    if loopsRun s = false ∨ loopDue s B n.val = false ∨ s.tb < B + 30000 ∨ (loopSt s n.val).stepAt = some B ∨ loopHeld s n.val then s
    else
      let s1 := fsetb (fsetb s (R.CTL_LOOP_STAT n.val) F.CTL_LOOP_STAT_LATE true) R.CTL_STATUS F.CTL_STATUS_LATE true
      let k := (loopSt s n.val).lateRun + 1
      let s2 := setLoop n.val { loopSt s n.val with lateRun := k, stepAt := some B } (fincWrap s1 R.CTL_LATE_CNT F.CTL_LATE_CNT_COUNT)
      let s3 := fault s2 Ev.LOOP_LATE [n.val]
      let s4 := if 10 ≤ k ∧ lstate s n.val ≠ 5 then loopFault n.val .late s3 else s3
      ctlLoad B (match curbOf s n.val with | some c => curbFinish c B s4 | none => s4))

/-- LOOP_HOLD_TIMEOUT (R287): HOLD has lasted FB_TMO. -/
def execLoopHoldTimeout (n : Fin 64) (s : State) : Out :=
  .next (if lstate s n.val = 3 ∧ (loopSt s n.val).holdAt + msTicks (lcfg1 s n.val F.CTL_LOOP_CFG1_FB_TMO) ≤ s.tb then
    loopFault n.val .feedback s else s)

/-! ### Loop commands -/

/-- LOOP_AUTO (R285): from the next step. FAULT clears only while its cause has gone. A member of a curb group follows its group. -/
def execLoopAuto (who : Fin 36) (n : Fin 64) (s : State) : Out :=
  .next (rapDo s who.val .other 1 (R.CTL_LOOP_CMD n.val) fun s =>
    if lstate s n.val = 5 ∧ faultGone s n.val = false then s
    else setLoop n.val { loopSt s n.val with cmd := some false } s)

/-- LOOP_MANUAL (R285, R291): ignored by a single member of a curb group. -/
def execLoopManual (who : Fin 36) (n : Fin 64) (s : State) : Out :=
  .next (rapDo s who.val .other 1 (R.CTL_LOOP_CMD n.val) fun s =>
    if (curbOf s n.val).isSome then s else setLoop n.val { loopSt s n.val with cmd := some true } s)

/-- CURB_AUTO (R291). -/
def execCurbAuto (who : Fin 36) (k : Fin 16) (s : State) : Out :=
  .next (rapDo s who.val .other 1 (R.CTL_CURB_CMD k.val) fun s => fsetb s (R.CTL_CURB_STAT k.val) F.CTL_CURB_STAT_MANUAL false)

/-- CURB_MANUAL (R291): the group enters MANUAL as a group. -/
def execCurbManual (who : Fin 36) (k : Fin 16) (s : State) : Out :=
  .next (rapDo s who.val .other 1 (R.CTL_CURB_CMD k.val) fun s =>
    if curbMembers s k.val = [] then s else fsetb s (R.CTL_CURB_STAT k.val) F.CTL_CURB_STAT_MANUAL true)

/-! ### Trace commands -/

/-- TRACE_ARM (R294): recording starts in every enabled channel. -/
def execTraceArm (who : Fin 36) (s : State) : Out :=
  .next (rapDo s who.val .test 1 R.CTL_TRC_CTRL fun s =>
    let s1 := forN 16 (fun c s => rsetN { s with ctl := { s.ctl with trc := smDel c s.ctl.trc } } (R.CTL_TRC_IDX c) 0) s
    fset { s1 with ctl := { s1.ctl with trcForce := false } } R.CTL_TRC_STAT F.CTL_TRC_STAT_STATE
      (if fbit s R.CTL_TRC_CTRL F.CTL_TRC_CTRL_MODE then 1 else 2))

/-- Recording ends (R294, R298). -/
def trcStop (s : State) : State :=
  let st := fget s R.CTL_TRC_STAT F.CTL_TRC_STAT_STATE
  let s1 := { s with ctl := { s.ctl with trcForce := false } }
  if st = 1 ∨ st = 2 then fset s1 R.CTL_TRC_STAT F.CTL_TRC_STAT_STATE 3 else s1

/-- TRACE_STOP (R294). -/
def execTraceStop (who : Fin 36) (s : State) : Out := .next (rapDo s who.val .test 1 R.CTL_TRC_CTRL trcStop)

/-- TRACE_FORCE (R294): the trigger, at the next boundary. -/
def execTraceForce (who : Fin 36) (s : State) : Out :=
  .next (rapDo s who.val .test 1 R.CTL_TRC_CTRL fun s => { s with ctl := { s.ctl with trcForce := fget s R.CTL_TRC_STAT F.CTL_TRC_STAT_STATE == 1 } })

/-! ### Injection commands -/

/-- The cause that refuses a START (R295, R296); none: it is accepted. Log 40: DEDUCED. -/
def injRefused (s : State) (who : Nat) : Option Nat :=
  let c (f : Fld) : Nat := fget s R.CTL_INJ_CFG f
  let n := c F.CTL_INJ_CFG_LOOP
  let point := c F.CTL_INJ_CFG_POINT
  let amp := rget s R.CTL_INJ_AMP
  let dur := fget s R.CTL_INJ_DUR F.CTL_INJ_DUR_DUR
  let job := fget s R.COV_JOB_STATUS F.COV_JOB_STATUS_STATE
  let f0 := rget s R.CTL_INJ_F0
  let f1 := rget s R.CTL_INJ_F1
  let top := fOfRatio 1250 (lcfg s n F.CTL_LOOP_CFG_DIV)
  let fOk (f : Word) : Bool := fFinite f && fLe (fOfRatio 1 100) f && fLe f top
  let sig := c F.CTL_INJ_CFG_SIG
  if sessRole s who ≠ some .oem ∧ sessRole s who ≠ some .service then some 3
  else if job = 3 ∨ job = 4 then some 4
  else if lstate s n ≠ 1 ∧ ¬(lstate s n = 2 ∧ point = 2) then some 5
  else if point ≠ 2 ∧ (curbOf s n).isSome ∧ fbit s (R.CTL_LOOP_STAT n) F.CTL_LOOP_STAT_WINNER = false then some 5
  else if s.img.loopSwap then some 10
  else if point = 3 ∨ fIsZero amp ∨ fFinite amp = false ∨ dur = 0 ∨ 600000 < dur ∨ (sig = 1 ∧ c F.CTL_INJ_CFG_N < 7) ∨
      (sig = 2 ∧ (fOk f0 && fOk f1) = false) ∨ (sig = 3 ∧ fOk f0 = false) then some 13
  else none

/-- INJ_START (R296, R297): refused with its cause, or started. A START while one runs replaces it. -/
def execInjStart (who : Fin 36) (s : State) : Out :=
  .next (
    if rapPath s = false then s else match sessRole s who.val with
    | none => rapAnswer s who.val .noSession []
    | some r =>
      match injRefused s who.val with
        | some c =>
          let s1 := fset s R.CTL_INJ_STAT F.CTL_INJ_STAT_CAUSE c
          rapAnswer (if c = 3 then writeDenied s1 r R.CTL_INJ_CTRL else s1) who.val .injDenied [c]
        | none =>
          let c (f : Fld) : Nat := fget s R.CTL_INJ_CFG f
          let j : Inj :=
            { loop := c F.CTL_INJ_CFG_LOOP, point := c F.CTL_INJ_CFG_POINT, sig := c F.CTL_INJ_CFG_SIG, n := c F.CTL_INJ_CFG_N,
              hold := c F.CTL_INJ_CFG_HOLD, amp := rget s R.CTL_INJ_AMP, f0 := rget s R.CTL_INJ_F0, f1 := rget s R.CTL_INJ_F1,
              lo := rget s R.CTL_INJ_ABORT_LO, hi := rget s R.CTL_INJ_ABORT_HI, dur := fget s R.CTL_INJ_DUR F.CTL_INJ_DUR_DUR,
              who := who.val, first := none, steps := 0 }
          let s0 := injEnd 1 s
          let s1 := fset (fset s0 R.CTL_INJ_STAT F.CTL_INJ_STAT_STATE 1) R.CTL_INJ_STAT F.CTL_INJ_STAT_CAUSE 0
          let s2 := rset64 { s1 with ctl := { s1.ctl with inj := some j } } R.CTL_INJ_TB_LO R.CTL_INJ_TB_HI s.tb
          rapAnswer (raise s2 Ev.INJ_START [j.loop, j.point, j.sig]) who.val .ok [])

/-- INJ_STOP (R297). -/
def execInjStop (who : Fin 36) (s : State) : Out := .next (rapDo s who.val .test 1 R.CTL_INJ_CTRL (injEnd 1))

/-- INJ_DURATION_END (R297). -/
def execInjDurationEnd (s : State) : Out :=
  .next (match s.ctl.inj with
    | some j => match j.first with
      | some f => if f + msTicks j.dur ≤ s.tb then injEnd 2 s else s
      | none => s
    | none => s)

/-! ### Boundaries and changes -/

/-- The inputs of the steps at a boundary (R278), and the rotation of the lane check (R37, R280). Log 40: DEDUCED. -/
def ctlBoundary (B : Nat) (rates : List (Nat × Word)) (v : Int) (s : State) : State :=
  let inp : CtlIn :=
    { gates := (strideOuts s).map (·.out) |>.filter (gateOn s)
      ain := (List.range 16).map (fun n =>
        let x := ainBefore s n B
        (Config.ainCal n x.1, x.2))
      ssi := (List.range 4).map (fun k => (fOfInt (rget s (R.FBI_SSI_VALUE k)).toNat,
        fbit s (R.FBI_SSI_STAT k) F.FBI_SSI_STAT_VALID && !fbit s (R.FBI_SSI_STAT k) F.FBI_SSI_STAT_STALE))
      rates := rates
      v := fOfInt v }
  let s0 := { s with ctl := { s.ctl with
    inp := inp, misLast := s.ctl.misNow, misNow := none, undo := [], wrote := [], skip := [], trcForce := false } }
  let s1 := match s.ctl.misLast with
    | some l => if s.ctl.misNow = none then faultEnd s0 Ev.LOOP_LANE_MISMATCH [l] else s0
    | none => s0
  let s2 := if s.ctl.misNow.isSome ∨ fbit s (R.CTL_LANE (laneDue s 1)) F.CTL_LANE_CHECKED = false then s1 else rotate 1 (laneDue s 1) s1
  let lanes := (loopUnits s2 B).zipIdx
  let s2 := whenB s.ctl.trcForce (trcTrigger B) { s2 with ctl := { s2.ctl with lanes := loopLanes s2 } }
  forN 5 (fun i s =>
    let ls := loopLanes s
    let k := (lanes.filter (fun u => ls[u.2 % ls.length]? == some i)).foldl (fun n u => n + u.1.length) 0
    fsetb (fset s (R.CTL_LANE i) F.CTL_LANE_STEPS (if ls = [] then 0 else k)) (R.CTL_LANE i) F.CTL_LANE_CHECKED
      (decide (laneDue s 1 = i) && !(sparesOf s 1).isEmpty)) s2

/-- A session that started the running injection ends (R297). -/
def injSessionEnd (who : Nat) (s : State) : State :=
  match s.ctl.inj with
  | some j => if j.who = who then injEnd 3 s else s
  | none => s

end Sys2Proof.Machine
end

