-- ==== Sys2Proof/Machine/Session.lean ====
section
/-!
DEFINITION. Machine/Session.lean: sessions (R385, R386, R391 to R395): who may open one, freshness and tags, and what the end of a
session takes with it.
-/

namespace Sys2Proof.Machine

/-- TT_HWM follows TT while TT is LOCKED or EXTERNAL (R393). Log 3: DESIGN CHOICE. -/
def hwmFollow (s : State) : State :=
  if (ttState s = 1 ∨ ttState s = 4) ∧ (fbit s R.BRD_STATUS F.BRD_STATUS_TT_HWM_VALID = false ∨ ttHwm s < ttNow s) then
    fsetb (rset64 s R.BRD_TT_HWM_LO R.BRD_TT_HWM_HI (bitsOf 64 (ttNow s))) R.BRD_STATUS F.BRD_STATUS_TT_HWM_VALID true
  else s

/-! ### The end of a session -/

/-- A handle closes unfinished (R485): an object written is discarded; an image upload in progress leaves RECEIVING. -/
def handleDrop (h : Handle) (s : State) : State :=
  if h.obj = 1 ∧ fget s R.IMG_STATUS F.IMG_STATUS_STATE = 1 then fset s R.IMG_STATUS F.IMG_STATUS_STATE 0 else s

/-- BRD_STATUS.TLS and CAN: sessions open. -/
def sessCount (s : State) : State :=
  let n (p : Nat → Bool) : Nat := (s.brd.sess.filter (fun x => p x.1)).length
  fset (fset s R.BRD_STATUS F.BRD_STATUS_TLS (n (fun k => decide (k < 4)))) R.BRD_STATUS F.BRD_STATUS_CAN (n (fun k => decide (4 ≤ k)))

/-- A lease stands ACTIVE while a contractor session under it is open (R403). -/
def leaseIdle (m : Nat) (s : State) : State :=
  if fget s (R.BRD_HIRE_STAT m) F.BRD_HIRE_STAT_STATE = 2 ∧ s.brd.sess.any (fun x => x.2.lease == some m) = false then
    fset s (R.BRD_HIRE_STAT m) F.BRD_HIRE_STAT_STATE 1 else s

/-- A session ends (R391, R394): its forces are released (R242), its injection ends (R297), its freeze ends (R437), its handles close
(R485), and a record gives the cause: 0 idle, 1 lifetime, 2 TLS error, 3 tag failures, 4 the peer lost its address, 5 bus-off, 6 the
module left L1, 7 rekey not completed, 8 a reset of PD1, 9 takeover, 10 replaced by a rekey, 11 a reset of PD7. Log 17: DEDUCED. -/
def sessClose (k cause : Nat) (s : State) : State :=
  match sessOf s k with
  | none => s
  | some x =>
    let s1 := injSessionEnd k (forceSessionEnd k s)
    let s2 := if s.stb.frozenAt.isSome ∧ s.stb.frozenBy = k then freezeStop s1 else s1
    let s3 := forEach (s2.rap.handles.filter (fun h => h.2.who == k)) (fun h s => handleDrop h.2 s) s2
    let rap1 := { s3.rap with
      handles := s3.rap.handles.filter (fun h => h.2.who != k)
      latch := s3.rap.latch.filter (fun l => l.1 / 2 ^ 32 != k)
      relays := s3.rap.relays.filter (fun r => r.who != k) }
    let s4 := rset { s3 with rap := rap1, brd := { s3.brd with sess := smDel k s3.brd.sess } } (R.BRD_SESS_STAT k) 0
    let s5 := match x.lease with | some m => leaseIdle m s4 | none => s4
    raise (sessCount s5) Ev.SESSION_CLOSED [k, cause]

/-- Every session that satisfies a predicate ends. -/
def sessCloseAll (p : Nat → Bool) (cause : Nat) (s : State) : State :=
  forEach ((s.brd.sess.filter (fun x => p x.1)).map (·.1)) (fun k s => sessClose k cause s) s

/-- The controller and peer address of a CAN session. -/
def sessPeer (s : State) (k : Nat) : Nat × Nat :=
  (fget s (R.BRD_SESS_STAT k) F.BRD_SESS_STAT_CTRL, fget s (R.BRD_SESS_STAT k) F.BRD_SESS_STAT_ADDR)

/-- The CAN session of a peer, if one is open. -/
def sessOn (s : State) (ctrl addr : Nat) : Option Nat :=
  ((s.brd.sess.filter (fun x => decide (4 ≤ x.1))).find? (fun x => sessPeer s x.1 == (ctrl, addr))).map (·.1)

/-- CAN sessions of a controller end. -/
def canSessEnd (ctrl cause : Nat) (s : State) : State := sessCloseAll (fun k => decide (4 ≤ k) && (sessPeer s k).1 == ctrl) cause s

/-! ### Opening a session -/

/-- The livery of a number. -/
def livery (s : State) (n : Nat) : Option Livery := (s.brd.livs.find? (fun x => x.1 == n)).map (·.2)

/-- State of a livery: 0 EMPTY, 1 BOUND, 2 OPEN, 3 ERASED. -/
def livState (s : State) (n : Nat) : Nat := fget s (R.BRD_LIV n) F.BRD_LIV_STATE

/-- The lease a contractor's key is named in (R385, R402): installed and not ended, with this module among its devices. -/
def leaseOf (s : State) (key : Nat) : Option Nat :=
  (s.brd.leases.find? (fun x => x.2.lease.contractor == key &&
    (let st := fget s (R.BRD_HIRE_STAT x.1) F.BRD_HIRE_STAT_STATE; st == 1 || st == 2 || st == 3 || st == 4 || st == 5) &&
    (x.2.lease.devices.isEmpty || x.2.lease.devices.contains s.pwr.serial))).map (·.1)

/-- The serials revoked for a chain (R386). -/
def revokedFor (s : State) (c : Cred) : Bool :=
  c.chain.any (fun x => s.cfg.secpol.revoked.contains x.serial) ||
    (match livery s c.livery with
      | some l => (c.role == .owner || c.role == .operator) && c.chain.any (fun x => l.revoked.contains x.serial)
      | none => false)

/-- The owner root of a livery that is not erased. -/
def ownerRoot (s : State) (n : Nat) : Option Nat := if livState s n = 3 then none else (livery s n).map (·.root)

/-- The chain ends at the anchor its role needs (R385): the root key of OTP, which certifies the OEM roots, the owner root of the livery, or an
inspection root; the owner root key may stand for itself. A contractor has the key of a lease. -/
def anchorOk (s : State) (c : Cred) : Bool :=
  match c.role with
  | .vendor => chainHolds s s.img.otpRoot c.chain
  | .oem | .service => chainHolds s s.img.otpRoot c.chain && c.oemId == s.img.oemId
  | .owner => (ownerRoot s c.livery).any (fun r => chainHolds s r c.chain || (c.chain.isEmpty && c.key == r))
  | .operator => (ownerRoot s c.livery).any (fun r => chainHolds s r c.chain)
  | .contractor => (leaseOf s c.key).isSome
  | .inspector => s.cfg.secpol.roots.any (fun r => chainHolds s r c.chain)
  | .agronomist => false
  | .debug => false

/-- The check of a credential (R386): 0 passed, 1 BAD_SIG, 2 BAD_CHAIN. -/
def credCheck (s : State) (c : Cred) : Nat :=
  if anchorOk s c = false ∨ revokedFor s c = true then 2 else if c.sigOk = false then 1 else 0

/-- A session refused, with its record (R386): the peer is told, over TLS (controller none) or on its controller. Log 49: DEDUCED. -/
def sessRefused (ctrl : Option (Fin 4)) (addr : Nat) (c : Cred) (why : Nat) (s : State) : State :=
  raise (send s MsgKind.SESSION_REFUSED addr [why, ((ctrl.map (fun k => (k.val : Int))).getD (-1))])
    Ev.SESSION_REFUSED [why, ((c.chain.map (·.serial)).headD 0 : Nat)]

/-- A lease becomes ACTIVE while the check time lies within it (R403). -/
def leaseActive (m : Nat) (s : State) : State :=
  match (s.brd.leases.find? (fun x => x.1 == m)).map (·.2.lease) with
  | some l =>
    if fget s (R.BRD_HIRE_STAT m) F.BRD_HIRE_STAT_STATE = 1 ∧ l.fromT ≤ checkTime s ∧ checkTime s < l.toT then
      fset s (R.BRD_HIRE_STAT m) F.BRD_HIRE_STAT_STATE 2 else s
  | none => s

/-- Open a session (R391, R392). -/
def sessOpen (k ctrl addr sid rekeys : Nat) (c : Cred) (s : State) : State :=
  let lease := if c.role = .contractor then leaseOf s c.key else none
  let x : Sess := ⟨sid, 0, 0, [], s.tb, s.tb, 0, 0, none, c.livery, lease⟩
  let w := fsetW (fsetW (fsetW (fsetW 0 F.BRD_SESS_STAT_OPEN 1) F.BRD_SESS_STAT_ROLE (roleCode c.role)) F.BRD_SESS_STAT_CTRL ctrl)
    F.BRD_SESS_STAT_ADDR addr
  let s1 := rset (rset (setSess k x s) (R.BRD_SESS_STAT k) w) (R.BRD_SESS_CNT k) (fsetW 0 F.BRD_SESS_CNT_REKEYS (min rekeys 255))
  let s2 := raise (sessCount s1) Ev.SESSION_OPEN [k, roleCode c.role]
  match lease with | some m => leaseActive m s2 | none => s2

/-- TLS_HANDSHAKE (R391): the lowest free of four places, or refused. -/
def execTlsHandshake (c : Cred) (s : State) : Out :=
  .next (if rapPath s = false ∨ s.pwm.halted then s
    else match (List.range 4).find? (fun k => (sessOf s k).isNone) with
      | none => s
      | some k =>
        let e := credCheck s c
        if e = 0 then sessOpen k 0 0 0 0 c s else sessRefused none 0 c e s)

/-- TLS_IDLE_TIMEOUT (R391): 300 s without a RAP request. -/
def execTlsIdleTimeout (k : Fin 4) (s : State) : Out :=
  .next (match sessOf s k.val with
    | some x => if x.lastAt + 300 * secTicks ≤ s.tb then sessClose k.val 0 s else s
    | none => s)

/-- TLS_LIFETIME_END (R391): 24 h in all. -/
def execTlsLifetimeEnd (k : Fin 4) (s : State) : Out :=
  .next (match sessOf s k.val with
    | some x => if x.opened + 86400 * secTicks ≤ s.tb then sessClose k.val 1 s else s
    | none => s)

/-- TLS_ERROR (R36, R391). -/
def execTlsError (k : Fin 4) (s : State) : Out :=
  .next (if (sessOf s k.val).isNone then s else sessClose k.val 2 (fault s Ev.TLS_ERROR [k.val]))

/-- TLS_KEY_UPDATE (R391): the record that completes 2^24 of them in a direction, and the KeyUpdate that follows it. Log 49: DEDUCED. -/
def execTlsKeyUpdate (k : Fin 4) (rx : Bool) (s : State) : Out :=
  .next (match sessOf s k.val with
    | some x => send (setSess k.val (if rx then { x with keyRx := x.keyRx + 1 } else { x with keyTx := x.keyTx + 1 }) s) MsgKind.TLS_KEY_UPDATE k.val [b2n rx]
    | none => s)

/-! ### CAN sessions -/

/-- The place of a new CAN session: at most 8 on a controller (R392). -/
def canPlace (s : State) (ctrl : Nat) : Option Nat :=
  if 8 ≤ (s.brd.sess.filter (fun x => decide (4 ≤ x.1) && (sessPeer s x.1).1 == ctrl)).length then none
  else ((List.range 32).map (· + 4)).find? (fun k => (sessOf s k).isNone)

/-- Forget a handshake. -/
def shakeDrop (key : Nat) (s : State) : State := { s with brd := { s.brd with shakes := smDel key s.brd.shakes } }

/-- RAP_SESSION (R392, R394): the peer's first message gets the module's chain, key, nonce and signature; its completion opens the
session, in the place of the old one where the peer rekeys. -/
def execRapSession (ctrl : Fin 4) (addr : Fin 256) (m : SessMsg) (s0 : State) : Out :=
  .next (if domOn s0 1 = false ∨ domOn s0 7 = false ∨ s0.pwm.halted then s0
    else
      let s := canTake ctrl.val 1 s0
      let key := ctrl.val * 256 + addr.val
      match m with
      | .hello c =>
        let e := credCheck s { c with sigOk := true }
        if e ≠ 0 then sessRefused (some ctrl) addr.val c e s
        else if (sessOn s ctrl.val addr.val).isNone ∧ canPlace s ctrl.val = none then s
        else send { s with brd := { s.brd with shakes := smIns key c s.brd.shakes } } MsgKind.SESSION_ANSWER addr.val [ctrl.val, s.pwr.serial]
      | .finish ok sid =>
        match (s.brd.shakes.find? (fun x => x.1 == key)).map (·.2) with
        | none => s
        | some c =>
          let s0 := shakeDrop key s
          let e := credCheck s { c with sigOk := ok }
          if e ≠ 0 then sessRefused (some ctrl) addr.val c e s0
          else match sessOn s ctrl.val addr.val with
            | some k =>
              let n := fget s (R.BRD_SESS_CNT k) F.BRD_SESS_CNT_REKEYS
              sessOpen k ctrl.val addr.val sid (n + 1) c s0
            | none => match canPlace s ctrl.val with
              | some k => sessOpen k ctrl.val addr.val sid 0 c s0
              | none => s0)

/-- CAN_SESSION_REKEY (R394): a side's F has reached 2^31; a new handshake starts. Log 49: DEDUCED. -/
def execCanSessionRekey (who : Fin 36) (s : State) : Out :=
  .next (match sessOf s who.val with
    | some x =>
      if who.val < 4 ∨ x.rekey.isSome ∨ (x.fRx < 2 ^ 31 ∧ x.fTx < 2 ^ 31) then s
      else
        let s1 := setSess who.val { x with rekey := some s.tb } s
        if 2 ^ 31 ≤ x.fTx then send s1 MsgKind.SESSION_REKEY (sessPeer s who.val).2 [(sessPeer s who.val).1] else s1
    | none => s)

/-- REKEY_TIMEOUT (R394): 10 s after the rekey began the old keys stop being used. -/
def execRekeyTimeout (who : Fin 36) (s : State) : Out :=
  .next (match sessOf s who.val with
    | some x => match x.rekey with
      | some t => if t + 10 * secTicks ≤ s.tb then sessClose who.val 7 s else s
      | none => s
    | none => s)

/-! ### Authenticated messages -/

/-- F of a received message (R393): the value with these low 8 bits, 1 to 256 ahead of the last. Log 49: DEDUCED. -/
def freshOf (last fv : Nat) : Nat :=
  let f := last / 256 * 256 + fv % 256
  if f ≤ last then f + 256 else f

/-- The check of an authenticated message (R393, R394): FV_LO and the freshness value for which its tag is right, none where it is right for
none. 16 failures within 1 s close the session. Log 46: DEDUCED. Log 49: DEDUCED. -/
def authCheck (k fv : Nat) (tagF : Option Nat) (s : State) : Bool × State :=
  match sessOf s k with
  | none => (false, s)
  | some x =>
    let f := freshOf x.fRx fv
    if tagF = some f ∧ f < 2 ^ 32 then (true, setSess k { x with fRx := f } s)
    else
      let l := (x.fails ++ [s.tb]).filter (fun t => decide (s.tb < t + secTicks))
      let s1 := fincSat (setSess k { x with fails := l } s) (R.BRD_SESS_CNT k) F.BRD_SESS_CNT_TAG_FAIL
      (false, if 16 ≤ l.length then sessClose k 3 s1 else s1)

/-- A message that needs a session came without a valid trailer (R395): counted for the peer's session. -/
def unauthDrop (ctrl addr : Nat) (s : State) : State :=
  match sessOn s ctrl addr with
  | some k => fincSat s (R.BRD_SESS_CNT k) F.BRD_SESS_CNT_UNAUTH_DROP
  | none => s

/-- TT_HWM_STORE (R393): every 60 s, and at key-off. -/
def hwmStore (s : State) : State := { s with brd := { s.brd with hwmStored := ttHwm s, hwmAt := s.tb } }

/-- See `hwmStore`. -/
def execTtHwmStore (s : State) : Out :=
  .next (if domOn s 9 ∧ fbit s R.BRD_STATUS F.BRD_STATUS_TT_HWM_VALID ∧ s.brd.hwmAt + 60 * secTicks ≤ s.tb then hwmStore s else s)

/-! ### The level -/

/-- A working-set item is lost (R7): the module drops, CAN sessions end where it leaves L1 (R394), and where L0 is lost the island opens its
outputs (R8). Log 49: DEDUCED. -/
def levelLost (s : State) : State :=
  let s1 := levelDrop (if l0Ok s then s else staged l0Open s)
  if 1 ≤ level s ∧ level s1 = 0 then sessCloseAll (fun k => decide (4 ≤ k)) 6 s1 else s1

/-- FEED_UV (R264, R6): the feed has been below UV_THR for UV_T. -/
def execFeedUv (f : Fin 6) (s : State) : Out :=
  .next (if domOn s 0 = false ∨ fbit s (R.LSW_FEED_STAT f.val) F.LSW_FEED_STAT_UV then s
    else staged (fun s =>
      let s0 := { s with lsw := { s.lsw with second := smDel f.val s.lsw.second, uvAt := smSet zero f.val s.tb s.lsw.uvAt } }
      let s1 := fincSat (fsetb s0 (R.LSW_FEED_STAT f.val) F.LSW_FEED_STAT_UV true) (R.LSW_FEED_CNT f.val) F.LSW_FEED_CNT_UV_EVENTS
      let s2 := forEach (feedChans f.val) (fun n s => retrySync n (fsetb s (R.LSW_CH_STAT n) F.LSW_CH_STAT_FEED_UV true)) s1
      levelLost (fault s2 Ev.FEED_UV [f.val, s.tb])) s)

end Sys2Proof.Machine
end

