-- ==== Sys2Proof/Machine/Can.lean ====
section
/-!
DEFINITION. Machine/Can.lean: the CAN controllers (R304 to R330): modes, errors, the queue and the ring, filter programs and map actions,
transmit slots, and the ISO 11783 stack.
-/

namespace Sys2Proof.Machine

/-- Mode in force (R305): 0 NORMAL, 1 LISTEN_ONLY, 2 SLEEP, 3 OFF. -/
def canMode (s : State) (c : Nat) : Nat := fget s (R.CAN_STATUS c) F.CAN_STATUS_MODE_ACT

/-- STATE: 0 error-active, 1 error-passive, 2 bus-off, 3 not on the bus. -/
def canState (s : State) (c : Nat) : Nat := fget s (R.CAN_STATUS c) F.CAN_STATUS_STATE

/-- The controller runs: PD7 is on and the mode is NORMAL or LISTEN_ONLY. -/
def canOn (s : State) (c : Nat) : Bool := domOn s 7 && decide (canMode s c ≤ 1)

/-! ### The queue -/

/-- An entry of a frame (R314). -/
def entOf (f : CanFr) (stamp flags slot : Nat) : CanEnt :=
  ⟨stamp, 0, f.id, f.ide, f.rtr, f.fdf, f.dlc, flags + b2n f.brs + 2 * b2n f.esi, 0, slot, 0, f.data.take 64⟩

/-- Put an entry into the on-chip queue of 256, or lose it (R313). Log 46: DEDUCED. -/
def canPut (c : Nat) (e : CanEnt) (s : State) : State :=
  let x := canOf s c
  if x.lost = none ∧ x.queue.length < 256 then setCan c { x with queue := x.queue ++ [e] } s
  else
    let l := match x.lost with | some (t, n) => (t, n + 1) | none => (e.stamp, 1)
    fincSat (setCan c { x with lost := some l } s) (R.CAN_LOSS c) F.CAN_LOSS_QUEUE_OVF

/-- A LOST entry (R313, R314). Log 46: DEDUCED. -/
def lostEnt (t n : Nat) : CanEnt := ⟨t, 0, 0, false, false, false, 0, 16, 0, 255, 0, [n % 256, n / 256 % 256, n / 65536 % 256, n / 16777216 % 256]⟩

/-- An ERR entry (R310, R314). -/
def errEnt (s : State) (c code : Nat) (tx : Bool) : CanEnt :=
  ⟨s.tb, 0, 0, false, false, false, 0, 8, 0, 255, 0,
    [code, fget s (R.CAN_STATUS c) F.CAN_STATUS_TEC, fget s (R.CAN_STATUS c) F.CAN_STATUS_REC, b2n tx]⟩

/-! ### Errors -/

/-- A frame of ours acknowledged, or a frame of another node (R311). -/
def peerSeen (c : Nat) (s : State) : State :=
  let s1 := fset s (R.CAN_STATUS c) F.CAN_STATUS_ACK_RUN 0
  if fbit s (R.CAN_STATUS c) F.CAN_STATUS_NO_PEER then faultEnd (fsetb s1 (R.CAN_STATUS c) F.CAN_STATUS_NO_PEER false) Ev.NO_PEER [c] else s1

/-- STATE by the counts of ISO 11898-1 (R310): error-passive from 128. Bus-off is entered in `execCanError`. -/
def canStateSync (c : Nat) (s : State) : State :=
  if canState s c = 2 ∨ canState s c = 3 then s
  else fset s (R.CAN_STATUS c) F.CAN_STATUS_STATE
    (b2n (decide (128 ≤ fget s (R.CAN_STATUS c) F.CAN_STATUS_TEC) || decide (128 ≤ fget s (R.CAN_STATUS c) F.CAN_STATUS_REC)))

/-- What a frame received takes from REC under ISO 11898-1 (R310): one, or back below 128. Log 47: DEDUCED. -/
def recDown (s : State) (c : Nat) : Nat :=
  let r := fget s (R.CAN_STATUS c) F.CAN_STATUS_REC
  if r ≤ 127 then r - 1 else 119 + Config.recBack r % 9

/-- CAN_FRAME (R312, R313): a frame of another node completes. -/
def execCanFrame (ctrl : Fin 4) (f : CanFr) (sof : Nat) (s : State) : Out :=
  .next (
    let c := ctrl.val
    if canOn s c = false ∨ canState s c = 2 ∨ s.tb < sof then s
    else
      let listen := canMode s c == 1
      let s1 := canPut c (entOf f sof (if listen then 32 else 0) 255) s
      peerSeen c (if listen then s1 else canStateSync c (fset s1 (R.CAN_STATUS c) F.CAN_STATUS_REC (recDown s c))))

/-- ACK_RUN and NO_PEER (R311). Log 47: DEDUCED. -/
def ackError (c : Nat) (s : State) : State :=
  let s1 := fincSat s (R.CAN_STATUS c) F.CAN_STATUS_ACK_RUN
  if fget s1 (R.CAN_STATUS c) F.CAN_STATUS_ACK_RUN < fget s (R.CAN_CTRL c) F.CAN_CTRL_ACK_LIMIT ∨
      fbit s (R.CAN_STATUS c) F.CAN_STATUS_NO_PEER then s1
  else fault (fsetb s1 (R.CAN_STATUS c) F.CAN_STATUS_NO_PEER true) Ev.NO_PEER [c]

/-- What an error adds (R310, R311): an ACK error adds 8 to TEC until error-passive, and then only with a dominant bit in the passive
error flag; any other what ISO 11898-1 says. Log 47: DEDUCED. -/
def errStep (s : State) (c code : Nat) (tx dom : Bool) (step : Nat) : Nat :=
  if tx ∧ code = 4 then (if canState s c = 1 ∧ dom = false then 0 else 8) else step

/-- CAN_ERROR (R310, R311, R394). -/
def execCanError (ctrl : Fin 4) (code : Fin 6) (tx dom : Bool) (step : Fin 9) (s : State) : Out :=
  .next (
    let c := ctrl.val
    if canOn s c = false ∨ code.val = 0 ∨ canState s c = 2 then s
    else
      let f := if tx then F.CAN_STATUS_TEC else F.CAN_STATUS_REC
      let n := fget s (R.CAN_STATUS c) f + (if canMode s c = 1 then 0 else errStep s c code.val tx dom step.val)
      let s1 := fault (fset (fincSat s (R.CAN_ERR c) F.CAN_ERR_ERR_CNT) (R.CAN_ERR c) F.CAN_ERR_LAST_ERR code.val) Ev.CAN_ERROR [c, code.val, b2n tx]
      let s2 := canStateSync c (fset s1 (R.CAN_STATUS c) f (min n 255))
      let s3 := canPut c (errEnt s2 c code.val tx) s2
      let s4 := if tx ∧ code.val = 4 then ackError c s3 else s3
      if tx ∧ 256 ≤ n then
        let s5 := fincSat (fset s4 (R.CAN_STATUS c) F.CAN_STATUS_STATE 2) (R.CAN_ERR c) F.CAN_ERR_BUS_OFF_CNT
        let s6 := canSessEnd c 5 (fault (canPut c (errEnt s5 c 6 true) s5) Ev.CAN_BUS_OFF [c])
        setCan c { canOf s6 c with recover := if fbit s (R.CAN_CTRL c) F.CAN_CTRL_AUTO_REC then some s.tb else none } s6
      else s4)

/-- Ticks of TB in a number of nominal bits (R306): a quantum is BRP / 80 MHz. -/
def bitTicks (s : State) (c n : Nat) : Nat :=
  let f (x : Fld) : Nat := fget s (R.CAN_NBT c) x
  n * f F.CAN_NBT_BRP * (1 + f F.CAN_NBT_TSEG1 + f F.CAN_NBT_TSEG2) * 5 / 2

/-- Enough time has passed since recovery began for 128 occurrences of 11 recessive bits (R310). Log 47: DEDUCED. -/
def recovered (s : State) (c : Nat) : Bool :=
  match (canOf s c).recover with
  | some t => decide (t + bitTicks s c 1408 ≤ s.tb)
  | none => false

/-- BUS_OFF_RECOVERY (R310): 128 occurrences of 11 recessive bits after the sequence was started. -/
def execBusOffRecovery (ctrl : Fin 4) (s : State) : Out :=
  .next (
    let c := ctrl.val
    if canState s c ≠ 2 ∨ recovered s c = false ∨ domOn s 7 = false then s
    else
      let s1 := fset (fset (fset s (R.CAN_STATUS c) F.CAN_STATUS_STATE 0) (R.CAN_STATUS c) F.CAN_STATUS_TEC 0) (R.CAN_STATUS c) F.CAN_STATUS_REC 0
      let s2 := setCan c { canOf s1 c with recover := none } s1
      faultEnd (canPut c (errEnt s2 c 7 true) s2) Ev.CAN_BUS_OFF [c])

/-- CAN_RECOVER (R310). -/
def execCanRecover (who : Fin 36) (ctrl : Fin 4) (s : State) : Out :=
  .next (rapDo s who.val .other 7 (R.CAN_CTRL ctrl.val) fun s =>
    if canState s ctrl.val = 2 ∧ (canOf s ctrl.val).recover = none then setCan ctrl.val { canOf s ctrl.val with recover := some s.tb } s else s)

/-! ### Filter programs -/

/-- Bytes of a payload from an offset as a little-endian number; bytes beyond LEN read 0. -/
def leBytes (d : List Nat) (off n : Nat) : Nat := (List.range n).foldl (fun v k => v + d.getD (off + k) 0 % 256 * 256 ^ k) 0

/-- PF of a 29-bit identifier. -/
def pfOf (id : Nat) : Nat := id / 65536 % 256

/-- PGN of a frame (R317). -/
def pgnOf (e : CanEnt) : Nat := if e.ide = false then 0 else let p := e.id / 256 % 262144; if pfOf e.id < 0xF0 then p / 256 * 256 else p

/-- Source address; 0 for 11-bit frames. -/
def saOf (e : CanEnt) : Nat := if e.ide then e.id % 256 else 0

/-- Destination address (R317). -/
def daOf (e : CanEnt) : Nat := if e.ide = true ∧ pfOf e.id < 0xF0 then e.id / 256 % 256 else 255

/-- The fields LD reads (R317). -/
def ldField (e : CanEnt) (arg : Nat) : Nat :=
  if arg = 0 then e.id
  else if arg = 1 then b2n e.ide
  else if arg = 2 then b2n e.fdf
  else if arg = 3 then e.data.length
  else if arg = 4 then (if e.ide then e.id / 2 ^ 26 % 8 else 0)
  else if arg = 5 then pgnOf e
  else if arg = 6 then saOf e
  else if arg = 7 then daOf e
  else if arg = 8 then b2n (bitOf e.flags 2)
  else if arg = 9 then b2n (bitOf e.flags 3)
  else if 0x10 ≤ arg ∧ arg ≤ 0x4F then leBytes e.data (arg - 0x10) 1
  else if 0x80 ≤ arg ∧ arg ≤ 0xBC then leBytes e.data (arg - 0x80) 4
  else 0

/-- What a program has done to an entry: TAG, consumers, and map entries in order. -/
structure FiltRes where
  tag  : Nat
  cons : List Nat
  maps : List Nat
deriving DecidableEq, Repr, Inhabited

/-- Run a filter program (R316): instruction, accumulator, result so far. -/
def runFilt (prog : List FInstr) (e : CanEnt) : Nat → Nat → Nat → FiltRes → FiltRes
  | 0, _, _, r => r
  | n + 1, pc, a, r =>
    match prog[pc]? with
    | none => r
    | some i =>
      let jump (c : Bool) : FiltRes := runFilt prog e n (if c then pc + i.skip + 1 else pc + 1) a r
      if i.op = 1 then runFilt prog e n (pc + 1) (ldField e i.arg) r
      else if i.op = 2 then runFilt prog e n (pc + 1) (a &&& i.imm) r
      else if i.op = 3 then jump (a == i.imm)
      else if i.op = 4 then jump (a != i.imm)
      else if i.op = 5 then jump (decide (a < i.imm))
      else if i.op = 6 then jump (decide (i.imm ≤ a))
      else if i.op = 7 then jump (a &&& i.imm != 0)
      else if i.op = 8 then jump true
      else if i.op = 9 then runFilt prog e n (pc + 1) a { r with tag := i.imm % 256 }
      else if i.op = 10 then runFilt prog e n (pc + 1) a (if r.cons.contains i.arg then r else { r with cons := r.cons ++ [i.arg] })
      else if i.op = 11 then runFilt prog e n (pc + 1) a { r with maps := r.maps ++ [i.imm] }
      else r

/-- The program that filters a frame with a stamp (R52). -/
def filtFor (s : State) (c stamp : Nat) : Option Filt :=
  match (canOf s c).oldFilt with
  | some (t, f) => if stamp < t then some f else s.cfg.filts.find? (fun x => x.ctrl == c)
  | none => s.cfg.filts.find? (fun x => x.ctrl == c)

/-! ### Map actions -/

/-- The raw value of a field (R319). -/
def mapRaw (m : MapEnt) (d : List Nat) : Int :=
  let v := leBytes d 0 64 / 2 ^ m.off % 2 ^ m.width
  if m.signed then sext m.width v else v

/-- raw × SCALE + OFS exactly: a number and a power of two. Log 46: DEDUCED. -/
def mapExact (m : MapEnt) (raw : Int) : Int × Int :=
  let e := min (fScale m.scale) (fScale m.ofs)
  (raw * fSig m.scale * 2 ^ (fScale m.scale - e).toNat + fSig m.ofs * 2 ^ (fScale m.ofs - e).toNat, e)

/-- The value for an integer target, halves up (R319). Log 46: DEDUCED. -/
def mapInt (m : MapEnt) (raw : Int) : Int :=
  let v := mapExact m raw
  if 0 ≤ v.2 then v.1 * 2 ^ v.2.toNat else (2 * v.1 + 2 ^ (-v.2).toNat) / (2 * 2 ^ (-v.2).toNat)

/-- A map action (R319). Log 46: DEDUCED. Log 60: DEDUCED. -/
def mapAct (c : Nat) (m : MapEnt) (d : List Nat) (s : State) : State :=
  let raw := mapRaw m d
  let v := mapInt m raw
  match m.target with
  | 0 => if domOn s 1 then teamChange (.master (v != 0)) s else s
  | 1 =>
    if h : m.idx / 32 < 3 then
      let k : Fin 3 := ⟨m.idx / 32, h⟩
      if domOn s 1 then teamChange (.secsw k (BitVec.ofNat 32 (setBit (rget s (R.STR_SECSW k.val)).toNat (m.idx % 32) (v != 0)))) s else s
    else s
  | 2 =>
    if h : m.idx < 96 then
      if domOn s 1 then teamChange (.stall ⟨m.idx, h⟩ (fsetW (rget s (R.STR_STALL m.idx)) F.STR_STALL_EN (b2n (v != 0)))) s else s
    else s
  | 3 =>
    if h : m.idx < 96 then
      if domOn s 1 then
        teamChange (.stall ⟨m.idx, h⟩ (fsetW (rget s (R.STR_STALL m.idx)) F.STR_STALL_DOSE
          (if 0 ≤ v then fitU 16 v.toNat else Config.unfit 16 v))) s
      else s
    else s
  | 4 =>
    -- a RAP write of the same tick stands (R484)
    if domOn s 1 ∧ lcfg s m.idx F.CTL_LOOP_CFG_SP_SRC = 0 ∧ smGet zero s.rap.spAt m.idx ≠ s.tb + 1 then
      rset s (R.CTL_LOOP_SP m.idx) (let x := mapExact m raw; fOfScaled x.1 x.2)
    else s
  | 5 =>
    if h : c < 4 then
      lgWrite (.can ⟨c, h⟩) (lgOf s m.idx) (R.PWM_CH_DUTY m.idx) (shadowSet m.idx false (clampInt 0 65536 v).toNat) s
    else s
  | 6 => if h : c < 4 then lgWrite (.can ⟨c, h⟩) m.idx (R.PWM_LG_CTRL m.idx) (lgArm m.idx) s else s
  | _ => s

/-! ### Deliveries -/

/-- Deliver an entry to a consumer (R318): its queue holds 4,096. The answer says whether it was made. -/
def deliver (c k rseq : Nat) (s : State) : Bool × State :=
  let x := canOf s c
  let q := smGet noList x.deliv k
  if 4096 ≤ q.length then (false, fincSat s (R.CAN_LOSS c) F.CAN_LOSS_DELIV_OVF)
  else (true, setCan c { x with deliv := smSet noList k (q ++ [rseq]) x.deliv } s)

/-- The address a PGN EF00h message must name (R327): the claimed one, or on a private bus the one the team plan gives. Log 46: DEDUCED. -/
def rapAddr (s : State) (c : Nat) : Nat :=
  if fbit s (R.CAN_ISO c) F.CAN_ISO_ROLE then fget s (R.CAN_ISO c) F.CAN_ISO_ADDR
  else ((s.cfg.plan.positions.find? (fun p => p.pos == midOf s / 2)).map (·.canAddr)).getD 254

/-- What the ISO stack takes on the ISOBUS controller whatever the program does (R318). -/
def isoAlways (s : State) (c : Nat) (e : CanEnt) : Bool :=
  fbit s (R.CAN_ISO c) F.CAN_ISO_ROLE && e.ide &&
    ([59904, 60928, 60416, 60160, 51200, 50944].contains (pgnOf e) || (pgnOf e == 0xEF00 && daOf e == rapAddr s c))

/-- A message of PGN EF00h addressed to the module: the consumer its first byte names (R327). -/
def efConsumer (d : List Nat) : Option Nat := if d.head? = some 0x51 then some 1 else if d.head? = some 0xD3 then some 2 else none

/-- Does a delivery need a session (R327, R395)? The SESSION kind of RAP does not (R392). -/
def needsAuth (s : State) (c k : Nat) (d : List Nat) : Bool :=
  if k = 1 then d.getD 1 0 % 16 != 3 else s.cfg.secpol.authCons.contains (c, k)

/-- The check of a message of a peer, where it needs a session (R393, R395): whether it holds. -/
def canAuth (c : Nat) (e : CanEnt) (tagF : Option Nat) (s : State) : Bool × State :=
  match (if e.ide then sessOn s c (saOf e) else none) with
  | some k =>
    if e.data.length < 5 then (false, unauthDrop c (saOf e) s)
    else
      let r := authCheck k (e.data.getD (e.data.length - 5) 0) tagF s
      if r.1 then r else (false, unauthDrop c (saOf e) r.2)
  | none => (false, s)

/-- The consumers of an entry: the program's, the ISO stack's (R318), and by the first byte of PGN EF00h (R327). -/
def consumersOf (s : State) (c : Nat) (e : CanEnt) (prog : List Nat) : List Nat × Bool :=
  let l := if isoAlways s c e ∧ prog.contains 0 = false then prog ++ [0] else prog
  if e.flags / 8 % 4 ≠ 0 ∨ bitOf e.flags 2 ∨ e.ide = false ∨ pgnOf e ≠ 0xEF00 ∨ daOf e ≠ rapAddr s c then (l, false)
  else match efConsumer e.data with
    | some k => (if l.contains k then l else l ++ [k], false)
    | none => (l, true)

/-- Deliver an entry to consumers, with the bits of DELIV. Log 46: DEDUCED. -/
def deliverAll (c rseq : Nat) (ks : List Nat) (s : State) : Nat × State :=
  ks.foldl (fun p k =>
    let r := deliver c k rseq p.2
    (p.1 ||| (if r.1 then 2 ^ (k % 6) else 128), r.2)) (0, s)

/-- CAN_QUEUE_DRAIN (R313 to R319, R327, R395): the entry is filtered, written to the ring, delivered and mapped. -/
def canDrain (c : Nat) (e : CanEnt) (tagF : Option Nat) (s : State) : State :=
  let rseq := (rget s (R.CAN_RSEQ c)).toNat
  let fl := filtFor s c e.stamp
  let lost := bitOf e.flags 4
  let r : FiltRes := match fl with
    | some f => if lost then ⟨0, [], []⟩ else runFilt f.prog e 257 0 0 ⟨0, [], []⟩
    | none => ⟨0, [], []⟩
  let ks := if lost then ([], false) else consumersOf s c e r.cons
  let ms := r.maps.filterMap (fun k => (fl.bind (fun f => f.maps[k]?)).map (fun m => (k, m)))
  let need := ks.1.any (fun k => needsAuth s c k e.data) || ms.any (fun m => s.cfg.secpol.authMap.contains (c, m.1))
  let a := if need then canAuth c e tagF s else (true, s)
  let s1 := a.2
  let cons := ks.1.filter (fun k => a.1 || !needsAuth s c k e.data)
  let maps := ms.filter (fun m => a.1 || !s.cfg.secpol.authMap.contains (c, m.1))
  let s2 := if ks.2 then fincSat s1 (R.CAN_ISO c) F.CAN_ISO_RAP_FOREIGN else s1
  let d := deliverAll c rseq cons s2
  let ent := { e with rseq := rseq, tag := r.tag, deliv := d.1 + (if maps = [] then 0 else 64) }
  let x := canOf d.2 c
  let s3 := rsetN (setCan c { x with ring := (ent :: x.ring).take 65536 } d.2) (R.CAN_RSEQ c) (rseq + 1)
  let s4 := if ks.1.contains 1 ∧ cons.contains 1 = false ∧ (sessOn s c (saOf e)).isNone then
      send s3 MsgKind.RAP_ANSWER (saOf e) [rapCode .noSession, c] else s3
  forEach maps (fun m s => mapAct c m.2 e.data s) s4

/-- See `canDrain`. Room in the queue lets a LOST entry in behind what waits (R313). -/
def execCanQueueDrain (ctrl : Fin 4) (tagF : Option Nat) (s : State) : Out :=
  .next (
    let c := ctrl.val
    let x := canOf s c
    match x.queue with
    | [] => s
    | e :: q =>
      if domOn s 7 = false ∨ domOn s 8 = false then s
      else
        let q1 := match x.lost with | some (t, n) => q ++ [lostEnt t n] | none => q
        canDrain c e tagF (setCan c { x with queue := q1, lost := none } s))

/-! ### Transmit slots -/

/-- STATE of a slot: 0 IDLE, 1 ARMED, 2 ACTIVE, 3 DONE, 4 FAILED. -/
def slotState (s : State) (c k : Nat) : Nat := fget s (R.CAN_SLOT_STAT c k) F.CAN_SLOT_STAT_STATE

/-- A field of a slot's status. -/
def slotSet (c k : Nat) (f : Fld) (v : Nat) (s : State) : State := fset s (R.CAN_SLOT_STAT c k) f v

/-- The active content of a slot. -/
def slotAct (s : State) (c k : Nat) : Option SlotAct := ((canOf s c).act.find? (fun x => x.1 == k)).map (·.2)

/-- The shadows of a slot (R320). -/
def slotShadow (s : State) (c k : Nat) : SlotAct :=
  let f (x : Fld) : Nat := fget s (R.CAN_SLOT_CTRL c k) x
  ⟨rget s (R.CAN_SLOT_ID c k), f F.CAN_SLOT_CTRL_DLC, f F.CAN_SLOT_CTRL_MODE != 0, f F.CAN_SLOT_CTRL_POLICY != 0, f F.CAN_SLOT_CTRL_PERIOD,
    rget64 s (R.CAN_SLOT_TB_LO c k) (R.CAN_SLOT_TB_HI c k), fget s (R.CAN_SLOT_LATE c k) F.CAN_SLOT_LATE_LATE_LIM,
    (List.range 16).map (fun w => rget s (R.CAN_SLOT_DATA c k w))⟩

/-- The late limit of a slot has passed at a tick (R321). -/
def slotLate (a : SlotAct) (t : Nat) : Bool := decide (0 < a.late) && decide (a.txTb + a.late * 200 < t)

/-- Results of a slot (R330). -/
def resCode : TxEnd → Nat
  | .ok => 1
  | .arb => 3
  | .err 4 => 4
  | .err 1 => 5
  | .err _ => 6

/-- A slot ends (R322): with a result, DONE on success; a periodic one advances by whole periods and re-arms, unless it ends for good. Log 47: DEDUCED. -/
def slotEnd (c k res : Nat) (forGood : Bool) (s : State) : State :=
  let s1 := slotSet c k F.CAN_SLOT_STAT_RESULT res (slotSet c k F.CAN_SLOT_STAT_STATE (if res = 1 then 3 else 4) s)
  match slotAct s c k with
  | some a =>
    if a.period = 0 ∨ forGood then s1
    else
      let p := msTicks a.period
      let t1 := a.txTb + p
      let lim := t1 + a.late * 200
      let skip := if a.late = 0 ∨ s.tb ≤ lim then 0 else (s.tb - lim + (p - 1)) / p
      let x := canOf s1 c
      let s2 := setCan c { x with act := smIns k { a with txTb := t1 + skip * p } x.act } s1
      let s3 := faddSat s2 (R.CAN_SLOT_STAT c k) F.CAN_SLOT_STAT_SKIPPED skip
      slotSet c k F.CAN_SLOT_STAT_ATTEMPTS 0 (slotSet c k F.CAN_SLOT_STAT_STATE 1 s3)
  | none => s1

/-- Arm a slot with content (R320): one with FDF set on a controller without FD_EN ends with OTHER_ERROR, and in SLEEP or OFF with SLEEP
(R305). Log 47: DEDUCED. -/
def slotArm (c k : Nat) (a : SlotAct) (s : State) : State :=
  let x := canOf s c
  let s1 := setCan c { x with act := smIns k a x.act } s
  let s2 := rset s1 (R.CAN_SLOT_STAT c k) (fsetW (fsetW 0 F.CAN_SLOT_STAT_STATE 1) F.CAN_SLOT_STAT_SKIPPED
    (fget s (R.CAN_SLOT_STAT c k) F.CAN_SLOT_STAT_SKIPPED))
  if fgetW a.idw F.CAN_SLOT_ID_FDF = 1 ∧ fbit s (R.CAN_CTRL c) F.CAN_CTRL_FD_EN = false then slotEnd c k 6 true s2
  else if 2 ≤ canMode s c then slotEnd c k 10 true s2
  else s2

/-- A write to a slot (R320): from the firmware, or from a session that R478 lets through and that owns the slot. -/
def slotWrite (who : Option (Fin 36)) (c k reg : Nat) (f : State → State) (s : State) : State :=
  let rapOwns := fbit s (R.CAN_SLOT_CTRL c k) F.CAN_SLOT_CTRL_OWNER
  match who with
  | none => if domOn s 7 = false ∨ domOn s 1 = false ∨ rapOwns then s else f s
  | some w =>
    if rapMay s w.val .can 7 = false then rapRefuse s w.val 7 reg .can
    else if rapOwns then rapAnswer (f s) w.val .ok []
    else rapAnswer s w.val .notOwner []

/-- SLOT_ARM (R320): during an attempt it is held. -/
def execSlotArm (who : Option (Fin 36)) (ctrl : Fin 4) (slot : Fin 128) (s : State) : Out :=
  .next (
    let c := ctrl.val
    let k := slot.val
    slotWrite who c k (R.CAN_SLOT_CMD c k) (fun s =>
      if slotState s c k = 2 then
        let x := canOf s c
        slotSet c k F.CAN_SLOT_STAT_ARM_PENDING 1 (setCan c { x with hold := smIns k (slotShadow s c k) x.hold } s)
      else slotArm c k (slotShadow s c k) s) s)

/-- SLOT_ABORT (R322): during an attempt the attempt finishes. -/
def execSlotAbort (who : Option (Fin 36)) (ctrl : Fin 4) (slot : Fin 128) (s : State) : Out :=
  .next (
    let c := ctrl.val
    let k := slot.val
    slotWrite who c k (R.CAN_SLOT_CMD c k) (fun s =>
      if slotState s c k = 2 then setCan c { canOf s c with aborting := true } s
      else if slotState s c k = 1 then slotEnd c k 9 true s
      else s) s)

/-- The arbitration field as a number: the lower wins (R321). -/
def arbKey (idw : Word) : Nat :=
  let id := fgetW idw F.CAN_SLOT_ID_ID
  if fgetW idw F.CAN_SLOT_ID_IDE = 1 then id / 262144 * 2 ^ 21 + 2 ^ 20 + 2 ^ 19 + id % 262144 * 2 else id % 2048 * 2 ^ 21

/-- The armed slots that are due, with their content. -/
def slotsDue (s : State) (c : Nat) : List (Nat × SlotAct) :=
  (canOf s c).act.filter (fun x => slotState s c x.1 == 1 && decide (x.2.txTb ≤ s.tb))

/-- The slot that would win arbitration; of equal fields the lowest (R321). -/
def slotWinner (l : List (Nat × SlotAct)) : Option (Nat × SlotAct) :=
  l.foldl (fun m x => match m with
    | some y => if arbKey x.2.idw < arbKey y.2.idw then some x else some y
    | none => some x) none

/-- A start that would lie a whole quantum or more after its opportunity (R306, R321). Log 47: DEDUCED. -/
def quantumPast (s : State) (c q : Nat) : Bool := decide (0 < q) && decide (5 * fget s (R.CAN_NBT c) F.CAN_NBT_BRP ≤ 2 * q)

/-- START_OPPORTUNITY (R321): expired slots end LATE, and the winner of the others starts at the quantum boundary. -/
def execStartOpportunity (ctrl : Fin 4) (q : Nat) (s : State) : Out :=
  .next (
    let c := ctrl.val
    if domOn s 7 = false ∨ canMode s c ≠ 0 ∨ 2 ≤ canState s c ∨ (canOf s c).cur.isSome ∨ quantumPast s c q then s
    else
      let late := (slotsDue s c).filter (fun x => slotLate x.2 s.tb)
      let s1 := forEach late (fun x s => slotEnd c x.1 2 false s) s
      match slotWinner ((slotsDue s1 c).filter (fun x => !slotLate x.2 s.tb)) with
      | none => s1
      | some (k, _) =>
        let s2 := setCan c { canOf s1 c with cur := some (k, s.tb + q), aborting := false } s1
        slotSet c k F.CAN_SLOT_STAT_STATE 2 (fincSat s2 (R.CAN_SLOT_STAT c k) F.CAN_SLOT_STAT_ATTEMPTS))

/-- The frame a slot sends. -/
def slotFrame (a : SlotAct) : CanFr :=
  let len := [0, 1, 2, 3, 4, 5, 6, 7, 8, 12, 16, 20, 24, 32, 48, 64].getD a.dlc 0
  let fdf := fgetW a.idw F.CAN_SLOT_ID_FDF == 1
  let n := if fdf then len else min len 8
  ⟨fgetW a.idw F.CAN_SLOT_ID_ID, fgetW a.idw F.CAN_SLOT_ID_IDE == 1, false, fdf, fdf && fgetW a.idw F.CAN_SLOT_ID_BRS == 1, false, a.dlc,
    (List.range n).map (fun i => (a.data.getD (i / 4) 0).toNat / 256 ^ (i % 4) % 256)⟩

/-- TDCV and TDC_SAT (R309): measured in an FD frame with BRS set. -/
def tdcShow (c : Nat) (brs : Bool) (tdcv : Option Nat) (s : State) : State :=
  match tdcv with
  | some v =>
    if brs = false ∨ fbit s (R.CAN_TDC c) F.CAN_TDC_TDC_EN = false then s
    else
      let s1 := fset s (R.CAN_TDC c) F.CAN_TDC_TDCV (min v 127)
      if 127 < v then fsetb s1 (R.CAN_TDC c) F.CAN_TDC_TDC_SAT true else s1
  | none => s

/-- What an attempt that has not succeeded leaves of its slot (R311, R322): the slot ends, or returns to the selection. Log 47: DEDUCED. -/
def slotFail (c k : Nat) (a : SlotAct) (res : TxEnd) (aborting : Bool) (s : State) : State :=
  let noPeer := fbit s (R.CAN_STATUS c) F.CAN_STATUS_NO_PEER
  if aborting then slotEnd c k 9 true s
  else if res = .err 4 ∧ a.abortP ∧ noPeer then slotEnd c k 7 false s
  else if a.single then slotEnd c k (resCode res) false s
  else slotSet c k F.CAN_SLOT_STAT_STATE 1 s

/-- A held ARM is applied when the attempt ends (R320): its content replaces the slot's, unless the slot has ended by ABORT. -/
def slotHeld (c k : Nat) (aborted : Bool) (s : State) : State :=
  let x := canOf s c
  match x.hold.find? (fun h => h.1 == k) with
  | none => s
  | some (_, a) =>
    let s1 := setCan c { x with hold := smDel k x.hold } s
    if aborted then slotSet c k F.CAN_SLOT_STAT_ARM_PENDING 0 s1 else slotArm c k a s1

/-- CAN_TX_END (R309, R311, R312, R322): an attempt ends. -/
def execCanTxEnd (ctrl : Fin 4) (res : TxEnd) (tdcv : Option Nat) (s : State) : Out :=
  .next (
    let c := ctrl.val
    let x := canOf s c
    match x.cur with
    | none => s
    | some (k, sof) =>
      let brs := match slotAct s c k with | some a => (slotFrame a).brs | none => false
      let s1 := tdcShow c brs tdcv (setCan c { x with cur := none, aborting := false } s)
      match slotAct s c k with
      | none => s1
      | some a =>
        let s2 := match res with
          | .ok =>
            let t := fget s (R.CAN_STATUS c) F.CAN_STATUS_TEC
            let s2 := peerSeen c (canStateSync c (fset s1 (R.CAN_STATUS c) F.CAN_STATUS_TEC (t - 1)))
            let s3 := canPut c (entOf (slotFrame a) sof 4 k) (rsetN s2 (R.CAN_SLOT_STAMP c k) sof)
            slotEnd c k 1 x.aborting s3
          | r => slotFail c k a r x.aborting s1
        slotHeld c k (x.aborting && res != .ok) s2)

/-- LATE_LIM_EXPIRY (R305, R310, R321): the limit of an armed slot passes with no start opportunity. -/
def execLateLimExpiry (ctrl : Fin 4) (slot : Fin 128) (s : State) : Out :=
  .next (match slotAct s ctrl.val slot.val with
    | some a =>
      if domOn s 7 ∧ slotState s ctrl.val slot.val = 1 ∧ slotLate a s.tb then slotEnd ctrl.val slot.val 2 false s else s
    | none => s)

/-- TX_TB_REACHED (R310): a ONE_SHOT slot falls due in bus-off. -/
def execTxTbReached (ctrl : Fin 4) (slot : Fin 128) (s : State) : Out :=
  .next (match slotAct s ctrl.val slot.val with
    | some a =>
      if domOn s 7 ∧ canState s ctrl.val = 2 ∧ slotState s ctrl.val slot.val = 1 ∧ a.single ∧ a.txTb ≤ s.tb then
        slotEnd ctrl.val slot.val 8 false s
      else s
    | none => s)

/-! ### Modes -/

/-- CAN_MODE_WRITE (R305). -/
def execCanModeWrite (who : Fin 36) (ctrl : Fin 4) (mode : Fin 4) (s : State) : Out :=
  .next (rapDo s who.val .can 7 (R.CAN_CTRL ctrl.val) (fun s => fset s (R.CAN_CTRL ctrl.val) F.CAN_CTRL_MODE mode.val))

/-- A mode takes effect (R305): SLEEP and OFF leave the bus, and armed slots end with SLEEP. A controller whose bus sequencer is isolated is
OFF (R456). Log 47: DEDUCED. -/
def canModeSet (c m0 : Nat) (s : State) : State :=
  let m := if s.far.seqOff.contains c then 3 else m0
  let s1 := fset s (R.CAN_STATUS c) F.CAN_STATUS_MODE_ACT m
  if 2 ≤ m then
    forEach ((canOf s c).act.filter (fun x => slotState s c x.1 == 1)) (fun x s => slotEnd c x.1 10 true s)
      (fset s1 (R.CAN_STATUS c) F.CAN_STATUS_STATE 3)
  else if canState s c = 3 then
    canStateSync c (fset s1 (R.CAN_STATUS c) F.CAN_STATUS_STATE 0)
  else s1

/-- CAN_MODE_APPLY (R305): at the next bus idle. -/
def execCanModeApply (ctrl : Fin 4) (s : State) : Out :=
  .next (
    let c := ctrl.val
    let m := fget s (R.CAN_CTRL c) F.CAN_CTRL_MODE
    if domOn s 7 = false ∨ (canOf s c).cur.isSome ∨ (canMode s c = m ∧ (canState s c = 3) = (2 ≤ m)) then s else canModeSet c m s)

/-! ### ISO 11783 -/

/-- The NAME the image gives this position (R326), its identity number yet to be put in. Log 48: PRESUMED. -/
def isoGiven (s : State) : Nat := ((s.cfg.iso.find? (fun x => x.1 == midOf s / 2)).map (·.2.name)).getD 0

/-- The NAME of this module's presence (R326): of the position, with the low 21 bits of the device serial. Log 48: PRESUMED. -/
def isoName (s : State) : Nat := isoGiven s / 2 ^ 21 * 2 ^ 21 + s.pwr.serial % 2 ^ 21

/-- The NAME presented on a controller (R324, R326): that of the claim, which a survivor goes on with, or this module's own. -/
def isoShown (s : State) (c : Nat) : Nat := if (canOf s c).claim = 0 then isoName s else (canOf s c).name

/-- The preferred address (R326). -/
def isoPref (s : State) : Nat := ((s.cfg.iso.find? (fun x => x.1 == midOf s / 2)).map (·.2.pref)).getD 254

/-- Claim an address (R326): the claim leaves, and 250 ms of silence begin. -/
def isoClaim (c addr : Nat) (s : State) : State :=
  let x := canOf s c
  let s1 := setCan c { x with claim := 1, claimAt := s.tb, name := isoShown s c } s
  send (fset s1 (R.CAN_ISO c) F.CAN_ISO_ADDR addr) MsgKind.ADDRESS_CLAIMED c [addr, isoShown s c]

/-- The ISOBUS functions of a controller run: it holds the role, is in NORMAL, and PD7 is on. -/
def isoOn (s : State) (c : Nat) : Bool := domOn s 7 && domOn s 1 && canMode s c == 0 && fbit s (R.CAN_ISO c) F.CAN_ISO_ROLE

/-- ADDRESS_CLAIM (R326). -/
def execAddressClaim (ctrl : Fin 4) (s : State) : Out :=
  .next (if isoOn s ctrl.val ∧ (canOf s ctrl.val).claim = 0 then isoClaim ctrl.val (isoPref s) s else s)

/-- CLAIM_QUIET_END (R326). -/
def execClaimQuietEnd (ctrl : Fin 4) (s : State) : Out :=
  .next (
    let x := canOf s ctrl.val
    if x.claim = 1 ∧ x.claimAt + msTicks 250 ≤ s.tb then setCan ctrl.val { x with claim := 2 } s else s)

/-- The next free address (R326). Log 48: PRESUMED. -/
def isoNext (s : State) (c : Nat) : Option Nat :=
  let p := isoPref s
  let l := if 128 ≤ p ∧ p ≤ 247 then (List.range 120).map (fun d => 128 + (p - 128 + d) % 120) else (List.range 120).map (· + 128)
  l.find? (fun a => !(canOf s c).used.any (fun u => u.1 == a))

/-- The address is lost (R326): the next free one is claimed by a self-configurable NAME, or the functions stop until power-up. Log 48: PRESUMED. -/
def isoLose (c : Nat) (s : State) : State :=
  match (if 2 ^ 63 ≤ isoShown s c then isoNext s c else none) with
  | some a => isoClaim c a s
  | none =>
    let s1 := setCan c { canOf s c with claim := 3, tp := [] } s
    let s2 := fsetb (fset s1 (R.CAN_ISO c) F.CAN_ISO_ADDR 254) (R.CAN_ISO c) F.CAN_ISO_ADDR_LOST true
    fault (send s2 MsgKind.CANNOT_CLAIM c [isoShown s c]) Ev.ADDR_LOST [c]

/-- ADDRESS_CLAIMED_RECEIVED (R326, R394): of two NAMEs the lower has priority. A peer that loses its address loses its session. -/
def execAddressClaimedReceived (ctrl : Fin 4) (addr : Fin 256) (name : Nat) (s0 : State) : Out :=
  .next (
    let c := ctrl.val
    let a := addr.val
    let s := canTake c 0 s0
    let x := canOf s c
    if canOn s c = false then s
    else
      let held := x.used.find? (fun u => u.1 == a)
      let moved := (x.used.filter (fun u => u.2 == name && u.1 != a)).map (·.1)
      let wins : Bool := match held with | some h => decide (name ≤ h.2) | none => true
      let gone := moved ++ (if (match held with | some h => h.2 != name && wins | none => false) then [a] else [])
      let used1 := x.used.filter (fun u => u.2 != name)
      let used2 := if a ≤ 253 ∧ wins = true then smIns a name used1 else used1
      let s1 := setCan c { x with used := used2 } s
      let s2 := forEach gone (fun g s => sessCloseAll (fun k => decide (4 ≤ k) && sessPeer s k == (c, g)) 4 s) s1
      if isoOn s c = false ∨ (x.claim ≠ 1 ∧ x.claim ≠ 2) ∨ a ≠ fget s (R.CAN_ISO c) F.CAN_ISO_ADDR then s2
      else if isoShown s c < name then send s2 MsgKind.ADDRESS_CLAIMED c [a, isoShown s c]
      else isoLose c s2)

/-- REQUEST_ADDRESS_CLAIMED (R325). -/
def execRequestAddressClaimed (ctrl : Fin 4) (s0 : State) : Out :=
  .next (
    let c := ctrl.val
    let s := canTake c 0 s0
    if isoOn s c = false then s
    else match (canOf s c).claim with
      | 0 => s
      | 3 => send s MsgKind.CANNOT_CLAIM c [isoShown s c]
      | _ => send s MsgKind.ADDRESS_CLAIMED c [fget s (R.CAN_ISO c) F.CAN_ISO_ADDR, isoShown s c])

/-- COMMANDED_ADDRESS (R325): a message that names this NAME makes it claim the address. -/
def execCommandedAddress (ctrl : Fin 4) (name : Nat) (addr : Fin 254) (s0 : State) : Out :=
  .next (
    let c := ctrl.val
    let s := canTake c 0 s0
    if isoOn s c = true ∧ name = isoShown s c ∧ ((canOf s c).claim = 1 ∨ (canOf s c).claim = 2) then isoClaim c addr.val s else s)

/-- Previously active codes are cleared; the stud book is not (R325, R450). -/
def dmClear (c : Nat) (s : State) : State :=
  if isoOn s c ∧ (canOf s c).claim = 2 then send { s with flt := { s.flt with prev := [] } } MsgKind.DM_ACK c [] else s

/-- DM3_CLEAR (R325). -/
def execDm3Clear (ctrl : Fin 4) (s : State) : Out := .next (dmClear ctrl.val (canTake ctrl.val 0 s))

/-- DM11_CLEAR (R325). -/
def execDm11Clear (ctrl : Fin 4) (s : State) : Out := .next (dmClear ctrl.val (canTake ctrl.val 0 s))

/-- A message of PGN EF00h is complete (R327, R395): passed on by its first byte, or counted; one that needs a session is checked as a
frame is. Log 46: DEDUCED. -/
def tpPass (c peer : Nat) (d : List Nat) (tagF : Option Nat) (s : State) : State :=
  match efConsumer d with
  | some k =>
    let e : CanEnt := ⟨s.tb, 0, 0xEF0000 + peer, true, false, false, 8, 0, 0, 255, 0, d⟩
    let a := if needsAuth s c k d then canAuth c e tagF s else (true, s)
    if a.1 then (deliver c k (((rget s (R.CAN_RSEQ c)).toNat + 2 ^ 32 - 1) % 2 ^ 32) a.2).2
    else if k = 1 ∧ (sessOn s c peer).isNone then send a.2 MsgKind.RAP_ANSWER peer [rapCode .noSession, c]
    else a.2
  | none => fincSat s (R.CAN_ISO c) F.CAN_ISO_RAP_FOREIGN

/-- Is a transport session this one's? -/
def tpIs (peer : Nat) (out bam : Bool) (x : TpSess) : Bool := x.peer == peer && x.out == out && x.bam == bam

/-- ISO_TRANSPORT (R325, R327): at most 16 sessions, at most one outgoing BAM; TP to 1,785 bytes, BAM only by TP, ETP to 117,440,505. -/
def execIsoTransport (ctrl : Fin 4) (peer : Fin 256) (out bam : Bool) (pgn : Nat) (part : TpPart) (tagF : Option Nat) (s0 : State) : Out :=
  .next (
    let c := ctrl.val
    let p := peer.val
    let s := if out then s0 else canTake c 0 s0
    let x := canOf s c
    if canOn s c = false then s
    else match part with
      | .start len =>
        let rest := x.tp.filter (fun t => !tpIs p out bam t)
        if 16 ≤ rest.length ∨ (out = true ∧ bam = true ∧ rest.any (fun t => t.out && t.bam) = true) ∨ 117440505 < len ∨ (bam = true ∧ 1785 < len) then
          send s MsgKind.TP_ABORT p [c]
        else setCan c { x with tp := rest ++ [⟨p, out, bam, len, []⟩] } s
      | .data bytes =>
        match x.tp.find? (tpIs p out bam) with
        | none => s
        | some t =>
          let d := (t.data ++ bytes).take t.len
          let rest := x.tp.filter (fun t => !tpIs p out bam t)
          if d.length < t.len then setCan c { x with tp := rest ++ [{ t with data := d }] } s
          else
            let s1 := setCan c { x with tp := rest } s
            if out ∨ bam ∨ pgn ≠ 0xEF00 then s1 else tpPass c p d tagF s1
      | .abort => setCan c { x with tp := x.tp.filter (fun t => !tpIs p out bam t) } s)

end Sys2Proof.Machine
end

