-- ==== Sys2Proof/Machine/Cells.lean ====
section
/-!
DEFINITION. Machine/Cells.lean: cells, tiles and what lies in them (R183 to R195): which cells a footprint and its sweep touch, which
cells the job's polygons exclude, the prescribed rate at a point, the recent plane and the counted cells of R156.
-/

namespace Sys2Proof.Machine

/-! ### Plane geometry -/

/-- A point of the field in fine units. -/
abbrev FPt : Type := Int × Int

/-- Twice the signed area of the triangle o, a, b. -/
def cross (o a b : FPt) : Int := (a.1 - o.1) * (b.2 - o.2) - (a.2 - o.2) * (b.1 - o.1)

/-- Put a point at its place in rising order, once. -/
def ptIns (p : FPt) : List FPt → List FPt
  | [] => [p]
  | q :: l => if p = q then q :: l else if p.1 < q.1 ∨ (p.1 = q.1 ∧ p.2 < q.2) then p :: q :: l else q :: ptIns p l

/-- Extend one side of a hull, newest point first. -/
def hullStep : List FPt → FPt → List FPt
  | b :: a :: rest, p => if cross a b p ≤ 0 then hullStep (a :: rest) p else p :: b :: a :: rest
  | st, p => p :: st

/-- The convex hull of points, counter-clockwise; two points or one where they are no area. -/
def hull (pts : List FPt) : List FPt :=
  let l := pts.foldl (fun l p => ptIns p l) []
  if l.length ≤ 2 then l
  else
    ((l.foldl hullStep []).drop 1).reverse ++ ((l.reverse.foldl hullStep []).drop 1).reverse

/-- The edges of a ring. -/
def ringEdges {α : Type} (r : List α) : List (α × α) := r.zip (r.drop 1 ++ r.take 1)

/-- Is there a t with a + b t ≥ 0, or above 0 where the mark is set, for every (a, b, mark)? -/
def feasible (cs : List (Int × Int × Bool)) : Bool :=
  let ok (strict : Bool) (x y : Int) : Bool := if strict then decide (x < y) else decide (x ≤ y)
  (cs.filter (fun c => decide (c.2.1 = 0))).all (fun c => ok c.2.2 0 c.1) &&
    (cs.filter (fun c => decide (0 < c.2.1))).all (fun l => (cs.filter (fun c => decide (c.2.1 < 0))).all (fun u =>
      ok (l.2.2 || u.2.2) (l.1 * u.2.1) (u.1 * l.2.1)))

/-- Does a segment meet a square with corner (x, y) and side c, its north and east edges left out where `half` is set? -/
def segBox (half : Bool) (a b : FPt) (x y c : Int) : Bool :=
  let dx := b.1 - a.1
  let dy := b.2 - a.2
  feasible [(0, 1, false), (1, -1, false), (a.1 - x, dx, false), (x + c - a.1, -dx, half), (a.2 - y, dy, false), (y + c - a.2, -dy, half)]

/-- Do a convex polygon and a square overlap in a non-zero area (R194)? -/
def areaBox (h : List FPt) (x y c : Int) : Bool :=
  decide (3 ≤ h.length) && h.any (fun p => decide (x < p.1)) && h.any (fun p => decide (p.1 < x + c)) && h.any (fun p => decide (y < p.2))
    && h.any (fun p => decide (p.2 < y + c))
    && (ringEdges h).all (fun e => [(x, y), (x + c, y), (x + c, y + c), (x, y + c)].any (fun q => decide (0 < cross e.1 e.2 q)))

/-- Least and greatest of a list of numbers. -/
def bounds : List Int → Int × Int
  | [] => (0, 0)
  | x :: l => l.foldl (fun m y => (min m.1 y, max m.2 y)) (x, x)

/-- The whole numbers from `a` to `b`. -/
def intRange (a b : Int) : List Int := (List.range (b + 1 - a).toNat).map (fun (k : Nat) => a + (k : Int))

/-! ### Cells and tiles -/

/-- Cell size C in mm of the loaded job. -/
def cellMm (s : State) : Nat := (s.cov.job.map (·.cell)).getD 50

/-- A cell by its column and row (R184). -/
abbrev Cell2 : Type := Int × Int

/-- Key of a cell of the extent. -/
def cellKey (c : Cell2) : Nat := c.1.toNat + c.2.toNat * 262144

/-- The cell of a key. -/
def keyCell (k : Nat) : Cell2 := ((k % 262144 : Nat), (k / 262144 : Nat))

/-- Key of the tile of a cell. -/
def tileOf (c : Cell2) : Nat := c.1.toNat / 256 + c.2.toNat / 256 * 1024

/-- A cell lies within the map extent (R185). -/
def inExtent (s : State) (c : Cell2) : Bool :=
  decide (0 ≤ c.1) && decide (0 ≤ c.2) && decide (c.1 < s.cov.tx * 256) && decide (c.2 < s.cov.ty * 256)

/-- South-west corner of a cell in mm. -/
def cellCorner (s : State) (c : Cell2) : Pt := (s.cov.x0 + c.1 * cellMm s, s.cov.y0 + c.2 * cellMm s)

/-- The cells that a hull touches (R194): an overlap of non-zero area, or, for a line or a point, the cells that hold one of its points. -/
def touched (s : State) (closed : Bool) (h : List FPt) : List Cell2 :=
  let c : Int := cellMm s * fu
  let ox := s.cov.x0 * fu
  let oy := s.cov.y0 * fu
  let bx := bounds (h.map (·.1))
  let byy := bounds (h.map (·.2))
  if h = [] then []
  else
    (intRange ((byy.1 - oy) / c) ((byy.2 - oy) / c)).flatMap fun j =>
      ((intRange ((bx.1 - ox) / c) ((bx.2 - ox) / c)).map (fun i => (i, j))).filter fun q =>
        let x := ox + q.1 * c
        let y := oy + q.2 * c
        areaBox h x y c || (closed && (ringEdges h).any (fun e => segBox true e.1 e.2 x y c))

/-! ### Footprints -/

/-- The footprint of an output in the cycle of a joint snapshot (R62, R66, R67). -/
def footOf (s : State) (o : OutEnt) : FootP :=
  let p := outPoint s o
  let w := fanWidth o (outHeight s o)
  { shape := o.shape, x := p.1 + o.fpDx, y := p.2.1, z := p.2.2, hd := o.d * 500
    hw := if o.shape = .fan then divOpen (w.1 * 500) w.2 else o.w * 500
    ok := o.chain = 0 || !chainInvalid s o.chain }

/-- The smallest rectangle in the machine frame that holds footprints (R225), at ground level. -/
def footBox (s : State) (l : List FootP) : FootP :=
  let bx := bounds (l.flatMap (fun f => [f.x * 1000 - f.hd, f.x * 1000 + f.hd]))
  let byy := bounds (l.flatMap (fun f => [f.y * 1000 - f.hw, f.y * 1000 + f.hw]))
  { shape := .rect, x := divOpen (bx.1 + bx.2) 2000, y := divOpen (byy.1 + byy.2) 2000, z := s.cfg.geom0.groundZ
    hd := (bx.2 - bx.1) / 2, hw := (byy.2 - byy.1) / 2, ok := l.all (·.ok) }

/-- A placement of the machine: MRP in fine units, heading in 2^−24 turn, pitch and roll. -/
structure Placing where
  mrp   : FPt
  psi   : Int
  pitch : Int
  roll  : Int
deriving DecidableEq, Repr, Inhabited

/-- The centre of a footprint in the field, `ahead` mm forward along travel (R61, R62, R225). -/
def footCentre (p : Placing) (ahead : Int) (f : FootP) : FPt :=
  let q := rotY p.pitch (rotX p.roll ((f.x + ahead) * fu, f.y * fu, f.z * fu))
  let r := rot24 p.psi q.1 q.2.1
  (p.mrp.1 + r.1, p.mrp.2 + r.2)

/-- The corners of a footprint in the field (R62, R67). An ARC touches no field cell (R194). -/
def footCorners (p : Placing) (ahead : Int) (f : FootP) : List FPt :=
  let c := footCentre p ahead f
  let at_ (dx dy : Int) : FPt := let r := rot24 p.psi (dx * (fu / 1000)) (dy * (fu / 1000)); (c.1 + r.1, c.2 + r.2)
  match f.shape with
  | .arc => []
  | .point => [c]
  | _ => [at_ f.hd f.hw, at_ (-f.hd) f.hw, at_ (-f.hd) (-f.hw), at_ f.hd (-f.hw)]

/-- A footprint without area: a line or a point (R194). -/
def footClosed (f : FootP) : Bool := f.shape == .point || f.hd == 0

/-- The cells a footprint touches at a placement (R194). -/
def footCells (s : State) (p : Placing) (ahead : Int) (f : FootP) : List Cell2 := touched s (footClosed f) (hull (footCorners p ahead f))

/-- The cells a footprint touches on its way from one placement to the next, taken as the hull of the two (R195). -/
def sweepCells (s : State) (p q : Placing) (ahead : Int) (f : FootP) : List Cell2 :=
  touched s (footClosed f) (hull (footCorners p ahead f ++ footCorners q ahead f))

/-! ### Exclusions -/

/-- Is a point inside a ring, by the parity of the edges it crosses? -/
def inRing (r : List Pt) (p : Pt) : Bool :=
  (ringEdges r).foldl (fun b e =>
    if decide (p.2 < e.1.2) = decide (p.2 < e.2.2) then b
    else
      let dy := e.2.2 - e.1.2
      let l := (p.1 - e.1.1) * dy
      let m := (p.2 - e.1.2) * (e.2.1 - e.1.1)
      if (if 0 < dy then decide (l < m) else decide (m < l)) then !b else b) false

/-- Inside a polygon: in its outer ring and in no inner ring. -/
def inPoly (p : Poly) (q : Pt) : Bool := inRing p.outer q && !p.inner.any (fun r => inRing r q)

/-- Distance beyond an interval. -/
def beyond (a b v : Int) : Int := if v < a then a - v else if b < v then v - b else 0

/-- Does a closed square lie within a distance of a segment (R189)? -/
def segNear (a b : Pt) (x y c : Int) (buf : Nat) : Bool :=
  let b2 : Int := buf * buf
  let ptBox (p : Pt) : Bool := let dx := beyond x (x + c) p.1; let dy := beyond y (y + c) p.2; decide (dx * dx + dy * dy ≤ b2)
  let dx := b.1 - a.1
  let dy := b.2 - a.2
  let len := dx * dx + dy * dy
  let ptSeg (p : Pt) : Bool :=
    let t := (p.1 - a.1) * dx + (p.2 - a.2) * dy
    let k := cross a b p
    decide (0 ≤ t) && decide (t ≤ len) && decide (0 < len) && decide (k * k ≤ b2 * len)
  segBox false a b x y c || ptBox a || ptBox b || [(x, y), (x + c, y), (x + c, y + c), (x, y + c)].any ptSeg

/-- Does a closed square meet ground within BUF of a ring of a polygon (R189)? -/
def nearRings (p : Poly) (x y c : Int) : Bool :=
  (p.outer :: p.inner).any (fun r => (ringEdges r).any (fun e => segNear e.1 e.2 x y c p.buf))

/-- Does an exclusion polygon set a cell with its corner at (x, y) to 11b (R189)? -/
def exclBy (x y c : Int) (p : Poly) : Bool := nearRings p x y c || inPoly p (x, y)

/-- Do the field boundary and the exclusions of a job set a cell to 11b (R189)? -/
def exclJob (j : JobDef) (x y : Int) : Bool :=
  nearRings j.boundary x y j.cell || !inPoly j.boundary (x, y) || j.excl.any (exclBy x y j.cell)

/-- A cell of the extent is excluded: by the job, by an exclusion added since, or by the leader's copy of it (R189, R190, R200). -/
def excluded (s : State) (c : Cell2) : Bool :=
  match s.cov.job with
  | none => true
  | some j =>
    let p := cellCorner s c
    exclJob j p.1 p.2 || s.cov.added.any (exclBy p.1 p.2 j.cell) || smGet zero s.cov.code (cellKey c) == 3

/-- The code of a cell (R183, R185): a cell outside the extent counts as excluded. -/
def codeAt (s : State) (c : Cell2) : Nat :=
  if inExtent s c = false ∨ excluded s c then 3 else smGet zero s.cov.code (cellKey c)

/-- The cells of a tile. -/
def tileCells (t : Nat) : List Cell2 :=
  (List.range 65536).map (fun k => (((t % 1024 * 256 + k % 256 : Nat) : Int), ((t / 1024 * 256 + k / 256 : Nat) : Int)))

/-- A tile is allocated when at least one of its cells is not 11b after rasterisation at load (R185). -/
def tileAlloc (s : State) (t : Nat) : Bool :=
  match s.cov.job with
  | none => false
  | some j => decide (t % 1024 < s.cov.tx) && decide (t / 1024 < s.cov.ty)
      && (tileCells t).any (fun c => let p := cellCorner s c; !exclJob j p.1 p.2)

/-- The tiles of the extent, in tile index order. -/
def extentTiles (s : State) : List Nat := (List.range s.cov.ty).flatMap (fun y => (List.range s.cov.tx).map (fun x => x + y * 1024))

/-! ### Prescriptions -/

/-- The grid of a layer (R191, R192): origin, columns and rows; treatment zones lie in a grid over their bounding box. -/
def layerGrid (l : Layer) : Int × Int × Nat × Nat :=
  if l.zones = [] then (l.ox, l.oy, l.nx, l.ny)
  else
    let ps := l.zones.flatMap (fun z => z.1.outer)
    let bx := bounds (ps.map (·.1))
    let byy := bounds (ps.map (·.2))
    (bx.1, byy.1, ((bx.2 - bx.1 + l.g - 1) / l.g).toNat, ((byy.2 - byy.1 + l.g - 1) / l.g).toNat)

/-- A ring at twice its size, in which cell centres are whole. -/
def doubled (p : Poly) : Poly := ⟨p.outer.map (fun q => (2 * q.1, 2 * q.2)), p.inner.map (·.map (fun q => (2 * q.1, 2 * q.2))), p.buf⟩

/-- The code a layer's grid holds in a cell (R191, R192); FFFFh: none. -/
def layerCell (l : Layer) (ix iy : Nat) : Nat :=
  let g := layerGrid l
  if l.zones = [] then smGet (fun _ => 65535) l.codes (iy * g.2.2.1 + ix)
  else
    let c : Pt := (2 * (g.1 + ix * l.g) + l.g, 2 * (g.2.1 + iy * l.g) + l.g)
    ((l.zones.reverse.find? (fun z => inPoly (doubled z.1) c)).map (·.2)).getD 65535

/-- The rate code at a point in fine units for a module section, and whether it is a default code (R193). -/
def rateAt (s : State) (sect : Nat) (p : FPt) : Nat × Bool :=
  match s.cov.job, s.cfg.secs.find? (fun x => x.sect == sect) with
  | some j, some x =>
    match j.secRx.find? (fun r => r.1 == x.team) with
    | none => (0, true)
    | some (_, none, d) => (d, true)
    | some (_, some k, d) =>
      match j.layers[k]? with
      | none => (d, true)
      | some l =>
        let g := layerGrid l
        let ix := (p.1 - g.1 * fu) / (l.g * fu)
        let iy := (p.2 - g.2.1 * fu) / (l.g * fu)
        if ix < 0 ∨ iy < 0 ∨ (g.2.2.1 : Int) ≤ ix ∨ (g.2.2.2 : Int) ≤ iy then (l.dflt, true)
        else
          let c := layerCell l ix.toNat iy.toNat
          if c = 65535 then (l.dflt, true) else (c, false)
  | _, _ => (0, true)

/-! ### The recent plane and counted cells -/

/-- Key of the 2 × 2 block of a cell (R167). -/
def blockOf (c : Cell2) : Nat := c.1.toNat / 2 + c.2.toNat / 2 * 262144

/-- Tile of a block. -/
def blockTile (b : Nat) : Nat := b % 262144 / 128 + b / 262144 / 128 * 1024

/-- Ground time in units of 50 ms. -/
def units50 (t : Nat) : Nat := t / 10000000

/-- The default of a map of flags. -/
def unset : Nat → Bool := fun _ => false

/-- A block is OLD: marked so, or in a tile without recent data (R167). Log 42: DEDUCED. -/
def blockOld (s : State) (b : Nat) : Bool := !s.str.recTiles.contains (blockTile b) || smGet unset s.str.old b

/-- The youngest stamp of a tile. -/
def youngest (s : State) (t : Nat) : Nat := (s.str.stamp.filter (fun x => blockTile x.1 == t)).foldl (fun m x => max m x.2) 0

/-- Bring a tile into the recent plane (R167): its covered cells are OLD; where a 65th is needed, the tile whose youngest stamp is oldest
is evicted. -/
def recEnter (t : Nat) (s : State) : State :=
  if s.str.recTiles.contains t then s
  else
    let s1 := if s.str.recTiles.length < 64 then s
      else
        let out := s.str.recTiles.foldl (fun (m : Option (Nat × Nat)) x =>
          let y := youngest s x
          match m with
          | some (a, b) => if y < b then some (x, y) else some (a, b)
          | none => some (x, y)) none
        match out with
        | some (e, _) =>
          let str1 := { s.str with
            recTiles := s.str.recTiles.filter (· != e)
            stamp := s.str.stamp.filter (fun x => blockTile x.1 != e)
            old := s.str.old.filter (fun x => blockTile x.1 != e) }
          fincWrap { s with str := str1 } R.STR_EVICT_CNT F.STR_EVICT_CNT_COUNT
        | none => s
    let covered := (s1.cov.code.filter (fun x => tileOf (keyCell x.1) == t)).map (fun x => blockOf (keyCell x.1))
    { s1 with str := { s1.str with
        recTiles := s1.str.recTiles ++ [t]
        old := covered.foldl (fun m b => smSet unset b true m) s1.str.old } }

/-- A mark of a ground time stamps a block that has no stamp (R167). Log 42: DEDUCED. -/
def stampCell (c : Cell2) (t : Nat) (s : State) : State :=
  let s1 := recEnter (tileOf c) s
  let b := blockOf c
  if smGet unset s1.str.old b ∨ s1.str.stamp.any (fun x => x.1 == b) then s1
  else { s1 with str := { s1.str with stamp := smIns b (units50 t) s1.str.stamp } }

/-- MARK_AGE in units of 50 ms (R151). -/
def markAge (s : State) : Nat := fget s R.STR_CFG F.STR_CFG_MARK_AGE

/-- Does a cell count as covered at a ground tick (R156)? -/
def counted (s : State) (c : Cell2) (g : Nat) : Bool :=
  let code := smGet zero s.cov.code (cellKey c)
  let b := blockOf c
  (code == 1 || code == 2 || smGet zero s.str.prov (cellKey c) != 0) &&
    (blockOld s b || s.str.stamp.any (fun x => x.1 == b && decide (x.2 * 10000000 + markAge s * 10000000 ≤ g)))

/-- RECENT_PLANE_SWEEP (R167): every 500 ms blocks with a stamp at least 4.0 s old become OLD, and the stamps of blocks with no covered
cell and no provisional count are cleared. -/
def execRecentPlaneSweep (s : State) : Out :=
  .next (
    let marked (b : Nat) : Bool := s.cov.code.any (fun x => blockOf (keyCell x.1) == b) || s.str.prov.any (fun x => blockOf (keyCell x.1) == b)
    let aged := s.str.stamp.filter (fun x => decide ((x.2 + 80) * 10000000 ≤ s.tb))
    let str1 := { s.str with
      old := aged.foldl (fun m x => smSet unset x.1 true m) s.str.old
      stamp := s.str.stamp.filter (fun x => marked x.1) }
    { s with str := str1 })

end Sys2Proof.Machine
end

