-- ==== Sys2Proof/Machine/Evidence.lean ====
section
/-!
DEFINITION. Machine/Evidence.lean: from the actual state of an output to product on the ground (R170, R171), and the windows of a rotary
platform, whose dispensing is recorded from it (R219 to R221).
-/

namespace Sys2Proof.Machine

/-! ### Intervals -/

/-- A half-open interval of ticks. -/
abbrev Iv : Type := Nat × Nat

/-- Put an interval at its place by its start. -/
def ivIns (x : Iv) : List Iv → List Iv
  | [] => [x]
  | y :: l => if x.1 ≤ y.1 then x :: y :: l else y :: ivIns x l

/-- Join intervals in order that meet or overlap. -/
def ivJoin : List Iv → List Iv → List Iv
  | acc, [] => acc.reverse
  | [], x :: l => ivJoin [x] l
  | y :: acc, x :: l => if x.1 ≤ y.2 then ivJoin ((y.1, max y.2 x.2) :: acc) l else ivJoin (x :: y :: acc) l

/-- The union of intervals, in order. -/
def ivUnion (l : List Iv) : List Iv := ivJoin [] ((l.filter (fun x => decide (x.1 < x.2))).foldl (fun m x => ivIns x m) [])

/-- The parts of intervals within [a, b). -/
def ivClip (a b : Nat) (l : List Iv) : List Iv := (l.map (fun x => (max a x.1, min b x.2))).filter (fun x => decide (x.1 < x.2))

/-- Ticks in disjoint intervals. -/
def ivSize (l : List Iv) : Nat := l.foldl (fun n x => n + (x.2 - x.1)) 0

/-! ### Applying intervals -/

/-- The times within [a, b), from `lo` on, at which a waveform is on (R230, R238, R240). -/
def wavePieces (s : State) (n : Nat) (w : Wav) (a b lo : Nat) : List Iv :=
  let T := perOf s n
  let base := rnd (w.phase * T) 65536
  let own : List Iv :=
    if 65536 ≤ w.duty then (match firstPulse s n w w.from_ with | some p => [(p.1, b)] | none => [])
    else if T = 0 then []
    else
      let k0 : Int := ((max a lo : Nat) - base : Int) / T - 1
      let k1 : Int := ((b : Int) - base) / T + 1
      ((List.range (k1 + 1 - k0).toNat).map (fun (i : Nat) => pulseOf s n w (k0 + i))).filterMap
        (fun p => if (w.from_ : Int) ≤ p.1 ∧ 0 < p.2.1 then some (p.1.toNat, (p.1 + p.2.1).toNat) else none)
  ivClip a b ((0, w.tail) :: (match w.land with | some x => x :: own | none => own))

/-- The times at which a recorded span of evidence lets product flow (R170). -/
def segPieces (s : State) (n : Nat) (e : EvSeg) (b lo : Nat) : List Iv :=
  if e.load = false then []
  else match e.st with
    | 0 => []
    | 1 => [(e.tick, b)]
    | _ => wavePieces s n e.wav e.tick b lo

/-- The evidence of an output with the end of each span; the last one lasts up to now. -/
def segEnds (s : State) : List EvSeg → List (EvSeg × Nat)
  | [] => []
  | [e] => [(e, s.tb + 1)]
  | e :: f :: l => (e, f.tick) :: segEnds s (f :: l)

/-- The delays in force at a tick by the evidence (R171). -/
def evDelays (l : List EvSeg) (t : Nat) : Nat × Nat :=
  match (l.filter (fun e => decide (e.tick ≤ t))).getLast? with
  | some e => (e.onD, e.offD)
  | none => (0, 0)

/-- The longest time between a switch and its effect on the ground, with two carrier periods. -/
def evReach (s : State) (n : Nat) (l : List EvSeg) : Nat :=
  l.foldl (fun m e => max m (e.onD + e.offD)) 0 + 2 * perOf s n

/-- The applying intervals of an output, from a tick on: start and end, none while it still applies (R170): by its own evidence, and of a
pair-wired output by the partner's readings. -/
def applying (s : State) (n lo : Nat) : List (Nat × Option Nat) :=
  let o := outSt s n
  let mate := o.mate.map (fun x => (x.1, x.2.getD (s.tb + 1)))
  (ivUnion ((segEnds s o.evid).flatMap (fun x => segPieces s n x.1 x.2 lo) ++ mate)).map (fun x => (x.1, if s.tb < x.2 then none else some x.2))

/-- Product on the ground (R171): from t1 + ON(t1) to t2 + OFF(t2); no end while the output still applies. -/
def groundIvs (s : State) (n from_ : Nat) : List (Nat × Option Nat) :=
  let l := (outSt s n).evid
  ((applying s n (from_ - evReach s n l)).map (fun x =>
    (x.1 + (evDelays l x.1).1, x.2.map (fun t => t + (evDelays l t).2)))).filter
      (fun x => match x.2 with | some e => decide (x.1 < e) | none => true)

/-- The parts of a ground interval [a, b) during which product is on the ground. -/
def groundIn (s : State) (n a b : Nat) : List Iv :=
  ivUnion (ivClip a b ((groundIvs s n a).map (fun x => (x.1, x.2.getD b))))

/-- Product on the ground now (STR_OUTn.GROUND). -/
def groundNow (s : State) (n : Nat) : Bool := !(groundIn s n s.tb (s.tb + 1)).isEmpty

/-- No product lies ahead of a ground tick: the output is off and everything it let go has landed before it (R203). -/
def groundDone (s : State) (n t : Nat) : Bool :=
  (groundIvs s n t).all (fun x => match x.2 with | some e => decide (e ≤ t) | none => false)

/-- Forget evidence that no ground tick from `t` on rests on. -/
def evTrim (s : State) (n t : Nat) : List EvSeg → List EvSeg
  | e :: f :: l => if f.tick + evReach s n (e :: f :: l) ≤ t then evTrim s n t (f :: l) else e :: f :: l
  | l => l

/-! ### Windows of a platform -/

/-- The window of a STALL output (R67, R219): stall, first count, and length. -/
def stallWindow (s : State) (o : OutEnt) : Option (Nat × Nat × Nat) :=
  let g := s.cfg.geom0
  if o.role ≠ .stall ∨ g.nStalls = 0 ∨ g.countsRev = 0 then none
  else (stallOf s o.out).map (fun k =>
    (k, (((k * g.countsRev / g.nStalls : Nat) + o.fpDx) % (g.countsRev : Int)).toNat, o.w))

/-- The engine is deciding. -/
def engineRuns (s : State) : Bool := fbit s R.STR_STATUS F.STR_STATUS_RUN

/-- Why a window cannot be recorded now (R221): 0 no pose, 1 the engine is not running. -/
def stallCause (s : State) : Option Nat :=
  if (s.str.platIdx && fbit s (R.FBI_STAT s.cfg.geom0.enc) F.FBI_STAT_VALID) = false then some 0
  else if engineRuns s = false then some 1
  else none

/-- Count the delivered ground time of a window up to a tick (R220). -/
def doseCount (n t : Nat) (s : State) : State :=
  let o := outSt s n
  if o.win ≠ 1 then s
  else setOut s n { o with dose := o.dose + ivSize (groundIn s n o.doseTo t), doseTo := max o.doseTo t }

/-- A window ends (R221). Log 31: DEDUCED. -/
def stallClose (n k : Nat) (s : State) : State :=
  let o := outSt s n
  let dose := fget s (R.STR_STALL k) F.STR_STALL_DOSE
  let s0 := setOut s n { o with win := 0, winGap := none }
  match o.winGap with
  | some c =>
    let s1 := gapLease { s0 with cov := { s0.cov with gaps := s0.cov.gaps ++ [(n, o.winFrom, s.tb - 1)] } }
    fincWrap (raise s1 Ev.COMMIT_GAP [n, o.winFrom, (s.tb : Int) - 1, c, k]) R.STR_GAP_CNT F.STR_GAP_CNT_COUNT
  | none =>
    let d := o.dose / 2000000
    let short := decide (dose ≠ 0 ∧ o.dose < dose * 2000000)
    let a := R.STR_STALL_DLV k
    let s1 := fsetb (fincWrap (fset s0 a F.STR_STALL_DLV_DELIV (min d 65535)) a F.STR_STALL_DLV_WINDOWS) a F.STR_STALL_DLV_SHORT short
    if short then raise s1 Ev.STALL_SHORT [k, dose, d] else s1

/-- A window begins (R220): the count of delivered time restarts. Log 31: DEDUCED. -/
def stallOpen (n : Nat) (s : State) : State :=
  setOut s n { outSt s n with win := 1, winFrom := s.tb, dose := 0, doseTo := s.tb, winGap := stallCause s }

/-- The windows of a platform at a boundary (R83, R219 to R221), by the count of the snapshot: each stall's window begins, ends, or, left backward
across its start, waits for a return. A move of less than half a revolution forward since the last boundary is forward. Log 31: DEDUCED. -/
def platTrack (s : State) : State :=
  let g := s.cfg.geom0
  let count := fget s R.STR_PLAT_POS F.STR_PLAT_POS_COUNT
  if g.family ≠ .platform then s
  else forEach s.cfg.outs (fun o s =>
    match stallWindow s o with
    | none => s
    | some (k, ws, w) =>
      let cr := g.countsRev
      let off := (count + cr - ws) % cr
      let st := outSt s o.out
      let inw := decide (off < w)
      let back := decide (cr ≤ 2 * ((off + cr - st.winOff) % cr))
      let s1 := match st.win with
        | 1 =>
          if inw then s
          else
            let s2 := doseCount o.out s.tb s
            if back then setOut s2 o.out { outSt s2 o.out with win := 2 }
            else stallClose o.out k s2
        | 2 =>
          if inw = false then s
          else if back = false then setOut s o.out { st with win := 1, doseTo := s.tb }
          else stallOpen o.out (stallClose o.out k s)
        | _ => if inw then stallOpen o.out s else s
      setOut s1 o.out { outSt s1 o.out with winOff := off }) s

/-- DONE of a stall (R227): the dose is delivered in the current window. -/
def stallDone (s : State) (n k : Nat) : Bool :=
  let o := outSt s n
  let dose := fget s (R.STR_STALL k) F.STR_STALL_DOSE
  dose != 0 && o.win != 0 && o.winGap.isNone &&
    decide (dose * 2000000 ≤ o.dose + (if o.win = 1 then ivSize (groundIn s n o.doseTo s.tb) else 0))

end Sys2Proof.Machine
end

