-- ==== Sys2Proof/Machine/Sweep.lean ====
section
/-!
DEFINITION. Machine/Sweep.lean: the evaluations of the Stride engine (R151 to R156, R169, R214, R216, R220, R225): an output's footprint
carried along the predicted path, the decision at each point, and where the span ends. Time within a sweep is counted in half ticks from
the boundary, so that a transition is rounded to the nearest tick, halves up (R158).
-/

namespace Sys2Proof.Machine

/-! ### Projection -/

/-- Half ticks from a record's own boundary to `h` half ticks after boundary B: a STALE record is advanced from its own (R137). -/
def sinceRec (r : PoseRec) (B h : Nat) : Nat := 2 * (B - r.b) + h

/-- The machine's placement `h` half ticks after a record's boundary (R136, R153). -/
def placeAt (r : PoseRec) (h : Nat) : Placing := ⟨mrpAt r h, headAt r h, r.pitch, r.roll⟩

/-- MRP speed along machine x in 1/400,000,000 mm/s (R136). -/
def speedHalf (r : PoseRec) (h : Nat) : Int := r.v * 400000000 + r.a * h

/-! ### Decisions -/

/-- What a sweep carries: the section's parameters and number, the footprint with its shift forward (R225), the record and boundary,
whether rows 5 to 7 are tested (R216), and the schedule (R214). -/
structure SweepCtx where
  par   : SecPar
  sect  : Nat
  foot  : FootP
  ahead : Int
  rec_  : PoseRec
  B     : Nat
  map   : Bool
  sched : Option (Bool × List (Nat × Bool))
deriving DecidableEq, Repr, Inhabited

/-- The decision at a point: its reason and row (R155), and the tiles the footprint touches. -/
structure PtRes where
  reason : Nat
  row    : Nat
  tiles  : List Nat
deriving DecidableEq, Repr, Inhabited

/-- The counted fraction turns the output off (R155 row 7, R156): `on` is the decision just before the point. -/
def coveredAt (s : State) (c : SweepCtx) (on : Bool) (h : Nat) (cells : List Cell2) : Bool :=
  let n := (cells.filter (fun q => counted s q (c.B + h / 2))).length
  let lim := if on then c.par.ovlOff else c.par.ovlOff - c.par.ovlHyst
  cells != [] && decide (lim * cells.length ≤ n * 100)

/-- Rows 4 to 8 of R155 at a point, and the schedule (R214). -/
def rowsAt (s : State) (c : SweepCtx) (on : Bool) (h : Nat) (cells : List Cell2) (centre : FPt) : Nat × Nat :=
  let v := speedHalf c.rec_ (sinceRec c.rec_ c.B h)
  if v.natAbs < c.par.vMin * 400000000 ∨ (v < 0 ∧ c.par.follow = false) then (4, 4)
  else if c.map && cells.any (fun q => codeAt s q == 3) then (5, 5)
  else if c.map && c.par.zeroOff && (rateAt s c.sect centre).1 == 0 then (6, 6)
  else if c.map && c.par.avoid && coveredAt s c on h cells then (7, 7)
  else match c.sched with
    | some (base, es) => if schedAt base es (c.B + h / 2) then (0, 8) else (1, 1)
    | none => (0, 8)

/-- A point of a sweep. -/
def evalPt (s : State) (c : SweepCtx) (on : Bool) (h : Nat) : PtRes :=
  let p := placeAt c.rec_ (sinceRec c.rec_ c.B h)
  let cells := if c.map then footCells s p c.ahead c.foot else []
  let r := rowsAt s c on h cells (footCentre p c.ahead c.foot)
  ⟨r.1, r.2, ((cells.filter (inExtent s)).map tileOf).eraseDups⟩

/-- The first tile a point touches that is not in the map cache (R152). -/
def missAt (s : State) (q : PtRes) : Option Nat := q.tiles.find? (fun t => !s.str.cache.contains t && tileAlloc s t)

/-- A point at which the span ends: at the edge of a missing tile or of a 17th tile of the segment (R152). -/
def stopAt (s : State) (tiles : List Nat) (q : PtRes) : Bool :=
  (missAt s q).isSome || decide (16 < (tiles ++ q.tiles).eraseDups.length)

/-- The first number of (lo, hi] with a property that lo does not have and hi has. Log 41: DEDUCED. -/
def bisect (p : Nat → Bool) : Nat → Nat → Nat → Nat
  | 0, _, hi => hi
  | n + 1, lo, hi => if hi ≤ lo + 1 then hi else if p ((lo + hi) / 2) then bisect p n lo ((lo + hi) / 2) else bisect p n ((lo + hi) / 2) hi

/-- A sweep in progress: where it stands, the decision in force, the transitions and tiles of the segment, what has been found, and how
it ended: 0 not yet, 1 at a third transition, 2 at a tile. -/
structure SweepSt where
  h      : Nat
  on     : Bool
  reason : Nat
  row    : Nat
  trans  : Nat
  tiles  : List Nat
  want   : List (Nat × Nat)
  tl     : List TlEnt
  res    : Nat
  miss   : Option Nat
deriving DecidableEq, Repr, Inhabited

/-- Tiles first touched at a ground tick. -/
def wantAdd (g : Nat) (ts : List Nat) (w : List (Nat × Nat)) : List (Nat × Nat) :=
  ts.foldl (fun w t => if w.any (fun x => x.1 == t) then w else w ++ [(t, g)]) w

/-- The ground tick of a transition first found `m` half ticks after B (R158): the instant lies in the half tick before, and is `m` itself where the
speed reaches V_MIN just there; an instant half way between two ticks is rounded up. Log 41: DEDUCED. -/
def trnTick (c : SweepCtx) (was m : Nat) (q : PtRes) : Nat :=
  let just := was == 4 && q.row != 4 && (speedHalf c.rec_ (sinceRec c.rec_ c.B m)).natAbs == c.par.vMin * 400000000
  c.B + (m + b2n just) / 2

/-- Take the decision of a point into a sweep. -/
def sweepTake (s : State) (c : SweepCtx) (k m : Nat) (q : PtRes) (st : SweepSt) : SweepSt :=
  let g := trnTick c st.row m q
  let on := q.reason == 0
  if stopAt s st.tiles q then { st with h := m, res := 2, miss := missAt s q, want := wantAdd g q.tiles st.want }
  else if on ≠ st.on ∧ st.trans = 2 then { st with h := m - 1, res := 1 }
  else { st with
    h := m, on := on, reason := q.reason, row := q.row
    trans := if on = st.on then st.trans else st.trans + 1
    tiles := (st.tiles ++ q.tiles).eraseDups
    want := wantAdd g q.tiles st.want
    tl := if (q.reason, q.row) = (st.reason, st.row) ∧ st.tl ≠ [] then st.tl else ⟨g, on, q.reason, q.row, k⟩ :: st.tl }

/-- Sweep to the next sample, or to the first point before it where the decision is another or the span ends. -/
def sweepStep (s : State) (c : SweepCtx) (k next : Nat) (st : SweepSt) : SweepSt :=
  let other (m : Nat) : Bool :=
    let q := evalPt s c st.on m
    (q.reason, q.row) != (st.reason, st.row) || stopAt s st.tiles q
  let m := if other next then bisect other 40 st.h next else next
  sweepTake s c k m (evalPt s c st.on m) st

/-- Sweep a segment: samples `dt` half ticks apart, and at the edges of the schedule. -/
def sweepSeg (s : State) (c : SweepCtx) (k endH dt : Nat) (cuts : List Nat) : Nat → SweepSt → SweepSt
  | 0, st => st
  | n + 1, st =>
    if st.res ≠ 0 ∨ endH ≤ st.h then st
    else
      let next := (cuts.filter (fun x => decide (st.h < x))).foldl min (min endH (st.h + dt))
      sweepSeg s c k endH dt cuts n (sweepStep s c k next st)

/-- Sweep the horizons in order (R152). -/
def sweepHz (s : State) (c : SweepCtx) (dt stop : Nat) (cuts : List Nat) : List (Nat × Nat) → List Nat → SweepSt → List Nat × SweepSt
  | [], ends, st => (ends, st)
  | (k, e) :: rest, ends, st =>
    let endH := min e stop
    let st1 := sweepSeg s c k endH dt cuts (3 * ((endH - st.h) / dt) + 60) { st with trans := st.trans, tiles := [] }
    let at_ := c.B + (if st1.res = 1 then st1.h + 1 else st1.h) / 2
    if st1.res = 2 ∨ (st1.res = 0 ∧ stop ≤ e) then (ends ++ [at_], st1)
    else sweepHz s c dt stop cuts rest (ends ++ [at_]) { st1 with res := 0, trans := 0 }

/-- The ends of the horizons in effect (R151, R177), with their numbers, in half ticks after B. -/
def horizons (s : State) : List (Nat × Nat) :=
  (List.range (fget s R.STR_STATUS F.STR_STATUS_N_EFF)).map (fun k => (k, fget s (R.STR_HZ k) F.STR_HZ_HZ * 40000))

/-- A whole span of one decision: rows 1 to 3 (R155). -/
def wholeSpan (s : State) (B reason : Nat) : Sweep :=
  let ends := (horizons s).map (fun x => B + x.2 / 2)
  ⟨[⟨B, false, reason, reason, 0⟩], ends, ends.getLast?.getD B, [], none⟩

/-- Half ticks until the predicted speed changes sign (R152); none within the model's reach: a bound beyond every span. -/
def signChange (r : PoseRec) (B : Nat) : Nat :=
  let v := speedHalf r (sinceRec r B 0)
  if (0 < v ∧ r.a < 0) ∨ (v < 0 ∧ 0 < r.a) then v.natAbs / r.a.natAbs else 2 ^ 40

/-- Half ticks between samples: in them no output moves by more than a cell, and they span at most 20 ms (R153). Log 41: DEDUCED. -/
def sampleStep (s : State) (c : SweepCtx) (endH : Nat) : Nat :=
  let r := c.rec_
  let v := max r.v.natAbs (r.v + r.a * endH / 400000000).natAbs + r.vy.natAbs
    + (r.omega.natAbs + r.omegaDot.natAbs * 2) * 7 * (c.foot.x.natAbs + c.foot.y.natAbs + c.ahead.natAbs) / 16777216 + 1
  max 2 (min 8000000 (cellMm s * 400000000 / v))

/-- A field sweep (R152 to R156). `on` is the state on the ground at B. Log 41: DEDUCED. -/
def fieldSweep (s : State) (c : SweepCtx) (on : Bool) : Sweep :=
  let hz := horizons s
  let endH := (hz.getLast?.map (·.2)).getD 0
  let cuts := match c.sched with
    | some (_, es) => (es.filter (fun e => decide (c.B < e.1))).map (fun e => 2 * (e.1 - c.B))
    | none => []
  let st0 := sweepTake s c 0 0 (evalPt s c on 0) ⟨0, on, 8, 0, 0, [], [], [], 0, none⟩
  if st0.res = 2 then ⟨[], [c.B], c.B, st0.want, st0.miss⟩
  else
    let r := sweepHz s c (sampleStep s c endH) (signChange c.rec_ c.B) cuts hz [] st0
    ⟨r.2.tl.reverse, r.1, r.1.getLast?.getD c.B, r.2.want, r.2.miss⟩

/-- The entry of a list of decisions in force at a ground tick. -/
def tlAt (l : List TlEnt) (g : Nat) : Option TlEnt := (l.filter (fun e => decide (e.g ≤ g))).getLast?

/-- Put a number at its place in rising order, once. -/
def natIns (x : Nat) : List Nat → List Nat
  | [] => [x]
  | y :: l => if x = y then y :: l else if x < y then x :: y :: l else y :: natIns x l

/-- FORERUNNER (R225): a transition to ON is found with the footprint shifted by LA_ON, one to OFF with it shifted by LA_OFF. Log 41: DEDUCED. -/
def foreMerge (a b : Sweep) (on : Bool) : Sweep :=
  let span := min a.span b.span
  let gs := ((a.tl ++ b.tl).map (·.g)).filter (fun g => decide (g < span))
  let pts := gs.foldl (fun m g => natIns g m) []
  let st (l : List TlEnt) (g : Nat) : TlEnt := (tlAt l g).getD ⟨g, false, 1, 1, 0⟩
  let r := pts.foldl (fun (acc : List TlEnt × Bool × Option (Bool × Bool)) g =>
    let x := st a.tl g
    let y := st b.tl g
    let now := match acc.2.2 with
      | none => if x.on = y.on then x.on else acc.2.1
      | some (px, py) => if !px && x.on then true else if py && !y.on then false else acc.2.1
    let e : TlEnt := if now then ⟨g, true, 0, 8, max x.hz y.hz⟩ else if y.on then { x with g := g } else { y with g := g }
    (acc.1 ++ [{ e with on := now }], now, some (x.on, y.on))) ([], on, none)
  ⟨r.1, (a.ends.zip b.ends).map (fun x => min x.1 x.2), span, wantAdd 0 [] (a.want ++ b.want), a.miss.orElse (fun _ => b.miss)⟩

/-! ### Stalls -/

/-- A decision of a stall at a ground tick, in the span and another than the one before. -/
def stallPut (endG : Nat) (e : TlEnt) (l : List TlEnt) : List TlEnt :=
  match l.getLast? with
  | some x => if e.g < endG ∧ ((e.on, e.reason, e.row) ≠ (x.on, x.reason, x.row)) then l ++ [e] else l
  | none => if e.g < endG then l ++ [e] else l

/-- The windows of a stall in the span (R220): counts to the start and end of each, from the count at B. The reason out of a window
and with the dose delivered is COVERED; the first counts as row 5, the second as row 7 (R160). Log 31: DEDUCED. -/
def stallWins (endG B vel cr w dose done lead : Nat) (fresh : Bool) : Nat → Nat → Nat → List TlEnt → List TlEnt
  | 0, _, _, l => l
  | n + 1, d, e, l =>
    let at_ (x : Nat) : Nat := B + rnd (x * 3200000000) vel
    let gs := at_ d
    let ge := at_ e
    if endG ≤ gs then l
    else
      let dn := if fresh then done else 0
      let l1 :=
        if dose = 0 then stallPut endG ⟨gs, true, 0, 8, 0⟩ l
        else if dose ≤ dn then stallPut endG ⟨gs, false, 7, 7, 0⟩ l
        else
          let l2 := stallPut endG ⟨gs, true, 0, 8, 0⟩ l
          let off := max gs lead + (dose - dn)
          if off < ge then stallPut endG ⟨off, false, 7, 7, 0⟩ l2 else l2
      stallWins endG B vel cr w dose done lead false n (d + cr) (e + cr) (stallPut endG ⟨ge, false, 7, 5, 0⟩ l1)

/-- The horizon of a ground tick. -/
def hzOf (ends : List Nat) (g : Nat) : Nat := (ends.filter (fun e => decide (e ≤ g))).length

/-- The sweep of a STALL output (R219, R220). -/
def stallSweep (s : State) (o : OutEnt) (B : Nat) : Sweep :=
  let g := s.cfg.geom0
  let vel := sext 32 (rget s (R.FBI_VEL g.enc)).toNat
  let base := wholeSpan s B 4
  match stallWindow s o with
  | none => wholeSpan s B 1
  | some (k, ws, w) =>
    if vel < (g.platVmin * 16 : Nat) ∨ vel ≤ 0 then base
    else
      let c := fget s R.STR_PLAT_POS F.STR_PLAT_POS_COUNT
      let cr := g.countsRev
      let off := (c + cr - ws) % cr
      let st := outSt s o.out
      let ivs := groundIvs s o.out B
      -- delivered in the window: what has landed, and what is commanded off and still landing
      let ahead := ivSize (ivUnion (ivs.filterMap (fun x => x.2.bind (fun e => if B < e then some (max B x.1, e) else none))))
      let done := if st.win = 0 then 0 else st.dose + ivSize (groundIn s o.out st.doseTo B) + ahead
      let lead := ivs.foldl (fun m x => match x.2 with
        | some e => if B < e then max m e else m
        | none => if B < x.1 then max m x.1 else m) B
      let inw := decide (off < w)
      let d0 := if inw then 0 else cr - off
      let e0 := if inw then w - off else cr - off + w
      let l0 : List TlEnt := if inw then [] else [⟨B, false, 7, 5, 0⟩]
      let dose := fget s (R.STR_STALL k) F.STR_STALL_DOSE * 2000000
      let tl := stallWins base.span B vel.toNat cr w dose done lead (st.win != 0) (vel.toNat / (8 * cr) + 2) d0 e0 l0
      { base with tl := tl.map (fun e => { e with hz := hzOf base.ends e.g }) }

/-! ### The evaluations of an output -/

/-- The state on the ground at a tick as commanded (R160): the last transition commanded whose ground tick has come. Log 41: DEDUCED. -/
def groundState (s : State) (n B : Nat) : Bool :=
  match (outSt s n).fixed.find? (fun x => decide (x.1 ≤ B)) with
  | some x => x.2
  | none => false

/-- Rows 5 to 7 are tested: not in FIELD-DIRECTED with no job in RUN (R216), and not on a platform (R220). -/
def mapTested (s : State) : Bool := jobRun s

/-- A footprint held for the cycle. -/
def footNow (s : State) (n : Nat) : FootP := smGet (fun _ => ⟨.arc, 0, 0, 0, 0, 0, false⟩) s.str.foots n

/-- The footprint an output is decided with: its own, or in FORERUNNER its section's (R225). -/
def decideFoot (s : State) (o : OutEnt) : FootP :=
  if modeOf s = 4 then footBox s ((s.cfg.outs.filter (fun x => strideRole x && x.sect == o.sect)).map (fun x => footNow s x.out))
  else footNow s o.out

/-- The evaluations of an output in the cycle at B (R152, R155). -/
def evaluate (s : State) (B : Nat) (o : OutEnt) : Sweep :=
  let foot := decideFoot s o
  match secPar s o, s.pos.cur with
  | none, _ => wholeSpan s B 1
  | some par, cur =>
    if secEnable s o.sect = false ∨ (o.role = .stall ∧ ((stallOf s o.out).elim true (fun k => !stallEn s k)) = true) then wholeSpan s B 1
    else if poseValid s = false then wholeSpan s B 2
    else if o.role = .stall then stallSweep s o B
    else if foot.ok = false then wholeSpan s B 3
    else match cur with
      | none => wholeSpan s B 2
      | some r =>
        let sched := if modeOf s = 1 then schedOf s o.sect else none
        let c : SweepCtx := ⟨par, o.sect, foot, 0, r, B, mapTested s, sched⟩
        let on := groundState s o.out B
        if modeOf s = 4 then
          foreMerge (fieldSweep s { c with ahead := par.laOn } on) (fieldSweep s { c with ahead := par.laOff } on) on
        else fieldSweep s c on

/-- What a cut-off leaves of a sweep (R152, R176): the span ends with the last completed horizon. -/
def cutSweep (cut : Option Nat) (B : Nat) (w : Sweep) : Sweep :=
  match cut with
  | none => w
  | some k =>
    if w.ends.length ≤ k then w
    else
      let span := if k = 0 then B else w.ends.getD (k - 1) B
      { w with tl := w.tl.filter (fun e => decide (e.g < span)), ends := w.ends.take k, span := span, miss := none }

end Sys2Proof.Machine
end

