-- ==== Sys2Proof/Machine/Plan.lean ====
section
/-!
DEFINITION. Machine/Plan.lean: from the decisions of a sweep to the event queue (R158 to R166, R179), and direct section control (R218).
-/

namespace Sys2Proof.Machine

/-! ### Runs -/

/-- A planned ON run in ground ticks (R160): no start where the output is already on at B, no end where it reaches the end of the span.
`moved`: its ON command is placed 40,000 ticks after the OFF command before it. -/
structure PRun where
  s     : Option Nat
  e     : Option Nat
  moved : Bool
deriving DecidableEq, Repr, Inhabited

/-- The ON runs of a sweep, newest first, from the state on the ground at B. -/
def runsStep (l : List PRun) (e : TlEnt) : List PRun :=
  match l with
  | ⟨s, none, m⟩ :: rest => if e.on then l else ⟨s, some e.g, m⟩ :: rest
  | _ => if e.on then ⟨some e.g, none, false⟩ :: l else l

/-- The ON runs of a sweep in order. -/
def runsOf (on : Bool) (tl : List TlEnt) : List PRun := (tl.foldl runsStep (if on then [⟨none, none, false⟩] else [])).reverse

/-- What planning an output rests on: fence, delays in ticks, MIN_RUN in ticks, policy STRETCH, the sweep. -/
structure PlanCtx where
  F       : Nat
  onD     : Nat
  offD    : Nat
  minRun  : Nat
  stretch : Bool
  sw      : Sweep
deriving DecidableEq, Repr, Inhabited

/-- A run of known length that is too short: below MIN_RUN, or with its OFF command not later than its ON command (R160). -/
def shortRun (c : PlanCtx) (s e : Nat) : Bool := decide (e < s + c.minRun) || decide (e + c.onD ≤ s + c.offD)

/-- Where STRETCH moves the end of a short run (R160): not into a point decided under row 5 and not beyond the span. -/
def stretchEnd (c : PlanCtx) (s e : Nat) : Option Nat :=
  let lim := (c.sw.tl.find? (fun x => decide (e ≤ x.g) && x.row == 5)).map (·.g)
  let e1 := match lim with | some g => min (s + c.minRun) g | none => s + c.minRun
  if c.stretch = false ∨ c.sw.span < e1 ∨ shortRun c s e1 then none else some e1

/-- Short ON runs (R160 rows 1, 2 and 5): removed, or stretched over what follows; newest first. -/
def fitRun (c : PlanCtx) (acc : List PRun) (r : PRun) : List PRun :=
  let joined : Option (List PRun) := match acc with
    | ⟨s, some e, m⟩ :: rest =>
      (match r.s with
        | some rs => if rs ≤ e then some (⟨s, r.e.map (max e), m⟩ :: rest) else none
        | none => none)
    | _ => none
  match joined with
  | some l => l
  | none =>
    match r.s, r.e with
    | some s, some e =>
      if shortRun c s e = false then r :: acc
      else match stretchEnd c s e with
        | some e1 => ⟨some s, some e1, r.moved⟩ :: acc
        | none => acc
    | _, _ => r :: acc

/-- The rows by which the points of a gap are decided (R160). -/
def gapRows (c : PlanCtx) (a b : Nat) : List Nat :=
  ((tlAt c.sw.tl a).map (·.row)).toList ++ (c.sw.tl.filter (fun x => decide (a < x.g ∧ x.g < b))).map (·.row)

/-- OFF gaps (R160 rows 3, 4 and 6): bridged, or kept with the ON command moved; newest first. -/
def fitGap (c : PlanCtx) (acc : List PRun) (r : PRun) : List PRun :=
  match acc, r.s with
  | ⟨s, some e, m⟩ :: rest, some rs =>
    let bad := decide (rs + c.offD ≤ e + c.onD)
    if (gapRows c e rs).all (fun x => x == 6 || x == 7) && (decide (rs < e + c.minRun) || bad) then ⟨s, r.e, m⟩ :: rest
    else { r with moved := bad } :: acc
  | _, _ => r :: acc

/-- The ON runs of a plan after R160. -/
def planRuns (c : PlanCtx) (on : Bool) : List PRun :=
  (((runsOf on c.sw.tl).foldl (fitRun c) []).reverse.foldl (fitGap c) []).reverse

/-! ### Events -/

/-- A transition of a plan: ground tick, type, and whether its command is moved. -/
structure Trn where
  g     : Nat
  on    : Bool
  moved : Bool
deriving DecidableEq, Repr, Inhabited

/-- The transitions of runs in order. -/
def trnsOf (l : List PRun) : List Trn :=
  l.flatMap (fun r => (r.s.map (fun g => (⟨g, true, r.moved⟩ : Trn))).toList ++ (r.e.map (fun g => (⟨g, false, false⟩ : Trn))).toList)

/-- An event of a plan (R158, R159): placed at the fence and marked LATE where its command tick lies before it. -/
def mkEvent (c : PlanCtx) (on : Bool) (tick : Int) (g : Nat) : QEnt :=
  let e := tlAt c.sw.tl g
  let d := if on then c.onD else c.offD
  let late := decide (tick < c.F)
  let t := if late then c.F else tick.toNat
  ⟨on, t, t + d, 0, (e.map (·.hz)).getD 0, late, (e.map (·.reason)).getD 0⟩

/-- The events a plan still needs, given the transitions already commanded `k` in order (ground tick, type), the tick of the last OFF and
the state so far: a transition is already commanded where it matches the next of them. Commanded transitions that the plan no longer
holds are undone at the fence (R159, R163). -/
def planEvents (c : PlanCtx) (tol : Nat) : List (Nat × Bool) → Int → Bool → List Trn → List QEnt
  | k, _, st, [] => if k.length % 2 = 1 then [mkEvent c st (-1) c.F] else []
  | k, lastOff, st, t :: ts =>
    let tick : Int := if t.moved then lastOff + 40000 else (t.g : Int) - (if t.on then c.onD else c.offD : Nat)
    match k with
    | x :: ks =>
      if tick < c.F ∨ ((t.g : Int) - x.1).natAbs ≤ tol then
        planEvents c tol ks (if t.on then lastOff else (x.1 : Int) - c.offD) t.on ts
      else
        (if (x :: ks).length % 2 = 1 then [mkEvent c st (-1) c.F] else []) ++
          mkEvent c t.on tick t.g :: planEvents c tol [] (if t.on then lastOff else max tick c.F) t.on ts
    | [] => mkEvent c t.on tick t.g :: planEvents c tol [] (if t.on then lastOff else max tick c.F) t.on ts

/-- Put an event at its place by tick. -/
def evIns (e : QEnt) : List QEnt → List QEnt
  | [] => [e]
  | x :: l => if e.tick < x.tick then e :: x :: l else x :: evIns e l

/-- Events at one tick (R179): all dropped where both types meet, one kept where they are of one type. Log 41: DEDUCED. -/
def oneTick (l : List QEnt) : List QEnt :=
  let both (t : Nat) : Bool := l.any (fun x => x.tick == t && x.on) && l.any (fun x => x.tick == t && !x.on)
  (l.foldl (fun m e => evIns e m) []).foldl (fun m e => if both e.tick ∨ m.any (fun x => x.tick == e.tick) then m else m ++ [e]) []

/-- The transitions of an output already commanded with a ground tick after B: executed, or queued before the fence (R150). -/
def commanded (s : State) (n B F : Nat) : List (Nat × Bool) :=
  let o := outSt s n
  let l := (o.fixed.filter (fun x => decide (B < x.1))).reverse
    ++ (o.queue.filter (fun e => decide (e.tick < F))).map (fun e => (e.ground, e.on))
  (l.foldl (fun (m : List (Nat × Bool) × Bool) x => if x.2 = m.2 then m else (m.1 ++ [x], x.2)) ([], groundState s n B)).1

/-- REPLAN_TOL in ticks (R151). -/
def replanTol (s : State) : Nat := usTicks (fget s R.STR_CFG F.STR_CFG_REPLAN_TOL)

/-! ### The queue -/

/-- A plan and queued entries count as the same (R163). Log 41: DEDUCED. -/
def samePlan (tol : Nat) : List QEnt → List QEnt → Bool
  | [], [] => true
  | a :: l, b :: m => a.on == b.on && decide (((a.tick : Int) - b.tick).natAbs ≤ tol) && samePlan tol l m
  | _, _ => false

/-- Write an output's plan (R163, R164): left as it is where the queue holds the same; otherwise squashed and rewritten with `lay`
laying its provisional marks. Log 41: DEDUCED. -/
def writePlan (n fence : Nat) (evs : List QEnt) (span : Nat) (lay : Nat → List QEnt → State → State) (s : State) : State :=
  let q := (outSt s n).queue
  let before := q.filter (fun e => decide (e.tick < fence))
  let cap := 8 - before.length
  let span1 := match evs[cap]? with | some e => e.ground | none => span
  let plan := evs.take cap
  let s0 := if cap < evs.length then
      fincWrap (fsetb s (R.STR_OUT n) F.STR_OUT_TRUNC true) R.STR_TRUNC_CNT F.STR_TRUNC_CNT_COUNT
    else s
  let old := q.filter (fun e => decide (fence ≤ e.tick ∧ e.ground < span1))
  if samePlan (replanTol s) old plan then s0
  else
    let s1 := fincWrap (withdraw n (fun r => decide (r.from_ < span1)) s0) (R.STR_OUT n) F.STR_OUT_GEN
    let kept := q.filter (fun e => decide (fence ≤ e.tick ∧ span1 ≤ e.ground))
    let keep := kept.take (cap - plan.length)
    let s2 := match kept[keep.length]? with | some e => withdraw n (fun r => decide (e.ground ≤ r.from_)) s1 | none => s1
    let g := genOf s2 n
    let q1 := (plan.map (fun e => { e with gen := g })).foldl (fun m e => qIns e m) (before ++ keep)
    let s3 := setOut s2 n { outSt s2 n with queue := q1 }
    let late := (plan.filter (·.late)).length
    let s4 := faddWrap (faddWrap s3 R.STR_SQUASH_CNT F.STR_SQUASH_CNT_COUNT old.length) R.STR_LATE_EVT_CNT F.STR_LATE_EVT_CNT_COUNT late
    nextReg n (lay span1 plan (whenB (decide (0 < late)) (fun s => fsetb s (R.STR_OUT n) F.STR_OUT_LATE true) s4))

/-! ### Provisional marks -/

/-- The cells a footprint touches from `h` to `e` half ticks after B, each with the ground tick at which it is reached (R166). -/
def markCells (s : State) (r : PoseRec) (f : FootP) (B e dt : Nat) : Nat → Nat → List (Nat × Nat) → List (Nat × Nat)
  | 0, _, l => l
  | n + 1, h, l =>
    if e ≤ h then l
    else
      let m := min e (h + dt)
      let cells := (sweepCells s (placeAt r (sinceRec r B h)) (placeAt r (sinceRec r B m)) 0 f).filter (inExtent s)
      markCells s r f B e dt n m (cells.foldl (fun l c => if l.any (fun x => x.1 == cellKey c) then l else l ++ [(cellKey c, B + h / 2)]) l)

/-- Lay one mark (R166, R167): a tile that the layer holds, or room for it among 32. -/
def layMark (x : Nat × Nat) (p : List (Nat × Nat) × State) : List (Nat × Nat) × State :=
  let s := p.2
  let t := tileOf (keyCell x.1)
  if s.str.provTiles.contains t = false ∧ 32 ≤ s.str.provTiles.length then (p.1, fsetb s R.STR_STATUS F.STR_STATUS_PROV_FULL true)
  else
    let s1 := if s.str.provTiles.contains t then s else { s with str := { s.str with provTiles := s.str.provTiles ++ [t] } }
    (p.1 ++ [x], stampCell (keyCell x.1) x.2 (provAdd [x.1] s1))

/-- The ON runs on the ground within [B, span) of an output on or off at B, by the ground ticks of what is commanded and planned (R166). -/
def groundRuns (span : Nat) : Option Nat → List (Nat × Bool) → List Iv
  | none, [] => []
  | some a, [] => [(a, span)]
  | none, (g, on) :: l => groundRuns span (if on then some g else none) l
  | some a, (g, on) :: l => if on then groundRuns span (some a) l else (a, min g span) :: groundRuns span none l

/-- Lay the marks of a written plan's ON runs (R166): from the run's start, or B where it is already on, to its end or the span's. -/
def layRuns (n B : Nat) (r : PoseRec) (runs : List Iv) (span : Nat) (s : State) : State :=
  forEach runs (fun x s =>
    let a := max B x.1
    let e := min span x.2
    if e ≤ a ∨ s.cov.job = none then s
    else
      let f := footNow s n
      let c : SweepCtx := ⟨⟨0, 0, 0, false, false, 0, false, .off, 0, 0⟩, 0, f, 0, r, B, true, none⟩
      let dt := sampleStep s c (2 * (e - B))
      let cells := markCells s r f B (2 * (e - B)) dt (2 * (e - a) / dt + 1) (2 * (a - B)) []
      let p := cells.foldl (fun p x => layMark x p) ([], s)
      setOut p.2 n { outSt p.2 n with runs := (outSt p.2 n).runs ++ [⟨a, e, p.1⟩] }) s

/-- A tile leaves the provisional layer when no run touches it, and its counts are cleared (R166). -/
def provTidy (s : State) : State :=
  let live := (s.str.outs.flatMap (fun o => o.2.runs.flatMap (fun r => r.cells.map (fun c => tileOf (keyCell c.1))))).eraseDups
  { s with str := { s.str with
      provTiles := s.str.provTiles.filter (fun t => live.contains t)
      prov := s.str.prov.filter (fun x => live.contains (tileOf (keyCell x.1))) } }

/-- Marks whose ground time has passed are withdrawn (R172, R179). -/
def provPass (n t : Nat) (s : State) : State :=
  let o := outSt s n
  let gone := o.runs.flatMap (fun r => (r.cells.filter (fun c => decide (c.2 < t))).map (·.1))
  let left := (o.runs.filter (fun r => decide (t ≤ r.to_))).map (fun r => { r with cells := r.cells.filter (fun c => decide (t ≤ c.2)) })
  setOut (provSub gone s) n { o with runs := left }

/-! ### The plan of a cycle -/

/-- REASON (R182): the decision at the end of horizon 0. Log 45: DEDUCED. -/
def showReason (n B : Nat) (w : Sweep) (s : State) : State :=
  match tlAt w.tl (B + fget s (R.STR_HZ 0) F.STR_HZ_HZ * 20000) with
  | some e => fset s (R.STR_OUT n) F.STR_OUT_REASON e.reason
  | none => s

/-- Plan an output from its sweep and write the plan back (R158 to R164). In FORERUNNER no delay is subtracted (R225). Log 41: DEDUCED. -/
def planOut (B : Nat) (o : OutEnt) (w : Sweep) (s : State) : State :=
  let n := o.out
  let fence := B + cycleTicks
  let fore := modeOf s == 4
  let par := secPar s o
  let c : PlanCtx := ⟨fence, if fore then 0 else onDelay s n, if fore then 0 else offDelay s n, msTicks ((par.map (·.minRun)).getD 0), o.stretch, w⟩
  if w.span ≤ B then s
  else
    let on := groundState s n B
    let done := commanded s n B fence
    let evs := oneTick (planEvents c (replanTol s) done 0 on (trnsOf (planRuns c on)))
    let within := evs.filter (fun e => decide (e.ground < w.span))
    let lay (span : Nat) (plan : List QEnt) (s : State) : State := match s.pos.cur with
      | some r => layRuns n B r (groundRuns span (if on then some B else none) (done ++ plan.map (fun e => (e.ground, e.on)))) span s
      | none => s
    writePlan n fence within w.span lay (showReason n B w s)

/-! ### Direct section control -/

/-- The SPEED source read directly (R218): the counter snapshot of its channel or the newest message of the last 300 ms. -/
def speedDirect (s : State) : Option Int :=
  match s.cfg.gnss.speed with
  | .none => none
  | .ch n =>
    (isoSpeed s n.val).map (fun v => (v.natAbs : Int))
  | .iso => match s.pos.speed with
    | some (v, t) => if s.tb ≤ t + msTicks 300 then some v.natAbs else none
    | none => none

/-- A section before direct control (R218): off. -/
def dirInit : Nat → DirSec := fun _ => ⟨false, false, []⟩

/-- Target of a section under direct control, and the reason (R218). Log 44: DEDUCED. -/
def dirTarget (s : State) (x : SecEnt) : Bool × Nat :=
  if x.par.direct = .off ∨ secEnable s x.sect = false then (false, 1)
  else if x.par.direct = .speed ∧ (speedDirect s).elim true (fun v => decide (v < x.par.vMin)) = true then (false, 4)
  else (true, 0)

/-- One section at a boundary (R218): a change of target takes effect at G = F + the largest delay of that direction. -/
def dirSection (B : Nat) (x : SecEnt) (s : State) : State :=
  let d := smGet dirInit s.str.direct x.sect
  let t := (dirTarget s x).1
  let past := d.changes.filter (fun c => decide (c.1 ≤ B))
  let base := (past.getLast?.map (·.2)).getD d.base
  let outs := s.cfg.outs.filter (fun o => strideRole o && o.sect == x.sect)
  let big := outs.foldl (fun m o => max m (if t then onDelay s o.out else offDelay s o.out)) 0
  let ch := d.changes.filter (fun c => decide (B < c.1)) ++ (if t = d.target then [] else [(B + cycleTicks + big, t)])
  { s with str := { s.str with direct := smSet dirInit x.sect ⟨t, base, ch⟩ s.str.direct } }

/-- The state of a section under direct control at a ground tick, with its schedule (R214, R218). Log 44: DEDUCED. -/
def dirState (s : State) (sect g : Nat) : Bool :=
  let d := smGet dirInit s.str.direct sect
  let base := (((d.changes.filter (fun c => decide (c.1 ≤ g))).getLast?).map (·.2)).getD d.base
  base && (match (if modeOf s = 1 then schedOf s sect else none) with | some (b, es) => schedAt b es g | none => true)

/-- The events of an output under direct control (R218): a command that lies before F was made in an earlier cycle. -/
def dirEvents (s : State) (B : Nat) (o : OutEnt) : List QEnt :=
  let F := B + cycleTicks
  let d := smGet dirInit s.str.direct o.sect
  let edges := match (if modeOf s = 1 then schedOf s o.sect else none) with | some (_, es) => es.map (·.1) | none => []
  let pts := ((d.changes.map (·.1) ++ edges).filter (fun g => decide (B < g))).foldl (fun m g => natIns g m) []
  let delay (on : Bool) : Nat := if on then onDelay s o.out else offDelay s o.out
  let why (on : Bool) : Nat := if on then 0 else match s.cfg.secs.find? (fun x => x.sect == o.sect) with
    | some x => let r := (dirTarget s x).2; if r = 0 then 1 else r
    | none => 1
  let trn := (pts.foldl (fun (m : List (Nat × Bool) × Bool) g =>
    let st := dirState s o.sect g
    if st = m.2 then m else (m.1 ++ [(g, st)], st)) ([], dirState s o.sect B)).1
  let evs := oneTick ((trn.filter (fun x => decide (F + delay x.2 ≤ x.1))).map (fun x =>
    (⟨x.2, x.1 - delay x.2, x.1, 0, 0, false, why x.2⟩ : QEnt)))
  let last := dirState s o.sect (pts.getLast?.getD B)
  let left := (evs.getLast?.map (·.on)).getD (gateAt s o.out F)
  if left = last then evs
  else
    -- the gate follows the last target
    let g := (trn.getLast?.map (·.1)).getD (F + delay last)
    let tick := max F (g - delay last)
    let kept := evs.filter (fun e => decide (e.tick < tick))
    if (kept.getLast?.map (·.on)).getD (gateAt s o.out F) = last then kept
    else kept ++ [⟨last, tick, tick + delay last, 0, 0, false, why last⟩]

/-- The first boundary of direct control (R218): the second after the module left L2. Log 44: DEDUCED. -/
def directFrom (s : State) : Nat := match s.str.leftL2 with | some t => nextBoundary t + cycleTicks | none => 0

/-- Direct section control applies at a boundary (R218). -/
def directDue (s : State) (B : Nat) : Bool :=
  level s == 1 && (s.cfg.geom0.family == .field || s.cfg.geom0.family == .forerunner) && decide (directFrom s ≤ B)

/-- Plan an output under direct control. -/
def planDirect (B : Nat) (o : OutEnt) (s : State) : State :=
  let why := match s.cfg.secs.find? (fun x => x.sect == o.sect) with
    | some x => if dirState s o.sect B then 0 else let r := (dirTarget s x).2; if r = 0 then 1 else r
    | none => 1
  writePlan o.out (B + cycleTicks) (dirEvents s B o) (2 ^ 64) (fun _ _ s => s) (fset s (R.STR_OUT o.out) F.STR_OUT_REASON why)

end Sys2Proof.Machine
end

