-- ==== Sys2Proof/Machine/Commit.lean ====
section
/-!
DEFINITION. Machine/Commit.lean: the commit unit (R170 to R173, R195 to R197): the ground an output has treated in a cycle, the cells its
footprint entered there, the strips that carry them, and the gaps that are reported instead.
-/

namespace Sys2Proof.Machine

/-- Commits take place while the job is in RUN or SUSPENDING (R203, R216). -/
def committing (s : State) : Bool :=
  let st := fget s R.COV_JOB_STATUS F.COV_JOB_STATUS_STATE
  (st == 3 || st == 4) && !fbit s R.COV_JOB_STATUS F.COV_JOB_STATUS_CATCHING_UP

/-! ### Strips -/

/-- Rows of cells: cells in order that follow one another in a row of a tile form a run of at most 256 cells (R196). `vert`: along +j. -/
def runCells (vert : Bool) (cells : List Cell2) : List (Cell2 × Nat) :=
  let key (c : Cell2) : Int × Int := if vert then (c.1, c.2) else (c.2, c.1)
  let ins (c : Cell2) (l : List Cell2) : List Cell2 :=
    let low := l.filter (fun d => decide ((key d).1 < (key c).1 ∨ ((key d).1 = (key c).1 ∧ (key d).2 < (key c).2)))
    low ++ c :: l.filter (fun d => decide (¬ ((key d).1 < (key c).1 ∨ ((key d).1 = (key c).1 ∧ (key d).2 < (key c).2))))
  let sorted := cells.foldl (fun l c => ins c l) []
  (sorted.foldl (fun (l : List (Cell2 × Nat)) c =>
    match l with
    | (h, n) :: rest =>
      let next : Cell2 := if vert then (h.1, h.2 + n) else (h.1 + n, h.2)
      if c = next ∧ tileOf c = tileOf h ∧ n < 256 then (h, n + 1) :: rest else (c, 1) :: l
    | [] => [(c, 1)]) []).reverse

/-- The runs of cells: along +i or along +j, whichever needs fewer (R196). -/
def runsFor (cells : List Cell2) : List (Cell2 × Nat × Bool) :=
  let h := runCells false cells
  let v := runCells true cells
  if v.length < h.length then v.map (fun x => (x.1, x.2, true)) else h.map (fun x => (x.1, x.2, false))

/-- Share runs over strips of at most 4 tiles and 52 runs (R196). Log 41: DEDUCED. -/
def shareRuns (l : List (Cell2 × Nat × Bool)) : List (List Nat × List (Cell2 × Nat × Bool)) :=
  (l.foldl (fun (acc : List (List Nat × List (Cell2 × Nat × Bool))) x =>
    let t := tileOf x.1
    match acc with
    | (ts, rs) :: rest =>
      let ts1 := if ts.contains t then ts else ts ++ [t]
      if rs.length < 52 ∧ ts1.length ≤ 4 then (ts1, rs ++ [x]) :: rest else ([t], [x]) :: acc
    | [] => [([t], [x])]) []).reverse

/-- A strip of one interval (R196). Log 41: DEDUCED. -/
def mkStrip (s : State) (n stamp seq : Nat) (first last : Bool) (x : List Nat × List (Cell2 × Nat × Bool)) : Strip :=
  { pos := posOf s, out := n + 1, first := first, last := last, pairB := midOf s % 2 == 1, seq := seq, stamp := stamp
    jobId := (s.cov.job.map (·.jobId)).getD 0, cell := cellMm s
    tiles := x.1.map (fun t => (t % 1024, t / 1024))
    runs := x.2.map (fun r => ⟨r.1.2.toNat % 256, r.1.1.toNat % 256, r.2.1, x.1.idxOf (tileOf r.1), r.2.2⟩) }

/-- The cells of a strip. -/
def stripCells (x : Strip) : List Cell2 :=
  x.runs.flatMap (fun r =>
    let t := x.tiles.getD r.tile (0, 0)
    (List.range r.len).map (fun k =>
      (((t.1 * 256 + r.col + (if r.vert then 0 else k) : Nat) : Int), ((t.2 * 256 + r.row + (if r.vert then k else 0) : Nat) : Int))))

/-- Numbers of a strip for a message. -/
def stripArgs (x : Strip) : List Int :=
  ([x.pos, x.out, b2n x.first + 2 * b2n x.last + 4 * b2n x.pairB, x.seq, x.stamp, x.jobId, x.cell] : List Nat).map Int.ofNat
    ++ x.tiles.flatMap (fun t => [(t.1 : Int), (t.2 : Int)])
    ++ x.runs.flatMap (fun r => [(r.row : Int), (r.col : Int), (r.len : Int), (r.tile : Int), (b2n r.vert : Int)])

/-! ### Gaps -/

/-- The gap in progress ends and is reported (R173). Log 42: DEDUCED. -/
def gapEnd (n : Nat) (s : State) : State :=
  let o := outSt s n
  match o.gap with
  | none => s
  | some (a, b, c) =>
    let s1 := setOut s n { o with gap := none }
    let s2 := { s1 with cov := { s1.cov with gaps := s1.cov.gaps ++ [(n, a, b)] } }
    fincWrap (raise (gapLease s2) Ev.COMMIT_GAP [n, a, b, c]) R.STR_GAP_CNT F.STR_GAP_CNT_COUNT

/-- Ground ticks a to b cannot be committed for a cause (R173): 0 no pose, 1 chain invalid, 2 the engine not running, 3 direct control,
4 the sequence numbers are used up, 5 strips discarded or lost. Log 42: DEDUCED. -/
def gapAdd (n a b c : Nat) (s : State) : State :=
  let o := outSt s n
  match o.gap with
  | some (a0, _, c0) =>
    if c0 = c then setOut s n { o with gap := some (a0, b, c) }
    else let s1 := gapEnd n s; setOut s1 n { outSt s1 n with gap := some (a, b, c) }
  | none => setOut s n { o with gap := some (a, b, c) }

/-! ### The strips leave -/

/-- A strip leaves over TC3 and enters the resend ring (R196, R199). -/
def stripOut (x : Strip) (s : State) : State :=
  toTeam { s with cov := { s.cov with ring := s.cov.ring ++ [(s.tb, x)] } } MsgKind.COMMIT_STRIP (stripArgs x)

/-- A strip goes to the partner first while there is one (R180), at most 4,096 waiting for its acknowledgement (R353). -/
def stripSend (x : Strip) (s : State) : State :=
  if fget s R.TLK_PAIR_STAT F.TLK_PAIR_STAT_STATE ≠ 1 then stripOut x s
  else if 4096 ≤ s.cov.toAck.length then gapAdd (x.out - 1) x.stamp (x.stamp + cycleTicks - 1) 5 s
  else send { s with cov := { s.cov with toAck := s.cov.toAck ++ [x] } } MsgKind.PL_STRIP (midOf s ^^^ 1) (stripArgs x)

/-- Write an output's entered cells of one interval as strips (R196, R197): they enter the replica at the next boundary (R198). -/
def commitCells (n stamp : Nat) (first : Bool) (cells : List Cell2) (s : State) : State :=
  let parts := shareRuns (runsFor cells)
  forEach parts.zipIdx (fun p s =>
    let seq := fget s (R.COV_SEQ n) F.COV_SEQ_SEQ
    if seq = 2 ^ 32 - 1 then gapAdd n stamp (stamp + cycleTicks - 1) 4 s
    else
      let x := mkStrip s n stamp (seq + 1) (first && p.2 == 0) (p.2 + 1 == parts.length) p.1
      let s1 := fset s (R.COV_SEQ n) F.COV_SEQ_SEQ (seq + 1)
      stripSend x { s1 with cov := { s1.cov with held := s1.cov.held ++ [x] } }) s

/-! ### The commit of a cycle -/

/-- A placement between those of two records (R172): the MRP and the heading by linear interpolation, `d` of 40,000 ticks on. -/
def between (p q : Placing) (d : Nat) : Placing :=
  let k (a b : Int) : Int := a + (b - a) * d / 40000
  let turn := (q.psi - p.psi + 8388608) % 16777216 - 8388608
  ⟨(k p.mrp.1 q.mrp.1, k p.mrp.2 q.mrp.2), p.psi + turn * d / 40000, p.pitch, p.roll⟩

/-- The cells an output enters over a part [a, b) of the ground interval from `from_` (R195): all that the sweep touches where the run
begins there, otherwise without those touched at its first tick. Log 41: DEDUCED. -/
def enteredCells (s : State) (f : FootP) (p q : Placing) (from_ a b : Nat) (new : Bool) : List Cell2 :=
  let x := between p q (a - from_)
  let all := (sweepCells s x (between p q (b - from_)) 0 f).filter (fun c => decide (0 ≤ c.1) && decide (0 ≤ c.2))
  if new then all
  else
    let old := footCells s x 0 f
    all.filter (fun c => !old.contains c)

/-- Why the ground interval before B cannot be committed for an output (R173); none: it can. -/
def gapCause (s : State) (f : FootP) : Option Nat :=
  if s.str.prevGap = 3 then some 3
  else match s.pos.prev, s.pos.cur with
    | some p, some q =>
      if (p.valid && q.valid) = false then some 0
      else if f.ok = false then some 1
      else if s.str.prevGap = 0 then none else some s.str.prevGap
    | _, _ => some 0

/-- Commit one output at the write-back of the cycle at B (R172, R173, R195). Log 41: DEDUCED. -/
def commitOut (B n : Nat) (s : State) : State :=
  let a := B - cycleTicks
  let o := outSt s n
  if committing s = false then
    let s1 := gapEnd n s
    setOut s1 n { outSt s1 n with doneTo := B, applied := false }
  else
    let missed := if o.doneTo < a then groundIn s n o.doneTo a else []
    let s1 := match missed.head?, missed.getLast? with
      | some x, some y => gapAdd n x.1 (y.2 - 1) 2 s
      | _, _ => s
    let parts := groundIn s n a B
    let f := smGet (fun _ => ⟨.arc, 0, 0, 0, 0, 0, false⟩) s.str.prevFoots n
    let s2 := match parts.head?, parts.getLast? with
      | some x, some y =>
        (match gapCause s f, s.pos.prev, s.pos.cur with
        | none, some p, some q =>
          let pl := placeAt p (sinceRec p a 0)
          let ql := placeAt q (sinceRec q B 0)
          let new (i : Iv) : Bool := decide (a < i.1) || !o.applied || !missed.isEmpty
          let cells := (parts.flatMap (fun i => enteredCells s f pl ql a i.1 i.2 (new i))).eraseDups
          commitCells n a (new x) cells (gapEnd n s1)
        | c, _, _ => gapAdd n x.1 (y.2 - 1) (c.getD 0) s1)
      | _, _ => gapEnd n s1
    setOut s2 n { outSt s2 n with doneTo := B, applied := (match parts.getLast? with | some y => y.2 == B | none => false) }

/-- The commits of a cycle (R172): every output under the engine, then the marks whose ground time has passed and the evidence no longer
needed. -/
def commitAll (B : Nat) (s : State) : State :=
  forEach (strideOuts s) (fun o s =>
    let n := o.out
    let s1 := if o.role = .stall then doseCount n B s else commitOut B n s
    let s2 := provPass n B s1
    let from_ := B - cycleTicks
    let o := outSt s2 n
    setOut s2 n { o with
      evid := evTrim s2 n from_ o.evid
      mate := o.mate.filter (fun x => match x.2 with | some e => decide (from_ < e + evReach s2 n o.evid) | none => true) }) s

end Sys2Proof.Machine
end

