-- ==== Sys2Proof/Machine/Lease.lean ====
section
/-!
DEFINITION. Machine/Lease.lean: hire leases as they are counted and ended (R403, R404).
-/

namespace Sys2Proof.Machine

/-- State of a lease's register: 0 EMPTY, 1 INSTALLED, 2 ACTIVE, 3 EXPIRED, 4 EXHAUSTED, 5 REVOKED, 6 CLOSED. -/
def leaseState (s : State) (m : Nat) : Nat := fget s (R.BRD_HIRE_STAT m) F.BRD_HIRE_STAT_STATE

/-- A lease held. -/
def leaseAt (s : State) (m : Nat) : Option LeaseSt := (s.brd.leases.find? (fun x => x.1 == m)).map (·.2)

/-- Record it, with its counts (R403, R414). -/
def setLease (m : Nat) (l : LeaseSt) (s : State) : State :=
  let s1 := { s with brd := { s.brd with leases := smIns m l s.brd.leases } }
  rsetN (rsetN s1 (R.BRD_HIRE_AREA m) (min (2 ^ 32 - 1) (l.area / 1000000))) (R.BRD_HIRE_VOL m)
    (min (2 ^ 32 - 1) (((l.vols.head?).map (·.2)).getD 0 / 10 ^ 12))

/-- JOB_ID of the loaded job. -/
def jobNow (s : State) : Nat := (s.cov.job.map (·.jobId)).getD 0

/-- The job enters RUN: what ended leases counted of its last run is over (R403). -/
def leaseAnew (s : State) : State :=
  { s with brd := { s.brd with
    leases := s.brd.leases.map (fun x => (x.1, { x.2 with tail := false })), sums := s.brd.sums.map (fun y => { y with st := { y.st with tail := false } }) } }

/-- A summary is signed (R404). -/
def leaseSummary (m : Nat) (l : LeaseSt) (st : Nat) (s : State) : State :=
  let x : LeaseSum := ⟨l.lease.leaseId, l.lease.livery, l, fbit s (R.BRD_HIRE_STAT m) F.BRD_HIRE_STAT_OVER, st⟩
  { s with brd := { s.brd with sums := s.brd.sums.filter (fun y => !(y.leaseId == x.leaseId && y.livery == x.livery)) ++ [x] } }

/-- A lease ends (R403, R404): the leader suspends a job under it that is in RUN, at a boundary at least 10 cycles ahead. -/
def leaseEnd (m st : Nat) (s : State) : State :=
  match leaseAt s m with
  | none => s
  | some l0 =>
    let l := { l0 with tail := l0.tail || (jobRun s && l0.lease.jobs.contains (jobNow s)) }
    let s1 := leaseSummary m l st (fset (setLease m l s) (R.BRD_HIRE_STAT m) F.BRD_HIRE_STAT_STATE st)
    if isLeader s1 ∧ jobRun s1 ∧ l.lease.jobs.contains (jobNow s1) then
      { s1 with cov := { s1.cov with suspAt := some (boundaryFrom (s.tb + 10 * cycleTicks)) } }
    else s1

/-- Rate code, EXP + 3 and product unit of the output a strip comes from, at the commit (R403): a strip does not carry them, so of another
position's output they are open. Log 56: DEDUCED. -/
def stripRate (s : State) (x : Strip) : Nat × Nat × Nat :=
  if x.pos = posOf s then
    match outEnt s (x.out - 1) with
    | some o =>
      let lay := s.cov.job.bind (fun j => (s.cfg.secs.find? (fun y => y.sect == o.sect)).bind (fun y =>
        (j.secRx.find? (fun r => r.1 == y.team)).bind (fun r => r.2.1.bind (fun k => j.layers[k]?))))
      (fget s (R.STR_RATE (x.out - 1)) F.STR_RATE_RATE, ((lay.map (·.exp)).getD (-3) + 3).toNat, (lay.map (·.unit)).getD 0)
    | none => (0, 0, 0)
  else Config.stripRate x.pos x.out x.seq

/-- Add to the volume of a product unit. Log 56: DEDUCED. -/
def volAdd (u v : Nat) : List (Nat × Nat) → List (Nat × Nat)
  | [] => [(u, v)]
  | (u', v') :: l => if u' = u then (u', v' + v) :: l else (u', v') :: volAdd u v l

/-- A bound of a lease is reached (R403). -/
def leaseFull (l : LeaseSt) : Bool :=
  decide (l.lease.areaMax * 1000000 ≤ l.area) ||
    l.lease.vols.any (fun b => decide (b.2 * 10 ^ 12 ≤ ((l.vols.find? (fun v => v.1 == b.1)).map (·.2)).getD 0))

/-- The leader counts the cells of a strip under a lease that is ACTIVE, or that has ended while the job still runs (R403). Log 56: DEDUCED. -/
def leaseCount (x : Strip) (cells m : Nat) (s : State) : State :=
  match leaseAt s m with
  | none => s
  | some l =>
    let st := leaseState s m
    if l.lease.jobs.contains x.jobId = false ∨ st < 2 ∨ (2 < st ∧ l.tail = false) then s
    else
      let r := stripRate s x
      let area := cells * (cellMm s * cellMm s)
      let t : Int := (s.tb : Int) * 32 + ttOfsI s
      let l1 := { l with
        area := l.area + area, vols := volAdd r.2.2 (area * r.1 * 10 ^ r.2.1) l.vols
        firstT := some (l.firstT.getD t), lastT := some t, jobs := if l.jobs.contains x.jobId then l.jobs else l.jobs ++ [x.jobId] }
      let s1 := setLease m l1 s
      if leaseFull l1 = false then s1
      else if st = 2 then leaseEnd m 4 s1
      else leaseSummary m l1 st (fsetb s1 (R.BRD_HIRE_STAT m) F.BRD_HIRE_STAT_OVER true)

/-- Cells committed under a lease are counted where the strip is merged (R403). Log 56: DEDUCED. -/
def leaseMerge (x : Strip) (cells : Nat) (s : State) : State :=
  if isLeader s then forN 8 (leaseCount x cells) s else s

end Sys2Proof.Machine
end

