-- ==== Sys2Proof/Machine/Coverage.lean ====
section
/-!
DEFINITION. Machine/Coverage.lean: the merge of commit strips, holes and resends, catch-up (R198 to R200), the map cache (R186, R187) and
the life of a job from load to export (R185, R188 to R193, R201 to R206).
-/

namespace Sys2Proof.Machine

/-- COV_JOB_STATUS.STATE: 0 NONE, 1 LOADING, 2 LOADED, 3 RUN, 4 SUSPENDING, 5 SUSPENDED, 6 CLOSING, 7 ERROR. -/
def jobState (s : State) : Nat := fget s R.COV_JOB_STATUS F.COV_JOB_STATUS_STATE

/-- Set it. -/
def setJobState (n : Nat) (s : State) : State := fset s R.COV_JOB_STATUS F.COV_JOB_STATUS_STATE n

/-- COV_JOB_STATUS.ERR. -/
def setJobErr (n : Nat) (s : State) : State := fset s R.COV_JOB_STATUS F.COV_JOB_STATUS_ERR n

/-! ### Merging -/

/-- Key of SEQTAB (R198). -/
def seqKey (pos out : Nat) : Nat := pos * 128 + out

/-- An output from which nothing has been merged. -/
def seqInit : Nat → SeqEnt := fun _ => ⟨0, 0⟩

/-- SEQTAB of a key. -/
def seqOf (s : State) (k : Nat) : SeqEnt := smGet seqInit s.cov.seqTab k

/-- Close up behind LAST (R198). -/
def closeUp : Nat → SeqEnt → SeqEnt
  | 0, e => e
  | n + 1, e => if e.win % 2 = 1 then closeUp n ⟨e.last + 1, e.win / 2⟩ else e

/-- Mark a SEQ at distance d above LAST as merged. -/
def seqMark (e : SeqEnt) (d : Nat) : SeqEnt := closeUp 65 ⟨e.last, setBit e.win (d - 1) true⟩

/-- Record a key's entry. -/
def setSeq (k : Nat) (e : SeqEnt) (s : State) : State := { s with cov := { s.cov with seqTab := smSet seqInit k e s.cov.seqTab } }

/-- A strip is foreign (R198): of another job or cell size, or from before the job's start. -/
def foreign (s : State) (x : Strip) : Bool :=
  match s.cov.job, s.cov.startAt with
  | some j, some t => x.jobId != j.jobId || x.cell != j.cell || decide (x.stamp < t)
  | _, _ => true

/-- One committed cell (R183, R198). -/
def mergeCell (stamp : Nat) (c : Cell2) (s : State) : State :=
  if inExtent s c = false then fincWrap s R.COV_OUTSIDE F.COV_OUTSIDE_COUNT
  else if excluded s c then
    (if tileAlloc s (tileOf c) then fincWrap s R.COV_EXCL_HIT F.COV_EXCL_HIT_COUNT else fincWrap s R.COV_OUTSIDE F.COV_OUTSIDE_COUNT)
  else
    let k := cellKey c
    let v := smGet zero s.cov.code k
    let t := tileOf c
    let cov1 := { s.cov with
      code := if v < 2 then smSet zero k (v + 1) s.cov.code else s.cov.code
      dirty := if v < 2 ∧ s.cov.dirty.contains t = false then s.cov.dirty ++ [t] else s.cov.dirty }
    stampCell c stamp { s with cov := cov1 }

/-- The SEQs of a key that are holes now (R199): above LAST, not merged and not queued, with a higher one merged or queued. -/
def holesOf (s : State) (k : Nat) : List Nat :=
  let e := seqOf s k
  let queued := (s.cov.early.filter (fun x => seqKey x.pos x.out == k)).map (·.seq)
  let inWin (q : Nat) : Bool := decide (e.last < q ∧ q ≤ e.last + 64) && bitOf e.win (q - e.last - 1)
  let top := (queued ++ ((List.range 64).filter (fun d => bitOf e.win d)).map (fun d => e.last + 1 + d)).foldl max e.last
  ((List.range (top - e.last)).map (fun d => e.last + 1 + d)).filter (fun q => !inWin q && !queued.contains q)

/-- Bring the list of holes of a key up to date: a new hole opens now. -/
def holesUpdate (k : Nat) (s : State) : State :=
  let now := holesOf s k
  let others := s.cov.holes.filter (fun h => h.1 / 4294967296 != k)
  let mine := now.map (fun q =>
    let id := k * 4294967296 + q
    (id, ((s.cov.holes.find? (fun h => h.1 == id)).map (·.2)).getD s.tb))
  { s with cov := { s.cov with holes := others ++ mine } }

/-- Merge a strip that lies within the window (R198). -/
def mergeIn (x : Strip) (s : State) : State :=
  let k := seqKey x.pos x.out
  let e := seqOf s k
  let cells := stripCells x
  let s1 := forEach cells (mergeCell x.stamp) s
  fincWrap (leaseMerge x cells.length (setSeq k (seqMark e (x.seq - e.last)) s1)) R.COV_MERGED F.COV_MERGED_COUNT

/-- Merge the queued strips of a key that have come within 64 of LAST (R198). -/
def mergeQueued (k : Nat) : Nat → State → State
  | 0, s => s
  | n + 1, s =>
    let e := seqOf s k
    match s.cov.early.find? (fun x => seqKey x.pos x.out == k && decide (x.seq ≤ e.last + 64)) with
    | none => s
    | some x =>
      let s1 := { s with cov := { s.cov with early := removeFirst (· == x) s.cov.early } }
      mergeQueued k n (if e.last < x.seq ∧ bitOf e.win (x.seq - e.last - 1) = false then mergeIn x s1
        else fincWrap s1 R.COV_DUP F.COV_DUP_COUNT)

/-- A hole is given up (R199): treated as merged with no cells. -/
def holeGiveUp (k q : Nat) (s : State) : State :=
  let e := seqOf s k
  let s1 := if e.last < q ∧ q ≤ e.last + 64 then setSeq k (seqMark e (q - e.last)) s else s
  let s2 := raise (fincWrap s1 R.COV_HOLE F.COV_HOLE_COUNT) Ev.REPLICA_HOLE [k / 128, k % 128, q]
  holesUpdate k (mergeQueued k s2.cov.early.length s2)

/-- The open hole of the lowest SEQ of any key (R199). -/
def lowestHole (s : State) : Option (Nat × Nat) :=
  (s.cov.holes.map (fun h => (h.1 / 4294967296, h.1 % 4294967296))).foldl (fun m h =>
    match m with
    | some x => if h.2 < x.2 then some h else some x
    | none => some h) none

/-- While the overflow queue is full, the lowest open hole is given up (R199). Log 42: DEDUCED. -/
def makeRoom : Nat → State → State
  | 0, s => s
  | n + 1, s =>
    if s.cov.early.length < 4096 then s
    else match lowestHole s with
      | some h => makeRoom n (holeGiveUp h.1 h.2 s)
      | none => s

/-- Merge one strip into the replica (R198). -/
def mergeStrip (x : Strip) (s : State) : State :=
  let k := seqKey x.pos x.out
  let e := seqOf s k
  if foreign s x then fincWrap s R.COV_FOREIGN F.COV_FOREIGN_COUNT
  else if x.seq ≤ e.last ∨ (x.seq ≤ e.last + 64 ∧ bitOf e.win (x.seq - e.last - 1)) then fincWrap s R.COV_DUP F.COV_DUP_COUNT
  else if e.last + 64 < x.seq then
    let s1 := makeRoom s.cov.holes.length s
    let s2 := { s1 with cov := { s1.cov with early := s1.cov.early ++ [x] } }
    holesUpdate k (mergeQueued k s2.cov.early.length s2)
  else
    let s1 := mergeIn x s
    holesUpdate k (mergeQueued k s1.cov.early.length s1)

/-- Commit-merge slots a strip takes (R199): 4 for cells within 2 blocks of 256 bytes, which are 4 rows of a tile, more in proportion. Log 42: DEDUCED. -/
def stripCost (x : Strip) : Nat :=
  max 4 (2 * ((stripCells x).map (fun c => tileOf c * 64 + c.2.toNat % 256 / 4)).eraseDups.length)

/-- Merge strips in order of arrival while slots last (R199). Log 42: DEDUCED. -/
def mergeSome : List Strip → Nat → State → List Strip × State
  | [], _, s => ([], s)
  | x :: l, n, s => if stripCost x ≤ n then mergeSome l (n - stripCost x) (mergeStrip x s) else (x :: l, s)

/-- COV_LAG. -/
def showLag (s : State) : State :=
  fset (fset s R.COV_LAG F.COV_LAG_BACKLOG (min 65535 s.cov.held.length)) R.COV_LAG F.COV_LAG_QUEUED s.cov.early.length

/-- Catching up (R200). -/
def catching (s : State) : Bool := fbit s R.COV_JOB_STATUS F.COV_JOB_STATUS_CATCHING_UP

/-- The merge at a boundary (R168, R198, R199): 160 slots of a cycle; what waits is merged later. A joiner holds its strips (R200). Log 42: DEDUCED. -/
def mergeBoundary (s : State) : State :=
  if catching s then showLag s
  else
    let p := mergeSome s.cov.held 160 { s with cov := { s.cov with held := [] } }
    let keep := p.2.cov.ring.filter (fun x => decide (s.tb ≤ x.1 + 10 * secTicks))
    showLag (fsetb { p.2 with cov := { p.2.cov with held := p.1, ring := keep } } R.COV_JOB_STATUS F.COV_JOB_STATUS_MERGE_LAG (!p.1.isEmpty))

/-- COMMIT_STRIP (R198): held for the merge at the next boundary. A joiner whose hold overflows asks for a new S (R200). -/
def execCommitStrip (x : Strip) (s : State) : Out :=
  .next (if catching s ∧ 65536 ≤ s.cov.held.length then
      toLeader { s with cov := { s.cov with held := [] } } MsgKind.CATCH_UP_RESTART [midOf s]
    else showLag { s with cov := { s.cov with held := s.cov.held ++ [x] } })

/-- The stamp at which a hole opened. -/
def holeSince (s : State) (pos out seq : Nat) : Option Nat :=
  (s.cov.holes.find? (fun h => h.1 == seqKey pos out * 4294967296 + seq)).map (·.2)

/-- HOLE_RESEND (R199): open for 500 ms. -/
def execHoleResend (pos : Fin 32) (out : Fin 128) (seq : Nat) (s : State) : Out :=
  .next (match holeSince s pos.val out.val seq with
    | some t => if t + msTicks 500 ≤ s.tb then forEach ((otherMembers s).filter (fun m => m / 2 == pos.val))
        (fun m s => send s MsgKind.RESEND m [pos.val, out.val, seq]) s
      else s
    | none => s)

/-- RESEND_REQUEST (R199): answered from the resend ring of the last 10 s, by the driving module or its partner. -/
def execResendRequest (m : Fin 64) (out : Fin 128) (seq : Nat) (s : State) : Out :=
  .next (match s.cov.ring.find? (fun x => x.2.out == out.val && x.2.seq == seq && decide (s.tb ≤ x.1 + 10 * secTicks)) with
    | some x => send s MsgKind.COMMIT_STRIP m.val (stripArgs x.2)
    | none => s)

/-- REPLICA_HOLE (R199): open for 10 s. A hole further than 64 above LAST is given up once the window reaches it. Log 42: DEDUCED. -/
def execReplicaHole (pos : Fin 32) (out : Fin 128) (seq : Nat) (s : State) : Out :=
  .next (match holeSince s pos.val out.val seq with
    | some t => if t + 10 * secTicks ≤ s.tb ∧ seq ≤ (seqOf s (seqKey pos.val out.val)).last + 64 then holeGiveUp (seqKey pos.val out.val) seq s
      else s
    | none => s)

/-! ### The map cache -/

/-- A tile and its eight neighbours (R186). -/
def neighbours (s : State) (t : Nat) : List Nat :=
  (intRange (-1) 1).flatMap (fun dy => (intRange (-1) 1).filterMap (fun dx =>
    let x : Int := (t % 1024 : Nat) + dx
    let y : Int := (t / 1024 : Nat) + dy
    if 0 ≤ x ∧ 0 ≤ y ∧ x < s.cov.tx ∧ y < s.cov.ty then some (x.toNat + y.toNat * 1024) else none))

/-- The want set of a boundary (R186): the tiles touched over the spans of the cycle just ended, those at which a span ended with MAP_MISS,
and their neighbours, each with the earliest ground time. -/
def wantBoundary (s : State) : State :=
  let base := (strideOuts s).flatMap (fun o => match (outSt s o.out).sweep with
    | some w => w.want ++ (match w.miss with | some t => [(t, w.span)] | none => [])
    | none => [])
  let all := base.flatMap (fun x => (neighbours s x.1).map (fun t => (t, x.2)))
  let want := all.foldl (fun (m : List (Nat × Nat)) x =>
    if m.any (fun y => y.1 == x.1) then m.map (fun y => if y.1 = x.1 then (y.1, min y.2 x.2) else y) else m ++ [x]) []
  { s with str := { s.str with
      want := want
      cache := s.str.cache.filter (fun t => !want.any (fun x => x.1 == t)) ++ s.str.cache.filter (fun t => want.any (fun x => x.1 == t)) } }

/-- A tile is pinned (R187): wanted, or touched by a queued ON run. -/
def pinned (s : State) (t : Nat) : Bool :=
  s.str.want.any (fun x => x.1 == t) || s.str.outs.any (fun o => o.2.runs.any (fun r => r.cells.any (fun c => tileOf (keyCell c.1) == t)))

/-- Tiles the map cache holds (R186), one fewer for each of its macros with a fenced row (R426). Log 25: DEDUCED. -/
def cacheRoom (s : State) : Nat := 256 - ((s.far.fenced.map (·.1)).eraseDups.filter Config.cacheMacro).length

/-- Wanted tiles that are missing from the cache. -/
def tilesMissing (s : State) : List (Nat × Nat) := s.str.want.filter (fun x => !s.str.cache.contains x.1 && tileAlloc s x.1)

/-- TILE_FILL (R186, R187): the missing tile of the earliest ground time is filled; the unpinned tile wanted least recently makes room. -/
def execTileFill (t : Fin 1048576) (s : State) : Out :=
  .next (
    let miss := tilesMissing s
    if miss.any (fun x => x.1 == t.val && miss.all (fun y => decide (x.2 ≤ y.2))) = false then s
    else
      let cache := if s.str.cache.length < cacheRoom s then some s.str.cache
        else (s.str.cache.find? (fun x => !pinned s x)).map (fun x => s.str.cache.filter (· != x))
      match cache with
      | some l => fset { s with str := { s.str with cache := l ++ [t.val] } } R.COV_TILES F.COV_TILES_CACHED (l.length + 1)
      | none => s)

/-! ### Catch-up -/

/-- The codes of a tile in the replica, by cell of the tile: what has been committed, and the cells that exclusions added since the load set to 11b. Log 42: DEDUCED. -/
def tileCodes (s : State) (t : Nat) : List (Nat × Nat) :=
  let at_ (c : Cell2) : Nat := c.1.toNat % 256 + c.2.toNat % 256 * 256
  let gone := if s.cov.added = [] then [] else (tileCells t).filter (fun c =>
    let p := cellCorner s c
    s.cov.added.any (exclBy p.1 p.2 (cellMm s)))
  ((s.cov.code.filter (fun x => tileOf (keyCell x.1) == t)).filter (fun x => !gone.contains (keyCell x.1))).map (fun x => (at_ (keyCell x.1), x.2))
    ++ gone.map (fun c => (at_ c, 3))

/-- The leader sends a joiner the tick at which the job entered RUN, its sequence table and every allocated tile as of S (R200). Log 42: DEDUCED. -/
def catchUpFor (m : Nat) (s : State) : State :=
  let S := boundaryAt s.tb
  let tab := s.cov.seqTab.flatMap (fun e => [(e.1 : Int), (e.2.last : Int), (e.2.win : Int)])
  let s1 := send { s with cov := { s.cov with catchFor := some (m, S) } } MsgKind.CATCH_UP_SEQ_TABLE m
    ((S : Int) :: (match s.cov.startAt with | some t => (t : Int) | none => -1) :: tab)
  forEach ((extentTiles s).filter (tileAlloc s)) (fun t s =>
    send s MsgKind.CATCH_UP_TILE m ((t : Int) :: (tileCodes s t).flatMap (fun x => [(x.1 : Int), (x.2 : Int)]))) s1

/-- CATCH_UP_START (R200). -/
def execCatchUpStart (m : Fin 64) (s : State) : Out :=
  .next (if isLeader s ∧ s.cov.job.isSome ∧ m.val ∈ otherMembers s then catchUpFor m.val s else s)

/-- The joiner discards its replica and clears its section enables (R200). Log 42: DEDUCED. -/
def catchUpBegin (s : State) : State :=
  fsetb { s with cov := { s.cov with code := [], seqTab := [], early := [], holes := [] } } R.COV_JOB_STATUS
    F.COV_JOB_STATUS_CATCHING_UP true

/-- The last SEQ a table entry knows. Log 42: DEDUCED. -/
def seqTop (e : SeqEnt) : Nat := ((List.range 64).filter (fun d => bitOf e.win d)).foldl (fun m d => max m (e.last + 1 + d)) e.last

/-- This position's own SEQ counters continue from a table (R200); strips it sent that the table does not hold are lost, and their ground is
written as COMMIT_GAP. -/
def ownSeqs (s : State) : State :=
  forN 96 (fun n s =>
    let top := seqTop (seqOf s (seqKey (posOf s) (n + 1)))
    let lost := (s.cov.ring.map (·.2)).filter (fun x => x.out == n + 1 && decide (top < x.seq))
    let s1 := match lost.head?, lost.getLast? with
      | some a, some b => gapEnd n (gapAdd n a.stamp (b.stamp + cycleTicks - 1) 5 s)
      | _, _ => s
    fset s1 (R.COV_SEQ n) F.COV_SEQ_SEQ top) s

/-- CATCH_UP_SEQ_TABLE (R200). Log 42: DEDUCED. -/
def execCatchUpSeqTable (S : Nat) (start : Option Nat) (tab : List (Nat × SeqEnt)) (s : State) : Out :=
  .next (if s.cov.job = none ∨ isLeader s then s
    else
      let s1 := catchUpBegin s
      let t := tab.foldl (fun m e => smSet seqInit e.1 e.2 m) []
      ownSeqs { s1 with cov := { s1.cov with seqTab := t, catchS := S, startAt := start } })

/-- Put a tile's codes into the replica: cell of the tile, code 1 to 3. -/
def putTile (t : Nat) (codes : List (Nat × Nat)) (s : State) : State :=
  let key (k : Nat) : Nat := t % 1024 * 256 + k % 256 + (t / 1024 * 256 + k / 256 % 256) * 262144
  let base := s.cov.code.filter (fun x => tileOf (keyCell x.1) != t)
  { s with cov := { s.cov with
      code := codes.foldl (fun m x => smSet zero (key x.1) (min 3 x.2) m) base
      dirty := if s.cov.dirty.contains t then s.cov.dirty else s.cov.dirty ++ [t] } }

/-- CATCH_UP_TILE (R200, R204): a tile arrives; after the last, the held strips are merged and the sections take part from the next
boundary. A tile fetched after a failed load arrives in the same way. -/
def execCatchUpTile (t : Fin 1048576) (codes : List (Nat × Nat)) (last : Bool) (s : State) : Out :=
  .next (
    if s.cov.fetch.contains t.val then
      faultOver (putTile t.val codes { s with cov := { s.cov with fetch := s.cov.fetch.filter (· != t.val) } }) Ev.TILE_RELOAD [t.val]
    else if catching s = false then s
    else
      let s1 := putTile t.val codes s
      if last = false then s1
      else
        let s2 := forEach s1.cov.held mergeStrip { s1 with cov := { s1.cov with held := [] } }
        showLag (fsetb s2 R.COV_JOB_STATUS F.COV_JOB_STATUS_CATCHING_UP false))

/-! ### Checks of a job -/

/-- Do two edges cross (R188)? Each has its ends strictly on the two sides of the other: edges that touch at a vertex or overlap along a line do not
count. Log 70: DESIGN CHOICE. -/
def segsCross (e f : Pt × Pt) : Bool :=
  let sgn (x : Int) : Int := if 0 < x then 1 else if x < 0 then -1 else 0
  let a := sgn (cross e.1 e.2 f.1)
  let b := sgn (cross e.1 e.2 f.2)
  let c := sgn (cross f.1 f.2 e.1)
  let d := sgn (cross f.1 f.2 e.2)
  decide (a * b < 0) && decide (c * d < 0)

/-- Vertices of a polygon. -/
def polySize (p : Poly) : Nat := (p.outer :: p.inner).foldl (fun n r => n + r.length) 0

/-- A number of 32 bits with its sign, as field-frame millimetres are (R10). -/
def fieldMm (v : Int) : Bool := decide (-2147483648 ≤ v) && decide (v ≤ 2147483647)

/-- A polygon keeps R188: at least 3 vertices a ring, all of 32 bits, no crossing edges, inner rings within the outer, at most 65,536 vertices. Log 70: DESIGN CHOICE. -/
def polyOk (p : Poly) : Bool :=
  (p.outer :: p.inner).all (fun r => r.all (fun v => fieldMm v.1 && fieldMm v.2)) &&
  let es := (p.outer :: p.inner).flatMap ringEdges
  (p.outer :: p.inner).all (fun r => decide (3 ≤ r.length)) && decide (polySize p ≤ 65536) && decide (p.buf ≤ 50000)
    && !es.any (fun e => es.any (segsCross e))
    && p.inner.all (fun r => r.all (fun v => inRing p.outer v || (ringEdges p.outer).any (fun e => segNear e.1 e.2 v.1 v.2 0 0)))

/-- The extent of a job (R185): corner and tiles. -/
def extentOf (j : JobDef) : Int × Int × Nat × Nat :=
  let bx := bounds (j.boundary.outer.map (·.1))
  let byy := bounds (j.boundary.outer.map (·.2))
  let c : Int := j.cell
  let n (a b : Int) : Nat := ((b - a + 2 * c + 256 * c - 1) / (256 * c)).toNat
  (bx.1 - c, byy.1 - c, n bx.1 bx.2, n byy.1 byy.2)

/-- Put a job's extent in force. -/
def withExtent (j : JobDef) (s : State) : State :=
  let e := extentOf j
  { s with cov := { s.cov with job := some j, x0 := e.1, y0 := e.2.1, tx := e.2.2.1, ty := e.2.2.2, added := [] } }

/-- The polygons of a job. -/
def jobPolys (j : JobDef) : List Poly := j.boundary :: j.excl ++ j.layers.flatMap (fun l => l.zones.map (·.1))

/-- A layer keeps R191. Log 70: DESIGN CHOICE. -/
def layerOk (l : Layer) : Bool :=
  let g := layerGrid l
  fieldMm l.ox && fieldMm l.oy && decide (500 ≤ l.g ∧ l.g ≤ 20000) && decide (1 ≤ g.2.2.1 ∧ g.2.2.1 ≤ 4096) && decide (1 ≤ g.2.2.2 ∧ g.2.2.2 ≤ 4096)
    && decide (-3 ≤ l.exp ∧ l.exp ≤ 3) && decide (l.dflt < 65536) && decide (l.unit < 256)
    && l.codes.all (fun x => decide (x.2 < 65536)) && l.zones.all (fun z => decide (z.2 < 65536))

/-- The sections of this module are mapped to layers of their products (R193). -/
def rxOk (s : State) (j : JobDef) : Bool :=
  s.cfg.secs.all (fun x => match j.secRx.find? (fun r => r.1 == x.team) with
    | none => false
    | some (_, none, _) => true
    | some (_, some k, _) => match j.layers[k]? with
      | some l => s.cfg.outs.all (fun o => !(strideRole o && o.sect == x.sect) || o.unit == l.unit)
      | none => false)

/-- MARK_AGE suffices for every output of every section (R157). -/
def markAgeOk (s : State) (j : JobDef) : Bool :=
  s.cfg.secs.all (fun x => s.cfg.outs.all (fun o => !(strideRole o && o.sect == x.sect)
    || decide ((o.d + 2 * j.cell) * 1000 + 100 * x.par.vMin ≤ markAge s * 50 * x.par.vMin)))

/-- Tiles the map region holds (R185), fewer once the reserve of DRAM pages is used up (R426). Log 25: DEDUCED. -/
def mapRoom (s : State) : Nat := 65536 - s.far.pagesLost

/-- The error a load ends in, 0 none (R185, R188, R191, R193, R157, COV_JOB_STATUS.ERR). A job beyond the numbers of R188 ends in JOB_POLY too, which the
rule names for faults of shape. Log 43: DEDUCED. Log 70: DESIGN CHOICE. -/
def loadError (s : State) (j : JobDef) : Nat :=
  let e := extentOf j
  let s1 := withExtent j s
  if j.found = false then 1
  else if j.keyOk = false then 2
  else if j.cell < 20 ∨ 500 < j.cell ∨ e.2.2.1 < 1 ∨ e.2.2.2 < 1 ∨ 1024 < e.2.2.1 ∨ 1024 < e.2.2.2 ∨ 262144 < e.2.2.1 * e.2.2.2 ∨
      (mapRoom s < e.2.2.1 * e.2.2.2 ∧ mapRoom s < ((extentTiles s1).filter (tileAlloc s1)).length) then 3
  else if (jobPolys j).all polyOk = false ∨ 4096 < j.excl.length ∨ 1048576 < ((jobPolys j).map polySize).foldl (· + ·) 0 then 4
  else if 8 < j.layers.length ∨ j.secRx.all (fun r => decide (r.2.2 < 65536)) = false ∨ j.layers.all layerOk = false ∨
      100663296 < (j.layers.map (fun l => (layerGrid l).2.2.1 * (layerGrid l).2.2.2)).foldl (· + ·) 0 ∨ rxOk s j = false then 5
  else if markAgeOk s j = false then 6
  else 0

/-! ### Loading -/

/-- The map cache, the provisional layer and the recent plane without a job. -/
def mapClear (s : State) : State :=
  let str1 := { s.str with prov := [], provTiles := [], old := [], stamp := [], recTiles := [], cache := [], want := [] }
  fset { s with str := str1 } R.COV_TILES F.COV_TILES_CACHED 0

/-- The registers of a loaded job (R207), or of none. -/
def showJob (s : State) : State :=
  let c := s.cov
  let s1 := rsetN s R.COV_JOB_ID ((c.job.map (·.jobId)).getD 0)
  let s2 := match c.job with
    | some j =>
      let g := fset (fset (fset s1 R.COV_GRID F.COV_GRID_CELL j.cell) R.COV_GRID F.COV_GRID_TX c.tx) R.COV_GRID F.COV_GRID_TY c.ty
      rsetN (rsetN g R.COV_X0 (bitsOf 32 c.x0)) R.COV_Y0 (bitsOf 32 c.y0)
    | none => rsetN (rsetN (rsetN s1 R.COV_GRID 0) R.COV_X0 0) R.COV_Y0 0
  forN 8 (fun k s =>
    match c.job.bind (fun j => j.layers[k]?) with
    | none => rsetN s (R.COV_LAYER k) 0
    | some l =>
      let w := fsetW (fsetW 0 F.COV_LAYER_G l.g) F.COV_LAYER_EXP (bitsOf 3 l.exp)
      rset s (R.COV_LAYER k) (fsetW (fsetW w F.COV_LAYER_VALID 1) F.COV_LAYER_UNIT l.unit)) s2

/-- No job: NONE. -/
def jobNone (s : State) : State :=
  let cov1 := { s.cov with
    job := none, code := [], added := [], polys := [], acks := [], exclAt := [], seqTab := [], held := [], early := [], holes := [], ring := []
    toAck := [], startAt := none, hashOk := [], hashBad := [], runAt := none, catchFor := none, dirty := [], fetch := [], gaps := [], tlog := [] }
  let s1 := showLag (showJob (mapClear { s with cov := cov1 }))
  let s2 := forN 96 (fun n s => rsetN s (R.COV_SEQ n) 0) s1
  setJobState 0 (fsetb (fsetb s2 R.COV_JOB_STATUS F.COV_JOB_STATUS_CATCHING_UP false) R.COV_JOB_STATUS F.COV_JOB_STATUS_MERGE_LAG false)

/-- A stored tile that fails its check is fetched from another member; where no member holds it, it is rebuilt (R204). -/
def badTile (t : Nat) (s : State) : State :=
  let s1 := { s with cov := { s.cov with code := s.cov.code.filter (fun x => tileOf (keyCell x.1) != t) } }
  if otherMembers s = [] then fsetb (fault s1 Ev.TILE_LOST [t]) R.COV_JOB_STATUS F.COV_JOB_STATUS_COV_LOST true
  else toLeader (fault { s1 with cov := { s1.cov with fetch := s1.cov.fetch ++ [t] } } Ev.TILE_RELOAD [t]) MsgKind.TILE_REQUEST [t]

/-- A job passes its checks and is loaded, with the replica stored for it (R201, R204). Log 43: DEDUCED. -/
def jobLoaded (j : JobDef) (s : State) : State :=
  let mine := (s.cov.storedJob.map (·.jobId)) == some j.jobId
  let s1 := mapClear (withExtent j s)
  let cov1 := { s1.cov with
    code := if mine then s.cov.storedCode else []
    seqTab := if mine then s.cov.storedSeq else []
    startAt := none, held := [], early := [], holes := [], ring := [], toAck := [], dirty := []
    gaps := if mine then s.cov.storedGaps else []
    tlog := if mine then s.cov.storedLog else [] }
  let s2 := forEach j.badTiles badTile { s1 with cov := cov1 }
  let s3 := forN 96 (fun n s => fset s (R.COV_SEQ n) F.COV_SEQ_SEQ (seqTop (seqOf s (seqKey (posOf s) (n + 1))))) s2
  setJobErr 0 (setJobState 2 (showJob s3))

/-- A command on the job: given by a session, or, without one, by the team (R201, R212). A session's command on a member that does not
lead is forwarded to the leader over TC4. Log 43: DEDUCED. -/
def jobDo (who : Option (Fin 36)) (act : Act) (cmd job : Nat) (f : State → State) (s : State) : State :=
  match who with
  | some k =>
    if rapMay s k.val act 8 && !sessJob s k.val job then rapAnswer (writeDenied s .contractor R.COV_JOB_CTRL) k.val .denied []
    else rapDo s k.val act 8 R.COV_JOB_CTRL (fun s => if isLeader s then f s else toLeader s MsgKind.JOB_COMMAND [cmd])
  | none => f s

/-- A command in a state that does not take it (R201). -/
def jobIn (states : List Nat) (f : State → State) (s : State) : State := if states.contains (jobState s) then f s else setJobErr 9 s

/-- The leader tells the team of a command that every member carries out. Log 43: DEDUCED. -/
def jobTeam (cmd : Nat) (s : State) : State := if isLeader s then toTeam s MsgKind.JOB_COMMAND [cmd] else s

/-- The job COV_JOB_SEL names (R201). -/
def jobSelected (s : State) (j : JobDef) : Bool := j.num == fget s R.COV_JOB_SEL F.COV_JOB_SEL_JOB

/-- JOB_LOAD (R201): `job` is what the livery partition holds under the number COV_JOB_SEL names. -/
def execJobLoad (who : Option (Fin 36)) (job : JobDef) (s : State) : Out :=
  .next (jobDo who .job 1 job.jobId (jobIn [0] (fun s =>
    setJobErr 0 (setJobState 1 { s with cov := { s.cov with job := some { job with found := job.found && jobSelected s job } } }))) s)

/-- The leader sends the definition to every member (R202). -/
def distribute (j : JobDef) (s : State) : State :=
  if isLeader s then
    toTeam { s with cov := { s.cov with hashOk := [], hashBad := [], hashSent := s.tb, hashAt := s.tb } } MsgKind.JOB_DEFINITION [j.jobId]
  else s

/-- JOB_LOAD_DONE (R201): LOADED, or ERROR with the code. -/
def execJobLoadDone (s : State) : Out :=
  .next (if jobState s ≠ 1 then s
    else match s.cov.job with
      | none => setJobErr 1 (setJobState 7 s)
      | some j =>
        let e := loadError s j
        if e = 0 then distribute j (jobLoaded j s) else setJobErr e (setJobState 7 s))

/-- JOB_DEFINITION (R202): a member rasterises the job for itself and reports its hash. -/
def execJobDefinition (job : JobDef) (s : State) : Out :=
  .next (if isLeader s ∨ [0, 2, 5, 7].contains (jobState s) = false then s
    else
      let e := loadError s job
      if e = 0 then toLeader (jobLoaded job s) MsgKind.RASTER_HASH [Config.rasterHash job]
      else setJobErr e (setJobState 7 { s with cov := { s.cov with job := some job } }))

/-- RASTER_HASH (R202): a member whose hash differs catches up. -/
def execRasterHash (m : Fin 64) (hash : Nat) (s : State) : Out :=
  .next (match s.cov.job with
    | none => s
    | some j =>
      if isLeader s = false then s
      else
        let cov1 := { s.cov with
          hashOk := if s.cov.hashOk.contains m.val then s.cov.hashOk else s.cov.hashOk ++ [m.val]
          hashBad := s.cov.hashBad.filter (· != m.val), hashAt := s.tb }
        let s1 := { s with cov := cov1 }
        if hash = Config.rasterHash j then faultPast s1 Ev.JOB_MISMATCH [m.val] else catchUpFor m.val (setJobErr 7 (fault s1 Ev.JOB_MISMATCH [m.val])))

/-- RASTER_HASH_TIMEOUT (R202): a member that has not reported within 60 s takes no part until it does. -/
def execRasterHashTimeout (m : Fin 64) (s : State) : Out :=
  .next (if isLeader s ∧ s.cov.job.isSome ∧ s.cov.hashSent + 60 * secTicks ≤ s.tb ∧ m.val ∈ otherMembers s ∧ m.val ∉ s.cov.hashOk ∧
      m.val ∉ s.cov.hashBad then { s with cov := { s.cov with hashBad := s.cov.hashBad ++ [m.val] } } else s)

/-! ### Running, suspending, closing -/

/-- The leader names the boundary of RUN (R201, R202): at least 250 cycles after the last report. Log 43: DEDUCED. -/
def nameRun (s : State) : State :=
  let b := boundaryFrom (max (s.cov.hashAt + 250 * cycleTicks) (s.tb + 10 * cycleTicks))
  toTeam { s with cov := { s.cov with runAt := some b } } MsgKind.JOB_RUN [b]

/-- Every member has reported its raster hash, but for those that take no part (R201, R202). Log 28: DESIGN CHOICE. Log 43: DEDUCED. -/
def hashesIn (s : State) : Bool := (otherMembers s).all (fun m => s.cov.hashOk.contains m || s.cov.hashBad.contains m)

/-- JOB_START (R201). -/
def execJobStart (who : Option (Fin 36)) (s : State) : Out :=
  .next (jobDo who .job 2 (jobNow s) (fun s => if hashesIn s then jobIn [2] nameRun s else setJobErr 9 s) s)

/-- JOB_RESUME (R201). -/
def execJobResume (who : Option (Fin 36)) (s : State) : Out := .next (jobDo who .job 4 (jobNow s) (jobIn [5] nameRun) s)

/-- JOB_RUN_APPLY (R202): at the boundary `b` the leader named. -/
def execJobRunApply (b : Nat) (s : State) : Out :=
  .next (
    if s.tb < b ∨ (isLeader s ∧ s.cov.runAt ≠ some b) ∨ (jobState s ≠ 2 ∧ jobState s ≠ 5) then s
    else
      let cov1 := { s.cov with runAt := none, startAt := some (s.cov.startAt.getD b), storedAt := s.tb, storedSusp := false }
      let cov1 := { cov1 with storedRun := (s.cov.storedJob.map (·.jobId)) == s.cov.job.map (·.jobId) }
      let s1 := setJobErr 0 (setJobState 3 (leaseAnew { s with cov := cov1 }))
      injEnd 4 (forEach (strideOuts s1) (fun o s => setOut s o.out { outSt s o.out with doneTo := s.tb, applied := false }) s1))

/-- JOB_SUSPEND (R203): section enables are clear from the next boundary. -/
def execJobSuspend (who : Option (Fin 36)) (s : State) : Out :=
  .next (jobDo who .job 3 (jobNow s) (jobIn [3] (fun s => setJobState 4 (jobTeam 3 s))) s)

/-- A store of the job (R204): the changed tiles, the sequence table and the definition. A full store is retried. -/
def jobStore (full : Bool) (s : State) : State :=
  if full then
    let s1 := { s with cov := { s.cov with storeFull := true, storedAt := s.tb } }
    if s.cov.storeFull then s1 else fault (setJobErr 8 s1) Ev.JOB_STORE_FULL []
  else
    let cov1 := { s.cov with
      storedCode := s.cov.code, storedSeq := s.cov.seqTab, storedJob := s.cov.job, storedAt := s.tb
      storedRun := jobState s == 3 || jobState s == 4, storedPcc := s.stb.pcc, storedGaps := s.cov.gaps
      storedLog := s.cov.tlog, storedAdded := s.cov.added
      writes := s.cov.writes + s.cov.dirty.length, dirty := [], storeFull := false }
    if s.cov.storeFull then faultEnd (setJobErr 0 { s with cov := cov1 }) Ev.JOB_STORE_FULL [] else { s with cov := cov1 }

/-- JOB_STORE (R204): every 10 s in RUN, and every 10 s while the store was full. -/
def execJobStore (full : Bool) (s : State) : Out :=
  .next (if (jobState s = 3 ∨ (s.cov.storeFull ∧ s.cov.job.isSome)) ∧ s.cov.storedAt + 10 * secTicks ≤ s.tb then jobStore full s else s)

/-- JOB_SUSPENDED (R203): product is off the ground everywhere and the last strips have been sent; the job is stored. -/
def execJobSuspended (full : Bool) (s : State) : Out :=
  .next (if jobState s = 4 ∧ s.cov.toAck = [] ∧ (strideOuts s).all (fun o => groundDone s o.out (outSt s o.out).doneTo) then
      let s1 := setJobState 5 s
      jobStore full { s1 with cov := { s1.cov with storedSusp := true } }
    else s)

/-- JOB_CLOSE (R201). -/
def execJobClose (who : Option (Fin 36)) (s : State) : Out :=
  .next (jobDo who .job 5 (jobNow s) (jobIn [5] (fun s => setJobState 6 (jobTeam 5 s))) s)

/-- Cells of a code in the replica, and the excluded cells of its allocated tiles (R208). -/
def cellCount (s : State) (code : Nat) : Nat :=
  if code = 3 then (((extentTiles s).filter (tileAlloc s)).map (fun t => ((tileCells t).filter (excluded s)).length)).foldl (· + ·) 0
  else (s.cov.code.filter (fun x => x.2 == code)).length

/-- The signed application record of a job (R406). -/
def appRecord (s : State) (j : JobDef) : AppRec :=
  ⟨j.jobId, cellCount s 1, cellCount s 2, cellCount s 3, (rget s R.COV_EXCL_HIT).toNat, s.cov.gaps, false⟩

/-- JOB_CLOSE_DONE (R201, R406): the final store, the record, and NONE. -/
def execJobCloseDone (full : Bool) (s : State) : Out :=
  .next (if jobState s ≠ 6 then s
    else match s.cov.job with
      | none => jobNone s
      | some j =>
        let s1 := jobStore full s
        let cov1 := { s1.cov with records := s1.cov.records ++ [appRecord s1 j], storedJob := some { j with closed := true }, storedSusp := false }
        let cov1 := { cov1 with storedRun := false }
        jobNone { s1 with cov := cov1 })

/-- JOB_DISCARD (R201): the stored job is left as last stored. -/
def execJobDiscard (who : Option (Fin 36)) (s : State) : Out :=
  .next (jobDo who .discard 6 (jobNow s) (jobIn [2, 5, 7] (fun s =>
    jobNone (setJobErr 0 (jobTeam 6 { s with cov := { s.cov with storedSusp := false, storedRun := false } })))) s)

/-- JOB_EXPORT (R201, R205): in SUSPENDED, or in NONE with a closed job selected. -/
def execJobExport (who : Option (Fin 36)) (s : State) : Out :=
  .next (
    let go (s : State) : State :=
      if jobState s = 5 ∨ (jobState s = 0 ∧ s.cov.storedJob.any (fun j => j.closed && jobSelected s j)) then
        fsetb { s with cov := { s.cov with exporting := true } } R.COV_JOB_STATUS F.COV_JOB_STATUS_EXPORT_READY false
      else setJobErr 9 s
    match who with
    | some k => rapDo s k.val .discard 8 R.COV_JOB_CTRL go
    | none => go s)

/-- The job an export is of (R205): the one loaded, or with none the closed one selected, as it was stored. -/
def exportJob (s : State) : Option (JobDef × State) :=
  match s.cov.job, s.cov.storedJob with
  | some j, _ => some (j, s)
  | none, some j =>
    let s1 := withExtent j s
    some (j, { s1 with cov := { s1.cov with code := s.cov.storedCode, added := s.cov.storedAdded, gaps := s.cov.storedGaps, tlog := s.cov.storedLog } })
  | none, none => none

/-- The task data of a job (R205): team sections in team order, and the gaps of their outputs. Log 69: DESIGN CHOICE. -/
def taskData (j : JobDef) (s : State) : TaskData :=
  let outs (x : SecEnt) : List OutEnt := s.cfg.outs.filter (fun o => strideRole o && o.sect == x.sect)
  let teams := s.cfg.secs.foldl (fun m (x : SecEnt) => smIns x.team ((outs x).map (·.unit)).eraseDups m) []
  let area (code : Nat) : Nat := cellCount s code * (j.cell * j.cell)
  { job := j, added := s.cov.added, device := teams, tlog := s.cov.tlog
    gaps := s.cov.gaps.flatMap (fun g => (s.cfg.secs.filter (fun x => (outs x).any (fun o => o.out == g.1))).map (fun x => (x.team, g.2.1, g.2.2)))
    once := area 1, twice := area 2, excl := area 3 }

/-- EXPORT_DONE (R205). -/
def execExportDone (s : State) : Out :=
  .next (if s.cov.exporting then
      fsetb { s with cov := { s.cov with exporting := false, exported := (exportJob s).map (fun x => taskData x.1 x.2) } } R.COV_JOB_STATUS
        F.COV_JOB_STATUS_EXPORT_READY true
    else s)

/-! ### The time log -/

/-- Work state of a team section of this module (R205, R213): 2 error while one of its outputs cannot be committed, else 1 while one applies. Log 69: DESIGN CHOICE. -/
def workState (s : State) (x : SecEnt) : Nat :=
  let outs := s.cfg.outs.filter (fun o => strideRole o && o.sect == x.sect)
  if outs.any (fun o => (outSt s o.out).gap.isSome) then 2
  else if outs.any (fun o => (applying s o.out s.tb).any (fun v => v.2.isNone)) then 1 else 0

/-- The work states that have changed go to a connected task controller (R213): from the ISOBUS holder on its bus, from another member to it. Log 32: DEDUCED. -/
def workReport (s : State) : State :=
  let due := (s.cfg.secs.map (fun x => (x.team, workState s x))).filter (fun w => !s.str.workTold.contains w)
  let up := match s.str.tcAt with | some t => decide (s.tb < t + 6 * secTicks) | none => false
  if up = false ∨ due = [] ∨ drives s = false then s
  else
    let held := s.str.workTold.filter (fun w => due.all (fun d => d.1 != w.1))
    let s1 := { s with str := { s.str with workTold := held ++ due } }
    let tell (dst : Nat) (s : State) : State := forEach due (fun w s => send s MsgKind.TC_WORK_STATE dst [w.1, w.2]) s
    match (List.range 4).find? (fun c => fbit s (R.CAN_ISO c) F.CAN_ISO_ROLE) with
    | some c => if (canOf s c).claim = 2 then tell c s1 else s
    | none => match roleAt s 2 with
      | some p => forEach ((otherMembers s).filter (fun m => m / 2 == p)) tell s1
      | none => s

/-- The time log grows at a boundary in RUN (R205): after 1 s, and where a work state has changed. Log 69: DESIGN CHOICE. -/
def tlogBoundary (s : State) : State :=
  if jobState s ≠ 3 ∧ jobState s ≠ 4 then s
  else
    let work := s.cfg.secs.map (fun x => (x.team, workState s x))
    let due := match s.cov.tlog.getLast? with
      | some e => decide (e.at_ + secTicks ≤ s.tb) || e.work != work
      | none => true
    if due = false then s
    else
      let p := match s.pos.cur with | some r => (r.x, r.y) | none => (0, 0)
      let rates := ((List.range 64).filter (fun n => fget s (R.CTL_LOOP_STAT n) F.CTL_LOOP_STAT_STATE != 0)).map
        (fun n => (n, rget s (R.CTL_LOOP_SP n), rget s (R.CTL_LOOP_PV n)))
      { s with cov := { s.cov with tlog := s.cov.tlog ++ [⟨s.tb, p.1, p.2, work, rates⟩] } }

/-! ### Exclusions added in RUN -/

/-- The leader names the boundary of an exclusion every member has acknowledged (R190): at least 250 cycles ahead. -/
def nameExcl (n : Nat) (s : State) : State :=
  let b := boundaryFrom (s.tb + 250 * cycleTicks)
  toTeam { s with cov := { s.cov with exclAt := s.cov.exclAt ++ [(b, n)], acks := s.cov.acks.filter (fun a => a.1 != n) } }
    MsgKind.EXCL_NAMED [n, b]

/-- ADD_EXCL (R190): the leader distributes the polygon; a member that receives it acknowledges. A polygon that R188 refuses, or one beyond
4,096, is refused with JOB_POLY. -/
def execAddExcl (who : Option (Fin 36)) (n : Nat) (p : Poly) (s : State) : Out :=
  .next (
    let lead (s : State) : State :=
      let k := s.cov.nextExcl
      let s1 := toTeam { s with cov := { s.cov with nextExcl := k + 1, polys := s.cov.polys ++ [(k, p)] } } MsgKind.EXCL_POLYGON [k]
      if otherMembers s = [] then nameExcl k s1
      else { s1 with cov := { s1.cov with acks := s1.cov.acks ++ [(k, otherMembers s)] } }
    let go (s : State) : State :=
      if polyOk p = false ∨ 4096 ≤ ((s.cov.job.map (fun j => j.excl.length)).getD 0) + s.cov.added.length + s.cov.polys.length then setJobErr 4 s
      else lead s
    match who with
    | some _ => jobDo who .addExcl 8 (jobNow s) (jobIn [3, 5] go) s
    | none =>
      if isLeader s then jobIn [3, 5] go s
      else if jobState s = 3 ∨ jobState s = 5 then
        toLeader { s with cov := { s.cov with polys := s.cov.polys.filter (fun x => x.1 != n) ++ [(n, p)] } } MsgKind.EXCL_ACK [n]
      else s)

/-- EXCL_ACK (R190). -/
def execExclAck (m : Fin 64) (n : Nat) (s : State) : Out :=
  .next (match s.cov.acks.find? (fun a => a.1 == n) with
    | none => s
    | some (_, ms) =>
      let left := ms.filter (· != m.val)
      let s1 := { s with cov := { s.cov with acks := s.cov.acks.map (fun a => if a.1 = n then (n, left) else a) } }
      if left = [] ∧ isLeader s then nameExcl n s1 else s1)

/-- EXCL_APPLY (R190): at the named boundary `b` the cells are set to 11b. -/
def execExclApply (n b : Nat) (s : State) : Out :=
  .next (
    let due := decide (b ≤ s.tb) && (!isLeader s || s.cov.exclAt.contains (b, n))
    match s.cov.polys.find? (fun x => x.1 == n) with
    | none => s
    | some (_, p) =>
      if due = false ∨ s.cov.job = none then s
      else
        let cov1 := { s.cov with
          polys := s.cov.polys.filter (fun x => x.1 != n), exclAt := s.cov.exclAt.filter (fun x => x.2 != n), added := s.cov.added ++ [p] }
        let s1 := { s with cov := cov1 }
        let gone := s1.cov.code.filter (fun x => x.2 != 3 && excluded s1 (keyCell x.1))
        let tiles := (gone.map (fun x => tileOf (keyCell x.1))).eraseDups.filter (fun t => !s1.cov.dirty.contains t)
        { s1 with cov := { s1.cov with code := s1.cov.code.filter (fun x => x.2 == 3 || !excluded s1 (keyCell x.1)), dirty := s1.cov.dirty ++ tiles } })

end Sys2Proof.Machine
end

