-- ==== Sys2Proof/Machine/Feedback.lean ====
section
/-!
DEFINITION. Machine/Feedback.lean: the feedback interface (R76 to R105): counter channels, index and line-count check, magnetic
switches, compare units, SSI ports, analog inputs and sensor supplies.
-/

namespace Sys2Proof.Machine

/-- QUAD1, QUAD2 or QUAD4 (R79). -/
def isQuad (m : Nat) : Bool := m == 1 || m == 2 || m == 3

/-- Modes 1 to 6 use Z as index (R79). -/
def usesZ (m : Nat) : Bool := decide (1 ≤ m) && decide (m ≤ 6)

/-- Does a mode use an input, 0 A, 1 B, 2 Z (R79, R81)? -/
def usesInput (s : State) (n i : Nat) : Bool :=
  let m := chMode s n
  match i with
  | 0 => m != 0
  | 1 => isQuad m || m == 4 || m == 5 || (m == 6 && fbit s (R.FBI_CFG n) F.FBI_CFG_B_GATE)
  | _ => usesZ m

/-- The supply of a channel's or an input's connector is on and out of limit: J5 carries the first 8, J6 the others (R102, R491). -/
def supplyOk (s : State) (n : Nat) : Bool :=
  if n < 8 then fbit s R.FBI_SUP F.FBI_SUP_SUP5A_OK else fbit s R.FBI_SUP F.FBI_SUP_SUP5B_OK

/-- VALID of a channel: configured, no CH_FAULT, supply good (R104). -/
def fbiValid (n : Nat) (s : State) : State :=
  fsetb s (R.FBI_STAT n) F.FBI_STAT_VALID
    (chMode s n != 0 && !fbit s (R.FBI_STAT n) F.FBI_STAT_CH_FAULT && !fbit s (R.FBI_STAT n) F.FBI_STAT_SUPPLY_FAULT)

/-- The running count (R82). -/
def chCount (s : State) (n : Nat) : Int := sext 48 (rget64 s (R.FBI_CNT_LO n) (R.FBI_CNT_HI n))

/-- Set the counter: 48 bits, HI[31:16] reading as sign extension (R104). -/
def setCount (s : State) (n : Nat) (v : Int) : State :=
  rset64 s (R.FBI_CNT_LO n) (R.FBI_CNT_HI n) (bitsOf 64 (sext 48 (bitsOf 48 v)))

/-- FLT_WIN in ticks. -/
def fltWin (s : State) (n : Nat) : Nat := msTicks (fget s (R.FBI_LIM n) F.FBI_LIM_FLT_WIN)

/-- Stamps that lie within FLT_WIN. -/
def inWin (s : State) (n : Nat) (ts : List Nat) : List Nat := ts.filter (fun t => decide (s.tb < t + fltWin s n))

/-- Set CH_FAULT with its record (R81). -/
def chFaultSet (n : Nat) (s : State) : State :=
  if fbit s (R.FBI_STAT n) F.FBI_STAT_CH_FAULT then s
  else fbiValid n (raise (fsetb s (R.FBI_STAT n) F.FBI_STAT_CH_FAULT true) Ev.CH_FAULT [n, 1])

/-- The conditions of R81 under which CH_FAULT clears. -/
def chFaultMayClear (s : State) (n : Nat) : Bool :=
  let c := chSt s n
  let past (t : Option Nat) : Bool := match t with | some x => decide (x + secTicks ≤ s.tb) | none => true
  past c.lastBad && past c.lastBreak && c.broken.isEmpty && c.stuck.isEmpty

/-- Clear CH_FAULT (R81): EDGE_FAULT and ILLEGAL_FAULT are free to be raised again (R78, R80). -/
def chFaultClear (n : Nat) (s : State) : State :=
  if fbit s (R.FBI_STAT n) F.FBI_STAT_CH_FAULT = false ∨ chFaultMayClear s n = false then s
  else
    let c := chSt s n
    let s0 := whenB c.illRaised (fun s => faultOver s Ev.ILLEGAL_FAULT [n]) (whenB c.fastRaised (fun s => faultOver s Ev.EDGE_FAULT [n]) s)
    let s1 := setCh s0 n { c with fastT := [], illT := [], fastRaised := false, illRaised := false }
    fbiValid n (raise (fsetb s1 (R.FBI_STAT n) F.FBI_STAT_CH_FAULT false) Ev.CH_FAULT [n, 0])

/-! ### What a tick may change -/

/-- Ticks for which the counter's values before past changes are kept: longer than any MIN_SPACING (R77). -/
def histSpan : Nat := 131072

/-- The counter and DIR before this tick's first change are kept (R83, R91). -/
def histMark (n : Nat) (s : State) : State :=
  let c := chSt s n
  if (c.hist.head?.map (·.1)) = some s.tb then s
  else setCh s n { c with
    hist := (s.tb, chCount s n, fbit s (R.FBI_STAT n) F.FBI_STAT_DIR) :: c.hist.filter (fun h => decide (s.tb ≤ h.1 + histSpan)) }

/-- The counters CLEAR clears, before this tick's first happening, are kept (R103). -/
def baseMark (n : Nat) (s : State) : State :=
  let c := chSt s n
  if c.base.at_ = s.tb then s
  else setCh s n { c with base :=
    ⟨s.tb, fget s (R.FBI_FCNT n) F.FBI_FCNT_FAST_CNT, fget s (R.FBI_FCNT n) F.FBI_FCNT_ILLEGAL_CNT, fget s (R.FBI_LINE n) F.FBI_LINE_IN_TOL_CNT,
      fget s (R.FBI_LINE n) F.FBI_LINE_SKIP_CNT, fget s (R.FBI_STAT n) F.FBI_STAT_DIR_CNT⟩ }

/-- The oldest value kept from before a change later than a tick. -/
def histAfter (s : State) (n t : Nat) : Option (Int × Bool) :=
  (((chSt s n).hist.takeWhile (fun h => decide (t < h.1))).getLast?).map (·.2)

/-- The count of a channel at the end of a past tick (R83, R91). -/
def countAt (s : State) (n t : Nat) : Int := ((histAfter s n t).map (·.1)).getD (chCount s n)

/-- DIR of a channel at the end of a past tick (R83). -/
def dirAt (s : State) (n t : Nat) : Bool := ((histAfter s n t).map (·.2)).getD (fbit s (R.FBI_STAT n) F.FBI_STAT_DIR)

/-! ### Counts -/

/-- The signed step of the accepted changes of one tick (R79, R80): none where nothing counts. `a b` are the levels after the tick,
`ca cb` whether each input changed. -/
def countStep (mode : Nat) (bGate dirInv : Bool) (a b ca cb : Bool) : Int :=
  let d : Int :=
    match mode with
    | 1 => if ca && a && !cb then (if b then -1 else 1) else 0
    | 2 => if ca && !cb then (if a == b then -1 else 1) else 0
    | 3 => if ca && !cb then (if a == b then -1 else 1) else if cb && !ca then (if a == b then 1 else -1) else 0
    | 4 => if ca && a then (if b then 1 else -1) else 0
    | 5 => (if ca && a then 1 else 0) - (if cb && b then 1 else 0)
    | 6 => if ca && a && (b || !bGate) then 1 else 0
    | 7 => if ca && a then 1 else 0
    | _ => 0
  if dirInv then -d else d

/-- Compare hit of one unit at a count (R94 to R96). Log 30: DEDUCED. -/
def cmpHit (k n : Nat) (cnt d : Int) (stamp : Nat) (s : State) : State :=
  let step := sext 32 (rget s (R.FBI_CMP_STEP k)).toNat
  let c := smGet cmpInit s.fbi.cmp k
  -- a commit of this tick comes after the hit (R103)
  let late := match c.pre with | some p => p.1 == s.tb | none => false
  let old : Nat × Bool := match c.pre with
    | some p => if late then p.2 else (c.val, fbit s (R.FBI_CMP_STAT k) F.FBI_CMP_STAT_ARMED)
    | none => (c.val, fbit s (R.FBI_CMP_STAT k) F.FBI_CMP_STAT_ARMED)
  if old.2 = false ∨ fget s (R.FBI_CMP_CFG k) F.FBI_CMP_CFG_SRC ≠ n
      ∨ decide (0 ≤ step) ≠ decide (0 < d) ∨ bitsOf 48 cnt ≠ old.1 then s
  else
    let md := (rget s (R.FBI_CMP_MOD k)).toNat
    let v := bitsOf 48 (old.1 + step)
    let v := if md = 0 then v else v % md
    let s1 := fincWrap s (R.FBI_CMP_HITS k) F.FBI_CMP_HITS_HITS
    let hits := fget s1 (R.FBI_CMP_HITS k) F.FBI_CMP_HITS_HITS
    let active := c.pulse.any (fun p => decide (p.1 ≤ s.tb ∧ s.tb < p.2))
    let pm := fget s (R.FBI_CMP_CFG k) F.FBI_CMP_CFG_PIN_MODE
    let from_ := s.tb + 2
    -- the pulse in progress ends where the new one starts
    let kept := c.pulse.map (fun p => (p.1, min p.2 from_))
    let c1 : CmpSt :=
      { c with
        val := if late then c.val else v, toggle := if pm = 2 then !c.toggle else c.toggle
        pulse := if pm = 1 then kept ++ [(from_, from_ + fget s (R.FBI_CMP_CFG k) F.FBI_CMP_CFG_PW)] else c.pulse
        pre := if late then some (s.tb, v, old.2 && step != 0) else none }
    let s2 := { s1 with fbi := { s1.fbi with cmp := smSet cmpInit k c1 s1.fbi.cmp, hits := s1.fbi.hits ++ [(k, hits, stamp)] } }
    let s3 := whenB (pm = 1 && active) (fun s => fsetb s (R.FBI_CMP_STAT k) F.FBI_CMP_STAT_OVERLAP true) s2
    let s4 := whenB (step == 0 && !late) (fun s => fsetb s (R.FBI_CMP_STAT k) F.FBI_CMP_STAT_ARMED false) s3
    raise s4 Ev.CMP_HIT [k, hits, stamp]

/-- The edges velocity and period may still need: those within 255 ms of the newest, and the three before them (R86). -/
def trimEdges (es : List Edge) : List Edge :=
  match es with
  | [] => []
  | e :: _ =>
    let near := es.takeWhile (fun x => decide (e.stamp ≤ x.stamp + msTicks 255))
    es.take (max 4 (near.length + 3))

/-- Apply one count of ±1 (R82, R85, R89, R90, R94): counter, accumulators, direction, compare units. -/
def applyCount (n : Nat) (d : Int) (stamp : Nat) (s : State) : State :=
  if d = 0 then s
  else
    let c := chSt s n
    let old := chCount s n
    let new := old + d
    let s1 := setCount s n new
    let s2 := if new = chCount s1 n then s1
      else raise (fsetb s1 (R.FBI_STAT n) F.FBI_STAT_COUNT_WRAP true) Ev.COUNT_WRAP [n]
    let neg := decide (d < 0)
    let rev := c.dirKnown && (fbit s (R.FBI_STAT n) F.FBI_STAT_DIR != neg)
    let s3 := fsetb s2 (R.FBI_STAT n) F.FBI_STAT_DIR neg
    let s4 := whenB rev (fun s => fincWrap s (R.FBI_STAT n) F.FBI_STAT_DIR_CNT) s3
    let s5 := whenB (rev && !c.dirSent) (fun s => raise s Ev.DIR_CHG [n, stamp]) s4
    let t := c.total + d
    let s6 := setCh s5 n { c with
      total := t
      edges := trimEdges (⟨s.tb, stamp, t⟩ :: c.edges)
      gross := c.gross + d.natAbs
      dirKnown := true
      dirSent := c.dirSent || rev
      idxAcc := c.idxAcc + d
      idxPos := c.idxPos || !neg
      idxNeg := c.idxNeg || neg }
    forN 4 (fun k s => cmpHit k n new d stamp s) s6

/-- INDEX_MISSING (R90): raised once when |IDX_ACC| exceeds LINES + LINE_TOL without an index. Log 30: DEDUCED. -/
def checkMissing (n : Nat) (s : State) : State :=
  let c := chSt s n
  let lines := fget s (R.FBI_IDX n) F.FBI_IDX_LINES
  if lines = 0 ∨ c.missing ∨ c.idxAcc.natAbs ≤ lines + fget s (R.FBI_IDX n) F.FBI_IDX_LINE_TOL then s
  else raise (fsetb (setCh s n { c with missing := true }) (R.FBI_STAT n) F.FBI_STAT_INDEX_MISSING true) Ev.INDEX_MISSING [n]

/-- The line-count check of R89, steps 1 to 5. Log 30: DEDUCED. -/
def lineCheck (n stamp : Nat) (s : State) : State :=
  let c := chSt s n
  let lines := fget s (R.FBI_IDX n) F.FBI_IDX_LINES
  if lines = 0 ∨ c.idxSeen = false then s
  else if c.idxPos ∧ c.idxNeg then fincSat s (R.FBI_LINE n) F.FBI_LINE_SKIP_CNT
  else
    let dev := clampInt (-32767) 32767 ((c.idxAcc.natAbs : Int) - lines)
    let tol := fget s (R.FBI_IDX n) F.FBI_IDX_LINE_TOL
    let s1 := fset s (R.FBI_LINE n) F.FBI_LINE_LINE_DEV (bitsOf 16 dev)
    if dev.natAbs ≤ tol then whenB (dev != 0) (fun s => fincSat s (R.FBI_LINE n) F.FBI_LINE_IN_TOL_CNT) s1
    else faultOnce (fsetb s1 (R.FBI_STAT n) F.FBI_STAT_LINE_FAULT true) Ev.LINE_FAULT [n, dev, stamp]

/-- An index (R88, R89): the check runs, IDX_ACC clears, and the counter is handled as IDX_MODE requires. An ARM given in this tick
takes effect from the next, and leaves an earlier one to the index (R103). Log 30: DEDUCED. -/
def applyIndex (n stamp : Nat) (s : State) : State :=
  let s1 := lineCheck n stamp s
  let c := chSt s1 n
  let s2 := platIndex n (setCh s1 n { c with idxAcc := 0, idxPos := false, idxNeg := false, idxSeen := true, missing := false })
  let m := fget s2 (R.FBI_CFG n) F.FBI_CFG_IDX_MODE
  if m = 1 then setCount s2 n 0
    else if m = 2 ∧ fbit s2 (R.FBI_STAT n) F.FBI_STAT_ARMED ∧ (c.armAt < s.tb ∨ c.armWas = true) then
      setCount (fsetb (setCh s2 n { chSt s2 n with armWas := false }) (R.FBI_STAT n) F.FBI_STAT_ARMED (decide (s.tb ≤ c.armAt))) n 0
    else s2

/-- Onset of presence in MAG mode (R91). -/
def magOnset (n stamp : Nat) (s : State) : State :=
  let src := fget s (R.FBI_CFG n) F.FBI_CFG_CAPSRC
  let s1 := fsetb (applyCount n 1 stamp s) (R.FBI_STAT n) F.FBI_STAT_PRESENT true
  let s2 := if fbit s (R.FBI_CFG n) F.FBI_CFG_CAP_EN then setCh s1 n { chSt s1 n with onset := some (countAt s1 src stamp, stamp) }
    else s1
  raise s2 Ev.PRESENT_ON [n, stamp]

/-- End of presence in MAG mode: the centre count and stamp, rounded down, and MAG_CENTRE (R91), which the alley track takes
(R223). Log 75: DESIGN CHOICE. -/
def magEnd (n stamp : Nat) (s : State) : State :=
  let src := fget s (R.FBI_CFG n) F.FBI_CFG_CAPSRC
  let c := chSt s n
  let s1 := raise (fsetb s (R.FBI_STAT n) F.FBI_STAT_PRESENT false) Ev.PRESENT_OFF [n, stamp]
  match c.onset with
  | none => s1
  | some (c0, t0) =>
    let centre := (c0 + countAt s1 src stamp) / 2
    let ct := (t0 + stamp) / 2
    let s2 := setCh s1 n { chSt s1 n with onset := none }
    let s3 := rset64 s2 (R.FBI_CAP_LO n) (R.FBI_CAP_HI n) (bitsOf 64 (sext 48 (bitsOf 48 centre)))
    let s4 := rset64 s3 (R.FBI_CAPTB_LO n) (R.FBI_CAPTB_HI n) ct
    alleyMagnet n centre ct (raise s4 Ev.MAG_CENTRE [n, centre, ct])

/-- An illegal transition (R80). -/
def illegal (n stamp : Nat) (s : State) : State :=
  let c := chSt s n
  let ts := inWin s n (s.tb :: c.illT)
  let s1 := fincSat (setCh s n { c with illT := ts, lastBad := some s.tb }) (R.FBI_FCNT n) F.FBI_FCNT_ILLEGAL_CNT
  if c.illRaised ∨ ts.length < fget s (R.FBI_LIM n) F.FBI_LIM_ILL_LIMIT then s1
  else chFaultSet n (fault (setCh s1 n { chSt s1 n with illRaised := true }) Ev.ILLEGAL_FAULT [n, stamp])

/-- The end of a held-active input (R93): INDEX_TIMEOUT clears, and CH_FAULT with it where R81 allows. -/
def unstick (n i : Nat) (s : State) : State :=
  let c := chSt s n
  if i ∉ c.stuck then s
  else
    let left := c.stuck.filter (fun x => x != i)
    let s1 := fsetb (setCh s n { c with stuck := left }) (R.FBI_STAT n) F.FBI_STAT_INDEX_TIMEOUT (!left.isEmpty)
    chFaultClear n (faultEnd s1 Ev.INDEX_TIMEOUT [n, i])

/-- The count an input held active is measured by (R92): its own channel's, or of a magnetic switch with CAP_EN that of CAPSRC. -/
def activeCount (s : State) (n i : Nat) : Nat :=
  if i = 0 ∧ chMode s n = 8 then (chSt s (fget s (R.FBI_CFG n) F.FBI_CFG_CAPSRC)).gross else (chSt s n).gross

/-- Is an input measured against ACTIVE_LIM in this mode, and held active (R92)? -/
def heldActive (s : State) (n i : Nat) : Bool :=
  let c := chSt s n
  let m := chMode s n
  match i with
  | 0 => (m == 6 || m == 7) && c.a == some true || m == 8 && c.a == some (!fbit s (R.FBI_CFG n) F.FBI_CFG_DIR_INV)
  | 2 => usesZ m && c.z == some true
  | _ => false

/-- Note since when each input is held active (R77, R92). -/
def activeMark (n : Nat) (s : State) : State :=
  let c := chSt s n
  setCh s n { c with act := [0, 2].filterMap (fun i =>
    if heldActive s n i then some ((c.act.find? (fun x => x.1 == i)).getD (i, s.tb, activeCount s n i)) else none) }

/-- An input has been held active beyond ACTIVE_LIM (R92): Z in counts of its channel, A in ms, or in counts of CAPSRC in MAG with CAP_EN. Log 30: DEDUCED. -/
def heldBeyond (s : State) (n i : Nat) : Bool :=
  let lim := fget s (R.FBI_TMO n) F.FBI_TMO_ACTIVE_LIM
  match (chSt s n).act.find? (fun x => x.1 == i) with
  | some (_, t, g) =>
    if i = 2 ∨ (chMode s n = 8 ∧ fbit s (R.FBI_CFG n) F.FBI_CFG_CAP_EN = true) then decide (lim < activeCount s n i - g)
    else decide (t + msTicks lim < s.tb)
  | none => false

/-- Accepted level changes of one tick on a channel (R77 to R96): the count, then the index. A first sample since PD11 started is
taken as the level and is no edge (R77); a magnetic switch active at it is present (R91). Log 30: DEDUCED. -/
def edgeCore (n : Nat) (na nb nz : Option Bool) (s : State) : State :=
  let c := chSt s n
  let m := chMode s n
  let stamp := s.tb - fget s (R.FBI_INCFG n) F.FBI_INCFG_MIN_SPACING
  let upd (old new : Option Bool) : Option Bool := match new with | some v => some v | none => old
  let changed (old new : Option Bool) : Bool := match old, new with | some x, some y => x != y | _, _ => false
  let a := (upd c.a na).getD false
  let b := (upd c.b nb).getD false
  let z := (upd c.z nz).getD false
  let ca := changed c.a na
  let cb := changed c.b nb
  let cz := changed c.z nz
  let inv := fbit s (R.FBI_CFG n) F.FBI_CFG_DIR_INV
  let s0 := baseMark n (histMark n s)
  let s1 := setCh s0 n { chSt s0 n with a := upd c.a na, b := upd c.b nb, z := upd c.z nz }
  let s1 := whenB (m == 8 && c.a.isNone && na == some (!inv)) (fun s => fsetb s (R.FBI_STAT n) F.FBI_STAT_PRESENT true) s1
  let s2 :=
    if m = 8 then
      if ca = false then s1
      else if a != inv then (if 0 ∈ c.stuck then s1 else magOnset n stamp s1)
      else magEnd n stamp (unstick n 0 s1)
    else if isQuad m && ca && cb then illegal n stamp s1
    else applyCount n (countStep m (fbit s (R.FBI_CFG n) F.FBI_CFG_B_GATE) inv a b ca cb) stamp s1
  let s3 := whenB ((m == 6 || m == 7) && ca && !a) (unstick n 0) s2
  let gate := !(isQuad m && fbit s (R.FBI_CFG n) F.FBI_CFG_Z_GATE) || (a && b)
  activeMark n (if usesZ m && cz && z && gate && !(c.stuck.contains 2) then applyIndex n stamp s3
    else checkMissing n (whenB (cz && !z) (unstick n 2) s3))

/-- Load the counter (R84): no index, no hit, no direction; IDX_ACC clears. Log 30: DEDUCED. -/
def fbiLoad (n : Nat) (s : State) : State :=
  let s0 := histMark n s
  let c := chSt s0 n
  let s1 := setCount s0 n (sext 48 (rget64 s (R.FBI_LOAD_LO n) (R.FBI_LOAD_HI n)))
  setCh s1 n { c with
    idxAcc := 0, idxPos := false, idxNeg := false, idxSeen := false, dirKnown := false, loadAt := none
    pre := some ⟨s.tb, chCount s n, c.idxAcc, c.idxPos, c.idxNeg, c.idxSeen, c.dirKnown⟩ }

/-- What a load of this tick replaced stands again (R103). -/
def unload (n : Nat) (p : PreLoad) (s : State) : State :=
  let s1 := setCount s n p.cnt
  setCh s1 n { chSt s1 n with idxAcc := p.acc, idxPos := p.pos, idxNeg := p.neg, idxSeen := p.seen, dirKnown := p.known }

/-- The accepted changes of one tick, a load of which comes after them (R103). -/
def inputEdge (n : Nat) (na nb nz : Option Bool) (s : State) : State :=
  match (chSt s n).pre with
  | some p => if p.at_ = s.tb then fbiLoad n (edgeCore n na nb nz (unload n p s)) else edgeCore n na nb nz s
  | none => edgeCore n na nb nz s

/-- LOAD takes effect at the tick after its write (R84). -/
def loadTick (s : State) : State :=
  forEach (s.fbi.ch.filter (fun x => match x.2.loadAt with | some t => decide (t < s.tb) | none => false)) (fun x s => fbiLoad x.1 s) s

/-- INPUT_EDGE_ACCEPTED (R77). Nothing is sampled while PD11 is off (R24). -/
def execInputEdgeAccepted (ch : Fin 16) (a b z : Option Bool) (s : State) : Out :=
  .next (if domOn s 11 then inputEdge ch.val a b z s else s)

/-- FAST_EDGE (R78): counted and ignored; EDGE_FAULT at the edge that brings the count within FLT_WIN to FAST_LIMIT. -/
def execFastEdge (ch : Fin 16) (s : State) : Out :=
  .next (
    let n := ch.val
    let c := chSt (baseMark n s) n
    let ts := inWin s n (s.tb :: c.fastT)
    let s1 := fincSat (setCh s n { c with fastT := ts, lastBad := some s.tb }) (R.FBI_FCNT n) F.FBI_FCNT_FAST_CNT
    if domOn s 11 = false then s
    else if c.fastRaised ∨ ts.length < fget s (R.FBI_LIM n) F.FBI_LIM_FAST_LIMIT then s1
    else chFaultSet n (fault (setCh s1 n { chSt s1 n with fastRaised := true }) Ev.EDGE_FAULT [n, s.tb]))

/-- CH_FAULT_CLEAR (R81). -/
def execChFaultClear (ch : Fin 16) (s : State) : Out := .next (chFaultClear ch.val s)

/-- WIRE_BREAK (R81): only a differential input that the mode uses. -/
def execWireBreak (ch : Fin 16) (inp : Fin 3) (s : State) : Out :=
  .next (
    let n := ch.val
    if domOn s 11 = false ∨ fbit s (R.FBI_INCFG n) F.FBI_INCFG_DIFF = false ∨ usesInput s n inp.val = false ∨ inp.val ∈ (chSt s n).broken then s
    else
      let s1 := setCh s n { chSt s n with broken := (chSt s n).broken ++ [inp.val] }
      chFaultSet n (fault (fsetb s1 (R.FBI_STAT n) F.FBI_STAT_WIRE_BREAK true) Ev.WIRE_BREAK [n, inp.val]))

/-- WIRE_BREAK_END (R81): the 1 s wire-break condition for clearing CH_FAULT starts. -/
def execWireBreakEnd (ch : Fin 16) (inp : Fin 3) (s : State) : Out :=
  .next (
    let n := ch.val
    let c := chSt s n
    if inp.val ∉ c.broken then s
    else
      let left := c.broken.filter (fun x => x != inp.val)
      let s1 := setCh s n { c with broken := left, lastBreak := some s.tb }
      faultEnd (fsetb s1 (R.FBI_STAT n) F.FBI_STAT_WIRE_BREAK (!left.isEmpty)) Ev.WIRE_BREAK [n, inp.val])

/-- INDEX_TIMEOUT (R92, R93): an input has been held active beyond ACTIVE_LIM. -/
def execIndexTimeout (ch : Fin 16) (inp : Fin 3) (s : State) : Out :=
  .next (
    let n := ch.val
    if heldActive s n inp.val = false ∨ heldBeyond s n inp.val = false ∨ inp.val ∈ (chSt s n).stuck then s
    else
      let s1 := setCh s n { chSt s n with stuck := (chSt s n).stuck ++ [inp.val] }
      chFaultSet n (fault (fsetb s1 (R.FBI_STAT n) F.FBI_STAT_INDEX_TIMEOUT true) Ev.INDEX_TIMEOUT [n, inp.val]))

/-- FBI_LOAD (R84): the counter is set at the tick after the write. -/
def execFbiLoad (who : Fin 36) (ch : Fin 16) (s : State) : Out :=
  .next (rapDo s who.val .other 11 (R.FBI_CTRL ch.val) fun s => setCh s ch.val { chSt s ch.val with loadAt := some s.tb })

/-- FBI_ARM (R88): ARMED sets on any channel, and waits where IDX_MODE is not ONCE. Log 75: DESIGN CHOICE. -/
def execFbiArm (who : Fin 36) (ch : Fin 16) (s : State) : Out :=
  .next (rapDo s who.val .other 11 (R.FBI_CTRL ch.val) fun s =>
    let c := chSt s ch.val
    let was := fbit s (R.FBI_STAT ch.val) F.FBI_STAT_ARMED && (decide (c.armAt < s.tb) || c.armWas)
    fsetb (setCh s ch.val { c with armAt := s.tb, armWas := was }) (R.FBI_STAT ch.val) F.FBI_STAT_ARMED true)

/-- Clear the channel's fault and statistics counters (R104): what has been counted in this tick stays (R103). -/
def fbiClear (n : Nat) (s : State) : State :=
  let b := (chSt s n).base
  let left (v old : Nat) : Nat := if b.at_ = s.tb then v - old else 0
  let s1 := fset (fset s (R.FBI_FCNT n) F.FBI_FCNT_FAST_CNT (left (fget s (R.FBI_FCNT n) F.FBI_FCNT_FAST_CNT) b.fast))
    (R.FBI_FCNT n) F.FBI_FCNT_ILLEGAL_CNT (left (fget s (R.FBI_FCNT n) F.FBI_FCNT_ILLEGAL_CNT) b.ill)
  let s2 := fset (fset s1 (R.FBI_LINE n) F.FBI_LINE_IN_TOL_CNT (left (fget s (R.FBI_LINE n) F.FBI_LINE_IN_TOL_CNT) b.tol))
    (R.FBI_LINE n) F.FBI_LINE_SKIP_CNT (left (fget s (R.FBI_LINE n) F.FBI_LINE_SKIP_CNT) b.skip)
  let s3 := fset s2 (R.FBI_STAT n) F.FBI_STAT_DIR_CNT (left (fget s (R.FBI_STAT n) F.FBI_STAT_DIR_CNT) b.dir)
  setCh s3 n { chSt s3 n with base := ⟨s.tb, 0, 0, 0, 0, 0⟩ }

/-- FBI_CLEAR (R104). -/
def execFbiClear (who : Fin 36) (ch : Fin 16) (s : State) : Out :=
  .next (rapDo s who.val .other 11 (R.FBI_CTRL ch.val) (fbiClear ch.val))

/-- Commit VAL from the written VAL_LO and VAL_HI and arm the unit (R94). -/
def cmpCommit (k : Nat) (hi : Word) (s : State) : State :=
  let s1 := fset s (R.FBI_CMP_VAL_HI k) F.FBI_CMP_VAL_HI_VAL_HI hi.toNat
  let v := (rget s (R.FBI_CMP_VAL_LO k)).toNat + hi.toNat % 65536 * 2 ^ 32
  let c := smGet cmpInit s.fbi.cmp k
  let old := match c.pre with
    | some p => if p.1 = s.tb then p.2 else (c.val, fbit s (R.FBI_CMP_STAT k) F.FBI_CMP_STAT_ARMED)
    | none => (c.val, fbit s (R.FBI_CMP_STAT k) F.FBI_CMP_STAT_ARMED)
  fsetb { s1 with fbi := { s1.fbi with cmp := smSet cmpInit k { c with val := v, pre := some (s.tb, old) } s1.fbi.cmp } }
    (R.FBI_CMP_STAT k) F.FBI_CMP_STAT_ARMED true

/-- CMP_VAL_HI_WRITE (R94). -/
def execCmpValHiWrite (who : Fin 36) (k : Fin 4) (hi : Word) (s : State) : Out :=
  .next (rapDo s who.val .other 11 (R.FBI_CMP_VAL_HI k.val) (cmpCommit k.val hi))

/-- CMP_PULSE_END (R96): spans that have passed are forgotten. -/
def execCmpPulseEnd (k : Fin 4) (s : State) : Out :=
  .next (
    let c := smGet cmpInit s.fbi.cmp k.val
    { s with fbi := { s.fbi with cmp := smSet cmpInit k.val { c with pulse := c.pulse.filter (fun p => decide (s.tb < p.2)) } s.fbi.cmp } })

/-- The level of compare pin CMPk (R96): inactive while PD11 is off; POL inverts it. -/
def cmpPin (s : State) (k : Nat) : Bool :=
  let c := smGet cmpInit s.fbi.cmp k
  let act := match fget s (R.FBI_CMP_CFG k) F.FBI_CMP_CFG_PIN_MODE with
    | 1 => c.pulse.any (fun p => decide (p.1 ≤ s.tb ∧ s.tb < p.2))
    | 2 => c.toggle
    | _ => false
  (domPow s 11 && act) != fbit s (R.FBI_CMP_CFG k) F.FBI_CMP_CFG_POL

/-- What a repeater passes (R97): none, high impedance; of a channel, its raw inputs, or the accepted levels of A, B and Z. -/
def repLevels (s : State) (r : Nat) : Option (Nat × Option (Option Bool × Option Bool × Option Bool)) :=
  match s.cfg.pinfn.rep.getD r none with
  | some (ch, filtered) =>
    if domPow s 11 = false then none
    else some (ch, if filtered then some ((chSt s ch).a, (chSt s ch).b, (chSt s ch).z) else none)
  | none => none

/-! ### Boundary snapshot -/

/-- Velocity of a channel at a boundary in 1/16 count/s, and STILL (R86). -/
def velAt (s : State) (n B : Nat) : Int × Bool :=
  let c := chSt s n
  let zt := fget s (R.FBI_TMO n) F.FBI_TMO_ZERO_TMO * msTicks 10
  let win := msTicks (fget s (R.FBI_TMO n) F.FBI_TMO_VEL_WIN)
  match c.edges.dropWhile (fun e => decide (B ≤ e.acc)) with
  | e :: prev :: rest =>
    if e.acc + zt < B then (0, true)
    else
      let near := (prev :: rest).takeWhile (fun x => decide (e.stamp ≤ x.stamp + win))
      let old := near.getLast?.getD prev
      let dt : Int := (e.stamp : Int) - old.stamp
      let dc := e.cnt - old.cnt
      let gap : Int := (B : Int) - e.stamp
      let lim : Int := 2 ^ 31 - 1
      let capped := decide (gap > (e.stamp : Int) - prev.stamp) && decide ((dc.natAbs : Int) * gap > dt)
      let sgn : Int := if dc < 0 then -1 else if dc = 0 then 0 else 1
      (clampInt (-lim) lim (if capped then sgn * divOpen (16 * 200000000) gap else divOpen (dc * 16 * 200000000) dt), false)
  | _ => (0, true)

/-- PERIOD of a channel at a boundary (R87). -/
def periodAt (s : State) (n B : Nat) : Nat :=
  let c := chSt s n
  let zt := fget s (R.FBI_TMO n) F.FBI_TMO_ZERO_TMO * msTicks 10
  match c.edges.dropWhile (fun e => decide (B ≤ e.acc)) with
  | e :: prev :: _ =>
    if chMode s n = 7 ∧ e.acc + zt < B then 2 ^ 32 - 1 else min (2 ^ 32 - 1) (e.stamp - prev.stamp)
  | _ => 2 ^ 32 - 1

/-- One channel's part of COUNTER_SNAPSHOT (R83, R86, R87, R91): what was accepted before B. -/
def chSnap (B n : Nat) (s : State) : State :=
  let v := velAt s n B
  let s1 := rset64 s (R.FBI_SNAP_LO n) (R.FBI_SNAP_HI n) (bitsOf 64 (sext 48 (bitsOf 48 (countAt s n (B - 1)))))
  let s2 := rsetN s1 (R.FBI_VEL n) (bitsOf 32 v.1)
  let s3 := rsetN s2 (R.FBI_PERIOD n) (periodAt s n B)
  let s4 := fsetb s3 (R.FBI_STAT n) F.FBI_STAT_STILL v.2
  setCh s4 n { chSt s4 n with dirSent := false, snapDir := dirAt s n (B - 1), snapPres := fbit s (R.FBI_STAT n) F.FBI_STAT_PRESENT }

/-- COUNTER_SNAPSHOT: every channel at boundary B (R83), and the compare hits the cycle uses (R96). -/
def counterSnapshot (B : Nat) (s : State) : State :=
  if domOn s 11 then
    forN 16 (fun n s => chSnap B n s) { s with fbi := { s.fbi with hits := [], hitsUsed := s.fbi.hits } }
  else s

/-! ### SSI ports and analog inputs -/

/-- Binary value of a Gray code of a number of bits (R98). -/
def grayDecode : Nat → Nat → Nat
  | 0, _ => 0
  | n + 1, g => g ^^^ (grayDecode n (g / 2))

/-- Number of ones among the low bits of a number. -/
def onesIn : Nat → Nat → Nat
  | 0, _ => 0
  | n + 1, v => v % 2 + onesIn n (v / 2)

/-- CRC-6 with polynomial 43h of the low bits of a number, most significant first, onto a remainder (R98). Log 68: PRESUMED. -/
def crc6 : Nat → Nat → Nat → Nat
  | 0, _, r => r
  | n + 1, v, r =>
    let x := 2 * r + v / 2 ^ n % 2
    crc6 n v (if 64 ≤ x then x ^^^ 0x43 else x)

/-- Does the frame pass the check the port is set to (R98)? -/
def ssiPass (c : SsiCfg) (data status check : Nat) : Bool :=
  let ones := onesIn c.dataBits data + onesIn c.errBits status + check % 2
  match c.check with
  | .none => true
  | .even => ones % 2 == 0
  | .odd => ones % 2 == 1
  | .crc6 => crc6 (c.dataBits + c.errBits + 6) ((data * 2 ^ c.errBits + status) * 64) 0 == check % 64

/-- A read of an SSI port is due (R98): 2 µs after a boundary, EVERY cycles after the last. Log 68: PRESUMED. -/
def ssiDue (s : State) (k : Nat) (c : SsiCfg) : Bool :=
  s.tb % cycleTicks == 400 && (match s.fbi.ssiAt.find? (fun x => x.1 == k) with
    | some x => decide (x.2 + c.every * cycleTicks ≤ s.tb)
    | none => true)

/-- A joint takes the port as a source. -/
def ssiJoint (s : State) (k : Fin 4) : Bool := s.cfg.chains.any (fun c => c.links.any (fun l => l.src1 == .ssi k || l.src2 == .ssi k))

/-- SSI_READ (R98, R99): stamped at the first falling clock edge, the tick of the command. An invalid sample is discarded and
counted. A port that no joint takes is STALE after 3 of its reads without a valid one. -/
def execSsiRead (k : Fin 4) (data : Word) (status : Nat) (check : Nat) (wireLow : Bool) (s : State) : Out :=
  .next (match s.cfg.pinfn.ssi.getD k.val none with
    | none => s
    | some c =>
      if domOn s 11 = false ∨ ssiDue s k.val c = false then s
      else
        let s := { s with fbi := { s.fbi with ssiAt := smIns k.val s.tb s.fbi.ssiAt } }
        let a := R.FBI_SSI_STAT k.val
        let d := data.toNat % 2 ^ c.dataBits
        let st := status % 2 ^ c.errBits
        let s1 := fsetb s a F.FBI_SSI_STAT_SSI_WIRE wireLow
        if wireLow ∨ st ≠ 0 ∨ ssiPass c d st check = false then
          let bad := smGet zero s.fbi.ssiBad k.val + 1
          let s2 := fincSat (fsetb s1 a F.FBI_SSI_STAT_VALID false) a F.FBI_SSI_STAT_BAD_CNT
          let s3 := { s2 with fbi := { s2.fbi with ssiBad := smSet zero k.val bad s2.fbi.ssiBad } }
          fault (jointSample (.ssi k) none <| whenB (decide (3 ≤ bad) && !ssiJoint s k) (fun s => fsetb s a F.FBI_SSI_STAT_STALE true) s3) Ev.SSI_DISCARDED [k.val]
        else
          let s2 := fsetb s1 a F.FBI_SSI_STAT_VALID true
          let s2 := if ssiJoint s k then s2 else fsetb s2 a F.FBI_SSI_STAT_STALE false
          let s3 := rsetN s2 (R.FBI_SSI_VALUE k.val) (if c.gray then grayDecode c.dataBits d else d)
          let s4 := rset64 s3 (R.FBI_SSI_TB_LO k.val) (R.FBI_SSI_TB_HI k.val) s.tb
          jointSample (.ssi k) none { s4 with fbi := { s4.fbi with ssiBad := smSet zero k.val 0 s4.fbi.ssiBad } })

/-- Faults of a sample (R101): OPEN below 3.6 mA and OVER above 21.0 mA on a 4 to 20 mA input of 25 mA full scale; OVER above
5.10 V on a 0 to 5 V input. -/
def ainOpen (ma : Bool) (code : Nat) : Bool := ma && decide (code * 250 < 36 * 65535)
/-- See `ainOpen`. -/
def ainOver (ma : Bool) (code : Nat) (above : Bool) : Bool := above || ma && decide (210 * 65535 < code * 250)

/-- AIN_SAMPLE (R101, R102): at the input's own instants the sample is stored with its stamp; a fault clears VALID, and the pressure sources and
joints on the input take it (R64, R70). Nothing is converted while PD10 is off or the shunt is open. -/
def execAinSample (n : Fin 16) (code : BitVec 16) (above : Bool) (s : State) : Out :=
  .next (
    let a := R.FBI_AIN n.val
    if domOn s 10 = false ∨ fbit s a F.FBI_AIN_SHUNT_OPEN ∨ s.tb % 20000 ≠ n.val * 1250 then s
    else
      let ma := s.cfg.pinfn.ma.contains n.val
      let op := ainOpen ma code.toNat
      let ov := ainOver ma code.toNat above
      let good := !op && !ov && supplyOk s n.val && decide (smGet zero s.far.ainBad n.val < 3) && !s.far.ainFail && !s.far.retired.contains (13, 0)
      let s1 := fset s a F.FBI_AIN_CODE code.toNat
      let s2 := fsetb (fsetb (fsetb s1 a F.FBI_AIN_OPEN op) a F.FBI_AIN_OVER ov) a F.FBI_AIN_VALID good
      let was := (fget s a F.FBI_AIN_CODE, fbit s a F.FBI_AIN_VALID)
      let s3 := { s2 with fbi := { s2.fbi with ainTb := smSet zero n.val s.tb s2.fbi.ainTb, ainWas := smIns n.val was s2.fbi.ainWas } }
      jointSample (.ain n) none (pressInput (.ain n) (Config.ainScale n.val code.toNat) good 20000 s3))

/-- SHUNT_OPEN (R101): a 4 to 20 mA input above 30 mA. -/
def shuntOpen (n : Nat) (s : State) : State :=
  let a := R.FBI_AIN n
  let s1 := fsetb (fsetb s a F.FBI_AIN_VALID false) a F.FBI_AIN_OVER true
  let s2 := { s1 with fbi := { s1.fbi with shuntAt := smIns n s.tb s1.fbi.shuntAt } }
  raise (fsetb (fsetb s2 a F.FBI_AIN_SHUNT_OPEN true) a F.FBI_AIN_OPEN false) Ev.SHUNT_OPEN [n]

/-- SHUNT_OPEN (R101). -/
def execShuntOpen (n : Fin 16) (s : State) : Out :=
  .next (if s.cfg.pinfn.ma.contains n.val ∧ fbit s (R.FBI_AIN n.val) F.FBI_AIN_SHUNT_OPEN = false then shuntOpen n.val s else s)

/-- SHUNT_CLOSE (R101): 100 ms after it opened; with the current still too high it opens again at once. -/
def execShuntClose (n : Fin 16) (high : Bool) (s : State) : Out :=
  .next (if fbit s (R.FBI_AIN n.val) F.FBI_AIN_SHUNT_OPEN = false ∨ s.tb < smGet zero s.fbi.shuntAt n.val + msTicks 100 then s
    else
      let s1 := fsetb s (R.FBI_AIN n.val) F.FBI_AIN_SHUNT_OPEN false
      if high then shuntOpen n.val s1 else s1)

/-- SUPPLY_FAULT of every counter channel and analog input on a supply's connector (R102, R491). -/
def supplyFault (b fault : Bool) (s : State) : State :=
  let off := if b then 8 else 0
  forN 8 (fun i s =>
    let n := off + i
    let s1 := fsetb s (R.FBI_STAT n) F.FBI_STAT_SUPPLY_FAULT fault
    let s2 := fbiValid n s1
    let s3 := fsetb s2 (R.FBI_AIN n) F.FBI_AIN_SUPPLY_FAULT fault
    whenB fault (fun s => fsetb s (R.FBI_AIN n) F.FBI_AIN_VALID false) s3) s

/-- SUPPLY_LIMIT_OFF (R102). -/
def execSupplyLimitOff (b : Bool) (s : State) : Out :=
  .next (
    let okF := if b then F.FBI_SUP_SUP5B_OK else F.FBI_SUP_SUP5A_OK
    let trF := if b then F.FBI_SUP_SUP5B_TRIPS else F.FBI_SUP_SUP5A_TRIPS
    if fbit s R.FBI_SUP okF = false then s
    else
      let s1 := { s with fbi := { s.fbi with supAt := smIns (b2n b) s.tb s.fbi.supAt } }
      fault (supplyFault b true (fincSat (fsetb s1 R.FBI_SUP okF false) R.FBI_SUP trF)) Ev.SUPPLY_FAULT [b2n b])

/-- SUPPLY_RETRY (R102): the supply is on again 1 s after it switched off. -/
def execSupplyRetry (b : Bool) (s : State) : Out :=
  .next (
    let okF := if b then F.FBI_SUP_SUP5B_OK else F.FBI_SUP_SUP5A_OK
    if fbit s R.FBI_SUP okF ∨ s.tb < smGet zero s.fbi.supAt (b2n b) + secTicks then s
    else faultEnd (supplyFault b false (fsetb s R.FBI_SUP okF true)) Ev.SUPPLY_FAULT [b2n b])

end Sys2Proof.Machine
end

