-- ==== Sys2Proof/Machine/Stride.lean ====
section
/-!
DEFINITION. Machine/Stride.lean: the stride cycle (R149 to R182): the boundary, the lanes, the cut-off and late cycles, the write-back,
the commit point of a queue entry, and the halt of PD1 by a debug session (R179, R246).
-/

namespace Sys2Proof.Machine

/-! ### Lanes -/

/-- Stride lanes in service, in order (R174). -/
def strLanes (s : State) : List Nat :=
  (List.range 9).filter (fun i => !isRetired s 0 i && !(sparesOf s 0).contains i && (sliceOf s 0).all (fun x => x.unit != i))

/-- Evaluations of the cycle dealt to the lane at a place of a list of `l` lanes: the list of `e` is dealt round-robin (R174). -/
def laneShare (l e i : Nat) : Nat := if l = 0 ∨ e ≤ i then 0 else (e - 1 - i) / l + 1

/-- Deal the evaluations (R174, R175): STR_LANEn.EVALS and CHECKED. -/
def dealLanes (e : Nat) (s : State) : State :=
  let ls := strLanes s
  forN 9 (fun i s' =>
    let k := if ls.contains i then laneShare ls.length e (ls.idxOf i) else 0
    fsetb (fset s' (R.STR_LANE i) F.STR_LANE_EVALS (fitU 8 k)) (R.STR_LANE i) F.STR_LANE_CHECKED
      (decide (laneDue s 0 = i ∧ 0 < e) && !(sparesOf s 0).isEmpty)) s

/-- The outputs with an evaluation on a lane (R174, R175): evaluation k × n + j belongs to output j at horizon k. -/
def laneOuts (s : State) (lane : Nat) : List Nat :=
  let ls := strLanes s
  let os := strideOuts s
  (os.zipIdx.filter (fun o => (List.range (fget s R.STR_STATUS F.STR_STATUS_N_EFF)).any
    (fun k => ls[(k * os.length + o.2) % ls.length]? == some lane))).map (·.1.out)

/-! ### The boundary -/

/-- The engine may decide: PD1 runs and is not halted, no halter mode, this module drives the position, and a lane is in service. -/
def engineMay (s : State) : Bool :=
  s.pwr.tbRun && domOn s 1 && !s.pwm.halted && !halterActive s && drives s && !(strLanes s).isEmpty

/-- The footprints of the cycle (R67, R153), and whether a fan's width is held at a limit. -/
def footBoundary (s : State) : State :=
  let s1 := { s with str := { s.str with
    prevFoots := s.str.foots, foots := (strideOuts s).foldl (fun m o => smIns o.out (footOf s o) m) [] } }
  forEach (strideOuts s) (fun o s => fsetb s (R.STR_OUT o.out) F.STR_OUT_HEIGHT_LIMIT (heightLimit o (outHeight s o))) s1

/-- STR_RATEn (R161, R193): the prescribed rate at the footprint centre at ground tick B + ON, while a job is in RUN and the pose and the
footprint are known. Log 43: DEDUCED. -/
def rateOut (B : Nat) (o : OutEnt) (s : State) : State :=
  let a := R.STR_RATE o.out
  let f := footNow s o.out
  match s.pos.cur with
  | some r =>
    if jobRun s ∧ poseValid s = true ∧ f.ok = true ∧ o.role ≠ .stall then
      let v := rateAt s o.sect (footCentre (placeAt r (sinceRec r B (2 * onDelay s o.out))) 0 f)
      fsetb (fset (fsetb s a F.STR_RATE_VALID true) a F.STR_RATE_RATE v.1) a F.STR_RATE_DEFAULT v.2
    else rset s a 0
  | none => rset s a 0

/-- EXP of the layer of a section (R191); a section mapped to NONE has none. Log 43: DEDUCED. -/
def rateExp (s : State) (sect : Nat) : Int :=
  match s.cov.job, s.cfg.secs.find? (fun x => x.sect == sect) with
  | some j, some x => match j.secRx.find? (fun r => r.1 == x.team) with
    | some (_, some k, _) => (j.layers[k]?.map (·.exp)).getD 0
    | _ => Config.noneExp x.team
  | _, _ => 0

/-- R_k of the outputs whose rate is VALID (R281): rate code × 10^EXP. Log 45: DEDUCED. -/
def rateList (s : State) : List (Nat × Word) :=
  (strideOuts s).filterMap (fun o =>
    if fbit s (R.STR_RATE o.out) F.STR_RATE_VALID then
      let c := fget s (R.STR_RATE o.out) F.STR_RATE_RATE
      let e := rateExp s o.sect
      some (o.out, if 0 ≤ e then fOfInt ((c * 10 ^ e.toNat : Nat) : Int) else fOfRatio c (10 ^ (-e).toNat))
    else none)

/-- v for the rate loops (R281). -/
def rateSpeed (s : State) : Int :=
  match s.pos.cur with
  | some r => if poseValid s then r.v.natAbs else (speedDirect s).getD 0
  | none => (speedDirect s).getD 0

/-- The number of horizons in effect at a boundary (R177). -/
def horizonsBoundary (s : State) : State :=
  let n := fget s R.STR_CFG F.STR_CFG_N_HZ
  if fbit s R.STR_STATUS F.STR_STATUS_REDUCED then fset s R.STR_STATUS F.STR_STATUS_N_EFF (min n 4)
  else if 3 ≤ fget s R.STR_OVR F.STR_OVR_CONSEC then
    fault (fset (fsetb s R.STR_STATUS F.STR_STATUS_REDUCED true) R.STR_STATUS F.STR_STATUS_N_EFF (min n 4)) Ev.STRIDE_REDUCED []
  else fset s R.STR_STATUS F.STR_STATUS_N_EFF n

/-- A window of a stall that cannot be recorded from now on (R221). -/
def stallGaps (s : State) : State :=
  forEach (strideOuts s) (fun o s =>
    let x := outSt s o.out
    if x.win = 0 ∨ x.winGap.isSome then s else setOut s o.out { x with winGap := stallCause s }) s

/-- The engine decides in L2 (R152 to R156, R174). -/
def decideBoundary (B : Nat) (s : State) : State :=
  let s1 := horizonsBoundary (fsetb (fsetb { s with str := { s.str with direct := [] } } R.STR_STATUS F.STR_STATUS_RUN true)
    R.STR_MODE F.STR_MODE_DIRECT false)
  let s2 := forEach (strideOuts s1) (fun o s => setOut s o.out { outSt s o.out with sweep := some (evaluate s B o), cutHz := none }) s1
  let miss := (strideOuts s2).any (fun o => (outSt s2 o.out).sweep.elim false (fun w => w.miss.isSome))
  dealLanes ((strideOuts s2).length * fget s2 R.STR_STATUS F.STR_STATUS_N_EFF) (if miss then fsetb s2 R.STR_STATUS F.STR_STATUS_MAP_MISS true else s2)

/-- Direct section control at a boundary (R218). -/
def directBoundary (B : Nat) (s : State) : State :=
  let s1 := fsetb (fsetb s R.STR_STATUS F.STR_STATUS_RUN true) R.STR_MODE F.STR_MODE_DIRECT true
  dealLanes 0 (forEach s1.cfg.secs (dirSection B) s1)

/-- The engine at a boundary: it decides in L2, controls directly in L1 (R218), or does not run. -/
def engineBoundary (B : Nat) (s : State) : State :=
  let s1 := forEach (strideOuts s) (fun o s => setOut s o.out { outSt s o.out with sweep := none, cutHz := none }) s
  if engineMay s1 && level s1 == 2 then decideBoundary B s1
  else if engineMay s1 && directDue s1 B then directBoundary B s1
  else dealLanes 0 (fsetb (engineStop s1) R.STR_MODE F.STR_MODE_DIRECT false)

/-- What the engine did in the cycle that ends (R173): 0 it decided, 2 it did not run, 3 direct section control. -/
def cycleKind (s : State) : Nat :=
  if fbit s R.STR_STATUS F.STR_STATUS_RUN = false then 2 else if fbit s R.STR_MODE F.STR_MODE_DIRECT then 3 else 0

/-- SUSPEND at the boundary the leader has named because a lease ended (R403, R203). -/
def suspendDue (B : Nat) (s : State) : State :=
  match s.cov.suspAt with
  | some b =>
    if B < b then s
    else
      let s1 := { s with cov := { s.cov with suspAt := none } }
      if jobState s = 3 then setJobState 4 (jobTeam 3 s1) else s1
  | none => s

/-- The work of PD1 at a boundary, in the order of R149. -/
def coreBoundary (B : Nat) (s' : State) : State :=
  let s := suspendDue B s'
  let s0 := { s with str := { s.str with prevGap := cycleKind s } }
  let s1 := spoofSync (platTrack (poseBoundary B s0))
  let s2 := staged (fun s => delayLatch (jointSnapshot s)) s1
  let s3 := wantBoundary (footBoundary s2)
  let s4 := levelUp (secEnLatch (modeEval (workBoundary (schedBoundary B s3))))
  let s5 := stallGaps (engineBoundary B s4)
  let s7 := fsetb (workReport (tlogBoundary (mergeBoundary s5))) R.STR_STATUS F.STR_STATUS_PROV_FULL false
  forEach (strideOuts s7) (fun o s => nextReg o.out s) (ctlBoundary B (rateList s7) (rateSpeed s7) (slewBoundary B (ttMissed B s7)))

/-- STRIDE_BOUNDARY (R149): at a TB tick that is a multiple of 40,000, once. The counters are read in PD11 also while PD1 stands. -/
def execStrideBoundary (s : State) : Out :=
  .next (if s.pwr.tbRun = false ∨ s.tb % cycleTicks ≠ 0 ∨ s.str.cycle = s.tb then s
    else
      let B := s.tb
      let s1 := counterSnapshot B { s with str := { s.str with cycle := B, written := false, late := false } }
      if domOn s 1 = false ∨ s.pwm.halted then s1
      else coreBoundary B (rset64 s1 R.STR_CYCLE_LO R.STR_CYCLE_HI B))

/-! ### The cut-off -/

/-- STRIDE_LATE (R176): the record of the first overrun of a run, and one summary each second after it. Log 45: DEDUCED. -/
def lateRecord (first : Bool) (n low : Nat) (s : State) : State :=
  if first then fault { s with str := { s.str with lateSum := 0, lateAt := s.tb } } Ev.STRIDE_LATE [n, low]
  else
    let sum := s.str.lateSum + n
    if s.str.lateAt + secTicks ≤ s.tb then raise { s with str := { s.str with lateSum := 0, lateAt := s.tb } } Ev.STRIDE_LATE [sum, low]
    else { s with str := { s.str with lateSum := sum } }

/-- STRIDE_CUTOFF (R176): at B + 38,000 the evaluations not finished are abandoned. Log 45: DEDUCED. -/
def execStrideCutoff (cuts : List (Fin 96 × Fin 8)) (s : State) : Out :=
  .next (
    let nEff := fget s R.STR_STATUS F.STR_STATUS_N_EFF
    let hit := cuts.filter (fun c => (outSt s c.1.val).sweep.isSome && decide (c.2.val < nEff))
    if s.str.written ∨ s.str.late ∨ s.tb < s.str.cycle + 38000 ∨ s.str.cycle + cycleTicks ≤ s.tb ∨ hit = [] then s
    else
      let n := hit.foldl (fun n c => n + (nEff - c.2.val)) 0
      let low := hit.foldl (fun m c => min m c.2.val) 7
      let first := fget s R.STR_OVR F.STR_OVR_CONSEC == 0
      let s1 := forEach hit (fun c s => setOut s c.1.val { outSt s c.1.val with cutHz := some c.2.val }) s
      let s2 := fset (fincSat (fincSat s1 R.STR_OVR F.STR_OVR_OVERRUNS) R.STR_OVR F.STR_OVR_CONSEC) R.STR_OVR F.STR_OVR_LOW_SKIP low
      lateRecord first n low (fsetb { s2 with str := { s2.str with late := true, cleanRun := 0 } } R.STR_STATUS F.STR_STATUS_STRIDE_LATE true))

/-- STRIDE_FULL_RESTORE (R177): at a boundary after 5,000 cycles without overrun, every lane in service with a margin of WARN_PCT. -/
def execStrideFullRestore (s : State) : Out :=
  .next (
    let warn := fget s R.SYS_GAIT_CFG F.SYS_GAIT_CFG_WARN_PCT
    if fbit s R.STR_STATUS F.STR_STATUS_REDUCED = false ∨ s.str.cleanRun < 5000 ∨ s.tb % cycleTicks ≠ 0 ∨
        (strLanes s).any (fun i => decide (fget s (R.SYS_GAIT_PACE i) F.SYS_GAIT_PACE_MARGIN < warn)) then s
    else
      faultEnd (fset (fsetb s R.STR_STATUS F.STR_STATUS_REDUCED false) R.STR_STATUS F.STR_STATUS_N_EFF (fget s R.STR_CFG F.STR_CFG_N_HZ))
        Ev.STRIDE_REDUCED [])

/-! ### The write-back -/

/-- The results of the checked lane differ (R175): twice running, the farrier retires it. Log 45: DEDUCED. -/
def laneMismatch (lane : Nat) (s : State) : State :=
  let s1 := fincSat (fincWrap s R.STR_MISMATCH_CNT F.STR_MISMATCH_CNT_COUNT) (R.STR_LANE lane) F.STR_LANE_MISMATCH
  let s2 := faultOnce s1 Ev.LANE_MISMATCH [lane]
  if s.str.misLane = some lane then
    unitRetire 0 lane (fault { s2 with str := { s2.str with misLane := none } } Ev.LANE_RETIRED [0, lane])
  else { s2 with str := { s2.str with misLane := some lane } }

/-- Horizon 0 of an output (R178): after 10 cycles without it the output stops; it clears with the first cycle that completes it. -/
def horizon0 (n : Nat) (s : State) : State :=
  let o := outSt s n
  if o.cutHz = some 0 then
    let s1 := setOut s n { o with noHz0 := o.noHz0 + 1 }
    if o.noHz0 + 1 < 10 then s1
    else
      let s2 := stopOut n (s.str.cycle + cycleTicks) (fget s1 (R.STR_OUT n) F.STR_OUT_REASON) s1
      if fbit s (R.STR_OUT n) F.STR_OUT_STALL then s2 else fault (fsetb s2 (R.STR_OUT n) F.STR_OUT_STALL true) Ev.STRIDE_STALL [n]
  else
    let s1 := setOut s n { o with noHz0 := 0 }
    if fbit s (R.STR_OUT n) F.STR_OUT_STALL then faultEnd (fsetb s1 (R.STR_OUT n) F.STR_OUT_STALL false) Ev.STRIDE_STALL [n] else s1

/-- The plans of a cycle (R158 to R164, R178), but for outputs whose results are discarded (R175). -/
def planAll (B : Nat) (skip : List Nat) (s : State) : State :=
  forEach (strideOuts s) (fun o s =>
    if skip.contains o.out then s
    else match (outSt s o.out).sweep with
      | some w => horizon0 o.out (planOut B o (cutSweep (outSt s o.out).cutHz B w) s)
      | none => s) s

/-- The team's part of the shadow (R350): boundary, team time, swap state, section enables, mode and term. -/
def shadowTeam (s : State) : List Int :=
  [(s.str.cycle : Int), ttOfsI s, ttState s, s.pos.slew.getD 0, fget s R.IMG_STATUS F.IMG_STATUS_STATE, (s.img.swapC.getD 0 : Nat),
    (rget s R.STR_SECCTL).toNat, (rget s (R.STR_SECSW 0)).toNat, (rget s (R.STR_SECSW 1)).toNat, (rget s (R.STR_SECSW 2)).toNat,
    (rget s R.STR_MODE).toNat, fget s R.TLK_TERM F.TLK_TERM_TERM, s.str.sRef, s.str.cRef]

/-- The shadow of this module as it drives the position (R350): plans and commit positions, loops, the ISOBUS stack, the solver and time
master where it holds the roles, the swap, schedules and track state, and the team's part. -/
def shadowOf (s : State) : Shadow :=
  let p := s.pos
  let bus := (List.range 4).find? (fun c => fbit s (R.CAN_ISO c) F.CAN_ISO_ROLE)
  { b := s.str.cycle
    outs := (strideOuts s).map (fun o =>
      let x := outSt s o.out
      ⟨o.out, gateOn s o.out, genOf s o.out, fget s (R.COV_SEQ o.out) F.COV_SEQ_SEQ, x.doneTo, x.queue, x.win, x.winOff, x.winFrom, x.dose, x.doseTo⟩)
    loops := s.ctl.loops.map (fun l => (l.1, l.2, rget s (R.CTL_LOOP_STAT l.1)))
    iso := bus.map (fun c =>
      let x := canOf s c
      ⟨c, fget s (R.CAN_ISO c) F.CAN_ISO_ADDR, x.claim, x.name, x.tp⟩)
    pose := if fbit s R.TLK_STATUS F.TLK_STATUS_POSE_ROLE then
      some ⟨p.gnss, p.ext, p.speed, p.source, p.drSince, p.blendUm, p.blendV, p.corrSt, p.shapeRun, p.shapeEp, p.ratioRun, p.next⟩ else none
    time := if fbit s R.TLK_STATUS F.TLK_STATUS_TIME_ROLE then
      some ⟨ttOfsI s, ttState s, p.slew, p.slewAt, p.validEp, p.solAt, p.holdAt, p.extSet, p.stepPend, p.ofsNamed, p.lastS, p.lastPulse⟩ else none
    swap := s.img.swapC.map (fun c =>
      ⟨fget s R.IMG_STATUS F.IMG_STATUS_STATE, c, s.img.scope, s.img.loopScope, s.img.loopGone⟩)
    scheds := s.str.scheds, schedOff := s.str.schedOff, chgs := s.str.chgs, modeNext := s.str.modeNext
    sRef := s.str.sRef, cRef := s.str.cRef, orient := s.str.orient
    secctl := rget s R.STR_SECCTL
    secsw := (List.range 3).map (fun k => rget s (R.STR_SECSW k))
    stalls := (List.range 96).map (fun k => rget s (R.STR_STALL k))
    mode := rget s R.STR_MODE
    term := fget s R.TLK_TERM F.TLK_TERM_TERM
    sess := (s.brd.sess.filter (fun x => decide (4 ≤ x.1) && bus == some (fget s (R.BRD_SESS_STAT x.1) F.BRD_SESS_STAT_CTRL))).map
      (fun x => (x.1, x.2, rget s (R.BRD_SESS_STAT x.1)))
    keyoff := s.pwr.keyoffK
    roleNext := s.team.roleNext, runAt := s.cov.runAt, tabMembers := s.team.tabMembers }

/-- The shadow goes to the partner each cycle (R180, R350): the plans with generations, the last commit numbers and the ground ticks
committed to, and the team's part. -/
def shadowPlans (s : State) : State :=
  if fget s R.TLK_PAIR_STAT F.TLK_PAIR_STAT_STATE ≠ 1 then s
  else
    let s1 := forEach (strideOuts s) (fun o s =>
      let x := outSt s o.out
      send s MsgKind.PL_PLAN (midOf s ^^^ 1)
        (([o.out, genOf s o.out, b2n (gateOn s o.out), fget s (R.COV_SEQ o.out) F.COV_SEQ_SEQ, x.doneTo] : List Nat).map Int.ofNat
          ++ x.queue.flatMap (fun e => ([b2n e.on, e.tick, e.ground, e.gen, e.hz, b2n e.late] : List Nat).map Int.ofNat))) s
    let s2 := { s1 with team := { s1.team with shadowTx := some (shadowOf s) } }
    send s2 MsgKind.PL_SHADOW (midOf s ^^^ 1) (shadowTeam s)

/-- A cycle without overrun (R176, R177): a run of overruns is over. -/
def cleanCycle (s : State) : State :=
  let s1 := fset { s with str := { s.str with cleanRun := s.str.cleanRun + 1 } } R.STR_OVR F.STR_OVR_CONSEC 0
  if fget s R.STR_OVR F.STR_OVR_CONSEC = 0 then s1 else faultOver s1 Ev.STRIDE_LATE []

/-- STRIDE_WRITEBACK (R149, R150, R163, R172, R175): the evaluations end, plans are written, commits are made. The scope of a live swap takes no
decision in its quiesce cycle (R50). -/
def execStrideWriteback (mis : Bool) (s : State) : Out :=
  .next (
    let B := s.str.cycle
    if s.str.written ∨ s.pwr.tbRun = false ∨ domOn s 1 = false ∨ s.pwm.halted ∨ s.tb < B ∨ B + cycleTicks ≤ s.tb then s
    else staged (fun s =>
      let run := engineRuns s
      let direct := fbit s R.STR_MODE F.STR_MODE_DIRECT
      let lane := laneDue s 0
      let checked := run && !direct && !(sparesOf s 0).isEmpty && (strLanes s).contains lane
      let skip := (if mis && checked then laneOuts s lane else []) ++ (if quiescing s then s.img.scope else [])
      let s1 := if mis && checked then laneMismatch lane s
        else if checked then rotate 0 lane { s with str := { s.str with misLane := none } } else s
      let s2 := if run = false then s1
        else if direct then forEach ((strideOuts s1).filter (fun o => !skip.contains o.out)) (fun o s => planDirect B o s) s1
        else planAll B skip s1
      let s2 := forEach ((strideOuts s2).filter (fun o => !skip.contains o.out)) (fun o s => rateOut B o s) s2
      let s3 := provTidy (commitAll B s2)
      let s4 := { s3 with str := { s3.str with written := true } }
      shadowPlans (if run = false ∨ direct = true ∨ s.str.late = true then s4
        else cleanCycle s4)) s)

/-! ### The commit point -/

/-- The transitions commanded that may still matter at a tick: those with a ground tick to come, and the last that has landed. -/
def fixedTrim (t : Nat) : List (Nat × Bool) → List (Nat × Bool)
  | [] => []
  | x :: l => if x.1 ≤ t then [x] else x :: fixedTrim t l

/-- The gate takes a type, and the transition counts as commanded with the delay in force. -/
def gateTake (n : Nat) (on : Bool) (ground : Nat) (s : State) : State :=
  let s1 := setGate n on s
  if gateOn s n = on then s1 else setOut s1 n { outSt s1 n with fixed := fixedTrim (s.tb - cycleTicks) ((ground, on) :: (outSt s1 n).fixed) }

/-- EVENT_COMMIT (R165): the first entry of a queue whose TICK has come sets the stride gate and is removed. -/
def execEventCommit (out : Fin 96) (s : State) : Out :=
  .next (
    let n := out.val
    match (outSt s n).queue with
    | e :: q =>
      if s.tb < e.tick ∨ s.pwr.tbRun = false ∨ s.pwm.frozen.isSome ∨ domOn s 10 = false ∨ gateLive s = false then s
      else staged (fun s => nextReg n (gateTake n e.on e.ground (setOut s n
          { outSt s n with queue := q, last := some (s.tb, e, gateOn s n, (outSt s n).fixed) }))) s
    | [] => s)

/-- Entries whose tick lies before T are not executed: the gate takes the TYPE of the last of them at T (R179, R180). Log 52: DEDUCED. -/
def queueCatchUp (T : Nat) (s : State) : State :=
  forEach (strideOuts s) (fun o s =>
    let n := o.out
    let q := (outSt s n).queue
    match (q.filter (fun e => decide (e.tick < T))).getLast? with
    | none => s
    | some e =>
      let s1 := setOut s n { outSt s n with queue := q.filter (fun x => decide (T ≤ x.tick)) }
      nextReg n (gateTake n e.on (T + (if e.on then onDelay s n else offDelay s n)) s1)) s

/-! ### The debug halt -/

/-- The entries executed in the tick of a halt are not (R248): they stand in their queues, and the gates as they were. -/
def haltUndo (s : State) : State :=
  forN 96 (fun n s => match (outSt s n).last with
    | some (t, e, g, l) =>
      if t = s.tb then nextReg n (setOut (setGate n g s) n { outSt s n with queue := e :: (outSt s n).queue, fixed := l, last := none }) else s
    | none => s) s

/-- DEBUG_HALT (R179, R246, R269): PD1 halts, the generator freezes, the watchdog starts. Log 45: DEDUCED. -/
def execDebugHalt (who : Fin 36) (s : State) : Out :=
  .next (rapDo s who.val .debug 0 0 fun s =>
    if domOn s 1 = false ∨ s.pwm.halted then s
    else staged (fun s => halterCheck (wdStart (freeze
      (let s1 := slicesDrop (haltUndo s)
      { s1 with pwm := { s1.pwm with halted := true } })))) s)

/-- DEBUG_RESUME (R179, R246). Log 45: DEDUCED. -/
def execDebugResume (who : Fin 36) (s : State) : Out :=
  .next (rapDo s who.val .debug 0 0 fun s =>
    if s.pwm.halted = false then s
    else staged (fun s => queueCatchUp s.tb (unfreeze
      { s with pwm := { s.pwm with halted := false } })) s)

end Sys2Proof.Machine
end

