-- ==== Sys2Proof/Machine/Links.lean ====
section
/-!
DEFINITION. Machine/Links.lean: the link layer of the Tumar links (R331 to R336, R345): frames, credits, acknowledgements, the states of a
link and rerouting.
-/

namespace Sys2Proof.Machine

/-- A link before its first frame; credits and LSEQ count from the buffers of R333. -/
def tlInit : Nat → LinkTx := fun _ =>
  { rxExp := [], txSeq := [], credits := [], fails := [], unacked := [], waiting := [], since := 0, syncAt := none, t1 := none, rr := 0,
    offs := [] }

/-- The leader makes a new team session key (R396); frames under the old one are accepted for at most 100 ms (R412). -/
def tskNew (s : State) : State :=
  freeNext { s with brd := { s.brd with tsk := s.freeCnt, tskAt := s.tb, tskOld := some s.brd.tsk } }

/-- What the module holds of a link: 0 to 3 TL1 to TL4, 4 PL. -/
def tlOf (s : State) (n : Nat) : LinkTx := smGet tlInit s.team.links n

/-- Record it. -/
def setTl (n : Nat) (x : LinkTx) (s : State) : State := { s with team := { s.team with links := smSet tlInit n x s.team.links } }

/-- STATE of a link (R336): 0 DOWN, 1 TRAINING, 2 UP. -/
def linkState (s : State) (n : Nat) : Nat := fget s (R.TLK_LINK_STAT n) F.TLK_LINK_STAT_STATE

/-- A link is UP. -/
def linkUp (s : State) (n : Nat) : Bool := linkState s n == 2

/-- The links that are UP, with the modules at their far ends. -/
def upLinks (s : State) : List (Nat × Nat) :=
  ((List.range 5).filter (linkUp s)).map (fun n => (n, fget s (R.TLK_LINK_STAT n) F.TLK_LINK_STAT_PEER))

/-- Receive buffers of a class on a link (R333). -/
def classBuffers (c : Nat) : Nat := [4, 8, 8, 16, 8, 16].getD c 0

/-- Frames of a class that may stand unacknowledged (R333). -/
def classLimit (c : Nat) : Nat := [4, 8, 8, 8, 8, 8].getD c 0

/-- A link control frame leaves; it needs no credit (R333). -/
def lcSend (n : Nat) (kind cls v : Nat) (s : State) : State := send s MsgKind.LINK_CONTROL n [kind, cls, v]

/-! ### Sending -/

/-- Credits a sender holds for a class. -/
def creditsOf (x : LinkTx) (c : Nat) : Nat := smGet classBuffers x.credits c

/-- The class has a frame ready, a credit, and room among the unacknowledged (R333, R335). -/
def classReady (x : LinkTx) (c : Nat) : Bool :=
  x.waiting.any (fun f => f.cls == c) && decide (0 < creditsOf x c)
    && decide ((x.unacked.filter (fun u => u.1.cls == c)).length < classLimit c)

/-- Numbers of a frame for a message. -/
def frameArgs (f : LFrame) : List Int :=
  [f.cls, f.dst, f.src, f.hops, f.lseq, f.flags, f.len, f.msgid]

/-- One frame leaves: the next class in round-robin order that may send (R335). Log 28: DESIGN CHOICE. Log 51: DEDUCED. -/
def linkOne (n : Nat) (s : State) : State :=
  let x := tlOf s n
  match ((List.range 6).map (fun d => (x.rr + d) % 6)).find? (classReady x) with
  | none => s
  | some c => match x.waiting.find? (fun f => f.cls == c) with
    | none => s
    | some f0 =>
      let q := smGet zero x.txSeq c
      let f := { f0 with lseq := q }
      send (setTl n { x with
        waiting := removeFirst (fun g => g.cls == c) x.waiting
        txSeq := smSet zero c ((q + 1) % 256) x.txSeq
        credits := smSet classBuffers c (creditsOf x c - 1) x.credits
        unacked := x.unacked ++ [(f, s.tb)], rr := (c + 1) % 6 } s) MsgKind.LINK_FRAME n (frameArgs f)

/-- Frames leave a link while it may send (R335). -/
def linkPump (n : Nat) (s : State) : State :=
  if linkUp s n = false then s else forN (tlOf s n).waiting.length (fun _ s => linkOne n s) s

/-- Put a frame on a link's output. -/
def linkPut (f : LFrame) (n : Nat) (s : State) : State :=
  let x := tlOf s n
  linkPump n (setTl n { x with waiting := x.waiting ++ [f] } s)

/-! ### Routes -/

/-- The link toward a destination (R343, R345): the primary next hop, or the backup while that link is not UP. A neighbour is reached
directly before a table names it. -/
def portFor (s : State) (dst : Nat) : Option Nat :=
  match s.team.routes.hops.find? (fun h => h.1 == dst) with
  | some h => if linkUp s h.2.1 then some h.2.1 else h.2.2.filter (linkUp s)
  | none => ((upLinks s).find? (fun p => p.2 == dst)).map (·.1)

/-- The links of the broadcast tree, or of its backup while one of them is not UP (R343, R345). -/
def castPorts (s : State) : List Nat :=
  if s.team.routes.tree.all (linkUp s) then s.team.routes.tree else s.team.routes.backTree.filter (linkUp s)

/-- A frame goes on toward its destination, but not back over the link it came by. With no route it is unreachable and lost. Log 51: DEDUCED. -/
def frameOut (f : LFrame) (from_ : Nat) (s : State) : State :=
  if f.dst = 255 then forEach ((castPorts s).filter (· != from_)) (linkPut f) s
  else match portFor s f.dst with
    | some n => linkPut f n s
    | none => s

/-- The class of a team message (R333); none: it does not travel over the team links. -/
def msgClass : MsgKind → Option Nat
  | MsgKind.LEADER_BEAT => some 0
  | MsgKind.TT_OFS => some 0
  | MsgKind.POSE_RECORD => some 1
  | MsgKind.GNSS_RECORD => some 1
  | MsgKind.RTCM => some 1
  | MsgKind.DRIVE_CLAIM => some 2
  | MsgKind.POSITION_SAFE => some 2
  | MsgKind.SAFETY_PDU => some 2
  | MsgKind.COMMIT_STRIP => some 3
  | MsgKind.ROUTING_TABLE => some 4
  | MsgKind.ROLE_MOVE => some 4
  | MsgKind.SECTION_STATE => some 4
  | MsgKind.TEAM_STATE_CHANGE => some 4
  | MsgKind.MODE_CHANGE => some 4
  | MsgKind.JOB_COMMAND => some 4
  | MsgKind.JOB_RUN => some 4
  | MsgKind.RASTER_HASH => some 4
  | MsgKind.EXCL_ACK => some 4
  | MsgKind.EXCL_NAMED => some 4
  | MsgKind.EXCL_POLYGON => some 4
  | MsgKind.COLLECT => some 5
  | MsgKind.RESEND => some 3
  | MsgKind.CATCH_UP_RESTART => some 4
  | MsgKind.PATH_SWITCH => some 4
  | MsgKind.RELAY_REQUEST => some 4
  | MsgKind.RELAY_RESPONSE => some 4
  | MsgKind.STAGED_OK => some 4
  | MsgKind.PREPARE => some 4
  | MsgKind.PREPARE_ACK => some 4
  | MsgKind.SWAP_ABORT => some 4
  | MsgKind.TEAM_RESTART => some 4
  | MsgKind.KEYOFF => some 4
  | MsgKind.KEYOFF_REPORT => some 4
  | MsgKind.TRANSFER => some 4
  | MsgKind.TSK_WRAP => some 4
  | MsgKind.LMK_WRAP => some 4
  | MsgKind.RELAY_DATA => some 5
  | MsgKind.TEAM_IMAGE => some 5
  | MsgKind.JOB_DEFINITION => some 5
  | MsgKind.CATCH_UP_SEQ_TABLE => some 5
  | MsgKind.CATCH_UP_TILE => some 5
  | MsgKind.TILE_REQUEST => some 4
  | _ => none

/-- Frames a message of a length takes, of at most 492 bytes each (R332). Log 51: DEDUCED. -/
def fragments (len : Nat) : Nat := max 1 ((len + 491) / 492)

/-- A fragment of a message, with FIRST and LAST (R332). -/
def fragment (f : LFrame) (len i : Nat) : LFrame :=
  { f with flags := 2 * b2n (i == 0) + 4 * b2n (i + 1 == fragments len), len := min 492 (len - 492 * i) }

/-- Messages handed to the links (R335): each takes the next MSGID of its class, and one of TC5 as many frames as it needs. Log 3: DESIGN CHOICE. -/
def linkFeed (s : State) : State :=
  let new := s.sent.drop s.team.pumped
  let s1 := { s with team := { s.team with pumped := s.sent.length } }
  forEach new (fun m s =>
    match msgClass m.kind with
    | none => s
    | some c =>
      let id := smGet zero s.team.msgId c
      let s2 := { s with team := { s.team with msgId := smSet zero c ((id + 1) % 2 ^ 32) s.team.msgId } }
      let len := Config.msgLen m.kind m.args
      if c = 5 then forN (fragments len) (fun i s => frameOut (fragment ⟨c, m.dst, midOf s, 16, 0, 0, 0, id⟩ len i) 5 s) s2
      else frameOut ⟨c, m.dst, midOf s, 16, 0, 6, len % 493, id⟩ 5 s2) s1

/-! ### The states of a link -/

/-- A link enters a state, with its record (R336). Log 51: DEDUCED. -/
def linkEnter (n st : Nat) (s : State) : State :=
  raise (setTl n { tlOf s n with since := s.tb } (fset s (R.TLK_LINK_STAT n) F.TLK_LINK_STAT_STATE st)) Ev.LINK_STATE [n, st]

/-- The frames a dead link still held take the backup next hops, those sent and not acknowledged with RESENT (R345). Log 51: DEDUCED. -/
def reroute (n : Nat) (s : State) : State :=
  let x := tlOf s n
  let l := x.unacked.map (fun u => { u.1 with flags := setBit u.1.flags 0 true }) ++ x.waiting
  let s1 := setTl n { tlInit n with since := x.since } s
  forEach l (fun f s =>
    let ports := if f.dst = 255 then (castPorts s).filter (· != n) else (portFor s f.dst).toList
    forEach ports (fun m s => fsetb (linkPut f m s) (R.TLK_LINK_STAT m) F.TLK_LINK_STAT_BACKUP_USE true) s) s1

/-- BACKUP_USE of the links that carry rerouted traffic (R345). -/
def backupUse (s : State) : State :=
  forEach (s.team.routes.hops.filter (fun h => !linkUp s h.2.1)) (fun h s =>
    match h.2.2 with
    | some m => if linkUp s m then fsetb s (R.TLK_LINK_STAT m) F.TLK_LINK_STAT_BACKUP_USE true else s
    | none => s) s

/-- The class of a link that goes DOWN (R446, R456): 1 with a backup route for all it carried, otherwise 2. Log 23: DEDUCED. -/
def linkClass (s : State) (n : Nat) : Nat :=
  if (s.team.routes.hops.filter (fun h => h.2.1 == n)).all (fun h => match h.2.2 with | some m => linkUp s m | none => false) then 1 else 2

/-- A link is declared DOWN (R336); one that carried traffic is a fault (R456). -/
def linkDown (n : Nat) (s0 : State) : State :=
  if linkState s0 n = 0 then s0
  else
    let s := if linkUp s0 n then report Ev.LINK_STATE [n] (linkClass s0 n) true s0 else s0
    let s1 := fincSat (linkEnter n 0 s) (R.TLK_LINK_CNT n) F.TLK_LINK_CNT_DOWNS
    backupUse (reroute n (fsetb s1 (R.TLK_LINK_STAT n) F.TLK_LINK_STAT_BACKUP_USE false))

/-- The frames of a class are sent again from the one expected (R334): the eighth failure running of one frame takes the link DOWN. -/
def linkResend (n c : Nat) (s : State) : State :=
  let x := tlOf s n
  let l := x.unacked.filter (fun u => u.1.cls == c)
  if l = [] then s
  else
    let k := smGet zero x.fails c + 1
    let s1 := fincSat (setTl n { x with
      fails := smSet zero c k x.fails
      unacked := x.unacked.map (fun u => if u.1.cls == c then (u.1, s.tb) else u) } s) (R.TLK_LINK_CNT n) F.TLK_LINK_CNT_RESENDS
    if 8 ≤ k then linkDown n s1
    else forEach l (fun u s => send s MsgKind.LINK_FRAME n (frameArgs u.1)) s1

/-- Frames of a class up to an LSEQ are acknowledged (R334). -/
def linkAcked (n c lseq : Nat) (s : State) : State :=
  let x := tlOf s n
  let seqs := (x.unacked.filter (fun u => u.1.cls == c)).map (fun u => u.1.lseq)
  if seqs.contains lseq = false then s
  else
    let done := seqs.take (seqs.idxOf lseq + 1)
    linkPump n (setTl n { x with
      fails := smSet zero c 0 x.fails
      unacked := x.unacked.filter (fun u => !(u.1.cls == c && done.contains u.1.lseq)) } s)

/-! ### Receiving -/

/-- A duplicate of a TC4 message is known by (SRC, MSGID) against the last 256 (R345). -/
def seenTc4 (f : LFrame) (s : State) : State :=
  if f.cls = 4 then { s with team := { s.team with seen := ((f.src, f.msgid) :: s.team.seen.filter (· != (f.src, f.msgid))).take 256 } } else s

/-- LINK_FRAME (R332 to R335): accepted in order with a good CRC, acknowledged, its buffer freed, and passed on; anything else is
discarded and answered with the LSEQ expected. -/
def execLinkFrame (n : Fin 5) (f : LFrame) (crcOk : Bool) (s : State) : Out :=
  .next (
    let x := tlOf s n.val
    if linkUp s n.val = false ∨ domOn s 6 = false then s
    else if crcOk = false ∨ 5 < f.cls ∨ 492 < f.len then
      lcSend n.val 1 (f.cls % 8) (smGet zero x.rxExp f.cls)
        (fault (fincSat s (R.TLK_LINK_CNT n.val) F.TLK_LINK_CNT_CRC_ERR) Ev.LINK_RESEND [n.val, f.cls])
    else if f.lseq ≠ smGet zero x.rxExp f.cls then lcSend n.val 1 f.cls (smGet zero x.rxExp f.cls) s
    else
      let s1 := setTl n.val { x with rxExp := smSet zero f.cls ((f.lseq + 1) % 256) x.rxExp } s
      let s2 := lcSend n.val 2 f.cls 1 (lcSend n.val 0 f.cls f.lseq s1)
      if f.dst = midOf s then seenTc4 f s2
      -- a TC4 message for every member that has been received before is discarded (R345)
      else if f.cls = 4 ∧ f.dst = 255 ∧ s.team.seen.contains (f.src, f.msgid) then s2
      else if f.hops ≤ 1 then
        let s3 := { s2 with team := { s2.team with hopsLost := s2.team.hopsLost + 1 } }
        if f.dst = 255 then seenTc4 f s3 else s3
      else
        let s3 := if f.dst = 255 then seenTc4 f s2 else s2
        frameOut { f with hops := f.hops - 1 } n.val s3)

/-- LC_FRAME (R333, R334). -/
def execLcFrame (n : Fin 5) (m : LcMsg) (s : State) : Out :=
  .next (
    if linkUp s n.val = false then s
    else match m with
      | .ack c q => linkAcked n.val c q s
      | .nak c q => linkResend n.val c (linkAcked n.val c ((q + 255) % 256) s)
      | .credit c k =>
        let x := tlOf s n.val
        linkPump n.val (setTl n.val { x with credits := smSet classBuffers c (min (classBuffers c) (creditsOf x c + k)) x.credits } s))

/-- Ticks a frame occupies the wire (R332): header, payload and CRC-32 at 4 ns a byte, and the two ordered sets. -/
def frameTicks (f : LFrame) : Nat := ((f.len + 20) * 4 + 32 + 4) / 5

/-- LINK_ACK_TIMEOUT (R334): 10 µs after its transmission a frame of the class is not acknowledged. -/
def execLinkAckTimeout (n : Fin 5) (cls : Fin 6) (s : State) : Out :=
  .next (match (tlOf s n.val).unacked.find? (fun u => u.1.cls == cls.val) with
    | some u => if linkUp s n.val ∧ u.2 + frameTicks u.1 + usTicks 10 ≤ s.tb then linkResend n.val cls.val s else s
    | none => s)

/-- LINK_TRAINING (R336): a DOWN link starts training every 1 ms. -/
def execLinkTraining (n : Fin 5) (s : State) : Out :=
  .next (if domOn s 6 ∧ linkState s n.val = 0 ∧ (tlOf s n.val).since + msTicks 1 ≤ s.tb then linkEnter n.val 1 s else s)

end Sys2Proof.Machine
end

