-- ==== Sys2Proof/Machine/Team.lean ====
section
/-!
DEFINITION. Machine/Team.lean: the team over the links (R336 to R348): discovery and admission, the leader, the roles, routes, one
timebase.
-/

namespace Sys2Proof.Machine

/-! ### The plan -/

/-- A position of the plan (R338). -/
def planPos (s : State) (p : Nat) : Option PlanPos := s.cfg.plan.positions.find? (fun x => x.pos == p)

/-- The modules the plan holds (R338). -/
def planMids (s : State) : List Nat := s.cfg.plan.positions.flatMap (fun x => if x.paired then [2 * x.pos, 2 * x.pos + 1] else [2 * x.pos])

/-- The HELLO this module sends (R339). -/
def ownHello (s : State) : Hello :=
  ⟨midOf s, isG s, s.pwr.serial, s.tb, s.img.hash, s.cfg.plan.hash, upLinks s, (List.range 96).filter (fun n =>
    fbit s (R.LSW_CH_CFG1 n) F.LSW_CH_CFG1_PAIR_WIRED)⟩

/-- The HELLO last heard of a module. -/
def heardOf (s : State) (m : Nat) : Option Heard := s.team.heard.find? (fun x => x.h.mid == m)

/-- Modules known and not refused, this one among them. -/
def present (s : State) : List Nat := midOf s :: (s.team.heard.map (·.h.mid)).filter (fun m => !s.team.refused.contains m && m != midOf s)

/-! ### The graph of the links that are UP -/

/-- The links a module has UP, by its own registers or its HELLO. -/
def upsOf (s : State) (m : Nat) : List (Nat × Nat) :=
  if m = midOf s then upLinks s else ((heardOf s m).map (·.h.ups)).getD []

/-- The neighbours of a module over links that both ends have UP. Log 51: DEDUCED. -/
def neighboursOf (s : State) (among : List Nat) (m : Nat) : List (Nat × Nat) :=
  (upsOf s m).filter (fun p => among.contains p.2 && (upsOf s p.2).any (fun q => q.2 == m))

/-- A module reached: its number, hops, the link of the source it is reached by, and the module and link it was reached from. -/
structure Reach where
  mid  : Nat
  dist : Nat
  port : Nat
  from_ : Nat
deriving DecidableEq, Repr, Inhabited

/-- Breadth-first search: the modules reached so far, and those of the last round. -/
def bfs (adj : Nat → List (Nat × Nat)) (src : Nat) : Nat → List Reach → List Reach → List Reach
  | 0, all, _ => all
  | n + 1, all, last =>
    let new := last.foldl (fun (acc : List Reach) r =>
      (adj r.mid).foldl (fun (acc : List Reach) p =>
        if (all ++ acc).any (fun x => x.mid == p.2) then acc
        else acc ++ [⟨p.2, r.dist + 1, if r.mid = src then p.1 else r.port, r.mid⟩]) acc) []
    if new = [] then all else bfs adj src n (all ++ new) new

/-- Every module a source reaches, itself first. -/
def reachFrom (adj : Nat → List (Nat × Nat)) (src : Nat) : List Reach := bfs adj src 64 [⟨src, 0, 5, src⟩] [⟨src, 0, 5, src⟩]

/-- Hops from the source. -/
def hopsTo (l : List Reach) (m : Nat) : Option Nat := (l.find? (fun r => r.mid == m)).map (·.dist)

/-- The backup next hop to a destination: the first other link whose neighbour reaches it without the source (R343). -/
def backupPort (adj : Nat → List (Nat × Nat)) (src dst port : Nat) : Option Nat :=
  ((adj src).find? (fun p => p.1 != port &&
    (reachFrom (fun m => (adj m).filter (fun q => q.2 != src)) p.2).any (fun r => r.mid == dst))).map (·.1)

/-- The links of a module in the tree a search makes. -/
def treePorts (adj : Nat → List (Nat × Nat)) (l : List Reach) (m : Nat) : List Nat :=
  ((adj m).filter (fun p => l.any (fun r => (r.mid == m && r.from_ == p.2 && r.mid != r.from_) || (r.mid == p.2 && r.from_ == m && r.mid != r.from_)))).map (·.1)

/-! ### The leader and the roles -/

/-- Order of leadership (R340): LEADER_PRIO, then the lower position, then module A before module B. -/
def leadKey (s : State) (m : Nat) : Nat := ((planPos s (m / 2)).map (·.prio)).getD 0 * 64 + (63 - m)

/-- The module that leads among some; a priority of 0 means never. -/
def bestLeader (s : State) (l : List Nat) : Option Nat :=
  (l.filter (fun m => decide (0 < ((planPos s (m / 2)).map (·.prio)).getD 0))).foldl (fun (best : Option Nat) m => match best with
    | some b => if leadKey s b < leadKey s m then some m else some b
    | none => some m) none

/-- Set the leader. -/
def setLeader (m : Option Nat) (s : State) : State :=
  match m with
  | some v => fsetb (fset s R.TLK_STATUS F.TLK_STATUS_LEADER v) R.TLK_STATUS F.TLK_STATUS_LEADER_VALID true
  | none => fsetb (fset s R.TLK_STATUS F.TLK_STATUS_LEADER 0) R.TLK_STATUS F.TLK_STATUS_LEADER_VALID false

/-- State of this module in the team: 0 DISCOVERY, 1 MEMBER, 2 LEADER, 3 ISOLATED, 4 REFUSED. -/
def teamState (s : State) : Nat := fget s R.TLK_STATUS F.TLK_STATUS_STATE

/-- Set it. -/
def setTeamState (n : Nat) (s : State) : State := fset s R.TLK_STATUS F.TLK_STATUS_STATE n

/-- The members, with TLK_MEMBERS0 and 1. -/
def setMembers (l : List Nat) (s : State) : State :=
  let w (k : Nat) : Nat := (l.filter (fun m => m / 32 == k)).foldl (fun v m => v ||| 2 ^ (m % 32)) 0
  rsetN (rsetN { s with team := { s.team with members := l } } R.TLK_MEMBERS0 (w 0)) R.TLK_MEMBERS1 (w 1)

/-- The candidates of a role in order (R338). -/
def candidates (s : State) (r : Nat) : List Nat :=
  match r with
  | 0 => s.cfg.plan.pose
  | 1 => s.cfg.plan.time
  | _ => s.cfg.plan.isobus.map (·.1)

/-- The first candidate that is present (R342); not this position for the pose or time role while its PD2 is off
(R451), nor for ISOBUS while that controller's bus sequencer is isolated (R456). -/
def candidate (s : State) (r : Nat) : Option Nat :=
  (candidates s r).find? (fun p => s.team.members.any (fun m => m / 2 == p) && (p != posOf s ||
    (if r = 2 then (s.cfg.plan.isobus.filter (fun x => x.1 == p)).all (fun x => !s.far.seqOff.contains x.2) else domOn s 2)))

/-- No member holds the job that was in RUN at the last store (R204). -/
def coverageLost (s : State) : State :=
  if s.cov.lostDue then raise { s with cov := { s.cov with lostDue := false } } Ev.COVERAGE_LOST [s.cov.storedAt, s.cov.storedPcc] else s

/-- The controller of the ISOBUS role at a position (R338). -/
def isobusCtrl (s : State) (p : Nat) : Option Nat := (s.cfg.plan.isobus.find? (fun x => x.1 == p)).map (·.2)

/-- This module takes or gives up the ISOBUS role (R324, R342): a new holder claims an address; a module that shadows or yields keeps the
controller in LISTEN_ONLY. -/
def isobusRole (on : Bool) (s : State) : State :=
  match isobusCtrl s (posOf s) with
  | none => s
  | some c =>
    if on = fbit s (R.CAN_ISO c) F.CAN_ISO_ROLE then s
    else if on then
      let s1 := canModeSet c 0 (fset (fsetb s (R.CAN_ISO c) F.CAN_ISO_ROLE true) (R.CAN_CTRL c) F.CAN_CTRL_MODE 0)
      if (canOf s1 c).claim = 0 then isoClaim c (isoPref s1) s1 else s1
    else
      let s1 := fset (fsetb s (R.CAN_ISO c) F.CAN_ISO_ROLE false) (R.CAN_CTRL c) F.CAN_CTRL_MODE 1
      canModeSet c 1 (setCan c { canOf s1 c with claim := if (canOf s1 c).claim = 3 then 3 else 0, tp := [] } s1)

/-- The roles this module holds follow the roles of its position while it drives it (R342, R349). A new pose solver starts from its own
sources, a new time master in HOLDOVER. -/
def rolesSync (s : State) : State :=
  let mine (r : Nat) : Bool := roleAt s r == some (posOf s) && drives s && s.team.formed
  let hadPose := fbit s R.TLK_STATUS F.TLK_STATUS_POSE_ROLE
  let hadTime := fbit s R.TLK_STATUS F.TLK_STATUS_TIME_ROLE
  let s1 := fsetb (fsetb (fsetb s R.TLK_STATUS F.TLK_STATUS_POSE_ROLE (mine 0)) R.TLK_STATUS F.TLK_STATUS_TIME_ROLE (mine 1))
    R.TLK_STATUS F.TLK_STATUS_ISOBUS_ROLE (mine 2)
  let s2 := if mine 0 ∧ hadPose = false then { s1 with pos := { s1.pos with source := 0, drSince := none, blendUm := 0 } } else s1
  let s3 := if mine 1 ∧ hadTime = false ∧ (ttState s2 = 1 ∨ ttState s2 = 3) then
      tellTt 2 { s2 with pos := { s2.pos with holdAt := some s.tb, validEp := 0, solAt := none, slew := none, stepPend := none } } else s2
  isobusRole (mine 2) s3

/-- A role is held by a position. -/
def setRole (r p : Nat) (s : State) : State :=
  { s with team := { s.team with roles := s.team.roles.filter (fun x => x.1 != r) ++ [(r, p)] } }

/-- Every role goes to its first present candidate: as a team forms (R342). -/
def rolesForm (s : State) : State :=
  rolesSync (forN 3 (fun r s => match candidate s r with | some p => setRole r p s | none => s) s)

/-- The leader moves each role that the first present candidate does not hold, at a boundary at least 10 cycles ahead (R342). Log 24: DEDUCED. -/
def rolesMove (s : State) : State :=
  let b := boundaryFrom (s.tb + 10 * cycleTicks)
  forN 3 (fun r s => match candidate s r with
    | some p =>
      let last := ((s.team.roleNext.filter (fun x => x.2.1 == r)).getLast?).map (·.2.2)
      if (last.or (roleAt s r)) = some p then s
      else toTeam { s with team := { s.team with roleNext := s.team.roleNext ++ [(b, r, p)] } } MsgKind.ROLE_MOVE [b, r, p]
    | none => s) s

/-- A module admitted learns who holds the roles, and the moves already named (R342). Log 24: DEDUCED. -/
def rolesTell (m : Nat) (s : State) : State :=
  let b := nextBoundary s.tb
  forEach (s.team.roles.map (fun x => (b, x.1, x.2)) ++ s.team.roleNext) (fun x s => send s MsgKind.ROLE_MOVE m [x.1, x.2.1, x.2.2]) s

/-- ROLE_MOVE_APPLY (R342): at the named boundary. -/
def execRoleMoveApply (role : Fin 3) (pos : Fin 32) (s : State) : Out :=
  .next (
    let due := s.team.roleNext.any (fun x => decide (x.1 ≤ s.tb) && x.2.1 == role.val && x.2.2 == pos.val)
    if isLeader s ∧ due = false then s
    else
      rolesSync (setRole role.val pos.val { s with team := { s.team with
        roleNext := s.team.roleNext.filter (fun x => !(x.2.1 == role.val && x.2.2 == pos.val)) } }))

/-! ### Routing tables -/

/-- A member's part of the routing table (R343). Log 51: DEDUCED. -/
def tableFor (s : State) (b m : Nat) : RouteTab :=
  let among := s.team.members
  let adj := neighboursOf s among
  let mine := reachFrom adj m
  let root := (leaderOf s).getD (midOf s)
  let tree := reachFrom adj root
  let back := reachFrom (fun k => (adj k).reverse) root
  let solver := (roleAt s 0).bind (fun p => among.find? (fun k => k / 2 == p))
  { b := b
    hops := (mine.filter (fun r => r.mid != m)).map (fun r => (r.mid, r.port, backupPort adj m r.mid r.port))
    tree := treePorts adj tree m, backTree := treePorts adj back m
    parent := if m = root then none else (tree.find? (fun r => r.mid == m)).bind (fun r => ((adj m).find? (fun p => p.2 == r.from_)).map (·.1))
    depth := (hopsTo tree m).getD 0
    poseHops := (solver.bind (hopsTo mine)).getD 0
    far := mine.foldl (fun v r => max v r.dist) 0 }

/-- Numbers of a table for a message. -/
def tableArgs (t : RouteTab) : List Int :=
  let opt (o : Option Nat) : Int := match o with | some v => v | none => -1
  [(t.b : Int), opt t.parent, t.depth, t.poseHops, t.far] ++ t.hops.flatMap (fun h => [(h.1 : Int), (h.2.1 : Int), opt h.2.2])
    ++ (-1 :: t.tree.map Int.ofNat) ++ (-1 :: t.backTree.map Int.ofNat)

/-- The bounds of R344 a table breaks: 0 hops on a route, 1 hops from the pose solver, 2 depth of the time tree. -/
def routeBounds (t : RouteTab) : List Nat :=
  (if 16 < t.far then [0] else []) ++ (if 8 < t.poseHops then [1] else []) ++ (if 8 < t.depth then [2] else [])

/-- A table takes effect (R343, R344). Log 51: DEDUCED. -/
def tableApply (t : RouteTab) (s : State) : State :=
  let old := routeBounds s.team.routes
  let s1 := { s with team := { s.team with routes := t, routeNext := none, tabMembers := s.team.members } }
  let s2 := forN 5 (fun n s => fsetb (fsetb s (R.TLK_LINK_STAT n) F.TLK_LINK_STAT_PARENT (t.parent == some n))
    (R.TLK_LINK_STAT n) F.TLK_LINK_STAT_BACKUP_USE false) (fset s1 R.TLK_CLK F.TLK_CLK_DEPTH t.depth)
  let s3 := forEach (old.filter (fun b => !(routeBounds t).contains b)) (fun b s => faultEnd s Ev.HOPS_EXCEEDED [midOf s, b]) s2
  backupUse (forEach ((routeBounds t).filter (fun b => !old.contains b)) (fun b s =>
    fault (fsetb s R.TLK_STATUS F.TLK_STATUS_HOPS_EXCEEDED true) Ev.HOPS_EXCEEDED [midOf s, b]) s3)

/-- The leader issues a new table to every member, from a boundary it names (R343). Log 51: DEDUCED. -/
def newTables (s : State) : State :=
  let b := boundaryFrom (s.tb + 10 * cycleTicks)
  let s1 := forEach (otherMembers s) (fun m t => send t MsgKind.ROUTING_TABLE m (tableArgs (tableFor s b m))) s
  { s1 with team := { s1.team with routeNext := some (tableFor s b (midOf s)) } }

/-- ROUTING_TABLE (R343). -/
def execRoutingTable (t : RouteTab) (s : State) : Out :=
  .next (if isLeader s ∨ domOn s 6 = false then s else { s with team := { s.team with routeNext := some t } })

/-- ROUTING_TABLE_APPLY (R343). -/
def execRoutingTableApply (s : State) : Out :=
  .next (match s.team.routeNext with
    | some t => if t.b ≤ s.tb then tableApply t s else s
    | none => s)

/-- PAIR_UNRESOLVED clears (R353). -/
def resolvedPair (s : State) : State :=
  if fbit s R.TLK_PAIR_STAT F.TLK_PAIR_STAT_PAIR_UNRESOLVED then
    faultEnd (fsetb s R.TLK_PAIR_STAT F.TLK_PAIR_STAT_PAIR_UNRESOLVED false) Ev.PAIR_UNRESOLVED [posOf s]
  else s

/-- The partner is absent from the team (R353): a driving module that has lost it sends its held strips and drives alone. -/
def partnerAlone (s : State) : State :=
  if fget s R.TLK_PAIR_STAT F.TLK_PAIR_STAT_STATE ≠ 1 ∨ fbit s R.TLK_PAIR_STAT F.TLK_PAIR_STAT_PARTNER_HB then s
  else
    let held := s.cov.toAck
    let s1 := fset { s with cov := { s.cov with toAck := [] }, team := { s.team with lostAt := none } } R.TLK_PAIR_STAT F.TLK_PAIR_STAT_STATE 0
    raise (resolvedPair (forEach held stripOut s1)) Ev.PAIR_ALONE [posOf s]

/-- What the leader does when the links or the modules it knows have changed (R342, R343, R345): a member it no longer reaches is lost,
and its partner is told. -/
def leaderRefresh (s : State) : State :=
  if isLeader s = false then s
  else
    let l := (reachFrom (neighboursOf s s.team.members) (midOf s)).map (·.mid)
    let gone := s.team.members.filter (fun m => !l.contains m)
    let s1 := setMembers (s.team.members.filter l.contains) s
    newTables (rolesMove (forEach gone (fun m s =>
      if m ^^^ 1 = midOf s then partnerAlone s
      else if s.team.members.contains (m ^^^ 1) then send s MsgKind.PARTNER_ABSENT (m ^^^ 1) [m] else s) s1))

/-- LINK_DOWN (R336, R345). -/
def execLinkDown (n : Fin 5) (s : State) : Out := .next (if linkState s n.val = 0 then s else leaderRefresh (linkDown n.val s))

/-- LINK_UP (R336): 1 ms of error-free alignment and an exchange of HELLO frames. -/
def execLinkUp (n : Fin 5) (peer : Fin 64) (s : State) : Out :=
  .next (if domOn s 6 = false ∨ linkState s n.val ≠ 1 ∨ s.tb < (tlOf s n.val).since + msTicks 1 then s
    else leaderRefresh (faultPast (linkEnter n.val 2 (fset (setTl n.val (tlInit n.val) s) (R.TLK_LINK_STAT n.val) F.TLK_LINK_STAT_PEER peer.val))
      Ev.LINK_STATE [n.val]))

/-! ### Discovery -/

/-- Numbers of a HELLO for a message. -/
def helloArgs (h : Hello) : List Int :=
  [(h.mid : Int), b2n h.codeG, h.serial, h.tb, h.image, h.plan] ++ h.ups.flatMap (fun p => [(p.1 : Int), (p.2 : Int)])

/-- HELLO_SEND (R339): every 100 µs on every UP link. -/
def execHelloSend (s : State) : Out :=
  .next (
    let due := match s.team.helloTx with | some t => decide (t + usTicks 100 ≤ s.tb) | none => true
    if domOn s 6 = false ∨ s.pwr.mid = none ∨ due = false then s
    else
      let s1 := forEach (upLinks s) (fun p t => send t MsgKind.HELLO p.1 (helloArgs (ownHello s))) s
      { s1 with team := { s1.team with helloTx := some s.tb, helloAt := some (s.team.helloAt.getD s.tb) } })

/-- A module is refused, with its report (R339). -/
def refuse (m : Nat) (e : Ev) (s : State) : State :=
  let s1 := if s.team.refused.contains m then s else fault { s with team := { s.team with refused := s.team.refused ++ [m] } } e [m]
  let s2 := if s1.team.members.contains m then setMembers (s1.team.members.filter (· != m)) s1 else s1
  if m = midOf s then rolesSync (setTeamState 4 s2) else s2

/-- The partner of a module. -/
def partnerOf (m : Nat) : Nat := m ^^^ 1

/-- The checks of a module heard against the plan and the others (R339, R3, R5, R266). Log 52: DEDUCED. -/
def helloCheck (h : Hello) (s : State) : State :=
  let other := if h.mid = midOf s then some (s.pwr.serial, isG s) else (heardOf s h.mid).map (fun x => (x.h.serial, x.h.codeG))
  let twin := match other with | some o => decide (o.1 ≠ h.serial) | none => false
  let mate := partnerOf h.mid
  let mateG := if mate = midOf s then some (isG s) else (heardOf s mate).map (·.h.codeG)
  if twin then
    -- of two modules with the same MID the higher device serial is refused
    if h.mid = midOf s ∧ h.serial < s.pwr.serial then refuse (midOf s) Ev.MID_DUPLICATE s
    else fault s (if 64 ≤ (present s).length then Ev.TEAM_FULL else Ev.MID_DUPLICATE) [h.mid, h.serial]
  else match planPos s (h.mid / 2) with
    | none => refuse h.mid Ev.POS_NOT_IN_PLAN s
    | some p =>
      if h.mid % 2 = 1 ∧ p.paired = false then refuse h.mid Ev.PAIR_NOT_IN_PLAN s
      else if mateG.isSome ∧ mateG ≠ some h.codeG then refuse mate Ev.PAIR_CODE_MISMATCH (refuse h.mid Ev.PAIR_CODE_MISMATCH s)
      else s

/-- A HELLO replaces what was known of a module; of two modules with one MID the lower serial stays. -/
def hear (h : Hello) (s : State) : State :=
  let keep : Bool := match heardOf s h.mid with | some x => decide (x.h.serial < h.serial) | none => false
  if keep = true ∨ h.mid = midOf s then s
  else { s with team := { s.team with heard := s.team.heard.filter (fun x => x.h.mid != h.mid) ++ [⟨h, (s.tb : Int) - h.tb⟩] } }

/-- The pair's wiring is held against the partner's (R266). -/
def wiringCheck (h : Hello) (s : State) : State :=
  if h.mid ≠ partnerOf (midOf s) then s
  else
    let mine := (ownHello s).wired
    if mine = h.wired then
      let s1 := { s with pwm := { s.pwm with pairBad := [] } }
      if s.pwm.pairBad = [] then s1 else faultEnd s1 Ev.PAIR_WIRE_MISMATCH [posOf s]
    else
      let all := (List.range 96).filter (fun n => mine.contains n || h.wired.contains n)
      if s.pwm.pairBad = all then s else fault { s with pwm := { s.pwm with pairBad := all } } Ev.PAIR_WIRE_MISMATCH [posOf s]

/-- TEAM_PLAN_HASH differs from the leader's, or no longer (R339). -/
def planBadSet (bad : Bool) (s : State) : State :=
  let s1 := { s with team := { s.team with planBad := bad } }
  if bad = s.team.planBad then s1
  else if bad then fault s1 Ev.PLAN_MISMATCH [midOf s] else faultEnd s1 Ev.PLAN_MISMATCH [midOf s]

/-- The plan and the active image are held against the leader's (R339, R56). -/
def partCheck (s : State) : State :=
  match leaderOf s with
  | none => s
  | some l =>
    if l = midOf s then planBadSet false { s with team := { s.team with noPart := false } }
    else match heardOf s l with
      | none => s
      | some x =>
        let bad := x.h.plan != s.cfg.plan.hash
        planBadSet bad { s with team := { s.team with noPart := bad || x.h.image != s.img.hash } }

/-- A planned position reported as not heard is a member after all (R339). Log 52: DEDUCED. -/
def missingEnd (s : State) : State :=
  let back := s.team.missing.filter (fun p => s.team.members.any (fun m => m / 2 == p))
  forEach back (fun p s => faultEnd s Ev.POSITION_MISSING [p])
    { s with team := { s.team with missing := s.team.missing.filter (fun p => !back.contains p) } }

/-- The pair of this module as it is admitted (R349, R354). Log 53: DEDUCED. -/
def pairForm (joining : Bool) (s : State) : State :=
  let mate := partnerOf (midOf s)
  let paired := ((planPos s (posOf s)).map (·.paired)).getD false
  let s0 := fsetb s R.TLK_PAIR_STAT F.TLK_PAIR_STAT_B (midOf s % 2 == 1)
  let st (n : Nat) (s : State) : State := fset s R.TLK_PAIR_STAT F.TLK_PAIR_STAT_STATE n
  if paired = false ∨ s.team.members.contains mate = false then st 0 s0
  else if s.team.hbDrive ∧ (joining ∨ midOf s % 2 = 1) ∧ fbit s R.TLK_PAIR_STAT F.TLK_PAIR_STAT_PARTNER_HB then
    fsetb (st 3 s0) R.TLK_PAIR_STAT F.TLK_PAIR_STAT_PAIR_SYNC true
  else if midOf s % 2 = 0 then st 1 s0 else st 2 s0

/-- A step of TB forward (R348): queue entries whose ticks it passes are handled as on resume, and carriers take the new phase. Log 52: DEDUCED. -/
def tbStep (T : Nat) (s : State) : State :=
  if T ≤ s.tb then s
  else
    let size := T - s.tb
    let s1 := staged (fun s => queueCatchUp T { s with tb := T }) s
    raise (fsetb s1 R.TLK_CLK F.TLK_CLK_TB_STEP true) Ev.TB_STEP [size]

/-- Admission (R339, R340): the module is a member of the team whose leader it follows, which tells it the roles. Log 52: DEDUCED. -/
def teamAdmit (leader term : Nat) (members : List Nat) (s : State) : State :=
  let s1 := setLeader (some leader) (fset s R.TLK_TERM F.TLK_TERM_TERM term)
  let all := if members.contains (midOf s) then members else members ++ [midOf s]
  let s2 := setTeamState 1 (setMembers all s1)
  let s3 := { s2 with
    team := { s2.team with formed := true, beatAt := some s.tb, roles := [], roleNext := [] }
    cov := { s2.cov with lostDue := false } }
  rolesSync (pairForm true (partCheck (missingEnd s3)))

/-- A module that joins aligns its TB to the team's (R348): behind, it steps; ahead by at most 10 ms, it slows; further ahead, it waits
for its next power-up. -/
def joinTeam (leader term : Nat) (members : List Nat) (s : State) : State :=
  let d : Int := ((heardOf s leader).map (·.dtb)).getD 0
  if d ≤ 0 then teamAdmit leader term members (tbStep (s.tb + d.natAbs) s)
  else if d ≤ 2000000 then
    let s1 := { s with team := { s.team with slewLeft := d.toNat, slewCnt := 0, beat := some (leader, term, members) } }
    raise (fsetb (setTeamState 0 s1) R.TLK_CLK F.TLK_CLK_TB_SLEW true) Ev.TB_SLEW [d]
  else if fbit s R.TLK_CLK F.TLK_CLK_TB_AHEAD then s
  else raise (fsetb (setTeamState 0 s) R.TLK_CLK F.TLK_CLK_TB_AHEAD true) Ev.TB_AHEAD [d]

/-- The parts of a team or a joiner may be admitted: no wait of R348 is in force. -/
def mayJoin (s : State) : Bool :=
  !fbit s R.TLK_CLK F.TLK_CLK_TB_SLEW && !fbit s R.TLK_CLK F.TLK_CLK_TB_AHEAD && s.pwr.mid.isSome && domOn s 6 && teamState s != 4

/-- The leader resends its active image to a member that has another (R56). A leader newly elected that has staged the very image members have
committed adopts it at a boundary of its own (R57). Log 26: DEDUCED. -/
def imageResend (m : Nat) (s : State) : State :=
  let theirs := match heardOf s m with | some x => x.h.image | none => s.img.hash
  if theirs = s.img.hash ∨ s.img.active = none ∨ s.img.sending ∨ s.img.swapC.isSome then s
  else if fget s R.IMG_STATUS F.IMG_STATUS_STATE = 3 ∧ (s.img.slotPending.map (·.hash)) = some theirs then
    prepare (boundaryFrom (s.tb + 250 * cycleTicks)) s
  else send { s with img := { s.img with sending := true, acks := [m], sentAt := s.tb, ackAt := s.tb } } MsgKind.TEAM_IMAGE m [s.img.hash]

/-- The leader admits a module heard after discovery (R339, R200). -/
def leaderAdmit (m : Nat) (s : State) : State :=
  if isLeader s = false ∨ s.team.members.contains m ∨ s.team.refused.contains m then s
  else
    let adj := neighboursOf s (m :: s.team.members)
    match hopsTo (reachFrom adj (midOf s)) m with
    | none => s
    | some d =>
      if 8 < d then fault { s with team := { s.team with refused := s.team.refused ++ [m] } } Ev.HOPS_EXCEEDED [m, 2]
      else
        let s0 := newTables (rolesMove (rolesTell m (missingEnd (setMembers (s.team.members ++ [m]) s))))
        let s1 := imageResend m s0
        match s1.cov.job with
        | some j =>
          let s2 := catchUpFor m (send s1 MsgKind.JOB_DEFINITION m [j.jobId])
          if jobState s = 3 then send s2 MsgKind.JOB_RUN m [nextBoundary s.tb] else s2
        | none => s1

/-- A partner that has come back: a module that drove alone drives beside it (R349). -/
def partnerBack (s : State) : State :=
  if fget s R.TLK_PAIR_STAT F.TLK_PAIR_STAT_STATE = 0 ∧ s.team.formed ∧ s.team.members.contains (partnerOf (midOf s)) then
    fset { s with team := { s.team with partnerSh := false } } R.TLK_PAIR_STAT F.TLK_PAIR_STAT_STATE 1
  else s

/-- HELLO (R339): what is learnt is flooded; the module heard is checked, and after discovery admitted. -/
def execHello (n : Fin 5) (h : Hello) (s : State) : Out :=
  .next (if domOn s 6 = false ∨ s.pwr.mid = none then s
    else
      let new : Bool := match heardOf s h.mid with | some x => decide ({ x.h with tb := 0 } ≠ { h with tb := 0 }) | none => h.mid != midOf s
      let s1 := if new then forEach ((upLinks s).filter (fun p => p.1 != n.val)) (fun p t => send t MsgKind.HELLO p.1 (helloArgs h)) s else s
      let s2 := wiringCheck h (hear h (helloCheck h s1))
      let s3 := partCheck s2
      if s3.team.formed = false then s3
      else if isLeader s3 then
        (let s4 := if new then partnerBack (leaderRefresh (leaderAdmit h.mid s3)) else s3
         if s4.team.members.contains h.mid then imageResend h.mid s4 else s4)
      else partnerBack s3)

/-- The links of the plan that are not UP, or links that are UP and not in it (R339). -/
def topoDiffers (s : State) (l : List Nat) : Bool :=
  let have_ := l.flatMap (fun m => ((upsOf s m).filter (fun p => decide (p.1 < 4) && l.contains p.2)).map (fun p => (m, p.1, p.2)))
  let want := (s.cfg.plan.links.filter (fun x => l.contains x.1 && l.contains x.2.2.1)).flatMap
    (fun x => [(x.1, x.2.1, x.2.2.1), (x.2.2.1, x.2.2.2, x.1)])
  have_.any (fun x => !want.contains x) || want.any (fun x => !have_.contains x)

/-- The team forms (R339, R340, R348): on the modules within the bounds, at the largest TB among them rounded up to a boundary. Log 52: DEDUCED. -/
def formTeam (s : State) : State :=
  let here := present s
  let adj := neighboursOf s here
  let mine := reachFrom adj (midOf s)
  let best := bestLeader s (mine.map (·.mid))
  let tree := reachFrom adj (best.getD (midOf s))
  let l := (mine.filter (fun r => decide (r.dist ≤ 16) && (match hopsTo tree r.mid with | some d => decide (d ≤ 8) | none => false))).map (·.mid)
  let out := (mine.map (·.mid)).filter (fun m => !l.contains m)
  let T := (s.team.heard.filter (fun x => l.contains x.h.mid)).foldl (fun t x => max t ((s.tb : Int) - x.dtb).toNat) s.tb
  let s1 := forEach out (fun m s => fault (fsetb s R.TLK_STATUS F.TLK_STATUS_HOPS_EXCEEDED true) Ev.HOPS_EXCEEDED [m, 2]) s
  let s2 := if topoDiffers s1 l then fault (fsetb s1 R.TLK_STATUS F.TLK_STATUS_TOPO_MISMATCH true) Ev.TOPO_MISMATCH []
    else faultPast s1 Ev.TOPO_MISMATCH []
  let s3 := if l.length ≤ 1 then s2 else tbStep (boundaryFrom T) s2
  let s4 := setMembers (if l.contains (midOf s) then l else [midOf s]) s3
  let lead := bestLeader s4 s4.team.members
  let s5 := fset (fincSat (setLeader lead s4) R.TLK_TERM F.TLK_TERM_ELECTIONS) R.TLK_TERM F.TLK_TERM_TERM (fget s4 R.TLK_TERM F.TLK_TERM_TERM + 1)
  let s6 := setTeamState (if lead = some (midOf s) then 2 else 1) { s5 with team := { s5.team with formed := true, beatAt := some s5.tb } }
  let s7 := rolesForm (pairForm false (partCheck s6))
  -- as a team forms, the first table takes effect at once
  tableApply (tableFor s7 s7.tb (midOf s7)) (coverageLost <| if isLeader s7 then fsetb (newTables (tskNew s7)) R.TLK_STATUS F.TLK_STATUS_ALIGNED true else s7)

/-- DISCOVERY_END (R339): every module of the plan has been heard, or 500 ms have passed since the first HELLO. Where a team exists already
the module joins it. -/
def execDiscoveryEnd (s : State) : Out :=
  .next (
    let here := present s
    let late := match s.team.helloAt with | some t => decide (t + msTicks 500 ≤ s.tb) | none => false
    let missing := (planMids s).filter (fun m => !here.contains m)
    if s.team.formed ∨ mayJoin s = false ∨ (late = false ∧ missing ≠ []) then s
    else
      let s0 := if (planPos s (posOf s)).isNone then refuse (midOf s) Ev.POS_NOT_IN_PLAN s
        else if midOf s % 2 = 1 ∧ ((planPos s (posOf s)).map (·.paired)) = some false then refuse (midOf s) Ev.PAIR_NOT_IN_PLAN s else s
      let ps := ((missing.map (fun m : Nat => m / 2)).eraseDups).filter (fun p => !here.any (fun m => m / 2 == p))
      let s1 := forEach ps (fun p s => fault s Ev.POSITION_MISSING [p]) { s0 with team := { s0.team with missing := ps } }
      if teamState s1 = 4 then s1
      else match s1.team.beat with
        | some (l, t, ms) => joinTeam l t ms s1
        | none => formTeam s1)

/-- TB_SLEW_DONE (R348): the joiner's TB is aligned, and it is admitted. -/
def execTbSlewDone (s : State) : Out :=
  .next (if fbit s R.TLK_CLK F.TLK_CLK_TB_SLEW = false ∨ s.team.slewLeft ≠ 0 then s
    else
      let s1 := fsetb s R.TLK_CLK F.TLK_CLK_TB_SLEW false
      match s1.team.beat with
      | some (l, t, ms) => teamAdmit l t ms s1
      | none => s1)

/-! ### The beat -/

/-- LEADER_BEAT_SEND (R340): every 1 ms. -/
def execLeaderBeatSend (s : State) : Out :=
  .next (
    let due := match s.team.beatTx with | some t => decide (t + msTicks 1 ≤ s.tb) | none => true
    if isLeader s = false ∨ domOn s 6 = false ∨ due = false then s
    else
      let s1 := toTeam s MsgKind.LEADER_BEAT ((fget s R.TLK_TERM F.TLK_TERM_TERM : Int) :: s.team.members.map Int.ofNat)
      { s1 with team := { s1.team with beatTx := some s.tb } })

/-- Of two parts of a team that meet the one whose leader has the higher term (modulo 2^16, R457) prevails, of equal terms the larger, of equal sizes the one
whose leader ranks higher (R341, R356). Log 52: DEDUCED. -/
def prevails (s : State) (m term size : Nat) : Bool :=
  let t := fget s R.TLK_TERM F.TLK_TERM_TERM
  let k := s.team.members.length
  let d := (term + 65536 - t) % 65536
  (decide (0 < d) && decide (d ≤ 32767)) || (term == t && (decide (k < size) ||
    (size == k && decide (leadKey s ((leaderOf s).getD (midOf s)) < leadKey s m))))

/-- LEADER_BEAT (R340, R341). -/
def execLeaderBeat (m : Fin 64) (term : Fin 65536) (members : List (Fin 64)) (s : State) : Out :=
  .next (
    let ms := members.map (·.val)
    if domOn s 6 = false ∨ m.val = midOf s ∨ s.pwr.mid = none ∨ teamState s = 4 then s
    else
      let s1 := { s with team := { s.team with beat := some (m.val, term.val, ms) } }
      if s.team.formed = false then s1
      else if leaderOf s = some m.val ∧ term.val = fget s R.TLK_TERM F.TLK_TERM_TERM then
        let s2 := if ms.contains (midOf s) then setMembers ms s1 else s1
        partnerBack (missingEnd { s2 with team := { s2.team with beatAt := some s.tb } })
      else if prevails s1 m.val term.val ms.length = false ∨ mayJoin s1 = false then s1
      else if ms.contains (midOf s) ∧ s.team.members.contains m.val then
        -- the leader its own part has elected
        let s2 := setTeamState 1 (setLeader (some m.val) (fset (setMembers ms s1) R.TLK_TERM F.TLK_TERM_TERM term.val))
        askAgain (partCheck { s2 with team := { s2.team with beatAt := some s.tb } })
      else askAgain (joinTeam m.val term.val ms { s1 with team := { s1.team with roles := [] } }))

/-- LEADER_LOST (R340, R341): no beat for 5 ms. More than half of the members of the last table elect a new leader; fewer stay
ISOLATED. -/
def execLeaderLost (s : State) : Out :=
  .next (
    let due := match s.team.beatAt with | some t => decide (t + msTicks 5 ≤ s.tb) | none => false
    if teamState s ≠ 1 ∨ due = false then s
    else
      let l := ((reachFrom (neighboursOf s s.team.members) (midOf s)).map (·.mid)).filter (fun m => leaderOf s != some m)
      match (if s.team.tabMembers.length < 2 * l.length then bestLeader s l else none) with
      | none => setTeamState 3 (setLeader none (setMembers l s))
      | some b =>
        let s1 := setLeader (some b) (setMembers l s)
        let s2 := fincSat (fset s1 R.TLK_TERM F.TLK_TERM_TERM (fget s1 R.TLK_TERM F.TLK_TERM_TERM + 1)) R.TLK_TERM F.TLK_TERM_ELECTIONS
        let s3 := { s2 with team := { s2.team with beatAt := some s.tb } }
        askAgain (if b = midOf s then newTables (rolesMove (tskNew (setTeamState 2 s3))) else s3))

/-! ### One timebase -/

/-- TIME_SYNC_REQUEST (R346): every 1 ms from the child end. -/
def execTimeSyncRequest (n : Fin 5) (frac : Fin 32) (s : State) : Out :=
  .next (
    let x := tlOf s n.val
    let due := match x.syncAt with | some t => decide (t + msTicks 1 ≤ s.tb) | none => true
    if linkUp s n.val = false ∨ fbit s (R.TLK_LINK_STAT n.val) F.TLK_LINK_STAT_PARENT = false ∨ due = false then s
    else send (setTl n.val { x with syncAt := some s.tb, t1 := some (s.tb * 32 + frac.val) } s) MsgKind.TIME_SYNC_REQUEST n.val [])

/-- TIME_SYNC_REQUEST_RX (R346): the parent stamps the arrival and the departure of its reply. -/
def execTimeSyncRequestRx (n : Fin 5) (frac : Fin 32) (turn : Nat) (s : State) : Out :=
  .next (if linkUp s n.val = false then s
    else
      let t2 := s.tb * 32 + frac.val
      send s MsgKind.TIME_SYNC_REPLY n.val [t2, t2 + turn, sext 16 (fget s R.TLK_CLK F.TLK_CLK_CLK_OFS)])

/-- CLK_OFS within ±12 units in its last 10 values: ALIGNED; otherwise ALIGN_LOST, and COHERENT clears (R347). Log 52: DEDUCED. -/
def alignCheck (s : State) : State :=
  let ok := s.team.clk10.length == 10 && s.team.clk10.all (fun v => decide (v.natAbs ≤ 12))
  let was := fbit s R.TLK_STATUS F.TLK_STATUS_ALIGNED
  let s1 := fsetb { s with gns := { s.gns with alignBad := s.gns.alignBad || !ok } } R.TLK_STATUS F.TLK_STATUS_ALIGNED ok
  if ok then (if was then s1 else faultEnd s1 Ev.ALIGN_LOST [])
  else
    let s2 := fsetb s1 R.GNS_STATUS F.GNS_STATUS_COHERENT false
    if was then fault s2 Ev.ALIGN_LOST [s.team.clk10.getLast?.getD 0] else s2

/-- TIME_SYNC_REPLY (R346): delay and offset of the link in 1/32 tick; CLK_OFS is the mean of the last 8 offsets and the parent's. The
phase is trimmed by at most 1 unit per 10 µs, 100 units until the next measurement. -/
def execTimeSyncReply (n : Fin 5) (frac : Fin 32) (t2 t3 : Nat) (ofs : Int) (s : State) : Out :=
  .next (
    let x := tlOf s n.val
    match x.t1 with
    | none => s
    | some t1 =>
      let t4 : Int := s.tb * 32 + frac.val
      let there : Int := (t2 : Int) - t1
      let back : Int := t4 - t3
      let o := divOpen (back - there) 2
      let l := (x.offs ++ [o]).drop (x.offs.length + 1 - 8)
      let mean := divOpen (l.foldl (· + ·) 0) l.length
      let clk := clampInt (-32768) 32767 (mean + ofs)
      let s1 := setTl n.val { x with t1 := none, offs := l } s
      let s2 := fset (fset s1 (R.TLK_LINK_DLY n.val) F.TLK_LINK_DLY_DELAY (fitS 17 (divOpen (there + back) 2)))
        (R.TLK_LINK_DLY n.val) F.TLK_LINK_DLY_OFFSET (fitS 16 o)
      let s3 := fset s2 R.TLK_CLK F.TLK_CLK_CLK_OFS (bitsOf 16 clk)
      alignCheck { s3 with team := { s3.team with
        clk10 := (s3.team.clk10 ++ [clk]).drop (s3.team.clk10.length + 1 - 10)
        trim := s3.team.trim + clampInt (-100) 100 mean } })

/-! ### Straps -/

/-- STRAP_CHANGED (R337): a later change of a strap is ignored and reported. -/
def execStrapChanged (v : BitVec 6) (s : State) : Out :=
  .next (if s.pwr.powered = false ∨ s.pwr.strapNow = v.toNat then s
    else fault { s with pwr := { s.pwr with strapNow := v.toNat } } Ev.STRAP_CHANGED [s.pwr.strapNow, v.toNat])

end Sys2Proof.Machine
end

