-- ==== Sys2Proof/Machine/Pair.lean ====
section
/-!
DEFINITION. Machine/Pair.lean: the pair (R180, R349 to R355): heartbeat, shadow, takeover, split and handover.
-/

namespace Sys2Proof.Machine

/-- State of the pair: 0 ALONE, 1 DRIVING, 2 SHADOW, 3 SYNC, 4 TAKEOVER, 5 SPLIT, 6 SAFE (TLK_PAIR_STAT). -/
def pairState (s : State) : Nat := fget s R.TLK_PAIR_STAT F.TLK_PAIR_STAT_STATE

/-- Set it. -/
def setPair (n : Nat) (s : State) : State := fset s R.TLK_PAIR_STAT F.TLK_PAIR_STAT_STATE n

/-- This module's position is planned as a pair (R338). -/
def pairPlanned (s : State) : Bool := s.pwr.mid.isSome && ((planPos s (posOf s)).map (·.paired)).getD false

/-! ### The shadow -/

/-- SHADOW_STATE (R350): a complete state is acknowledged; one that fails its check is rejected with SHADOW_BAD, and the previous one
stays. After the catch-up the first complete state makes the module SHADOW (R354). -/
def execShadowState (sh : Shadow) (ok : Bool) (s : State) : Out :=
  .next (if domOn s 6 = false ∨ (pairState s ≠ 2 ∧ pairState s ≠ 3) then s
    else if ok = false then fault (fsetb s R.TLK_PAIR_STAT F.TLK_PAIR_STAT_SHADOW_BAD true) Ev.SHADOW_BAD []
    else
      let s0 := faultPast s Ev.SHADOW_BAD []
      let s1 := { s0 with team := { s.team with shadow := some sh } }
      let s2 := if pairState s = 3 ∧ catching s = false then fsetb (setPair 2 s1) R.TLK_PAIR_STAT F.TLK_PAIR_STAT_PAIR_SYNC false else s1
      send s2 MsgKind.PL_ACK (partnerOf (midOf s)) [sh.b, b2n (pairState s2 == 2)])

/-- PARTNER_ACK (R180, R350): a strip the partner has acknowledged leaves over TC3; a complete state it has acknowledged counts toward its
readiness. -/
def execPartnerAck (strip : Option (Fin 96 × Nat)) (shadow : Bool) (s : State) : Out :=
  .next (
    let s1 := { s with team := { s.team with partnerSh := shadow } }
    match strip with
    | none => if pairState s = 1 then s1 else s
    | some (n, q) => match s.cov.toAck.find? (fun x => x.out == n.val + 1 && x.seq == q) with
      | some x => stripOut x { s with cov := { s.cov with toAck := removeFirst (fun y => y == x) s.cov.toAck } }
      | none => s)

/-- An output takes its shadowed plan, generation, commit and dose positions (R180, R226). -/
def loadOut (x : ShOut) (s : State) : State :=
  let s1 := fset (fset (setGate x.out x.gate s) (R.STR_OUT x.out) F.STR_OUT_GEN x.gen) (R.COV_SEQ x.out) F.COV_SEQ_SEQ x.seq
  nextReg x.out (setOut s1 x.out { outSt s1 x.out with
    queue := x.queue, doneTo := x.doneTo, win := x.win, winOff := x.winOff, winFrom := x.winFrom, dose := x.dose, doseTo := x.doseTo })

/-- The pose solver's shadow is loaded, with the role the position holds (R137, R350). -/
def loadSolver (x : SolverSt) (s : State) : State :=
  let s1 := { s with pos := { s.pos with
    gnss := x.gnss, ext := x.ext, speed := x.speed, source := x.source, drSince := x.drSince, blendUm := x.blendUm, blendV := x.blendV
    corrSt := x.corrSt, shapeRun := x.shapeRun, shapeEp := x.shapeEp, ratioRun := x.ratioRun } }
  forEach x.next keepRecord (fsetb s1 R.TLK_STATUS F.TLK_STATUS_POSE_ROLE true)

/-- The time master's shadow is loaded (R146): the slew goes on from it. -/
def loadTime (x : TimeSt) (s : State) : State :=
  let s1 := fsetb (setTt x.state (rset64 s R.POS_TT_OFS_LO R.POS_TT_OFS_HI (bitsOf 64 x.ofs))) R.POS_TT_STATUS F.POS_TT_STATUS_SLEWING
    x.slew.isSome
  fsetb { s1 with pos := { s1.pos with
    slew := x.slew, slewAt := x.slewAt, validEp := x.validEp, solAt := x.solAt, holdAt := x.holdAt, extSet := x.extSet, stepPend := x.stepPend
    ofsNamed := x.ofsNamed, lastS := x.lastS, lastPulse := x.lastPulse } } R.TLK_STATUS F.TLK_STATUS_TIME_ROLE true

/-- A curb group takes the winner, and MANUAL where every member is in it (R291, R298). Log 40: DEDUCED. -/
def loadCurb (k : Nat) (s : State) : State :=
  let ms := curbMembers s k
  let s1 := fsetb s (R.CTL_CURB_STAT k) F.CTL_CURB_STAT_MANUAL (ms != [] && ms.all (fun m => lstate s m == 2))
  match ms.find? (fun m => fbit s (R.CTL_LOOP_STAT m) F.CTL_LOOP_STAT_WINNER) with
  | some m => fset s1 (R.CTL_CURB_STAT k) F.CTL_CURB_STAT_WINNER m
  | none => s1

/-- The shadow is loaded into the engine, the loops, the ISOBUS stack and the role holders (R350, R352). -/
def loadShadow (sh : Shadow) (s : State) : State :=
  let s0 := forEach sh.loops (fun l s => rset (setLoop l.1 l.2.1 s) (R.CTL_LOOP_STAT l.1) l.2.2) (forEach sh.outs loadOut s)
  let s1 := forN 16 loadCurb s0
  let s2 := match sh.iso with
    | some x => setCan x.ctrl { canOf s1 x.ctrl with claim := x.claim, name := x.name, tp := x.tp } (fset s1 (R.CAN_ISO x.ctrl) F.CAN_ISO_ADDR x.addr)
    | none => s1
  let s3 := match sh.pose with | some x => loadSolver x s2 | none => s2
  let s5 := match sh.time with | some x => loadTime x s3 | none => s3
  let s6 := { s5 with str := { s5.str with
    scheds := sh.scheds, schedOff := sh.schedOff, chgs := sh.chgs, modeNext := sh.modeNext, sRef := sh.sRef, cRef := sh.cRef
    orient := sh.orient } }
  let s7 := rset (rset s6 R.STR_SECCTL sh.secctl) R.STR_MODE sh.mode
  let s8 := forEach sh.secsw.zipIdx (fun w s => rset s (R.STR_SECSW w.2) w.1) s7
  let s9 := forEach sh.stalls.zipIdx (fun w s => rset s (R.STR_STALL w.2) w.1) s8
  let s10 := forEach sh.sess (fun x s => rset (setSess x.1 x.2.1 s) (R.BRD_SESS_STAT x.1) x.2.2) (fset s9 R.TLK_TERM F.TLK_TERM_TERM sh.term)
  let s11 := match sh.swap with
    | some w => { (fset s10 R.IMG_STATUS F.IMG_STATUS_STATE w.state) with img := { s10.img with
        swapC := some w.c, scope := w.scope, loopScope := w.loopScope, loopGone := w.loopGone, loopSwap := !w.loopScope.isEmpty } }
    | none => s10
  { s11 with
    pwr := { s11.pwr with keyoffK := sh.keyoff }
    team := { s11.team with roleNext := sh.roleNext, tabMembers := sh.tabMembers }
    cov := { s11.cov with runAt := sh.runAt } }

/-! ### Takeover -/

/-- A fault during a takeover (R355): every output to its safe state at once, the queues discarded, the loops OFF, POSITION_SAFE over TC2.
The interval is a COMMIT_GAP (R180). Log 53: DEDUCED. -/
def takeoverFault (s : State) : State :=
  let gaps := (s.team.shadow.map (·.outs)).getD []
  let s0 := { s with team := { s.team with roles := s.team.roles.filter (fun r => r.2 != posOf s), handover := none } }
  let s1 := staged (fun s =>
    let s1 := forEach (strideOuts s) (fun o s => nextReg o.out (cutMarks o.out 0 (squash o.out (fun _ => true) s))) (setPair 6 s)
    fsetb (forN 64 (fun n s => setLState n 0 s) s1) R.STR_STATUS F.STR_STATUS_RUN false) s0
  let s2 := forEach (gaps.filter (fun x => x.gate)) (fun x s => gapEnd x.out (gapAdd x.out x.doneTo s.tb 2 s)) s1
  rolesSync (toTeam s2 MsgKind.POSITION_SAFE [posOf s])

/-- A complete shadow state exists for one of the last two boundaries before a tick (R355). -/
def shadowFresh (s : State) (t : Nat) : Bool :=
  match s.team.shadow with
  | some sh => decide (boundaryAt t ≤ sh.b + cycleTicks)
  | none => false

/-- The partner is lost (R351, R352): a shadowing module starts a takeover; a driving one goes on and holds its strips (R353). Log 53: DEDUCED. -/
def partnerLost (s : State) : State :=
  let s1 := fsetb { s with team := { s.team with lostAt := some s.tb, partnerSh := false } } R.TLK_PAIR_STAT F.TLK_PAIR_STAT_PARTNER_HB false
  if pairState s = 2 then
    let s2 := setPair 4 { s1 with team := { s1.team with handover := none } }
    if shadowFresh s (s.team.hbAt.getD s.tb) then s2 else takeoverFault s2
  else if isLeader s = true ∧ s.team.members.contains (partnerOf (midOf s)) = false then partnerAlone s1
  else s1

/-- PARTNER_LOST (R351): 6.5 µs without a valid heartbeat. -/
def execPartnerLost (s : State) : Out :=
  .next (match s.team.hbAt with
    | some t => if fbit s R.TLK_PAIR_STAT F.TLK_PAIR_STAT_PARTNER_HB ∧ t + 1300 ≤ s.tb then partnerLost s else s
    | none => s)

/-- The survivor drives from tick T (R180, R352): output ownership, the ISOBUS controller to NORMAL, DRIVE_CLAIM over TC2. The leader's role
and term stay with the position (R340). Log 53: DEDUCED. -/
def takeOver (T : Nat) (s : State) : State :=
  let s1 := match s.team.shadow with | some sh => loadShadow sh s | none => s
  let s2 := staged (fun s => queueCatchUp T (setPair 1 s)) s1
  let s3 := rset64 (fincSat s2 R.TLK_PAIR_STAT F.TLK_PAIR_STAT_TAKEOVERS) R.TLK_PAIR_T_LO R.TLK_PAIR_T_HI T
  let s4 := trcStop (injEnd 11 { s3 with team := { s3.team with claimed := true, handover := none } })
  let s5 := if leaderOf s4 = some (partnerOf (midOf s4)) then askAgain (setTeamState 2 (setLeader (some (midOf s4)) s4)) else s4
  let s6 := toTeam s5 MsgKind.DRIVE_CLAIM [midOf s5, T]
  raise (rolesSync (if isLeader s6 then newTables s6 else s6)) Ev.TAKEOVER [T]

/-- TAKEOVER_COMPLETE (R352): at T. -/
def execTakeoverComplete (s : State) : Out := .next (if pairState s ≠ 4 then s else takeOver s.tb s)

/-- This module yields the position (R353): OFF at the fence with its queues squashed, loops OFF, the ISOBUS controller to LISTEN_ONLY, roles
released, strips held discarded and their ground written as COMMIT_GAP. -/
def yieldPosition (s : State) : State :=
  let s0 := trcStop (injEnd 11 { s with team := { s.team with splitF := nextBoundary s.tb, handover := none, lostAt := none } })
  let s1 := forN 64 (fun n s => setLState n 0 s) (engineStop s0)
  let held := s1.cov.toAck
  let s2 := forEach held (fun x s => gapEnd (x.out - 1) (gapAdd (x.out - 1) x.stamp (x.stamp + cycleTicks - 1) 5 s))
    { s1 with cov := { s1.cov with toAck := [] } }
  let s3 := resolvedPair (staged (setPair 5) s2)
  raise (rolesSync s3) Ev.PAIR_SPLIT [posOf s]

/-- DRIVE_CLAIM (R352, R353, R340): the leader issues a table to the survivor, the leader's role stays with its position, and a driving module
of the position yields. -/
def execDriveClaim (m : Fin 64) (_T : Nat) (s : State) : Out :=
  .next (
    if m.val = midOf s ∨ domOn s 6 = false then s
    else
      let led := leaderOf s = some (partnerOf m.val)
      let s1 := if led then
          let s0 := setLeader (some m.val) { s with team := { s.team with beatAt := some s.tb } }
          askAgain (if teamState s = 2 then setTeamState 1 s0 else s0)
        else s
      let s2 := if isLeader s1 then newTables s1 else s1
      if m.val = partnerOf (midOf s) ∧ (pairState s = 1 ∨ pairState s = 0) then
        yieldPosition s2 else s2)

/-- POSITION_SAFE (R355): the roles of the position pass on, and the team continues without it. -/
def execPositionSafe (pos : Fin 32) (s : State) : Out :=
  .next (
    let gone := s.team.members.filter (fun m => m / 2 == pos.val)
    if pos.val = posOf s ∨ gone = [] then s
    else
      let s1 := setMembers (s.team.members.filter (fun m => m / 2 != pos.val)) s
      if isLeader s1 then newTables (rolesMove { s1 with team := { s1.team with roles := s1.team.roles.filter (fun r => r.2 != pos.val) } }) else s1)

/-- PARTNER_ABSENT_REPORT (R353): the held strips are sent, and the module drives alone. -/
def execPartnerAbsentReport (s : State) : Out :=
  .next (partnerAlone s)

/-- PAIR_UNRESOLVED (R353): neither happens within 100 ms. -/
def execPairUnresolved (s : State) : Out :=
  .next (match s.team.lostAt with
    | some t =>
      if pairState s = 1 ∧ t + msTicks 100 ≤ s.tb ∧ fbit s R.TLK_PAIR_STAT F.TLK_PAIR_STAT_PAIR_UNRESOLVED = false then
        fault (fsetb s R.TLK_PAIR_STAT F.TLK_PAIR_STAT_PAIR_UNRESOLVED true) Ev.PAIR_UNRESOLVED [posOf s]
      else s
    | none => s)

/-! ### The heartbeat -/

/-- PL_HEARTBEAT_SEND (R351): every 2 µs, with the count and DRIVING, HEALTHY and HANDOVER with its boundary. -/
def execPlHeartbeatSend (s : State) : Out :=
  .next (
    let due := match s.team.hbTx with | some t => decide (t + 400 ≤ s.tb) | none => true
    if pairPlanned s = false ∨ domOn s 6 = false ∨ due = false then s
    else
      let n := s.team.hbNext
      let s1 := { s with team := { s.team with hbNext := (n + 1) % 16, hbTx := some s.tb } }
      send s1 MsgKind.PL_HEARTBEAT (partnerOf (midOf s))
        [n, b2n (drives s && s.team.formed), b2n s.team.healthy, b2n s.team.handover.isSome, (s.team.handover.getD 0 : Nat)])

/-- Both modules of the pair drive when PL returns (R353): the one that has sent a DRIVE_CLAIM prevails. Log 53: DEDUCED. -/
def splitEnd (driving : Bool) (s : State) : State :=
  if s.team.lostAt.isNone then s
  else
    let s1 := { s with team := { s.team with lostAt := none } }
    if driving = true ∧ pairState s = 1 ∧ s.team.claimed = false then yieldPosition s1
    else resolvedPair s1

/-- PL_HEARTBEAT (R351, R354, R355): with HEALTHY clear the partner is lost at once; with DRIVING set during a takeover it is a fault; a SPLIT
module beside a driving partner rejoins by SYNC. -/
def execPlHeartbeat (cnt : Fin 16) (driving healthy : Bool) (handover : Option Nat) (s : State) : Out :=
  .next (
    if pairPlanned s = false ∨ domOn s 6 = false then s
    else
      let was := fbit s R.TLK_PAIR_STAT F.TLK_PAIR_STAT_PARTNER_HB
      let missed := if was then (cnt.val + 31 - s.team.hbCnt) % 16 else 0
      let s1 := faddSat s R.TLK_PAIR_STAT F.TLK_PAIR_STAT_HB_MISSED missed
      let s2 := fsetb { s1 with team := { s1.team with hbAt := some s.tb, hbCnt := cnt.val, hbDrive := driving } }
        R.TLK_PAIR_STAT F.TLK_PAIR_STAT_PARTNER_HB true
      if pairState s = 4 ∧ driving = true then takeoverFault s2
      else if healthy = false then (if was then partnerLost s2 else s2)
      else
        let s3 := if pairState s2 = 1 then splitEnd driving s2 else s2
        if pairState s3 = 5 ∧ driving = true ∧ was = true then
          fsetb (setPair 3 { s3 with team := { s3.team with claimed := false, shadow := none } }) R.TLK_PAIR_STAT F.TLK_PAIR_STAT_PAIR_SYNC true
        else if pairState s3 = 2 ∧ driving = true then { s3 with team := { s3.team with handover := handover } }
        else s3)

/-! ### Handover -/

/-- HANDOVER (R354): the driving module names H, at least 10 cycles ahead; refused while the partner is not SHADOW. Log 53: DEDUCED. -/
def execHandover (who : Fin 36) (s : State) : Out :=
  .next (rapDo s who.val .handover 6 R.TLK_PAIR_CTRL fun s =>
    if pairState s = 1 ∧ s.team.partnerSh ∧ fbit s R.TLK_PAIR_STAT F.TLK_PAIR_STAT_PARTNER_HB then
      { s with team := { s.team with handover := some (boundaryFrom (s.tb + 10 * cycleTicks)) } }
    else s)

/-- The module that hands over shadows from H on (R349, R354). Log 53: DEDUCED. -/
def handOff (s : State) : State :=
  let s1 := forEach (strideOuts s) (fun o s =>
    nextReg o.out (setOut (setGate o.out false s) o.out { outSt s o.out with queue := [], runs := [] })) s
  let s2 := forN 64 (fun n s => setLState n 0 s) (fsetb (trcStop (injEnd 11 s1)) R.STR_STATUS F.STR_STATUS_RUN false)
  setPair 2 { s2 with team := { s2.team with handover := none, claimed := false, shadow := none, partnerSh := false } }

/-- HANDOVER_APPLY (R354): at H the partner takes over with T = H. -/
def execHandoverApply (s : State) : Out :=
  .next (match s.team.handover with
    | none => s
    | some H =>
      if s.tb < H then s
      else if pairState s = 1 then rolesSync (staged handOff s)
      else if pairState s = 2 then takeOver H s
      else s)

end Sys2Proof.Machine
end

