-- ==== Sys2Proof/Machine/Island.lean ====
section
/-!
DEFINITION. Machine/Island.lean: the safety island (R359 to R384): inputs and test pulses, safety outputs and their restart, the sealed
switches and the mirror, safety connections.
-/

namespace Sys2Proof.Machine

/-! ### What the island holds -/

/-- An input as the island starts: both channels at their demanding levels, without a fault (R365). -/
def siInit : Nat → SafIn := fun _ => ⟨none, true, false, 0, 0, 0, none, none⟩

/-- What the island holds of an input. -/
def siOf (s : State) (x : Nat) : SafIn := smGet siInit s.saf.ins x

/-- Record it. -/
def setSi (x : Nat) (i : SafIn) (s : State) : State := { s with saf := { s.saf with ins := smSet siInit x i s.saf.ins } }

/-- A connection as the island starts (R378). -/
def connInit : Nat → SafConn := fun _ => ⟨false, 0, [], 0, false⟩

/-- What the island holds of a connection. -/
def connOf (s : State) (n : Nat) : SafConn := smGet connInit s.saf.conns n

/-- Record it. -/
def setConn (n : Nat) (c : SafConn) (s : State) : State := { s with saf := { s.saf with conns := smSet connInit n c s.saf.conns } }

/-- The entry of a connection in SAFMIR (R375). -/
def connDef (s : State) (n : Nat) : Option ConnDef := s.saf.mir.bind (fun m => m.conns.find? (fun c => c.idx.val == n))

/-- FILT in ms (R363). -/
def filtMs (s : State) : Nat := (s.saf.mir.map (·.filt)).getD 3

/-- T_TEST in ms (R367). -/
def tTest (s : State) : Nat := (s.saf.mir.map (·.tTest)).getD 1000

/-- DISC in ms, from SW9 to SW11 (R372). -/
def discMs (s : State) : Nat := [10, 20, 50, 100, 200, 500, 1000, 2000].getD (fget s R.SAF_SW F.SAF_SW_SW / 256 % 8) 10

/-- Contact mode of an input: 0 UNUSED, 1 EQUIV_TP, 2 EQUIV_OSSD, 3 ANTIVALENT (R362, R372). -/
def siMode (s : State) (x : Nat) : Nat := fget s (R.SAF_IN x) F.SAF_IN_MODE

/-- The code of an input in the switches: SW(2x − 1) is the high bit (R372). -/
def swMode (sw x : Nat) : Nat := 2 * (sw / 2 ^ (2 * x) % 2) + sw / 2 ^ (2 * x + 1) % 2

/-- The demanding level of a channel (R362): low, but high for channel B of an ANTIVALENT input. -/
def demandLevel (mode : Nat) (b : Bool) : Bool := mode == 3 && b

/-- Field of a channel's accepted level. -/
def chFld (b : Bool) : Fld := if b then F.SAF_IN_B else F.SAF_IN_A

/-- A channel is at its demanding level. -/
def chDemand (s : State) (x : Nat) (b : Bool) : Bool := fbit s (R.SAF_IN x) (chFld b) == demandLevel (siMode s x) b

/-- An input is faulted (R364, R365). -/
def siFault (s : State) (x : Nat) : Bool :=
  fbit s (R.SAF_IN x) F.SAF_IN_DISCREPANCY || fbit s (R.SAF_IN x) F.SAF_IN_TP_FAULT || fbit s (R.SAF_IN x) F.SAF_IN_CROSS_SHORT ||
    fbit s (R.SAF_IN x) F.SAF_IN_TP_DRIVER

/-- The input is released when both channels are at their released levels and it is not faulted; a demand is counted (R362, R365). -/
def siSync (x : Nat) (s : State) : State :=
  let was := fbit s (R.SAF_IN x) F.SAF_IN_RELEASED
  let now := siMode s x != 0 && !chDemand s x false && !chDemand s x true && !siFault s x
  let s1 := fsetb s (R.SAF_IN x) F.SAF_IN_RELEASED now
  let s2 := if was ∧ now = false then fincSat s1 (R.SAF_IN x) F.SAF_IN_DEMANDS else s1
  fset s2 R.SAF_STATUS F.SAF_STATUS_SI_RELEASED
    ((List.range 4).foldl (fun v k => v + (if fbit s2 (R.SAF_IN k) F.SAF_IN_RELEASED then 2 ^ k else 0)) 0)

/-! ### Opening and closing -/

/-- A SOx closes (R369). -/
def soClose (x : Nat) (s : State) : State :=
  let s1 := fsetb (fsetb s (R.SAF_SO x) F.SAF_SO_CLOSED true) (R.SAF_SO x) F.SAF_SO_WAIT_SRST false
  let t := tTest s
  soShow (setSo x { soOf s1 x with dueH := s.saf.ms + t, dueL := s.saf.ms + t + t / 2, needEdge := false, rbAt := none, shut := true } s1)

/-- An OUT_FAULT opens both switches and holds until the next power-up (R368). Log 54: DEDUCED. -/
def outFault (x : Nat) (e : Ev) (s : State) : State :=
  if fbit s (R.SAF_SO x) F.SAF_SO_OUT_FAULT then s
  else fault (soOpen x (fsetb s (R.SAF_SO x) F.SAF_SO_OUT_FAULT true)) e [x]

/-- A mapped bit of a connection: it reads 0 except in RUN, and while the producer is at fault (R376, R378). -/
def remoteBit (s : State) (n bit : Nat) : Bool :=
  fget s (R.SAF_CONN_STAT n) F.SAF_CONN_STAT_STATE == 1 && !(connOf s n).flt && bitOf (fget s (R.SAF_CONN_STAT n) F.SAF_CONN_STAT_SIG) bit

/-- The island holds every SOx open: until the next power-up (R361, R371), while no mirror matches (R373), and while L0 is lost (R8). Log 54: DEDUCED. -/
def islandHeld (s : State) : Bool :=
  !l0Ok s || !s.pwr.aoOk || !s.pwr.safeOk || s.pwr.asleep || fbit s R.SAF_STATUS F.SAF_STATUS_SAFE_LOCK || fbit s R.SAF_STATUS F.SAF_STATUS_SW_INVALID ||
    fbit s R.SAF_STATUS F.SAF_STATUS_SW_CHANGED || !fbit s R.SAF_STATUS F.SAF_STATUS_MIRROR_OK

/-- The sources of a SOx. -/
def soSrc (s : State) (x : Nat) : Option SafSrc := s.saf.mir.bind (fun m => m.sos[x]?)

/-- A SOx with an empty set of sources is unused (R366). -/
def soUsed (s : State) (x : Nat) : Bool :=
  match soSrc s x with
  | some r => r.local_ != 0 || !r.remote.isEmpty
  | none => false

/-- The conditions of a SOx hold (R366): every source released, nothing faulted, the island healthy. -/
def soHolds (s : State) (x : Nat) : Bool :=
  !islandHeld s && soUsed s x && !fbit s (R.SAF_SO x) F.SAF_SO_OUT_FAULT &&
    match soSrc s x with
    | some r => (List.range 4).all (fun k => !r.local_.getLsbD k || (fbit s (R.SAF_IN k) F.SAF_IN_RELEASED && !siFault s k))
        && r.remote.all (fun c => remoteBit s c.1.val c.2.val)
    | none => false

/-- Restart mode AUTOMATIC, and no island reset before it (R361, R369). -/
def soAuto (s : State) (x : Nat) : Bool := fbit s (R.SAF_SO x) F.SAF_SO_AUTO && !(soOf s x).needEdge

/-! ### The start of the island and its reset -/

/-- A connection's state changes, with its record; the fault of the state it leaves ends (R378). -/
def connEnter (n st : Nat) (s : State) : State :=
  let old := fget s (R.SAF_CONN_STAT n) F.SAF_CONN_STAT_STATE
  if old = st then s
  else
    let s1 := raise (setConn n { connOf s n with good := 0 } (fset s (R.SAF_CONN_STAT n) F.SAF_CONN_STAT_STATE st)) Ev.CONN_STATE [n, old, st]
    match old with
    | 2 => faultOver s1 Ev.CONN_TIMEOUT [n]
    | 3 => faultOver s1 Ev.CONN_FAULT [n]
    | _ => s1

/-- A fault bit of an input clears, with its record (R365). -/
def siUnfault (x : Nat) (f : Fld) (e : Ev) (s : State) : State :=
  if fbit s (R.SAF_IN x) f then faultEnd (fsetb s (R.SAF_IN x) f false) e [x] else s

/-- Every fault of an input clears: at an island start it is demanding without a fault (R365). -/
def siNew (x : Nat) (s : State) : State :=
  siUnfault x F.SAF_IN_TP_DRIVER Ev.TP_DRIVER (siUnfault x F.SAF_IN_CROSS_SHORT Ev.CROSS_SHORT
    (siUnfault x F.SAF_IN_TP_FAULT Ev.TP_FAULT (siUnfault x F.SAF_IN_DISCREPANCY Ev.DISCREPANCY s)))

/-- The island starts (R363, R365, R370, R378): accepted levels at their demanding levels, SRST accepted active, connections in STARTUP. -/
def islandStart (edge : Bool) (s : State) : State :=
  let s1 := { s with saf := { s.saf with
    start := s.saf.ms + 1, ins := [], drvA := none, drvB := none, tpaAt := none, tpbAt := none, srst := true, srstAcc := none, srstAt := none
    edgeIn := false, edge := false, srstBoot := false } }
  let s2 := forN 4 (fun x s0 =>
    let s := siNew x s0
    let m := swMode (fget s R.SAF_SW F.SAF_SW_SW) x
    let d := fget s (R.SAF_IN x) F.SAF_IN_DEMANDS
    rset s (R.SAF_IN x) (fsetW (fsetW (fsetW 0 F.SAF_IN_MODE m) F.SAF_IN_B (b2n (m == 3))) F.SAF_IN_DEMANDS d)) s1
  let s3 := forN 4 (fun x s => setSo x { soOf s x with tested := false, preAt := none, since := none, shut := false, needEdge := edge } s) s2
  let s4 := forN 64 (fun n s => setConn n (connInit n) (connEnter n 0 s)) s3
  fset s4 R.SAF_STATUS F.SAF_STATUS_SI_RELEASED 0

/-- An island reset (R360, R361): every SOx opens with its cut map; the third within 1 h sets SAFE_LOCK. -/
def islandReset (cause : Nat) (s : State) : State :=
  let s1 := forN 4 (fun x s => soOpen x s) s
  let s2 := fincSat (fsetb s1 R.SAF_STATUS F.SAF_STATUS_ISLAND_OK false) R.SAF_STATUS F.SAF_STATUS_RESETS
  let l := (s.saf.resets.filter (fun t => decide (s.saf.ms < t + 3600000))) ++ [s.saf.ms]
  let s3 := fault (islandStart true { s2 with saf := { s2.saf with resets := l } }) Ev.ISLAND_FAULT [cause]
  if 3 ≤ l.length ∧ fbit s R.SAF_STATUS F.SAF_STATUS_SAFE_LOCK = false then
    fault (fsetb s3 R.SAF_STATUS F.SAF_STATUS_SAFE_LOCK true) Ev.SAFE_LOCK [] else s3

/-- A mirror matches the switches (R373). -/
def mirrorOk (m : Safmir) (sw : Nat) : Bool :=
  m.sw.toNat == sw && (m.conns.isEmpty || bitOf sw 15) &&
    m.sos.all (fun r => (List.range 4).all (fun x => !r.local_.getLsbD x || swMode sw x != 0)
      && (r.local_ != 0 || !r.remote.isEmpty || r.cut == (0, 0, 0, 0)))

/-- The island takes SAFMIR (R373, R383, R384); its connections start anew where it is another than before (R378). Log 54: DEDUCED. -/
def mirrorLoad (m : Option Safmir) (s : State) : State :=
  let sw := fget s R.SAF_SW F.SAF_SW_SW
  let m1 := m.filter (fun x => mirrorOk x sw)
  let s1 := fsetb { s with saf := { s.saf with mir := m1 } } R.SAF_STATUS F.SAF_STATUS_MIRROR_OK m1.isSome
  let s2 := forN 4 (fun x s =>
    let c := ((m1.bind (fun y => y.sos[x]?)).map (·.cut)).getD (0, 0, 0, 0)
    let s1 := rset (rset (rset (rset s (R.SAF_CUT x 0) c.1) (R.SAF_CUT x 1) c.2.1) (R.SAF_CUT x 2) c.2.2.1) (R.SAF_CUT x 3) (c.2.2.2 &&& 15)
    fsetb s1 (R.SAF_SO x) F.SAF_SO_AUTO (bitOf sw (11 + x))) s1
  let s3 := if m1 = s.saf.mir then s2 else forN 64 (fun n s => rset (setConn n (connInit n) (connEnter n 0 s)) (R.SAF_CONN_STAT n) 0) s2
  forEach ((m1.map (·.conns)).getD []) (fun c s =>
    fsetb (fsetb s (R.SAF_CONN_STAT c.idx.val) F.SAF_CONN_STAT_USED true) (R.SAF_CONN_STAT c.idx.val) F.SAF_CONN_STAT_PRODUCER c.producer) s3

/-! ### The evaluation -/

/-- The self-checks and the sealed switches at an evaluation (R360, R371): an invalid switch, or a valid change, opens SO1 to SO4 until power-up. A
detection resets the island, once however many one evaluation makes. Log 54: DEDUCED. -/
def islandCheck (no nc : BitVec 16) (bad : Bool) (s : State) : State :=
  let valid := (no ^^^ nc).toNat
  let changed := (no.toNat ^^^ fget s R.SAF_SW F.SAF_SW_SW) &&& valid
  let inv := decide (valid ≠ 65535) && !fbit s R.SAF_STATUS F.SAF_STATUS_SW_INVALID
  let chg := decide (changed ≠ 0) && !fbit s R.SAF_STATUS F.SAF_STATUS_SW_CHANGED
  let s1 := fset s R.SAF_SW F.SAF_SW_VALID valid
  let s2 := if inv then recRaise (fsetb s1 R.SAF_STATUS F.SAF_STATUS_SW_INVALID true) true Ev.SW_INVALID [(valid : Int)] else s1
  let s3 := if chg then recRaise (fsetb s2 R.SAF_STATUS F.SAF_STATUS_SW_CHANGED true) true Ev.SW_CHANGED [(changed : Int)] else s2
  if bad || inv || chg then islandReset (if inv then 1 else if chg then 2 else 0) s3 else s3

/-- What the island checks at every evaluation beside its switches (R360): its self-tests, its rail in mV, its junction in °C. -/
def selfFail (selfBad : Bool) (mv temp : Int) : Bool :=
  selfBad || decide (mv < 2900) || decide (3600 < mv) || decide (150 < temp)

/-- A SOx at an evaluation (R366, R368, R369). Log 54: DEDUCED. -/
def soEval (rbH rbL short : BitVec 4) (x : Nat) (s : State) : State :=
  let h := rbH.getLsbD x
  let l := rbL.getLsbD x
  let s0 := fsetb (fsetb s (R.SAF_SO x) F.SAF_SO_H_RB h) (R.SAF_SO x) F.SAF_SO_L_RB l
  let closed := fbit s (R.SAF_SO x) F.SAF_SO_CLOSED
  let bad := if closed then !h || !l else h || l
  let s1 := setSo x { soOf s0 x with rbAt := if bad then some ((soOf s0 x).rbAt.getD s.saf.ms) else none } s0
  let s2 := if closed = false ∧ short.getLsbD x = true then outFault x Ev.SO_SHORT s1 else s1
  let holds := soHolds s2 x
  if closed then (if holds then s2 else soOpen x s2)
  else if holds then
    let o := { soOf s2 x with since := some ((soOf s2 x).since.getD s.saf.ms) }
    fsetb (setSo x o s2) (R.SAF_SO x) F.SAF_SO_WAIT_SRST (o.tested && !soAuto s2 x)
  else fsetb (setSo x { soOf s2 x with since := none } s2) (R.SAF_SO x) F.SAF_SO_WAIT_SRST false

/-- The next ms of the SAFE clock: an SRST edge accepted since the last evaluation is this one's, one that has restarted nothing is not remembered
(R363, R369). -/
def safTick (s : State) : State :=
  { s with saf := { s.saf with ms := s.saf.ms + 1, edge := s.saf.edgeIn, edgeIn := false } }

/-- SAFETY_EVALUATION (R360, R363, R366, R370, R371): every 1 ms. SRST active at the first sample is stuck. Log 63: DESIGN CHOICE. -/
def execSafetyEvaluation (no nc : BitVec 16) (rbH rbL short : BitVec 4) (srst selfBad : Bool) (mv temp : Int) (s : State) : Out :=
  .next (if s.pwr.powered = false ∨ s.pwr.asleep then s
    else staged (fun s =>
      let s1 := safTick s
      let s2 := if s1.saf.ms = s1.saf.start ∧ srst = true then
          raise (fsetb { s1 with saf := { s1.saf with srstBoot := true } } R.SAF_STATUS F.SAF_STATUS_SRST_STUCK true) Ev.SRST_STUCK [] else s1
      forN 4 (soEval rbH rbL short) (islandCheck no nc (selfFail selfBad mv temp) s2)) s)

/-- ISLAND_HEARTBEAT_LOSS (R360): the AO supervisor resets the island. -/
def execIslandHeartbeatLoss (s : State) : Out :=
  .next (if s.pwr.powered = false ∨ s.pwr.asleep then s else staged (islandReset 3) s)

/-! ### Inputs -/

/-- A fault of an input (R364, R365): it is demanding and faulted until the cycle of R365. -/
def siFaulted (x : Nat) (f : Fld) (e : Ev) (s : State) : State :=
  if fbit s (R.SAF_IN x) f then s
  else
    let both := chDemand s x false && chDemand s x true
    let s1 := setSi x { siOf s x with both := both, cycled := false, good := 0, firstAt := none } (fsetb s (R.SAF_IN x) f true)
    fault (siSync x s1) e [x]

/-- Faults of an input that may clear, do (R365). -/
def siClear (x : Nat) (s : State) : State :=
  let i := siOf s x
  if i.cycled = false then s
  else
    let s1 := siUnfault x F.SAF_IN_DISCREPANCY Ev.DISCREPANCY s
    let s2 := if 10 ≤ i.good then siUnfault x F.SAF_IN_CROSS_SHORT Ev.CROSS_SHORT (siUnfault x F.SAF_IN_TP_FAULT Ev.TP_FAULT s1) else s1
    siSync x s2

/-- Inputs supplied from the pulse drivers (R362). -/
def onDrivers (s : State) (x : Nat) : Bool := siMode s x == 1 || siMode s x == 3

/-- A driver's fault clears when it has read back low at 10 consecutive pulses and each of its inputs has completed the cycle (R365). -/
def drvClear (s : State) : State :=
  let cyc := (List.range 4).all (fun x => !onDrivers s x || (siOf s x).cycled)
  let a := if cyc ∧ decide (10 ≤ s.saf.drvA.getD 0) = true then none else s.saf.drvA
  let b := if cyc ∧ decide (10 ≤ s.saf.drvB.getD 0) = true then none else s.saf.drvB
  let s1 := { s with saf := { s.saf with drvA := a, drvB := b } }
  if a.isSome ∨ b.isSome then s1 else forN 4 (fun x s => siSync x (siUnfault x F.SAF_IN_TP_DRIVER Ev.TP_DRIVER s)) s1

/-- FILT has passed since the accepted level last changed, or since the island started (R363). -/
def filtPast (s : State) (last : Option Nat) : Bool := decide (last.getD s.saf.start + filtMs s ≤ s.saf.ms)

/-- The accepted level of a channel changes (R363, R365). Log 54: DEDUCED. -/
def chAccept (x : Nat) (b high : Bool) (s : State) : State :=
  let was := siOf s x
  if siMode s x = 0 ∨ fbit s (R.SAF_IN x) (chFld b) = high ∨ filtPast s (if b then was.accB else was.accA) = false then s
  else
    let s1 := setSi x (if b then { was with accB := some s.saf.ms } else { was with accA := some s.saf.ms }) (fsetb s (R.SAF_IN x) (chFld b) high)
    let mine := chDemand s1 x b
    let other := chDemand s1 x (!b)
    let i := siOf s1 x
    let within : Bool := match i.firstAt with | some t => decide (s.saf.ms ≤ t + discMs s) | none => false
    if mine ∧ other then siSync x (setSi x { i with firstAt := none, both := true } s1)
    else if mine ∨ other then siSync x (setSi x { i with firstAt := some s.saf.ms } s1)
    else
      -- both channels have left the demanding level
      let s2 := setSi x { i with firstAt := none } s1
      if i.both ∧ within then drvClear (siClear x (siSync x (setSi x { i with firstAt := none, both := false, cycled := true } s2)))
      else if within then siSync x s2
      else siFaulted x F.SAF_IN_DISCREPANCY Ev.DISCREPANCY s2

/-- SRST is accepted active or inactive (R370). -/
def srstAccept (active : Bool) (s : State) : State :=
  if s.saf.srst = active ∨ filtPast s s.saf.srstAcc = false then s
  else if active then
    { s with saf := { s.saf with srst := true, srstAt := some s.saf.ms, srstAcc := some s.saf.ms, edgeIn := false } }
  else
    let valid := match s.saf.srstAt with
      | some t => decide (t + 50 ≤ s.saf.ms ∧ s.saf.ms ≤ t + 5000) && !fbit s R.SAF_STATUS F.SAF_STATUS_SRST_STUCK
      | none => false
    fsetb { s with saf := { s.saf with srst := false, srstAt := none, srstAcc := some s.saf.ms, edgeIn := valid, srstBoot := false } }
      R.SAF_STATUS F.SAF_STATUS_SRST_STUCK false

/-- SI_CHANNEL_ACCEPTED (R363, R365, R370). -/
def execSiChannelAccepted (ch : Fin 9) (high : Bool) (s : State) : Out :=
  .next (if s.pwr.powered = false ∨ s.pwr.asleep then s
    else if ch.val = 8 then srstAccept high s
    else chAccept (ch.val / 2) (ch.val % 2 == 1) high s)

/-- DISCREPANCY (R365): the second channel has not followed within DISC. -/
def execDiscrepancy (x : Fin 4) (s : State) : Out :=
  .next (match (siOf s x.val).firstAt with
    | some t => if t + discMs s < s.saf.ms then siFaulted x.val F.SAF_IN_DISCREPANCY Ev.DISCREPANCY s else s
    | none => s)

/-- An input during a pulse of a driver (R364): two consecutive failures of a check are a fault; a pulse is good when every check made
on the input passes. Log 54: DEDUCED. -/
def pulseInput (b : Bool) (own cross : BitVec 4) (x : Nat) (s : State) : State :=
  if onDrivers s x = false then s
  else
    let i := siOf s x
    let ownUp := fbit s (R.SAF_IN x) (chFld b)
    let otherUp := fbit s (R.SAF_IN x) (chFld (!b))
    let ownBad := ownUp && own.getLsbD x
    let crossBad := otherUp && cross.getLsbD x
    let tp := if ownUp then (if ownBad then i.tpFail + 1 else 0) else i.tpFail
    let cs := if otherUp then (if crossBad then i.csFail + 1 else 0) else i.csFail
    let good := if ownBad || crossBad then 0 else if ownUp || otherUp then i.good + 1 else i.good
    let s1 := setSi x { i with tpFail := tp, csFail := cs, good := good } s
    let s2 := if 2 ≤ tp then siFaulted x F.SAF_IN_TP_FAULT Ev.TP_FAULT s1 else s1
    siClear x (if 2 ≤ cs then siFaulted x F.SAF_IN_CROSS_SHORT Ev.CROSS_SHORT s2 else s2)

/-- A pulse of TPA ends 1.4 ms, one of TPB 11.4 ms, after the island started, every 20 ms; its checks begin FILT after that start (R363 to R365). -/
def pulseEnd (b : Bool) (s : State) : Bool :=
  decide (s.saf.start + filtMs s < s.saf.ms) && decide ((s.saf.ms - s.saf.start) % 20 = if b then 11 else 1)
    && decide ((if b then s.saf.tpbAt else s.saf.tpaAt) ≠ some s.saf.ms)

/-- The pulse of a driver is checked. -/
def pulseSeen (b : Bool) (s : State) : State :=
  if b then { s with saf := { s.saf with tpbAt := some s.saf.ms } } else { s with saf := { s.saf with tpaAt := some s.saf.ms } }

/-- TEST_PULSE (R364, R365), at the end of the pulse. -/
def execTestPulse (b stuck : Bool) (own cross : BitVec 4) (s : State) : Out :=
  .next (if s.pwr.powered = false ∨ s.pwr.asleep ∨ pulseEnd b s = false then s
    else
      let s1 := forN 4 (pulseInput b own cross) (pulseSeen b s)
      if stuck then
        let s2 := if b then { s1 with saf := { s1.saf with drvB := some 0 } } else { s1 with saf := { s1.saf with drvA := some 0 } }
        forN 4 (fun x s => if onDrivers s x then siFaulted x F.SAF_IN_TP_DRIVER Ev.TP_DRIVER s else s) s2
      else if b then drvClear { s1 with saf := { s1.saf with drvB := s1.saf.drvB.map (· + 1) } }
      else drvClear { s1 with saf := { s1.saf with drvA := s1.saf.drvA.map (· + 1) } })

/-! ### Outputs -/

/-- SO_OFF_PULSE_TEST (R367, R368): SOx_H every T_TEST, SOx_L half of T_TEST later. -/
def execSoOffPulseTest (x : Fin 4) (low ok : Bool) (s : State) : Out :=
  .next (
    let o := soOf s x.val
    let due := if low then o.dueL else o.dueH
    if fbit s (R.SAF_SO x.val) F.SAF_SO_CLOSED = false ∨ s.saf.ms < due then s
    else if ok then
      fincWrap (setSo x.val (if low then { o with dueL := due + tTest s } else { o with dueH := due + tTest s }) s)
        (R.SAF_SO x.val) F.SAF_SO_TESTS
    else staged (outFault x.val Ev.SO_TEST_FAIL) s)

/-- SO_PRECLOSE_TEST (R367, R368): while the SOx is open and has not closed since the island started, every T_TEST. -/
def execSoPrecloseTest (x : Fin 4) (ok : Bool) (s : State) : Out :=
  .next (
    let o := soOf s x.val
    let due := match o.preAt with | some t => decide (t + tTest s ≤ s.saf.ms) | none => true
    if s.pwr.powered = false ∨ s.pwr.asleep ∨ fbit s (R.SAF_SO x.val) F.SAF_SO_CLOSED ∨ o.shut ∨ soUsed s x.val = false ∨
        fbit s (R.SAF_SO x.val) F.SAF_SO_OUT_FAULT ∨ due = false then s
    else if ok then setSo x.val { o with tested := true, preAt := some s.saf.ms } s
    else outFault x.val Ev.SO_TEST_FAIL s)

/-- A readback has contradicted the command for 10 ms (R368). -/
def rbBad (s : State) (x : Nat) : Bool := match (soOf s x).rbAt with | some t => decide (t + 10 ≤ s.saf.ms) | none => false

/-- SO_STUCK (R368). -/
def execSoStuck (x : Fin 4) (s : State) : Out :=
  .next (if fbit s (R.SAF_SO x.val) F.SAF_SO_CLOSED = false ∧ rbBad s x.val then outFault x.val Ev.SO_STUCK s else s)

/-- SO_OPEN_FAIL (R368). -/
def execSoOpenFail (x : Fin 4) (s : State) : Out :=
  .next (if fbit s (R.SAF_SO x.val) F.SAF_SO_CLOSED ∧ rbBad s x.val then staged (outFault x.val Ev.SO_OPEN_FAIL) s else s)

/-- SRST_EDGE (R361, R369, R370, R382): the valid edge of an evaluation acts, after it, on every SOx that waits for one and whose conditions hold. -/
def execSrstEdge (s : State) : Out :=
  .next (if s.saf.edge = false then s
    else staged (fun s => forN 4 (fun x s =>
      if fbit s (R.SAF_SO x) F.SAF_SO_CLOSED = false ∧ soAuto s x = false ∧ soHolds s x ∧ (soOf s x).tested then soClose x s
      else s) { s with saf := { s.saf with edge := false } }) s)

/-- SRST_STUCK (R370): active for more than 5 s. -/
def execSrstStuck (s : State) : Out :=
  .next (match s.saf.srstAt with
    | some t =>
      if s.saf.srst ∧ t + 5000 < s.saf.ms ∧ fbit s R.SAF_STATUS F.SAF_STATUS_SRST_STUCK = false then
        raise (fsetb s R.SAF_STATUS F.SAF_STATUS_SRST_STUCK true) Ev.SRST_STUCK [] else s
    | none => s)

/-- SO_AUTO_RESTART (R369): the conditions have held for 500 ms. -/
def execSoAutoRestart (x : Fin 4) (s : State) : Out :=
  .next (match (soOf s x.val).since with
    | some t =>
      if fbit s (R.SAF_SO x.val) F.SAF_SO_CLOSED = false ∧ soAuto s x.val ∧ (soOf s x.val).tested ∧ soHolds s x.val ∧ t + 500 ≤ s.saf.ms then
        staged (soClose x.val) s else s
    | none => s)

/-! ### Connections -/

/-- SIG of this island (R376). Log 54: DEDUCED. -/
def sigOwn (s : State) : Nat :=
  fget s R.SAF_STATUS F.SAF_STATUS_SI_RELEASED + 16 * fget s R.SAF_STATUS F.SAF_STATUS_SO_CLOSED

/-- A CRC-32 step over one bit, most significant first, with the polynomial of R376. -/
def chkBit (r : BitVec 32) (b : Bool) : BitVec 32 :=
  if (r.getLsbD 31 != b) = true then (r <<< 1) ^^^ 0xF4ACFB13#32 else r <<< 1

/-- A byte of the covered data, in the bit order of `low`. -/
def chkByte (low : Bool) (r : BitVec 32) (v : Nat) : BitVec 32 :=
  (List.range 8).foldl (fun r k => chkBit r (bitOf v (if low then k else 7 - k))) r

/-- CHK of a safety PDU (R376): over the hidden connection ID, SEQ and bytes 04h to 07h, little-endian. Log 54: DEDUCED. -/
def safetyChk (hid seq sig stat : Nat) : Nat :=
  let r := [hid, hid / 256, hid / 65536, hid / 16777216, seq, seq / 256, sig, stat, 0, 0].foldl
    (fun r v => chkByte Config.chkLow r (v % 256)) 0xFFFFFFFF#32
  ((if Config.chkLow then r.reverse else r) ^^^ Config.chkXor).toNat

/-- SAFETY_PDU_SEND (R375, R376): every PERIOD, and at once when the data change. -/
def execSafetyPduSend (n : Fin 64) (s : State) : Out :=
  .next (match connDef s n.val with
    | none => s
    | some d =>
      let c := connOf s n.val
      let sig := sigOwn s
      let bad := islandHeld s
      if s.pwr.powered = false ∨ s.pwr.asleep ∨ d.producer = false ∨
          (s.saf.ms < c.at_ + d.period ∧ fget s (R.SAF_CONN_STAT n.val) F.SAF_CONN_STAT_SIG = sig ∧ c.flt = bad ∧ c.seen) then s
      else
        let seq := (fget s (R.SAF_CONN_STAT n.val) F.SAF_CONN_STAT_LAST + 1) % 65536
        let s1 := fset (fset s (R.SAF_CONN_STAT n.val) F.SAF_CONN_STAT_LAST seq) (R.SAF_CONN_STAT n.val) F.SAF_CONN_STAT_SIG sig
        let s2 := setConn n.val { c with seen := true, at_ := s.saf.ms, flt := bad } s1
        let pdu : List Int := [n.val, 1, seq, sig, b2n bad, safetyChk d.hid seq sig (b2n bad)]
        match d.ctrl with
        | none => send s2 MsgKind.SAFETY_PDU d.peer pdu
        | some k => send s2 MsgKind.SAFETY_PDU_CAN k.val (pdu ++ [(d.canId : Int), (d.slot.val : Int)]))

/-- A PDU discarded as an error (R377): more than 8 among the last 100 received is a fault (R378). Log 54: DEDUCED. -/
def connBad (n : Nat) (f : Fld) (s : State) : State :=
  let c := connOf s n
  let h := (true :: c.hist).take 100
  let s1 := fincSat (setConn n { c with good := 0, hist := h } s) (R.SAF_CONN_ERR n) f
  if 8 < (h.filter id).length ∧ fget s (R.SAF_CONN_STAT n) F.SAF_CONN_STAT_STATE ≠ 3 then fault (connEnter n 3 s1) Ev.CONN_FAULT [n] else s1

/-- A PDU accepted (R377, R378). Log 54: DEDUCED. -/
def connGood (n seq sig : Nat) (flt : Bool) (s : State) : State :=
  let c := connOf s n
  let s1 := fset (fset s (R.SAF_CONN_STAT n) F.SAF_CONN_STAT_LAST seq) (R.SAF_CONN_STAT n) F.SAF_CONN_STAT_SIG sig
  let s2 := setConn n { c with good := c.good + 1, hist := (false :: c.hist).take 100, at_ := s.saf.ms + 1, flt := flt } s1
  match fget s (R.SAF_CONN_STAT n) F.SAF_CONN_STAT_STATE with
  | 0 => if 3 ≤ c.good + 1 then connEnter n 1 s2 else s2
  | 2 => if 3 ≤ c.good + 1 then connEnter n 1 s2 else s2
  | 3 => if 100 ≤ c.good + 1 then setConn n { connOf s2 n with seen := false, hist := [], good := 0 } (connEnter n 0 s2) else s2
  | _ => s2

/-- The consumer a PDU is for (R375, R376): by the sending module and its connection index, or by the controller and the identifier. -/
def connFor (s : State) (ctrl : Option (Fin 4)) (src : Nat) (conn : Fin 256) : Option ConnDef :=
  s.saf.mir.bind (fun m => m.conns.find? (fun c => !c.producer && c.ctrl == ctrl &&
    (match ctrl with | none => c.peer == src && c.pidx.val == conn.val | some _ => c.canId == src)))

/-- A PDU reaches its consumer (R377, R378). -/
def pduTake (d : ConnDef) (ver : Fin 256) (seq : Fin 65536) (sig stat : BitVec 8) (chk : BitVec 32) (s : State) : State :=
  let n := d.idx.val
  if ver.val ≠ 1 ∨ chk.toNat ≠ safetyChk d.hid seq.val sig.toNat stat.toNat then connBad n F.SAF_CONN_ERR_CRC_ERR (raise s Ev.SAFETY_CRC [n])
  else
    let c := connOf s n
    let dd := (seq.val + 65536 - fget s (R.SAF_CONN_STAT n) F.SAF_CONN_STAT_LAST) % 65536
    if c.seen = false then
      -- the first PDU whose CHK holds sets LAST
      fset (setConn n { c with seen := true, hist := (false :: c.hist).take 100 } s) (R.SAF_CONN_STAT n) F.SAF_CONN_STAT_LAST seq.val
    else if dd = 0 then s
    else if dd ≤ d.win then connGood n seq.val sig.toNat (stat.getLsbD 0) s
    else connBad n F.SAF_CONN_ERR_SEQ_ERR s

/-- SAFETY_PDU (R374 to R378): by its route, `src` being the sending module or the frame's identifier. -/
def execSafetyPdu (ctrl : Option (Fin 4)) (src : Nat) (conn ver : Fin 256) (seq : Fin 65536) (sig stat : BitVec 8) (chk : BitVec 32) (s : State) :
    Out :=
  .next (
    let s1 := match ctrl with | some c => canTake c.val 5 s | none => s
    match connFor s ctrl src conn with
    | some d => if s.pwr.powered = false ∨ s.pwr.asleep then s1 else pduTake d ver seq sig stat chk s1
    | none => s1)

/-- CONN_TIMEOUT (R378): WDT of SAFE time with no accepted PDU. -/
def execConnTimeout (n : Fin 64) (s : State) : Out :=
  .next (match connDef s n.val with
    | some d =>
      if d.producer = false ∧ fget s (R.SAF_CONN_STAT n.val) F.SAF_CONN_STAT_STATE = 1 ∧ (connOf s n.val).at_ + d.wdt ≤ s.saf.ms then
        fault (connEnter n.val 2 s) Ev.CONN_TIMEOUT [n.val] else s
    | none => s)

end Sys2Proof.Machine
end

