-- ==== Sys2Proof/Machine/Bridle.lean ====
section
/-!
DEFINITION. Machine/Bridle.lean: owners, liveries, leases, transfers and the debug unlock (R387, R398 to R404, R408, R409, R413).
-/

namespace Sys2Proof.Machine

/-! ### Liveries -/

/-- The module is UNLOCKED: no livery opens (R409). -/
def locked (s : State) : Bool := fget s R.BRD_STATUS F.BRD_STATUS_LOCK == 0

/-- A livery is bound to this module: its serial is named and its wrap is held (R398). -/
def livBound (s : State) (l : Livery) : Bool := l.wrap && l.serials.contains s.pwr.serial

/-- State of a livery (R398, R400): an ERASED one stays so; the selected one is OPEN while this module holds its key and is LOCKED. -/
def livStateOf (s : State) (n : Nat) : Nat :=
  match livery s n with
  | none => 0
  | some l =>
    if livState s n = 3 then 3
    else if fget s R.BRD_STATUS F.BRD_STATUS_LIVERY = n ∧ livBound s l ∧ locked s then 2 else 1

/-- BRD_LIVn and BRD_STATUS follow the liveries held; a module that is not bound to the selected livery raises LIVERY_UNBOUND (R398). -/
def livSync (s : State) : State :=
  let s1 := forN 4 (fun n t =>
    let l := livery s n
    let w := fsetW (fsetW (fsetW 0 F.BRD_LIV_STATE (livStateOf s n)) F.BRD_LIV_BOUND ((l.map (fun x => x.serials.length)).getD 0))
      F.BRD_LIV_VERSION (min 65535 ((l.map (·.version)).getD 0))
    rset t (R.BRD_LIV n) w) s
  let sel := fget s R.BRD_STATUS F.BRD_STATUS_LIVERY
  let owner := (List.range 4).any (fun n => (livery s n).isSome && livState s1 n != 3)
  let open_ := livState s1 sel == 2
  let was := s.brd.unbound
  let s2 := fsetb (fsetb s1 R.BRD_STATUS F.BRD_STATUS_OWNER owner) R.BRD_STATUS F.BRD_STATUS_LIVERY_OPEN open_
  let unbound : Bool := match livery s sel with | some l => livState s1 sel != 3 && !livBound s l | none => false
  let s3 := { s2 with brd := { s2.brd with unbound := unbound } }
  if unbound ∧ was = false then fault s3 Ev.LIVERY_UNBOUND [sel] else if unbound = false ∧ was then faultEnd s3 Ev.LIVERY_UNBOUND [sel] else s3

/-- Record a livery. -/
def setLiv (n : Nat) (l : Livery) (s : State) : State := { s with brd := { s.brd with livs := smIns n l s.brd.livs } }

/-- A new livery master key, by its number among the random values (R396). -/
def newLmk (s : State) : Nat × State := (s.freeCnt, freeNext s)

/-! ### Commands -/

/-- BRD_RESULT (R413). -/
def brdResult (cmd res : Nat) (s : State) : State :=
  fset (fset s R.BRD_RESULT F.BRD_RESULT_RESULT res) R.BRD_RESULT F.BRD_RESULT_CMD cmd

/-- A command of BRD_CMD: sessions that write no security object are denied (R388); a session of another role than the command's has
NOT_ROLE; otherwise the command answers with its result. Log 55: DEDUCED. -/
def brdDo (who cmd : Nat) (roles : List Role) (f : State → Nat × State) (s : State) : State :=
  rapDo s who .brd 1 R.BRD_CMD fun s =>
    match sessRole s who with
    | some r => if roles.contains r then (let p := f s; brdResult cmd p.1 p.2) else brdResult cmd 3 s
    | none => s

/-- Device serials of the members of the team. -/
def teamSerials (s : State) : List Nat :=
  s.pwr.serial :: (otherMembers s).filterMap (fun m => (heardOf s m).map (·.h.serial))

/-- The leader's wraps of a livery's master key leave for each member it is bound to (R387, R396, R398). Log 55: DEDUCED. -/
def wrapLmk (n : Nat) (l : Livery) (s : State) : State :=
  forEach ((otherMembers s).filter (fun m => ((heardOf s m).map (fun x => l.serials.contains x.h.serial)).getD false))
    (fun m s => send s MsgKind.LMK_WRAP m [n, l.lmk, l.version]) s

/-- The checks of a permit signed with an OEM role key (R387, R401): 0 passed. A claim permit expires within 30 days. Log 55: DEDUCED. -/
def permitCheck (s : State) (claim : Bool) (p : OemPermit) : Nat :=
  if p.sigOk = false then 1
  else if chainHolds s s.img.otpRoot p.chain = false ∨ p.oemId ≠ s.img.oemId then 2
  else if p.toT < checkTime s ∨ (claim = true ∧ p.fromT + 30 * 86400 * 6400000000 < p.toT) then 4
  else if p.serials.contains s.pwr.serial = false then 5
  else if s.brd.used.contains p.number then 8
  else 0

/-- ENROLL_OWNER (R387): with no owner enrolled and a claim permit that names every module of the team. -/
def execEnrollOwner (who : Fin 36) (s : State) : Out :=
  .next (brdDo who.val 1 [.oem] (fun s => match s.brd.object with
    | some (.claim p) =>
      let e := permitCheck s true p
      let team := teamSerials s
      if fbit s R.BRD_STATUS F.BRD_STATUS_OWNER then (6, s)
      else if e ≠ 0 then (e, s)
      else if team.all p.serials.contains = false ∨ p.serials.all team.contains = false then (5, s)
      else
        let k := newLmk s
        let l : Livery := ⟨p.root, p.serials, 0, true, k.1, [], [], 0⟩
        let s1 := wrapLmk 0 l (setLiv 0 l { k.2 with brd := { k.2.brd with used := p.number :: k.2.brd.used } })
        (0, livSync (fset (fset s1 (R.BRD_LIV 0) F.BRD_LIV_STATE 1) R.BRD_STATUS F.BRD_STATUS_LIVERY 0))
    | _ => (1, s)) s)

/-- An owner revocation list of a higher version replaces the one held (R386). Log 57: PRESUMED. -/
def takeRevoke (b : Binding) (l : Livery) : Livery :=
  match b.revoke with
  | some (v, rs) => if l.revVer < v then { l with revVer := v, revoked := rs.take 256 } else l
  | none => l

/-- Another livery in force has this owner: there is one per owner (R398). Log 55: DEDUCED. -/
def ownerElsewhere (s : State) (n root : Nat) : Bool := (List.range 4).any (fun k => k != n && ownerRoot s k == some root)

/-- BIND_LIVERY (R398, R399): a binding of a higher version; one that removes a serial rotates the LMK, and a catch-up restarts. A number
without a livery takes the owner of the binding. Log 55: DEDUCED. -/
def execBindLivery (who : Fin 36) (s : State) : Out :=
  .next (brdDo who.val 2 [.owner] (fun s => match s.brd.object with
    | some (.binding b) =>
      if 3 < b.livery ∨ 64 < b.serials.length then (7, s)
      else if b.sigOk = false then (1, s)
      else
        let old := (livery s b.livery).filter (fun _ => livState s b.livery != 3)
        match old with
        | none =>
          let k := newLmk s
          let l := takeRevoke b ⟨b.root, b.serials, b.version, b.serials.contains s.pwr.serial, k.1, [], [], 0⟩
          if ownerElsewhere s b.livery b.root then (6, s)
          else (0, livSync (fset (wrapLmk b.livery l (setLiv b.livery l k.2)) (R.BRD_LIV b.livery) F.BRD_LIV_STATE 1))
        | some l =>
          if l.root ≠ b.root then (2, s)
          else if b.version ≤ l.version then (8, s)
          else
            let removed := l.serials.any (fun x => !b.serials.contains x)
            let k := if removed then newLmk s else (l.lmk, s)
            let l1 := takeRevoke b { l with
              serials := b.serials, version := b.version, wrap := b.serials.contains s.pwr.serial, lmk := k.1
              oldLmk := if removed then l.oldLmk ++ [l.lmk] else l.oldLmk }
            let s1 := livSync (wrapLmk b.livery l1 (setLiv b.livery l1 k.2))
            (0, match (if removed ∧ isLeader s1 then s1.cov.catchFor else none) with | some c => catchUpFor c.1 s1 | none => s1)
    | _ => (1, s)) s)

/-- SELECT_LIVERY (R398). -/
def execSelectLivery (who : Fin 36) (s : State) : Out :=
  .next (brdDo who.val 3 [.owner] (fun s => match s.brd.object with
    | some (.select n) =>
      if livState s n = 1 ∨ livState s n = 2 then (0, livSync (fset s R.BRD_STATUS F.BRD_STATUS_LIVERY n)) else (6, s)
    | _ => (1, s)) s)

/-- The livery an object is for, signed by its owner root: 0 passed. Log 55: DEDUCED. -/
def ownerSigned (s : State) (n root : Nat) (sigOk : Bool) : Nat :=
  match livery s n with
  | none => 6
  | some l => if livState s n = 3 then 6 else if sigOk = false then 1 else if l.root ≠ root then 2 else 0

/-- A place for a lease (R402): one that holds none, or a closed one. Log 56: DEDUCED. -/
def leasePlace (s : State) : Option Nat := (List.range 8).find? (fun m => leaseState s m == 0 || leaseState s m == 6)

/-- The fields of a lease lie within their limits (R402). Log 56: DEDUCED. -/
def leaseOk (l : Lease) : Bool :=
  !l.exports && decide (l.jobs.length ≤ 16 ∧ l.vols.length ≤ 4 ∧ 1 ≤ l.areaMax ∧ l.areaMax < 2 ^ 32 ∧ l.fromT ≤ l.toT ∧
    l.toT - l.fromT ≤ 90 * 86400 * 6400000000)

/-- INSTALL_LEASE (R402, R403). -/
def execInstallLease (who : Fin 36) (s : State) : Out :=
  .next (brdDo who.val 4 [.owner] (fun s => match s.brd.object with
    | some (.lease l) =>
      let e := ownerSigned s l.livery l.root l.sigOk
      if e ≠ 0 then (e, s)
      else if leaseOk l = false then (6, s)
      else if l.toT ≤ checkTime s then (4, s)
      else if l.devices ≠ [] ∧ l.devices.contains s.pwr.serial = false then (5, s)
      else if s.brd.leases.any (fun x => x.2.lease.livery == l.livery && x.2.lease.leaseId == l.leaseId) then (8, s)
      else match leasePlace s with
        | none => (7, s)
        | some m =>
          let w := fsetW (fsetW 0 F.BRD_HIRE_STAT_STATE 1) F.BRD_HIRE_STAT_LIVERY l.livery
          (0, setLease m ⟨l, 0, [], none, none, [], 0, false⟩ (rset s (R.BRD_HIRE_STAT m) w))
    | _ => (1, s)) s)

/-- The place of an installed lease. Log 56: DEDUCED. -/
def leaseFind (s : State) (liv id : Nat) : Option Nat :=
  (s.brd.leases.find? (fun x => x.2.lease.livery == liv && x.2.lease.leaseId == id && leaseState s x.1 != 0 && leaseState s x.1 != 6)).map (·.1)

/-- REVOKE_LEASE (R403). -/
def execRevokeLease (who : Fin 36) (s : State) : Out :=
  .next (brdDo who.val 5 [.owner] (fun s => match s.brd.object with
    | some (.revoke liv id root ok) =>
      let e := ownerSigned s liv root ok
      if e ≠ 0 then (e, s)
      else match leaseFind s liv id with
        | some m => if leaseState s m = 1 ∨ leaseState s m = 2 then (0, leaseEnd m 5 s) else (6, s)
        | none => (6, s)
    | _ => (1, s)) s)

/-- CLOSE_LEASE (R404). -/
def execCloseLease (who : Fin 36) (s : State) : Out :=
  .next (brdDo who.val 6 [.owner] (fun s => match s.brd.object with
    | some (.close liv id) => match leaseFind s liv id with
      | some m => (0, leaseEnd m 6 s)
      | none => (6, s)
    | _ => (1, s)) s)

/-- LEASE_EXPIRY (R403): the check time reaches TO. -/
def execLeaseExpiry (m : Fin 8) (s : State) : Out :=
  .next (match leaseAt s m.val with
    | some l => if (leaseState s m.val = 1 ∨ leaseState s m.val = 2) ∧ l.lease.toT ≤ checkTime s then leaseEnd m.val 3 s else s
    | none => s)

/-- LEASE_FROM (R403): the check time reaches FROM while a contractor session under the lease is open. -/
def execLeaseFrom (m : Fin 8) (s : State) : Out :=
  .next (if s.brd.sess.any (fun x => x.2.lease == some m.val) then leaseActive m.val s else s)

/-! ### Sale -/

/-- Every lease of a livery is revoked (R400). -/
def revokeAll (liv : Nat) (s : State) : State :=
  forN 8 (fun m s => match leaseAt s m with
    | some l => if l.lease.livery = liv ∧ (leaseState s m = 1 ∨ leaseState s m = 2) then leaseEnd m 5 s else s
    | none => s) s

/-- KEEP or RELEASE takes effect on a livery (R400). Log 55: DEDUCED. -/
def transferDo (liv : Nat) (keep : Bool) (newRoot : Nat) (s : State) : State :=
  match livery s liv with
  | none => s
  | some l =>
    let s1 := revokeAll liv s
    let s2 := if keep then setLiv liv { l with root := newRoot, revoked := [], revVer := 0 } s1
      else fset (setLiv liv { l with wrap := false } s1) (R.BRD_LIV liv) F.BRD_LIV_STATE 3
    livSync (raise s2 Ev.TRANSFER [liv, b2n keep])

/-- The leader names the boundary of a transfer (R400); livery 4 stands for every livery (R401). Log 55: DEDUCED. -/
def transferName (liv : Nat) (keep : Bool) (newRoot : Nat) (s : State) : State :=
  let b := boundaryFrom (s.tb + 10 * cycleTicks)
  toTeam { s with brd := { s.brd with transfer := some (b, liv, keep, newRoot) } } MsgKind.TRANSFER [b, liv, b2n keep, newRoot]

/-- TRANSFER (R400): refused with STATE while a job of the livery is in RUN. -/
def execTransfer (who : Fin 36) (s : State) : Out :=
  .next (brdDo who.val 7 [.owner] (fun s => match s.brd.object with
    | some (.transfer liv root ok keep newRoot) =>
      let e := ownerSigned s liv root ok
      if jobRun s ∧ fget s R.BRD_STATUS F.BRD_STATUS_LIVERY = liv then (6, s)
      else if e ≠ 0 then (e, s)
      else (0, transferName liv keep newRoot s)
    | _ => (1, s)) s)

/-- TRANSFER_APPLY (R400, R401): at the boundary named. -/
def execTransferApply (s : State) : Out :=
  .next (match s.brd.transfer with
    | some (b, liv, keep, newRoot) =>
      if s.tb < b then s
      else
        let s1 := { s with brd := { s.brd with transfer := none } }
        if liv < 4 then transferDo liv keep newRoot s1 else forN 4 (fun n s => transferDo n false 0 s) s1
    | none => s)

/-- RECLAIM (R401). Log 55: DEDUCED. -/
def execReclaim (who : Fin 36) (s : State) : Out :=
  .next (brdDo who.val 8 [.oem] (fun s => match s.brd.object with
    | some (.reclaim p) =>
      let e := permitCheck s false p
      if jobRun s then (6, s)
      else if e ≠ 0 then (e, s)
      else (0, transferName 4 false 0 { s with brd := { s.brd with used := p.number :: s.brd.used } })
    | _ => (1, s)) s)

/-! ### Debug -/

/-- Consent is given for an unlock (R408): by the owner root of every livery bound to the module, or with an OEM role key when no owner is
enrolled. Log 58: DEDUCED. -/
def consented (s : State) (l : List (Option Nat × Bool × Nat)) : Bool :=
  let ok (r : Option Nat) : Bool := l.any (fun c => c.1 == r && c.2.1 && c.2.2 == s.brd.chal)
  if fbit s R.BRD_STATUS F.BRD_STATUS_OWNER then
    s.brd.livs.all (fun x => livState s x.1 == 3 || !livBound s x.2 || ok (some x.2.root))
  else ok none

/-- BRD_CHAL takes the next random value (R413). Log 8: DESIGN CHOICE. Log 58: DEDUCED. -/
def newChal (s : State) : State :=
  rset (freeNext { s with brd := { s.brd with chal := s.freeCnt } }) R.BRD_CHAL (Config.freeWord s.freeCnt)

/-- The effects of UNLOCK (R409): wraps erased, SRAM cleared, the DRAM key renewed, one unlock bit burnt. Log 58: DEDUCED. -/
def unlockDo (who : Nat) (s : State) : State :=
  let s1 := { s with brd := { s.brd with
    livs := s.brd.livs.map (fun (x : Nat × Livery) => (x.1, { x.2 with wrap := false })), dramKey := s.brd.dramKey + 1, unlockAt := some s.stb.optTicks } }
  let s2 := { s1 with stb := { s1.stb with raiseQ := [], holdQ := [] }, str := { s1.str with prov := [], provTiles := [], cache := [] } }
  let s3 := fset (fincSat s2 R.BRD_STATUS F.BRD_STATUS_UNLOCKS) R.BRD_STATUS F.BRD_STATUS_LOCK 1
  let s4 := raise (livSync s3) Ev.DEBUG_UNLOCK [who, fget s3 R.BRD_STATUS F.BRD_STATUS_UNLOCKS]
  let s5 := newChal (fset s4 (R.BRD_SESS_STAT who) F.BRD_SESS_STAT_ROLE 9)
  if s.cfg.secpol.debugInTeam ∨ otherMembers s = [] then s5 else rolesSync (setTeamState 4 (setMembers [midOf s] s5))

/-- UNLOCK (R408, R409): from a VENDOR session over TLS, with no job in RUN. Log 58: DEDUCED. -/
def execUnlock (who : Fin 36) (s : State) : Out :=
  .next (brdDo who.val 9 [.vendor] (fun s => match s.brd.object with
    | some (.unlock ok chain serial chal toT consents) =>
      if 4 ≤ who.val then (3, s)
      else if jobRun s ∨ locked s = false then (6, s)
      else if ok = false then (1, s)
      else if chainHolds s s.img.otpRoot chain = false then (2, s)
      else if serial ≠ s.pwr.serial then (5, s)
      else if chal ≠ s.brd.chal then (8, s)
      else if toT < checkTime s ∨ checkTime s + 86400 * 6400000000 < toT then (4, s)
      else if consented s consents = false then (1, s)
      else if 16 ≤ fget s R.BRD_STATUS F.BRD_STATUS_UNLOCKS then (9, s)
      else (0, unlockDo who.val s)
    | _ => (1, s)) s)

/-- RELOCK (R409): it takes effect at the next restart. -/
def execRelock (who : Fin 36) (s : State) : Out :=
  .next (brdDo who.val 10 [.vendor, .debug] (fun s =>
    if fget s R.BRD_STATUS F.BRD_STATUS_LOCK = 1 then (0, fset s R.BRD_STATUS F.BRD_STATUS_LOCK 2) else (6, s)) s)

/-- UNLOCK_EXPIRY (R409): 24 h. Log 58: DEDUCED. -/
def execUnlockExpiry (s : State) : Out :=
  .next (match s.brd.unlockAt with
    | some t =>
      if t + 86400 * secTicks ≤ s.stb.optTicks ∧ fget s R.BRD_STATUS F.BRD_STATUS_LOCK = 1 then fset s R.BRD_STATUS F.BRD_STATUS_LOCK 2 else s
    | none => s)

/-- TSK_ROTATION (R396): every 24 h, by the leader. -/
def execTskRotation (s : State) : Out :=
  .next (if isLeader s ∧ s.brd.tskAt + 86400 * secTicks ≤ s.tb then toTeam (tskNew s) MsgKind.TSK_WRAP [] else s)

/-- BRD_CHAL_READ (R413): the read makes a new challenge, answers it, and a permit must name it from then on. -/
def execBrdChalRead (who : Fin 36) (s : State) : Out :=
  .next (if rapPath s = false then s else match sessRole s who.val with
    | none => rapAnswer s who.val .noSession []
    | some _ =>
      let s1 := newChal s
      rapAnswer s1 who.val .ok [1, ((rget s1 R.BRD_CHAL).toNat : Int)])

end Sys2Proof.Machine
end

