-- ==== Sys2Proof/Machine/Ranges.lean ====
section
/-!
DEFINITION. Machine/Ranges.lean: the range of each field of a register that only the harness image sets, from the register tables of spec/
(R21, R104, R105, R128, R148, R181, R249 to R252, R274 to R276, R301, R329, R476); a field not listed takes every value it can hold.
-/

namespace Sys2Proof.Machine

/-- The range of a field that the image sets: the register as in `RegDesc`, the field, lowest and highest value. -/
structure RwiRange where
  base : Nat
  dims : List (Nat × Nat)
  fld  : Fld
  min  : Nat
  max  : Nat
deriving DecidableEq, Repr, Inhabited

/-- Ranges of block SYS. -/
def rwiSys : List RwiRange := [
  ⟨0x1FC, [], F.SYS_GAIT_CFG_WARN_PCT, 5, 25⟩]

/-- Ranges of block FBI. -/
def rwiFbi : List RwiRange := [
  ⟨0x100000, [(256, 16)], F.FBI_CFG_MODE, 0, 8⟩,
  ⟨0x100000, [(256, 16)], F.FBI_CFG_IDX_MODE, 0, 2⟩,
  ⟨0x100004, [(256, 16)], F.FBI_INCFG_PULL, 0, 2⟩,
  ⟨0x100004, [(256, 16)], F.FBI_INCFG_THRESH, 10, 150⟩,
  ⟨0x100008, [(256, 16)], F.FBI_LIM_ILL_LIMIT, 1, 255⟩,
  ⟨0x100008, [(256, 16)], F.FBI_LIM_FAST_LIMIT, 1, 255⟩,
  ⟨0x100008, [(256, 16)], F.FBI_LIM_FLT_WIN, 1, 65535⟩,
  ⟨0x100010, [(256, 16)], F.FBI_TMO_ZERO_TMO, 1, 255⟩,
  ⟨0x100010, [(256, 16)], F.FBI_TMO_VEL_WIN, 1, 255⟩,
  ⟨0x101000, [(64, 4)], F.FBI_CMP_CFG_PIN_MODE, 0, 2⟩,
  ⟨0x101000, [(64, 4)], F.FBI_CMP_CFG_PW, 1, 65535⟩]

/-- Ranges of block GNS. -/
def rwiGns : List RwiRange := [
  ⟨0x110000, [], F.GNS_CFG_MAIN_SYS, 0, 2⟩,
  ⟨0x110000, [], F.GNS_CFG_EPOCH_RATE, 0, 5⟩,
  ⟨0x110000, [], F.GNS_CFG_MIN_SV, 4, 12⟩,
  ⟨0x110000, [], F.GNS_CFG_PDOP_MAX, 15, 60⟩,
  ⟨0x110000, [], F.GNS_CFG_CN0_MIN, 20, 45⟩,
  ⟨0x110000, [], F.GNS_CFG_ELEV_MASK, 0, 30⟩,
  ⟨0x110000, [], F.GNS_CFG_BG_CH, 0, 48⟩]

/-- Ranges of block POS. -/
def rwiPos : List RwiRange := [
  ⟨0x120000, [], F.POS_CFG_DR_LIMIT, 0, 60⟩,
  ⟨0x120000, [], F.POS_CFG_ACC_MAX, 2, 500⟩,
  ⟨0x120000, [], F.POS_CFG_CORR_AGE_MAX, 1, 60⟩,
  ⟨0x120004, [], F.POS_HOLD_HOLD_S, 10, 3600⟩,
  ⟨0x120020, [], F.POS_TPO_CFG_WIDTH, 1, 90⟩]

/-- Ranges of block STR. -/
def rwiStr : List RwiRange := [
  ⟨0x130000, [], F.STR_CFG_N_HZ, 1, 8⟩,
  ⟨0x130000, [], F.STR_CFG_MARK_AGE, 4, 60⟩,
  ⟨0x130000, [], F.STR_CFG_REPLAN_TOL, 1, 1000⟩,
  ⟨0x130010, [(4, 8)], F.STR_HZ_HZ, 2, 20000⟩]

/-- Ranges of block PWM. -/
def rwiPwm : List RwiRange := [
  ⟨0x150008, [], F.PWM_HOLD_HOLD_MS, 0, 500⟩,
  ⟨0x150008, [], F.PWM_HOLD_FORCE_TMO, 1, 600⟩,
  ⟨0x150100, [(4, 16)], F.PWM_CG_PER_PER, 4000, 200000000⟩,
  ⟨0x152000, [(4, 4)], F.PWM_HB_CFG_DEAD, 0, 12800⟩,
  ⟨0x153000, [(16, 8)], F.PWM_LG_CFG_OWNER, 0, 3⟩,
  ⟨0x154000, [(16, 8)], F.PWM_TRIP_CFG_LEN, 1, 65535⟩,
  ⟨0x154004, [(16, 8)], F.PWM_TRIP_MASK_RELEASE, 1, 65535⟩]

/-- Ranges of block LSW. -/
def rwiLsw : List RwiRange := [
  ⟨0x160000, [(32, 96)], F.LSW_CH_CFG0_OC_THR, 10, 160⟩,
  ⟨0x160000, [(32, 96)], F.LSW_CH_CFG0_OC_N, 1, 15⟩,
  ⟨0x160000, [(32, 96)], F.LSW_CH_CFG0_RETRY_GAP, 1, 100⟩,
  ⟨0x160000, [(32, 96)], F.LSW_CH_CFG0_RETRY_WIN, 1, 500⟩,
  ⟨0x160004, [(32, 96)], F.LSW_CH_CFG1_I_RATED, 1, 50⟩,
  ⟨0x160004, [(32, 96)], F.LSW_CH_CFG1_OL_THR, 0, 50⟩,
  ⟨0x160004, [(32, 96)], F.LSW_CH_CFG1_COMP, 0, 2⟩,
  ⟨0x160004, [(32, 96)], F.LSW_CH_CFG1_V_NOM, 90, 320⟩,
  ⟨0x160004, [(32, 96)], F.LSW_CH_CFG1_CLAMP_BUDGET, 5, 120⟩,
  ⟨0x161000, [(16, 6)], F.LSW_FEED_CFG_UV_THR, 60, 200⟩,
  ⟨0x161000, [(16, 6)], F.LSW_FEED_CFG_UV_HYST, 5, 31⟩,
  ⟨0x161000, [(16, 6)], F.LSW_FEED_CFG_UV_T, 1, 100⟩,
  ⟨0x161000, [(16, 6)], F.LSW_FEED_CFG_RESTART_T, 10, 1000⟩,
  ⟨0x161210, [(4, 8)], F.LSW_HALTER_IN_DEB, 5, 500⟩,
  ⟨0x161210, [(4, 8)], F.LSW_HALTER_IN_STUCK_LIM, 0, 3600⟩,
  ⟨0x161300, [(4, 96)], F.LSW_HALTER_MAP_IN, 0, 8⟩,
  ⟨0x161300, [(4, 96)], F.LSW_HALTER_MAP_DUTY16, 1, 16⟩]

/-- Ranges of block CTL. -/
def rwiCtl : List RwiRange := [
  ⟨0x171000, [(64, 64)], F.CTL_LOOP_CFG_DIV, 1, 10⟩,
  ⟨0x171000, [(64, 64)], F.CTL_LOOP_CFG_PV_SRC, 0, 6⟩,
  ⟨0x171004, [(64, 64)], F.CTL_LOOP_CFG1_EN_SRC, 0, 2⟩,
  ⟨0x171004, [(64, 64)], F.CTL_LOOP_CFG1_EN_IDX, 0, 95⟩,
  ⟨0x171004, [(64, 64)], F.CTL_LOOP_CFG1_FB_TMO, 10, 5000⟩,
  ⟨0x171004, [(64, 64)], F.CTL_LOOP_CFG1_ACT, 0, 2⟩]

/-- Ranges of block CAN. -/
def rwiCan : List RwiRange := [
  ⟨0x180000, [(16384, 4)], F.CAN_CTRL_ACK_LIMIT, 1, 255⟩,
  ⟨0x180000, [(16384, 4)], F.CAN_CTRL_WAKE_MODE, 0, 2⟩,
  ⟨0x180004, [(16384, 4)], F.CAN_NBT_BRP, 1, 32⟩,
  ⟨0x180004, [(16384, 4)], F.CAN_NBT_TSEG1, 2, 256⟩,
  ⟨0x180004, [(16384, 4)], F.CAN_NBT_TSEG2, 2, 128⟩,
  ⟨0x180004, [(16384, 4)], F.CAN_NBT_SJW, 1, 128⟩,
  ⟨0x180008, [(16384, 4)], F.CAN_DBT_BRP, 1, 32⟩,
  ⟨0x180008, [(16384, 4)], F.CAN_DBT_TSEG1, 1, 32⟩,
  ⟨0x180008, [(16384, 4)], F.CAN_DBT_TSEG2, 1, 16⟩,
  ⟨0x180008, [(16384, 4)], F.CAN_DBT_SJW, 1, 16⟩]

/-- Ranges of block PWR. -/
def rwiPwr : List RwiRange := [
  ⟨0x10004, [], F.PWR_CFG_KEYOFF_DEB, 100, 1000⟩,
  ⟨0x10004, [], F.PWR_CFG_STAY_AWAKE, 1, 60⟩,
  ⟨0x10004, [], F.PWR_CFG_WAKE_TMR, 0, 10080⟩]

/-- Every range. -/
def rwiRanges : List RwiRange := rwiSys ++ rwiFbi ++ rwiGns ++ rwiPos ++ rwiStr ++ rwiPwm ++ rwiLsw ++ rwiCtl ++ rwiCan ++ rwiPwr

/-- The bits of a register that an image sets as it is loaded: those only the image may set (R16), and the start values of CANn_CTRL.MODE (R305)
and of a loop's setpoint (R281). -/
def imgMask (a : Nat) : Nat :=
  let own := (regDesc a).elim 0 (·.rwi)
  if (List.range 4).any (fun c => R.CAN_CTRL c == a) then own ||| 3
  else if (List.range 64).any (fun n => R.CTL_LOOP_SP n == a) then 2 ^ 32 - 1
  else own

end Sys2Proof.Machine
end

