-- ==== Sys2Proof/Machine/ImageCheck.lean ====
section
/-!
DEFINITION. Machine/ImageCheck.lean: the validation of a harness image in the fixed order of checks (R43 to R47, R58, R59), with the checks of
content the chapters name IMG_SEMANTIC and IMG_SAFETY_MISMATCH.
-/

namespace Sys2Proof.Machine

/-! ### Words -/

/-- The word a register holds under a list of words that the image sets. -/
def cfgWord (ws : List (Nat × Word)) (a : Nat) : Word := ((ws.find? (fun x => x.1 == a)).map (·.2)).getD (resetWord a)

/-! ### Types and classes -/

/-- The segment types of R42. -/
def segTypes : List Nat := [1, 2, 3, 4, 5, 6, 7, 8, 9, 10, 11, 12, 13, 14, 15, 31, 32]

/-- The content of a segment is that of its type (R42). Log 67: DESIGN CHOICE. -/
def bodyFits (x : Seg) : Bool :=
  match x.body with
  | .pinfn _ => x.typ == 1
  | .geom0 _ => x.typ == 2 && x.inst == 0
  | .chain _ => x.typ == 2 && x.inst != 0
  | .outtab _ => x.typ == 3
  | .sections _ => x.typ == 4
  | .loopgrp _ => x.typ == 5
  | .canfilt _ => x.typ == 6
  | .safmir _ => x.typ == 7
  | .teamplan _ _ => x.typ == 8
  | .secpol _ => x.typ == 9
  | .halter => x.typ == 10
  | .stbpol _ => x.typ == 11
  | .gnsscfg _ => x.typ == 12
  | .pwmcfg _ => x.typ == 13
  | .calib _ => x.typ == 14
  | .oemsec => x.typ == 15
  | .keywrap _ => x.typ == 31
  | .fr480 _ _ _ => x.typ == 32
  | .raw => false

/-- Highest instance number of a type (R42). Log 67: DESIGN CHOICE. -/
def instMax (typ : Nat) : Nat :=
  if typ = 2 then 31 else if typ = 3 ∨ typ = 4 ∨ typ = 5 ∨ typ = 15 then 15 else if typ = 6 then 3 else 0

/-! ### Checks of content (R47, order 8) -/

/-- Lowest directory index among the segments of some types; 255 where there is none (R47). -/
def lowSeg (v : List (Nat × Seg)) (ts : List Nat) : Nat := (v.filter (fun x => ts.contains x.2.typ)).foldl (fun m x => min m x.1) 255

/-- A field of a register word lies in its range. -/
def rangeOk (x : Nat × Word) : Bool :=
  rwiRanges.all (fun r => !(decide (r.base ≤ x.1) && dimsCover (x.1 - r.base) r.dims) ||
    (decide (r.min ≤ fgetW x.2 r.fld) && decide (fgetW x.2 r.fld ≤ r.max)))

/-- A word is one that the image may set: its register has a field of type RWI (R16). -/
def rwiOk (x : Nat × Word) : Bool := imgMask x.1 != 0

/-- A value lies within bounds. -/
def inI (lo hi v : Int) : Bool := decide (lo ≤ v) && decide (v ≤ hi)

/-- The same for a natural number. -/
def inN (lo hi v : Nat) : Bool := decide (lo ≤ v) && decide (v ≤ hi)

/-- A signed number of 32 bits (R9, R63). -/
def i32 (v : Int) : Bool := inI (-2147483648) 2147483647 v

/-- Fields of a link (R63). `i` is its index. -/
def linkOk (g shape : Bool) (i : Nat) (l : Link) : Bool :=
  let par := match l.parent with | none => true | some p => decide (p < i) && decide (i ≠ 0)
  let rangeV := match l.joint with | .lift => inI (-32767) 32767 l.vmin && inI (-32767) 32767 l.vmax | _ => inI (-16384) 16384 l.vmin && inI (-16384) 16384 l.vmax
  let src (x : JointSrc) : Bool := match x with | .gnssShape => g && shape | _ => true
  par && rangeV && [l.hx, l.hy, l.hz, l.gain, l.offset].all i32 && decide (l.hold ≤ 500) && inI (-32768) 32767 l.fallback && src l.src1 && src l.src2

/-- A chain (R63). -/
def chainOk (g shape : Bool) (c : Chain) : Bool :=
  inN 1 31 c.inst && inN 1 8 c.links.length && (c.links.zipIdx.all (fun x => linkOk g shape x.2 x.1))

/-- Strictly rising pressures (R71). -/
def risingP : List DelayPt → Bool
  | a :: b :: l => decide (a.p < b.p) && risingP (b :: l)
  | _ => true

/-- Fields of an output (R13, R66). -/
def outOk (o : OutEnt) : Bool :=
  let aux := o.role == .aux
  decide (o.out < 96) && decide (o.chain ≤ 31) && decide (o.link ≤ 7) && (o.chain != 0 || o.link == 0) && decide (o.sect < 96)
    && decide (o.roleCode ≤ 5) && decide (o.shapeCode ≤ 3) && decide (o.flags < 4) && [o.ofsX, o.ofsY, o.ofsZ].all i32
    && decide (o.group < 16) && (match o.press with | some k => decide (k < 8) | none => true)
    && inN 1 8 o.npts && o.points.length == 8 && (o.points.drop o.npts).all (fun d => d.p == 0 && d.on == 0 && d.off == 0) && o.delays.all (fun d => decide (d.on ≤ 20000) && decide (d.off ≤ 20000) && decide (d.p < 65536))
    && risingP o.delays && (!aux || o.delays.length == 1) && ((o.role == .stall) == (!aux && o.shape == .arc) || aux)
    && (aux || ((o.shape == .arc || decide (o.w ≤ 10000)) && decide (o.w < 65536) && decide (o.d ≤ 10000) && (o.shape != .arc || o.d == 0)
        && (if o.shape = .fan then inN 100 5000 o.hNom else o.hNom == 0)))
    && inI (-32768) 32767 o.fpDx && decide (o.unit < 256)

/-- No number twice. -/
def uniqueN : List Nat → Bool
  | [] => true
  | x :: l => !l.contains x && uniqueN l

/-- Fields of a section (R68, R154, R210). -/
def secOk (x : SecEnt) : Bool :=
  decide (x.sect < 96) && decide (x.team < 1024) && inN 100 5000 x.par.vMin && inN 1 100 x.par.ovlOff && decide (x.par.ovlHyst ≤ x.par.ovlOff)
    && decide (x.par.minRun ≤ 500) && decide (x.par.laOn ≤ 20000) && decide (x.par.laOff ≤ 20000)

/-- A point of a link in the machine frame with every joint at its FALLBACK. -/
def restPoint (ls : List Link) : Nat → Nat → P3 → P3
  | 0, _, p => p
  | n + 1, l, p =>
    match ls[l]? with
    | none => p
    | some k =>
      let q := linkToParent k k.fallback p
      match k.parent with
      | none => q
      | some m => restPoint ls n m q

/-- Machine-frame y of an output with every joint at its FALLBACK. -/
def restY (cs : List Chain) (o : OutEnt) : Int :=
  if o.chain = 0 then o.ofsY
  else (restPoint ((cs.find? (fun c => c.inst == o.chain)).map (·.links) |>.getD []) 8 o.link (o.ofsX, o.ofsY, o.ofsZ)).2.1

/-- The sections of a position: team number, sum of its outputs' machine-frame y, and their number (R68). -/
def secSpans (cs : List Chain) (os : List OutEnt) (ss : List SecEnt) : List (Nat × Int × Int) :=
  ss.map (fun x =>
    let l := os.filter (fun o => x.outs.contains o.out)
    (x.team, l.foldl (fun a o => a + restY cs o) 0, l.length))

/-- Sections run from the left of the implement to the right as their team numbers rise (R68): the mean y of their outputs does not
rise. Log 27: DEDUCED. -/
def leftToRight (l : List (Nat × Int × Int)) : Bool :=
  l.all (fun x => l.all (fun y => !decide (x.1 < y.1) || decide (y.2.1 * x.2.2 ≤ x.2.1 * y.2.2)))

/-- The sections of a module (R68, R73): each names 1 to 96 outputs of roles 1 to 4, the same outputs whose entries name it, and every such output
lies in exactly one. Log 27: DEDUCED. -/
def secsOk (os : List OutEnt) (ss : List SecEnt) : Bool :=
  let ros := os.filter strideRole
  decide (ss.length ≤ 96) && uniqueN (ss.map (·.sect)) && uniqueN (ss.map (·.team)) && uniqueN (ss.flatMap (·.outs))
    && ss.all (fun x => inN 1 96 x.outs.length && x.outs.all (fun n => ros.any (fun o => o.out == n && o.sect == x.sect)))
    && ros.all (fun o => ss.any (fun x => x.outs.contains o.out))

/-- The machine model as a whole (R73). -/
def modelOk (cs : List Chain) (os : List OutEnt) (g : Geom0) : Bool :=
  os.all (fun o =>
    (o.chain == 0 || cs.any (fun c => c.inst == o.chain && decide (o.link < c.links.length)))
      && (match o.press with | some k => g.press.any (fun p => p.idx == k) | none => true))
    && [g.antenna, g.ins, g.ext].all (fun x => x.chain == 0 || cs.any (fun c => c.inst == x.chain && decide (x.link < c.links.length)))

/-- D_MAX in 0.1 ms (R151). -/
def dMax (os : List OutEnt) : Nat :=
  ((os.filter strideRole).flatMap (fun o => o.delays.flatMap (fun d => [d.on, d.off]))).foldl max 0

/-- HZ[k] under a list of words. -/
def hzWord (ws : List (Nat × Word)) (k : Nat) : Nat := fgetW (cfgWord ws (R.STR_HZ k)) F.STR_HZ_HZ

/-- The horizons (R151). -/
def horizonsOk (ws : List (Nat × Word)) (os : List OutEnt) : Bool :=
  let n := fgetW (cfgWord ws R.STR_CFG) F.STR_CFG_N_HZ
  (List.range (n - 1)).all (fun k => decide (hzWord ws k < hzWord ws (k + 1)))
    && decide (dMax os + 100 ≤ hzWord ws (n - 1)) && decide (dMax os + 10 ≤ hzWord ws (min n 4 - 1))

/-- The roles a family admits under the engine (R209). -/
def rolesOk (g : Geom0) (os : List OutEnt) : Bool :=
  (os.filter strideRole).all (fun o => match g.family with
    | .platform => o.role == .stall
    | .alley => o.role == .spout
    | _ => o.role != .stall)

/-- A field of FBI_CFGn under a list of words. -/
def fbiField (ws : List (Nat × Word)) (n : Nat) (f : Fld) : Nat := fgetW (cfgWord ws (R.FBI_CFG n)) f

/-- GEOM instance 0 (R62, R70, R210). -/
def geomOk (ws : List (Nat × Word)) (os : List OutEnt) (g : Geom0) : Bool :=
  let n := fgetW (cfgWord ws R.STR_CFG) F.STR_CFG_N_HZ
  let stalls := (os.filter (fun o => o.role == .stall)).map (·.out)
  inI (-5000) 5000 g.groundZ && [g.mrp, g.antenna, g.ins, g.ext].all (fun x => i32 x.x && i32 x.y && i32 x.z)
    && [g.xa, g.ya, g.m0].all i32 && decide (g.psiA < 65536) && decide (g.extLat ≤ 500) && decide (g.press.length ≤ 8) && uniqueN (g.press.map (·.idx))
    && g.press.all (fun p => decide (p.idx < 8) && decide (p.tau ≤ 1000))
    && (match g.family with
      | .field =>
        (match g.workSrc with | .trip k => fgetW (cfgWord ws (R.PWM_TRIP_MASK k.val)) F.PWM_TRIP_MASK_MASK == 0 | _ => true)
          && (!g.directedOk || (decide (dMax os + 5 ≤ g.latTc) && decide (g.latTc ≤ hzWord ws (min n 4 - 1))))
      | .platform =>
        decide (g.enc < 16) && inN 1 3 (fbiField ws g.enc F.FBI_CFG_MODE) && fbiField ws g.enc F.FBI_CFG_IDX_MODE == 1
          && inN 96 16777215 g.countsRev && fgetW (cfgWord ws (R.FBI_IDX g.enc)) F.FBI_IDX_LINES == g.countsRev
          && inN 1 96 g.nStalls && g.countsRev % g.nStalls == 0 && inN 1 10000 g.platVmin
          && g.stallOf.all (fun x => decide (x.2 < g.nStalls)) && uniqueN (g.stallOf.map (·.2))
          && stalls.all (fun o => g.stallOf.any (fun x => x.1 == o))
      | .alley =>
        decide (g.odo < 16) && decide (g.mag < 16) && fbiField ws g.mag F.FBI_CFG_MODE == 8 && fbiField ws g.mag F.FBI_CFG_CAP_EN == 1
          && fbiField ws g.mag F.FBI_CFG_CAPSRC == g.odo && inN 1 16777216 g.scale && inN 100 100000 g.mPitch && inN 2 255 g.nM
          && inN 10 50000 g.mCapture && decide (2 * g.mCapture < g.mPitch) && inN 100 100000 g.drMax
      | .forerunner => true)

/-- Counter inputs (R76), and the SSI ports (R98). Log 27: DEDUCED. -/
def inputsOk (ws : List (Nat × Word)) (p : Pinfn) : Bool :=
  (List.range 16).all (fun n =>
    let w := cfgWord ws (R.FBI_INCFG n)
    decide ((if fgetW w F.FBI_INCFG_DIFF = 1 then 4 else 40) ≤ fgetW w F.FBI_INCFG_MIN_SPACING))
    && p.ssi.all (fun c => match c with
      | none => true
      | some c =>
        let bits := c.dataBits + c.errBits + (match c.check with | .none => 0 | .even => 1 | .odd => 1 | .crc6 => 6)
        -- one clock more than the bits gives 27 µs for the frame of 25 bits with parity at 1 MHz (R98)
        inN 8 32 c.dataBits && decide (c.errBits ≤ 4) && inN 50 1000 c.clkDiv && inN 10 100 c.mono && inN 1 50 c.every
          && decide ((bits + 1) * 2 * c.clkDiv + c.mono * 200 + 800 ≤ c.every * 40000))
    && uniqueN (p.pins.map (·.1))

/-- The coherent times in ms that R117's table gives signal `sig`: GPS with QZSS and SBAS, Galileo, BeiDou D1, BeiDou D2. -/
def cohTimes (sig : Nat) : List Nat := [[1, 2, 4, 5, 10, 20], [4, 8, 20, 100], [1, 2, 5, 10, 20], [1, 2]].getD sig []

/-- Spacings and coherent times (R117). -/
def gnssOk (g : GnssPar) : Bool :=
  decide (g.poseCan < 4) && g.sigs.all (fun x =>
    decide (x.sig < 4) && x.spacing.all (inN 4 64) && x.coh.all (cohTimes x.sig).contains && x.dll.all (inN 5 200) && x.pll.all (inN 5 30))

/-- CABLE_DELAY (R142). -/
def cableOk (ws : List (Nat × Word)) : Bool :=
  inI (-3200000) 3200000 (sext 23 (fgetW (cfgWord ws R.POS_TPO_CFG) F.POS_TPO_CFG_CABLE_DELAY))

/-- Carriers, half-bridges and load groups (R229, R234, R236). Every output of the output table and every gate uses its carrier. Log 27: DEDUCED. -/
def pwmOk (ws : List (Nat × Word)) (os : List OutEnt) : Bool :=
  let per (n : Nat) : Nat := (cfgWord ws (R.PWM_CG_PER (fgetW (cfgWord ws (R.PWM_CH_CFG n)) F.PWM_CH_CFG_CARRIER))).toNat
  let set (n : Nat) : Bool := ws.any (fun x => x.1 == R.PWM_CH_CFG n)
  (List.range 96).all (fun n => !(set n || os.any (fun o => o.out == n)) || inN 100000 200000000 (per n))
    && (List.range 4).all (fun m =>
      let h := 96 + 2 * m
      let w := cfgWord ws (R.PWM_HB_CFG m)
      let minp := fgetW (cfgWord ws (R.PWM_CH_CFG h)) F.PWM_CH_CFG_MINP
      !(set h || set (h + 1)) || (inN 4000 200000 (per h) && (fgetW w F.PWM_HB_CFG_MODE == 1 ||
        (decide (2 * fgetW w F.PWM_HB_CFG_DEAD + 2 * minp ≤ 32 * per h)
          && fgetW (cfgWord ws (R.PWM_CH_CFG h)) F.PWM_CH_CFG_LG == fgetW (cfgWord ws (R.PWM_CH_CFG (h + 1))) F.PWM_CH_CFG_LG))))

/-- Rated currents (R254) in 50 mA: 25 A for each feed, 120 A in all. -/
def currentsOk (ws : List (Nat × Word)) (os : List OutEnt) : Bool :=
  let loaded (n : Nat) : Bool := os.any (fun o => o.out == n) || fgetW (cfgWord ws (R.LSW_HALTER_MAP n)) F.LSW_HALTER_MAP_IN != 0
  let ir (n : Nat) : Nat := if loaded n then fgetW (cfgWord ws (R.LSW_CH_CFG1 n)) F.LSW_CH_CFG1_I_RATED else 0
  let sum (l : List Nat) : Nat := l.foldl (fun a n => a + ir n) 0
  (List.range 96).all (fun n => !loaded n || decide (ir n ≤ fgetW (cfgWord ws (R.LSW_CH_CFG0 n)) F.LSW_CH_CFG0_OC_THR))
    && (List.range 6).all (fun f => decide (sum (feedChans f) ≤ 500)) && decide (sum (List.range 96) ≤ 2400)

/-- A cut-mapped output has the safe state OFF (R34). -/
def cutOk (os : List OutEnt) (m : Option Safmir) : Bool :=
  let cutOf (r : SafSrc) (n : Nat) : Bool := bitOf ([r.cut.1, r.cut.2.1, r.cut.2.2.1].getD (n / 32) 0).toNat (n % 32)
  os.all (fun o => !o.safeOn || !(((m.map (·.sos)).getD []).any (fun r => cutOf r o.out)))

/-- A binary32 value lies in a range. -/
def inF (lo hi w : Word) : Bool := fFinite w && fLe lo w && fLe w hi

/-- A set of a region (R284): its gains finite and at least 0, TF at most 10 s, KAW at most 1,000, FF_OFS finite. Log 72: DESIGN CHOICE. -/
def setOk (g : LoopSet) : Bool :=
  let pos (w : Word) : Bool := fFinite w && fLe 0 w
  pos g.kp && pos g.ki && pos g.kd && inF 0 (fOfInt 10) g.tf && inF 0 (fOfInt 1000) g.kaw && pos g.ffGain && fFinite g.ffOfs

/-- A loop (R277, R282, R284, R288). -/
def loopOk (ws : List (Nat × Word)) (inst : Nat) (d : LoopDef) : Bool :=
  let w := cfgWord ws (R.CTL_LOOP_CFG d.loop.val)
  let hundred := fOfInt 100
  let axis (a : Axis) : Bool := match a.var with
    | .none => true
    | _ => fFinite a.hys && fLe 0 a.hys && fFinite a.b1 && fFinite a.b2 && fFinite a.b3 && fLt a.b1 a.b2 && fLt a.b2 a.b3
  decide (fgetW w F.CTL_LOOP_CFG_PHASE < fgetW w F.CTL_LOOP_CFG_DIV) && fgetW w F.CTL_LOOP_CFG_GROUP == inst
    && (fgetW w F.CTL_LOOP_CFG_CURB == 31 || decide (fgetW w F.CTL_LOOP_CFG_CURB < 16))
    && decide (d.tfPv ≤ 1000) && d.sets.all setOk && axis d.ax1 && axis d.ax2
    && inF 0 hundred d.outMin && inF 0 hundred d.outMax && fLt d.outMin d.outMax && inF 0 (fOfInt 100000) d.slewUp
    && inF 0 (fOfInt 100000) d.slewDn && fFinite d.spRate && fLe 0 d.spRate && inF 0 hundred d.offOut && inF 0 hundred d.safeOut
    && inF 0 hundred d.preset && inF 0 (fOfInt 1000000) d.defRate

/-- Curb groups (R277, R290, R291) and actuators (R292). -/
def curbsOk (ws : List (Nat × Word)) (ls : List LoopDef) : Bool :=
  let cf (d : LoopDef) (f : Fld) : Nat := fgetW (cfgWord ws (R.CTL_LOOP_CFG d.loop.val)) f
  let curb (d : LoopDef) : Nat := cf d F.CTL_LOOP_CFG_CURB
  let act (d : LoopDef) : Nat × Nat :=
    let w := cfgWord ws (R.CTL_LOOP_CFG1 d.loop.val)
    (fgetW w F.CTL_LOOP_CFG1_ACT, if fgetW w F.CTL_LOOP_CFG1_ACT = 2 then fgetW w F.CTL_LOOP_CFG1_ACT_HB else 0)
  (List.range 16).all (fun k =>
    let ms := ls.filter (fun d => curb d == k)
    match ms with
    | [] => true
    | d0 :: _ => inN 2 4 ms.length && ms.all (fun d =>
        cf d F.CTL_LOOP_CFG_DIV == cf d0 F.CTL_LOOP_CFG_DIV && cf d F.CTL_LOOP_CFG_PHASE == cf d0 F.CTL_LOOP_CFG_PHASE
          && cf d F.CTL_LOOP_CFG_GROUP == cf d0 F.CTL_LOOP_CFG_GROUP && d.outMin == d0.outMin && d.outMax == d0.outMax && d.chans == d0.chans
          && act d == act d0
          && d.sets.all (fun g => fLt 0 g.kaw)))

/-- The outputs of a loop that its setpoint or its enable takes (R281, R286): 1 to 96 outputs of roles 1 to 4. Log 72: DESIGN CHOICE. -/
def outsetOk (ws : List (Nat × Word)) (os : List OutEnt) (d : LoopDef) : Bool :=
  let sp := fgetW (cfgWord ws (R.CTL_LOOP_CFG d.loop.val)) F.CTL_LOOP_CFG_SP_SRC
  let rates := sp == 1 || sp == 2 || fgetW (cfgWord ws (R.CTL_LOOP_CFG1 d.loop.val)) F.CTL_LOOP_CFG1_EN_SRC == 2
  !rates || (inN 1 96 d.outset.length && d.outset.all (fun n => os.any (fun o => o.out == n && strideRole o)))

/-- The channels of an actuator (R292): each at most one, in a load group of owner CTL with the loop's group. -/
def actuatorsOk (ws : List (Nat × Word)) (ls : List LoopDef) : Bool :=
  let c1 (d : LoopDef) (f : Fld) : Nat := fgetW (cfgWord ws (R.CTL_LOOP_CFG1 d.loop.val)) f
  let cf (d : LoopDef) (f : Fld) : Nat := fgetW (cfgWord ws (R.CTL_LOOP_CFG d.loop.val)) f
  let chs (d : LoopDef) : List Nat :=
    match c1 d F.CTL_LOOP_CFG1_ACT with | 1 => d.chans | 2 => [96 + 2 * c1 d F.CTL_LOOP_CFG1_ACT_HB] | _ => []
  let lead (d : LoopDef) : Bool :=
    cf d F.CTL_LOOP_CFG_CURB == 31 || ls.all (fun e => !(cf e F.CTL_LOOP_CFG_CURB == cf d F.CTL_LOOP_CFG_CURB && decide (e.loop.val < d.loop.val)))
  uniqueN ((ls.filter lead).flatMap chs)
    && ls.all (fun d => (c1 d F.CTL_LOOP_CFG1_ACT != 1 || inN 1 96 d.chans.length) && (chs d).all (fun n =>
      let g := cfgWord ws (R.PWM_LG_CFG (fgetW (cfgWord ws (R.PWM_CH_CFG n)) F.PWM_CH_CFG_LG))
      decide (n < 104) && fgetW g F.PWM_LG_CFG_OWNER == 2 && fgetW g F.PWM_LG_CFG_INST == cf d F.CTL_LOOP_CFG_GROUP))

/-- Bit timing of a controller (R307). Rates compare 80 MHz with BRP × quanta. -/
def canOk (ws : List (Nat × Word)) (c : Nat) : Bool :=
  let nb := cfgWord ws (R.CAN_NBT c)
  let db := cfgWord ws (R.CAN_DBT c)
  let nq := fgetW nb F.CAN_NBT_BRP * (1 + fgetW nb F.CAN_NBT_TSEG1 + fgetW nb F.CAN_NBT_TSEG2)
  let dq := fgetW db F.CAN_DBT_BRP * (1 + fgetW db F.CAN_DBT_TSEG1 + fgetW db F.CAN_DBT_TSEG2)
  decide (fgetW nb F.CAN_NBT_SJW ≤ fgetW nb F.CAN_NBT_TSEG2) && decide (fgetW db F.CAN_DBT_SJW ≤ fgetW db F.CAN_DBT_TSEG2)
    && decide (80 ≤ nq) && decide (16 ≤ dq)
    && (fgetW (cfgWord ws (R.CAN_CTRL c)) F.CAN_CTRL_FD_EN == 0 || decide (80 ≤ dq) || fgetW (cfgWord ws (R.CAN_TDC c)) F.CAN_TDC_TDC_EN == 1)

/-- The longest path through a program from an instruction to its end (R316): the program is read from its last instruction. -/
def pathCosts : List FInstr → List Nat
  | [] => []
  | i :: l =>
    let r := pathCosts l
    let next := r.headD 0
    let jump := r.getD i.skip 0
    let c := if i.op = 12 then 1 else if i.op = 8 then 1 + jump else if 3 ≤ i.op ∧ i.op ≤ 7 then 1 + max next jump else 1 + next
    c :: r

/-- Every jump stays in the program: `n` is the number of instructions after this one. -/
def jumpsOk : List FInstr → Bool
  | [] => true
  | i :: l => (!(decide (3 ≤ i.op) && decide (i.op ≤ 8)) || decide (i.skip < l.length)) && jumpsOk l

/-- An instruction is in the tables (R316 to R318). -/
def instrOk (maps : Nat) (i : FInstr) : Bool :=
  match i.op with
  | 1 => [0, 1, 2, 8, 9, 3, 4, 5, 6, 7].contains i.arg || inN 0x10 0x4F i.arg || inN 0x80 0xBC i.arg
  | 10 => decide (i.arg ≤ 5)
  | 11 => decide (i.imm < maps)
  | o => inN 2 12 o

/-- A filter program and its map table (R316, R319). -/
def filtOk (ws : List (Nat × Word)) (f : Filt) : Bool :=
  decide (f.ctrl < 4) && inN 1 1024 f.prog.length && decide (f.maps.length ≤ 64) && ((f.prog.getLast?).map (·.op)) == some 12
    && jumpsOk f.prog && f.prog.all (instrOk f.maps.length) && decide ((pathCosts f.prog).headD 0 ≤ 256)
    && f.maps.all (fun m => decide (m.target ≤ 6) && inN 1 32 m.width &&
      (let lg := if m.target = 5 then fgetW (cfgWord ws (R.PWM_CH_CFG m.idx)) F.PWM_CH_CFG_LG else m.idx
       let g := cfgWord ws (R.PWM_LG_CFG lg)
       !(m.target == 5 || m.target == 6) || (fgetW g F.PWM_LG_CFG_OWNER == 3 && fgetW g F.PWM_LG_CFG_INST == f.ctrl)))

/-- The links of a plan as a graph of module IDs, PL being implied by PAIRED (R338). -/
def planGraph (p : TeamPlan) (m : Nat) : List (Nat × Nat) :=
  (p.links.filterMap (fun l => if l.1 = m then some (l.2.1, l.2.2.1) else if l.2.2.1 = m then some (l.2.2.2, l.1) else none))
    ++ (if p.positions.any (fun x => x.pos == m / 2 && x.paired) then [(4, m ^^^ 1)] else [])

/-- Module IDs of a plan. -/
def planModules (p : TeamPlan) : List Nat := p.positions.flatMap (fun x => if x.paired then [2 * x.pos, 2 * x.pos + 1] else [2 * x.pos])

/-- The declared topology against LINKS, the two modules of a pair being one place (R338, R344): 0 CHAIN, 1 RING, 2 STAR_OF_CHAINS with a hub of at
most 4 chains. Log 51: DEDUCED. -/
def topoOk (p : TeamPlan) : Bool :=
  let ps := p.positions.map (·.pos)
  let es := ((p.links.map (fun l => (min (l.1 / 2) (l.2.2.1 / 2), max (l.1 / 2) (l.2.2.1 / 2)))).filter (fun e => e.1 != e.2)).eraseDups
  let deg (q : Nat) : Nat := (es.filter (fun e => e.1 == q || e.2 == q)).length
  let adj (q : Nat) : List (Nat × Nat) := es.filterMap (fun e => if e.1 = q then some (0, e.2) else if e.2 = q then some (0, e.1) else none)
  let tree := decide (es.length + 1 = ps.length)
  ps.all (fun q => (reachFrom adj q).length == ps.length) && (match p.topo with
    | 0 => tree && ps.all (fun q => decide (deg q ≤ 2))
    | 1 => if ps.length ≤ 2 then tree else ps.all (fun q => deg q == 2)
    | _ => tree && decide ((ps.filter (fun q => decide (2 < deg q))).length ≤ 1) && ps.all (fun q => decide (deg q ≤ 4)))

/-- The team plan (R338, R344). -/
def planOk (p : TeamPlan) : Bool :=
  let here (q : Nat) : Bool := p.positions.any (fun x => x.pos == q)
  let ms := planModules p
  p.positions.all (fun x => decide (x.pos < 32) && decide (x.prio ≤ 15) && decide (x.canAddr ≤ 253)) && uniqueN (p.positions.map (·.pos))
    && p.pose.all here && p.time.all here && p.isobus.all (fun x => here x.1 && decide (x.2 < 4)) && decide (p.pose.length ≤ 4)
    && decide (p.time.length ≤ 4) && decide (p.isobus.length ≤ 4) && decide (p.links.length ≤ 128) && decide (p.topo ≤ 2) && topoOk p
    && p.links.all (fun l => decide (l.1 < 64) && decide (l.2.2.1 < 64) && decide (l.2.1 < 4) && decide (l.2.2.2 < 4))
    && ms.all (fun m => (reachFrom (planGraph p) m).all (fun r => decide (r.dist ≤ 16)))
    && p.pose.all (fun q => (reachFrom (planGraph p) (2 * q)).all (fun r => decide (r.dist ≤ 8)))
    && p.time.all (fun q => (reachFrom (planGraph p) (2 * q)).all (fun r => decide (r.dist ≤ 8)))

/-- Safety connections (R367, R374, R375). -/
def connsOk (ws : List (Nat × Word)) (m : Safmir) : Bool :=
  inN 1 8 m.filt && inN 100 10000 m.tTest && decide (m.sos.length ≤ 4) && m.sos.all (fun r => decide (r.remote.length ≤ 16)) &&
    m.conns.all (fun c => inN 1 100 c.period && inN 2 1000 c.wdt && inN 1 16 c.win && decide (c.period + 2 ≤ c.wdt)
      && (match c.ctrl with | some k => fgetW (cfgWord ws (R.CAN_CTRL k.val)) F.CAN_CTRL_FD_EN == 1 | none => decide (c.peer < 64))
      && decide (c.hid < 2 ^ 32) && decide (c.canId < 2 ^ 29))

/-- Every event the recorder or the rules of spec/ fix as severity 2 or 3 or as the recorder's own (R440, R441). -/
def alwaysRaised : List Ev :=
  [.POWER_UP, .TIME_SET, .CLEARED, .FREEZE, .DROPPED, .POLICY, .TB_MARK, .ISLAND_FAULT, .SW_INVALID, .SW_CHANGED, .DEBUG_UNLOCK, .TRANSFER]

/-- A stud book policy (R441). -/
def policyOk (p : StbPol) : Bool :=
  let fixed (t : Nat) : Bool := alwaysRaised.any (fun e => evType e == t)
  p.disabled.all (fun t => !fixed t) && p.limits.all (fun l => inN 1 1000 l.2 && !fixed l.1)

/-- The segment types an image must hold for a position (R43), or a FORERUNNER container (R58). Log 27: DEDUCED. -/
def missingSeg (c : Container) (pos : Nat) : Bool :=
  let v := segView c pos
  let has (t : Nat) : Bool := v.any (fun x => x.2.typ == t && (t != 2 || x.2.inst == 0))
  let need := if c.fore then [0x20, 1, 2, 7, 9, 10, 11, 13, 8] else [1, 2, 3, 7, 8, 9, 10, 11, 13]
  need.any (fun t => !has t)

/-- What R58 forbids in a FORERUNNER container. -/
def foreBad (c : Container) (v : List (Nat × Seg)) : Bool :=
  c.fore && (c.segs.any (fun x => x.typ == 3 || x.typ == 4 || x.typ == 5 || (x.typ == 2 && x.inst != 0))
    || (viewPlan c v).positions.length != 1 || (viewPlan c v).positions.any (fun p => p.paired || p.pos != 0))

/-- The positions an image serves: this one, and of a team image those of its plan and those it carries parts for. Log 27: DEDUCED. -/
def servedBy (c : Container) (pos : Nat) : List Nat :=
  if c.team then
    (pos :: (viewPlan c (segView c pos)).positions.map (·.pos) ++ (c.segs.filterMap (·.pos)).filter (fun p => decide (p < 32))).eraseDups
  else [pos]

/-- The limits of the header's and the directory's own fields (R40 to R42) and the hash of the team plan: the segment concerned, 255 none. Log 67: DESIGN CHOICE. -/
def headErr (c : Container) : Option Nat :=
  if 8 ≤ c.flags ∨ 4 ≤ c.target ∨ c.reserved ≠ 0 ∨ c.flags.testBit 0 ≠ c.segs.any (·.enc) then some 255
  else (c.segs.zipIdx.find? (fun x =>
    (decide (32 ≤ x.1.position) && x.1.position != 255) || decide (2 ≤ x.1.sflags) || decide (instMax x.1.typ < x.1.inst)
      || (x.1.typ == 8 && x.1.hash != c.planHash) || (x.1.typ == 15 && !x.1.enc))).map (·.2)

/-- The checks over every position of a team image: segments held, ordering code, family, epoch rate, LAT_TC, team sections (R43, R68, R119,
R209, R210). -/
def teamOk (c : Container) (pos : Nat) : Bool :=
  let g := viewGeom c (segView c pos)
  let rate (p : Nat) : Nat := fgetW (cfgWord (viewWords (segView c p)) R.GNS_CFG) F.GNS_CFG_EPOCH_RATE
  let teams (p : Nat) : List Nat := (viewSecs (segView c p)).map (·.team)
  (servedBy c pos).all (fun p =>
    let h := viewGeom c (segView c p)
    h.family == g.family && rate p == rate pos && (!g.directedOk || !h.directedOk || h.latTc == g.latTc)
      && (p == pos || (teams p).all (fun t => !(teams pos).contains t)))
    && leftToRight ((servedBy c pos).flatMap (fun p =>
      let v := segView c p
      secSpans (viewChains v) (viewOuts v) (viewSecs v)))

/-- Check of one segment's own content, with its words. -/
def segOk (ws : List (Nat × Word)) (g shape : Bool) (x : Seg) : Bool :=
  x.words.all (fun w => rwiOk w && rangeOk w) && match x.body with
  | .chain c => chainOk g shape c && c.inst == x.inst
  | .outtab l => inN 1 96 l.length && l.all outOk && decide (x.inst < 16)
  | .sections l => l.all secOk && decide (x.inst < 16)
  | .loopgrp l => decide (x.inst < 16) && l.all (loopOk ws x.inst)
  | .canfilt f => f.ctrl == x.inst && filtOk ws f
  | .gnsscfg g => gnssOk g
  | .pwmcfg l => l.all (fun i => decide (i.ch < 104) && decide (i.duty ≤ 65536) && decide (i.phase < 65536))
  | .stbpol p => policyOk p
  | .oemsec => x.enc
  | .teamplan p _ => planOk p
  | .safmir m => connsOk ws m
  | .secpol p => decide (p.roots.length ≤ 4) && p.authCons.all (fun x => decide (x.1 < 4 ∧ x.2 < 6)) && p.authMap.all (fun x => decide (x.1 < 4))
  | .calib p => p.pulses.all (fun x => decide (x.ch < 16) && inN 1 1000 x.scale)
  | .fr480 _ _ _ => true
  | _ => true

/-- The checks of content in the order made, each with the directory index it reports (R47): none, the image passes them. Log 27: DEDUCED. -/
def semanticErr (s : State) (c : Container) (pos : Nat) : Option Nat :=
  let v := segView c pos
  let ws := viewWords v
  let os := viewOuts v
  let ss := viewSecs v
  let cs := viewChains v
  let g := viewGeom c v
  let plan := viewPlan c v
  let shape := bitOf plan.shape pos
  let ls := viewLoops v
  let low := lowSeg v
  ([((headErr c).isSome, (headErr c).getD 255), ((servedBy c pos).any (missingSeg c), 255), (foreBad c v, low [2, 3, 4, 5, 8])]
    ++ v.map (fun x => (!segOk ws (isG s) shape x.2, x.1))
    ++ [(decide (31 < cs.length ∨ 64 < (cs.map (·.links.length)).foldl (· + ·) 0), low [2]),
        (!uniqueN (os.map (·.out)) || !os.all outOk || decide (96 < os.length), low [3, 32]),
        (!ss.all secOk || !secsOk os ss, low [3, 4, 32]),
        (!modelOk cs os g, low [2, 3]),
        (!horizonsOk ws os, low [2, 3]),
        (!rolesOk g os, low [2, 3]),
        (!geomOk ws os g, low [1, 2, 3, 13]),
        (!inputsOk ws ((viewOf (fun b => match b with | .pinfn p => some p | _ => none) v).headD noCfg.pinfn), low [1]),
        (!cableOk ws, low [12]),
        (!pwmOk ws os, low [3, 13]),
        (!currentsOk ws os, low [1, 3, 10]),
        (!cutOk os (viewMirror v), low [3, 7]),
        (decide (64 < ls.length) || !uniqueN (ls.map (·.loop.val)) || !curbsOk ws ls || !actuatorsOk ws ls || !ls.all (outsetOk ws os), low [5, 13]),
        (!(List.range 4).all (canOk ws), low [1]),
        (!teamOk c pos, low [2, 3, 4, 12, 32])]).find? (·.1) |>.map (·.2)

/-! ### The order of checks -/

/-- The safety mirror against the sealed switches read at power-up (R373). -/
def mirrorErr (s : State) (v : List (Nat × Seg)) : Bool :=
  match viewMirror v with
  | some m => !mirrorOk m (fget s R.SAF_SW F.SAF_SW_SW)
  | none => true

/-- NSC480 content that has no counterpart (R59): an output `frBad` names, or anything marked so. -/
def frUnsupported (v : List (Nat × Seg)) : Bool :=
  (viewOf (fun b => match b with | .fr480 os _ other => some (os, other) | _ => none) v).any (fun x => x.2 || x.1.any frBad)

/-- An NSC960-N position with GNSS or boom-shape measurement (R2): a position the plan gives to an NSC960-N, or this module's own where it is
one. `g`: this module is an NSC960-G. -/
def codeErr (g : Bool) (pos : Nat) (c : Container) (v : List (Nat × Seg)) : Bool :=
  let p := viewPlan c v
  p.positions.any (fun x => if x.pos = pos ∧ g = false then x.codeG || bitOf p.shape x.pos else !x.codeG && bitOf p.shape x.pos)

/-- Size, offsets and lengths hold R39 to R41: the parts in their order, each segment between directory and signature block on a 16-byte
boundary, none upon another, and padding of zeros. Log 27: DEDUCED. -/
def layoutOk (c : Container) : Bool :=
  let dirEnd := 128 + 48 * c.segCount
  let apart (x y : Seg) : Bool := decide (x.off + x.len ≤ y.off) || decide (y.off + y.len ≤ x.off)
  decide (c.size ≤ 16 * 1024 * 1024) && c.totalLen == c.size && c.dirOff == 128 && inN 1 256 c.segCount && c.segs.length == c.segCount
    && decide (dirEnd ≤ c.sigOff) && decide (c.sigOff < c.size) && c.padOk
    && c.segs.all (fun x => x.off % 16 == 0 && decide (dirEnd ≤ x.off) && decide (x.off + x.len ≤ c.sigOff))
    && c.segs.zipIdx.all (fun x => (c.segs.drop (x.2 + 1)).all (apart x.1))

/-- Every certificate of a chain is issued by the next, the last by the root key (R44). -/
def chainTo (root : Nat) : List ImgCert → Bool
  | [] => false
  | [x] => x.sigOk && x.issuer == root
  | x :: y :: l => x.sigOk && x.issuer == y.key && chainTo root (y :: l)

/-- The signature block holds (R44): at most three certificates up to the root key of OTP, a signer with the image-signing usage and the
header's OEM_ID, and its signature. Log 27: DEDUCED. -/
def signedOk (root : Nat) (c : Container) : Bool :=
  decide (c.certs.length ≤ 3) && chainTo root c.certs && c.sigOk && (match c.certs.head? with
    | some x => x.signing && x.oemId == c.oemId
    | none => false)

/-- The key wraps of a view (R45). -/
def viewWraps (v : List (Nat × Seg)) : List (Nat × Bool) := (viewOf (fun b => match b with | .keywrap l => some l | _ => none) v).flatten

/-- A segment of a view cannot be opened (R45): no wrap is for this module, or a tag fails. An OEMSEC segment is opened only while the module
is LOCKED (R407, R409). -/
def sealedSeg (s : State) (v : List (Nat × Seg)) (x : Seg) : Bool :=
  x.enc && (!(viewWraps v).any (fun w => w.1 == s.pwr.serial && w.2) || (!x.opens && !(x.typ == 15 && !locked s)))

/-- The checks 1 to 9 and 13 of R47, in order: the error code and the segment; none, every one passes. Log 18: DEDUCED. Log 27: DEDUCED. Log 67: DESIGN CHOICE. -/
def imageErr (s : State) (c : Container) (pos : Nat) : Option (Nat × Nat) :=
  let v := segView c pos
  let idx (p : Seg → Bool) : Nat := ((c.segs.zipIdx.find? (fun x => p x.1)).map (·.2)).getD 255
  let badType (x : Seg) : Bool := !segTypes.contains x.typ || !bodyFits x
  let dup : Bool := !(c.segs.map (fun x => (x.typ, x.inst, x.position))).Nodup
  if c.magic ≠ 0x4D494A48 ∨ c.format ≠ 3 ∨ 127 < c.svn then some (1, 255)
  else if c.segs.any badType then some (1, idx badType)
  else if layoutOk c = false ∨ dup = true then some (2, 255)
  else if c.segs.any (fun x => x.sha != x.hash) then some (2, idx (fun x => x.sha != x.hash))
  else if signedOk s.img.otpRoot c = false then some (3, 255)
  else if c.svn < s.img.otpSvn then some (4, 255)
  else if (if isG s then c.forG else c.forN) = false ∨ codeErr (isG s) pos c v = true then
    some (5, if codeErr (isG s) pos c v then lowSeg v [8] else 255)
  else if fwVersion s < c.minFw then some (6, 255)
  else if v.any (fun x => sealedSeg s v x.2) then some (7, ((v.find? (fun x => sealedSeg s v x.2)).map (·.1)).getD 255)
  else match semanticErr s c pos with
    | some i => some (8, i)
    | none => if mirrorErr s v then some (9, lowSeg v [7]) else none

/-- What a check of an image that has arrived comes to (R47), its checks 10, 11 and 13 in their order: the error code, the segment, and
STATE: 3 STAGED_LIVE, 4 STAGED_RESTART, 7 ERROR. Log 27: DEDUCED. -/
def imageStage (s : State) (c : Container) (pos : Nat) : Nat × Nat × Nat :=
  match imageErr s c pos with
  | some e => (e.1, e.2, 7)
  | none =>
    let v := segView c pos
    let old := (s.img.active.map (fun a => segView a pos)).getD []
    let l := segChanges old v
    if s.img.uploaded ∧ s.img.active.isSome ∧ c.planHash ≠ s.cfg.plan.hash then (10, lowSeg v [8], 4)
    else if s.img.active.isNone ∨ 0 < changeClass (c.fore || s.cfg.fore) l then
      (11, (l.filter (fun x => decide (0 < segClass x.2))).foldl (fun m x => min m x.1) 255, 4)
    else if frUnsupported v then (13, lowSeg v [0x20], 7)
    else (0, 255, 3)

/-- The change of a staged image has class TEAM (R42, R54). -/
def teamClass (s : State) (c : Container) (pos : Nat) : Bool :=
  match s.img.active with
  | some a => changeClass false (segChanges (segView a pos) (segView c pos)) == 2
  | none => false

end Sys2Proof.Machine
end

