-- ==== Sys2Proof/Machine/Reset.lean ====
section
/-!
DEFINITION. Machine/Reset.lean: the reset of each domain (R451, R452), what a start finds (R463), the choice of firmware and image (R467, R49),
the image put in force, and the start itself.
-/

namespace Sys2Proof.Machine

/-! ### Registers of a domain -/

/-- The domain whose reset returns a register to what the image and its reset word give; 0: none does. IMG and STB count from power-up, the
outputs' levels 1 to 4 lie in PD0 and the load channels keep their latches (R452), and FAR and the liveries show what NOR and eMMC hold. Log 17: DEDUCED. -/
def regDom (a : Nat) : Nat :=
  if 0x101200 ≤ a ∧ a ≤ 0x1012FC then 10
  else match a / 0x10000 with
  | 0x02 => 1
  | 0x10 => 11
  | 0x11 => 4
  | 0x12 => 2
  | 0x13 => 1
  | 0x14 => 8
  | 0x15 => if (0x154000 ≤ a ∧ a ≤ 0x1540FC) ∨ a = R.PWM_CTRL ∨ a = R.PWM_STATUS ∨ a = R.PWM_HOLD then 0 else 10
  | 0x17 => 1
  | 0x18 => 7
  | 0x19 => 6
  | 0x1B => if a = R.BRD_STATUS ∨ 0x1B0280 ≤ a then 0 else 1
  | _ => 0

/-- Set the bits of a register that the image sets (R16). -/
def imgWord (x : Nat × Word) (s : State) : State :=
  let m : Word := BitVec.ofNat 32 (imgMask x.1)
  rset s x.1 ((rget s x.1 &&& ~~~m) ||| (x.2 &&& m))

/-- The words of the image in force for the registers that satisfy a predicate. -/
def imgWords (p : Nat → Bool) (s : State) : State := forEach (s.cfg.regs.filter (fun x => p x.1)) imgWord s

/-- The registers of a domain at their reset words and the image's. -/
def blkReset (d : Nat) (s : State) : State := imgWords (fun a => regDom a == d) (rclear s (fun a => regDom a == d))

/-! ### Domains going off -/

/-- The module is out of its team (R451): the links' own state stays where they run on. -/
def teamClear (links : Bool) (s : State) : State :=
  let t := s.team
  let t1 : Team := { Team.reset with
    pumped := s.sent.length
    links := if links then t.links else []
    hopsLost := t.hopsLost, msgId := t.msgId, seen := t.seen
    routes := if links then t.routes else Team.reset.routes }
  let s1 := setMembers [] (setLeader none (setTeamState 0 { s with team := t1 }))
  let s2 := fsetb (fset s1 R.TLK_PAIR_STAT F.TLK_PAIR_STAT_STATE 0) R.TLK_PAIR_STAT F.TLK_PAIR_STAT_PARTNER_HB false
  let s3 := fsetb (fsetb s2 R.TLK_PAIR_STAT F.TLK_PAIR_STAT_PAIR_SYNC false) R.TLK_PAIR_STAT F.TLK_PAIR_STAT_PAIR_UNRESOLVED false
  rolesSync (fsetb s3 R.TLK_STATUS F.TLK_STATUS_ALIGNED false)

/-- The pose and time roles this module holds pass on as PD2 goes off (R342, R451); the leader names the boundary. Log 24: DEDUCED. -/
def navRoles (s : State) : State :=
  let held := s.team.roles.filter (fun r => !(r.1 != 2 && r.2 == posOf s))
  if held = s.team.roles ∨ drives s = false then s
  else
    let s1 := { s with team := { s.team with roles := held } }
    rolesSync (if isLeader s1 then rolesMove s1 else s1)

/-- PD2 goes off (R451): the records in force stay with the engine. -/
def navOff (s : State) : State :=
  let valid := fbit s R.POS_STATUS F.POS_STATUS_VALID
  let p := s.pos
  let s1 := navRoles (domSet s 2 false)
  let s2 := blkReset 2 { s1 with pos := { Pos.reset with
    cur := p.cur, prev := p.prev, next := p.next, missing := p.missing, invalid := p.invalid, ofsNamed := p.ofsNamed } }
  fsetb s2 R.POS_STATUS F.POS_STATUS_VALID valid

/-- PD3 to PD5 go off together (R451): channels and front end start anew; what the solver has judged stays. -/
def gnssOff (s : State) : State :=
  let spoof := fbit s R.GNS_STATUS F.GNS_STATUS_SPOOF
  let g := s.gns
  let s1 := domSet (domSet (domSet s 3 false) 4 false) 5 false
  let s2 := blkReset 4 { s1 with gns := { Gns.reset with
    outBanks := g.outBanks, ring := g.ring, epochs := g.epochs, recs := g.recs, sky := g.sky, evalAt := g.evalAt, eph := g.eph, nomGain := g.nomGain
    ants := g.ants, excl := g.excl, dopRun := g.dopRun, geomRun := g.geomRun, geomAt := g.geomAt, geomOn := g.geomOn, pathNext := g.pathNext, badEval := g.badEval, goodEval := g.goodEval, spoofAt := g.spoofAt, spoofBad := g.spoofBad
    spoofBad1 := g.spoofBad1 } }
  fsetb s2 R.GNS_STATUS F.GNS_STATUS_SPOOF spoof

/-- PD6 goes off (R451): the module leaves its team. -/
def linkOff (s : State) : State :=
  let s1 := blkReset 6 (domSet (teamClear false s) 6 false)
  fset s1 R.TLK_STATUS F.TLK_STATUS_MID (s.pwr.mid.getD 0)

/-- PD7 goes off (R451): CAN sessions close; an address lost stays lost until power-up (R326). -/
def busOff (s : State) : State :=
  let lost := (List.range 4).filter (fun c => (canOf s c).claim == 3)
  let s1 := sessCloseAll (fun k => decide (4 ≤ k)) 11 s
  let s2 := blkReset 7 (domSet { s1 with can := ⟨[]⟩ } 7 false)
  forEach lost (fun c s => setCan c { canInit 0 with claim := 3 }
    (fsetb (fset s (R.CAN_ISO c) F.CAN_ISO_ADDR 254) (R.CAN_ISO c) F.CAN_ISO_ADDR_LOST true)) s2

/-- PD8 goes off: the replica and every layer lie in DRAM. -/
def memOff (s : State) : State := blkReset 8 (jobNone (domSet s 8 false))

/-- The first ground tick an output leaves uncommitted as evidence of it stops at this tick; none: nothing (R173, R451). What applies now lands in any
case where the output is held as it is. -/
def gapFrom (s : State) (n : Nat) (held : Bool) : Option Nat :=
  let done := (outSt s n).doneTo
  if committing s = false then none
  else if held then ((groundIvs s n done).filterMap (fun x => match x.2 with
    | some e => if done < e then some (max done x.1) else none
    | none => some (max done x.1))).head?
  else ((groundIn s n done (s.tb + offDelay s n + 1)).head?).map (·.1)

/-- A load channel as PD10 goes off (R272): accounts, runs and retries start anew. -/
def chanOff (n : Nat) (s : State) : State :=
  let a := R.LSW_CH_STAT n
  let s1 := setLch n (fun c => { lchInit 0 with therm := c.therm, dead := c.dead, onAt := c.onAt, cmd := c.cmd, driveAt := c.driveAt, latchAt := c.latchAt }) s
  let s2 := fsetb (fsetb (fsetb s1 a F.LSW_CH_STAT_RETRYING false) a F.LSW_CH_STAT_RETRY_PAUSED false) a F.LSW_CH_STAT_OPEN_LOAD false
  rset (rset (fsetb s2 a F.LSW_CH_STAT_OL_UNKNOWN true) (R.LSW_CH_CUR n) 0) (R.LSW_CH_CLAMP n) 0

/-- PD10 goes off (R247, R272, R451): every output but those of halter mode goes to its safe state at once, evidence stops, forces end. -/
def driverOff (s : State) : State :=
  let gaps := (strideOuts s).filterMap (fun o => (gapFrom s o.out false).map (fun a => (o.out, a)))
  staged (fun s =>
    let s1 := forceRelease 3 (wdStart s)
    let p := s1.pwm
    let s2 := domSet { s1 with pwm := { Pwm.reset with
      wd := p.wd, trips := p.trips, halted := p.halted, sw := p.sw, pair := p.pair, pairPend := p.pairPend, pairBad := p.pairBad } } 10 false
    let s3 := forEach gaps (fun g s => gapEnd g.1 (gapAdd g.1 g.2 (s.tb + offDelay s g.1) 2 s)) s2
    let s4 := forEach (strideOuts s) (fun o s =>
      setOut s o.out { outSt s o.out with evid := [], doneTo := s.tb + offDelay s o.out, applied := false }) s3
    halterCheck (forN 96 chanOff (blkReset 10 s4))) s

/-- PD11 goes off (R451): counters restart at 0; a PLATFORM track waits for an index, an ALLEY track for SET or a magnet. -/
def senseOff (s : State) : State :=
  let bySpeed := match s.cfg.gnss.speed with | .ch _ => true | _ => false
  let s1 := { s with
    fbi := { Fbi.reset with ainTb := s.fbi.ainTb, ainWas := s.fbi.ainWas, shuntAt := s.fbi.shuntAt, supAt := s.fbi.supAt }
    str := { s.str with platIdx := false }
    pos := { s.pos with speed := if bySpeed then none else s.pos.speed, insTb := none } }
  let s2 := blkReset 11 (domSet s1 11 false)
  fsetb (fsetb s2 R.STR_PLAT_POS F.STR_PLAT_POS_VALID false) R.STR_ALLEY_STAT F.STR_ALLEY_STAT_VALID false

/-- What PD1 and PD2 held is gone (R451): queues, loops, team, job, reports; the resets counted and the escalation times stay. Log 17: DEDUCED. -/
def coreClear (gaps : List (Nat × Nat)) (s0 : State) : State :=
  let loop_ := fbit s0 R.FLT_STATUS F.FLT_STATUS_RESET_LOOP
  let s := jobNone (slicesDrop (teamClear true s0))
  let s1 := { s with
    str := Str.reset
    ctl := Ctl.reset
    geo := Geo.reset
    pos := Pos.reset
    flt := { s.flt with inbox := [], queue := [], active := [], prev := [] }
    stb := { s.stb with raiseQ := [], holdQ := [], collect := [], joined := [] }
    rap := { s.rap with handles := [], latch := [], relays := [], spAt := [] }
    brd := { s.brd with sess := [], shakes := [], object := none, transfer := none }
    cov := { s.cov with exporting := false, exported := none, suspAt := none }
    img := { s.img with
      sending := false, acks := [], swapC := none, scope := [], loopScope := [], loopGone := [], loopSwap := false, oldSets := []
      restartAt := none }
    pwm := { s.pwm with halted := false, by_ := none }
    far := { s.far with seqOff := [] } }
  let s2 := forEach gaps (fun g s => setOut s g.1 { outSt s g.1 with gap := some (g.2, g.2, 2) }) s1
  let s3 := fset (blkReset 2 (blkReset 1 s2)) R.IMG_STATUS F.IMG_STATUS_STATE 0
  let s4 := fsetb (fsetb s3 R.FAR_STATUS F.FAR_STATUS_STARTUP_DONE false) R.FAR_STATUS F.FAR_STATUS_SLICES_RUN false
  let s5 := fsetb (rset64 s4 R.BRD_TT_HWM_LO R.BRD_TT_HWM_HI (bitsOf 64 s4.brd.hwmStored)) R.BRD_STATUS F.BRD_STATUS_TT_HWM_VALID
    (s4.brd.hwmStored != 0)
  fsetb (sessCount s5) R.FLT_STATUS F.FLT_STATUS_RESET_LOOP loop_

/-- PD1 and PD2 go off (R33, R179, R242, R391, R451): levels 5 to 7 are held, every session ends, and what has been commanded on and not
committed will be a gap. -/
def coreOff (s : State) : State :=
  let gaps := (strideOuts s).filterMap (fun o => (gapFrom s o.out true).map (fun a => (o.out, a)))
  staged (fun s =>
    let s1 := domSet (domSet (hold s) 1 false) 2 false
    let s2 := levelLost (sessCloseAll (fun _ => true) 8 s1)
    halterCheck (coreClear gaps s2)) s

/-- A domain goes off (R451). Log 23: DEDUCED. -/
def domainOff (d : Nat) (s : State) : State :=
  match d with
  | 1 => coreOff s
  | 2 => navOff s
  | 3 | 4 | 5 => gnssOff s
  | 6 => linkOff s
  | 7 => busOff s
  | 8 => memOff s
  | 9 => domSet s 9 false
  | 10 => driverOff s
  | 11 => senseOff s
  | _ => s

/-- Every domain but PD0 goes off, with its effects (R451, R460, R470). -/
def moduleOff (s : State) : State :=
  let s1 := if domPow s 1 then coreOff s else s
  [10, 11, 6, 4, 7, 8, 9].foldl (fun s d => if domPow s d then domainOff d s else s) (domSet s1 3 false)

/-! ### Firmware and image -/

/-- A slot passes (R466, R467). Log 20: DEDUCED. -/
def slotOk (s : State) (x : FwSlot) : Bool :=
  x.present && x.magic == 0x48574655 && chainTo s.img.otpRoot x.certs && ((x.certs.head?).map (·.signing)).getD false && x.sigOk && decide (s.pwr.otpFwSvn ≤ x.svn) && decide (x.svn < 128) && decide (x.len ≤ 24 * 1048576 - 4096)

/-- The boot record in use: the copy with the valid CRC and the higher write count (R466); none valid: slot A, no trial. -/
def bootRec (s : State) : BootRec :=
  let a := s.pwr.boot1
  let b := s.pwr.boot2
  if a.crcOk && (!b.crcOk || decide (b.writes ≤ a.writes)) then a else if b.crcOk then b else ⟨false, 0, false, 0⟩

/-- Both copies of the boot record are written (R466, R468). -/
def bootWrite (preferred : Nat) (trial : Bool) (s : State) : State :=
  let r : BootRec := ⟨true, preferred, trial, (bootRec s).writes + 1⟩
  fsetb { s with pwr := { s.pwr with boot1 := r, boot2 := r } } R.PWR_FW F.PWR_FW_TRIAL trial

/-- A slot by its number. -/
def slotOf (s : State) (k : Nat) : FwSlot := if k = 0 then s.pwr.slotA else s.pwr.slotB

/-- The boot ROM chooses a slot (R467), and PWR_FW shows what it found (R476). Log 20: DEDUCED. -/
def fwSelect (s : State) : State :=
  let r := bootRec s
  let p := r.preferred % 2
  let a := slotOk s s.pwr.slotA
  let b := slotOk s s.pwr.slotB
  let ok (k : Nat) : Bool := if k = 0 then a else b
  let run := if ok p then some p else if ok (1 - p) then some (1 - p) else none
  let fall := run.isSome && run != some p
  let s1 := fsetb (fsetb (fsetb s R.PWR_FW F.PWR_FW_A_VALID a) R.PWR_FW F.PWR_FW_B_VALID b) R.PWR_FW F.PWR_FW_FALLBACK fall
  let s2 := fset (fset s1 R.PWR_FW F.PWR_FW_SLOT (run.getD 0)) R.PWR_FW F.PWR_FW_FW_SVN ((run.map (fun k => (slotOf s k).svn)).getD 0)
  let s3 := fsetb (fset s2 R.PWR_FW F.PWR_FW_OTP_FW_SVN s.pwr.otpFwSvn) R.PWR_FW F.PWR_FW_TRIAL r.trial
  let s4 := rsetN (rsetN s3 R.PWR_FW_VERA (if s.pwr.slotA.present then s.pwr.slotA.version else 0)) R.PWR_FW_VERB
    (if s.pwr.slotB.present then s.pwr.slotB.version else 0)
  let s5 := { s4 with pwr := { s4.pwr with running := run, trialRun := r.trial && !fall && run.isSome, trialAt := none, trialBad := false } }
  if fall then fault s5 Ev.FW_FALLBACK [1 - p] else s5

/-- What the validation of a stored image comes to at start-up (R47, R49, R59): the error code and the segment. -/
def startErr (s : State) (c : Container) : Option (Nat × Nat) :=
  match imageErr s c (posOf s) with
  | some e => some e
  | none => if frUnsupported (segView c (posOf s)) then some (13, lowSeg (segView c (posOf s)) [0x20]) else none

/-- Every outcome of a validation writes a record with the hash and the code (R47). Log 26: DEDUCED. -/
def imgChecked (c : Container) (code seg : Nat) (s : State) : State :=
  let s1 := fset (fset s R.IMG_STATUS F.IMG_STATUS_ERR code) R.IMG_STATUS F.IMG_STATUS_ERR_SEG seg
  raise s1 Ev.IMG_CHECKED [c.hash, code]

/-- Validate a slot of the store at start-up: the image where it passes. -/
def startCheck (o : Option Container) (s : State) : State × Option Container :=
  match o with
  | none => (s, none)
  | some c => match startErr s c with
    | none => (imgChecked c 0 255 s, some c)
    | some e => (imgChecked c e.1 e.2 s, none)

/-- STR_MODE.MODE as an image sets it (R209, R227). Log 18: DEDUCED. -/
def startMode : Family → Nat
  | .field => 0
  | .platform => 2
  | .alley => 3
  | .forerunner => 4

/-- The halter map's registers, which PD0 keeps a copy of (R48). -/
def halterReg (a : Nat) : Bool := decide (0x161210 ≤ a) && decide (a ≤ 0x16147C)

/-- Show an image in the IMG registers (R60). -/
def showImage (c : Container) (s : State) : State :=
  let s1 := forN 8 (fun n s => rsetN s (R.IMG_ACTIVE_HASH n) (c.hash / 2 ^ (32 * n))) s
  let s2 := fsetb (fset s1 R.IMG_SVN F.IMG_SVN_IMAGE_SVN c.svn) R.IMG_STATUS F.IMG_STATUS_FR_MODE c.fore
  { s2 with img := { s2.img with
    hash := c.hash, oemId := c.oemId, active := some c, norHalter := (viewWords (segView c (posOf s))).filter (fun x => halterReg x.1)
    norMir := viewMirror (segView c (posOf s)) } }

/-- An image comes into force at a start (R48, R49). -/
def install (c : Container) (s : State) : State :=
  let s1 := showImage c { s with cfg := cfgOf c (posOf s) }
  let s2 := forN 96 segShow (imgWords (fun _ => true) s1)
  mirrorLoad s2.img.norMir (fset s2 R.STR_MODE F.STR_MODE_MODE (startMode s2.cfg.geom0.family))

/-- Validation at start-up (R49): ACTIVE, then LAST_GOOD. -/
def imgSelect (s : State) : State :=
  let good := match s.img.slotGood with | some c => (startErr s c).isNone | none => false
  let s0 := fset (fsetb (fsetb s R.IMG_STATUS F.IMG_STATUS_LAST_GOOD_VALID good) R.IMG_STATUS F.IMG_STATUS_FALLBACK false)
    R.IMG_SVN F.IMG_SVN_OTP_SVN s.img.otpSvn
  let a := startCheck s0.img.slotActive s0
  match a.2 with
  | some c => install c a.1
  | none =>
    let g := startCheck a.1.img.slotGood a.1
    match g.2 with
    | some c => install c (fault (fsetb g.1 R.IMG_STATUS F.IMG_STATUS_FALLBACK true) Ev.IMG_FALLBACK [c.hash])
    | none => { g.1 with img := { g.1.img with active := none }, cfg := noCfg }

/-- Without firmware or image the module runs at L0 with the copies of NOR (R48, R49, R467). -/
def norCopies (s : State) : State := mirrorLoad s.img.norMir (forEach s.img.norHalter imgWord s)

/-! ### Domains coming on -/

/-- The waveforms of PWMCFG (R248, R463). -/
def pwmStart (s : State) : State :=
  forEach s.cfg.pwmInit (fun i s =>
    let d := min 65536 i.duty
    let t := s.tb * unitOf i.ch
    let s1 := setWav i.ch { wavInit 0 with duty := d, phase := i.phase, from_ := t, seen := t } s
    let s2 := fset (fset s1 (R.PWM_CH_DUTY i.ch) F.PWM_CH_DUTY_DUTY d) (R.PWM_CH_PHASE i.ch) F.PWM_CH_PHASE_PHASE i.phase
    fset s2 (R.PWM_CH_STAT i.ch) F.PWM_CH_STAT_ACT_DUTY d) s

/-- PD10 comes on (R179, R451): waveforms as configured, the gates as the engine has them, OWN. Ground let go meanwhile is a gap. -/
def driverOn (s : State) : State :=
  staged (fun s =>
    let s1 := pwmStart (domSet s 10 true)
    let s2 := forN 4 (fun k s => rsetN s (R.PWM_GATE k) ((List.range 32).foldl (fun v b =>
      if 32 * k + b < 96 ∧ gateOn s (32 * k + b) then v + 2 ^ b else v) 0)) s1
    let s3 := forEach (strideOuts s2) (fun o s =>
      let n := o.out
      let out := outSt s n
      let s1 := if committing s ∧ actualOn s n then gapEnd n (gapAdd n out.doneTo s.tb 2 s) else s
      let now := { swOf s n with tick := s.tb }
      setOut s1 n { outSt s1 n with evid := [now], doneTo := max s.tb out.doneTo, applied := false }) s2
    if domPow s3 1 then own (queueCatchUp s3.tb s3) else s3) s

/-- PD7 comes on: each controller in the mode the image sets (R305); the ISOBUS role claims again (R326). -/
def busOn (s : State) : State :=
  let s1 := forN 4 (fun c s => canModeSet c (fget s (R.CAN_CTRL c) F.CAN_CTRL_MODE) s) (domSet s 7 true)
  rolesSync s1

/-- The position takes GNSS measurements (R474): an NSC960-G whose position the plan holds as one. Log 18: DEDUCED. -/
def gnssPlanned (s : State) : Bool := isG s && ((planPos s (posOf s)).map (·.codeG)).getD true

/-- PD3 to PD5 come on (R114, R124, R451, R474): a search begins; NOM_GAIN is the one held. -/
def gnssOn (s : State) : State :=
  if gnssPlanned s then
    let s1 := fset (domSet (domSet s 4 true) 5 true) R.GNS_AGC F.GNS_AGC_NOM_GAIN s.gns.nomGain
    antShow (searchAll (showRoles 7 { s1 with gns := { s1.gns with nomAt := s.tb, antAt := s.tb } }))
  else s

/-- The plan holds more than one module (R474). -/
def teamPlanned (s : State) : Bool := decide (1 < (planMids s).length)

/-- PD11 comes on (R101, R102, R104): both sensor supplies are on, and each channel that is configured is valid. Log 30: DEDUCED. -/
def senseOn (s : State) : State :=
  let s1 := fsetb (fsetb (domSet s 11 true) R.FBI_SUP F.FBI_SUP_SUP5A_OK true) R.FBI_SUP F.FBI_SUP_SUP5B_OK true
  forN 16 fbiValid (supplyFault true false (supplyFault false false s1))

/-- A domain comes on. Log 18: DEDUCED. -/
def domainOn (d : Nat) (s : State) : State :=
  match d with
  | 3 | 4 | 5 => gnssOn s
  | 6 => if teamPlanned s then domSet s 6 true else s
  | 7 => busOn s
  | 10 => driverOn s
  | 11 => senseOn s
  | _ => domSet s d true

/-- A plan of one module needs no discovery (R339): it is its team. Log 18: DEDUCED. -/
def soloTeam (s : State) : State :=
  if s.pwr.mid.isNone ∨ teamPlanned s ∨ s.team.formed then s
  else if (planMids s).contains (midOf s) then formTeam s
  else refuse (midOf s) Ev.POS_NOT_IN_PLAN s

/-- The stored job is restored (R204, R465): SUSPENDED as it stood; one that was in RUN is loaded as last stored, and what was committed after is
missing. Log 17: DEDUCED. Log 43: DEDUCED. -/
def restoreJob (s : State) : State :=
  match s.cov.storedJob with
  | none => s
  | some j =>
    if j.closed ∨ (s.cov.storedSusp = false ∧ s.cov.storedRun = false) then s
    else
      let e := loadError s j
      if e ≠ 0 then setJobErr e (setJobState 7 { s with cov := { s.cov with job := some j } })
      else
        let s1 := jobLoaded j s
        let s2 := { s1 with cov := { s1.cov with added := s.cov.storedAdded } }
        if s.cov.storedSusp then setJobState 5 s2 else { s2 with cov := { s2.cov with lostDue := true } }

/-- The POWER_UP record (R440, R464): cause, UNCLEAN, firmware version, the first 8 bytes of the active image's hash, TB. -/
def powerRecord (cause : Nat) (unclean : Bool) (s : State) : State :=
  raise s Ev.POWER_UP [cause, b2n unclean, fwVersion s, s.img.hash % 2 ^ 64, s.tb]

/-- The rise to the highest level whose working set is complete, at the end of a start. -/
def levelStart (s : State) : State := levelUp s

/-- PD1 to PD11 start (R463 steps 3 to 6): tests, firmware, image, domains, OWN, level, job. Log 16: DESIGN CHOICE. -/
def bringUp (cause : Nat) (unclean : Bool) (f : FarRun) (s : State) : State :=
  let s1 := fwSelect (farStartup (fun _ => true) f (domSet (domSet (domSet s 1 true) 8 true) 9 true))
  if s1.pwr.running.isNone then
    levelStart (norCopies (domSet (domSet (domSet { s1 with img := { s1.img with active := none } } 1 false) 8 false) 9 false))
  else
    let s2 := imgSelect s1
    match s2.img.active with
    | none => levelStart (powerRecord cause unclean (busOn (norCopies s2)))
    | some _ =>
      let s3 := fset s2 R.TLK_STATUS F.TLK_STATUS_MID (s2.pwr.mid.getD 0)
      let s4 := gnssOn (domainOn 6 (senseOn (busOn (domSet s3 2 true))))
      let s5 := powerRecord cause unclean (driverOn s4)
      soloTeam (restoreJob (levelStart s5))

/-- The gaps that a reset left open are complete once the core is back (R173, R451): to the last ground product of each output. -/
def gapsClose (s : State) : State :=
  forEach (strideOuts s) (fun o s =>
    let n := o.out
    match (outSt s n).gap with
    | some (a, _, c) =>
      let x := swOf s n
      let e := if x.st = 0 then x.tick + x.offD else s.tb
      if e ≤ a then setOut s n { outSt s n with gap := none } else
      let s1 := gapEnd n (gapAdd n a (max a e) c s)
      { s1 with cov := { s1.cov with storedGaps := s1.cov.storedGaps ++ [(n, a, max a e)] } }
    | none => s) s

/-- PD1 and PD2 come back (R451): tests, OWN, the level at the next boundary, the team again. -/
def coreOn (f : FarRun) (s : State) : State :=
  let s1 := farStartup (fun k => decide (k ≤ 6) || k == 9) f (domSet (domSet s 1 true) 2 true)
  let s2 := fset s1 R.STR_MODE F.STR_MODE_MODE (startMode s1.cfg.geom0.family)
  let s3 := forEach (strideOuts s2) (fun o s => setOut s o.out { outSt s o.out with doneTo := s.tb }) s2
  let s5 := gapsClose (if domPow s3 10 then staged (fun s => own (forN 4 (fun k s => rsetN s (R.PWM_GATE k) 0) s)) s3 else s3)
  -- a bus sequencer isolated before the reset is back, in the mode written (R456)
  let s6 := if domPow s5 7 then forN 4 (fun c s =>
    let m := fget s (R.CAN_CTRL c) F.CAN_CTRL_MODE
    if canMode s c = m then s else canModeSet c m s) s5 else s5
  soloTeam (restoreJob (powerRecord 7 false (fset s6 R.PWR_CAUSE F.PWR_CAUSE_CAUSE 7)))

/-! ### The start -/

/-- Registers that show what fuses, OTP, NOR and eMMC hold, or count for good. Log 17: DEDUCED. -/
def nvReg (a : Nat) : Bool :=
  a == R.SYS_ID || a == R.SYS_SERIAL_LO || a == R.SYS_SERIAL_HI || a == R.BRD_STATUS || decide (0x1B0280 ≤ a ∧ a < 0x1C0000)
    || decide (0x1C0000 ≤ a ∧ a ≤ 0x1C02FF)

/-- Registers of PD0 that hold across a start without loss of its power (R452): the island, the trip and channel latches, halter mode, the count of
brown-outs. Log 17: DEDUCED. -/
def aoReg (a : Nat) : Bool :=
  a / 0x10000 == 0x1A || decide (0x154000 ≤ a ∧ a ≤ 0x1540FC) || a == R.PWR_CAUSE || a == R.LSW_HALTER_STAT
    || (List.range 4).any (fun m => R.LSW_HB_STAT m == a) || (List.range 6).any (fun f => R.LSW_FEED_STAT f == a)
    || (List.range 12).any (fun c => R.LSW_CLUSTER c == a)

/-- What a start finds (R452, R463): what NOR, eMMC and OTP hold, with PD0's power kept what PD0 holds, and nothing else. Log 17: DEDUCED. -/
def fresh (pd0 : Bool) (s : State) : State :=
  let b := s.stb
  let p := s.pwr
  let f := s.far
  let c := s.cov
  let latch (n : Nat) : Nat × Word := (R.LSW_CH_STAT n, rget s (R.LSW_CH_STAT n) &&& 0x3F07E)
  let s1 := { State.reset with
    pending := s.pending, sent := s.sent, freeCnt := s.freeCnt
    regs := s.regs.filter (fun x => nvReg x.1 || (pd0 && aoReg x.1))
    team := { Team.reset with pumped := s.sent.length }
    gns := { Gns.reset with eph := s.gns.eph, nomGain := s.gns.nomGain }
    saf := if pd0 then s.saf else Saf.reset
    pwm := { Pwm.reset with trips := if pd0 then s.pwm.trips else [] }
    lsw := { Lsw.reset with ch := s.lsw.ch.filterMap (fun x => if x.2.dead = [] then none else some (x.1, { lchInit 0 with dead := x.2.dead })) }
    stb := { b with
      raiseQ := [], retBuf := if pd0 then b.retBuf else [], holdQ := [], frozenAt := none, freezeEnd := none, holdLost := 0
      drops := [0, 0, 0, 0], ovw := [0, 0, 0, 0], dropSec := [0, 0, 0, 0], dropRange := (0, 0), dropSeen := false, dropAt := 0, markAt := b.optSaved, limited := [], collect := [], missing := []
      joined := [], chal := none, exported := none }
    far := { f with slices := [], passes := [], waiting := none, adcBad := [], ainBad := [], ainSweep := [], ainFail := false, seqOff := [] }
    img := { Img.reset with
      slotActive := s.img.slotActive, slotPending := s.img.slotPending, slotGood := s.img.slotGood, norHalter := s.img.norHalter
      norMir := s.img.norMir, otpSvn := s.img.otpSvn, uploaded := s.img.uploaded, otpRoot := s.img.otpRoot }
    pwr := { Pwr.reset with
      slotA := p.slotA, slotB := p.slotB, boot1 := p.boot1, boot2 := p.boot2, otpFwSvn := p.otpFwSvn, serial := p.serial, unclean := p.unclean
      powered := pd0, strapNow := p.strapNow }
    brd := { s.brd with sess := [], shakes := [], object := none, hwmAt := 0, transfer := none, tsk := 0, tskAt := 0, tskOld := none, unbound := false }
    cov := { Cov.reset with
      storedCode := c.storedCode, storedSeq := c.storedSeq, storedAt := c.storedAt, storedJob := c.storedJob, storedSusp := c.storedSusp
      storedRun := c.storedRun, storedPcc := c.storedPcc, storedGaps := c.storedGaps, storedLog := c.storedLog, storedAdded := c.storedAdded, writes := c.writes, records := c.records
      rxTaken := c.rxTaken } }
  let s2 := if pd0 then rsetAll s1 ((List.range 96).map latch) else s1
  let s3 := fsetb (fsetb s2 R.FAR_STATUS F.FAR_STATUS_STARTUP_DONE false) R.FAR_STATUS F.FAR_STATUS_SLICES_RUN false
  let s4 := fsetb (rset64 s3 R.BRD_TT_HWM_LO R.BRD_TT_HWM_HI (bitsOf 64 s3.brd.hwmStored)) R.BRD_STATUS F.BRD_STATUS_TT_HWM_VALID
    (s3.brd.hwmStored != 0)
  sessCount s4

/-- The content a module leaves the factory with, at the first start of its life. Log 2: DESIGN CHOICE. Log 16: DESIGN CHOICE. -/
def shipped (x : Shipped) (s : State) : State :=
  let s1 := { s with
    pwr := { s.pwr with
      serial := x.serial, otpFwSvn := max s.pwr.otpFwSvn x.otpFw, slotA := x.slotA, slotB := x.slotB, boot1 := x.boot1, boot2 := x.boot2 }
    img := { s.img with otpSvn := max s.img.otpSvn x.otpSvn, otpRoot := x.root, slotActive := x.active, slotGood := x.good }
    gns := { s.gns with nomGain := x.nomGain.toNat } }
  let s2 := fset (fsetb s1 R.SYS_ID F.SYS_ID_CODE_G x.codeG) R.SYS_ID F.SYS_ID_DIE_STEP x.dieStep.toNat
  rset64 s2 R.SYS_SERIAL_LO R.SYS_SERIAL_HI x.serial

/-- The recorder at a power-up (R432, R433): PCC rises, OPT resumes from its last saved value, SEQ from its resume value. -/
def stbStart (unclean : Bool) (s : State) : State :=
  let b := s.stb
  let seq := if unclean then b.mark - 1 else b.seq
  let mark := if unclean then b.mark else (b.seq / 4096 + 1) * 4096
  fsetb { s with stb := { b with pcc := min (2 ^ 24 - 1) (b.pcc + 1), seq := seq, mark := mark, optTicks := b.optSaved * 200000 } }
    R.STB_STATUS F.STB_STATUS_UNCLEAN unclean

/-- The straps at a power-up (R337): three equal readings, or no part in the team. -/
def strapsRead (b : Boot) (s : State) : State :=
  let v := b.straps1.toNat
  if b.straps1 = b.straps2 ∧ b.straps2 = b.straps3 then
    { s with pwr := { s.pwr with mid := some (v % 32 * 2 + v / 32), paired := v / 32 == 1, strapNow := v } }
  else fault { s with pwr := { s.pwr with strapNow := b.straps3.toNat } } Ev.STRAP_UNSTABLE [b.straps1.toNat, b.straps2.toNat, b.straps3.toNat]

/-- The island starts with a power-up or a wake (R361, R371, R463, R471). -/
def islandUp (b : Boot) (s : State) : State :=
  let s1 := rclear { s with saf := Saf.reset } (fun a => a / 0x10000 == 0x1A)
  let s2 := fset (fset s1 R.SAF_SW F.SAF_SW_SW b.swNo.toNat) R.SAF_SW F.SAF_SW_VALID (b.swNo ^^^ b.swNc).toNat
  mirrorLoad s2.img.norMir (islandStart false (fsetb s2 R.SAF_STATUS F.SAF_STATUS_ISLAND_OK true))

/-- VLOG as a start finds it (R460): VLOG_HIGH and VLOG_LOW are raised where they hold. -/
def vlogStart (v : Nat) (s : State) : State :=
  if 320 < v then fault (fsetb s R.PWR_STATUS F.PWR_STATUS_VLOG_HIGH true) Ev.VLOG_HIGH [(v : Int)]
  else if v < 90 then fault (fsetb s R.PWR_STATUS F.PWR_STATUS_VLOG_LOW true) Ev.VLOG_LOW [(v : Int)]
  else s

/-- A start (R463, R464, R472, R473). Log 1: DESIGN CHOICE. Log 16: DESIGN CHOICE. -/
def start (b : Boot) (s : State) : State :=
  let wasOn := s.pwr.powered
  let cause := if wasOn then s.pwr.cause else 1
  let wake := decide (2 ≤ cause) && decide (cause ≤ 6)
  let unclean := s.pwr.unclean
  let s0 := fresh wasOn s
  let s1 := stbStart unclean (if s.stb.pcc = 0 then shipped b.shipped s0 else s0)
  let lock := fget s1 R.BRD_STATUS F.BRD_STATUS_LOCK
  let s2 := fset { s1 with
    pwr := { s1.pwr with
      powered := true, tbRun := true, attn := b.attn, cause := cause, unclean := false, startDue := false, woken := wake && !b.attn }
    brd := { s1.brd with dramKey := s1.brd.dramKey + 1, unlockAt := if lock = 1 then s1.brd.unlockAt else none } }
    R.BRD_STATUS F.BRD_STATUS_LOCK (if lock = 2 then 0 else lock)
  let s3 := fset (fset s2 R.PWR_CAUSE F.PWR_CAUSE_CAUSE cause) R.PWR_STATUS F.PWR_STATUS_VLOG b.vlog.toNat
  let s4 := fsetb s3 R.PWR_STATUS F.PWR_STATUS_ATTN b.attn
  let s5 := vlogStart b.vlog.toNat (fsetb s4 R.PWR_STATUS F.PWR_STATUS_STAY (wake && !b.attn))
  let s6 := if cause ≤ 6 then islandUp b s5 else s5
  let woke (s : State) : State :=
    if cause = 3 ∧ domPow s 7 then fsetb s (R.CAN_STATUS (fget s R.PWR_CAUSE F.PWR_CAUSE_CAN)) F.CAN_STATUS_WOKE true else s
  let s7 := if wake then forN 5 (fun n s => send s MsgKind.WAKE_BURST n []) s6 else s6
  woke (staged (fun s => bringUp cause unclean b.far (halterCheck (livSync (forN 8 leaseIdle (strapsRead b s))))) s7)

end Sys2Proof.Machine
end

