-- ==== Sys2Proof/Machine/Faults.lean ====
section
/-!
DEFINITION. Machine/Faults.lean: the fault manager (R446 to R456): its queue, escalation, active faults, resets and the return from them;
the errors checks find (R35, R36), and eMMC wear (R459).
-/

namespace Sys2Proof.Machine

/-! ### Blocks and classes -/

/-- The block an event belongs to: bits [15:8] of TYPE (R431). -/
def evBlock (e : Ev) : Nat := evType e / 256 % 256

/-- The event code: bits [7:0] of TYPE. Log 23: DEDUCED. -/
def evCode (e : Ev) : Nat := evType e % 256

/-- The domain a class-4 fault resets (R446, R477): where spec/ names one, that, otherwise its block's; none: the block lies in no domain that class 4
resets. Log 23: DEDUCED. -/
def evDom : Ev → Option Nat
  | .NAV_CORE_FAIL => some 2
  | .ADC_FAIL => some 10
  | e => match evBlock e with
    | 0x10 => some 11
    | 0x11 => some 4
    | 0x12 => some 2
    | 0x15 => some 10
    | 0x16 => some 10
    | 0x18 => some 7
    | 0x19 => some 6
    | _ => none

/-- The domains a reset of a class takes with it: PD1 and PD2 at class 5, every one but PD0 at class 6. -/
def inReset (cls d : Nat) (e : Ev) : Bool :=
  match cls with
  | 4 => evDom e == some d
  | 5 => (match evBlock e with | 0x02 => true | 0x13 => true | 0x17 => true | 0x1B => true | 0x1C => true | _ => evDom e == some 2)
  | _ => true

/-! ### What the registers show -/

/-- The oldest of the lowest class (R447, R487). -/
def lowest {α : Type} (cls : α → Nat) : List α → Option Nat
  | [] => none
  | x :: xs => match lowest cls xs with
    | none => some 0
    | some i => match xs[i]? with
      | some y => if cls y < cls x then some (i + 1) else some 0
      | none => some 0

/-- At most 32 entries: of more, the one of lowest class and oldest onset gives way (R487). -/
def shownFaults : Nat → List Active → List Active
  | 0, l => l
  | n + 1, l => if l.length ≤ 32 then l else match lowest (·.cls) l with
    | some i => shownFaults n (l.eraseIdx i)
    | none => l

/-- The word of an entry (R487). -/
def actWord (a : Active) : Word :=
  fsetW (fsetW (fsetW (fsetW 0 F.FLT_ACT_TYPE (evType a.ev)) F.FLT_ACT_CLASS a.cls) F.FLT_ACT_OCC a.occ) F.FLT_ACT_VALID 1

/-- The FLT registers show the fault manager's lists (R487). -/
def fltShow (s : State) : State :=
  let f := s.flt
  let l := shownFaults f.active.length f.active
  let s1 := forN 32 (fun n s => rset s (R.FLT_ACT n) (match l[n]? with | some a => actWord a | none => 0)) s
  let s2 := fset (fset s1 R.FLT_STATUS F.FLT_STATUS_TOP_CLASS (f.active.foldl (fun m a => max m a.cls) 0)) R.FLT_STATUS F.FLT_STATUS_QUEUED
    f.queue.length
  fsetb (fset s2 R.FLT_STATUS F.FLT_STATUS_ACTIVE (min 32 f.active.length)) R.FLT_STATUS F.FLT_STATUS_HANDLING (!f.down.isEmpty)

/-! ### Admission -/

/-- The class a report is handled at (R448): one above the higher of the two while the earlier fault of its block waits, and for 10 s after its
action. Log 23: DEDUCED. -/
def escalated (s : State) (r : Report) : Option (Nat × Ev) :=
  if r.cls = 0 ∨ r.onset = false then none
  else match s.flt.recent.find? (fun x => x.1 == evBlock r.ev) with
    | some (_, c, e, until_) =>
      if s.tb < until_ ∨ s.flt.queue.any (fun q => q.onset && decide (0 < q.cls) && evBlock q.ev == evBlock r.ev) then
        some (min 6 (max c r.cls + 1), e) else none
    | none => none

/-- The block's last fault, as escalation counts it. -/
def setRecent (r : Report) (cls : Nat) (s : State) : State :=
  if cls = 0 ∨ r.onset = false then s
  else { s with flt := { s.flt with
    recent := s.flt.recent.filter (fun x => x.1 != evBlock r.ev) ++ [(evBlock r.ev, cls, r.ev, s.tb + 10 * secTicks)] } }

/-- Enter the queue (R447): 56 places for classes 0 to 2, 64 in all. Log 23: DEDUCED. -/
def fltEnter (r : Report) (s : State) : State :=
  let q := s.flt.queue
  let displace (s : State) : State := match lowest (·.cls) q with
    | some i => fincSat { s with flt := { s.flt with queue := q.eraseIdx i ++ [r] } } R.FLT_QCNT F.FLT_QCNT_DISPLACED
    | none => s
  if r.cls ≤ 2 then
    if (q.filter (fun x => decide (x.cls ≤ 2))).length < 56 ∧ q.length < 64 then { s with flt := { s.flt with queue := q ++ [r] } }
    else displace s
  else if q.length < 64 then { s with flt := { s.flt with queue := q ++ [r] } }
  else
    -- the reserved entries are full: handled as class 6
    match lowest (·.cls) q with
    | some i => fincSat { s with flt := { s.flt with queue := q.eraseIdx i ++ [{ r with cls := 6 }] } } R.FLT_QCNT F.FLT_QCNT_DISPLACED
    | none => s

/-- One report is admitted (R447, R448). Log 23: DEDUCED. -/
def admitReport (r0 : Report) (s : State) : State :=
  let r := { r0 with cls := min 6 r0.cls }
  match escalated s r with
  | some (c, e) =>
    let s1 := raise (fincSat s R.FLT_ESC F.FLT_ESC_ESCALATED) Ev.ESCALATED [evType e, evType r.ev, c]
    setRecent r c (fltEnter { r with cls := c } s1)
  | none => setRecent r r.cls (fltEnter r s)

/-- Every report that has arrived. -/
def admitAll (s : State) : State := forEach s.flt.inbox admitReport { s with flt := { s.flt with inbox := [] } }

/-! ### Active faults -/

/-- A fault becomes active (R450). -/
def faultOn (r : Report) (s : State) : State :=
  let k := fltKey r.ev r.args
  let was (l : List Active) : Nat := ((l.find? (fun a => fltKey a.ev a.args == k)).map (·.occ)).getD 0
  let occ := min 126 (max (was s.flt.active) (was s.flt.prev) + 1)
  let a : Active := ⟨r.ev, r.args, r.cls, occ, r.tb⟩
  let rest := s.flt.active.filter (fun a => fltKey a.ev a.args != k)
  let act := if s.flt.active.any (fun a => fltKey a.ev a.args == k) then
      s.flt.active.map (fun x => if fltKey x.ev x.args = k then { a with tb := x.tb, cls := max a.cls x.cls } else x)
    else rest ++ [a]
  { s with flt := { s.flt with active := act, prev := s.flt.prev.filter (fun a => fltKey a.ev a.args != k) } }

/-- Its condition has ended (R450). -/
def faultOff (r : Report) (s : State) : State :=
  let k := fltKey r.ev r.args
  { s with flt := { s.flt with
    active := s.flt.active.filter (fun a => fltKey a.ev a.args != k)
    prev := s.flt.prev ++ s.flt.active.filter (fun a => fltKey a.ev a.args == k) } }

/-! ### Resets -/

/-- Queued reports of a domain that is being reset are discarded and recorded (R447). -/
def subsume (cls d : Nat) (s : State) : State :=
  let gone := s.flt.queue.filter (fun r => inReset cls d r.ev)
  let s1 := forEach gone (fun r s => fincSat (raise s Ev.SUBSUMED [evType r.ev]) R.FLT_QCNT F.FLT_QCNT_SUBSUMED) s
  { s1 with flt := { s1.flt with queue := s1.flt.queue.filter (fun r => !inReset cls d r.ev) } }

/-- A reset of class 5 or 6 is counted (R449, R468): the third within 10 min places the module at L0. -/
def resetCount (s : State) : State :=
  let l := s.flt.resets.filter (fun t => decide (s.tb < t + 600 * secTicks)) ++ [s.tb]
  let s1 := { s with
    flt := { s.flt with resets := l }
    pwr := { s.pwr with trialBad := true } }
  if 3 ≤ l.length then levelLost (fsetb s1 R.FLT_STATUS F.FLT_STATUS_RESET_LOOP true) else s1

/-- A reset is under way, by the code of DOMAIN_BACK: 2 to 11 a domain, 12 CORE, 13 MODULE. -/
def downAdd (k : Nat) (s : State) : State :=
  { s with flt := { s.flt with down := s.flt.down.filter (fun x => x.1 != k) ++ [(k, s.tb)] } }

/-- Every domain off, to be brought up again with a cause (R451, R476). Log 23: DEDUCED. -/
def moduleReset (cause : Nat) (s : State) : State :=
  let s1 := moduleOff { s with pwr := { s.pwr with cause := cause } }
  downAdd 13 { s1 with flt := { s1.flt with down := [] } }

/-- CORE reset (R451). Log 23: DEDUCED. -/
def coreReset (s : State) : State := downAdd 12 (coreOff (subsume 5 1 (resetCount s)))

/-- Class-4 reset of a domain (R451). Log 23: DEDUCED. -/
def domainReset (d : Nat) (s : State) : State :=
  if domPow s d = false then s else downAdd d (domainOff d (subsume 4 d s))

/-- A driving module of a pair whose partner is ready gives up first (R453): the reset waits until the partner has taken over. Log 24: DEDUCED. -/
def yieldFirst (s : State) : Bool := pairState s == 1 && s.team.partnerSh && fbit s R.TLK_PAIR_STAT F.TLK_PAIR_STAT_PARTNER_HB

/-- The action of a class (R446). Log 23: DEDUCED. -/
def fltAction (r : Report) (s : State) : State :=
  match r.cls with
  | 3 => levelLost s
  | 4 => match evDom r.ev with
    | some d => domainReset d s
    | none => coreReset s
  | 5 => coreReset s
  | 6 => moduleReset 8 (subsume 6 0 (resetCount s))
  | _ => s

/-- A fault of the survivor found between the loss of its partner and T (R355): the last heartbeat stands for the loss. Log 23: DEDUCED. -/
def inTakeover (s : State) (r : Report) : Bool :=
  pairState s == 4 && decide (1 ≤ r.cls) && decide (s.team.hbAt.getD 0 ≤ r.tb)

/-- Handle a report (R446, R450, R453, R355): class 0 is recorded only. Log 23: DEDUCED. -/
def handle (r : Report) (s : State) : State :=
  if r.onset = false then faultOff r s
  else if r.cls = 0 then s
  else if inTakeover s r then fltAction r (takeoverFault (setRecent r r.cls (faultOn r s)))
  else fltAction r (setRecent r r.cls (faultOn r s))

/-- The report to handle next (R447): the highest class, the oldest of it. Log 23: DEDUCED. -/
def nextReport (q : List Report) : Option Nat :=
  let top := q.foldl (fun m r => max m r.cls) 0
  q.findIdx? (fun r => r.cls == top)

/-- SPN and FMI of a fault (R450). -/
def spnOf (e : Ev) : Nat := 520192 + 128 * evBlock e + evCode e
/-- See `spnOf`. -/
def fmiOf (cls : Nat) : Nat := if 3 ≤ cls then 12 else 31

/-- The lamp of a class: 0 none, 1 amber, 2 red (R446); of a fault of the island red. Log 48: PRESUMED. -/
def lampOf (e : Ev) (cls : Nat) : Nat := if 3 ≤ cls ∨ e = Ev.ISLAND_FAULT then 2 else if cls = 0 then 0 else 1

/-- What DM1 holds of the active faults (R450): the lamp, then SPN, FMI and occurrence of each. Log 48: PRESUMED. -/
def dm1 (l : List Active) : List Int :=
  (((l.map (fun a => lampOf a.ev a.cls)).foldl max 0 : Nat) : Int)
    :: l.flatMap (fun a => [(spnOf a.ev : Int), (fmiOf a.cls : Int), (a.occ : Int)])

/-- DM1 goes out on each controller that holds its address as the active faults change (R325, R450). Log 48: PRESUMED. -/
def dm1Tell (was : List Active) (s : State) : State :=
  if s.flt.active = was then s
  else forN 4 (fun c s => if isoOn s c ∧ (canOf s c).claim = 2 then send s MsgKind.DM1 c (dm1 s.flt.active) else s) s

/-- FAULT_REPORT (R447): the reports that have arrived enter the queue, and the fault manager handles the next. Log 24: DEDUCED. -/
def execFaultReport (s : State) : Out :=
  .next (if domOn s 1 = false ∨ s.pwm.halted then s
    else
      let s1 := admitAll s
      dm1Tell s.flt.active (fltShow (match nextReport s1.flt.queue with
        | none => s1
        | some i => match s1.flt.queue[i]? with
          | none => s1
          | some r =>
            if 4 ≤ r.cls ∧ r.onset ∧ yieldFirst s1 then { s1 with team := { s1.team with healthy := false } }
            else handle r { s1 with flt := { s1.flt with queue := s1.flt.queue.eraseIdx i } })))

/-- FM_HEARTBEAT_LOSS (R449, R453): the supervisor orders a class-5 reset; in a driving module the partner takes over first. Log 24: DEDUCED. -/
def execFmHeartbeatLoss (s : State) : Out :=
  .next (if domOn s 1 = false ∨ s.pwm.halted then s
    else if yieldFirst s ∧ s.team.healthy then { s with team := { s.team with healthy := false } }
    else if yieldFirst s then s
    else coreReset (faultCls s Ev.FM_LOST [] 5))

/-! ### Return and loss -/

/-- "Back in" of a domain (R451), in TB ticks. -/
def backTime : Nat → Nat
  | 2 => msTicks 300
  | 3 | 4 | 5 => msTicks 200
  | 6 => msTicks 50
  | 7 => msTicks 20
  | 10 => msTicks 5
  | 11 => msTicks 2
  | _ => 0

/-- A reset has ended: escalation counts 10 s from here (R448), and HEALTHY returns. -/
def downEnd (k : Nat) (s : State) : State :=
  { s with
    flt := { s.flt with
      down := s.flt.down.filter (fun x => x.1 != k)
      recent := s.flt.recent.map (fun x => if s.tb < x.2.2.2 then (x.1, x.2.1, x.2.2.1, s.tb + 10 * secTicks) else x) }
    team := { s.team with healthy := true } }

/-- Supply and state permit domains to be on (R460, R471). -/
def mayRun (s : State) : Bool := s.pwr.powered && !s.pwr.asleep && !s.pwr.ovOff && !s.pwr.brown && !s.pwr.startDue && s.pwr.refOk

/-- The kinds of units that a domain's return tests (R7, R415, R417). Log 23: DEDUCED. -/
def domKind (d k : Nat) : Bool :=
  match d with
  | 2 => k == 2
  | 3 | 4 | 5 => k == 7 || k == 8
  | 8 => k == 10
  | 10 => k == 11 || k == 12 || k == 13
  | _ => false

/-- DOMAIN_BACK (R451): a domain, the core (12) or the module (13) is back, with what its tests find. Log 23: DEDUCED. -/
def execDomainBack (k : Fin 14) (f : FarRun) (s : State) : Out :=
  .next (
    let d := k.val
    if mayRun s = false then s
    else if d = 12 then
      (if domPow s 1 ∨ s.flt.down.all (fun x => x.1 != 12) then s else fltShow (coreOn f (downEnd 12 s)))
    else if d = 13 then
      (if s.flt.down.all (fun x => x.1 != 13) then s
       else
        let s1 := bringUp s.pwr.cause false f (fset (downEnd 13 s) R.PWR_CAUSE F.PWR_CAUSE_CAUSE s.pwr.cause)
        fltShow (gapsClose s1))
    else if d < 2 ∨ domPow s d ∨ s.img.active.isNone ∨ s.flt.down.any (fun x => x.1 == 12 || x.1 == 13) then s
    else
      let s1 := domainOn d (downEnd d (farTests (domKind d) f (faultPast s Ev.DOMAIN_LOST [d])))
      if domPow s 1 then fltShow s1 else s1)

/-- DOMAIN_LOST (R454): a domain is not back within its time, or a domain of the working set is lost. -/
def execDomainLost (k : Fin 12) (s : State) : Out :=
  .next (
    let d := k.val
    let lost (s : State) : State := levelLost (faultCls s Ev.DOMAIN_LOST [d] (if d = 8 ∨ d = 9 then 3 else evClass Ev.DOMAIN_LOST))
    match s.flt.down.find? (fun x => x.1 == d) with
    | some x =>
      if x.2 + backTime d < s.tb then lost { s with flt := { s.flt with down := s.flt.down.filter (fun y => y.1 != d) } } else s
    | none => if d = 0 ∨ domPow s d = false then s else lost (domainOff d s))

/-- LEVEL_RISE (R7): at a boundary. -/
def execLevelRise (s : State) : Out := .next (if s.tb % cycleTicks = 0 then levelUp s else s)

/-! ### Memory errors -/

/-- Corrections counted at an address of a memory. -/
def corrAt (s : State) (m a : Nat) : Nat := ((s.far.corr.find? (fun x => x.1 == m && x.2.1 == a)).map (·.2.2)).getD 0

/-- A single-bit error is corrected and counted (R35, R36): a record at the first correction at an address and once per 1,000 of the memory. Log 25: DEDUCED. -/
def corrected (m a : Nat) (s : State) : State :=
  let n := corrAt s m a + 1
  let others := s.far.corr.filter (fun x => !(x.1 == m && x.2.1 == a))
  let s1 := { s with far := { s.far with corr := others ++ [(m, a, n)] } }
  let total : Nat := (s1.far.corr.filter (fun x => x.1 == m)).foldl (fun t x => t + x.2.2) 0
  let s2 := if m = 48 then fincWrap s1 R.FLT_SEC_DRAM F.FLT_SEC_DRAM_COUNT else fincWrap s1 R.FLT_SEC_SRAM F.FLT_SEC_SRAM_COUNT
  if n = 1 ∨ total % 1000 = 0 then faultCls s2 Ev.MEM_CORRECTED [m, a] 0 else s2

/-- A parity error (R35). Log 25: DEDUCED. -/
def parityErr (where_ : Int) (s : State) : State := faultOnce (fincWrap s R.FLT_PARITY F.FLT_PARITY_COUNT) Ev.MEM_PARITY [where_]

/-- The entries of one output's queue at some places are discarded. -/
def evqDrop (n : Nat) (places : List Nat) (s : State) : State :=
  let q := (outSt s n).queue.zipIdx.filter (fun x => !places.contains x.2)
  nextReg n (setOut s n { outSt s n with queue := q.map (·.1) })

/-- What a check of R35 finds. Log 14: DESIGN CHOICE. Log 25: DEDUCED. -/
def memErr (e : MemErr) (s : State) : State :=
  match e with
  | .sram m row a false =>
    let s1 := corrected m.val a s
    if 1 < corrAt s1 m.val a then sramRowBad m.val row.val s1 else s1
  | .sram m row a true => sramRowBad m.val row.val (faultOnce (fincSat s R.FLT_DED F.FLT_DED_SRAM) Ev.MEM_DOUBLE [m.val, a])
  | .dram a page bank row false =>
    let s1 := corrected 48 a s
    if 1 < corrAt s1 48 a then dramRowBad bank row page s1 else s1
  | .dram a _ _ _ true => faultOnce (fincSat s R.FLT_DED F.FLT_DED_DRAM) Ev.MEM_DOUBLE [48, a]
  | .corr b bad =>
    let s1 := parityErr 0 s
    if bad then forN 8 (fun k s =>
        toIdle (8 * b.val + k) true s) (unitRetire 8 (bankUnit s1 b.val) s1) else s1
  | .evq l =>
    let outs := (l.map (fun x => x.1.val)).eraseDups
    let s1 := forEach outs (fun n s => evqDrop n ((l.filter (fun x => x.1.val == n)).map (·.2)) s) (fincWrap s R.FLT_PARITY F.FLT_PARITY_COUNT)
    if 8 < outs.length then faultCls s1 Ev.EVQ_PARITY [outs.length] 5 else faultOnce s1 Ev.EVQ_PARITY [outs.length]
  | .canq c i => parityErr 1 (setCan c.val { canOf s c.val with queue := (canOf s c.val).queue.eraseIdx i } s)
  | .net => parityErr 2 s
  | .tag => faultOnce s Ev.DATA_REFUSED []
  | .record q =>
    faultOnce (fsetb { s with stb := { s.stb with corrupt := s.stb.corrupt.filter (· != q) ++ [q] } } R.STB_STATUS F.STB_STATUS_CORRUPT true)
      Ev.RECORD_CORRUPT [q]
  | .tile t => badTile t s

/-- The domain of the memory an error lies in is on. -/
def memHere (s : State) : MemErr → Bool
  | .sram _ _ _ _ => domOn s 1
  | .dram _ _ _ _ _ => domOn s 8
  | .corr _ _ => domOn s 4
  | .evq _ => domOn s 1
  | .canq _ _ => domOn s 7
  | .net => domOn s 1
  | .tag => domOn s 1
  | .record _ => domOn s 9
  | .tile _ => domOn s 9

/-- MEMORY_ERROR_DETECTED (R35, R36). Log 14: DESIGN CHOICE. -/
def execMemoryErrorDetected (e : MemErr) (s : State) : Out := .next (if memHere s e then memErr e s else s)

/-- An error of DRAM. -/
def memInDram : MemErr → Bool
  | .dram _ _ _ _ _ => true
  | _ => false

/-- DRAM_SCRUB (R35): every 24 h of operating time, with the errors it finds. Log 25: DEDUCED. -/
def execDramScrub (found : List MemErr) (s : State) : Out :=
  .next (if domOn s 8 = false ∨ s.stb.optTicks < s.far.scrubAt + 86400 * secTicks then s
    else forEach (found.filter memInDram) memErr { s with far := { s.far with scrubAt := s.stb.optTicks } })

/-! ### Dual-rail errors -/

/-- The ISOBUS role of a position whose controller is OFF passes on (R342, R456). -/
def isobusDrop (c : Nat) (s : State) : State :=
  if isobusCtrl s (posOf s) = some c ∧ roleAt s 2 = some (posOf s) ∧ drives s then
    let s1 := { s with team := { s.team with roles := s.team.roles.filter (fun r => r.1 != 2) } }
    rolesSync (if isLeader s1 then rolesMove s1 else s1)
  else s

/-- The spare loop lane takes the remaining steps of the cycle (R280). -/
def spareSteps (i : Nat) (s : State) : State :=
  match sparesOf s 1 with
  | u :: _ => { s with ctl := { s.ctl with lanes := s.ctl.lanes.map (fun l => if l = i then u else l) } }
  | [] => s

/-- DUAL_RAIL_ERROR (R35, R36, R175, R449, R456): the unit is halted, a fault is raised, and the farrier isolates it. Units as SYS_GAIT_PACE
numbers them (R21). -/
def execDualRailError (unit : Fin 31) (s : State) : Out :=
  .next (
    let u := unit.val
    if domOn s 1 = false then s
    else if u ≤ 8 then
      (if isRetired s 0 u then s else unitRetire 0 u (faultCls s Ev.LANE_RETIRED [0, u] 1))
    else if u ≤ 13 then
      (if isRetired s 1 (u - 9) then s else unitRetire 1 (u - 9) (spareSteps (u - 9) (faultCls s Ev.LANE_RETIRED [1, ((u - 9 : Nat) : Int)] 1)))
    else if 16 ≤ u ∧ u ≤ 23 then
      (if domOn s 2 = false ∨ isRetired s 2 (u - 16) then s
       else
        let more := decide (fget s (R.FAR_CAP 2) F.FAR_CAP_IN_SERVICE < 8)
        unitRetire 2 (u - 16) (faultCls s Ev.NAV_CORE_FAIL [((u - 16 : Nat) : Int)] (if more then 4 else 1)))
    else if 24 ≤ u ∧ u ≤ 27 then
      (let c := u - 24
       if s.far.seqOff.contains c then s
       else
        let s1 := faultCls { s with far := { s.far with seqOff := s.far.seqOff ++ [c] } } Ev.SEQUENCER_FAIL [(c : Int)] 2
        isobusDrop c (if domOn s1 7 then canModeSet c 3 s1 else s1))
    else if u = 28 ∨ u = 29 then
      (if isRetired s 5 (u - 28) then s else unitRetire 5 (u - 28) (faultCls s Ev.CIPHER_FAIL [((u - 28 : Nat) : Int)] 1))
    else if yieldFirst s then faultCls { s with team := { s.team with healthy := false } } Ev.CORE_DUAL_RAIL [(u : Int)] 5
    else coreReset (faultCls s Ev.CORE_DUAL_RAIL [(u : Int)] 5))

/-! ### eMMC wear -/

/-- The class of an eMMC's state (R459): 0 none, 1 at 90 % or "warning", 2 at "urgent". Log 25: DEDUCED. -/
def wearClass (a b eol : Nat) : Nat := if eol = 3 then 2 else if 10 ≤ a ∨ 10 ≤ b ∨ eol = 2 then 1 else 0

/-- The device life is to be read: at a power-up and every 24 h of operating time (R459). -/
def lifeDue (s : State) : Bool := match s.flt.lifeAt with | some t => decide (t + 86400 * secTicks ≤ s.stb.optTicks) | none => true

/-- EMMC_LIFE_CHECK (R459). -/
def execEmmcLifeCheck (a b : Fin 16) (eol : Fin 4) (s0 : State) : Out :=
  .next (if domOn s0 1 = false ∨ domOn s0 9 = false ∨ lifeDue s0 = false then s0
    else
      let s := { s0 with flt := { s0.flt with lifeAt := some s0.stb.optTicks } }
      let w := R.FLT_EMMC
      let old := wearClass (fget s w F.FLT_EMMC_LIFE_A) (fget s w F.FLT_EMMC_LIFE_B) (fget s w F.FLT_EMMC_PRE_EOL)
      let new := wearClass a.val b.val eol.val
      let s1 := fset (fset (fset s w F.FLT_EMMC_LIFE_A a.val) w F.FLT_EMMC_LIFE_B b.val) w F.FLT_EMMC_PRE_EOL eol.val
      let s2 := { s1 with stb := { s1.stb with wearStop := s1.stb.wearStop || eol.val == 3 } }
      if old < new then faultCls (fsetb s2 w F.FLT_EMMC_EMMC_WEAR true) Ev.EMMC_WEAR [a.val, b.val, eol.val] new else s2)

end Sys2Proof.Machine
end

