-- ==== Sys2Proof/Machine/Power.lean ====
section
/-!
DEFINITION. Machine/Power.lean: supply, firmware slots, key-off, sleep and wake (R460 to R476).
-/

namespace Sys2Proof.Machine

/-! ### Supply -/

/-- POWER_UP (R463): a start that is due runs, once VLOG has been at or above 9 V or a wake has been accepted. Above 36 V PD0 alone runs (R460);
beyond 58 V spec/ states no behaviour (R494). Log 15: DESIGN CHOICE. Log 16: DESIGN CHOICE. Log 63: DESIGN CHOICE. -/
def execPowerUp (b : Boot) (s : State) : Out :=
  let v := b.vlog.toNat
  if s.pwr.powered ∧ s.pwr.startDue = false then .next s
  else if 580 < v then .fault .beyondRatings
  else if s.pwr.powered ∧ (s.pwr.ovOff ∨ s.pwr.brown) then .next s
  else if v < 90 ∧ (s.pwr.powered = false ∨ s.pwr.asleep = false) then .next s
  else if 360 < v then
    .next (
      let s0 := if s.pwr.powered then s else fresh false s
      fault (domSet { s0 with pwr := { s0.pwr with powered := true, ovOff := true, startDue := true } } 0 true) Ev.VLOG_OV [(v : Int)])
  else .next (start b (domSet s 0 true))

/-- VLOG as PWR_STATUS shows it (R476). Log 19: DEDUCED. -/
def vlogShow (v : Nat) (s : State) : State := fset s R.PWR_STATUS F.PWR_STATUS_VLOG v

/-- The 100 ms that VLOG must be back in range can have passed (R460, R502). -/
def supplyHeld (s : State) : Bool := aoElapsed s s.pwr.supplyAt (msTicks 100)

/-- VLOG_LOW (R460): below 9 V, ended at 9.3 V. -/
def execVlogLow (vlog : BitVec 10) (s : State) : Out :=
  .next (if s.pwr.powered = false then s
    else
      let v := vlog.toNat
      let s1 := vlogShow v s
      let was := fbit s R.PWR_STATUS F.PWR_STATUS_VLOG_LOW
      if was = false ∧ v < 90 then fault (fsetb s1 R.PWR_STATUS F.PWR_STATUS_VLOG_LOW true) Ev.VLOG_LOW [(v : Int)]
      else if was ∧ 93 ≤ v then faultEnd (fsetb s1 R.PWR_STATUS F.PWR_STATUS_VLOG_LOW false) Ev.VLOG_LOW [(v : Int)]
      else s1)

/-- VLOG_HIGH (R460): above 32 V, ended at 31.7 V. -/
def execVlogHigh (vlog : BitVec 10) (s : State) : Out :=
  .next (if s.pwr.powered = false then s
    else
      let v := vlog.toNat
      let s1 := vlogShow v s
      let was := fbit s R.PWR_STATUS F.PWR_STATUS_VLOG_HIGH
      if was = false ∧ 320 < v then fault (fsetb s1 R.PWR_STATUS F.PWR_STATUS_VLOG_HIGH true) Ev.VLOG_HIGH [(v : Int)]
      else if was ∧ v ≤ 317 then faultEnd (fsetb s1 R.PWR_STATUS F.PWR_STATUS_VLOG_HIGH false) Ev.VLOG_HIGH [(v : Int)]
      else s1)

/-- VLOG_OVERVOLTAGE (R460): the module gives up service as class 6; in a driving module HEALTHY clears first (R453). Log 15: DESIGN CHOICE. Log 19: DEDUCED. -/
def execVlogOvervoltage (vlog : BitVec 10) (s : State) : Out :=
  let v := vlog.toNat
  if 580 < v then .fault .beyondRatings
  else .next (if s.pwr.powered = false ∨ s.pwr.ovOff ∨ v ≤ 360 then s
    else
      let s1 := fault (vlogShow v s) Ev.VLOG_OV [(v : Int)]
      let s2 := { s1 with pwr := { s1.pwr with ovOff := true, supplyAt := s.tb } }
      if s.pwr.asleep ∨ s.pwr.startDue then s2
      else levelLost (staged (fun s => moduleReset 8 (subsume 6 0 (resetCount s))) s2))

/-- VLOG_OV_RECOVER (R460): below 34 V for 100 ms. Log 19: DEDUCED. -/
def execVlogOvRecover (vlog : BitVec 10) (s : State) : Out :=
  .next (if s.pwr.ovOff ∧ vlog.toNat < 340 ∧ supplyHeld s then
      faultEnd { vlogShow vlog.toNat s with pwr := { s.pwr with ovOff := false } } Ev.VLOG_OV []
    else s)

/-- The flush of R461: OPT, TT_HWM and the records of severity 2 and 3 that wait. Log 19: DEDUCED. -/
def flush (s : State) : State :=
  let s1 := optSave (if fbit s R.BRD_STATUS F.BRD_STATUS_TT_HWM_VALID then hwmStore s else s)
  let b := s1.stb
  let sev (r : Rec) : Bool := decide (2 ≤ r.sev)
  let rest := { b with raiseQ := b.raiseQ.filter (!sev ·), holdQ := b.holdQ.filter (!sev ·), retBuf := b.retBuf.filter (!sev ·) }
  { s1 with stb := stbLogAll rest ((b.raiseQ ++ b.holdQ ++ b.retBuf).filter sev) }

/-- The hold-up store can flush (R461). Log 19: DEDUCED. -/
def mayFlush (s : State) : Bool := domOn s 1 && domOn s 8 && domOn s 9

/-- BROWNOUT (R460, R461): below 7.5 V for 2 ms. Log 19: DEDUCED. -/
def execBrownout (vlog : BitVec 10) (flushed : Bool) (s : State) : Out :=
  .next (if s.pwr.powered = false ∨ s.pwr.brown ∨ 75 ≤ vlog.toNat then s
    else
      let s1 := fault (fincSat (vlogShow vlog.toNat s) R.PWR_CAUSE F.PWR_CAUSE_BROWNOUTS) Ev.BROWNOUT [(vlog.toNat : Int)]
      let ok := flushed && mayFlush s
      let s2 := if ok then flush s1 else s1
      let s3 := { s2 with pwr := { s2.pwr with
        brown := true, supplyAt := s.tb, cause := 10, startDue := false, unclean := if s.pwr.asleep then s.pwr.unclean else !ok } }
      levelLost (staged moduleOff s3))

/-- BROWNOUT_RESTART (R460): at or above 9 V for 100 ms. -/
def execBrownoutRestart (vlog : BitVec 10) (s : State) : Out :=
  .next (if s.pwr.brown ∧ 90 ≤ vlog.toNat ∧ supplyHeld s then
      { vlogShow vlog.toNat s with pwr := { s.pwr with brown := false, asleep := false, startDue := true } }
    else s)

/-- VLOG_LOSS (R24, R460): PD0 goes off. What NOR, eMMC and OTP hold stays; without a flush or the stores of key-off the power-down was not
clean. -/
def execVlogLoss (s : State) : Out :=
  .next (if s.pwr.powered = false then s
    else
      let unclean := if s.pwr.asleep ∨ s.pwr.brown then s.pwr.unclean else true
      let s1 := fresh false { s with pwr := { s.pwr with unclean := unclean } }
      domSet { s1 with pwr := { s1.pwr with powered := false, startDue := true, cause := 1 } } 0 false)

/-! ### Firmware slots -/

/-- ACTIVATE_FW (R468): the slot not running is preferred, on trial, from the next start. -/
def execActivateFw (who : Fin 36) (s : State) : Out :=
  .next (rapDo s who.val .image 0 R.PWR_FW_CTRL fun s => match s.pwr.running with
    | some r => bootWrite (1 - r) true s
    | none => s)

/-- FW_CANCEL (R476): a pending trial is withdrawn before the next start. Log 20: DEDUCED. -/
def execFwCancel (who : Fin 36) (s : State) : Out :=
  .next (rapDo s who.val .image 0 R.PWR_FW_CTRL fun s => match s.pwr.running with
    | some r => if (bootRec s).trial ∧ s.pwr.trialRun = false then bootWrite r false s else s
    | none => s)

/-- FW_TRIAL_CONFIRM (R468): 60 s at L1 without a fault of class 5 or 6. -/
def execFwTrialConfirm (s : State) : Out :=
  .next (match s.pwr.trialAt, s.pwr.running with
    | some t, some r =>
      if s.pwr.trialRun = false ∨ s.pwr.trialBad ∨ level s = 0 ∨ s.tb < t + 60 * secTicks then s
      else
        let n := max s.pwr.otpFwSvn (slotOf s r).svn
        let s1 := bootWrite r false { s with pwr := { s.pwr with trialRun := false, otpFwSvn := n } }
        raise (fset s1 R.PWR_FW F.PWR_FW_OTP_FW_SVN n) Ev.FW_CONFIRMED [r]
    | _, _ => s)

/-- FW_TRIAL_FAIL (R468): L1 missed within 2.5 s, or a fault of class 5 or 6: the module restarts from the other slot. Log 20: DEDUCED. -/
def execFwTrialFail (s : State) : Out :=
  .next (match s.pwr.running with
    | none => s
    | some r =>
      let late := s.pwr.trialAt.isNone && decide (msTicks 2500 ≤ s.tb)
      if s.pwr.trialRun = false ∨ s.pwr.powered = false ∨ s.pwr.asleep ∨ s.pwr.startDue ∨ (s.pwr.trialBad = false ∧ late = false) then s
      else
        let s1 := bootWrite (1 - r) false { s with pwr := { s.pwr with trialRun := false } }
        levelLost (staged (moduleReset 11) (fault s1 Ev.FW_TRIAL_FAIL [r])))

/-! ### Wake -/

/-- A wake is accepted (R472): a start is due; of two wakes in one AO tick the lower code stands (R475). Log 21: DEDUCED. -/
def wake (cause : Nat) (f : State → State) (s : State) : State :=
  if s.pwr.powered = false ∨ s.pwr.asleep = false ∨ s.pwr.ovOff ∨ s.pwr.brown ∨ (s.pwr.startDue ∧ s.pwr.cause ≤ cause) then s
  else
    let s1 := fset (fset { s with pwr := { s.pwr with startDue := true, cause := cause } } R.PWR_CAUSE F.PWR_CAUSE_CAN 0) R.PWR_CAUSE
      F.PWR_CAUSE_LINK 0
    f s1

/-- Does a frame match what FRAME waits for (R323, R330)? Log 21: DEDUCED. -/
def wakeFrame (s : State) (c : Nat) (f : CanFr) (rate : Nat) : Bool :=
  let mask := fget s (R.CAN_WAKE_MASK c) F.CAN_WAKE_MASK_WAKE_MASK
  let cfg := R.CAN_WAKE_CFG c
  let data := (rget s (R.CAN_WAKE_DATA_LO c)).toNat + (rget s (R.CAN_WAKE_DATA_HI c)).toNat * 2 ^ 32
  !f.fdf && rate == fget s cfg F.CAN_WAKE_CFG_WAKE_RATE
    && (f.id &&& mask) == (fget s (R.CAN_WAKE_ID c) F.CAN_WAKE_ID_WAKE_ID &&& mask) && f.ide == fbit s (R.CAN_WAKE_ID c) F.CAN_WAKE_ID_IDE
    && f.dlc == fget s cfg F.CAN_WAKE_CFG_WAKE_DLC
    && (!fbit s cfg F.CAN_WAKE_CFG_DATA_CHK ||
      (f.data.take 8).zipIdx.any (fun d => (d.1 &&& (data / 256 ^ d.2 % 256)) != 0))

/-- What a port sees wakes it (R323): cause 1 pattern, 2 frame, 3 WAKE_ERRCNT; 0 does not. Log 21: DEDUCED. -/
def wakeSeen (s : State) (c : Nat) (w : CanWake) : Nat :=
  match fget s (R.CAN_CTRL c) F.CAN_CTRL_WAKE_MODE, w with
  | 1, .pattern => 1
  | 2, .frame f r => if wakeFrame s c f r.val then 2 else 0
  | 2, .errors => 3
  | _, _ => 0

/-- WAKE_CAN (R323, R472): with the module asleep the wake starts it; of a transceiver asleep in a module that is awake it sets WOKE. -/
def execWakeCan (ctrl : Fin 4) (w : CanWake) (s : State) : Out :=
  .next (
    let c := ctrl.val
    let k := wakeSeen s c w
    if k = 0 then s
    else if s.pwr.asleep then
      (if s.pwr.startDue ∧ s.pwr.cause ≤ 3 then s
       else wake 3 (fun s => raise (fset s R.PWR_CAUSE F.PWR_CAUSE_CAN c) Ev.CAN_WAKE [(c : Int), k]) s)
    else if domOn s 7 ∧ canMode s c = 2 then raise (fsetb s (R.CAN_STATUS c) F.CAN_STATUS_WOKE true) Ev.CAN_WAKE [(c : Int), k]
    else s)

/-- WAKE_LINK (R472): a wake burst with LINK_WAKE set. -/
def execWakeLink (n : Fin 5) (s : State) : Out :=
  .next (if fbit s R.PWR_CFG F.PWR_CFG_LINK_WAKE then wake 4 (fun s => fset s R.PWR_CAUSE F.PWR_CAUSE_LINK n.val) s else s)

/-- WAKE_HALTER (R472): HALTER_EN accepted active with HALTER_WAKE set. -/
def execWakeHalter (s : State) : Out :=
  .next (if s.pwr.powered = false ∨ s.pwr.asleep = false then s
    else
      let s1 := fsetb s R.LSW_HALTER_STAT F.LSW_HALTER_STAT_EN true
      if fbit s R.PWR_CFG F.PWR_CFG_HALTER_WAKE then wake 5 id s1 else s1)

/-- WAKE_TIMER (R472): WAKE_TMR minutes of sleep have passed. -/
def execWakeTimer (s : State) : Out := .next (if fget s R.PWR_CFG F.PWR_CFG_WAKE_TMR = 0 then s else wake 6 id s)

/-! ### Key-off -/

/-- ATTN_N_ACTIVE (R472, R475): it wakes a sleeping module and abandons a key-off that has not switched off. -/
def execAttnNActive (s : State) : Out :=
  .next (if s.pwr.powered = false then s
    else
      let s1 := fsetb { s with pwr := { s.pwr with attn := true } } R.PWR_STATUS F.PWR_STATUS_ATTN true
      if s.pwr.asleep then wake 2 id s1
      else
        let s2 := { s1 with pwr := { s1.pwr with keyCond := false, keyoffK := none, keyRun := false, woken := false } }
        fsetb (fsetb s2 R.PWR_STATUS F.PWR_STATUS_KEYOFF false) R.PWR_STATUS F.PWR_STATUS_STAY false)

/-- ATTN_N_INACTIVE (R469). -/
def execAttnNInactive (s : State) : Out :=
  .next (if s.pwr.powered = false then s
    else fsetb { s with pwr := { s.pwr with attn := false, attnOff := s.tb } } R.PWR_STATUS F.PWR_STATUS_ATTN false)

/-- The key-off condition holds (R469): the leader names K at least 10 cycles ahead, a member reports, and a module outside any team starts at
its own next boundary. -/
def keyoffAsk (s : State) : State :=
  if s.pwr.keyoffK.isSome ∨ s.pwr.asleep ∨ domOn s 1 = false then s
  else
    let s1 := { s with pwr := { s.pwr with keyCond := true } }
    if isLeader s then
      let K := boundaryFrom (s.tb + 10 * cycleTicks)
      toTeam { s1 with pwr := { s1.pwr with keyoffK := some K } } MsgKind.KEYOFF [K]
    else if teamState s = 1 then toLeader s1 MsgKind.KEYOFF_REPORT [midOf s]
    else { s1 with pwr := { s1.pwr with keyoffK := some (nextBoundary s.tb) } }

/-- KEYOFF_CONDITION (R469): ATTN_N has stayed inactive for KEYOFF_DEB. A module woken with ATTN_N inactive waits for R473. -/
def execKeyoffCondition (s : State) : Out :=
  .next (if s.pwr.powered = false ∨ s.pwr.attn ∨ s.pwr.woken ∨ s.pwr.keyCond ∨
      aoElapsed s s.pwr.attnOff (msTicks (fget s R.PWR_CFG F.PWR_CFG_KEYOFF_DEB)) = false then s else keyoffAsk s)

/-- SLEEP (R469). -/
def execSleep (who : Fin 36) (s : State) : Out := .next (rapDo s who.val .sleep 0 R.PWR_CMD keyoffAsk)

/-- STAY (R473). -/
def execStay (who : Fin 36) (s : State) : Out :=
  .next (rapDo s who.val .other 0 R.PWR_CMD fun s => { s with pwr := { s.pwr with stayFrom := s.tb } })

/-- KEYOFF_REPORT (R469): nothing follows from a member's condition. -/
def execKeyoffReport (_m : Fin 64) (s : State) : Out := .next s

/-- STAY_AWAKE_EXPIRY (R473). -/
def execStayAwakeExpiry (s : State) : Out :=
  .next (if s.pwr.woken = false ∨ s.pwr.attn ∨ s.brd.sess ≠ [] ∨
      aoElapsed s s.pwr.stayFrom (60 * secTicks * fget s R.PWR_CFG F.PWR_CFG_STAY_AWAKE) = false then s else keyoffAsk s)

/-- Step 1 of key-off (R470): a job in RUN is suspended, forces and an injection end. Log 21: DEDUCED. -/
def keyoffBegin (s : State) : State :=
  let s1 := fsetb { s with pwr := { s.pwr with keyRun := true, keyoffK := some (s.pwr.keyoffK.getD s.tb) } } R.PWR_STATUS F.PWR_STATUS_KEYOFF true
  let s2 := if jobState s1 = 3 then setJobState 4 s1 else s1
  injEnd 12 (staged (forceRelease 6) s2)

/-- TB stops, and nothing of the key-off or of a start is left over. -/
def asleepSet (s : State) : State :=
  { s with pwr := { s.pwr with
    asleep := true, tbRun := false, startDue := false, keyCond := false, keyoffK := none, keyRun := false, woken := false } }

/-- The module sleeps (R471): PD0 alone runs, the island is stopped, TB and OPT stop. Log 21: DEDUCED. -/
def sleepEnter (s : State) : State :=
  let s1 := staged (fun s => forN 4 soOpen (moduleOff s)) s
  let s2 := fsetb (fsetb s1 R.PWR_STATUS F.PWR_STATUS_KEYOFF false) R.PWR_STATUS F.PWR_STATUS_STAY false
  asleepSet (fsetb s2 R.SAF_STATUS F.SAF_STATUS_ISLAND_OK false)

/-- Step 4 of key-off (R470, R305): SLEEP where a wake is armed, otherwise OFF. Log 21: DEDUCED. -/
def canSleep (s : State) : State :=
  forN 4 (fun c s => canModeSet c (if fget s (R.CAN_CTRL c) F.CAN_CTRL_WAKE_MODE = 0 then 3 else 2) s) s

/-- Steps 2 to 5 of key-off (R470). Log 21: DEDUCED. -/
def keyoffEnd (full : Bool) (s : State) : State :=
  let s1 := staged (fun s => engineStop (forN 64 (fun n s => setLState n 0 s) s)) s
  let s2 := if s1.cov.job.isSome then jobStore full s1 else s1
  let s3 := if jobState s2 = 5 then { s2 with cov := { s2.cov with storedSusp := true } } else s2
  let s4 := optSave (if fbit s3 R.BRD_STATUS F.BRD_STATUS_TT_HWM_VALID then hwmStore s3 else s3)
  let s5 := freezeStop s4
  let b := stbLogAll { s5.stb with retBuf := [] } s5.stb.retBuf
  let b1 := stbLogAll { b with raiseQ := [] } b.raiseQ
  let s6 := { s5 with stb := { b1 with norSigned := ((b1.nor.getLast?).map (·.seq)).getD b1.norSigned }, pwr := { s5.pwr with unclean := false } }
  sleepEnter (canSleep s6)

/-- KEYOFF_START (R470): at K, and from then on until nothing of the job runs any more. `full`: the job's store is full (R204). Log 21: DEDUCED. -/
def execKeyoffStart (full : Bool) (s : State) : Out :=
  .next (
    let due := match s.pwr.keyoffK with
      | some K => decide (K ≤ s.tb)
      | none => teamState s == 1 && s.tb % cycleTicks == 0
    if mayRun s = false ∨ domOn s 1 = false ∨ due = false then s
    else
      let s1 := if s.pwr.keyRun then s else keyoffBegin s
      if jobState s1 = 3 ∨ jobState s1 = 4 then s1 else keyoffEnd full s1)

/-- KEYOFF_FORCE (R470): step 5 has not begun 10 s after K. -/
def execKeyoffForce (s : State) : Out :=
  .next (match s.pwr.keyoffK with
    | some K =>
      if s.pwr.keyRun = false ∨ s.pwr.asleep ∨ s.tb < K + 10 * secTicks then s
      else
        let s1 := if mayFlush s then flush s else s
        sleepEnter { s1 with pwr := { s1.pwr with unclean := true } }
    | none => s)

end Sys2Proof.Machine
end

