-- ==== Sys2Proof/Machine/Clock.lean ====
section
/-!
DEFINITION. Machine/Clock.lean: the gait monitor (R18 to R21) and the clock monitors (R23).
-/

namespace Sys2Proof.Machine

/-! ### Gait monitor -/

/-- The farrier's kind and index of a unit as SYS_GAIT_PACE numbers it (R21, R415). -/
def gaitUnit (u : Nat) : Option (Nat × Nat) :=
  if u ≤ 8 then some (0, u) else if u ≤ 13 then some (1, u - 9) else if u ≤ 15 then some (3, u - 14)
  else if u ≤ 23 then some (2, u - 16) else if u ≤ 27 then some (4, u - 24) else if u ≤ 29 then some (5, u - 28)
  else if u = 30 then some (6, 0) else none

/-- Evaluations of a Stride lane in a cycle (R18, R174): those of the image, dealt round-robin over the lanes in service. -/
def laneEvals (s : State) (lane : Nat) : Nat :=
  let ls := strLanes s
  if ls.contains lane then laneShare ls.length ((strideOuts s).length * fget s R.STR_CFG F.STR_CFG_N_HZ) (ls.idxOf lane) else 0

/-- Most steps of a loop lane in a stride cycle (R279): the steps due at a boundary are dealt over the lanes, and every pattern of dividers 1 to 10
repeats after 2,520 cycles. -/
def laneSteps (s : State) (lane : Nat) : Nat :=
  let ls := loopLanes s
  (List.range 2520).foldl (fun n c =>
    max n (((loopUnits s (c * cycleTicks)).zipIdx.filter (fun u => ls[u.2 % ls.length]? == some lane)).foldl (fun n u => n + u.1.length) 0)) 0

/-- Predicted work of a unit in 0.1 ns (R18, R19): of a Stride lane its evaluations and 10 µs, of a loop lane its steps and 8 µs (R279); of any
other unit as firmware's workload gives it. -/
def gaitWork (s : State) (g : Gait) : Nat :=
  if g.unit.val ≤ 8 then laneEvals s g.unit.val * g.pace + 100000
  else if g.unit.val ≤ 13 then laneSteps s (g.unit.val - 9) * g.pace + 80000
  else g.work

/-- The unit's deadline in 0.1 ns: of a Stride lane the stride cycle (R18), of a loop lane 150 µs (R279). -/
def gaitDeadline (g : Gait) : Nat := if g.unit.val ≤ 8 then 2000000 else if g.unit.val ≤ 13 then 1500000 else g.deadline

/-- Margin in % (R19, R21): deadline / work − 1, 0 where the work exceeds the deadline, at most 255. -/
def gaitMargin (deadline work : Nat) : Nat := if work = 0 then 255 else min 255 (deadline * 100 / work - 100)

/-- A unit is out of service (R21, R425, R456): retired, or a bus sequencer that is isolated. -/
def gaitGone (s : State) (u : Nat) : Bool :=
  (24 ≤ u && u ≤ 27 && s.far.seqOff.contains (u - 24)) || match gaitUnit u with
    | some (k, i) => isRetired s k i
    | none => false

/-- One unit at the end of a window (R19, R20). The windows of a unit that is retired or an unused spare count as good: LOW, once set, then clears with
its record after 100 of them. Log 22: DEDUCED. Log 66: DESIGN CHOICE. -/
def gaitOne (g : Gait) (s : State) : State :=
  let u := g.unit.val
  let a := R.SYS_GAIT_PACE u
  let retired := gaitGone s u
  let spare : Bool := match gaitUnit u with | some (k, i) => (sparesOf s k).contains i | none => false
  let m := if retired ∨ spare then 0 else gaitMargin (gaitDeadline g) (gaitWork s g)
  let s1 := fset (fset s a F.SYS_GAIT_PACE_PACE (if retired then 0 else min 65535 g.pace)) a F.SYS_GAIT_PACE_MARGIN m
  let s2 := fsetb (fsetb s1 a F.SYS_GAIT_PACE_RETIRED retired) a F.SYS_GAIT_PACE_SPARE spare
  let warn := fget s R.SYS_GAIT_CFG F.SYS_GAIT_CFG_WARN_PCT
  let low := fbit s a F.SYS_GAIT_PACE_LOW
  let n := if retired ∨ spare ∨ warn + 5 ≤ m then smGet zero s.pwr.gaitOk u + 1 else 0
  let s3 := { s2 with pwr := { s2.pwr with gaitOk := smSet zero u (if low then n else 0) s.pwr.gaitOk } }
  if low = false ∧ retired = false ∧ spare = false ∧ m < warn then fault (fsetb s3 a F.SYS_GAIT_PACE_LOW true) Ev.GAIT_LOW [(u : Int), m]
  else if low ∧ 100 ≤ n then
    faultEnd (fsetb { s3 with pwr := { s3.pwr with gaitOk := smSet zero u 0 s3.pwr.gaitOk } } a F.SYS_GAIT_PACE_LOW false) Ev.GAIT_LOW [(u : Int), m]
  else s3

/-- GAIT_WINDOW (R19, R20): at the end of a window of 1 ms of TB. -/
def execGaitWindow (l : List Gait) (s : State) : Out :=
  .next (if s.pwr.tbRun = false ∨ domOn s 1 = false ∨ s.tb % msTicks 1 ≠ 0 then s else forEach l gaitOne s)

/-! ### Clock monitors -/

/-- REF is lost or a PLL unlocks (R23, R33, R246): the clocked domains stop, the generator freezes, and a slice is given up (R429). Log 22: DEDUCED. -/
def refLoss (s : State) : State :=
  if s.pwr.refOk = false then s
  else
    let s1 := staged freeze { s with pwr := { s.pwr with refOk := false } }
    let s2 := fault (slicesDrop s1) Ev.CLK_REF_LOSS []
    { s2 with pwr := { s2.pwr with tbRun := false } }

/-- AO is lost or out of tolerance (R23): SO1 to SO4 open and every output is in its safe state at once. Log 22: DEDUCED. -/
def aoLoss (s : State) : State :=
  if s.pwr.aoOk = false then s
  else
    let s1 := staged (fun s => forN 4 soOpen (fsetb { s with
      pwr := { s.pwr with aoOk := false }
      pwm := { s.pwm with held := none, wd := none } } R.PWM_STATUS F.PWM_STATUS_OWNED false)) s
    fault (fsetb s1 R.PWM_STATUS F.PWM_STATUS_WD_RUN false) Ev.CLK_AO_LOSS []

/-- SAFE is out of tolerance (R23): AO opens SO1 to SO4 and the island is reset. Log 22: DEDUCED. -/
def safeLoss (s : State) : State :=
  if s.pwr.safeOk = false then s
  else fault (staged (islandReset 4) { s with pwr := { s.pwr with safeOk := false } }) Ev.CLK_SAFE_LOSS []

/-- A deviation in 0.1 % beyond ±5 % fails a measurement (R23). -/
def clkBad (d : Int) : Bool := decide (50 < d.natAbs)

/-- CLOCK_MONITOR_WINDOW (R23): SAFE measures AO and REF, AO measures SAFE; the deviations are in 0.1 %. -/
def execClockMonitorWindow (ao ref safe : Int) (s : State) : Out :=
  .next (if s.pwr.powered = false ∨ s.pwr.asleep ∨ s.pwr.startDue then s
    else
      let s1 := if clkBad ao then aoLoss s
        else if s.pwr.aoOk then s else faultEnd { s with pwr := { s.pwr with aoOk := true } } Ev.CLK_AO_LOSS []
      let s2 := if clkBad safe then safeLoss s1
        else if s1.pwr.safeOk then s1 else faultEnd { s1 with pwr := { s1.pwr with safeOk := true } } Ev.CLK_SAFE_LOSS []
      if clkBad ref then refLoss s2 else s2)

/-- CLK_REF_LOSS (R23). -/
def execClkRefLoss (s : State) : Out := .next (if s.pwr.powered = false ∨ s.pwr.asleep ∨ s.pwr.startDue then s else refLoss s)

/-- The stamps of times that AO counts no longer tell them once TB has stopped (R502): what ends such a time says that it has come. -/
def aoStamps (s : State) : State :=
  { s with
    pwr := { s.pwr with attnOff := 0, stayFrom := 0 }
    pwm := { s.pwm with wd := s.pwm.wd.map (fun _ => 0) }
    lsw := { s.lsw with inAt := [], pulseAt := [] } }

/-- REF_RETURN (R23, R456): the module restarts as MODULE; TB goes on from where it stopped. Log 22: DEDUCED. -/
def execRefReturn (s : State) : Out :=
  .next (if s.pwr.refOk then s
    else
      let s1 := faultEnd { aoStamps s with pwr := { (aoStamps s).pwr with refOk := true, tbRun := true } } Ev.CLK_REF_LOSS []
      staged (fun s => moduleReset 8 (unfreeze s)) s1)

end Sys2Proof.Machine
end

