-- ==== Sys2Proof/Machine/ImageOps.lean ====
section
/-!
DEFINITION. Machine/ImageOps.lean: the image store's commands (R47 to R60): validation, live swap, restart activation, team distribution.
-/

namespace Sys2Proof.Machine

/-! ### Status -/

/-- Validate the image in PENDING for this position (R47): its outcome is shown and recorded. Log 26: DEDUCED. -/
def checkPending (s : State) : State :=
  match s.img.slotPending with
  | none => s
  | some c =>
    let r := imageStage s c (posOf s)
    imgChecked c r.1 r.2.1 (setImgState r.2.2 { s with img := { s.img with teamWide := r.1 == 10 || teamClass s c (posOf s) } })

/-- A check made apart from the others refuses (R47 checks 12 and 14): shown and recorded, with the image in PENDING. Log 26: DEDUCED. -/
def imgRefuse (code : Nat) (s : State) : State :=
  match s.img.slotPending with
  | some c => imgChecked c code 255 s
  | none => setImgErr code 255 s

/-- IMG_CHECK (R47, R60). While a swap is in progress it is ignored. Log 74: DESIGN CHOICE. -/
def execImgCheck (who : Fin 36) (s : State) : Out :=
  .next (rapDo s who.val .image 9 R.IMG_CTRL fun s => if swapBusy s then s else checkPending s)

/-! ### Giving up -/

/-- A swap is given up before its quiesce cycle (R55, R60): the image stays staged, and IMG_COMMIT_TB shows the last commit again. A
distribution given up before PREPARE counts as an abort too. Log 74: DESIGN CHOICE. -/
def swapDrop (s : State) : State :=
  let s0 := rset64 s R.IMG_COMMIT_TB_LO R.IMG_COMMIT_TB_HI s.img.lastC
  let s1 := { s0 with img := { s0.img with
    swapC := none, sending := false, acks := [], scope := [], loopScope := [], loopGone := [], loopSwap := false } }
  fincSat (if imgState s = 5 then setImgState 3 s1 else s1) R.IMG_SWAP_CNT F.IMG_SWAP_CNT_ABORTS

/-- The leader's ABORT (R55). -/
def leaderAbort (s : State) : State := swapDrop (toTeam s MsgKind.SWAP_ABORT [])

/-! ### Distribution -/

/-- The leader sends the image to every member (R55). -/
def distributeImage (s : State) : State :=
  let h := (s.img.slotPending.map (·.hash)).getD 0
  toTeam { s with img := { s.img with sending := true, acks := otherMembers s, sentAt := s.tb, ackAt := s.tb } } MsgKind.TEAM_IMAGE [h]

/-- A live swap or a distribution starts (R50, R55). -/
def activate (s : State) : State :=
  if swapBusy s then imgRefuse 14 s
  else if imgState s ≠ 3 ∧ imgState s ≠ 4 then s
  else if otherMembers s ≠ [] then
    (if isLeader s then distributeImage s else toLeader s MsgKind.TEAM_IMAGE [(s.img.slotPending.map (·.hash)).getD 0])
  else if imgState s = 3 then prepare (boundaryFrom (s.tb + 250 * cycleTicks)) s
  else s

/-- IMG_ACTIVATE (R50, R55). -/
def execImgActivate (who : Fin 36) (s : State) : Out := .next (rapDo s who.val .image 9 R.IMG_CTRL activate)

/-- IMG_ABORT (R60): before the quiesce cycle; a member passes it to the leader. Log 26: DEDUCED. -/
def execImgAbort (who : Fin 36) (s : State) : Out :=
  .next (rapDo s who.val .image 9 R.IMG_CTRL fun s =>
    let early : Bool := match s.img.swapC with | some C => decide (s.tb + cycleTicks < C) | none => s.img.sending
    if early = false ∨ imgState s = 6 then s
    else if isLeader s ∨ otherMembers s = [] then leaderAbort s
    else toLeader s MsgKind.SWAP_ABORT [])

/-- TEAM_IMAGE (R55, R56): a member validates the image for its own position and answers; the leader validates an image relayed to it and
distributes it. Log 26: DEDUCED. -/
def execTeamImage (c : Container) (s : State) : Out :=
  .next (if domOn s 9 = false ∨ domOn s 1 = false then s
    else if swapBusy s then (if isLeader s then s else toLeader s MsgKind.STAGED_OK [midOf s, 14])
    else
      let s1 := checkPending { s with img := { s.img with slotPending := some c, uploaded := true } }
      let code := fget s1 R.IMG_STATUS F.IMG_STATUS_ERR
      if isLeader s = false then toLeader s1 MsgKind.STAGED_OK [midOf s, code]
      else if imgState s1 = 7 then s1 else if otherMembers s1 = [] then s1 else distributeImage s1)

/-- STAGED_OK (R55), within 2 s of the send: after the last acknowledgement the leader sends PREPARE with C, at least 250 cycles later. A member that stages for a restart
leaves the whole image staged; any other error aborts. Log 26: DEDUCED. -/
def execStagedOk (m : Fin 64) (code : Fin 256) (s : State) : Out :=
  .next (
    if isLeader s = false ∨ s.img.sending = false ∨ m.val ∉ s.img.acks then s
    else if s.img.sentAt + 2 * secTicks < s.tb then leaderAbort s
    else if code.val ≠ 0 ∧ code.val ≠ 10 ∧ code.val ≠ 11 then leaderAbort (setImgErr code.val 255 s)
    else
      let left := s.img.acks.filter (· != m.val)
      let s1 := { s with img := { s.img with acks := left, ackAt := s.tb, teamWide := s.img.teamWide || code.val == 10 } }
      let s2 := if code.val ≠ 0 ∧ imgState s1 = 3 then setImgState 4 s1 else s1
      if left ≠ [] then s2
      else
        let s3 := { s2 with img := { s2.img with sending := false } }
        if imgState s3 = 4 then s3
        else
          let C := boundaryFrom (s.tb + 250 * cycleTicks)
          let s4 := toTeam s3 MsgKind.PREPARE [C]
          if imgState s4 = 3 then prepare C s4 else s4)

/-- STAGING_TIMEOUT (R55): not every member has acknowledged within 2 s of the send. -/
def execStagingTimeout (s : State) : Out :=
  .next (if isLeader s ∧ s.img.sending ∧ s.img.acks ≠ [] ∧ s.img.sentAt + 2 * secTicks ≤ s.tb then leaderAbort s else s)

/-- PREPARE (R55): acknowledged by a member that has staged the image. -/
def execPrepare (C : Nat) (s : State) : Out :=
  .next (if isLeader s ∨ imgState s ≠ 3 ∨ C % cycleTicks ≠ 0 ∨ C ≤ s.tb + cycleTicks then s
    else toLeader (prepare C s) MsgKind.PREPARE_ACK [midOf s])

/-- SWAP_ABORT (R55): received before C − 40,000. A leader that a member's ABORT reaches aborts for the team. -/
def execSwapAbort (s : State) : Out :=
  .next (
    let early : Bool := match s.img.swapC with | some C => decide (s.tb + cycleTicks < C) | none => false
    if isLeader s ∧ (early ∨ s.img.sending) then leaderAbort s
    else if early ∧ imgState s = 5 then swapDrop s else s)

/-! ### The swap -/

/-- SWAP_QUIESCE_START (R50, R297): at C − 40,000 the scope stops taking decisions; an injection ends with a swap of any loop group. -/
def execSwapQuiesceStart (s : State) : Out :=
  .next (match s.img.swapC with
    | some C =>
      if imgState s ≠ 5 ∨ s.tb + cycleTicks < C ∨ domOn s 1 = false then s
      else whenB s.img.loopSwap (injEnd 10) (setImgState 6 s)
    | none => s)

/-- Set the bits only an image sets (R16), leaving start values alone. -/
def swapWord (x : Nat × Word) (s : State) : State :=
  let m : Word := BitVec.ofNat 32 ((regDesc x.1).elim 0 (·.rwi))
  rset s x.1 ((rget s x.1 &&& ~~~m) ||| (x.2 &&& m))

/-- The words of the new image; a register it no longer names returns to its reset word. -/
def swapWords (old new : List (Nat × Word)) (s : State) : State :=
  forEach new swapWord (forEach (old.filter (fun x => !new.any (fun y => y.1 == x.1))) (fun x s => swapWord (x.1, resetWord x.1) s) s)

/-- The links of chains with their chain and index, in the order of declaration (R75). -/
def linkList (l : List Chain) : List (Nat × Nat × Link) := l.flatMap (fun c => c.links.zipIdx.map (fun x => (c.inst, x.2, x.1)))

/-- The links whose definition the swap leaves alone keep their state, each under its new number; a link that is new starts at C (R64, R65). -/
def swapLinks (C : Nat) (old new : List Chain) (l : List (Nat × LinkSt)) : List (Nat × LinkSt) :=
  (linkList new).zipIdx.map (fun x => (x.2, match (linkList old).zipIdx.find? (fun y => y.1 == x.1) with
    | some y => smGet linkInit l y.2
    | none => { linkInit 0 with at1 := C, at2 := C }))

/-- The chain registers and reports follow the swap (R65, R75): a chain or link that is gone, or is no longer as it was, ends its reports, and the
registers of links show the new declaration. -/
def swapChains (old : State) (s : State) : State :=
  let kept (x : Nat × Nat × Link) : Bool := (linkList s.cfg.chains).contains x
  let s1 := forEach (linkList old.cfg.chains).zipIdx (fun x s =>
    let st := linkSt old x.2
    let at_ : List Int := [x.1.1, x.1.2.1]
    if kept x.1 then s
    else whenB st.fall (fun s => faultEnd s Ev.GEOM_FALLBACK at_) (whenB st.onSec (fun s => faultEnd s Ev.GEOM_SECONDARY at_) s)) s
  let s2 := forEach (old.cfg.chains.map (·.inst)) (fun c s =>
    if chainInvalid old c ∧ chainInvalid s c = false then chainBit (faultEnd s Ev.GEOM_INVALID [c]) c false else s) s1
  let n := (linkList s.cfg.chains).length
  forEach (linkList s.cfg.chains) (fun x s => linkReg s x.1 x.2.1)
    (forN (64 - n) (fun i s => rset s (R.STR_LINK (n + i)) 0) s2)

/-- Stride outputs at C (R51): what is queued from C + 40,000 on is squashed, with its marks. An output new to the table starts at C. -/
def swapOuts (C : Nat) (was : List OutEnt) (scope : List Nat) (s : State) : State :=
  let s1 := forEach (scope.filter (fun n => (outSt s n).queue ≠ [] ∨ (outSt s n).runs ≠ [])) (fun n s =>
    nextReg n (squash n (fun e => decide (C + cycleTicks ≤ e.tick)) s)) s
  let s2 := forEach scope (fun n s => if (outSt s n).sweep.isSome then setOut s n { outSt s n with sweep := none } else s) s1
  forEach ((strideOuts s2).filter (fun o => !was.any (fun x => x.out == o.out))) (fun o s =>
    setOut s o.out { outSt s o.out with doneTo := C }) s2

/-- An actuator goes to its safe state at once (R52): its channels take the duty of SAFE_OUT whatever their group holds. Log 26: DEDUCED. -/
def actRelease (d : LoopDef) (s : State) : State :=
  if domOn s 10 then
    forEach (actChans s d.loop.val d) (fun c s =>
      let s1 := waveFold c (fset s (R.PWM_CH_DUTY c) F.PWM_CH_DUTY_DUTY (dutyOf d.safeOut))
      let w := newWave s1 c (dutyOf d.safeOut) (wavOf s1 c).phase (s.tb * unitOf c)
      fset (setWav c w s1) (R.PWM_CH_STAT c) F.PWM_CH_STAT_ACT_DUTY w.duty) s
  else s

/-- Loops at C (R52): a loop removed releases its actuator to its safe state; each other steps on under its new sets. -/
def swapLoops (was : List LoopDef) (s : State) : State :=
  let gone := was.filter (fun d => s.img.loopGone.contains d.loop.val)
  let s1 := forEach gone actRelease s
  forEach gone (fun d s => rset { s with ctl := { s.ctl with loops := s.ctl.loops.filter (fun x => x.1 != d.loop.val) } }
    (R.CTL_LOOP_STAT d.loop.val) 0) s1

/-- The set of gains a loop stands at. -/
def setInUse (s : State) (d : LoopDef) : LoopSet :=
  let l := loopSt s d.loop.val
  d.sets.getD (4 * l.bin2 + l.bin1) setZero

/-- The commit (R50 to R52). Log 26: DEDUCED. -/
def swapCommit (C : Nat) (c : Container) (s : State) : State :=
  let old := s.cfg
  let new := cfgOf c (posOf s)
  let keep := (s.cfg.loops.filter (fun d => s.img.loopScope.contains d.loop.val && !s.img.loopGone.contains d.loop.val)).map
    (fun d => (d.loop.val, setInUse s d))
  let s0 := swapLoops old.loops s
  let filts := (List.range 4).filter (fun n => old.filts.find? (fun x => x.ctrl == n) ≠ new.filts.find? (fun x => x.ctrl == n))
  let s1 := forEach filts (fun n s =>
    setCan n { canOf s n with oldFilt := some (C, (old.filts.find? (fun x => x.ctrl == n)).getD ⟨n, [], []⟩) } s) s0
  let s2 := swapWords old.regs new.regs { s1 with
    cfg := { new with plan := old.plan }
    geo := { s1.geo with links := swapLinks C old.chains new.chains s1.geo.links } }
  let s3 := swapOuts C (old.outs.filter strideRole) s.img.scope (swapChains s1 s2)
  let s4 := showImage c { s3 with img := { s3.img with
    slotGood := s.img.active, slotActive := some c, slotPending := none, swapC := none, lastC := C, scope := [], loopScope := [], loopGone := []
    loopSwap := false, oldSets := keep } }
  -- the members that acknowledged commit at C as well (R55)
  let heard (x : Heard) : Heard := if x.h.image = s.img.hash then { x with h := { x.h with image := c.hash } } else x
  let s5 := fsetb (setImgState 0 { s4 with team := { s4.team with heard := s4.team.heard.map heard } }) R.IMG_STATUS F.IMG_STATUS_LAST_GOOD_VALID s.img.active.isSome
  let s6 := otpRaise (fincSat (fsetb s5 R.IMG_STATUS F.IMG_STATUS_FALLBACK false) R.IMG_SWAP_CNT F.IMG_SWAP_CNT_COMMITS)
  let s7 := if new.stbHash = old.stbHash then s6 else raise s6 Ev.POLICY [new.stbHash % 2 ^ 64, C]
  raise s7 Ev.IMG_SWAPPED [c.hash, C]

/-- SWAP_COMMIT (R51, R52): at C, ahead of the boundary's decisions. -/
def execSwapCommit (s : State) : Out :=
  .next (match s.img.swapC, s.img.slotPending with
    | some C, some c =>
      if (imgState s ≠ 5 ∧ imgState s ≠ 6) ∨ s.tb < C ∨ domOn s 1 = false then s
      else staged (swapCommit C c) s
    | _, _ => s)

/-! ### Restart -/

/-- The module restarts under the staged image (R48, R54): the former active image becomes LAST_GOOD. Log 26: DEDUCED. -/
def restartInto (s : State) : State :=
  match s.img.slotPending with
  | none => s
  | some c =>
    let good := match s.img.active with | some a => some a | none => s.img.slotGood
    let s1 := { s with img := { s.img with slotActive := some c, slotGood := good, slotPending := none, teamWide := false, restartAt := none } }
    levelLost (staged (moduleReset 9) (setImgState 0 s1))

/-- Key-off has reached K (R475). Log 21: DEDUCED. -/
def pastK (s : State) : Bool := s.pwr.keyRun || (match s.pwr.keyoffK with | some K => decide (K ≤ s.tb) | none => false)

/-- RESTART_ACTIVATE (R47 check 12, R54, R475): a TEAM-class image restarts the team at a boundary of the leader, a pair restarts together. Log 26: DEDUCED. -/
def restartActivate (s : State) : State :=
  let mate := partnerOf (midOf s)
  if imgState s ≠ 4 ∨ s.img.slotPending = none ∨ pastK s ∨ s.img.restartAt.isSome then s
  else if jobRun s then imgRefuse 12 s
  else if s.img.teamWide ∧ otherMembers s ≠ [] then
    (if isLeader s then
      let b := boundaryFrom (s.tb + 250 * cycleTicks)
      toTeam { s with img := { s.img with restartAt := some b } } MsgKind.TEAM_RESTART [b]
    else toLeader s MsgKind.TEAM_RESTART [])
  else if pairPlanned s ∧ (otherMembers s).contains mate then
    let b := boundaryFrom (s.tb + 250 * cycleTicks)
    send { s with img := { s.img with restartAt := some b } } MsgKind.TEAM_RESTART mate [b]
  else restartInto s

/-- See `restartActivate`. Log 21: DEDUCED. -/
def execRestartActivate (who : Fin 36) (s : State) : Out := .next (rapDo s who.val .image 9 R.IMG_CTRL restartActivate)

/-- TEAM_RESTART (R54): at the boundary named; where another module named it, the event itself is that boundary. At the leader with none named it
is a member's request. Log 26: DEDUCED. -/
def execTeamRestart (s : State) : Out :=
  .next (match s.img.restartAt with
    | some b => if s.tb < b then s else restartInto s
    | none =>
      if isLeader s ∧ otherMembers s ≠ [] ∧ s.img.teamWide then restartActivate s
      else if isLeader s ∨ otherMembers s = [] ∨ imgState s ≠ 4 ∨ jobRun s ∨ pastK s ∨ s.tb % cycleTicks ≠ 0 then s else restartInto s)

/-- REVERT (R46, R54): LAST_GOOD becomes pending; it needs a restart in every case. Log 26: DEDUCED. -/
def revert (s : State) : State :=
  match s.img.slotGood with
  | none => s
  | some c =>
    let r := imageStage { s with img := { s.img with uploaded := false } } c (posOf s)
    let s1 := { s with img := { s.img with slotPending := some c, teamWide := teamClass s c (posOf s), uploaded := false } }
    if r.2.2 = 7 then imgChecked c r.1 r.2.1 (setImgState 7 s1)
    else imgChecked c (if r.1 = 0 then 11 else r.1) r.2.1 (setImgState 4 s1)

/-- IMG_REVERT (R54). -/
def execImgRevert (who : Fin 36) (s : State) : Out :=
  .next (rapDo s who.val .image 9 R.IMG_CTRL fun s => if swapBusy s then imgRefuse 14 s else revert s)

end Sys2Proof.Machine
end

