-- ==== Sys2Proof/Machine/Rap.lean ====
section
/-!
DEFINITION. Machine/Rap.lean: the Register Access Protocol (R477 to R486): what a read of a register returns, what a write of a register
without behaviour of its own changes, the LO/HI latches, block objects, and requests relayed to and from other members.
-/

namespace Sys2Proof.Machine

/-! ### Addresses -/

/-- The power domain an address follows (R477). -/
def addrDom (a : Nat) : Nat :=
  match a / 0x10000 with
  | 0x00 => 0
  | 0x01 => 0
  | 0x02 => 1
  | 0x03 => 9
  | 0x10 => if 0x101200 ≤ a ∧ a ≤ 0x1012FC then 10 else 11
  | 0x11 => 4
  | 0x12 => 2
  | 0x13 => 1
  | 0x14 => 8
  | 0x15 => if 0x154000 ≤ a ∧ a ≤ 0x1540FC then 0 else 10
  | 0x16 => if 0x161200 ≤ a ∧ a ≤ 0x16147C then 0 else 10
  | 0x17 => 1
  | 0x18 => 7
  | 0x19 => 6
  | 0x1A => 0
  | 0x1B => 1
  | 0x1C => 1
  | _ => 9

/-- The address lies in a block and on a register boundary (R477). -/
def addrOk (a : Nat) : Bool := a % 4 == 0 && decide (a < 0x1E0000) && !(decide (0x40000 ≤ a) && decide (a < 0x100000))

/-- A range of registers is well placed: within one block (R481). -/
def spanOk (a n : Nat) : Bool := addrOk a && (a / 0x10000 == (a + 4 * (n - 1)) / 0x10000)

/-- The block of an address is on: its domain is, and the GNS block of an NSC960-N never is (R25). Log 34: DEDUCED. -/
def addrOn (s : State) (a : Nat) : Bool := domOn s (addrDom a) && (a / 0x10000 != 0x11 || isG s)

/-- FLT_CAT (R488). Log 13: DESIGN CHOICE. -/
def inCat (a : Nat) : Bool := decide (0x28000 ≤ a) && decide (a ≤ 0x2F7FC)

/-- The index of an address in a family of registers. -/
def ixOf (base stride count a : Nat) : Option Nat :=
  if base ≤ a ∧ (a - base) % stride = 0 ∧ (a - base) / stride < count then some ((a - base) / stride) else none

/-- The LO registers of the LO/HI pairs; HI lies 4 above LO (R479). -/
def loBases : List Nat := [R.SYS_SERIAL_LO, R.SYS_TB_LO, R.IMG_COMMIT_TB_LO, R.FBI_CNT_LO 0, R.FBI_SNAP_LO 0, R.FBI_LOAD_LO 0, R.FBI_CAP_LO 0,
  R.FBI_CAPTB_LO 0, R.FBI_CMP_VAL_LO 0, R.FBI_SSI_TB_LO 0, R.GNS_EPOCH_TB_LO, R.POS_TT_OFS_LO, R.STR_CYCLE_LO, R.CTL_TRC_TRIG_TB_LO,
  R.CTL_TRC_TB_LO 0, R.CTL_INJ_TB_LO, R.CAN_WAKE_DATA_LO 0, R.CAN_SLOT_TB_LO 0 0, R.TLK_PAIR_T_LO, R.BRD_TT_HWM_LO, R.STB_OPT_LO]

/-- The address is a LO register. -/
def isLo (a : Nat) : Bool := match regDesc a with | some d => loBases.contains d.base | none => false

/-- The address is a HI register. -/
def isHi (a : Nat) : Bool := decide (4 ≤ a) && isLo (a - 4)

/-! ### Who asks -/

/-- Who makes a request: the role it is made under, a contractor's lease, the number its latches and handles are kept under (a session, or
64 and the member that relays), and for a relayed request the member, its session and its tag. -/
structure Rq where
  role  : Role
  lease : Option Nat
  key   : Nat
  back  : Option (Nat × Nat × Nat)
  /-- data of a block transfer: relayed over TC5 (R483) -/
  bulk  : Bool
deriving DecidableEq, Repr, Inhabited

/-- A session as a requester; none: it is not open. -/
def rqOf (s : State) (who : Nat) : Option Rq := (sessRole s who).map (fun r => ⟨r, (sessOf s who).bind (·.lease), who, none, false⟩)

/-- A contractor's lease has not ended (R403); other roles need none. Log 50: DEDUCED. -/
def rqLive (s : State) (q : Rq) : Bool :=
  q.role != .contractor ||
    (match q.lease with
    | some m => let st := fget s (R.BRD_HIRE_STAT m) F.BRD_HIRE_STAT_STATE; st == 1 || st == 2
    | none => false)

/-- May a requester do an action (R390, R403)? -/
def rqMay (s : State) (q : Rq) (act : Act) : Bool := mayAct act q.role && rqLive s q

/-- The answer goes to the session, or back over TC4 (R483). -/
def rqAnswer (q : Rq) (st : RapStatus) (data : List Int) (s : State) : State :=
  match q.back with
  | none => rapAnswer s q.key st data
  | some (src, sess, tag) =>
    let s1 := send { s with pwr := { s.pwr with stayFrom := s.tb } } (if q.bulk then MsgKind.RELAY_DATA else MsgKind.RELAY_RESPONSE) src
      ((sess : Int) :: (tag : Int) :: (rapCode st : Int) :: data)
    { s1 with rap := { s1.rap with
        requests := (s1.rap.requests + 1) % 65536
        refused := if st = .ok then s1.rap.refused else satInc 65535 s1.rap.refused } }

/-! ### Classes of registers -/

/-- The class "live position, coverage counts and rates" (R389). -/
def liveClass (a : Nat) : Bool :=
  [R.COV_X0, R.COV_Y0, R.COV_ONCE, R.COV_TWICE, R.COV_EXCL, R.STR_ALLEY_S].contains a || (ixOf (R.COV_LAYER 0) 4 8 a).isSome
    || (ixOf (R.STR_RATE 0) 4 96 a).isSome || (ixOf (R.STR_STALL_DLV 0) 4 96 a).isSome

/-- The class "device identity" (R389). -/
def idClass (a : Nat) : Bool :=
  a / 0x10000 == 0x03 || [R.SYS_ID, R.SYS_SERIAL_LO, R.SYS_SERIAL_HI, R.PWR_FW, R.PWR_FW_VERA, R.PWR_FW_VERB].contains a

/-- The class "diagnostics" (R389). -/
def diagClass (a : Nat) : Bool := a / 0x10000 == 0x02 || a / 0x10000 == 0x1C || a / 0x10000 == 0x1D

/-- Roles that read machine state (R388). -/
def stateRole (r : Role) : Bool := r == .oem || r == .owner || r == .operator || r == .contractor || r == .service

/-- Roles that read diagnostics (R388). -/
def diagRole (r : Role) : Bool := r == .vendor || r == .oem || r == .owner || r == .service

/-- Roles that read live position (R388). -/
def liveRole (r : Role) : Bool := r == .owner || r == .operator || r == .contractor

/-- May a role read a register (R388, R389)? Log 50: DEDUCED. -/
def roleReads (r : Role) (a : Nat) : Bool :=
  if a / 0x10000 = 0x1B then true
  else if idClass a then r != .agronomist && r != .debug
  else if diagClass a then diagRole r
  else if liveClass a then liveRole r
  else stateRole r

/-- May a requester read a register: by its role, and after the end of a contractor's lease nothing but the BRD block (R403)? -/
def rqReads (s : State) (q : Rq) (a : Nat) : Bool := roleReads q.role a && (rqLive s q || a / 0x10000 == 0x1B)

/-- The action a write of a register is (R389, R390), with the word written. -/
def writeAct (s : State) (a : Nat) (w : Word) : Act :=
  if a = R.COV_JOB_SEL ∨ a = R.COV_JOB_CTRL then .job
  else if a = R.PWM_FORCE_SH then .force (offOnly w.toNat 0)
  else if a = R.PWM_FORCE_ONE then .force (offOnly 0 w.toNat)
  else if a = R.PWM_FORCE_CTRL then .force true
  else if a = R.STR_MODE ∧ bitOf w.toNat 6 = false ∧ bitOf w.toNat 7 = false then .operate
  else if a = R.STR_SECCTL ∨ (ixOf (R.STR_SECSW 0) 4 3 a).isSome ∨ (ixOf (R.STR_STALL 0) 4 96 a).isSome then .operate
  else if (ixOf (R.PWM_CH_DUTY 0) 16 104 a).isSome ∨ (ixOf (R.PWM_CH_PHASE 0) 16 104 a).isSome then .duty
  else if 0x173000 ≤ a ∧ a < 0x180000 then .test
  else if a / 0x10000 = 0x18 then .can
  else if a / 0x10000 = 0x03 ∨ a = R.PWR_FW_CTRL then .image
  else if a = R.PWR_CMD then .sleep
  else if a = R.TLK_PAIR_CTRL then .handover
  else if a = R.BRD_CMD then .brd
  else match ixOf (R.CTL_LOOP_SP 0) 64 64 a with
    | some n => if lcfg s n F.CTL_LOOP_CFG_SP_SRC = 0 then .operate else .other
    | none => .other

/-! ### What a read returns -/

/-- A word with a list of fields set. -/
def withFields (w : Word) (l : List (Fld × Nat)) : Word := l.foldl (fun w x => fsetW w x.1 x.2) w

/-- Whole seconds since a stamp, at most `lim`. -/
def ageS (s : State) (lim since : Nat) : Nat := min lim ((s.tb - since) / secTicks)

/-- The catalogue's entry of a TYPE (R488): what the rules fix of an event is as they fix it. Log 7: DESIGN CHOICE. -/
def catWord (t : Nat) : Word :=
  match evAll.find? (fun e => evType e == t) with
  | some e =>
    let f := evFault e
    (Config.fltCat t &&& 0xFFFF0000) ||| BitVec.ofNat 32 (1 + 2 * b2n f + 4 * (if f then min 6 (evClass e) else 0) + 32 * evSev f e + 256 * (evPlen e % 256))
  | none => Config.fltCat t

/-- Registers of SYS and FLT that show what the state holds (R486, R488). -/
def viewSys (s : State) (a : Nat) (w : Word) : Word :=
  if a = R.SYS_TB_LO then BitVec.ofNat 32 s.tb
  else if a = R.SYS_TB_HI then BitVec.ofNat 32 (s.tb / 2 ^ 32)
  else if a = R.SYS_RAP_CNT then withFields w [(F.SYS_RAP_CNT_REQUESTS, s.rap.requests), (F.SYS_RAP_CNT_REFUSED, s.rap.refused)]
  else if inCat a then catWord ((a - 0x28000) / 4)
  else w

/-- Registers of GNS (R128). -/
def viewGns (s : State) (a : Nat) (w : Word) : Word :=
  let banks := 12 - s.gns.outBanks.length
  if a = R.GNS_ACQ then fsetW w F.GNS_ACQ_SPARES_LEFT (sparesOf s 7).length
  else if a = R.GNS_TRK then withFields w
    [(F.GNS_TRK_BANKS_IN, banks), (F.GNS_TRK_SPARE_FREE, b2n (!(sparesOf s 8).isEmpty)), (F.GNS_TRK_CH_AVAIL, 8 * banks)]
  else w

/-- Registers of POS (R148). -/
def viewPos (s : State) (a : Nat) (w : Word) : Word :=
  if a = R.POS_STATUS then withFields w
    [(F.POS_STATUS_DR_AGE, match s.pos.drSince with | some t => ageS s 255 t | none => 0),
     (F.POS_STATUS_CORR_AGE, match s.pos.corrSt with | some (_, t) => ageS s 255 t | none => 255)]
  else if a = R.POS_TT_STATUS then
    fsetW w F.POS_TT_STATUS_HOLD_AGE (match s.pos.holdAt with | some t => ageS s 65535 t | none => 0)
  else if a = R.POS_TT_ERR then BitVec.ofNat 32 (ttErr s)
  else w

/-- Registers of STR (R182, R227): an output that is not under the engine reads 0, but for REASON 9. -/
def viewStr (s : State) (a : Nat) (w : Word) : Word :=
  let under (n : Nat) : Bool := (strideOuts s).any (fun o => o.out == n)
  match ixOf (R.STR_OUT 0) 4 96 a, ixOf (R.STR_NEXT 0) 4 96 a, ixOf (R.STR_RATE 0) 4 96 a, ixOf (R.STR_STALL 0) 4 96 a with
  | some n, _, _, _ => if under n then fsetW w F.STR_OUT_GROUND (b2n (groundNow s n)) else fsetW 0 F.STR_OUT_REASON 9
  | none, some n, _, _ => if under n then w else 0
  | none, none, some n, _ => if under n then w else 0
  | none, none, none, some k => fsetW w F.STR_STALL_DONE (b2n (s.cfg.outs.any (fun o => stallOf s o.out == some k && stallDone s o.out k)))
  | _, _, _, _ => w

/-- Registers of COV (R207, R208). -/
def viewCov (s : State) (a : Nat) (w : Word) : Word :=
  let cells (c : Nat) : Word := BitVec.ofNat 32 (min (2 ^ 32 - 1) (cellCount s c))
  if a = R.COV_TILES then fsetW w F.COV_TILES_ALLOC ((extentTiles s).filter (tileAlloc s)).length
  else if a = R.COV_ONCE then cells 1
  else if a = R.COV_TWICE then cells 2
  else if a = R.COV_EXCL then cells 3
  else w

/-- Registers of PWM and LSW (R250, R274, R276). -/
def viewOutputs (s : State) (a : Nat) (w : Word) : Word :=
  match ixOf (R.PWM_CH_STAT 0) 16 104 a, ixOf (R.LSW_CH_STAT 0) 32 96 a with
  | some n, _ =>
    let g := hbWave s ((n - 96) / 2) (s.tb * 32)
    fsetW w F.PWM_CH_STAT_LEVEL (b2n (if n < 96 then wave7 s n (wavOf s n) s.tb else if n % 2 = 0 then g.1 else g.2))
  | none, some n => withFields w [(F.LSW_CH_STAT_ON, b2n (actualOn s n)), (F.LSW_CH_STAT_HALTER, b2n ((chain s n).1 == 4))]
  | none, none => match ixOf (R.LSW_CH_CLAMP 0) 32 96 a with
    | some n => fsetW w F.LSW_CH_CLAMP_WIN_SUM (min 0xFFFF (divOpen (clampSum s n) clampUnit).toNat)
    | none => if a = R.LSW_HALTER_STAT then fsetW w F.LSW_HALTER_STAT_CORE_ALIVE (b2n (coreAlive s)) else w

/-- Registers of CTL (R300, R302). -/
def viewCtl (s : State) (a : Nat) (w : Word) : Word :=
  if a = R.CTL_STATUS then withFields w [(F.CTL_STATUS_LOOPS, s.cfg.loops.length),
    (F.CTL_STATUS_CURBS, ((List.range 16).filter (fun k => !(curbMembers s k).isEmpty)).length)]
  else match ixOf (R.CTL_CURB_STAT 0) 16 16 a with
    | some k => fsetW w F.CTL_CURB_STAT_MEMBERS (curbMembers s k).length
    | none => w

/-- Registers of CAN and BRD (R329, R414). -/
def viewBus (s : State) (a : Nat) (w : Word) : Word :=
  match ixOf (R.CAN_FILT 0) 16384 4 a, ixOf (R.BRD_SESS_STAT 0) 8 36 a with
  | some c, _ => match s.cfg.filts.find? (fun f => f.ctrl == c) with
    | some f => withFields w [(F.CAN_FILT_INSTR, f.prog.length), (F.CAN_FILT_PATH, (pathCosts f.prog).headD 0), (F.CAN_FILT_MAPS, f.maps.length)]
    | none => w
  | none, some k => match sessOf s k with
    | some x => fsetW w F.BRD_SESS_STAT_AGE (ageS s 65535 x.opened)
    | none => w
  | none, none => w

/-- Registers of STB (R445). Log 59: DEDUCED. -/
def viewStb (s : State) (a : Nat) (w : Word) : Word :=
  let b := s.stb
  let logUsed := packedSize b.log 0
  let norUsed := packedSize b.nor 0
  let kib (n : Nat) : Nat := (n + 1023) / 1024
  if a = R.STB_STATUS then withFields w
    [(F.STB_STATUS_FULL, b2n (decide (logBytes ≤ logUsed + 4096))), (F.STB_STATUS_NOR_FULL, b2n (decide (norBytes ≤ norUsed + 4096))),
      (F.STB_STATUS_DROP, b2n b.dropSeen)]
  else if a = R.STB_SEQ then BitVec.ofNat 32 (stbSeq b).seq
  else if a = R.STB_OPT_LO then BitVec.ofNat 32 (optMs s)
  else if a = R.STB_OPT_HI then BitVec.ofNat 32 (optMs s / 2 ^ 32)
  else if a = R.STB_PCC then BitVec.ofNat 32 b.pcc
  else if a = R.STB_FILL then fsetW w F.STB_FILL_USED_KIB (kib logUsed)
  else if a = R.STB_RECS then BitVec.ofNat 32 b.log.length
  else if a = R.STB_NOR then fsetW w F.STB_NOR_USED_KIB (kib norUsed)
  else if a = R.STB_HOLD then withFields w [(F.STB_HOLD_HELD, b.holdQ.length), (F.STB_HOLD_HOLD_LOST, min 65535 b.holdLost)]
  else match ixOf (R.STB_DROP 0) 4 4 a, ixOf (R.STB_OVW 0) 4 4 a with
    | some k, _ => BitVec.ofNat 32 (b.drops.getD k 0)
    | none, some k => BitVec.ofNat 32 (b.ovw.getD k 0)
    | none, none => w

/-- Registers of FBI: the sign extension of a LOAD value, and VAL as advanced (R94, R104, R105). Log 30: DEDUCED. -/
def viewFbi (s : State) (a : Nat) (w : Word) : Word :=
  match ixOf (R.FBI_LOAD_HI 0) 256 16 a, ixOf (R.FBI_CMP_VAL_LO 0) 64 4 a, ixOf (R.FBI_CMP_VAL_HI 0) 64 4 a with
  | some _, _, _ => BitVec.ofInt 32 (sext 16 (w.toNat % 65536))
  | none, some k, _ => BitVec.ofNat 32 (smGet cmpInit s.fbi.cmp k).val
  | none, none, some k => BitVec.ofNat 32 ((smGet cmpInit s.fbi.cmp k).val / 2 ^ 32)
  | none, none, none => w

/-- What a read of a register returns now: an offset that is not listed reads 0, and write-only bits read 0 (R16, R478). Log 13: DESIGN CHOICE. -/
def viewReg (s : State) (a : Nat) : Word :=
  let w0 := rget s a
  let w := match a / 0x10000 with
    | 0x00 => viewSys s a w0
    | 0x02 => viewSys s a w0
    | 0x10 => viewFbi s a w0
    | 0x11 => viewGns s a w0
    | 0x12 => viewPos s a w0
    | 0x13 => viewStr s a w0
    | 0x14 => viewCov s a w0
    | 0x15 => viewOutputs s a w0
    | 0x16 => viewOutputs s a w0
    | 0x17 => viewCtl s a w0
    | 0x18 => viewBus s a w0
    | 0x1B => viewBus s a w0
    | 0x1D => viewStb s a w0
    | _ => w0
  match regDesc a with
  | some d => w &&& ~~~(BitVec.ofNat 32 d.wo)
  | none => if inCat a then w else 0

/-! ### READ -/

/-- What a read does beside returning a value: the pulses of a channel are looked at, and the challenges are renewed (R413, R442). Log 60: DEDUCED. -/
def readEffect (a : Nat) (s : State) : State :=
  if a = R.STB_CHAL then rsetN (freeNext { s with stb := { s.stb with chal := some (freshChal s) } }) R.STB_CHAL (freshChal s)
  else if a = R.BRD_CHAL then newChal s
  else match ixOf (R.PWM_CH_STAT 0) 16 104 a, ixOf (R.LSW_CH_STAT 0) 32 96 a with
    | some n, _ => waveFold n s
    | none, some n => waveFold n s
    | none, none => s

/-- The key a requester's latch of a pair is kept under (R479). Log 60: DEDUCED. -/
def latchKey (key lo : Nat) : Nat := key * 2 ^ 32 + lo

/-- The value one register gives a requester, with the latch of a pair (R479): a read of LO latches HI for it, and a read of HI returns what is
latched. An offset that is not listed reads as zero and changes nothing (R478). Log 13: DESIGN CHOICE. -/
def readReg (key a : Nat) (s : State) : State × Word :=
  let s1 := readEffect a s
  if (regDesc a).isNone ∧ inCat a = false then (s, 0)
  else if isLo a then
    ({ s1 with rap := { s1.rap with latch := smIns (latchKey key a) (viewReg s1 (a + 4)) s1.rap.latch } }, viewReg s1 a)
  else if isHi a then (s1, ((s1.rap.latch.find? (fun x => x.1 == latchKey key (a - 4))).map (·.2)).getD (viewReg s1 a))
  else (s1, viewReg s1 a)

/-- Registers read in rising order until one fails R478: the state, the status and the words read. -/
def readRegs (q : Rq) : Nat → Nat → State → State × RapStatus × List Int
  | 0, _, s => (s, .ok, [])
  | n + 1, a, s =>
    if rqReads s q a = false then (s, .masked, [])
    else if addrOn s a = false then (s, .domainOff, [])
    else
      let r := readReg q.key a s
      let t := readRegs q n (a + 4) r.1
      (t.1, t.2.1, (r.2.toNat : Int) :: t.2.2)

/-- READ (R481): the answer holds DONE and the words; a register whose block is off ends it with the word 0000_0000h (R1, R25). Log 60: DEDUCED. -/
def rapRead (q : Rq) (a n : Nat) (s : State) : State :=
  if spanOk a n = false then rqAnswer q .badAddr [0] s
  else
    let r := readRegs q n a s
    rqAnswer q r.2.1 ((r.2.2.length : Int) :: (r.2.2 ++ if r.2.1 = .domainOff then [0] else [])) r.1

/-! ### WRITE -/

/-- Bits of a register that another row of the table writes: a write through RAP_WRITE leaves them to that command. Log 60: DEDUCED. -/
def ownBits (a : Nat) : Nat :=
  if a = R.STR_MODE then 0x10
  else if a = R.STR_SECCTL ∨ (ixOf (R.STR_SECSW 0) 4 3 a).isSome ∨ (ixOf (R.STR_STALL 0) 4 96 a).isSome then 0xFFFFFFFF
  else if a = R.STR_ALLEY_STAT then 0x200
  else if a = R.PWM_CTRL then 2
  else if (ixOf (R.FBI_CMP_VAL_HI 0) 64 4 a).isSome then 0xFFFF
  else if (ixOf (R.PWM_CH_DUTY 0) 16 104 a).isSome ∨ (ixOf (R.PWM_CH_PHASE 0) 16 104 a).isSome then 0xFFFFFFFF
  else if (ixOf (R.CAN_CTRL 0) 16384 4 a).isSome then 3
  else 0

/-- The word a write leaves (R16): RW bits take the value, W1C bits clear where it is 1, every other bit stays. -/
def written (d : RegDesc) (own : Nat) (old w : Word) : Word :=
  let rw := BitVec.ofNat 32 (d.rw ||| d.rwa) &&& ~~~(BitVec.ofNat 32 own)
  let w1c := BitVec.ofNat 32 d.w1c
  ((old &&& ~~~rw) ||| (w &&& rw)) &&& ~~~(w &&& w1c)

/-- The slot of a CAN slot register (R330). -/
def slotAt (a : Nat) : Option (Nat × Nat) :=
  let o := a - 0x181000
  if 0x181000 ≤ a ∧ a / 0x10000 = 0x18 ∧ o % 16384 < 96 * 128 ∧ o / 16384 < 4 then some (o / 16384, o % 16384 / 96) else none

/-- The requester is the single writer the register has, or it has none (R236, R320). -/
def isWriter (s : State) (a : Nat) : Bool :=
  match ixOf (R.PWM_CH_DUTY 0) 16 104 a, ixOf (R.PWM_CH_PHASE 0) 16 104 a, slotAt a with
  | some n, _, _ => lgOwner s (lgOf s n) (.rap 0)
  | none, some n, _ => lgOwner s (lgOf s n) (.rap 0)
  | none, none, some (c, k) => fbit s (R.CAN_SLOT_CTRL c k) F.CAN_SLOT_CTRL_OWNER
  | none, none, none => true

/-- Write one register without behaviour of its own. -/
def writeReg (d : RegDesc) (a : Nat) (w : Word) (s : State) : State :=
  let s1 := readEffect a s
  let s2 := if a = R.STB_STATUS ∧ fgetW w F.STB_STATUS_DROP = 1 then { s1 with stb := { s1.stb with dropSeen := false } } else s1
  let s3 := match ixOf (R.CTL_LOOP_SP 0) 64 64 a with
    | some n => { s2 with rap := { s2.rap with spAt := smIns n (s2.tb + 1) s2.rap.spAt } }
    | none => s2
  rset s3 a (written d (ownBits a) (rget s3 a) w)

/-- What R478 says to a write of one register: none, it is made. -/
def writeCheck (s : State) (q : Rq) (a : Nat) (w : Word) : Option RapStatus :=
  if rqMay s q (writeAct s a w) = false then some .denied
  else if addrOn s a = false then some .domainOff
  else match regDesc a with
    | none => if inCat a then some .readOnly else some .noReg
    | some d =>
      if d.rw = 0 ∧ d.rwa = 0 ∧ d.w1c = 0 ∧ d.wo = 0 then some .readOnly
      else if isWriter s a = false then some .notOwner
      else none

/-- Registers written in rising order until one fails R478: the state, the status and the number written. -/
def writeRegs (q : Rq) : List Word → Nat → State → State × RapStatus × Nat
  | [], _, s => (s, .ok, 0)
  | w :: ws, a, s =>
    match writeCheck s q a w with
    | some st => (if st = .denied then writeDenied s q.role a else s, st, 0)
    | none =>
      let s1 := match regDesc a with | some d => writeReg d a w s | none => s
      let t := writeRegs q ws (a + 4) s1
      (t.1, t.2.1, t.2.2 + 1)

/-- WRITE (R481): of 1 to 64 registers; the answer holds DONE. Log 60: DEDUCED. -/
def rapWrite (q : Rq) (a : Nat) (ws : List Word) (s : State) : State :=
  if ws = [] then rqAnswer q .badKind [0] s
  else if 64 < ws.length then rqAnswer q .tooLong [0] s
  else if spanOk a ws.length = false then rqAnswer q .badAddr [0] s
  else
    let r := writeRegs q ws a s
    rqAnswer q r.2.1 [(r.2.2 : Int)] r.1

/-! ### Block objects -/

/-- A ring entry of a CAN controller (R314). -/
def canBytes (e : CanEnt) : List Nat :=
  numBytes 8 e.stamp ++ numBytes 4 e.rseq
    ++ numBytes 4 (e.id % 2 ^ 29 + 2 ^ 29 * b2n e.ide + 2 ^ 30 * b2n e.rtr + 2 ^ 31 * b2n e.fdf)
    ++ [e.dlc, e.data.length, e.flags, e.tag, e.slot, e.deliv] ++ List.replicate 10 0
    ++ e.data.take 64 ++ List.replicate (64 - e.data.length) 0 ++ List.replicate 32 0

/-- The records a read gives (R438): from a SEQ on, by the mask, in SEQ order; a severity-3 record missing in eMMC comes from NOR. -/
def stbRead (s : State) (start mask : Nat) : List Rec :=
  let b := s.stb
  let add (l : List Rec) (r : Rec) : List Rec := l.filter (fun x => decide (x.seq < r.seq)) ++ r :: l.filter (fun x => decide (r.seq < x.seq))
  ((b.nor.filter (fun r => !(b.log.any (fun x => x.seq == r.seq)))).foldl add b.log).filter
    (fun r => inMask mask r && decide (start ≤ r.seq))

/-- A record with its read status (R431, R438); the payload as the catalogue lays it out, and the CRC, are open bytes. -/
def recBytes (s : State) (before : Nat) (r : Rec) : List (Option Nat) :=
  let b := s.stb
  let bad := b.corrupt.contains r.seq
  let nor := (bad && r.sev == 3) || !(b.log.any (fun x => x.seq == r.seq))
  let gap := r.seq - before - 1
  let st := b2n (bad && !nor) + 2 * b2n nor + 4 * b2n (decide (0 < gap)) + 65536 * min 65535 gap
  (numBytes 4 st ++ numBytes 2 (evPlen r.ev) ++ numBytes 2 (evType r.ev) ++ [r.sev + 4 * b2n r.held + 8 * b2n r.ao, r.mid, 0, 0] ++ numBytes 4 r.seq
    ++ numBytes 5 r.opt ++ numBytes 3 r.pcc ++ numBytes 4 r.tbLo).map some ++ List.replicate (evPlen r.ev + 4) none

/-- Records one after the other. -/
def recsBytes (s : State) : Nat → List Rec → List (Option Nat)
  | _, [] => []
  | before, r :: l => recBytes s before r ++ recsBytes s r.seq l

/-- The start SEQ and the mask of a stud book read: PARAM's first 4 bytes and its fifth. -/
def stbParam (param : Nat) : Nat × Nat := (param % 2 ^ 32, param / 2 ^ 32 % 256)

/-- A byte of an object as it reads (R485); none: its value is open. Log 61: DESIGN CHOICE. -/
def objByte (s : State) (obj param off : Nat) : Option Nat :=
  if obj = 3 then
    let slot := off / 4096
    let age := (fget s R.GNS_REC F.GNS_REC_WR_IDX + 512 - 1 - slot) % 512
    (s.gns.ring[age]?).bind (fun r => (gnsBytes r.1)[off % 4096]?)
  else if 0x10 ≤ obj ∧ obj ≤ 0x13 then
    (((canOf s (obj - 0x10)).ring.find? (fun e => e.rseq % 65536 == off / 128)).bind (fun e => (canBytes e)[off % 128]?))
  else if 0x20 ≤ obj ∧ obj ≤ 0x2F then
    let c := obj - 0x20
    let age := (fget s (R.CTL_TRC_IDX c) F.CTL_TRC_IDX_WR_IDX + 65536 - 1 - off / 4) % 65536
    ((s.ctl.trc.find? (fun x => x.1 == c)).bind (fun x => x.2.buf[age]?)).bind (fun w => (numBytes 4 w.toNat)[off % 4]?)
  else if obj = 0x30 then
    let p := stbParam param
    ((recsBytes s (p.1 - 1) (stbRead s p.1 p.2))[off]?).join
  else none

/-- The domain an object lies in. -/
def objDom (obj : Nat) : Nat :=
  if obj = 1 ∨ (0x30 ≤ obj ∧ obj ≤ 0x32) then 9
  else if obj = 2 then 0
  else if obj = 3 then 4
  else if 0x10 ≤ obj ∧ obj ≤ 0x13 then 7
  else if obj = 0x40 ∨ obj = 0x41 ∨ obj = 0x51 then 8
  else 1

/-- The object exists in the direction asked for (R485), with the record or summary PARAM names. -/
def objThere (s : State) (obj : Nat) (write : Bool) (param : Nat) : Bool :=
  if write then [0x01, 0x02, 0x50, 0x51].contains obj
  else if obj = 3 then isG s
  else if obj = 0x40 then fbit s R.COV_JOB_STATUS F.COV_JOB_STATUS_EXPORT_READY
  else if obj = 0x41 then s.cov.records.any (fun r => r.jobId == param % 2 ^ 32)
  else if obj = 0x42 then s.brd.sums.any (fun x => x.leaseId == param % 2 ^ 32)
  else decide (0x10 ≤ obj ∧ obj ≤ 0x13) || decide (0x20 ≤ obj ∧ obj ≤ 0x2F) || decide (0x30 ≤ obj ∧ obj ≤ 0x32)

/-- May a requester open an object (R388, R389, R404 to R406)? Log 61: DESIGN CHOICE. -/
def objMay (s : State) (q : Rq) (obj param : Nat) : Bool :=
  let r := q.role
  if obj = 0x42 then
    r == .owner || (r == .contractor && (match q.lease with
      | some m => s.brd.leases.any (fun x => x.1 == m && x.2.lease.leaseId == param % 2 ^ 32)
      | none => false))
  else if rqLive s q = false then false
  else if obj = 1 then r == .oem || r == .service
  else if obj = 2 then r == .vendor || r == .oem || r == .service
  else if obj = 3 then liveRole r
  else if obj ≤ 0x2F then stateRole r
  else if obj ≤ 0x32 then diagRole r
  else if obj = 0x40 then r == .owner
  else if obj = 0x41 then
    r == .owner || (r == .inspector && (s.cfg.secpol.inspectMandatory || s.cov.records.any (fun x => x.jobId == param % 2 ^ 32 && x.freed)))
  else if obj = 0x50 then mayAct .brd r
  else if obj = 0x51 then
    mayAct .job r && (r != .contractor || (match q.lease with
      | some m => s.brd.leases.any (fun x => x.1 == m && x.2.lease.jobs.contains (param % 2 ^ 32))
      | none => false))
  else false

/-- The size of an object read; none: it is open. Log 61: DESIGN CHOICE. -/
def objLen (s : State) (obj param : Nat) : Option Nat :=
  if obj = 3 then some (512 * 4096)
  else if 0x10 ≤ obj ∧ obj ≤ 0x13 then some (65536 * 128)
  else if 0x20 ≤ obj ∧ obj ≤ 0x2F then some 262144
  else if obj = 0x30 then some (((stbRead s (stbParam param).1 (stbParam param).2).map (fun r => 4 + recSize r)).foldl (· + ·) 0)
  else none

/-- The largest LENGTH an object takes (R39, R466); none: spec/ gives no bound. -/
def objMax (obj : Nat) : Option Nat :=
  if obj = 1 then some (16 * 1024 * 1024) else if obj = 2 then some (24 * 1024 * 1024) else none

/-- An image cannot be received while an image is being checked or swapped. Log 61: DESIGN CHOICE. -/
def objBusy (s : State) (obj : Nat) : Bool := obj == 1 && (swapBusy s || imgState s == 2)

/-- The number a new handle takes. -/
def newHandle (s : State) : Nat := ((List.range 256).find? (fun h => !(s.rap.handles.any (fun x => x.1 == h)))).getD 255

/-- BLK_OPEN (R485): the answer holds HANDLE and LENGTH. Log 60: DEDUCED. -/
def blkOpen (q : Rq) (obj : Nat) (write : Bool) (param len : Nat) (s : State) : State :=
  if objThere s obj write param = false then rqAnswer q .badHandle [] s
  else if objMay s q obj param = false then
    if write then rqAnswer q .denied [] (writeDenied s q.role obj) else rqAnswer q .masked [] s
  else if domOn s (objDom obj) = false then rqAnswer q .domainOff [] s
  else if (s.rap.handles.any (fun x => x.2.obj == obj)) ∨ 4 ≤ (s.rap.handles.filter (fun x => x.2.who == q.key)).length ∨ objBusy s obj then
    rqAnswer q .busy [] s
  else if write && (match objMax obj with | some m => decide (m < len) | none => false) then rqAnswer q .tooLong [] s
  else
    let known := if write then some len else objLen s obj param
    let size := known.getD (Config.freeWord s.freeCnt).toNat
    let s1 := if known.isSome then s else freeNext s
    let h := newHandle s1
    let s2 := { s1 with rap := { s1.rap with handles := smIns h ⟨obj, q.key, write, param, size, []⟩ s1.rap.handles } }
    let s3 := if obj = 1 then (setImgState 1 { s2 with img := { s2.img with slotPending := none, teamWide := false } }) else s2
    rqAnswer q .ok [(h : Int), (size : Int)] s3

/-- The handle a requester holds under a number. -/
def handleOf (s : State) (q : Rq) (h : Nat) : Option Handle :=
  ((s.rap.handles.find? (fun x => x.1 == h)).map (·.2)).bind (fun x => if x.who = q.key then some x else none)

/-- BLK_DATA (R481): bytes written are held; bytes read are answered, an open byte as a free value. Log 60: DEDUCED. -/
def blkData (q : Rq) (h off len : Nat) (bytes : List Byte) (s : State) : State :=
  match handleOf s q h with
  | none => rqAnswer q .badHandle [] s
  | some x =>
    if x.len < off + len then rqAnswer q .badHandle [] s
    else if domOn s (objDom x.obj) = false then rqAnswer q .domainOff [] s
    else if x.write then
      if bytes.length < len then rqAnswer q .badKind [] s
      else if len < bytes.length then rqAnswer q .tooLong [] s
      else
        let d := (bytes.foldl (fun (a : Nat × List (Nat × Nat)) b => (a.1 + 1, smSet zero a.1 b.toNat a.2)) (off, x.data)).2
        rqAnswer q .ok [(len : Int)] { s with rap := { s.rap with handles := smIns h { x with data := d } s.rap.handles } }
    else
      let l := (List.range len).map (fun i => (objByte s x.obj x.param (off + i)).getD ((Config.freeWord (s.freeCnt + i)).toNat % 256))
      rqAnswer q .ok ((len : Int) :: l.map (fun (b : Nat) => (b : Int))) { s with freeCnt := s.freeCnt + len }

/-- A prescription package holds (R405): the signature, before it is unwrapped; the agronomist's chain ends at the root of the livery in
force and is not revoked; it is for the job it is written to. Log 61: DESIGN CHOICE. -/
def packageOk (s : State) (p : RxPkg) (param : Nat) : Bool :=
  let n := fget s R.BRD_STATUS F.BRD_STATUS_LIVERY
  p.sigOk && (ownerRoot s n).any (fun r => chainHolds s r p.chain)
    && (livery s n).any (fun l => p.chain.all (fun x => !(l.revoked.contains x.serial)))
    && p.chain.all (fun x => !(s.cfg.secpol.revoked.contains x.serial))
    && p.keyOk && p.job == (if param % 2 ^ 32 = 0 then none else some (param % 2 ^ 32))

/-- What the object written through a handle becomes as the handle closes (R485). Log 61: DESIGN CHOICE. -/
def blkTake (x : Handle) (body : BlkBody) (s : State) : State × RapStatus :=
  match body with
  | .image c =>
    if x.obj = 1 then
      (setImgState 0 { s with img := { s.img with slotPending := some (c.fromBytes x.data x.len), uploaded := true } }, .ok)
    else (handleDrop x s, .ok)
  | .firmware f =>
    if x.obj = 2 then
      let v := { f with present := f.present && decide (f.len ≤ 24 * 1024 * 1024 - 4096) }
      match s.pwr.running with
      | some 0 => (rsetN { s with pwr := { s.pwr with slotB := v } } R.PWR_FW_VERB (if v.present then v.version else 0), .ok)
      | some _ => (rsetN { s with pwr := { s.pwr with slotA := v } } R.PWR_FW_VERA (if v.present then v.version else 0), .ok)
      | none => (s, .ok)
    else (handleDrop x s, .ok)
  | .object o => if x.obj = 0x50 then ({ s with brd := { s.brd with object := some o } }, .ok) else (handleDrop x s, .ok)
  | .rx p =>
    if x.obj = 0x51 then
      if packageOk s p x.param then ({ s with cov := { s.cov with rxTaken := s.cov.rxTaken ++ [x.param % 2 ^ 32] } }, .ok) else (s, .denied)
    else (handleDrop x s, .ok)
  | .none => (handleDrop x s, .ok)

/-- BLK_CLOSE (R485). Log 61: DESIGN CHOICE. -/
def blkClose (q : Rq) (h : Nat) (body : BlkBody) (s : State) : State :=
  match handleOf s q h with
  | none => rqAnswer q .badHandle [] s
  | some x =>
    let s1 := { s with rap := { s.rap with handles := smDel h s.rap.handles } }
    if x.write = false then rqAnswer q .ok [] s1
    else if domOn s (objDom x.obj) = false then rqAnswer q .domainOff [] (handleDrop x s1)
    else
      let r := blkTake x body s1
      rqAnswer q r.2 [] r.1

/-! ### Requests -/

/-- The request carries data of a block transfer (R483). -/
def isData : RapReq → Bool
  | .blkData _ _ _ _ => true
  | _ => false

/-- A request handled by this module (R481). -/
def rapHandle (q : Rq) (x : RapReq) (s : State) : State :=
  match x with
  | .read a n => rapRead q a (n.val + 1) s
  | .write a ws => rapWrite q a ws s
  | .blkOpen obj w p l => blkOpen q obj.val w p l s
  | .blkData h off len bytes => blkData q h.val off (len.val + 1) bytes s
  | .blkClose h body => blkClose q h.val body s

/-- A request of a session (R480 to R484): for this module, or carried over TC4 to the member PEER names. Log 60: DEDUCED. -/
def rapRequest (who : Nat) (peer : Option (Fin 64)) (tag : Nat) (x : RapReq) (s : State) : State :=
  if rapPath s = false then s else match rqOf s who with
  | none => rapAnswer s who .noSession []
  | some q =>
    match peer with
    | none => rapHandle q x s
    | some m =>
      if m.val = midOf s then rapHandle q x s
      else if m.val ∉ s.team.members then rapAnswer s who .noMember []
      else if 8 ≤ (s.rap.relays.filter (fun r => r.who == who)).length then rapAnswer s who .busy []
      else
        let s1 := { s with pwr := { s.pwr with stayFrom := s.tb } }
        let s2 := match sessOf s who with | some v => setSess who { v with lastAt := s.tb } s1 | none => s1
        let s3 := if who < 4 then s2 else canTake (fget s (R.BRD_SESS_STAT who) F.BRD_SESS_STAT_CTRL) 1 s2
        send { s3 with rap := { s3.rap with relays := s3.rap.relays ++ [⟨who, tag, m.val, s.tb⟩] } } (if isData x then MsgKind.RELAY_DATA else MsgKind.RELAY_REQUEST) m.val
          [(who : Int), (tag : Int), (roleCode q.role : Int)]

/-- RAP_READ (R479, R481). -/
def execRapRead (who : Fin 36) (peer : Option (Fin 64)) (tag : Fin 256) (addr : Nat) (n : Fin 64) (s : State) : Out :=
  .next (rapRequest who.val peer tag.val (.read addr n) s)

/-- RAP_WRITE (R478, R481). -/
def execRapWrite (who : Fin 36) (peer : Option (Fin 64)) (tag : Fin 256) (addr : Nat) (ws : List Word) (s : State) : Out :=
  .next (rapRequest who.val peer tag.val (.write addr ws) s)

/-- READ_LO_LATCH (R479): a READ of the one register LO, whose HI value is latched for the session. -/
def execReadLoLatch (who : Fin 36) (addr : Nat) (s : State) : Out :=
  .next (if isLo addr then rapRequest who.val none 0 (.read addr 0) s else s)

/-- BLK_OPEN (R485). -/
def execBlkOpen (who : Fin 36) (peer : Option (Fin 64)) (tag : Fin 256) (obj : Fin 256) (write : Bool) (param len : Nat) (s : State) : Out :=
  .next (rapRequest who.val peer tag.val (.blkOpen obj write param len) s)

/-- BLK_DATA (R481). -/
def execBlkData (who : Fin 36) (peer : Option (Fin 64)) (tag : Fin 256) (h : Fin 256) (off : Nat) (len : Fin 1024) (bytes : List Byte)
    (s : State) : Out :=
  .next (rapRequest who.val peer tag.val (.blkData h off len bytes) s)

/-- BLK_CLOSE (R485). -/
def execBlkClose (who : Fin 36) (peer : Option (Fin 64)) (tag : Fin 256) (h : Fin 256) (body : BlkBody) (s : State) : Out :=
  .next (rapRequest who.val peer tag.val (.blkClose h body) s)

/-! ### Relays -/

/-- RAP_RELAY_REQUEST (R483): from a member of the team, under the role of the originating session. RAP needs PD1, and its path PD6 (R477). -/
def execRapRelayRequest (src : Fin 64) (sess : Fin 36) (tag : Fin 256) (role : Role) (lease : Option (Fin 8)) (q : RapReq) (s : State) : Out :=
  .next (if src.val ∈ otherMembers s ∧ domOn s 1 = true ∧ domOn s 6 = true then
      rapHandle ⟨role, lease.map (·.val), 64 + src.val, some (src.val, sess.val, tag.val), isData q⟩ q s
    else s)

/-- The relay a response or a timeout belongs to. -/
def relayOf (s : State) (who tag : Nat) : Option Relay := s.rap.relays.find? (fun r => r.who == who && r.tag == tag)

/-- A relay is answered: it no longer waits. Log 60: DEDUCED. -/
def relayDone (who tag : Nat) (s : State) : State :=
  { s with rap := { s.rap with relays := removeFirst (fun r => r.who == who && r.tag == tag) s.rap.relays } }

/-- RAP_RELAY_RESPONSE (R483): from the member the request went to. -/
def execRapRelayResponse (src : Fin 64) (who : Fin 36) (tag : Fin 256) (st : RapStatus) (data : List Int) (s : State) : Out :=
  .next (match relayOf s who.val tag.val with
    | some r => if r.mid = src.val then rapAnswer (relayDone who.val tag.val s) who.val st data else s
    | none => s)

/-- RELAY_TIMEOUT (R483): no response within 1 s of the relay. -/
def execRelayTimeout (who : Fin 36) (tag : Fin 256) (s : State) : Out :=
  .next (match relayOf s who.val tag.val with
    | some r => if r.at_ + secTicks ≤ s.tb then rapAnswer (relayDone who.val tag.val s) who.val .relayTimeout [] else s
    | none => s)

end Sys2Proof.Machine
end

