-- ==== Sys2Proof/Machine/Tick.lean ====
section
/-!
DEFINITION. Machine/Tick.lean: what one tick of TB brings by itself (R14, R22, R32, R84, R241, R258, R335, R348, R393, R433).
-/

namespace Sys2Proof.Machine

/-- TB rises by one (R14, R22), unless a joiner that is ahead withholds the tick: 1 in 2,000 (R348). Log 3: DESIGN CHOICE. Log 52: DEDUCED. -/
def tbAdvance (s : State) : State :=
  if s.pwr.tbRun = false then s
  else if s.team.slewLeft ≠ 0 ∧ 2000 ≤ s.team.slewCnt + 1 then
    { s with team := { s.team with slewLeft := s.team.slewLeft - 1, slewCnt := 0 } }
  else { s with tb := s.tb + 1, team := { s.team with slewCnt := if s.team.slewLeft = 0 then s.team.slewCnt else s.team.slewCnt + 1 } }

/-- Operating time runs while the module is awake (R433). Log 3: DESIGN CHOICE. -/
def optAdvance (s : State) : State :=
  if s.pwr.asleep then s else { s with stb := { s.stb with optTicks := s.stb.optTicks + 1 } }

/-- One tick: TB and operating time, then what is due at the new tick: loads of counters (R84), the forces (R241), a partner's wired values, retries that an edge of
their waveform cancels (R258), messages handed to the links (R335), and TT_HWM (R393). Log 3: DESIGN CHOICE. -/
def tick (s : State) : State :=
  if s.pwr.powered = false then s
  else hwmFollow (linkFeed (retryTick (pairTick (forceTick (loadTick (optAdvance (tbAdvance s)))))))

end Sys2Proof.Machine
end

