-- ==== Sys2Proof/Machine/Dispatch.lean ====
section
/-!
DEFINITION. Machine/Dispatch.lean: the command and its meaning, one arm for each constructor of Instr.
-/

namespace Sys2Proof.Machine

/-- The effect of a command on everything but the queue. -/
def exec (i : Instr) (s : State) : Host.Outcome State Fault Refusal :=
  match i with
  | .powerUp b => Sys2Proof.Machine.execPowerUp b s
  | .strapChanged v => Sys2Proof.Machine.execStrapChanged v s
  | .levelRise => Sys2Proof.Machine.execLevelRise s
  | .vlogOvervoltage vlog => Sys2Proof.Machine.execVlogOvervoltage vlog s
  | .vlogOvRecover vlog => Sys2Proof.Machine.execVlogOvRecover vlog s
  | .brownout vlog flushed => Sys2Proof.Machine.execBrownout vlog flushed s
  | .brownoutRestart vlog => Sys2Proof.Machine.execBrownoutRestart vlog s
  | .vlogLoss => Sys2Proof.Machine.execVlogLoss s
  | .activateFw who => Sys2Proof.Machine.execActivateFw who s
  | .fwCancel who => Sys2Proof.Machine.execFwCancel who s
  | .fwTrialConfirm => Sys2Proof.Machine.execFwTrialConfirm s
  | .fwTrialFail => Sys2Proof.Machine.execFwTrialFail s
  | .attnNActive => Sys2Proof.Machine.execAttnNActive s
  | .attnNInactive => Sys2Proof.Machine.execAttnNInactive s
  | .keyoffCondition => Sys2Proof.Machine.execKeyoffCondition s
  | .sleep who => Sys2Proof.Machine.execSleep who s
  | .stay who => Sys2Proof.Machine.execStay who s
  | .keyoffReport m => Sys2Proof.Machine.execKeyoffReport m s
  | .keyoffStart full => Sys2Proof.Machine.execKeyoffStart full s
  | .keyoffForce => Sys2Proof.Machine.execKeyoffForce s
  | .wakeCan ctrl w => Sys2Proof.Machine.execWakeCan ctrl w s
  | .wakeLink n => Sys2Proof.Machine.execWakeLink n s
  | .wakeHalter => Sys2Proof.Machine.execWakeHalter s
  | .wakeTimer => Sys2Proof.Machine.execWakeTimer s
  | .stayAwakeExpiry => Sys2Proof.Machine.execStayAwakeExpiry s
  | .gaitWindow l => Sys2Proof.Machine.execGaitWindow l s
  | .clockMonitorWindow ao ref safe => Sys2Proof.Machine.execClockMonitorWindow ao ref safe s
  | .clkRefLoss => Sys2Proof.Machine.execClkRefLoss s
  | .refReturn => Sys2Proof.Machine.execRefReturn s
  | .memoryErrorDetected e => Sys2Proof.Machine.execMemoryErrorDetected e s
  | .dualRailError unit => Sys2Proof.Machine.execDualRailError unit s
  | .dramScrub found => Sys2Proof.Machine.execDramScrub found s
  | .imgCheck who => Sys2Proof.Machine.execImgCheck who s
  | .imgActivate who => Sys2Proof.Machine.execImgActivate who s
  | .imgAbort who => Sys2Proof.Machine.execImgAbort who s
  | .restartActivate who => Sys2Proof.Machine.execRestartActivate who s
  | .imgRevert who => Sys2Proof.Machine.execImgRevert who s
  | .teamImage c => Sys2Proof.Machine.execTeamImage c s
  | .stagedOk m code => Sys2Proof.Machine.execStagedOk m code s
  | .stagingTimeout => Sys2Proof.Machine.execStagingTimeout s
  | .prepare C => Sys2Proof.Machine.execPrepare C s
  | .swapAbort => Sys2Proof.Machine.execSwapAbort s
  | .swapQuiesceStart => Sys2Proof.Machine.execSwapQuiesceStart s
  | .swapCommit => Sys2Proof.Machine.execSwapCommit s
  | .jointSourceFail chain link second => Sys2Proof.Machine.execJointSourceFail chain link second s
  | .jointSrc1Return chain link => Sys2Proof.Machine.execJointSrc1Return chain link s
  | .jointHoldExpiry chain link => Sys2Proof.Machine.execJointHoldExpiry chain link s
  | .geomPairDiff chain link theirs => Sys2Proof.Machine.execGeomPairDiff chain link theirs s
  | .inputEdgeAccepted ch a b z => Sys2Proof.Machine.execInputEdgeAccepted ch a b z s
  | .fastEdge ch => Sys2Proof.Machine.execFastEdge ch s
  | .chFaultClear ch => Sys2Proof.Machine.execChFaultClear ch s
  | .wireBreak ch inp => Sys2Proof.Machine.execWireBreak ch inp s
  | .indexTimeout ch inp => Sys2Proof.Machine.execIndexTimeout ch inp s
  | .fbiLoad who ch => Sys2Proof.Machine.execFbiLoad who ch s
  | .fbiArm who ch => Sys2Proof.Machine.execFbiArm who ch s
  | .fbiClear who ch => Sys2Proof.Machine.execFbiClear who ch s
  | .cmpValHiWrite who k hi => Sys2Proof.Machine.execCmpValHiWrite who k hi s
  | .cmpPulseEnd k => Sys2Proof.Machine.execCmpPulseEnd k s
  | .ssiRead k data status check wireLow => Sys2Proof.Machine.execSsiRead k data status check wireLow s
  | .ainSample n code above => Sys2Proof.Machine.execAinSample n code above s
  | .shuntOpen n => Sys2Proof.Machine.execShuntOpen n s
  | .shuntClose n high => Sys2Proof.Machine.execShuntClose n high s
  | .supplyLimitOff b => Sys2Proof.Machine.execSupplyLimitOff b s
  | .supplyRetry b => Sys2Proof.Machine.execSupplyRetry b s
  | .antBiasCheck ua => Sys2Proof.Machine.execAntBiasCheck ua s
  | .antShort => Sys2Proof.Machine.execAntShort s
  | .antBiasRetry => Sys2Proof.Machine.execAntBiasRetry s
  | .availabilityEval a => Sys2Proof.Machine.execAvailabilityEval a s
  | .acqRound found => Sys2Proof.Machine.execAcqRound found s
  | .pullInTimeout ch => Sys2Proof.Machine.execPullInTimeout ch s
  | .acqPowerOff => Sys2Proof.Machine.execAcqPowerOff s
  | .trackingDump ch d => Sys2Proof.Machine.execTrackingDump ch d s
  | .cn0Loss ch => Sys2Proof.Machine.execCn0Loss ch s
  | .epochStrobe e => Sys2Proof.Machine.execEpochStrobe e s
  | .gnssRecord r c e => Sys2Proof.Machine.execGnssRecord r c e s
  | .exclusionEnd ant sat => Sys2Proof.Machine.execExclusionEnd ant sat s
  | .suspectClear ant => Sys2Proof.Machine.execSuspectClear ant s
  | .spoofClear => Sys2Proof.Machine.execSpoofClear s
  | .interferenceFft lines gain jn => Sys2Proof.Machine.execInterferenceFft lines gain jn s
  | .nomGainUpdate => Sys2Proof.Machine.execNomGainUpdate s
  | .poseRecordPublish f => Sys2Proof.Machine.execPoseRecordPublish f s
  | .poseRecord r => Sys2Proof.Machine.execPoseRecord r s
  | .drLimitExpiry => Sys2Proof.Machine.execDrLimitExpiry s
  | .rtcmMessage path typ station epoch crcOk => Sys2Proof.Machine.execRtcmMessage path typ station epoch crcOk s
  | .externalPosePgn ctrl pgn acc ok tt => Sys2Proof.Machine.execExternalPosePgn ctrl pgn acc ok tt s
  | .speedMessage ctrl v ok => Sys2Proof.Machine.execSpeedMessage ctrl v ok s
  | .insSample crcOk => Sys2Proof.Machine.execInsSample crcOk s
  | .ttOfsAnnounce ofs b st => Sys2Proof.Machine.execTtOfsAnnounce ofs b st s
  | .ttOfsApply => Sys2Proof.Machine.execTtOfsApply s
  | .holdoverLimit => Sys2Proof.Machine.execHoldoverLimit s
  | .tpoPulse sec => Sys2Proof.Machine.execTpoPulse sec s
  | .tpoPulseEnd => Sys2Proof.Machine.execTpoPulseEnd s
  | .slewEnd => Sys2Proof.Machine.execSlewEnd s
  | .strideBoundary => Sys2Proof.Machine.execStrideBoundary s
  | .strideCutoff cuts => Sys2Proof.Machine.execStrideCutoff cuts s
  | .strideFullRestore => Sys2Proof.Machine.execStrideFullRestore s
  | .strideWriteback mis => Sys2Proof.Machine.execStrideWriteback mis s
  | .eventCommit out => Sys2Proof.Machine.execEventCommit out s
  | .recentPlaneSweep => Sys2Proof.Machine.execRecentPlaneSweep s
  | .debugHalt who => Sys2Proof.Machine.execDebugHalt who s
  | .debugResume who => Sys2Proof.Machine.execDebugResume who s
  | .tileFill t => Sys2Proof.Machine.execTileFill t s
  | .commitStrip x => Sys2Proof.Machine.execCommitStrip x s
  | .holeResend pos out seq => Sys2Proof.Machine.execHoleResend pos out seq s
  | .resendRequest m out seq => Sys2Proof.Machine.execResendRequest m out seq s
  | .replicaHole pos out seq => Sys2Proof.Machine.execReplicaHole pos out seq s
  | .catchUpStart m => Sys2Proof.Machine.execCatchUpStart m s
  | .catchUpSeqTable S start tab => Sys2Proof.Machine.execCatchUpSeqTable S start tab s
  | .catchUpTile t codes last => Sys2Proof.Machine.execCatchUpTile t codes last s
  | .jobLoad who job => Sys2Proof.Machine.execJobLoad who job s
  | .jobLoadDone => Sys2Proof.Machine.execJobLoadDone s
  | .jobDefinition job => Sys2Proof.Machine.execJobDefinition job s
  | .rasterHash m hash => Sys2Proof.Machine.execRasterHash m hash s
  | .rasterHashTimeout m => Sys2Proof.Machine.execRasterHashTimeout m s
  | .jobStart who => Sys2Proof.Machine.execJobStart who s
  | .jobSuspend who => Sys2Proof.Machine.execJobSuspend who s
  | .jobResume who => Sys2Proof.Machine.execJobResume who s
  | .jobRunApply b => Sys2Proof.Machine.execJobRunApply b s
  | .jobSuspended full => Sys2Proof.Machine.execJobSuspended full s
  | .jobClose who => Sys2Proof.Machine.execJobClose who s
  | .jobCloseDone full => Sys2Proof.Machine.execJobCloseDone full s
  | .jobDiscard who => Sys2Proof.Machine.execJobDiscard who s
  | .jobExport who => Sys2Proof.Machine.execJobExport who s
  | .exportDone => Sys2Proof.Machine.execExportDone s
  | .addExcl who n p => Sys2Proof.Machine.execAddExcl who n p s
  | .exclAck m n => Sys2Proof.Machine.execExclAck m n s
  | .exclApply n b => Sys2Proof.Machine.execExclApply n b s
  | .jobStore full => Sys2Proof.Machine.execJobStore full s
  | .masterWrite who b => Sys2Proof.Machine.execMasterWrite who b s
  | .secswWrite who k w => Sys2Proof.Machine.execSecswWrite who k w s
  | .stallWrite who n w => Sys2Proof.Machine.execStallWrite who n w s
  | .teamStateChange m c => Sys2Proof.Machine.execTeamStateChange m c s
  | .sectionStateApply b c => Sys2Proof.Machine.execSectionStateApply b c s
  | .modeReqWrite who b => Sys2Proof.Machine.execModeReqWrite who b s
  | .tcSetpoint sect on fwd => Sys2Proof.Machine.execTcSetpoint sect on fwd s
  | .tcStatus scOn fwd => Sys2Proof.Machine.execTcStatus scOn fwd s
  | .tcLoss => Sys2Proof.Machine.execTcLoss s
  | .modeChangeApply M c => Sys2Proof.Machine.execModeChangeApply M c s
  | .alleySet who => Sys2Proof.Machine.execAlleySet who s
  | .alleyOrient who b => Sys2Proof.Machine.execAlleyOrient who b s
  | .shadowWrite src ch phase v => Sys2Proof.Machine.execShadowWrite src ch phase v s
  | .loadAll src k cancel => Sys2Proof.Machine.execLoadAll src k cancel s
  | .lgCancel src k => Sys2Proof.Machine.execLgCancel src k s
  | .lgTransfer k => Sys2Proof.Machine.execLgTransfer k s
  | .forceCommit who clear => Sys2Proof.Machine.execForceCommit who clear s
  | .forceClearAll who => Sys2Proof.Machine.execForceClearAll who s
  | .forceTimeout => Sys2Proof.Machine.execForceTimeout s
  | .tripActive k => Sys2Proof.Machine.execTripActive k s
  | .tripInactive k => Sys2Proof.Machine.execTripInactive k s
  | .tripClear who k => Sys2Proof.Machine.execTripClear who k s
  | .tripAutoRelease k => Sys2Proof.Machine.execTripAutoRelease k s
  | .tripSafeSample k => Sys2Proof.Machine.execTripSafeSample k s
  | .ownWrite expiry => Sys2Proof.Machine.execOwnWrite expiry s
  | .wdExpired => Sys2Proof.Machine.execWdExpired s
  | .wdSuspendWrite who b => Sys2Proof.Machine.execWdSuspendWrite who b s
  | .currentSample ch code segs partner mv => Sys2Proof.Machine.execCurrentSample ch code segs partner mv s
  | .olUnknown ch => Sys2Proof.Machine.execOlUnknown ch s
  | .shortTrip ch => Sys2Proof.Machine.execShortTrip ch s
  | .retry ch => Sys2Proof.Machine.execRetry ch s
  | .retryWindowEnd ch => Sys2Proof.Machine.execRetryWindowEnd ch s
  | .thermalOff ch => Sys2Proof.Machine.execThermalOff ch s
  | .thermalOn ch => Sys2Proof.Machine.execThermalOn ch s
  | .clusterWarn c temp => Sys2Proof.Machine.execClusterWarn c temp s
  | .clusterWarnClear c temp => Sys2Proof.Machine.execClusterWarnClear c temp s
  | .clampEvent ch i0 tcl vf => Sys2Proof.Machine.execClampEvent ch i0 tcl vf s
  | .channelClear who ch => Sys2Proof.Machine.execChannelClear who ch s
  | .latchAutoClear ch => Sys2Proof.Machine.execLatchAutoClear ch s
  | .feedUv f => Sys2Proof.Machine.execFeedUv f s
  | .feedRestart f => Sys2Proof.Machine.execFeedRestart f s
  | .feedRestartSecond f => Sys2Proof.Machine.execFeedRestartSecond f s
  | .feedOverload f => Sys2Proof.Machine.execFeedOverload f s
  | .segmentStuckCheck ch seg => Sys2Proof.Machine.execSegmentStuckCheck ch seg s
  | .pairWiredUpdate ch gate force duty phase tick => Sys2Proof.Machine.execPairWiredUpdate ch gate force duty phase tick s
  | .hbDesat m => Sys2Proof.Machine.execHbDesat m s
  | .hbDrvUv m => Sys2Proof.Machine.execHbDrvUv m s
  | .hbDrvUvRelease m => Sys2Proof.Machine.execHbDrvUvRelease m s
  | .hbClear who m => Sys2Proof.Machine.execHbClear who m s
  | .halterInput i0 active => Sys2Proof.Machine.execHalterInput i0 active s
  | .halterEnActive => Sys2Proof.Machine.execHalterEnActive s
  | .coreNotAlive => Sys2Proof.Machine.execCoreNotAlive s
  | .halterEnInactive => Sys2Proof.Machine.execHalterEnInactive s
  | .halterPulse ch => Sys2Proof.Machine.execHalterPulse ch s
  | .halterStuck i0 => Sys2Proof.Machine.execHalterStuck i0 s
  | .loopStep n mis => Sys2Proof.Machine.execLoopStep n mis s
  | .loopLate n => Sys2Proof.Machine.execLoopLate n s
  | .loopHoldTimeout n => Sys2Proof.Machine.execLoopHoldTimeout n s
  | .loopAuto who n => Sys2Proof.Machine.execLoopAuto who n s
  | .loopManual who n => Sys2Proof.Machine.execLoopManual who n s
  | .curbAuto who k => Sys2Proof.Machine.execCurbAuto who k s
  | .curbManual who k => Sys2Proof.Machine.execCurbManual who k s
  | .traceArm who => Sys2Proof.Machine.execTraceArm who s
  | .traceStop who => Sys2Proof.Machine.execTraceStop who s
  | .traceForce who => Sys2Proof.Machine.execTraceForce who s
  | .injStart who => Sys2Proof.Machine.execInjStart who s
  | .injStop who => Sys2Proof.Machine.execInjStop who s
  | .injDurationEnd => Sys2Proof.Machine.execInjDurationEnd s
  | .canFrame ctrl f sof => Sys2Proof.Machine.execCanFrame ctrl f sof s
  | .canQueueDrain ctrl tagF => Sys2Proof.Machine.execCanQueueDrain ctrl tagF s
  | .canError ctrl code tx dom step => Sys2Proof.Machine.execCanError ctrl code tx dom step s
  | .busOffRecovery ctrl => Sys2Proof.Machine.execBusOffRecovery ctrl s
  | .canRecover who ctrl => Sys2Proof.Machine.execCanRecover who ctrl s
  | .canModeWrite who ctrl mode => Sys2Proof.Machine.execCanModeWrite who ctrl mode s
  | .canModeApply ctrl => Sys2Proof.Machine.execCanModeApply ctrl s
  | .slotArm who ctrl slot => Sys2Proof.Machine.execSlotArm who ctrl slot s
  | .slotAbort who ctrl slot => Sys2Proof.Machine.execSlotAbort who ctrl slot s
  | .startOpportunity ctrl q => Sys2Proof.Machine.execStartOpportunity ctrl q s
  | .canTxEnd ctrl res tdcv => Sys2Proof.Machine.execCanTxEnd ctrl res tdcv s
  | .addressClaim ctrl => Sys2Proof.Machine.execAddressClaim ctrl s
  | .claimQuietEnd ctrl => Sys2Proof.Machine.execClaimQuietEnd ctrl s
  | .addressClaimedReceived ctrl addr name => Sys2Proof.Machine.execAddressClaimedReceived ctrl addr name s
  | .requestAddressClaimed ctrl => Sys2Proof.Machine.execRequestAddressClaimed ctrl s
  | .commandedAddress ctrl name addr => Sys2Proof.Machine.execCommandedAddress ctrl name addr s
  | .dm3Clear ctrl => Sys2Proof.Machine.execDm3Clear ctrl s
  | .dm11Clear ctrl => Sys2Proof.Machine.execDm11Clear ctrl s
  | .isoTransport ctrl peer out bam pgn part tagF => Sys2Proof.Machine.execIsoTransport ctrl peer out bam pgn part tagF s
  | .linkFrame n f crcOk => Sys2Proof.Machine.execLinkFrame n f crcOk s
  | .lcFrame n m => Sys2Proof.Machine.execLcFrame n m s
  | .linkAckTimeout n cls => Sys2Proof.Machine.execLinkAckTimeout n cls s
  | .linkDown n => Sys2Proof.Machine.execLinkDown n s
  | .linkTraining n => Sys2Proof.Machine.execLinkTraining n s
  | .linkUp n peer => Sys2Proof.Machine.execLinkUp n peer s
  | .helloSend => Sys2Proof.Machine.execHelloSend s
  | .hello n h => Sys2Proof.Machine.execHello n h s
  | .discoveryEnd => Sys2Proof.Machine.execDiscoveryEnd s
  | .leaderBeatSend => Sys2Proof.Machine.execLeaderBeatSend s
  | .leaderBeat m term members => Sys2Proof.Machine.execLeaderBeat m term members s
  | .leaderLost => Sys2Proof.Machine.execLeaderLost s
  | .roleMoveApply role pos => Sys2Proof.Machine.execRoleMoveApply role pos s
  | .routingTable t => Sys2Proof.Machine.execRoutingTable t s
  | .routingTableApply => Sys2Proof.Machine.execRoutingTableApply s
  | .timeSyncRequest n frac => Sys2Proof.Machine.execTimeSyncRequest n frac s
  | .timeSyncRequestRx n frac turn => Sys2Proof.Machine.execTimeSyncRequestRx n frac turn s
  | .timeSyncReply n frac t2 t3 ofs => Sys2Proof.Machine.execTimeSyncReply n frac t2 t3 ofs s
  | .tbSlewDone => Sys2Proof.Machine.execTbSlewDone s
  | .shadowState sh ok => Sys2Proof.Machine.execShadowState sh ok s
  | .plHeartbeatSend => Sys2Proof.Machine.execPlHeartbeatSend s
  | .plHeartbeat cnt driving healthy handover => Sys2Proof.Machine.execPlHeartbeat cnt driving healthy handover s
  | .partnerLost => Sys2Proof.Machine.execPartnerLost s
  | .takeoverComplete => Sys2Proof.Machine.execTakeoverComplete s
  | .driveClaim m T => Sys2Proof.Machine.execDriveClaim m T s
  | .positionSafe pos => Sys2Proof.Machine.execPositionSafe pos s
  | .partnerAbsentReport => Sys2Proof.Machine.execPartnerAbsentReport s
  | .pairUnresolved => Sys2Proof.Machine.execPairUnresolved s
  | .handover who => Sys2Proof.Machine.execHandover who s
  | .handoverApply => Sys2Proof.Machine.execHandoverApply s
  | .safetyEvaluation no nc rbH rbL short srst selfBad mv temp => Sys2Proof.Machine.execSafetyEvaluation no nc rbH rbL short srst selfBad mv temp s
  | .islandHeartbeatLoss => Sys2Proof.Machine.execIslandHeartbeatLoss s
  | .siChannelAccepted ch high => Sys2Proof.Machine.execSiChannelAccepted ch high s
  | .testPulse b stuck own cross => Sys2Proof.Machine.execTestPulse b stuck own cross s
  | .discrepancy x => Sys2Proof.Machine.execDiscrepancy x s
  | .soOffPulseTest x low ok => Sys2Proof.Machine.execSoOffPulseTest x low ok s
  | .soPrecloseTest x ok => Sys2Proof.Machine.execSoPrecloseTest x ok s
  | .soStuck x => Sys2Proof.Machine.execSoStuck x s
  | .soOpenFail x => Sys2Proof.Machine.execSoOpenFail x s
  | .srstEdge => Sys2Proof.Machine.execSrstEdge s
  | .srstStuck => Sys2Proof.Machine.execSrstStuck s
  | .soAutoRestart x => Sys2Proof.Machine.execSoAutoRestart x s
  | .safetyPduSend n => Sys2Proof.Machine.execSafetyPduSend n s
  | .safetyPdu ctrl src conn ver seq sig stat chk => Sys2Proof.Machine.execSafetyPdu ctrl src conn ver seq sig stat chk s
  | .connTimeout n => Sys2Proof.Machine.execConnTimeout n s
  | .tlsHandshake c => Sys2Proof.Machine.execTlsHandshake c s
  | .tlsIdleTimeout k => Sys2Proof.Machine.execTlsIdleTimeout k s
  | .tlsLifetimeEnd k => Sys2Proof.Machine.execTlsLifetimeEnd k s
  | .tlsKeyUpdate k rx => Sys2Proof.Machine.execTlsKeyUpdate k rx s
  | .rapSession ctrl addr m => Sys2Proof.Machine.execRapSession ctrl addr m s
  | .canSessionRekey who => Sys2Proof.Machine.execCanSessionRekey who s
  | .ttHwmStore => Sys2Proof.Machine.execTtHwmStore s
  | .enrollOwner who => Sys2Proof.Machine.execEnrollOwner who s
  | .bindLivery who => Sys2Proof.Machine.execBindLivery who s
  | .selectLivery who => Sys2Proof.Machine.execSelectLivery who s
  | .installLease who => Sys2Proof.Machine.execInstallLease who s
  | .revokeLease who => Sys2Proof.Machine.execRevokeLease who s
  | .closeLease who => Sys2Proof.Machine.execCloseLease who s
  | .leaseExpiry m => Sys2Proof.Machine.execLeaseExpiry m s
  | .transfer who => Sys2Proof.Machine.execTransfer who s
  | .transferApply => Sys2Proof.Machine.execTransferApply s
  | .reclaim who => Sys2Proof.Machine.execReclaim who s
  | .unlock who => Sys2Proof.Machine.execUnlock who s
  | .relock who => Sys2Proof.Machine.execRelock who s
  | .unlockExpiry => Sys2Proof.Machine.execUnlockExpiry s
  | .tskRotation => Sys2Proof.Machine.execTskRotation s
  | .brdChalRead who => Sys2Proof.Machine.execBrdChalRead who s
  | .stbChalRead who => Sys2Proof.Machine.execStbChalRead who s
  | .laneSlice loop => Sys2Proof.Machine.execLaneSlice loop s
  | .laneSliceResult loop ok sig w => Sys2Proof.Machine.execLaneSliceResult loop ok sig w s
  | .navCoreSlice core t => Sys2Proof.Machine.execNavCoreSlice core t s
  | .acqTileSlice tile t => Sys2Proof.Machine.execAcqTileSlice tile t s
  | .trkBankSlice bank t => Sys2Proof.Machine.execTrkBankSlice bank t s
  | .sramRowTest m row t => Sys2Proof.Machine.execSramRowTest m row t s
  | .dramPageTest page bank row t => Sys2Proof.Machine.execDramPageTest page bank row t s
  | .curAdcReference c code => Sys2Proof.Machine.execCurAdcReference c code s
  | .ainResample n code => Sys2Proof.Machine.execAinResample n code s
  | .retest who kind index t => Sys2Proof.Machine.execRetest who kind index t s
  | .farrierPause who => Sys2Proof.Machine.execFarrierPause who s
  | .farrierResume who => Sys2Proof.Machine.execFarrierResume who s
  | .recordWrite => Sys2Proof.Machine.execRecordWrite s
  | .droppedRecord => Sys2Proof.Machine.execDroppedRecord s
  | .tbMark => Sys2Proof.Machine.execTbMark s
  | .optSave => Sys2Proof.Machine.execOptSave s
  | .freeze who => Sys2Proof.Machine.execFreeze who s
  | .unfreeze who => Sys2Proof.Machine.execUnfreeze who s
  | .freezeTimeout => Sys2Proof.Machine.execFreezeTimeout s
  | .stbClear who mask p => Sys2Proof.Machine.execStbClear who mask p s
  | .stbExport who mask => Sys2Proof.Machine.execStbExport who mask s
  | .collect who mask => Sys2Proof.Machine.execCollect who mask s
  | .collectAnswer m serial first last bytes => Sys2Proof.Machine.execCollectAnswer m serial first last bytes s
  | .collectTimeout m => Sys2Proof.Machine.execCollectTimeout m s
  | .faultReport => Sys2Proof.Machine.execFaultReport s
  | .fmHeartbeatLoss => Sys2Proof.Machine.execFmHeartbeatLoss s
  | .domainBack k f => Sys2Proof.Machine.execDomainBack k f s
  | .domainLost k => Sys2Proof.Machine.execDomainLost k s
  | .emmcLifeCheck a b eol => Sys2Proof.Machine.execEmmcLifeCheck a b eol s
  | .rapRead who peer tag addr n => Sys2Proof.Machine.execRapRead who peer tag addr n s
  | .rapWrite who peer tag addr ws => Sys2Proof.Machine.execRapWrite who peer tag addr ws s
  | .readLoLatch who addr => Sys2Proof.Machine.execReadLoLatch who addr s
  | .blkOpen who peer tag obj write param len => Sys2Proof.Machine.execBlkOpen who peer tag obj write param len s
  | .blkData who peer tag h off len bytes => Sys2Proof.Machine.execBlkData who peer tag h off len bytes s
  | .blkClose who peer tag h body => Sys2Proof.Machine.execBlkClose who peer tag h body s
  | .rapRelayRequest src sess tag role lease q => Sys2Proof.Machine.execRapRelayRequest src sess tag role lease q s
  | .rapRelayResponse src who tag st data => Sys2Proof.Machine.execRapRelayResponse src who tag st data s
  | .relayTimeout who tag => Sys2Proof.Machine.execRelayTimeout who tag s
  | .vlogLow vlog => Sys2Proof.Machine.execVlogLow vlog s
  | .vlogHigh vlog => Sys2Proof.Machine.execVlogHigh vlog s
  | .wireBreakEnd ch inp => Sys2Proof.Machine.execWireBreakEnd ch inp s
  | .inertialSilence => Sys2Proof.Machine.execInertialSilence s
  | .lateLimExpiry ctrl slot => Sys2Proof.Machine.execLateLimExpiry ctrl slot s
  | .txTbReached ctrl slot => Sys2Proof.Machine.execTxTbReached ctrl slot s
  | .rekeyTimeout who => Sys2Proof.Machine.execRekeyTimeout who s
  | .partnerAck strip shadow => Sys2Proof.Machine.execPartnerAck strip shadow s
  | .leaseFrom m => Sys2Proof.Machine.execLeaseFrom m s
  | .teamRestart => Sys2Proof.Machine.execTeamRestart s
  | .tlsError k => Sys2Proof.Machine.execTlsError k s

end Sys2Proof.Machine
end

