-- ==== Sys2Proof/WellFormed.lean ====
section
/-!
DEFINITION. WellFormed.lean: the widths of the operands that Syntax.lean leaves as plain numbers: 32-bit addresses, 64-bit ticks, NAMEs and
serials (R14, R326, R486), message fields (R133, R325, R439, R442, R481, R485). A command whose operands are bounded by their types is well formed.
-/

namespace Sys2Proof

/-- The operands fit the fields they arrive in. -/
def Instr.wellFormed : Instr → Bool
  | .powerUp _ => true
  | .strapChanged _ => true
  | .levelRise => true
  | .vlogOvervoltage _ => true
  | .vlogOvRecover _ => true
  | .brownout _ _ => true
  | .brownoutRestart _ => true
  | .vlogLoss => true
  | .activateFw _ => true
  | .fwCancel _ => true
  | .fwTrialConfirm => true
  | .fwTrialFail => true
  | .attnNActive => true
  | .attnNInactive => true
  | .keyoffCondition => true
  | .sleep _ => true
  | .stay _ => true
  | .keyoffReport _ => true
  | .keyoffStart _ => true
  | .keyoffForce => true
  | .wakeCan _ _ => true
  | .wakeLink _ => true
  | .wakeHalter => true
  | .wakeTimer => true
  | .stayAwakeExpiry => true
  | .gaitWindow _ => true
  | .clockMonitorWindow _ _ _ => true
  | .clkRefLoss => true
  | .refReturn => true
  | .memoryErrorDetected _ => true
  | .dualRailError _ => true
  | .dramScrub _ => true
  | .imgCheck _ => true
  | .imgActivate _ => true
  | .imgAbort _ => true
  | .restartActivate _ => true
  | .imgRevert _ => true
  | .teamImage _ => true
  | .stagedOk _ _ => true
  | .stagingTimeout => true
  | .prepare C => decide (C < 2 ^ 64)
  | .swapAbort => true
  | .swapQuiesceStart => true
  | .swapCommit => true
  | .jointSourceFail _ _ _ => true
  | .jointSrc1Return _ _ => true
  | .jointHoldExpiry _ _ => true
  | .geomPairDiff _ _ _ => true
  | .inputEdgeAccepted _ _ _ _ => true
  | .fastEdge _ => true
  | .chFaultClear _ => true
  | .wireBreak _ _ => true
  | .indexTimeout _ _ => true
  | .fbiLoad _ _ => true
  | .fbiArm _ _ => true
  | .fbiClear _ _ => true
  | .cmpValHiWrite _ _ _ => true
  | .cmpPulseEnd _ => true
  | .ssiRead _ _ _ check _ => decide (check < 64)
  | .ainSample _ _ _ => true
  | .shuntOpen _ => true
  | .shuntClose _ _ => true
  | .supplyLimitOff _ => true
  | .supplyRetry _ => true
  | .antBiasCheck _ => true
  | .antShort => true
  | .antBiasRetry => true
  | .availabilityEval _ => true
  | .acqRound _ => true
  | .pullInTimeout _ => true
  | .acqPowerOff => true
  | .trackingDump _ _ => true
  | .cn0Loss _ => true
  | .epochStrobe _ => true
  | .gnssRecord _ _ _ => true
  | .exclusionEnd _ _ => true
  | .suspectClear _ => true
  | .spoofClear => true
  | .interferenceFft _ _ _ => true
  | .nomGainUpdate => true
  | .poseRecordPublish _ => true
  | .poseRecord _ => true
  | .drLimitExpiry => true
  | .rtcmMessage _ typ station _ _ => decide (typ < 4096) && decide (station < 4096)
  | .externalPosePgn _ pgn _ _ _ => decide (pgn < 2 ^ 18)
  | .speedMessage _ _ _ => true
  | .insSample _ => true
  | .ttOfsAnnounce _ b _ => decide (b < 2 ^ 64)
  | .ttOfsApply => true
  | .holdoverLimit => true
  | .tpoPulse _ => true
  | .tpoPulseEnd => true
  | .slewEnd => true
  | .strideBoundary => true
  | .strideCutoff _ => true
  | .strideFullRestore => true
  | .strideWriteback _ => true
  | .eventCommit _ => true
  | .recentPlaneSweep => true
  | .debugHalt _ => true
  | .debugResume _ => true
  | .tileFill _ => true
  | .commitStrip _ => true
  | .holeResend _ _ seq => decide (seq < 2 ^ 32)
  | .resendRequest _ _ seq => decide (seq < 2 ^ 32)
  | .replicaHole _ _ seq => decide (seq < 2 ^ 32)
  | .catchUpStart _ => true
  | .catchUpSeqTable S _ _ => decide (S < 2 ^ 64)
  | .catchUpTile _ _ _ => true
  | .jobLoad _ _ => true
  | .jobLoadDone => true
  | .jobDefinition _ => true
  | .rasterHash _ hash => decide (hash < 2 ^ 256)
  | .rasterHashTimeout _ => true
  | .jobStart _ => true
  | .jobSuspend _ => true
  | .jobResume _ => true
  | .jobRunApply b => decide (b < 2 ^ 64)
  | .jobSuspended _ => true
  | .jobClose _ => true
  | .jobCloseDone _ => true
  | .jobDiscard _ => true
  | .jobExport _ => true
  | .exportDone => true
  | .addExcl _ _ _ => true
  | .exclAck _ _ => true
  | .exclApply _ b => decide (b < 2 ^ 64)
  | .jobStore _ => true
  | .masterWrite _ _ => true
  | .secswWrite _ _ _ => true
  | .stallWrite _ _ _ => true
  | .teamStateChange _ _ => true
  | .sectionStateApply b _ => decide (b < 2 ^ 64)
  | .modeReqWrite _ _ => true
  | .tcSetpoint _ _ _ => true
  | .tcStatus _ _ => true
  | .tcLoss => true
  | .modeChangeApply M _ => decide (M < 2 ^ 64)
  | .alleySet _ => true
  | .alleyOrient _ _ => true
  | .shadowWrite _ _ _ _ => true
  | .loadAll _ _ _ => true
  | .lgCancel _ _ => true
  | .lgTransfer _ => true
  | .forceCommit _ _ => true
  | .forceClearAll _ => true
  | .forceTimeout => true
  | .tripActive _ => true
  | .tripInactive _ => true
  | .tripClear _ _ => true
  | .tripAutoRelease _ => true
  | .tripSafeSample _ => true
  | .ownWrite _ => true
  | .wdExpired => true
  | .wdSuspendWrite _ _ => true
  | .currentSample _ _ _ _ _ => true
  | .olUnknown _ => true
  | .shortTrip _ => true
  | .retry _ => true
  | .retryWindowEnd _ => true
  | .thermalOff _ => true
  | .thermalOn _ => true
  | .clusterWarn _ _ => true
  | .clusterWarnClear _ _ => true
  | .clampEvent _ _ _ _ => true
  | .channelClear _ _ => true
  | .latchAutoClear _ => true
  | .feedUv _ => true
  | .feedRestart _ => true
  | .feedRestartSecond _ => true
  | .feedOverload _ => true
  | .segmentStuckCheck _ _ => true
  | .pairWiredUpdate _ _ _ duty phase tick => decide (duty ≤ 65536) && decide (phase < 65536) && decide (tick < 2 ^ 64)
  | .hbDesat _ => true
  | .hbDrvUv _ => true
  | .hbDrvUvRelease _ => true
  | .hbClear _ _ => true
  | .halterInput _ _ => true
  | .halterEnActive => true
  | .coreNotAlive => true
  | .halterEnInactive => true
  | .halterPulse _ => true
  | .halterStuck _ => true
  | .loopStep _ _ => true
  | .loopLate _ => true
  | .loopHoldTimeout _ => true
  | .loopAuto _ _ => true
  | .loopManual _ _ => true
  | .curbAuto _ _ => true
  | .curbManual _ _ => true
  | .traceArm _ => true
  | .traceStop _ => true
  | .traceForce _ => true
  | .injStart _ => true
  | .injStop _ => true
  | .injDurationEnd => true
  | .canFrame _ _ sof => decide (sof < 2 ^ 64)
  | .canQueueDrain _ _ => true
  | .canError _ _ _ _ _ => true
  | .busOffRecovery _ => true
  | .canRecover _ _ => true
  | .canModeWrite _ _ _ => true
  | .canModeApply _ => true
  | .slotArm _ _ _ => true
  | .slotAbort _ _ _ => true
  | .startOpportunity _ q => decide (q < 2 ^ 64)
  | .canTxEnd _ _ _ => true
  | .addressClaim _ => true
  | .claimQuietEnd _ => true
  | .addressClaimedReceived _ _ name => decide (name < 2 ^ 64)
  | .requestAddressClaimed _ => true
  | .commandedAddress _ name _ => decide (name < 2 ^ 64)
  | .dm3Clear _ => true
  | .dm11Clear _ => true
  | .isoTransport _ _ _ _ pgn _ _ => decide (pgn < 2 ^ 18)
  | .linkFrame _ _ _ => true
  | .lcFrame _ _ => true
  | .linkAckTimeout _ _ => true
  | .linkDown _ => true
  | .linkTraining _ => true
  | .linkUp _ _ => true
  | .helloSend => true
  | .hello _ _ => true
  | .discoveryEnd => true
  | .leaderBeatSend => true
  | .leaderBeat _ _ _ => true
  | .leaderLost => true
  | .roleMoveApply _ _ => true
  | .routingTable _ => true
  | .routingTableApply => true
  | .timeSyncRequest _ _ => true
  | .timeSyncRequestRx _ _ _ => true
  | .timeSyncReply _ _ _ _ _ => true
  | .tbSlewDone => true
  | .shadowState _ _ => true
  | .plHeartbeatSend => true
  | .plHeartbeat _ _ _ _ => true
  | .partnerLost => true
  | .takeoverComplete => true
  | .driveClaim _ T => decide (T < 2 ^ 64)
  | .positionSafe _ => true
  | .partnerAbsentReport => true
  | .pairUnresolved => true
  | .handover _ => true
  | .handoverApply => true
  | .safetyEvaluation _ _ _ _ _ _ _ _ _ => true
  | .islandHeartbeatLoss => true
  | .siChannelAccepted _ _ => true
  | .testPulse _ _ _ _ => true
  | .discrepancy _ => true
  | .soOffPulseTest _ _ _ => true
  | .soPrecloseTest _ _ => true
  | .soStuck _ => true
  | .soOpenFail _ => true
  | .srstEdge => true
  | .srstStuck => true
  | .soAutoRestart _ => true
  | .safetyPduSend _ => true
  | .safetyPdu _ src _ _ _ _ _ _ => decide (src < 256)
  | .connTimeout _ => true
  | .tlsHandshake _ => true
  | .tlsIdleTimeout _ => true
  | .tlsLifetimeEnd _ => true
  | .tlsKeyUpdate _ _ => true
  | .rapSession _ _ _ => true
  | .canSessionRekey _ => true
  | .ttHwmStore => true
  | .enrollOwner _ => true
  | .bindLivery _ => true
  | .selectLivery _ => true
  | .installLease _ => true
  | .revokeLease _ => true
  | .closeLease _ => true
  | .leaseExpiry _ => true
  | .transfer _ => true
  | .transferApply => true
  | .reclaim _ => true
  | .unlock _ => true
  | .relock _ => true
  | .unlockExpiry => true
  | .tskRotation => true
  | .brdChalRead _ => true
  | .stbChalRead _ => true
  | .laneSlice _ => true
  | .laneSliceResult _ _ _ _ => true
  | .navCoreSlice _ _ => true
  | .acqTileSlice _ _ => true
  | .trkBankSlice _ _ => true
  | .sramRowTest _ _ _ => true
  | .dramPageTest _ _ _ _ => true
  | .curAdcReference _ _ => true
  | .ainResample _ _ => true
  | .retest _ _ _ _ => true
  | .farrierPause _ => true
  | .farrierResume _ => true
  | .recordWrite => true
  | .droppedRecord => true
  | .tbMark => true
  | .optSave => true
  | .freeze _ => true
  | .unfreeze _ => true
  | .freezeTimeout => true
  | .stbClear _ mask _ => decide (mask < 16)
  | .stbExport _ mask => decide (mask < 16)
  | .collect _ mask => decide (mask < 16)
  | .collectAnswer _ serial first last bytes => decide (serial < 2 ^ 64) && decide (first < 2 ^ 32) && decide (last < 2 ^ 32) && decide (bytes < 2 ^ 32)
  | .collectTimeout _ => true
  | .faultReport => true
  | .fmHeartbeatLoss => true
  | .domainBack _ _ => true
  | .domainLost _ => true
  | .emmcLifeCheck _ _ _ => true
  | .rapRead _ _ _ addr _ => decide (addr < 2 ^ 32)
  | .rapWrite _ _ _ addr ws => decide (addr < 2 ^ 32) && decide (ws.length ≤ 64)
  | .readLoLatch _ addr => decide (addr < 2 ^ 32)
  | .blkOpen _ _ _ _ _ param len => decide (param < 2 ^ 64) && decide (len < 2 ^ 32)
  | .blkData _ _ _ _ off _ bytes => decide (off < 2 ^ 32) && decide (bytes.length ≤ 1024)
  | .blkClose _ _ _ _ _ => true
  | .rapRelayRequest _ _ _ _ _ _ => true
  | .rapRelayResponse _ _ _ _ _ => true
  | .relayTimeout _ _ => true
  | .vlogLow _ => true
  | .vlogHigh _ => true
  | .wireBreakEnd _ _ => true
  | .inertialSilence => true
  | .lateLimExpiry _ _ => true
  | .txTbReached _ _ => true
  | .rekeyTimeout _ => true
  | .partnerAck _ _ => true
  | .leaseFrom _ => true
  | .teamRestart => true
  | .tlsError _ => true

end Sys2Proof
end

