-- ==== Sys2Proof/Safety.lean ====
section
/-!
DEFINITION. Safety.lean: what the statements call a safe step, a queue of well-formed commands, and the conditions on a state that every step is
to keep.
-/

namespace Sys2Proof.Machine

/-- The outcome is a next state. -/
def completes (o : Host.Outcome State Fault Refusal) : Bool :=
  match o with
  | .next _ => true
  | .fault _ => false
  | .refused _ => false

/-- The outcome is a next state with a property. -/
def nextWith (o : Host.Outcome State Fault Refusal) (p : State → Prop) : Prop :=
  match o with
  | .next t => p t
  | .fault _ => False
  | .refused _ => False

/-- Where the outcome is a next state, it has a property. -/
def ifNext (o : Host.Outcome State Fault Refusal) (p : State → Prop) : Prop :=
  match o with
  | .next t => p t
  | .fault _ => True
  | .refused _ => True

/-- Every command that waits is well formed. -/
def queueOk (s : State) : Bool := s.pending.all Instr.wellFormed

/-- The register file is in its one canonical form: addresses rise, and no entry equals the reset word. -/
def regsWf (s : State) : Bool := smWf resetWord s.regs

end Sys2Proof.Machine
end

