-- ==== Sys2Proof/Certificates/Slice0/Obligations.lean ====
section
/-!
DEFINITION. Certificates/Slice0/Obligations.lean: the statements for the provers. In every clause the outcome of a command is written out over the
named operations of Sys2Proof/Machine; what an equation does not change is unchanged.
-/

set_option linter.unusedVariables false

section

open Sys2Proof Sys2Proof.Machine

/-- For every command c and state s: a step of s with c at the front of its queue is exec of c on s with the queue's rest. On an empty queue the step
answers next of one tick of TB, which is the model's choice (log entry 3); while PD0 is unpowered a tick changes nothing. No word spells a
command, since the table gives its rows no bits. (R14, R32.) -/
def Obligations.StepRunsFrontCommand : Prop :=
  (∀ (c : Instr) (q : List Instr) (s : State), s.pending = c :: q → step s = exec c { s with pending := q }) ∧
  (∀ (c : Instr) (s : State), step { s with pending := c :: s.pending } = exec c s) ∧
  (∀ s : State, s.pending = [] → step s = .next (tick s)) ∧
  (∀ s : State, s.pwr.powered = false → tick s = s) ∧
  (∀ (s : State) (nbits w : Nat), s.withFetchWord nbits w = s)

/-- State.reset: every register reads its reset word of the register map (the tables' values, and zero where a table leaves one open, which is the
model's choice: log entry 1); TB counts from 0; the queue is empty; no message has been sent; the anti-rollback counts in OTP are 0; no record has
been raised and the mark lies above every SEQ; no force waits, no session, lease or livery exists, no firmware runs; and the register file is in
its canonical form. A power-up is due, so the first command with an effect is POWER_UP. (R14, R16, R24, R46, R432.) -/
def Obligations.ResetLeavesTheStatedValues : Prop :=
  (∀ a : Nat, rget State.reset a = resetWord a) ∧
  (State.reset.tb = 0 ∧ State.reset.pending = [] ∧ State.reset.sent = [] ∧ State.reset.img.otpSvn = 0 ∧ State.reset.pwr.otpFwSvn = 0) ∧
  (State.reset.stb.seq = 0 ∧ State.reset.stb.mark = 4096 ∧ State.reset.stb.raiseQ = [] ∧ State.reset.stb.log = []) ∧
  (State.reset.pwm.pend = none ∧ State.reset.brd.sess = [] ∧ State.reset.brd.leases = [] ∧ State.reset.brd.livs = [] ∧
    State.reset.pwr.running = none ∧ State.reset.pwr.startDue = true) ∧
  (regsWf State.reset = true ∧ queueOk State.reset = true) ∧
  (∀ b : Boot, 90 ≤ b.vlog.toNat → b.vlog.toNat ≤ 360 → step { State.reset with pending := [.powerUp b] } = .next (start b (domSet State.reset 0 true)))

/-- For POWER_UP, STRAP_CHANGED, VLOG_OVERVOLTAGE, VLOG_OV_RECOVER, BROWNOUT, BROWNOUT_RESTART and VLOG_LOSS: under the supply conditions under which
each happens, exec answers the next state that its rule describes; everything the equation does not name is as before. VLOG beyond 58.0 V, for
which spec/ states no behaviour, ends in the fault beyondRatings. That a brown-out whose flush was not made saves nothing is the model's reading
(log entry 19). (R337, R460, R461, R463, R494.) -/
def Obligations.SupplyCommandsComplete : Prop :=
  -- POWER_UP: a start that is due, with VLOG from 9.0 V (or after a wake) to 36.0 V
  (∀ (b : Boot) (s : State), s.pwr.powered = false ∨ s.pwr.startDue = true → b.vlog.toNat ≤ 360 →
    (s.pwr.powered = true → s.pwr.ovOff = false ∧ s.pwr.brown = false) →
    90 ≤ b.vlog.toNat ∨ (s.pwr.powered = true ∧ s.pwr.asleep = true) →
    exec (.powerUp b) s = .next (start b (domSet s 0 true))) ∧
  -- above 36.0 V and up to 58.0 V PD0 alone comes up, and the over-voltage is a fault
  (∀ (b : Boot) (s : State), s.pwr.powered = false → 360 < b.vlog.toNat → b.vlog.toNat ≤ 580 →
    exec (.powerUp b) s = .next (fault (domSet { fresh false s with pwr := { (fresh false s).pwr with
      powered := true, ovOff := true, startDue := true } } 0 true) Ev.VLOG_OV [(b.vlog.toNat : Int)])) ∧
  -- beyond 58.0 V: no behaviour is stated
  (∀ (b : Boot) (s : State), s.pwr.powered = false → 580 < b.vlog.toNat → exec (.powerUp b) s = .fault .beyondRatings) ∧
  -- STRAP_CHANGED: a fault with the old and the new reading; MID stays
  (∀ (v : BitVec 6) (s : State), s.pwr.powered = true → s.pwr.strapNow ≠ v.toNat →
    exec (.strapChanged v) s = .next (fault { s with pwr := { s.pwr with strapNow := v.toNat } } Ev.STRAP_CHANGED
      [(s.pwr.strapNow : Int), (v.toNat : Int)])) ∧
  -- VLOG_OVERVOLTAGE of an awake module: PD1 to PD11 go off, counted as a reset of class 6
  (∀ (v : BitVec 10) (s : State), s.pwr.powered = true → s.pwr.ovOff = false → s.pwr.asleep = false → s.pwr.startDue = false →
    360 < v.toNat → v.toNat ≤ 580 →
    exec (.vlogOvervoltage v) s =
      .next (levelLost (staged (fun x => moduleReset 8 (subsume 6 0 (resetCount x)))
        (let f := fault (fset s R.PWR_STATUS F.PWR_STATUS_VLOG v.toNat) Ev.VLOG_OV [(v.toNat : Int)]
         { f with pwr := { f.pwr with ovOff := true, supplyAt := s.tb } })))) ∧
  -- VLOG_OV_RECOVER: below 34.0 V, 100 ms of the island clock later
  (∀ (v : BitVec 10) (s : State), s.pwr.ovOff = true → v.toNat < 340 → supplyHeld s = true →
    exec (.vlogOvRecover v) s = .next (faultEnd { fset s R.PWR_STATUS F.PWR_STATUS_VLOG v.toNat with pwr := { s.pwr with ovOff := false } } Ev.VLOG_OV [])) ∧
  -- BROWNOUT whose flush was not made
  (∀ (v : BitVec 10) (s : State), s.pwr.powered = true → s.pwr.brown = false → v.toNat < 75 →
    exec (.brownout v false) s =
      .next (levelLost (staged moduleOff
        (let f := fault (fincSat (fset s R.PWR_STATUS F.PWR_STATUS_VLOG v.toNat) R.PWR_CAUSE F.PWR_CAUSE_BROWNOUTS) Ev.BROWNOUT
          [(v.toNat : Int)]
         { f with pwr := { f.pwr with brown := true, supplyAt := s.tb, cause := 10, startDue := false
                                      unclean := if s.pwr.asleep then s.pwr.unclean else true } })))) ∧
  -- BROWNOUT_RESTART: from 9.0 V, 100 ms later
  (∀ (v : BitVec 10) (s : State), s.pwr.brown = true → 90 ≤ v.toNat → supplyHeld s = true →
    exec (.brownoutRestart v) s = .next { fset s R.PWR_STATUS F.PWR_STATUS_VLOG v.toNat with
      pwr := { s.pwr with brown := false, asleep := false, startDue := true } }) ∧
  -- the 100 ms are AO's, which keeps to TB within 70 ppm; while TB stands no limit is set (the model's choice, log entry 63)
  (∀ s : State, s.pwr.supplyAt + msTicks 100 ≤ s.tb → supplyHeld s = true) ∧
  -- VLOG_LOSS of an awake module: PD0 goes off and the power-down was not clean
  (∀ s : State, s.pwr.powered = true → s.pwr.asleep = false → s.pwr.brown = false →
    exec .vlogLoss s =
      .next (let f := fresh false { s with pwr := { s.pwr with unclean := true } }
             domSet { f with pwr := { f.pwr with powered := false, startDue := true, cause := 1 } } 0 false))

/-- For VLOG_LOW and VLOG_HIGH of a powered module: the bit sets and the fault is raised below 9.0 V (above 32.0 V); it clears, with the end of the
fault, from 9.3 V up (to 31.7 V and below, the thresholds of R460); otherwise only the shown voltage changes. (R460, R476.) -/
def Obligations.SupplyWarningsShow : Prop :=
  (∀ (v : BitVec 10) (s : State), s.pwr.powered = true → fbit s R.PWR_STATUS F.PWR_STATUS_VLOG_LOW = false → v.toNat < 90 →
    exec (.vlogLow v) s = .next (fault (fsetb (fset s R.PWR_STATUS F.PWR_STATUS_VLOG v.toNat) R.PWR_STATUS F.PWR_STATUS_VLOG_LOW true)
      Ev.VLOG_LOW [(v.toNat : Int)])) ∧
  (∀ (v : BitVec 10) (s : State), s.pwr.powered = true → fbit s R.PWR_STATUS F.PWR_STATUS_VLOG_LOW = true → 93 ≤ v.toNat →
    exec (.vlogLow v) s = .next (faultEnd (fsetb (fset s R.PWR_STATUS F.PWR_STATUS_VLOG v.toNat) R.PWR_STATUS F.PWR_STATUS_VLOG_LOW false)
      Ev.VLOG_LOW [(v.toNat : Int)])) ∧
  (∀ (v : BitVec 10) (s : State), s.pwr.powered = true → (fbit s R.PWR_STATUS F.PWR_STATUS_VLOG_LOW = true ↔ v.toNat < 93) →
    90 ≤ v.toNat ∨ fbit s R.PWR_STATUS F.PWR_STATUS_VLOG_LOW = true →
    exec (.vlogLow v) s = .next (fset s R.PWR_STATUS F.PWR_STATUS_VLOG v.toNat)) ∧
  (∀ (v : BitVec 10) (s : State), s.pwr.powered = true → fbit s R.PWR_STATUS F.PWR_STATUS_VLOG_HIGH = false → 320 < v.toNat →
    exec (.vlogHigh v) s = .next (fault (fsetb (fset s R.PWR_STATUS F.PWR_STATUS_VLOG v.toNat) R.PWR_STATUS F.PWR_STATUS_VLOG_HIGH true)
      Ev.VLOG_HIGH [(v.toNat : Int)])) ∧
  (∀ (v : BitVec 10) (s : State), s.pwr.powered = true → fbit s R.PWR_STATUS F.PWR_STATUS_VLOG_HIGH = true → v.toNat ≤ 317 →
    exec (.vlogHigh v) s = .next (faultEnd (fsetb (fset s R.PWR_STATUS F.PWR_STATUS_VLOG v.toNat) R.PWR_STATUS F.PWR_STATUS_VLOG_HIGH false)
      Ev.VLOG_HIGH [(v.toNat : Int)])) ∧
  (∀ (v : BitVec 10) (s : State), s.pwr.powered = true → fbit s R.PWR_STATUS F.PWR_STATUS_VLOG_HIGH = true → 317 < v.toNat →
    exec (.vlogHigh v) s = .next (fset s R.PWR_STATUS F.PWR_STATUS_VLOG v.toNat))

/-- For ACTIVATE_FW, FW_CANCEL, FW_TRIAL_CONFIRM and FW_TRIAL_FAIL: both copies of the boot record are written with the slot and TRIAL that R468
names; a confirmed trial raises the OTP firmware count to the slot's SVN; a failed trial resets the module from the other slot. That a cancel
makes the running slot preferred again, and that L1 is missed at TB of 2.5 s, are readings of the model (DEDUCED, log entry 20). (R467, R468,
R476.) -/
def Obligations.FirmwareSlotCommandsComplete : Prop :=
  -- ACTIVATE_FW: the slot that does not run is preferred, on trial
  (∀ (who : Fin 36) (s : State) (r : Nat), rapMay s who.val .image 0 = true → s.pwr.running = some r →
    exec (.activateFw who) s = .next (rapAnswer (bootWrite (1 - r) true s) who.val .ok [])) ∧
  -- FW_CANCEL of a trial that has not begun
  (∀ (who : Fin 36) (s : State) (r : Nat), rapMay s who.val .image 0 = true → s.pwr.running = some r → (bootRec s).trial = true →
    s.pwr.trialRun = false →
    exec (.fwCancel who) s = .next (rapAnswer (bootWrite r false s) who.val .ok [])) ∧
  -- FW_TRIAL_CONFIRM: 60 s at L1 or above without a fault of class 5 or 6
  (∀ (s : State) (t r : Nat), s.pwr.trialAt = some t → s.pwr.running = some r → s.pwr.trialRun = true → s.pwr.trialBad = false →
    level s ≠ 0 → t + 60 * secTicks ≤ s.tb →
    exec .fwTrialConfirm s =
      .next (let n := max s.pwr.otpFwSvn (slotOf s r).svn
             raise (fset (bootWrite r false { s with pwr := { s.pwr with trialRun := false, otpFwSvn := n } })
               R.PWR_FW F.PWR_FW_OTP_FW_SVN n) Ev.FW_CONFIRMED [(r : Int)])) ∧
  -- FW_TRIAL_FAIL after a fault of class 5 or 6
  (∀ (s : State) (r : Nat), s.pwr.running = some r → s.pwr.trialRun = true → s.pwr.powered = true → s.pwr.asleep = false →
    s.pwr.startDue = false → s.pwr.trialBad = true →
    exec .fwTrialFail s =
      .next (levelLost (staged (moduleReset 11)
        (fault (bootWrite (1 - r) false { s with pwr := { s.pwr with trialRun := false } }) Ev.FW_TRIAL_FAIL [(r : Int)])))) ∧
  -- and where L1 has not been reached at TB of 2.5 s
  (∀ (s : State) (r : Nat), s.pwr.running = some r → s.pwr.trialRun = true → s.pwr.powered = true → s.pwr.asleep = false →
    s.pwr.startDue = false → s.pwr.trialAt = none → msTicks 2500 ≤ s.tb →
    exec .fwTrialFail s =
      .next (levelLost (staged (moduleReset 11)
        (fault (bootWrite (1 - r) false { s with pwr := { s.pwr with trialRun := false } }) Ev.FW_TRIAL_FAIL [(r : Int)]))))

/-- For ATTN_N_ACTIVE, ATTN_N_INACTIVE, WAKE_CAN, WAKE_LINK, WAKE_HALTER, WAKE_TIMER, KEYOFF_CONDITION, SLEEP, STAY, STAY_AWAKE_EXPIRY, KEYOFF_REPORT,
KEYOFF_START and KEYOFF_FORCE: under the conditions of R469 to R475, each answers the next state its rule describes; the wake's code is CAUSE of
the next start (2 ATTN_N, 3 CAN, 4 link, 5 HALTER_EN, 6 timer). ATTN_N going active in an awake module abandons a key-off. KEYOFF_REPORT changes
nothing (a reading of the model). (R469, R470, R471, R472, R473, R475.) -/
def Obligations.WakeAndKeyoffComplete : Prop :=
  -- ATTN_N_ACTIVE of a sleeping module
  (∀ s : State, s.pwr.powered = true → s.pwr.asleep = true →
    exec .attnNActive s =
      .next (wake 2 id (fsetb { s with pwr := { s.pwr with attn := true } } R.PWR_STATUS F.PWR_STATUS_ATTN true))) ∧
  -- ATTN_N_ACTIVE of an awake module: a key-off is abandoned
  (∀ s : State, s.pwr.powered = true → s.pwr.asleep = false →
    exec .attnNActive s = .next (
      let a := fsetb { s with pwr := { s.pwr with attn := true } } R.PWR_STATUS F.PWR_STATUS_ATTN true
      fsetb (fsetb { a with pwr := { a.pwr with keyCond := false, keyoffK := none, keyRun := false, woken := false } }
        R.PWR_STATUS F.PWR_STATUS_KEYOFF false) R.PWR_STATUS F.PWR_STATUS_STAY false)) ∧
  -- ATTN_N_INACTIVE: KEYOFF_DEB counts from here
  (∀ s : State, s.pwr.powered = true →
    exec .attnNInactive s =
      .next (fsetb { s with pwr := { s.pwr with attn := false, attnOff := s.tb } } R.PWR_STATUS F.PWR_STATUS_ATTN false)) ∧
  -- WAKE_LINK, WAKE_HALTER and WAKE_TIMER of a sleeping module in which no start is due
  (∀ (n : Fin 5) (s : State), s.pwr.powered = true → s.pwr.asleep = true → s.pwr.ovOff = false → s.pwr.brown = false →
    s.pwr.startDue = false → fbit s R.PWR_CFG F.PWR_CFG_LINK_WAKE = true →
    exec (.wakeLink n) s = .next (
      fset (fset (fset { s with pwr := { s.pwr with startDue := true, cause := 4 } } R.PWR_CAUSE F.PWR_CAUSE_CAN 0)
        R.PWR_CAUSE F.PWR_CAUSE_LINK 0) R.PWR_CAUSE F.PWR_CAUSE_LINK n.val)) ∧
  (∀ s : State, s.pwr.powered = true → s.pwr.asleep = true → s.pwr.ovOff = false → s.pwr.brown = false →
    s.pwr.startDue = false → fget s R.PWR_CFG F.PWR_CFG_WAKE_TMR ≠ 0 →
    exec .wakeTimer s = .next (
      fset (fset { s with pwr := { s.pwr with startDue := true, cause := 6 } } R.PWR_CAUSE F.PWR_CAUSE_CAN 0)
        R.PWR_CAUSE F.PWR_CAUSE_LINK 0)) ∧
  (∀ s : State, s.pwr.powered = true → s.pwr.asleep = true → fbit s R.PWR_CFG F.PWR_CFG_HALTER_WAKE = true →
    exec .wakeHalter s = .next (wake 5 id (fsetb s R.LSW_HALTER_STAT F.LSW_HALTER_STAT_EN true))) ∧
  -- WAKE_CAN of a sleeping module: cause 3 with the controller, and a CAN_WAKE record with what woke it
  (∀ (c : Fin 4) (w : CanWake) (s : State), wakeSeen s c.val w ≠ 0 → s.pwr.asleep = true → s.pwr.startDue = false →
    exec (.wakeCan c w) s = .next (wake 3 (fun x => raise (fset x R.PWR_CAUSE F.PWR_CAUSE_CAN c.val) Ev.CAN_WAKE
      [(c.val : Int), (wakeSeen s c.val w : Int)]) s)) ∧
  -- KEYOFF_CONDITION, SLEEP and STAY_AWAKE_EXPIRY ask for key-off; outside a team it starts at the module's own next boundary
  (∀ s : State, s.pwr.powered = true → s.pwr.attn = false → s.pwr.woken = false → s.pwr.keyCond = false →
    s.pwr.attnOff + msTicks (fget s R.PWR_CFG F.PWR_CFG_KEYOFF_DEB) ≤ s.tb → exec .keyoffCondition s = .next (keyoffAsk s)) ∧
  (∀ (who : Fin 36) (s : State), rapMay s who.val .sleep 0 = true →
    exec (.sleep who) s = .next (rapAnswer (keyoffAsk s) who.val .ok [])) ∧
  (∀ s : State, s.pwr.woken = true → s.pwr.attn = false → s.brd.sess = [] →
    s.pwr.stayFrom + 60 * secTicks * fget s R.PWR_CFG F.PWR_CFG_STAY_AWAKE ≤ s.tb → exec .stayAwakeExpiry s = .next (keyoffAsk s)) ∧
  (∀ s : State, s.pwr.keyoffK = none → s.pwr.asleep = false → domOn s 1 = true → isLeader s = false → teamState s ≠ 1 →
    keyoffAsk s = { s with pwr := { s.pwr with keyCond := true, keyoffK := some (nextBoundary s.tb) } }) ∧
  -- STAY renews STAY_AWAKE
  (∀ (who : Fin 36) (s : State), rapMay s who.val .other 0 = true →
    exec (.stay who) s = .next (rapAnswer { s with pwr := { s.pwr with stayFrom := s.tb } } who.val .ok [])) ∧
  (∀ (m : Fin 64) (s : State), exec (.keyoffReport m) s = .next s) ∧
  -- KEYOFF_START once K has come and the job has stopped: steps 2 to 5
  (∀ (full : Bool) (s : State) (K : Nat), s.pwr.keyoffK = some K → K ≤ s.tb → mayRun s = true → domOn s 1 = true → s.pwr.keyRun = true →
    jobState s ≠ 3 → jobState s ≠ 4 → exec (.keyoffStart full) s = .next (keyoffEnd full s)) ∧
  -- KEYOFF_FORCE 10 s after K, where the hold-up store cannot flush
  (∀ (s : State) (K : Nat), s.pwr.keyoffK = some K → s.pwr.keyRun = true → s.pwr.asleep = false → K + 10 * secTicks ≤ s.tb →
    mayFlush s = false →
    exec .keyoffForce s = .next (sleepEnter { s with pwr := { s.pwr with unclean := true } }))

/-- For LEVEL_RISE, GAIT_WINDOW, CLOCK_MONITOR_WINDOW, CLK_REF_LOSS, REF_RETURN, MEMORY_ERROR_DETECTED, DUAL_RAIL_ERROR and DRAM_SCRUB: under the
conditions under which each happens, exec answers the next state its rule describes. A dual-rail error of lane u retires the lane with a
LANE_RETIRED fault of class 1. That REF's return resets the module as MODULE with TB going on is the model's reading (DEDUCED, log entry 22). (R7,
R20, R23, R35, R36, R246, R456.) -/
def Obligations.ClockAndErrorCommandsComplete : Prop :=
  -- LEVEL_RISE at a boundary
  (∀ s : State, s.tb % cycleTicks = 0 → level s < (levelHave s).1 →
    exec .levelRise s = .next (setLevel (levelHave s).1 (fset s R.SYS_LEVEL F.SYS_LEVEL_LIMIT (levelHave s).2))) ∧
  -- GAIT_WINDOW at the end of a millisecond
  (∀ (l : List Gait) (s : State), s.pwr.tbRun = true → domOn s 1 = true → s.tb % msTicks 1 = 0 →
    exec (.gaitWindow l) s = .next (forEach l gaitOne s)) ∧
  -- CLOCK_MONITOR_WINDOW with every clock within bounds: the conditions of AO and SAFE that had failed end
  (∀ (ao ref safe : Int) (s : State), s.pwr.powered = true → s.pwr.asleep = false → s.pwr.startDue = false →
    clkBad ao = false → clkBad ref = false → clkBad safe = false → s.pwr.aoOk = true → s.pwr.safeOk = true →
    exec (.clockMonitorWindow ao ref safe) s = .next s) ∧
  (∀ (ao ref safe : Int) (s : State), s.pwr.powered = true → s.pwr.asleep = false → s.pwr.startDue = false →
    clkBad ao = false → clkBad ref = true → clkBad safe = false → s.pwr.aoOk = true → s.pwr.safeOk = true →
    exec (.clockMonitorWindow ao ref safe) s = .next (refLoss s)) ∧
  -- CLK_REF_LOSS
  (∀ s : State, s.pwr.powered = true → s.pwr.asleep = false → s.pwr.startDue = false → exec .clkRefLoss s = .next (refLoss s)) ∧
  -- REF_RETURN
  (∀ s : State, s.pwr.refOk = false →
    exec .refReturn s = .next (staged (fun x => moduleReset 8 (unfreeze x))
      (faultEnd { aoStamps s with pwr := { (aoStamps s).pwr with refOk := true, tbRun := true } } Ev.CLK_REF_LOSS []))) ∧
  -- MEMORY_ERROR_DETECTED
  (∀ (e : MemErr) (s : State), memHere s e = true → exec (.memoryErrorDetected e) s = .next (memErr e s)) ∧
  -- DUAL_RAIL_ERROR of a stride lane
  (∀ (u : Fin 31) (s : State), u.val ≤ 8 → domOn s 1 = true → isRetired s 0 u.val = false →
    exec (.dualRailError u) s = .next (unitRetire 0 u.val (faultCls s Ev.LANE_RETIRED [0, (u.val : Int)] 1))) ∧
  -- DRAM_SCRUB every 24 h of operating time
  (∀ (l : List MemErr) (s : State), domOn s 8 = true → s.far.scrubAt + 86400 * secTicks ≤ s.stb.optTicks →
    exec (.dramScrub l) s =
      .next (forEach (l.filter memInDram) memErr { s with far := { s.far with scrubAt := s.stb.optTicks } }))

/-- For IMG_CHECK, IMG_ACTIVATE, IMG_ABORT, RESTART_ACTIVATE, IMG_REVERT, TEAM_IMAGE, STAGED_OK, STAGING_TIMEOUT, PREPARE, SWAP_ABORT,
SWAP_QUIESCE_START, SWAP_COMMIT and TEAM_RESTART: under the conditions under which each happens, exec answers the next state its rule describes:
the outcome of a validation is shown and recorded, a swap of a module alone is prepared for the first boundary at least 250 cycles ahead, an abort
before the quiesce cycle gives the swap up and counts it, the quiesce cycle begins 40,000 ticks before C, and the commit happens at C. That an
abort leaves the image staged is the model's reading (DEDUCED, log entry 26). (R47, R50, R54, R55, R56, R60, R297.) -/
def Obligations.ImageStoreCommandsComplete : Prop :=
  -- IMG_CHECK: the outcome is shown and recorded
  (∀ (who : Fin 36) (s : State) (c : Container), rapMay s who.val .image 9 = true → swapBusy s = false → s.img.slotPending = some c →
    exec (.imgCheck who) s = .next (
      let r := imageStage s c (posOf s)
      rapAnswer (imgChecked c r.1 r.2.1 (setImgState r.2.2 { s with img := { s.img with
        teamWide := r.1 == 10 || teamClass s c (posOf s) } })) who.val .ok [])) ∧
  -- IMG_ACTIVATE of a staged image in a module alone
  (∀ (who : Fin 36) (s : State), rapMay s who.val .image 9 = true → swapBusy s = false → imgState s = 3 → otherMembers s = [] →
    exec (.imgActivate who) s = .next (rapAnswer (prepare (boundaryFrom (s.tb + 250 * cycleTicks)) s) who.val .ok [])) ∧
  -- IMG_ACTIVATE during a swap: error 14, with the record of the refused image
  (∀ (who : Fin 36) (s : State) (c : Container), rapMay s who.val .image 9 = true → swapBusy s = true → s.img.slotPending = some c →
    exec (.imgActivate who) s = .next (rapAnswer (imgChecked c 14 255 s) who.val .ok [])) ∧
  (∀ (who : Fin 36) (s : State), rapMay s who.val .image 9 = true → swapBusy s = true → s.img.slotPending = none →
    exec (.imgActivate who) s = .next (rapAnswer (setImgErr 14 255 s) who.val .ok [])) ∧
  -- IMG_ABORT before the quiesce cycle
  (∀ (who : Fin 36) (s : State) (C : Nat), rapMay s who.val .image 9 = true → s.img.swapC = some C → s.tb + cycleTicks < C →
    imgState s ≠ 6 → otherMembers s = [] →
    exec (.imgAbort who) s = .next (rapAnswer (leaderAbort s) who.val .ok [])) ∧
  -- RESTART_ACTIVATE, IMG_REVERT
  (∀ (who : Fin 36) (s : State), rapMay s who.val .image 9 = true →
    exec (.restartActivate who) s = .next (rapAnswer (restartActivate s) who.val .ok [])) ∧
  (∀ (who : Fin 36) (s : State), rapMay s who.val .image 9 = true → swapBusy s = false →
    exec (.imgRevert who) s = .next (rapAnswer (revert s) who.val .ok [])) ∧
  -- TEAM_IMAGE in a member: it is validated for the member's own position and answered
  (∀ (c : Container) (s : State), domOn s 9 = true → domOn s 1 = true → swapBusy s = false → isLeader s = false →
    exec (.teamImage c) s = .next (
      let t := checkPending { s with img := { s.img with slotPending := some c, uploaded := true } }
      toLeader t MsgKind.STAGED_OK [(midOf s : Int), (fget t R.IMG_STATUS F.IMG_STATUS_ERR : Int)])) ∧
  -- STAGED_OK with an error other than 10 and 11 aborts for the team
  (∀ (m : Fin 64) (code : Fin 256) (s : State), isLeader s = true → s.img.sending = true → m.val ∈ s.img.acks → code.val ≠ 0 →
    code.val ≠ 10 → code.val ≠ 11 → s.tb ≤ s.img.sentAt + 2 * secTicks →
    exec (.stagedOk m code) s = .next (leaderAbort (setImgErr code.val 255 s))) ∧
  -- STAGED_OK with others still to acknowledge
  (∀ (m : Fin 64) (s : State), isLeader s = true → s.img.sending = true → m.val ∈ s.img.acks →
    s.img.acks.filter (· != m.val) ≠ [] → s.tb ≤ s.img.sentAt + 2 * secTicks →
    exec (.stagedOk m 0) s = .next { s with img := { s.img with acks := s.img.acks.filter (· != m.val), ackAt := s.tb } }) ∧
  -- and one that comes after the 2 s of the staging aborts
  (∀ (m : Fin 64) (code : Fin 256) (s : State), isLeader s = true → s.img.sending = true → m.val ∈ s.img.acks →
    s.img.sentAt + 2 * secTicks < s.tb → exec (.stagedOk m code) s = .next (leaderAbort s)) ∧
  -- STAGING_TIMEOUT
  (∀ s : State, isLeader s = true → s.img.sending = true → s.img.acks ≠ [] → s.img.sentAt + 2 * secTicks ≤ s.tb →
    exec .stagingTimeout s = .next (leaderAbort s)) ∧
  -- PREPARE in a member that has staged the image
  (∀ (C : Nat) (s : State), isLeader s = false → imgState s = 3 → C % cycleTicks = 0 → s.tb + cycleTicks < C →
    exec (.prepare C) s = .next (toLeader (prepare C s) MsgKind.PREPARE_ACK [(midOf s : Int)])) ∧
  -- SWAP_ABORT in a member
  (∀ (s : State) (C : Nat), isLeader s = false → s.img.swapC = some C → s.tb + cycleTicks < C → imgState s = 5 →
    exec .swapAbort s = .next (swapDrop s)) ∧
  -- SWAP_QUIESCE_START at C − 40,000
  (∀ (s : State) (C : Nat), s.img.swapC = some C → imgState s = 5 → C ≤ s.tb + cycleTicks → domOn s 1 = true → s.img.loopSwap = false →
    exec .swapQuiesceStart s = .next (fset s R.IMG_STATUS F.IMG_STATUS_STATE 6)) ∧
  -- SWAP_COMMIT at C
  (∀ (s : State) (C : Nat) (c : Container), s.img.swapC = some C → s.img.slotPending = some c → imgState s = 6 → C ≤ s.tb →
    domOn s 1 = true → exec .swapCommit s = .next (staged (swapCommit C c) s)) ∧
  -- TEAM_RESTART at the boundary named
  (∀ (s : State) (b : Nat), s.img.restartAt = some b → b ≤ s.tb → exec .teamRestart s = .next (restartInto s))

/-- For JOINT_SOURCE_FAIL, JOINT_SRC1_RETURN, JOINT_HOLD_EXPIRY and GEOM_PAIR_DIFF of a declared link: the first failure of SRC1 is held in the link,
and the link's register shows it; with both sources failed the last valid value is held, with a record; at the end of HOLD the joint takes
FALLBACK under POLICY FIXED and the chain becomes invalid under POLICY OFF; a pair difference above 2*(VMAX-VMIN)/256 in 50 cycles in a row is a
fault that changes no decision. A FIXED source never fails. (R63, R64, R65, R74, R75.) -/
def Obligations.JointCommandsComplete : Prop :=
  -- JOINT_SOURCE_FAIL, 3 periods of the source after its last valid sample: SRC1 of a link whose SRC2 has not failed, SRC1 being no SSI port
  (∀ (c : Fin 32) (l : Fin 8) (s : State) (k : Link), linkOf s c.val l.val = some k → k.src1 ≠ .fixed → (∀ p, k.src1 ≠ .ssi p) →
    (linkSt s (linkNo s c.val l.val)).s2Fail = false → (linkSt s (linkNo s c.val l.val)).at1 + 3 * jointPeriod s k.src1 ≤ s.tb →
    exec (.jointSourceFail c l false) s = .next (linkReg (setLink s (linkNo s c.val l.val)
      { linkSt s (linkNo s c.val l.val) with s1Fail := true, good := 0 }) c.val l.val)) ∧
  -- both sources failed: the value in use is held from now on, with a record
  (∀ (c : Fin 32) (l : Fin 8) (s : State) (k : Link), linkOf s c.val l.val = some k → k.src2 ≠ .fixed → (∀ p, k.src2 ≠ .ssi p) →
    (linkSt s (linkNo s c.val l.val)).s1Fail = true → (linkSt s (linkNo s c.val l.val)).fall = false →
    (linkSt s (linkNo s c.val l.val)).dead = false → (linkSt s (linkNo s c.val l.val)).held = false → (linkSt s (linkNo s c.val l.val)).at2 + 3 * jointPeriod s k.src2 ≤ s.tb →
    exec (.jointSourceFail c l true) s = .next (linkReg (raise (setLink s (linkNo s c.val l.val)
      { linkSt s (linkNo s c.val l.val) with s2Fail := true, held := true, heldAt := s.tb }) Ev.GEOM_HELD
      [(c.val : Int), (l.val : Int), 1]) c.val l.val)) ∧
  (∀ (c : Fin 32) (l : Fin 8) (s : State) (k : Link), linkOf s c.val l.val = some k → k.src1 = .fixed →
    exec (.jointSourceFail c l false) s = .next s) ∧
  -- a source with a valid sample within its last 3 periods does not fail
  (∀ (c : Fin 32) (l : Fin 8) (s : State) (k : Link), linkOf s c.val l.val = some k → s.tb < (linkSt s (linkNo s c.val l.val)).at1 + 3 * jointPeriod s k.src1 →
    exec (.jointSourceFail c l false) s = .next s) ∧
  -- JOINT_SRC1_RETURN after 10 consecutive valid snapshots: back from SRC2, the fault ends
  (∀ (c : Fin 32) (l : Fin 8) (s : State) (k : Link), linkOf s c.val l.val = some k → (linkSt s (linkNo s c.val l.val)).s1Fail = true →
    10 ≤ (linkSt s (linkNo s c.val l.val)).good → (linkSt s (linkNo s c.val l.val)).onSec = true →
    exec (.jointSrc1Return c l) s = .next (linkReg (faultEnd (setLink s (linkNo s c.val l.val)
      { linkSt s (linkNo s c.val l.val) with s1Fail := false, good := 0, onSec := false }) Ev.GEOM_SECONDARY
      [(c.val : Int), (l.val : Int)]) c.val l.val)) ∧
  -- JOINT_HOLD_EXPIRY under POLICY FIXED and under POLICY OFF
  (∀ (c : Fin 32) (l : Fin 8) (s : State) (k : Link), linkOf s c.val l.val = some k → (linkSt s (linkNo s c.val l.val)).held = true →
    k.fixed = true → (linkSt s (linkNo s c.val l.val)).heldAt + msTicks k.hold ≤ s.tb →
    exec (.jointHoldExpiry c l) s = .next (linkReg (fault (raise (setLink s (linkNo s c.val l.val)
      { linkSt s (linkNo s c.val l.val) with held := false, fall := true, value := k.fallback }) Ev.GEOM_HELD
      [(c.val : Int), (l.val : Int), 0]) Ev.GEOM_FALLBACK [(c.val : Int), (l.val : Int)]) c.val l.val)) ∧
  (∀ (c : Fin 32) (l : Fin 8) (s : State) (k : Link), linkOf s c.val l.val = some k → (linkSt s (linkNo s c.val l.val)).held = true →
    k.fixed = false → (linkSt s (linkNo s c.val l.val)).heldAt + msTicks k.hold ≤ s.tb →
    exec (.jointHoldExpiry c l) s = .next (linkReg (chainBit (fault (raise (setLink s (linkNo s c.val l.val)
      { linkSt s (linkNo s c.val l.val) with held := false, dead := true }) Ev.GEOM_HELD [(c.val : Int), (l.val : Int), 0])
      Ev.GEOM_INVALID [(c.val : Int)]) c.val true) c.val l.val)) ∧
  -- GEOM_PAIR_DIFF
  (∀ (c : Fin 32) (l : Fin 8) (v : BitVec 16) (s : State) (k : Link), s.pwr.paired = true → linkOf s c.val l.val = some k →
    pairDiffers k (linkSt s (linkNo s c.val l.val)).value v.toInt = true → (linkSt s (linkNo s c.val l.val)).diff = 49 → (linkSt s (linkNo s c.val l.val)).diffB + cycleTicks = boundaryAt s.tb →
    exec (.geomPairDiff c l v) s = .next (fault (setLink s (linkNo s c.val l.val)
      { linkSt s (linkNo s c.val l.val) with diff := 50, diffB := boundaryAt s.tb }) Ev.GEOM_PAIR_DIFF [(c.val : Int), (l.val : Int)])) ∧
  -- a shorter run of differences only counts, and a cycle without one starts the run again
  (∀ (c : Fin 32) (l : Fin 8) (v : BitVec 16) (s : State) (k : Link), s.pwr.paired = true → linkOf s c.val l.val = some k →
    pairDiffers k (linkSt s (linkNo s c.val l.val)).value v.toInt = true → (linkSt s (linkNo s c.val l.val)).diff < 49 → (linkSt s (linkNo s c.val l.val)).diffB + cycleTicks = boundaryAt s.tb →
    exec (.geomPairDiff c l v) s = .next (setLink s (linkNo s c.val l.val)
      { linkSt s (linkNo s c.val l.val) with diff := (linkSt s (linkNo s c.val l.val)).diff + 1, diffB := boundaryAt s.tb })) ∧
  (∀ (c : Fin 32) (l : Fin 8) (v : BitVec 16) (s : State) (k : Link), s.pwr.paired = true → linkOf s c.val l.val = some k →
    pairDiffers k (linkSt s (linkNo s c.val l.val)).value v.toInt = false → (linkSt s (linkNo s c.val l.val)).diff < 50 → (linkSt s (linkNo s c.val l.val)).diffB < boundaryAt s.tb →
    exec (.geomPairDiff c l v) s = .next (setLink s (linkNo s c.val l.val)
      { linkSt s (linkNo s c.val l.val) with diff := 0, diffB := boundaryAt s.tb }))

/-- For INPUT_EDGE_ACCEPTED, FAST_EDGE, CH_FAULT_CLEAR, WIRE_BREAK, WIRE_BREAK_END, INDEX_TIMEOUT, FBI_LOAD, FBI_ARM and FBI_CLEAR: under the
conditions under which each happens, exec answers the next state its rule describes: a fast edge is counted and ignored, and is a fault at
FAST_LIMIT; a broken wire of a differential input that the mode uses sets WIRE_BREAK and CH_FAULT with a fault; FBI_LOAD loads 48 bits and clears
IDX_ACC at the tick after the write; FBI_ARM sets ARMED and stamps it; FBI_CLEAR clears the fault and statistics counters, but for what was
counted in the very tick of the clear (R103). (R77, R78, R81, R84, R88, R93, R104.) -/
def Obligations.CounterCommandsComplete : Prop :=
  -- INPUT_EDGE_ACCEPTED: a first sample since PD11 started is a level and no edge
  (∀ (ch : Fin 16) (v : Bool) (s : State), domOn s 11 = true → chMode s ch.val = 7 → (chSt s ch.val).a = none →
    (chSt s ch.val).pre = none →
    exec (.inputEdgeAccepted ch (some v) none none) s = .next (activeMark ch.val (checkMissing ch.val (
      let t := baseMark ch.val (histMark ch.val s)
      setCh t ch.val { chSt t ch.val with a := some v, b := (chSt s ch.val).b, z := (chSt s ch.val).z })))) ∧
  -- a rising A in mode 7 counts by one, stamped before the filter's delay
  (∀ (ch : Fin 16) (s : State), domOn s 11 = true → chMode s ch.val = 7 → (chSt s ch.val).a = some false →
    (chSt s ch.val).pre = none →
    exec (.inputEdgeAccepted ch (some true) none none) s = .next (activeMark ch.val (checkMissing ch.val (applyCount ch.val
      (if fbit s (R.FBI_CFG ch.val) F.FBI_CFG_DIR_INV then -1 else 1) (s.tb - fget s (R.FBI_INCFG ch.val) F.FBI_INCFG_MIN_SPACING)
      (let t := baseMark ch.val (histMark ch.val s)
       setCh t ch.val { chSt t ch.val with a := some true, b := (chSt s ch.val).b, z := (chSt s ch.val).z }))))) ∧
  -- FAST_EDGE below FAST_LIMIT
  (∀ (ch : Fin 16) (s : State), domOn s 11 = true → (chSt s ch.val).base.at_ = s.tb →
    (inWin s ch.val (s.tb :: (chSt s ch.val).fastT)).length < fget s (R.FBI_LIM ch.val) F.FBI_LIM_FAST_LIMIT →
    exec (.fastEdge ch) s = .next (fincSat (setCh s ch.val { chSt s ch.val with
      fastT := inWin s ch.val (s.tb :: (chSt s ch.val).fastT), lastBad := some s.tb }) (R.FBI_FCNT ch.val) F.FBI_FCNT_FAST_CNT)) ∧
  -- FAST_EDGE that reaches FAST_LIMIT is a fault of the channel
  (∀ (ch : Fin 16) (s : State), domOn s 11 = true → (chSt s ch.val).base.at_ = s.tb → (chSt s ch.val).fastRaised = false →
    fget s (R.FBI_LIM ch.val) F.FBI_LIM_FAST_LIMIT ≤ (inWin s ch.val (s.tb :: (chSt s ch.val).fastT)).length →
    exec (.fastEdge ch) s = .next (
      let t := fincSat (setCh s ch.val { chSt s ch.val with
        fastT := inWin s ch.val (s.tb :: (chSt s ch.val).fastT), lastBad := some s.tb }) (R.FBI_FCNT ch.val) F.FBI_FCNT_FAST_CNT
      chFaultSet ch.val (fault (setCh t ch.val { chSt t ch.val with fastRaised := true }) Ev.EDGE_FAULT [(ch.val : Int), (s.tb : Int)]))) ∧
  -- CH_FAULT_CLEAR once its conditions have been absent for 1 s
  (∀ (ch : Fin 16) (s : State), fbit s (R.FBI_STAT ch.val) F.FBI_STAT_CH_FAULT = true → chFaultMayClear s ch.val = true →
    (chSt s ch.val).fastRaised = false → (chSt s ch.val).illRaised = false →
    exec (.chFaultClear ch) s = .next (fbiValid ch.val (raise (fsetb (setCh s ch.val { chSt s ch.val with
      fastT := [], illT := [], fastRaised := false, illRaised := false }) (R.FBI_STAT ch.val) F.FBI_STAT_CH_FAULT false)
      Ev.CH_FAULT [(ch.val : Int), 0]))) ∧
  -- WIRE_BREAK and WIRE_BREAK_END
  (∀ (ch : Fin 16) (i : Fin 3) (s : State), domOn s 11 = true → fbit s (R.FBI_INCFG ch.val) F.FBI_INCFG_DIFF = true → usesInput s ch.val i.val = true →
    i.val ∉ (chSt s ch.val).broken →
    exec (.wireBreak ch i) s = .next (chFaultSet ch.val (fault (fsetb (setCh s ch.val { chSt s ch.val with
      broken := (chSt s ch.val).broken ++ [i.val] }) (R.FBI_STAT ch.val) F.FBI_STAT_WIRE_BREAK true) Ev.WIRE_BREAK
      [(ch.val : Int), (i.val : Int)]))) ∧
  (∀ (ch : Fin 16) (i : Fin 3) (s : State), (chSt s ch.val).broken = [i.val] →
    exec (.wireBreakEnd ch i) s = .next (faultEnd (fsetb (setCh s ch.val { chSt s ch.val with broken := [], lastBreak := some s.tb })
      (R.FBI_STAT ch.val) F.FBI_STAT_WIRE_BREAK false) Ev.WIRE_BREAK [(ch.val : Int), (i.val : Int)])) ∧
  -- INDEX_TIMEOUT of an input held beyond ACTIVE_LIM
  (∀ (ch : Fin 16) (i : Fin 3) (s : State), heldActive s ch.val i.val = true → heldBeyond s ch.val i.val = true → i.val ∉ (chSt s ch.val).stuck →
    exec (.indexTimeout ch i) s = .next (chFaultSet ch.val (fault (fsetb (setCh s ch.val { chSt s ch.val with
      stuck := (chSt s ch.val).stuck ++ [i.val] }) (R.FBI_STAT ch.val) F.FBI_STAT_INDEX_TIMEOUT true) Ev.INDEX_TIMEOUT
      [(ch.val : Int), (i.val : Int)]))) ∧
  -- an input held no longer than that raises nothing
  (∀ (ch : Fin 16) (i : Fin 3) (s : State), heldBeyond s ch.val i.val = false → exec (.indexTimeout ch i) s = .next s) ∧
  -- FBI_LOAD (the counter takes the value at the tick after the write), FBI_ARM, FBI_CLEAR
  (∀ (who : Fin 36) (ch : Fin 16) (s : State), rapMay s who.val .other 11 = true →
    exec (.fbiLoad who ch) s = .next (rapAnswer (setCh s ch.val { chSt s ch.val with loadAt := some s.tb }) who.val .ok [])) ∧
  (∀ (ch : Fin 16) (s : State), s.pwr.powered = true → (chSt s ch.val).hist.head?.map (·.1) = some s.tb →
    fbiLoad ch.val s = (
      let t := setCount s ch.val (sext 48 (rget64 s (R.FBI_LOAD_LO ch.val) (R.FBI_LOAD_HI ch.val)))
      setCh t ch.val { chSt s ch.val with
        idxAcc := 0, idxPos := false, idxNeg := false, idxSeen := false, dirKnown := false, loadAt := none
        pre := some ⟨s.tb, chCount s ch.val, (chSt s ch.val).idxAcc, (chSt s ch.val).idxPos, (chSt s ch.val).idxNeg,
          (chSt s ch.val).idxSeen, (chSt s ch.val).dirKnown⟩ })) ∧
  (∀ (who : Fin 36) (ch : Fin 16) (s : State), rapMay s who.val .other 11 = true →
    exec (.fbiArm who ch) s = .next (rapAnswer (fsetb (setCh s ch.val { chSt s ch.val with
      armAt := s.tb
      armWas := fbit s (R.FBI_STAT ch.val) F.FBI_STAT_ARMED && (decide ((chSt s ch.val).armAt < s.tb) || (chSt s ch.val).armWas) }) (R.FBI_STAT ch.val)
      F.FBI_STAT_ARMED true) who.val .ok [])) ∧
  (∀ (who : Fin 36) (ch : Fin 16) (s : State), rapMay s who.val .other 11 = true → (chSt s ch.val).base.at_ ≠ s.tb →
    exec (.fbiClear who ch) s = .next (rapAnswer (
      let t := fset (fset (fset (fset (fset s (R.FBI_FCNT ch.val) F.FBI_FCNT_FAST_CNT 0) (R.FBI_FCNT ch.val) F.FBI_FCNT_ILLEGAL_CNT 0)
        (R.FBI_LINE ch.val) F.FBI_LINE_IN_TOL_CNT 0) (R.FBI_LINE ch.val) F.FBI_LINE_SKIP_CNT 0) (R.FBI_STAT ch.val) F.FBI_STAT_DIR_CNT 0
      setCh t ch.val { chSt t ch.val with base := ⟨s.tb, 0, 0, 0, 0, 0⟩ })
      who.val .ok []))

/-- For CMP_VAL_HI_WRITE, CMP_PULSE_END, SSI_READ, AIN_SAMPLE, SHUNT_OPEN, SHUNT_CLOSE, SUPPLY_LIMIT_OFF and SUPPLY_RETRY: under the conditions under
which each happens, exec answers the next state its rule describes: writing VAL_HI commits VAL and arms the unit; a valid SSI word sets VALUE, its
stamp and VALID and clears STALE; an analog sample sets CODE, its fault bits and VALID; a supply that limits goes off with the fault bits of its
connector and comes back 1 s later. (R94, R96, R98, R99, R101, R102.) -/
def Obligations.SensorCommandsComplete : Prop :=
  -- CMP_VAL_HI_WRITE
  (∀ (who : Fin 36) (k : Fin 4) (hi : Word) (s : State), rapMay s who.val .other 11 = true →
    exec (.cmpValHiWrite who k hi) s = .next (rapAnswer (cmpCommit k.val hi s) who.val .ok [])) ∧
  -- CMP_PULSE_END: the pulses that have ended go, those still to end stay
  (∀ (k : Fin 4) (s : State), exec (.cmpPulseEnd k) s =
    .next { s with fbi := { s.fbi with cmp := smSet cmpInit k.val { smGet cmpInit s.fbi.cmp k.val with
      pulse := (smGet cmpInit s.fbi.cmp k.val).pulse.filter (fun p => decide (s.tb < p.2)) } s.fbi.cmp } }) ∧
  -- SSI_READ of a good binary frame, 2 µs after the boundary at which the port is due; the joints that read the port take the sample
  (∀ (k : Fin 4) (d : Word) (chk : Nat) (s : State) (c : SsiCfg), s.cfg.pinfn.ssi.getD k.val none = some c →
    domOn s 11 = true → ssiDue s k.val c = true → ssiPass c (d.toNat % 2 ^ c.dataBits) 0 chk = true → c.gray = false →
    ssiJoint s k = false →
    exec (.ssiRead k d 0 chk false) s = .next (
      let a := R.FBI_SSI_STAT k.val
      let t := rset64 (rsetN (fsetb (fsetb (fsetb { s with fbi := { s.fbi with ssiAt := smIns k.val s.tb s.fbi.ssiAt } } a F.FBI_SSI_STAT_SSI_WIRE false) a F.FBI_SSI_STAT_VALID true) a F.FBI_SSI_STAT_STALE
        false) (R.FBI_SSI_VALUE k.val) (d.toNat % 2 ^ c.dataBits)) (R.FBI_SSI_TB_LO k.val) (R.FBI_SSI_TB_HI k.val) s.tb
      jointSample (.ssi k) none { t with fbi := { t.fbi with ssiBad := smSet zero k.val 0 t.fbi.ssiBad } })) ∧
  -- SSI_READ with the wire low: discarded and counted; STALE from the third in a row
  (∀ (k : Fin 4) (d : Word) (st chk : Nat) (s : State) (c : SsiCfg), s.cfg.pinfn.ssi.getD k.val none = some c →
    domOn s 11 = true → ssiDue s k.val c = true → smGet zero s.fbi.ssiBad k.val < 2 →
    exec (.ssiRead k d st chk true) s = .next (
      let a := R.FBI_SSI_STAT k.val
      let t := fincSat (fsetb (fsetb { s with fbi := { s.fbi with ssiAt := smIns k.val s.tb s.fbi.ssiAt } } a F.FBI_SSI_STAT_SSI_WIRE true) a F.FBI_SSI_STAT_VALID false) a F.FBI_SSI_STAT_BAD_CNT
      fault (jointSample (.ssi k) none { t with fbi := { t.fbi with ssiBad := smSet zero k.val (smGet zero s.fbi.ssiBad k.val + 1) t.fbi.ssiBad } })
        Ev.SSI_DISCARDED [(k.val : Int)])) ∧
  -- AIN_SAMPLE at its own instant of every 100 µs (R101)
  (∀ (n : Fin 16) (v : BitVec 16) (above : Bool) (s : State), domOn s 10 = true → fbit s (R.FBI_AIN n.val) F.FBI_AIN_SHUNT_OPEN = false →
    s.tb % 20000 = n.val * 1250 →
    exec (.ainSample n v above) s = .next (
      let a := R.FBI_AIN n.val
      let ma := s.cfg.pinfn.ma.contains n.val
      let good := !ainOpen ma v.toNat && !ainOver ma v.toNat above && supplyOk s n.val && decide (smGet zero s.far.ainBad n.val < 3) &&
        !s.far.ainFail && !s.far.retired.contains (13, 0)
      let t := fsetb (fsetb (fsetb (fset s a F.FBI_AIN_CODE v.toNat) a F.FBI_AIN_OPEN (ainOpen ma v.toNat)) a F.FBI_AIN_OVER
        (ainOver ma v.toNat above)) a F.FBI_AIN_VALID good
      jointSample (.ain n) none (pressInput (.ain n) (Config.ainScale n.val v.toNat) good 20000
        { t with fbi := { t.fbi with
          ainTb := smSet zero n.val s.tb t.fbi.ainTb
          ainWas := smIns n.val (fget s a F.FBI_AIN_CODE, fbit s a F.FBI_AIN_VALID) t.fbi.ainWas } }))) ∧
  -- SHUNT_OPEN and SHUNT_CLOSE
  (∀ (n : Fin 16) (s : State), s.cfg.pinfn.ma.contains n.val = true → fbit s (R.FBI_AIN n.val) F.FBI_AIN_SHUNT_OPEN = false →
    exec (.shuntOpen n) s = .next (shuntOpen n.val s)) ∧
  (∀ (n : Fin 16) (s : State), fbit s (R.FBI_AIN n.val) F.FBI_AIN_SHUNT_OPEN = true → smGet zero s.fbi.shuntAt n.val + msTicks 100 ≤ s.tb →
    exec (.shuntClose n false) s = .next (fsetb s (R.FBI_AIN n.val) F.FBI_AIN_SHUNT_OPEN false)) ∧
  -- SUPPLY_LIMIT_OFF and SUPPLY_RETRY of SUP5A
  (∀ s : State, fbit s R.FBI_SUP F.FBI_SUP_SUP5A_OK = true →
    exec (.supplyLimitOff false) s = .next (fault (supplyFault false true (fincSat (fsetb { s with fbi := { s.fbi with supAt := smIns 0 s.tb s.fbi.supAt } } R.FBI_SUP F.FBI_SUP_SUP5A_OK false)
      R.FBI_SUP F.FBI_SUP_SUP5A_TRIPS)) Ev.SUPPLY_FAULT [0])) ∧
  (∀ s : State, fbit s R.FBI_SUP F.FBI_SUP_SUP5A_OK = false → smGet zero s.fbi.supAt 0 + secTicks ≤ s.tb →
    exec (.supplyRetry false) s = .next (faultEnd (supplyFault false false (fsetb s R.FBI_SUP F.FBI_SUP_SUP5A_OK true))
      Ev.SUPPLY_FAULT [0])) ∧
  -- and of SUP5B
  (∀ s : State, fbit s R.FBI_SUP F.FBI_SUP_SUP5B_OK = true →
    exec (.supplyLimitOff true) s = .next (fault (supplyFault true true (fincSat (fsetb { s with fbi := { s.fbi with supAt := smIns 1 s.tb s.fbi.supAt } } R.FBI_SUP F.FBI_SUP_SUP5B_OK false)
      R.FBI_SUP F.FBI_SUP_SUP5B_TRIPS)) Ev.SUPPLY_FAULT [1])) ∧
  (∀ s : State, fbit s R.FBI_SUP F.FBI_SUP_SUP5B_OK = false → smGet zero s.fbi.supAt 1 + secTicks ≤ s.tb →
    exec (.supplyRetry true) s = .next (faultEnd (supplyFault true false (fsetb s R.FBI_SUP F.FBI_SUP_SUP5B_OK true))
      Ev.SUPPLY_FAULT [1]))

/-- For ANT_BIAS_CHECK, ANT_SHORT, ANT_BIAS_RETRY, ACQ_ROUND, PULL_IN_TIMEOUT, ACQ_POWER_OFF, TRACKING_DUMP, CN0_LOSS and EPOCH_STROBE of an NSC960-G:
under the conditions under which each happens, exec answers the next state its rule describes: an open antenna below 2 mA is a fault; a short
takes the bias away for 1 s; a channel that does not pull in within 500 ms returns to IDLE and is counted, one that is lost returns to IDLE and
its satellite is searched for; an acquisition round ends when its longest dwell has run; 60 s without a pending search switch PD3 off. (R107,
R113, R114, R115, R116, R121, R125.) -/
def Obligations.GnssBasebandCommandsComplete : Prop :=
  -- ANT_BIAS_CHECK, every 100 ms, of an antenna that draws less than 2 mA
  (∀ (ua : Nat) (s : State), isG s = true → domOn s 5 = true → biasOn s = true → s.gns.biasOff = false → s.gns.antAt + msTicks 100 ≤ s.tb →
    ua < 2000 → s.gns.openF = false →
    exec (.antBiasCheck ua) s = .next (fault (antShow { s with gns := { s.gns with antAt := s.tb, openF := true } }) Ev.ANT_OPEN [])) ∧
  -- of one that draws its current: the condition of an open antenna ends
  (∀ (ua : Nat) (s : State), isG s = true → domOn s 5 = true → biasOn s = true → s.gns.biasOff = false → s.gns.antAt + msTicks 100 ≤ s.tb →
    2000 ≤ ua → ua ≤ 55000 → s.gns.openF = true → s.gns.shortF = false →
    exec (.antBiasCheck ua) s = .next (faultEnd (antShow { s with gns := { s.gns with antAt := s.tb, openF := false, shortF := false } })
      Ev.ANT_OPEN [])) ∧
  -- and that of a short
  (∀ (ua : Nat) (s : State), isG s = true → domOn s 5 = true → biasOn s = true → s.gns.biasOff = false → s.gns.antAt + msTicks 100 ≤ s.tb →
    2000 ≤ ua → ua ≤ 55000 → s.gns.openF = false → s.gns.shortF = true →
    exec (.antBiasCheck ua) s = .next (faultEnd (antShow { s with gns := { s.gns with antAt := s.tb, openF := false, shortF := false } })
      Ev.ANT_SHORT [])) ∧
  -- ANT_SHORT and ANT_BIAS_RETRY
  (∀ s : State, biasOn s = true → s.gns.biasOff = false → s.gns.shortF = false →
    exec .antShort s = .next (fault (antShow { s with gns := { s.gns with biasOff := true, shortF := true, shortAt := s.tb } }) Ev.ANT_SHORT [])) ∧
  (∀ s : State, s.gns.biasOff = true → s.gns.shortAt + secTicks ≤ s.tb →
    exec .antBiasRetry s = .next (antShow { s with gns := { s.gns with biasOff := false } })) ∧
  -- ACQ_ROUND: nothing pending, and the round that finishes the one satellite searched for: SEARCHING ends and its 60 s begin
  (∀ (l : List Cand) (s : State), s.gns.search = [] → exec (.acqRound l) s = .next s) ∧
  (∀ (s : State) (q : Search), isG s = true → domOn s 3 = true → s.gns.search = [q] → 0 < fget s R.GNS_ACQ F.GNS_ACQ_TILES_IN →
    q.left ≤ fget s R.GNS_ACQ F.GNS_ACQ_TILES_IN → s.gns.roundAt + dwellTicks q.sat.1 ≤ s.tb →
    exec (.acqRound []) s = .next { fsetb { s with gns := { s.gns with search := [], roundAt := s.tb } } R.GNS_ACQ F.GNS_ACQ_SEARCHING false with
      gns := { s.gns with search := [], roundAt := s.tb, searchAt := s.tb } }) ∧
  -- a candidate it finds is handed to a channel
  (∀ (s : State) (q : Search) (c : Cand), isG s = true → domOn s 3 = true → trkOn s = true → s.gns.search = [q] → q.covers c.sat = true →
    c.sat = q.sat → 0 < fget s R.GNS_ACQ F.GNS_ACQ_TILES_IN →
    q.left ≤ fget s R.GNS_ACQ F.GNS_ACQ_TILES_IN → s.gns.roundAt + dwellTicks q.sat.1 ≤ s.tb →
    exec (.acqRound [c]) s = .next (
      let t := handOver c q.slip s
      { fsetb { t with gns := { t.gns with search := [], roundAt := s.tb } } R.GNS_ACQ F.GNS_ACQ_SEARCHING false with
        gns := { t.gns with search := [], roundAt := s.tb, searchAt := s.tb } })) ∧
  -- PULL_IN_TIMEOUT
  (∀ (n : Fin 96) (s : State), (chan s n.val).state = 1 → (chan s n.val).since + msTicks 500 ≤ s.tb →
    exec (.pullInTimeout n) s = .next (fincSat (setChan n.val (chanIdle 0) s) R.GNS_ACQ F.GNS_ACQ_DROPPED)) ∧
  -- ACQ_POWER_OFF
  (∀ s : State, fbit s R.GNS_ACQ F.GNS_ACQ_SEARCHING = false → s.gns.searchAt + 60 * secTicks ≤ s.tb →
    exec .acqPowerOff s = .next (domSet s 3 false)) ∧
  -- TRACKING_DUMP that loses the channel, and one that keeps it
  (∀ (n : Fin 96) (d : Dump) (s : State), trkOn s = true → (chan s n.val).state ≠ 0 → n.val / 8 ∉ s.gns.outBanks →
    (chan s n.val).dumpAt + cohTicks s (chan s n.val) ≤ s.tb → s.tb % epochTicks s ≠ 0 →
    dumpState s.tb (chan s n.val) d = none →
    exec (.trackingDump n d) s = .next (searchSat (chan s n.val).sat false (setChan n.val (chanIdle 0) s))) ∧
  (∀ (n : Fin 96) (d : Dump) (s : State) (c : Chan), trkOn s = true → (chan s n.val).state ≠ 0 → n.val / 8 ∉ s.gns.outBanks →
    (chan s n.val).dumpAt + cohTicks s (chan s n.val) ≤ s.tb →
    dumpState s.tb (chan s n.val) d = some c → (symState s.tb c d.sym).symEx = (chan s n.val).symEx →
    (chan s n.val).state ≤ (symState s.tb c d.sym).state →
    exec (.trackingDump n d) s = .next (ephKeep (symState s.tb c d.sym) (setChan n.val (symState s.tb c d.sym) s))) ∧
  -- CN0_LOSS
  (∀ (n : Fin 96) (s : State) (t : Nat), (chan s n.val).weak = some t → t + secTicks ≤ s.tb → (chan s n.val).state ≠ 0 →
    s.tb % epochTicks s ≠ 0 →
    exec (.cn0Loss n) s = .next (searchSat (chan s n.val).sat false (setChan n.val (chanIdle 0) s))) ∧
  -- EPOCH_STROBE
  (∀ (e : GStrobe) (s : State), trkOn s = true → s.tb % epochTicks s = 0 → s.gns.ring = [] →
    exec (.epochStrobe e) s = .next (strobeRecord e (takeTold e.told (applyPath e.told.path s))))

/-- For AVAILABILITY_EVAL, GNSS_RECORD, EXCLUSION_END, SUSPECT_CLEAR, SPOOF_CLEAR, INTERFERENCE_FFT and NOM_GAIN_UPDATE: under the conditions under
which each happens, exec answers the next state its rule describes. The evaluation counts the satellites that the records of its epoch show usable
(R109); fewer than 4 of the main system announce the fall-back at once; a CCD exclusion and SUSPECT end after 60 s; NOM_GAIN takes the median of
the gains only after an hour without JAM. (R109, R110, R122, R124, R125, R126, R127.) -/
def Obligations.GnssIntegrityCommandsComplete : Prop :=
  -- AVAILABILITY_EVAL with fewer than 4 usable satellites of the main system
  (∀ (a : Avail) (s : State), poseRole s = true → inSpoof s = false → s.gns.pathNext = none →
    fbit s R.GNS_STATUS F.GNS_STATUS_FALLBACK = false → s.tb / secTicks * secTicks + msTicks 2 ≤ s.tb →
    s.gns.evalAt ≠ some (s.tb / secTicks * secTicks) →
    usableOf (usableSats s (s.tb / secTicks * secTicks)) (mainSys s) < 4 →
    exec (.availabilityEval a) s = .next (announcePath true
      (evalShow (usableOf (usableSats s (s.tb / secTicks * secTicks)) (mainSys s)) (usableSats s (s.tb / secTicks * secTicks)).length a
        { s with gns := { s.gns with evalAt := some (s.tb / secTicks * secTicks) } }))) ∧
  -- an evaluation shows its counts and PDOPs in the registers
  (∀ (m n : Nat) (a : Avail) (s : State), s.pwr.powered = true →
    evalShow m n a s =
      fset (fset (fset (fset s R.GNS_STATUS F.GNS_STATUS_USABLE_MAIN (min 255 m)) R.GNS_STATUS F.GNS_STATUS_USABLE_ALL (min 255 n))
        R.GNS_PDOP F.GNS_PDOP_PDOP_MAIN (min 65535 (a.pdopMain.getD 65535))) R.GNS_PDOP F.GNS_PDOP_PDOP_ALL
        (min 65535 (a.pdopAll.getD 65535))) ∧
  -- GNSS_RECORD at the holder of the pose role
  (∀ (r : GRec) (c : GChk) (s : State), poseRole s = true →
    exec (.gnssRecord r c none) s = .next (spoofCheck (integrity r (chkCoh (recTake r s) r c) (recTake r s)))) ∧
  -- EXCLUSION_END
  (∀ (a : Fin 64) (sat : Sat) (s : State) (e : Excl),
    s.gns.excl.find? (fun e => e.ant == some a.val && e.sat == sat && e.cause == .ccd) = some e → e.at_ + 60 * secTicks ≤ s.tb →
    exec (.exclusionEnd a sat) s = .next (unexclude (some a.val) sat .ccd Ev.CCD_FAULT s)) ∧
  -- SUSPECT_CLEAR of another module's antenna, and of its own
  (∀ (a : Fin 64) (s : State), (antSt s a.val).suspect = true → (antSt s a.val).badAt + 60 * secTicks ≤ s.tb → a.val ≠ midOf s →
    exec (.suspectClear a) s = .next (faultEnd (setAnt a.val { antSt s a.val with suspect := false } s) Ev.ANT_SUSPECT [(a.val : Int)])) ∧
  (∀ (a : Fin 64) (s : State), (antSt s a.val).suspect = true → (antSt s a.val).badAt + 60 * secTicks ≤ s.tb → a.val = midOf s →
    exec (.suspectClear a) s = .next (faultEnd (chanShow (fsetb (setAnt a.val { antSt s a.val with suspect := false } s) R.GNS_STATUS
      F.GNS_STATUS_SUSPECT false)) Ev.ANT_SUSPECT [(a.val : Int)])) ∧
  -- SPOOF_CLEAR after 60 s with two antennas whose new measurements agree
  (∀ s : State, inSpoof s = true → poseRole s = true →
    2 ≤ (s.gns.ants.filter (fun x => antNew s x.2 && x.2.coh)).length →
    s.gns.spoofBad + 60 * secTicks ≤ s.tb → exec .spoofClear s = .next (spoofLeave s)) ∧
  -- INTERFERENCE_FFT without a line and without a wide-band signal
  (∀ (gain jn : Nat) (s : State), isG s = true → domOn s 5 = true →
    notchLow s 0 [] s.gns.lowA = none → notchLow s 1 [] s.gns.lowB = none → fget s R.GNS_AGC F.GNS_AGC_NOM_GAIN < gain + 12 →
    exec (.interferenceFft [] gain jn) s = .next (
      let t := fset (fset s R.GNS_AGC F.GNS_AGC_GAIN gain) R.GNS_AGC F.GNS_AGC_JN jn
      gainCount gain (jamSet false false jn (some (s.gns.jamClear.getD s.tb))
        { t with gns := { t.gns with lineRun := [], lowA := none, lowB := none, wideFrom := none } }))) ∧
  -- NOM_GAIN_UPDATE
  (∀ (m : Nat) (s : State), median s.gns.gains = some m → isG s = true → domOn s 5 = true →
    fbit s R.GNS_STATUS F.GNS_STATUS_JAM = false → s.gns.nomAt + 3600 * secTicks ≤ s.tb →
    exec .nomGainUpdate s = .next (fset { s with gns := { s.gns with nomGain := m, gains := [], nomAt := s.tb } } R.GNS_AGC F.GNS_AGC_NOM_GAIN m))

/-- For POSE_RECORD_PUBLISH, POSE_RECORD, DR_LIMIT_EXPIRY, RTCM_MESSAGE, EXTERNAL_POSE_PGN, SPEED_MESSAGE, INS_SAMPLE and INERTIAL_SILENCE: under the
conditions under which each happens, exec answers the next state its rule describes. A record for a boundary that has passed is POSE_STALE;
message 1230 is accepted and ignored; a message outside the accepted list or with a bad CRC is dropped and counted; an inertial sample with a bad
CRC is a fault with its count. (R69, R129, R130, R131, R133, R134, R456.) -/
def Obligations.PoseCommandsComplete : Prop :=
  -- POSE_RECORD_PUBLISH at the holder of the pose role, once for a boundary
  (∀ (f : Fused) (s : State), poseRole s = true → solverFamily s = true →
    s.pos.next.any (fun x => x.b == nextBoundary s.tb) = false →
    exec (.poseRecordPublish f) s = .next (
      let t := chooseSource (nextBoundary s.tb - cycleTicks) f.jumpX f.jumpY s
      let r := buildRecord f (nextBoundary s.tb) t
      keepRecord r (toTeam t MsgKind.POSE_RECORD (recordArgs r)))) ∧
  (∀ (f : Fused) (s : State), s.pos.next.any (fun x => x.b == nextBoundary s.tb) = true → exec (.poseRecordPublish f) s = .next s) ∧
  -- POSE_RECORD too late, and in time
  (∀ (r : PoseRec) (s : State), r.b ≤ s.str.cycle → exec (.poseRecord r) s = .next (fault s Ev.POSE_STALE [(r.b : Int)])) ∧
  (∀ (r : PoseRec) (s : State), s.str.cycle < r.b → exec (.poseRecord r) s = .next (keepRecord r s)) ∧
  -- DR_LIMIT_EXPIRY
  (∀ (s : State) (t : Nat), s.pos.source = 3 → s.pos.drSince = some t → t + drLimit s ≤ s.tb → poseRole s = true →
    exec .drLimitExpiry s = .next (poseLost s)) ∧
  -- RTCM_MESSAGE given by a session: none open, refused by role, ignored, dropped, taken by the pose solver, passed on to it
  (∀ (k : Fin 36) (typ st ep : Nat) (ok : Bool) (s : State), k.val < 4 → sessRole s k.val = none →
    exec (.rtcmMessage (.session k) typ st ep ok) s = .next s) ∧
  (∀ (k : Fin 36) (typ st ep : Nat) (ok : Bool) (s : State) (r : Role), k.val < 4 → sessRole s k.val = some r → mayAct .rtcm r = false →
    exec (.rtcmMessage (.session k) typ st ep ok) s = .next (writeDenied s r 0)) ∧
  (∀ (k : Fin 36) (st ep : Nat) (s : State) (r : Role), k.val < 4 → sessRole s k.val = some r → mayAct .rtcm r = true →
    exec (.rtcmMessage (.session k) 1230 st ep true) s = .next s) ∧
  (∀ (k : Fin 36) (typ st ep : Nat) (s : State) (r : Role), k.val < 4 → sessRole s k.val = some r → mayAct .rtcm r = true →
    exec (.rtcmMessage (.session k) typ st ep false) s = .next { s with pos := { s.pos with corrDrop := s.pos.corrDrop + 1 } }) ∧
  (∀ (k : Fin 36) (typ st ep : Nat) (s : State) (r : Role), k.val < 4 → sessRole s k.val = some r → mayAct .rtcm r = true → typ ≠ 1230 →
    typ ∈ rtcmTypes → poseRole s = true →
    exec (.rtcmMessage (.session k) typ st ep true) s = .next (takeCorr true st ep s)) ∧
  (∀ (k : Fin 36) (typ st ep : Nat) (s : State) (r : Role), k.val < 4 → sessRole s k.val = some r → mayAct .rtcm r = true → typ ≠ 1230 →
    typ ∈ rtcmTypes → poseRole s = false →
    exec (.rtcmMessage (.session k) typ st ep true) s =
      .next (send s MsgKind.RTCM (poseHolder s) [(typ : Int), (st : Int), (ep : Int), 1])) ∧
  -- by another member, and from a CAN controller
  (∀ (eth : Bool) (typ st ep : Nat) (s : State), typ ≠ 1230 → typ ∈ rtcmTypes → poseRole s = true →
    exec (.rtcmMessage (.forward eth) typ st ep true) s = .next (takeCorr eth st ep s)) ∧
  (∀ (c : Fin 4) (typ st ep : Nat) (s : State), typ ≠ 1230 → typ ∈ rtcmTypes → poseRole (canTake c.val 2 s) = true →
    exec (.rtcmMessage (.can c) typ st ep true) s = .next (takeCorr false st ep (canTake c.val 2 s))) ∧
  -- EXTERNAL_POSE_PGN with a position, stamped by its frame's reception less EXT_LAT
  (∀ (c : Fin 4) (acc : Nat) (ok : Bool) (s : State), c.val = (canTake c.val 3 s).cfg.gnss.poseCan →
    exec (.externalPosePgn c 129025 acc ok none) s = .next (
      let t := canTake c.val 3 s
      { t with pos := { t.pos with ext := srcPush ⟨canStamp c.val 3 s - msTicks t.cfg.geom0.extLat, acc, ok⟩ t.pos.ext } })) ∧
  -- SPEED_MESSAGE
  (∀ (c : Fin 4) (v : Int) (s : State), (canTake c.val 4 s).cfg.gnss.speed = .iso → c.val = (canTake c.val 4 s).cfg.gnss.poseCan →
    exec (.speedMessage c v true) s = .next (
      let t := canTake c.val 4 s
      { t with pos := { t.pos with speed := some (v, t.tb) } })) ∧
  -- INS_SAMPLE with a good CRC, with a bad one; INERTIAL_SILENCE
  (∀ s : State, domOn s 11 = true → s.pos.insSilent = false →
    exec (.insSample true) s = .next { s with pos := { s.pos with insTb := some s.tb } }) ∧
  (∀ s : State, domOn s 11 = true →
    exec (.insSample false) s = .next (fault { s with pos := { s.pos with insBad := s.pos.insBad + 1 } } Ev.INERTIAL_CRC
      [((s.pos.insBad + 1 : Nat) : Int)])) ∧
  (∀ (s : State) (t : Nat), s.pos.insTb = some t → t + msTicks 100 ≤ s.tb → s.pos.insSilent = false →
    exec .inertialSilence s = .next (faultCls { s with pos := { s.pos with insSilent := true } } Ev.INERTIAL_FAULT [] 1))

/-- For TT_OFS_ANNOUNCE, TT_OFS_APPLY, HOLDOVER_LIMIT, TPO_PULSE, TPO_PULSE_END and SLEW_END: under the conditions under which each happens, exec
answers the next state its rule describes: an announced offset waits for its boundary and takes effect there, and its sender's TT state is
followed; after HOLD_S of HOLDOVER TT is FREE_RUN; a due and allowed pulse drives TPO, and after WIDTH × 10 ms it ends; slewing ends within 1
tick. (R140, R141, R142, R144, R145.) -/
def Obligations.TimeCommandsComplete : Prop :=
  (∀ (ofs : Int) (b st : Nat) (s : State), timeRole s = false → exec (.ttOfsAnnounce ofs b st) s =
    .next (ttSee (st % 5) { s with pos := { s.pos with ofsNamed := smIns b ofs s.pos.ofsNamed } })) ∧
  (∀ (s : State) (b : Nat) (o : Int), s.pos.ofsNamed = [(b, o)] → b ≤ s.tb →
    exec .ttOfsApply s = .next (applyOfs o { s with pos := { s.pos with ofsNamed := [] } })) ∧
  (∀ (s : State) (b : Nat) (o : Int), s.pos.ofsNamed = [(b, o)] → s.tb < b → exec .ttOfsApply s = .next s) ∧
  (∀ (s : State) (t : Nat), s.pos.holdAt = some t → ttState s = 2 → t + fget s R.POS_HOLD F.POS_HOLD_HOLD_S * secTicks ≤ s.tb →
    timeRole s = false → exec .holdoverLimit s = .next (setTt 3 s)) ∧
  -- the time master tells the team of its new state
  (∀ (s : State) (t : Nat), s.pos.holdAt = some t → ttState s = 2 → t + fget s R.POS_HOLD F.POS_HOLD_HOLD_S * secTicks ≤ s.tb →
    timeRole s = true → exec .holdoverLimit s = .next (tellTt 3 s)) ∧
  (∀ (sec : Nat) (s : State), tpoOn s = true → pulseDue s sec = true → pulseAllowed s sec = true → s.pos.stepPend = none →
    exec (.tpoPulse sec) s =
      .next (send { s with pos := { s.pos with tpo := true, tpoSub := (pulseAt s sec % 32).toNat, lastS := some sec, lastPulse := some s.tb } }
        MsgKind.TPO 0 [(sec : Int), ((pulseAt s sec % 32).toNat : Int)])) ∧
  (∀ (s : State) (t : Nat), s.pos.lastPulse = some t → t + fget s R.POS_TPO_CFG F.POS_TPO_CFG_WIDTH * msTicks 10 ≤ s.tb →
    exec .tpoPulseEnd s = .next { s with pos := { s.pos with tpo := false } }) ∧
  (∀ (s : State) (e : Int), s.pos.slew = some e → e.natAbs < 32 →
    exec .slewEnd s = .next (fsetb { s with pos := { s.pos with slew := none } } R.POS_TT_STATUS F.POS_TT_STATUS_SLEWING false))

/-- For STRIDE_BOUNDARY, STRIDE_CUTOFF, STRIDE_FULL_RESTORE, STRIDE_WRITEBACK, EVENT_COMMIT, RECENT_PLANE_SWEEP, DEBUG_HALT and DEBUG_RESUME: under
the conditions under which each happens, exec answers the next state its rule describes: at a multiple of 40,000 ticks the counters are snapshot
and the core's boundary runs; a cut-off counts the overrun and the horizons skipped; an event whose command tick has come leaves the queue and
drives the gate; a halt freezes the generator, starts the watchdog and checks for halter mode. (R149, R162, R175, R176, R177, R179, R246.) -/
def Obligations.StrideCommandsComplete : Prop :=
  -- STRIDE_BOUNDARY with PD1 off, and with the core running
  (∀ s : State, s.pwr.tbRun = true → s.tb % cycleTicks = 0 → s.str.cycle ≠ s.tb → domOn s 1 = false →
    exec .strideBoundary s = .next (counterSnapshot s.tb { s with str := { s.str with cycle := s.tb, written := false, late := false } })) ∧
  (∀ s : State, s.pwr.tbRun = true → s.tb % cycleTicks = 0 → s.str.cycle ≠ s.tb → domOn s 1 = true → s.pwm.halted = false →
    exec .strideBoundary s = .next (coreBoundary s.tb (rset64 (counterSnapshot s.tb
      { s with str := { s.str with cycle := s.tb, written := false, late := false } }) R.STR_CYCLE_LO R.STR_CYCLE_HI s.tb))) ∧
  -- STRIDE_CUTOFF of one sweep cut at horizon h
  (∀ (o : Fin 96) (h : Fin 8) (s : State), s.str.written = false → s.str.late = false → s.str.cycle + 38000 ≤ s.tb →
    s.tb < s.str.cycle + cycleTicks → (outSt s o.val).sweep.isSome = true → h.val < fget s R.STR_STATUS F.STR_STATUS_N_EFF →
    exec (.strideCutoff [(o, h)]) s = .next (
      let t := setOut s o.val { outSt s o.val with cutHz := some h.val }
      let u := fset (fincSat (fincSat t R.STR_OVR F.STR_OVR_OVERRUNS) R.STR_OVR F.STR_OVR_CONSEC) R.STR_OVR F.STR_OVR_LOW_SKIP (min 7 h.val)
      lateRecord (fget s R.STR_OVR F.STR_OVR_CONSEC == 0) (0 + (fget s R.STR_STATUS F.STR_STATUS_N_EFF - h.val)) (min 7 h.val)
        (fsetb { u with str := { u.str with late := true, cleanRun := 0 } } R.STR_STATUS F.STR_STATUS_STRIDE_LATE true))) ∧
  -- STRIDE_FULL_RESTORE: N_EFF is N_HZ again, and the fault ends
  (∀ s : State, fbit s R.STR_STATUS F.STR_STATUS_REDUCED = true → 5000 ≤ s.str.cleanRun → s.tb % cycleTicks = 0 →
    (∀ i ∈ strLanes s, fget s R.SYS_GAIT_CFG F.SYS_GAIT_CFG_WARN_PCT ≤ fget s (R.SYS_GAIT_PACE i) F.SYS_GAIT_PACE_MARGIN) →
    exec .strideFullRestore s = .next (faultEnd (fset (fsetb s R.STR_STATUS F.STR_STATUS_REDUCED false) R.STR_STATUS F.STR_STATUS_N_EFF
      (fget s R.STR_CFG F.STR_CFG_N_HZ)) Ev.STRIDE_REDUCED [])) ∧
  -- STRIDE_WRITEBACK while the engine does not run: the rates are shown, what has been planned is committed, and the cycle is written
  (∀ (mis : Bool) (s : State), s.str.written = false → s.pwr.tbRun = true → domOn s 1 = true → s.pwm.halted = false → s.str.cycle ≤ s.tb →
    s.tb < s.str.cycle + cycleTicks → engineRuns s = false →
    exec (.strideWriteback mis) s = .next (staged (fun x =>
      let skip := if quiescing x then x.img.scope else []
      let r := forEach ((strideOuts x).filter (fun o => !skip.contains o.out)) (fun o y => rateOut s.str.cycle o y) x
      let t := provTidy (commitAll s.str.cycle r)
      shadowPlans { t with str := { t.str with written := true } }) s)) ∧
  -- EVENT_COMMIT of the first entry of an output's queue
  (∀ (o : Fin 96) (s : State) (e : QEnt) (q : List QEnt), (outSt s o.val).queue = e :: q → e.tick ≤ s.tb → s.pwr.tbRun = true →
    s.pwm.frozen = none → domOn s 10 = true → gateLive s = true →
    exec (.eventCommit o) s = .next (staged (fun x => nextReg o.val (gateTake o.val e.on e.ground
      (setOut x o.val { outSt x o.val with queue := q, last := some (x.tb, e, gateOn x o.val, (outSt x o.val).fixed) }))) s)) ∧
  -- RECENT_PLANE_SWEEP of one stamped block that no mark stands in: the stamp leaves the plane, and is OLD where it has aged
  (∀ (b n : Nat) (s : State), s.str.stamp = [(b, n)] → s.cov.code = [] → s.str.prov = [] →
    exec .recentPlaneSweep s = .next { s with str := { s.str with stamp := []
                                                                  old := if (n + 80) * 10000000 ≤ s.tb then smSet unset b true s.str.old else s.str.old } }) ∧
  -- DEBUG_HALT (a command taken in the halt's own tick is undone, and farrier slices are given up) and DEBUG_RESUME
  (∀ (who : Fin 36) (s : State), rapMay s who.val .debug 0 = true → domOn s 1 = true → s.pwm.halted = false →
    exec (.debugHalt who) s = .next (rapAnswer (staged (fun x => halterCheck (wdStart (freeze
      (let t := slicesDrop (haltUndo x)
       { t with pwm := { t.pwm with halted := true } })))) s) who.val .ok [])) ∧
  (∀ (who : Fin 36) (s : State), rapMay s who.val .debug 0 = true → s.pwm.halted = true →
    exec (.debugResume who) s = .next (rapAnswer (staged (fun x => queueCatchUp x.tb (unfreeze
      { x with pwm := { x.pwm with halted := false } })) s) who.val .ok []))

/-- For TILE_FILL, COMMIT_STRIP, HOLE_RESEND, RESEND_REQUEST, REPLICA_HOLE, CATCH_UP_START, CATCH_UP_SEQ_TABLE and CATCH_UP_TILE: under the conditions
under which each happens, exec answers the next state its rule describes: a strip waits for the merge at a boundary; a hole asks for a resend
after 500 ms and is given up after 10 s; a strip of the last 10 s is sent again; a joiner takes the sequence table and the tiles and, with the
last tile, merges what it has held. (R186, R198, R199, R200.) -/
def Obligations.CoverageMergeCommandsComplete : Prop :=
  -- TILE_FILL of the one tile that is wanted, into a cache with room
  (∀ (t : Fin 1048576) (s : State) (p : Nat), tilesMissing s = [(t.val, p)] → s.str.cache.length < cacheRoom s →
    exec (.tileFill t) s = .next (fset { s with str := { s.str with cache := s.str.cache ++ [t.val] } } R.COV_TILES F.COV_TILES_CACHED
      (s.str.cache.length + 1))) ∧
  -- COMMIT_STRIP
  (∀ (x : Strip) (s : State), s.cov.held.length < 65536 →
    exec (.commitStrip x) s = .next (showLag { s with cov := { s.cov with held := s.cov.held ++ [x] } })) ∧
  -- HOLE_RESEND, REPLICA_HOLE
  (∀ (p : Fin 32) (o : Fin 128) (n t : Nat) (s : State), holeSince s p.val o.val n = some t → t + msTicks 500 ≤ s.tb →
    exec (.holeResend p o n) s = .next (forEach ((otherMembers s).filter (fun m => m / 2 == p.val))
      (fun m x => send x MsgKind.RESEND m [(p.val : Int), (o.val : Int), (n : Int)]) s)) ∧
  (∀ (p : Fin 32) (o : Fin 128) (n t : Nat) (s : State), holeSince s p.val o.val n = some t → t + 10 * secTicks ≤ s.tb →
    n ≤ (seqOf s (seqKey p.val o.val)).last + 64 →
    exec (.replicaHole p o n) s = .next (holeGiveUp (seqKey p.val o.val) n s)) ∧
  (∀ (p : Fin 32) (o : Fin 128) (n t : Nat) (s : State), holeSince s p.val o.val n = some t → s.tb < t + 10 * secTicks →
    exec (.replicaHole p o n) s = .next s) ∧
  -- RESEND_REQUEST
  (∀ (m : Fin 64) (o : Fin 128) (n at_ : Nat) (s : State) (x : Strip),
    s.cov.ring.find? (fun x => x.2.out == o.val && x.2.seq == n && decide (s.tb ≤ x.1 + 10 * secTicks)) = some (at_, x) →
    exec (.resendRequest m o n) s = .next (send s MsgKind.COMMIT_STRIP m.val (stripArgs x))) ∧
  -- CATCH_UP_START, CATCH_UP_SEQ_TABLE, CATCH_UP_TILE
  (∀ (m : Fin 64) (s : State), isLeader s = true → s.cov.job.isSome = true → m.val ∈ otherMembers s →
    exec (.catchUpStart m) s = .next (catchUpFor m.val s)) ∧
  (∀ (S : Nat) (st : Option Nat) (tab : List (Nat × SeqEnt)) (s : State), s.cov.job.isSome = true → isLeader s = false →
    exec (.catchUpSeqTable S st tab) s = .next (
      let t := catchUpBegin s
      ownSeqs { t with cov := { t.cov with seqTab := tab.foldl (fun m e => smSet seqInit e.1 e.2 m) [], catchS := S, startAt := st } })) ∧
  (∀ (t : Fin 1048576) (l : List (Nat × Nat)) (s : State), s.cov.fetch.contains t.val = true →
    exec (.catchUpTile t l false) s = .next (faultOver (putTile t.val l { s with cov := { s.cov with fetch := s.cov.fetch.filter (· != t.val) } })
      Ev.TILE_RELOAD [(t.val : Int)])) ∧
  (∀ (t : Fin 1048576) (l : List (Nat × Nat)) (s : State), s.cov.fetch.contains t.val = false → catching s = true →
    exec (.catchUpTile t l false) s = .next (putTile t.val l s))

/-- For JOB_LOAD, JOB_LOAD_DONE, JOB_DEFINITION, RASTER_HASH, RASTER_HASH_TIMEOUT, JOB_START, JOB_RESUME and JOB_RUN_APPLY: under the conditions under
which each happens, exec answers the next state its rule describes: STATE goes from NONE through LOADING to LOADED and to RUN; a job that fails
its checks leaves STATE ERROR with its code; a command in a state that does not take it sets ERR 9; the boundary of RUN is named at least 250
cycles after the last report, and at least 10 cycles ahead (the latter the model's choice, log entry 43). (R201, R202.) -/
def Obligations.JobLoadCommandsComplete : Prop :=
  -- JOB_LOAD at the leader, in NONE
  (∀ (k : Fin 36) (j : JobDef) (s : State), rapMay s k.val .job 8 = true → sessJob s k.val j.jobId = true → isLeader s = true →
    jobState s = 0 →
    exec (.jobLoad (some k) j) s = .next (rapAnswer (setJobErr 0 (setJobState 1 { s with cov := { s.cov with
      job := some { j with found := j.found && jobSelected s j } } })) k.val .ok [])) ∧
  -- and in any other state: ERR 9
  (∀ (k : Fin 36) (j : JobDef) (s : State), rapMay s k.val .job 8 = true → sessJob s k.val j.jobId = true → isLeader s = true →
    jobState s ≠ 0 → exec (.jobLoad (some k) j) s = .next (rapAnswer (setJobErr 9 s) k.val .ok [])) ∧
  -- JOB_LOAD_DONE
  (∀ (s : State) (j : JobDef), jobState s = 1 → s.cov.job = some j → loadError s j = 0 →
    exec .jobLoadDone s = .next (distribute j (jobLoaded j s))) ∧
  (∀ (s : State) (j : JobDef), jobState s = 1 → s.cov.job = some j → loadError s j ≠ 0 →
    exec .jobLoadDone s = .next (setJobErr (loadError s j) (setJobState 7 s))) ∧
  -- JOB_DEFINITION in a member
  (∀ (j : JobDef) (s : State), isLeader s = false → jobState s = 0 → loadError s j = 0 →
    exec (.jobDefinition j) s = .next (toLeader (jobLoaded j s) MsgKind.RASTER_HASH [(Config.rasterHash j : Int)])) ∧
  -- RASTER_HASH that agrees, and one that differs
  (∀ (m : Fin 64) (s : State) (j : JobDef), s.cov.job = some j → isLeader s = true → s.cov.hashOk.contains m.val = false →
    fltHeld s Ev.JOB_MISMATCH [(m.val : Int)] = false →
    exec (.rasterHash m (Config.rasterHash j)) s = .next { s with cov := { s.cov with
      hashOk := s.cov.hashOk ++ [m.val], hashBad := s.cov.hashBad.filter (· != m.val), hashAt := s.tb } }) ∧
  (∀ (m : Fin 64) (h : Nat) (s : State) (j : JobDef), s.cov.job = some j → isLeader s = true → s.cov.hashOk.contains m.val = false →
    h ≠ Config.rasterHash j →
    exec (.rasterHash m h) s = .next (catchUpFor m.val (setJobErr 7 (fault { s with cov := { s.cov with
      hashOk := s.cov.hashOk ++ [m.val], hashBad := s.cov.hashBad.filter (· != m.val), hashAt := s.tb } } Ev.JOB_MISMATCH
      [(m.val : Int)])))) ∧
  -- RASTER_HASH_TIMEOUT after 60 s
  (∀ (m : Fin 64) (s : State), isLeader s = true → s.cov.job.isSome = true → s.cov.hashSent + 60 * secTicks ≤ s.tb →
    m.val ∈ otherMembers s → m.val ∉ s.cov.hashOk → m.val ∉ s.cov.hashBad →
    exec (.rasterHashTimeout m) s = .next { s with cov := { s.cov with hashBad := s.cov.hashBad ++ [m.val] } }) ∧
  -- JOB_START and JOB_RESUME name the boundary of RUN
  (∀ (k : Fin 36) (s : State), rapMay s k.val .job 8 = true → sessJob s k.val (jobNow s) = true → isLeader s = true →
    hashesIn s = true → jobState s = 2 → exec (.jobStart (some k)) s = .next (rapAnswer (nameRun s) k.val .ok [])) ∧
  (∀ (k : Fin 36) (s : State), rapMay s k.val .job 8 = true → sessJob s k.val (jobNow s) = true → isLeader s = true →
    jobState s = 5 → exec (.jobResume (some k)) s = .next (rapAnswer (nameRun s) k.val .ok [])) ∧
  -- JOB_RUN_APPLY at the leader, in a module without an output under the engine
  (∀ (s : State) (b : Nat), isLeader s = true → s.cov.runAt = some b → b ≤ s.tb → jobState s = 2 → s.cov.storedJob = none →
    s.cov.job.isSome = true → strideOuts s = [] →
    exec (.jobRunApply b) s = .next (injEnd 4 (setJobErr 0 (setJobState 3 (leaseAnew { s with cov := { s.cov with
      runAt := none, startAt := some (s.cov.startAt.getD b), storedAt := s.tb, storedSusp := false, storedRun := false } })))))

/-- For JOB_SUSPEND, JOB_SUSPENDED, JOB_CLOSE, JOB_CLOSE_DONE, JOB_DISCARD, JOB_EXPORT, EXPORT_DONE, ADD_EXCL, EXCL_ACK, EXCL_APPLY and JOB_STORE:
under the conditions under which each happens, exec answers the next state its rule describes. An exclusion takes effect at the boundary the
leader names, in every module that has the polygon; a job in RUN is stored every 10 s. (R190, R201, R203, R204, R205.) -/
def Obligations.JobEndCommandsComplete : Prop :=
  -- JOB_SUSPEND: RUN to SUSPENDING
  (∀ (k : Fin 36) (s : State), rapMay s k.val .job 8 = true → sessJob s k.val (jobNow s) = true → isLeader s = true → jobState s = 3 →
    exec (.jobSuspend (some k)) s = .next (rapAnswer (setJobState 4 (jobTeam 3 s)) k.val .ok [])) ∧
  -- JOB_SUSPENDED: once nothing is on its way
  (∀ (full : Bool) (s : State), jobState s = 4 → s.cov.toAck = [] → strideOuts s = [] →
    exec (.jobSuspended full) s = .next (
      let t := setJobState 5 s
      jobStore full { t with cov := { t.cov with storedSusp := true } })) ∧
  -- JOB_CLOSE and its end
  (∀ (k : Fin 36) (s : State), rapMay s k.val .job 8 = true → sessJob s k.val (jobNow s) = true → isLeader s = true → jobState s = 5 →
    exec (.jobClose (some k)) s = .next (rapAnswer (setJobState 6 (jobTeam 5 s)) k.val .ok [])) ∧
  (∀ (full : Bool) (s : State) (j : JobDef), jobState s = 6 → s.cov.job = some j →
    exec (.jobCloseDone full) s = .next (
      let t := jobStore full s
      jobNone { t with cov := { t.cov with
        records := t.cov.records ++ [appRecord t j], storedJob := some { j with closed := true }, storedSusp := false, storedRun := false } })) ∧
  -- JOB_DISCARD
  (∀ (k : Fin 36) (s : State), rapMay s k.val .discard 8 = true → sessJob s k.val (jobNow s) = true → isLeader s = true →
    jobState s = 5 →
    exec (.jobDiscard (some k)) s = .next (rapAnswer (jobNone (setJobErr 0 (jobTeam 6
      { s with cov := { s.cov with storedSusp := false, storedRun := false } }))) k.val .ok [])) ∧
  -- JOB_EXPORT in SUSPENDED, and EXPORT_DONE
  (∀ (k : Fin 36) (s : State), rapMay s k.val .discard 8 = true → jobState s = 5 →
    exec (.jobExport (some k)) s = .next (rapAnswer (fsetb { s with cov := { s.cov with exporting := true } } R.COV_JOB_STATUS
      F.COV_JOB_STATUS_EXPORT_READY false) k.val .ok [])) ∧
  (∀ s : State, s.cov.exporting = true →
    exec .exportDone s = .next (fsetb { s with cov := { s.cov with
      exporting := false, exported := (exportJob s).map (fun x => taskData x.1 x.2) } } R.COV_JOB_STATUS F.COV_JOB_STATUS_EXPORT_READY
      true)) ∧
  -- ADD_EXCL received by a member: kept and acknowledged
  (∀ (n : Nat) (p : Poly) (s : State), isLeader s = false → jobState s = 3 →
    exec (.addExcl none n p) s = .next (toLeader { s with cov := { s.cov with
      polys := s.cov.polys.filter (fun x => x.1 != n) ++ [(n, p)] } } MsgKind.EXCL_ACK [(n : Int)])) ∧
  -- EXCL_ACK with others still to come
  (∀ (m : Fin 64) (n : Nat) (ms : List Nat) (s : State), s.cov.acks.find? (fun a => a.1 == n) = some (n, ms) →
    ms.filter (· != m.val) ≠ [] →
    exec (.exclAck m n) s = .next { s with cov := { s.cov with
      acks := s.cov.acks.map (fun a => if a.1 = n then (n, ms.filter (· != m.val)) else a) } }) ∧
  -- EXCL_APPLY in a member without a marked cell
  (∀ (n b : Nat) (p : Poly) (s : State), isLeader s = false → b ≤ s.tb → s.cov.polys.find? (fun x => x.1 == n) = some (n, p) →
    s.cov.job.isSome = true → s.cov.code = [] →
    exec (.exclApply n b) s = .next { s with cov := { s.cov with
      polys := s.cov.polys.filter (fun x => x.1 != n), exclAt := s.cov.exclAt.filter (fun x => x.2 != n), added := s.cov.added ++ [p] } }) ∧
  -- JOB_STORE
  (∀ (full : Bool) (s : State), jobState s = 3 → s.cov.storedAt + 10 * secTicks ≤ s.tb →
    exec (.jobStore full) s = .next (jobStore full s))

/-- For MASTER_WRITE, SECSW_WRITE, STALL_WRITE, TEAM_STATE_CHANGE, SECTION_STATE_APPLY, MODE_REQ_WRITE, TC_SETPOINT, TC_STATUS, TC_LOSS,
MODE_CHANGE_APPLY, ALLEY_SET and ALLEY_ORIENT: under the conditions under which each happens, exec answers the next state its rule describes: a
change of the shared section state goes to the leader, which names its boundary; 6 s without a task-controller status are its loss. (R209, R212,
R214, R217, R222, R224.) -/
def Obligations.ModeCommandsComplete : Prop :=
  (∀ (who : Fin 36) (b : Bool) (s : State), rapMay s who.val .operate 1 = true →
    exec (.masterWrite who b) s = .next (rapAnswer (teamChange (.master b) s) who.val .ok [])) ∧
  (∀ (who : Fin 36) (k : Fin 3) (w : Word) (s : State), rapMay s who.val .operate 1 = true →
    exec (.secswWrite who k w) s = .next (rapAnswer (teamChange (.secsw k w) s) who.val .ok [])) ∧
  (∀ (who : Fin 36) (n : Fin 96) (w : Word) (s : State), rapMay s who.val .operate 1 = true →
    exec (.stallWrite who n w) s = .next (rapAnswer (teamChange (.stall n w) s) who.val .ok [])) ∧
  (∀ (m : Fin 64) (c : TeamChg) (s : State), isLeader s = true → exec (.teamStateChange m c) s = .next (nameChange c s)) ∧
  (∀ (b : Nat) (c : TeamChg) (s : State), isLeader s = false → b ≤ s.tb → exec (.sectionStateApply b c) s =
    .next (applyChange c { s with team := { s.team with asked := s.team.asked.filter (fun x => x != c) } })) ∧
  (∀ (b : Nat) (c : TeamChg) (s : State), isLeader s = true → b ≤ s.tb → s.str.chgs.contains (b, c) = true →
    exec (.sectionStateApply b c) s = .next (applyChange c { s with str := { s.str with
      chgs := removeFirst (· == (b, c)) s.str.chgs } })) ∧
  (∀ (b : Nat) (c : TeamChg) (s : State), s.tb < b → exec (.sectionStateApply b c) s = .next s) ∧
  (∀ (who : Fin 36) (b : Bool) (s : State), rapMay s who.val .operate 1 = true →
    exec (.modeReqWrite who b) s = .next (rapAnswer (modeEval (fsetb s R.STR_MODE F.STR_MODE_MODE_REQ b)) who.val .ok [])) ∧
  -- TC_SETPOINT and TC_STATUS that another member forwards with the tick its message arrived at
  (∀ (sect : Fin 1024) (on : Bool) (r : Nat) (s : State) (x : SecEnt), schedOpen s = true →
    s.cfg.secs.filter (fun x => x.team == sect.val) = [x] →
    exec (.tcSetpoint sect on (some r)) s = .next (schedEdge x.sect (r + s.cfg.geom0.latTc * 20000) on s)) ∧
  (∀ (r : Nat) (s : State), exec (.tcStatus true (some r)) s = .next (modeEval (fsetb { s with str := { s.str with tcAt := some r } } R.STR_MODE
    F.STR_MODE_TC_SC true))) ∧
  -- and those of the module's own task-controller client: stamped by the frame's reception and sent to the team
  (∀ (sect : Fin 1024) (on : Bool) (s : State) (c : Nat),
    (List.range 4).find? (fun c => fbit s (R.CAN_ISO c) F.CAN_ISO_ROLE && domOn s 7) = some c →
    exec (.tcSetpoint sect on none) s = .next (
      let t := toTeam (canTake c 0 s) MsgKind.TC_SETPOINT [(sect.val : Int), ((b2n on : Nat) : Int), (canStamp c 0 s : Int)]
      if schedOpen t = false then t
      else forEach (t.cfg.secs.filter (fun x => x.team == sect.val))
        (fun x y => schedEdge x.sect (canStamp c 0 s + y.cfg.geom0.latTc * 20000) on y) t)) ∧
  (∀ (s : State) (c : Nat), (List.range 4).find? (fun c => fbit s (R.CAN_ISO c) F.CAN_ISO_ROLE && domOn s 7) = some c →
    exec (.tcStatus true none) s = .next (
      let t := toTeam (canTake c 0 s) MsgKind.TC_STATUS [1, (canStamp c 0 s : Int)]
      modeEval (fsetb { t with str := { t.str with tcAt := some (canStamp c 0 s) } } R.STR_MODE F.STR_MODE_TC_SC true))) ∧
  (∀ (s : State) (t : Nat), s.str.tcAt = some t → t + 6 * secTicks ≤ s.tb →
    exec .tcLoss s = .next (tcLost { s with str := { s.str with tcAt := none } })) ∧
  (∀ (M : Nat) (c : ModeChg) (s : State), s.cfg.geom0.family = .field → isLeader s = false → M ≤ s.tb →
    exec (.modeChangeApply M c) s = .next (applyMode c { s with str := { s.str with modeNext := none } })) ∧
  (∀ (who : Fin 36) (s : State), rapMay s who.val .other 1 = true → s.cfg.geom0.family = .alley →
    exec (.alleySet who) s = .next (rapAnswer { s with str := { s.str with setPend := true } } who.val .ok [])) ∧
  (∀ (who : Fin 36) (b : Bool) (s : State), rapMay s who.val .other 1 = true →
    exec (.alleyOrient who b) s = .next (rapAnswer (fsetb s R.STR_ALLEY_STAT F.STR_ALLEY_STAT_ORIENT b) who.val .ok []))

/-- For SHADOW_WRITE, LOAD_ALL, LG_CANCEL, LG_TRANSFER, FORCE_COMMIT, FORCE_CLEAR_ALL and FORCE_TIMEOUT: under the conditions under which each
happens, exec answers the next state its rule describes: the owner's shadow write sets DUTY (above 65,536 taken as 65,536) or PHASE, but while the
group is armed it only sets WRITE_WHILE_ARMED; a write of any other source is discarded and counted; LOAD_ALL arms the group, CANCEL disarms it,
and the transfer happens at the group's boundary after the arming. (R230, R236, R237, R238, R239, R241, R242.) -/
def Obligations.WaveformCommandsComplete : Prop :=
  -- SHADOW_WRITE of a DUTY and of a PHASE by the owning engine source, group not armed
  (∀ (g : Fin 16) (ch : Fin 104) (v : Word) (s : State), domOn s 10 = true → lgOwner s (lgOf s ch.val) (.ctl g) = true →
    lgArmed s (lgOf s ch.val) = false →
    exec (.shadowWrite (.ctl g) ch false v) s =
      .next (fset s (R.PWM_CH_DUTY ch.val) F.PWM_CH_DUTY_DUTY (min 65536 (v.toNat % 131072)))) ∧
  (∀ (g : Fin 16) (ch : Fin 104) (v : Word) (s : State), domOn s 10 = true → lgOwner s (lgOf s ch.val) (.ctl g) = true →
    lgArmed s (lgOf s ch.val) = false →
    exec (.shadowWrite (.ctl g) ch true v) s = .next (fset s (R.PWM_CH_PHASE ch.val) F.PWM_CH_PHASE_PHASE v.toNat)) ∧
  -- while the group is armed
  (∀ (g : Fin 16) (ch : Fin 104) (p : Bool) (v : Word) (s : State), domOn s 10 = true → lgOwner s (lgOf s ch.val) (.ctl g) = true →
    lgArmed s (lgOf s ch.val) = true →
    exec (.shadowWrite (.ctl g) ch p v) s =
      .next (fsetb s (R.PWM_LG_STAT (lgOf s ch.val)) F.PWM_LG_STAT_WRITE_WHILE_ARMED true)) ∧
  -- of the CAN controller that owns the group
  (∀ (c : Fin 4) (ch : Fin 104) (v : Word) (s : State), domOn s 10 = true → lgOwner s (lgOf s ch.val) (.can c) = true →
    lgArmed s (lgOf s ch.val) = false →
    exec (.shadowWrite (.can c) ch false v) s =
      .next (fset s (R.PWM_CH_DUTY ch.val) F.PWM_CH_DUTY_DUTY (min 65536 (v.toNat % 131072)))) ∧
  -- of a source that does not own the group
  (∀ (c : Fin 4) (ch : Fin 104) (p : Bool) (v : Word) (s : State), domOn s 10 = true → lgOwner s (lgOf s ch.val) (.can c) = false →
    exec (.shadowWrite (.can c) ch p v) s = .next (fincSat s (R.PWM_LG_STAT (lgOf s ch.val)) F.PWM_LG_STAT_NOT_OWNER_CNT)) ∧
  -- of a session that owns it: answered OK
  (∀ (who : Fin 36) (ch : Fin 104) (v : Word) (s : State), rapMay s who.val .duty 10 = true → lgOwner s (lgOf s ch.val) (.rap who) = true →
    lgArmed s (lgOf s ch.val) = false →
    exec (.shadowWrite (.rap who) ch true v) s =
      .next (rapAnswer (fset s (R.PWM_CH_PHASE ch.val) F.PWM_CH_PHASE_PHASE v.toNat) who.val .ok [])) ∧
  (∀ (who : Fin 36) (ch : Fin 104) (v : Word) (s : State), rapMay s who.val .duty 10 = true → lgOwner s (lgOf s ch.val) (.rap who) = true →
    lgArmed s (lgOf s ch.val) = false →
    exec (.shadowWrite (.rap who) ch false v) s =
      .next (rapAnswer (fset s (R.PWM_CH_DUTY ch.val) F.PWM_CH_DUTY_DUTY (min 65536 (v.toNat % 131072))) who.val .ok [])) ∧
  -- of a session in a group another source owns: NOT_OWNER
  (∀ (who : Fin 36) (ch : Fin 104) (p : Bool) (v : Word) (s : State), rapMay s who.val .duty 10 = true → lgOwner s (lgOf s ch.val) (.rap who) = false →
    exec (.shadowWrite (.rap who) ch p v) s =
      .next (rapAnswer (fincSat s (R.PWM_LG_STAT (lgOf s ch.val)) F.PWM_LG_STAT_NOT_OWNER_CNT) who.val .notOwner [])) ∧
  -- LOAD_ALL, alone and with CANCEL in the same write; LG_CANCEL
  (∀ (g : Fin 16) (k : Fin 8) (s : State), domOn s 10 = true → lgOwner s k.val (.ctl g) = true →
    lgArmed s k.val = false →
    exec (.loadAll (.ctl g) k false) s =
      .next (fsetb { s with pwm := { s.pwm with armAt := smIns k.val s.tb s.pwm.armAt } } (R.PWM_LG_STAT k.val) F.PWM_LG_STAT_ARMED true)) ∧
  (∀ (g : Fin 16) (k : Fin 8) (s : State), domOn s 10 = true → lgOwner s k.val (.ctl g) = true →
    exec (.loadAll (.ctl g) k true) s = .next s) ∧
  (∀ (who : Fin 36) (k : Fin 8) (s : State), rapMay s who.val .duty 10 = true → lgOwner s k.val (.rap who) = true →
    lgArmed s k.val = false →
    exec (.loadAll (.rap who) k false) s =
      .next (rapAnswer (fsetb { s with pwm := { s.pwm with armAt := smIns k.val s.tb s.pwm.armAt } } (R.PWM_LG_STAT k.val)
        F.PWM_LG_STAT_ARMED true) who.val .ok [])) ∧
  (∀ (g : Fin 16) (k : Fin 8) (s : State), domOn s 10 = true → lgOwner s k.val (.ctl g) = true → lgDue s k.val = false →
    exec (.lgCancel (.ctl g) k) s = .next (fsetb s (R.PWM_LG_STAT k.val) F.PWM_LG_STAT_ARMED false)) ∧
  (∀ (who : Fin 36) (k : Fin 8) (s : State), rapMay s who.val .duty 10 = true → lgOwner s k.val (.rap who) = true → lgDue s k.val = false →
    exec (.lgCancel (.rap who) k) s = .next (rapAnswer (fsetb s (R.PWM_LG_STAT k.val) F.PWM_LG_STAT_ARMED false) who.val .ok [])) ∧
  -- a cancel at the very boundary of the transfer comes too late
  (∀ (g : Fin 16) (k : Fin 8) (s : State), domOn s 10 = true → lgOwner s k.val (.ctl g) = true → lgDue s k.val = true →
    exec (.lgCancel (.ctl g) k) s = .next s) ∧
  -- LG_TRANSFER
  (∀ (k : Fin 8) (s : State), fbit s (R.PWM_LG_STAT k.val) F.PWM_LG_STAT_ARMED = true → smGet zero s.pwm.armAt k.val < s.tb →
    lgBoundary s k.val = true → s.pwm.frozen = none → domOn s 10 = true →
    exec (.lgTransfer k) s = .next (staged (lgTransfer k.val) s)) ∧
  -- FORCE_COMMIT: both words with the session that gave them, and with CLEAR_ALL in the same write; FORCE_CLEAR_ALL: released at the next tick
  (∀ (who : Fin 36) (s : State), rapMay s who.val (.force true) 10 = true →
    exec (.forceCommit who true) s = .next (rapAnswer { s with pwm := { s.pwm with release := some 0, pend := none } } who.val .ok [])) ∧
  (∀ (who : Fin 36) (s : State),
    rapMay s who.val (.force (offOnly (rget s R.PWM_FORCE_SH).toNat (rget s R.PWM_FORCE_ONE).toNat)) 10 = true →
    exec (.forceCommit who false) s = .next (rapAnswer { s with pwm := { s.pwm with
      pend := some ⟨(rget s R.PWM_FORCE_SH).toNat, (rget s R.PWM_FORCE_ONE).toNat, who.val⟩, commitAt := s.tb } } who.val .ok [])) ∧
  (∀ (who : Fin 36) (s : State), rapMay s who.val (.force true) 10 = true →
    exec (.forceClearAll who) s = .next (rapAnswer { s with pwm := { s.pwm with release := some 0, pend := none } } who.val .ok [])) ∧
  -- FORCE_TIMEOUT
  (∀ s : State, forcing s = true → s.pwm.commitAt + fget s R.PWM_HOLD F.PWM_HOLD_FORCE_TMO * secTicks ≤ s.tb →
    exec .forceTimeout s = .next { s with pwm := { s.pwm with release := some 1, pend := none } })

/-- For TRIP_ACTIVE, TRIP_INACTIVE, TRIP_CLEAR, TRIP_AUTO_RELEASE, TRIP_SAFE_SAMPLE, OWN_WRITE, WD_EXPIRED, WD_SUSPEND_WRITE, PAIR_WIRED_UPDATE and
CORE_NOT_ALIVE: under the conditions under which each happens, exec answers the next state its rule describes: an active trip input sets LEVEL and
the latch with its stamp; a clear while the level is active is refused and counted; OWN stops the watchdog; an expiry takes the outputs to their
safe state; suspension needs a debug session and is recorded. (R243, R244, R245, R247, R266, R269.) -/
def Obligations.StageCommandsComplete : Prop :=
  -- TRIP_ACTIVE: the first active sample lies LEN back; TRIP_INACTIVE; both where no clear was written in the same tick
  (∀ (k : Fin 8) (s : State), fbit s (R.PWM_TRIP_STAT k.val) F.PWM_TRIP_STAT_LEVEL = false → s.pwr.tbRun = true → (tripSt s k.val).clr = none →
    exec (.tripActive k) s = .next (staged (fun x => tripSet k.val (s.tb - tripLen s k.val)
      (fsetb x (R.PWM_TRIP_STAT k.val) F.PWM_TRIP_STAT_LEVEL true)) s)) ∧
  (∀ (k : Fin 8) (s : State), fbit s (R.PWM_TRIP_STAT k.val) F.PWM_TRIP_STAT_LEVEL = true → s.pwr.tbRun = true → (tripSt s k.val).clr = none →
    exec (.tripInactive k) s = .next (setTrip k.val (fun x => { x with quiet := s.tb })
      (fsetb s (R.PWM_TRIP_STAT k.val) F.PWM_TRIP_STAT_LEVEL false))) ∧
  -- TRIP_CLEAR: done, refused, and ignored with an empty mask
  (∀ (who : Fin 36) (k : Fin 8) (s : State), rapMay s who.val .other 0 = true → tripMask s k.val ≠ 0 →
    fbit s (R.PWM_TRIP_STAT k.val) F.PWM_TRIP_STAT_LEVEL = false → fbit s (R.PWM_TRIP_STAT k.val) F.PWM_TRIP_STAT_LATCH = true →
    exec (.tripClear who k) s = .next (rapAnswer (tripClear k.val (setTrip k.val (fun x =>
      { x with clr := some (s.tb, true, fget s (R.PWM_TRIP_STAT k.val) F.PWM_TRIP_STAT_LATCH) }) s)) who.val .ok [])) ∧
  (∀ (k : Fin 8) (s : State), fbit s (R.PWM_TRIP_STAT k.val) F.PWM_TRIP_STAT_LATCH = true →
    tripClear k.val s = staged (fun x => faultEnd (fsetb x (R.PWM_TRIP_STAT k.val) F.PWM_TRIP_STAT_LATCH false) Ev.TRIP [(k.val : Int)]) s) ∧
  (∀ (who : Fin 36) (k : Fin 8) (s : State), rapMay s who.val .other 0 = true → tripMask s k.val ≠ 0 →
    fbit s (R.PWM_TRIP_STAT k.val) F.PWM_TRIP_STAT_LEVEL = true →
    exec (.tripClear who k) s = .next (rapAnswer (setTrip k.val (fun x =>
      { x with clr := some (s.tb, false, fget s (R.PWM_TRIP_STAT k.val) F.PWM_TRIP_STAT_CLEAR_REFUSED) })
      (fincSat s (R.PWM_TRIP_STAT k.val) F.PWM_TRIP_STAT_CLEAR_REFUSED)) who.val .ok [])) ∧
  (∀ (who : Fin 36) (k : Fin 8) (s : State), rapMay s who.val .other 0 = true → tripMask s k.val = 0 →
    exec (.tripClear who k) s = .next (rapAnswer s who.val .ok [])) ∧
  -- TRIP_AUTO_RELEASE, TRIP_SAFE_SAMPLE
  (∀ (k : Fin 8) (s : State), fbit s (R.PWM_TRIP_CFG k.val) F.PWM_TRIP_CFG_MODE = true →
    fbit s (R.PWM_TRIP_STAT k.val) F.PWM_TRIP_STAT_LEVEL = false →
    (tripSt s k.val).quiet + msTicks (fget s (R.PWM_TRIP_MASK k.val) F.PWM_TRIP_MASK_RELEASE) ≤ s.tb →
    fbit s (R.PWM_TRIP_STAT k.val) F.PWM_TRIP_STAT_LATCH = true →
    exec (.tripAutoRelease k) s = .next (staged (fun x => faultEnd (fsetb x (R.PWM_TRIP_STAT k.val) F.PWM_TRIP_STAT_LATCH false)
      Ev.TRIP [(k.val : Int)]) s)) ∧
  (∀ (k : Fin 8) (s : State), s.pwr.tbRun = false → exec (.tripSafeSample k) s = .next (staged (tripSet k.val s.tb) s)) ∧
  -- OWN_WRITE, and an expiry in the same AO tick
  (∀ s : State, domOn s 1 = true → domOn s 10 = true → s.pwm.halted = false → s.pwm.frozen = none →
    exec (.ownWrite false) s = .next (staged own s)) ∧
  (∀ s : State, s.pwm.held = none → fltHeld s Ev.WD_EXPIRED [] = false →
    own s = fsetb (fsetb { s with pwm := { s.pwm with ownAt := some s.tb, wd := none, held := none } }
      R.PWM_STATUS F.PWM_STATUS_WD_RUN false) R.PWM_STATUS F.PWM_STATUS_OWNED true) ∧
  (∀ s : State, domOn s 1 = true → domOn s 10 = true → s.pwm.halted = false → s.pwm.frozen = none → s.pwm.wd.isSome = true →
    fbit s R.PWM_CTRL F.PWM_CTRL_WD_SUSPEND = false → exec (.ownWrite true) s = .next (staged wdExpire s)) ∧
  -- WD_EXPIRED and WD_SUSPEND_WRITE
  (∀ s : State, wdDue s = true → fbit s R.PWM_CTRL F.PWM_CTRL_WD_SUSPEND = false → exec .wdExpired s = .next (staged wdExpire s)) ∧
  (∀ (who : Fin 36) (s : State), rapMay s who.val .debug 10 = true → fbit s R.PWM_CTRL F.PWM_CTRL_WD_SUSPEND = false →
    exec (.wdSuspendWrite who true) s = .next (rapAnswer (raise (fsetb (fsetb s R.PWM_CTRL F.PWM_CTRL_WD_SUSPEND true) R.PWM_STATUS
      F.PWM_STATUS_WD_SUSP true) Ev.WD_SUSPEND [1]) who.val .ok [])) ∧
  -- PAIR_WIRED_UPDATE at its tick, and before it
  (∀ (ch : Fin 96) (g : Bool) (f : Fin 4) (d p t : Nat) (s : State), drives s = false →
    fbit s (R.LSW_CH_CFG1 ch.val) F.LSW_CH_CFG1_PAIR_WIRED = true → t ≤ s.tb →
    exec (.pairWiredUpdate ch g f d p t) s = .next (staged (pairApply ch.val g f.val d (p % 65536)) s)) ∧
  (∀ (ch : Fin 96) (g : Bool) (f : Fin 4) (d p t : Nat) (s : State), drives s = false →
    fbit s (R.LSW_CH_CFG1 ch.val) F.LSW_CH_CFG1_PAIR_WIRED = true → s.tb < t →
    exec (.pairWiredUpdate ch g f d p t) s = .next { s with pwm := { s.pwm with
      pairPend := s.pwm.pairPend ++ [(t, ch.val, g, f.val, d, p % 65536)] } }) ∧
  -- CORE_NOT_ALIVE
  (∀ s : State, coreAlive s = false → exec .coreNotAlive s = .next (staged (fun x => halterCheck (wdStart x)) s))

/-- For CURRENT_SAMPLE, OL_UNKNOWN, SHORT_TRIP, RETRY, RETRY_WINDOW_END, THERMAL_OFF, THERMAL_ON, CLUSTER_WARN, CLUSTER_WARN_CLEAR, CLAMP_EVENT,
CHANNEL_CLEAR and LATCH_AUTO_CLEAR: under the conditions under which each happens, exec answers the next state its rule describes; a thermal
shutdown is stamped, and the 8th within 10 s latches; WARN of a cluster pauses the retries of its channels. (R256, R257, R258, R259, R260, R261.) -/
def Obligations.LoadProtectionCommandsComplete : Prop :=
  -- CURRENT_SAMPLE of a channel that does not yet qualify: CUR and the sums
  (∀ (ch : Fin 96) (v : BitVec 12) (g : SegCur) (p : BitVec 12) (mv : Nat) (s : State), domOn s 10 = true →
    s.tb % 50000 = 6250 * (ch.val % 8) → ch.val / 8 ∉ s.far.adcFail → qualifies s ch.val = false →
    fbit s (R.LSW_CH_CFG1 ch.val) F.LSW_CH_CFG1_PAIR_WIRED = false →
    exec (.currentSample ch v g p mv) s = .next (staged (fun x => sumCurrents ch.val (loadAdd (ch.val / 16) v.toNat
      (fset (feedVolt (ch.val / 16) mv x) (R.LSW_CH_CUR ch.val) F.LSW_CH_CUR_CUR v.toNat))) s)) ∧
  -- a pair-wired channel of a paired module that is no output also tells the partner
  (∀ (ch : Fin 96) (v : BitVec 12) (g : SegCur) (p : BitVec 12) (mv : Nat) (s : State), domOn s 10 = true →
    s.tb % 50000 = 6250 * (ch.val % 8) → ch.val / 8 ∉ s.far.adcFail → qualifies s ch.val = false →
    fbit s (R.LSW_CH_CFG1 ch.val) F.LSW_CH_CFG1_PAIR_WIRED = true → outEnt s ch.val = none → s.pwr.paired = true →
    exec (.currentSample ch v g p mv) s = .next (staged (fun x => sumCurrents ch.val (loadAdd (ch.val / 16) v.toNat
      (fset (feedVolt (ch.val / 16) mv (send x MsgKind.PL_READING (midOf x ^^^ 1) [(ch.val : Int), (v.toNat : Int), (x.tb : Int)]))
        (R.LSW_CH_CUR ch.val) F.LSW_CH_CUR_CUR v.toNat))) s)) ∧
  -- OL_UNKNOWN
  (∀ (ch : Fin 96) (s : State), domOn s 10 = true → fget s (R.LSW_CH_CFG1 ch.val) F.LSW_CH_CFG1_OL_THR ≠ 0 →
    (swOf s ch.val).st ≠ 0 → max (lch s ch.val).qualAt (lch s ch.val).driveAt + msTicks 100 ≤ s.tb →
    exec (.olUnknown ch) s = .next (fsetb s (R.LSW_CH_STAT ch.val) F.LSW_CH_STAT_OL_UNKNOWN true)) ∧
  -- SHORT_TRIP with PD10 on, and without it
  (∀ (ch : Fin 96) (s : State), domPow s 0 = true → protOff s ch.val = false → domPow s 10 = true →
    exec (.shortTrip ch) s = .next (staged (chTrip ch.val true) s)) ∧
  (∀ (ch : Fin 96) (s : State), domPow s 0 = true → protOff s ch.val = false → domPow s 10 = false →
    exec (.shortTrip ch) s = .next (staged (fun x => tripLatch ch.val true (fault (fincSat x (R.LSW_CH_CNT ch.val) F.LSW_CH_CNT_SHORTS)
      Ev.SHORT_TRIP [(ch.val : Int), (x.tb : Int)])) s)) ∧
  -- RETRY at its tick, and held by feed under-voltage; RETRY_WINDOW_END
  (∀ (ch : Fin 96) (t : Nat) (s : State), (lch s ch.val).due = some t → t ≤ s.tb → chBit s ch.val F.LSW_CH_STAT_RETRYING = true →
    domOn s 10 = true → clusterWarn s ch.val = false → chBit s ch.val F.LSW_CH_STAT_FEED_UV = false →
    exec (.retry ch) s = .next (staged (retryMake ch.val) s)) ∧
  (∀ (ch : Fin 96) (t : Nat) (s : State), (lch s ch.val).due = some t → t ≤ s.tb → chBit s ch.val F.LSW_CH_STAT_RETRYING = true →
    domOn s 10 = true → clusterWarn s ch.val = false → chBit s ch.val F.LSW_CH_STAT_FEED_UV = true →
    exec (.retry ch) s = .next (setLch ch.val (fun c => { c with due := none, held := true }) s)) ∧
  (∀ (ch : Fin 96) (t : Nat) (s : State), (lch s ch.val).winEnd = some t → t ≤ s.tb →
    exec (.retryWindowEnd ch) s = .next (setLch ch.val windowEnd s)) ∧
  -- THERMAL_OFF before the 8th within 10 s, and THERMAL_ON
  (∀ (ch : Fin 96) (s : State), domOn s 0 = true → chBit s ch.val F.LSW_CH_STAT_THERMAL = false →
    ((lch s ch.val).therm.filter (fun t => decide (s.tb < t + 10 * secTicks))).length < 7 →
    exec (.thermalOff ch) s = .next (settle s (fault (setLch ch.val (fun c => { c with
      therm := s.tb :: (lch s ch.val).therm.filter (fun t => decide (s.tb < t + 10 * secTicks)) })
      (fsetb s (R.LSW_CH_STAT ch.val) F.LSW_CH_STAT_THERMAL true)) Ev.THERMAL_OFF [(ch.val : Int), (s.tb : Int)]))) ∧
  (∀ (ch : Fin 96) (s : State), chBit s ch.val F.LSW_CH_STAT_THERMAL = true →
    exec (.thermalOn ch) s = .next (staged (fun x => faultEnd (fsetb x (R.LSW_CH_STAT ch.val) F.LSW_CH_STAT_THERMAL false) Ev.THERMAL_OFF
      [(ch.val : Int), (x.tb : Int)]) s)) ∧
  -- CLUSTER_WARN from 140 °C and CLUSTER_WARN_CLEAR below 137 °C
  (∀ (c : Fin 12) (t : BitVec 9) (s : State), domOn s 10 = true → 140 ≤ t.toInt →
    exec (.clusterWarn c t) s = .next (forEach (clusterChans c.val) retrySync (fsetb (fset s (R.LSW_CLUSTER c.val) F.LSW_CLUSTER_TEMP
      t.toNat) (R.LSW_CLUSTER c.val) F.LSW_CLUSTER_WARN true))) ∧
  (∀ (c : Fin 12) (t : BitVec 9) (s : State), domOn s 10 = true → t.toInt < 137 →
    exec (.clusterWarnClear c t) s = .next (forEach (clusterChans c.val) retrySync (fsetb (fset s (R.LSW_CLUSTER c.val) F.LSW_CLUSTER_TEMP
      t.toNat) (R.LSW_CLUSTER c.val) F.LSW_CLUSTER_WARN false))) ∧
  -- CLAMP_EVENT of a channel already locked
  (∀ (ch : Fin 96) (i0 tcl vf : Nat) (s : State), domOn s 10 = true → chBit s ch.val F.LSW_CH_STAT_CLAMP_LOCK = true →
    exec (.clampEvent ch i0 tcl vf) s = .next (staged (fun x =>
      let e := (vf + 38000) * i0 * tcl
      let b := x.tb / msTicks 10
      let l := (lch x ch.val).clamp.filter (fun y => decide (b < y.1 + 100))
      let t := setLch ch.val (fun c => { c with clamp := smSet zero b (smGet zero l b + e) l }) x
      fset (fset t (R.LSW_CH_CLAMP ch.val) F.LSW_CH_CLAMP_LAST_E (min 0xFFFF (divOpen e clampUnit).toNat)) (R.LSW_CH_CLAMP ch.val)
        F.LSW_CH_CLAMP_WIN_SUM (min 0xFFFF (divOpen (clampSum t ch.val) clampUnit).toNat)) s)) ∧
  -- CHANNEL_CLEAR, accepted and with a latch whose condition stands; LATCH_AUTO_CLEAR
  (∀ (who : Fin 36) (ch : Fin 96) (s : State), rapMay s who.val .other 10 = true →
    (latched s ch.val).all (fun x => causeGone s ch.val x.1) = true →
    exec (.channelClear who ch) s = .next (rapAnswer (staged (latchClear ch.val) s) who.val .ok [])) ∧
  (∀ (who : Fin 36) (ch : Fin 96) (s : State), rapMay s who.val .other 10 = true →
    (latched s ch.val).all (fun x => causeGone s ch.val x.1) = false →
    exec (.channelClear who ch) s = .next (rapAnswer (staged (latchClear ch.val) (fincSat s (R.LSW_CH_CNT ch.val)
      F.LSW_CH_CNT_CLEAR_REFUSED)) who.val .ok [])) ∧
  (∀ (ch : Fin 96) (t : Nat) (s : State), cmdOffSince s ch.val = some t → domOn s 10 = true →
    fbit s (R.LSW_CH_CFG1 ch.val) F.LSW_CH_CFG1_LATCH_CLR = true → t + msTicks 100 ≤ s.tb →
    exec (.latchAutoClear ch) s = .next (staged (latchClear ch.val) s))

/-- For FEED_UV, FEED_RESTART, FEED_RESTART_SECOND, FEED_OVERLOAD, SEGMENT_STUCK_CHECK, HB_DESAT, HB_DRV_UV, HB_DRV_UV_RELEASE, HB_CLEAR,
HALTER_INPUT, HALTER_EN_ACTIVE, HALTER_EN_INACTIVE, HALTER_PULSE and HALTER_STUCK: under the conditions under which each happens, exec answers the
next state its rule describes: the second cluster of a feed starts 2 ms after the first; an overload above 25 A of a feed is a fault and switches
nothing off; leaving halter mode clears ACTIVE and ARMED and writes HALTER_EXIT. (R255, R257, R259, R262, R264, R269, R270, R271.) -/
def Obligations.FeedAndHalterCommandsComplete : Prop :=
  (∀ (f : Fin 6) (s : State), domOn s 0 = true → fbit s (R.LSW_FEED_STAT f.val) F.LSW_FEED_STAT_UV = false →
    exec (.feedUv f) s = .next (staged (fun x =>
      let t := fincSat (fsetb { x with lsw := { x.lsw with second := smDel f.val x.lsw.second, uvAt := smSet zero f.val x.tb x.lsw.uvAt } }
        (R.LSW_FEED_STAT f.val) F.LSW_FEED_STAT_UV true) (R.LSW_FEED_CNT f.val) F.LSW_FEED_CNT_UV_EVENTS
      levelLost (fault (forEach (feedChans f.val) (fun n y => retrySync n (fsetb y (R.LSW_CH_STAT n) F.LSW_CH_STAT_FEED_UV true)) t)
        Ev.FEED_UV [(f.val : Int), (x.tb : Int)])) s)) ∧
  (∀ (f : Fin 6) (s : State), domOn s 0 = true → fbit s (R.LSW_FEED_STAT f.val) F.LSW_FEED_STAT_UV = true →
    smGet zero s.lsw.uvAt f.val + msTicks (fget s (R.LSW_FEED_CFG f.val) F.LSW_FEED_CFG_RESTART_T) ≤ s.tb →
    exec (.feedRestart f) s = .next (staged (fun x =>
      let t := faultEnd (fsetb x (R.LSW_FEED_STAT f.val) F.LSW_FEED_STAT_UV false) Ev.FEED_UV [(f.val : Int), (x.tb : Int)]
      clusterRestart (2 * f.val) { t with lsw := { t.lsw with second := smIns f.val (x.tb + msTicks 2) t.lsw.second } }) s)) ∧
  (∀ (f : Fin 6) (t : Nat) (s : State), s.lsw.second = [(f.val, t)] → t ≤ s.tb →
    exec (.feedRestartSecond f) s = .next (staged (fun x => clusterRestart (2 * f.val + 1)
      { x with lsw := { x.lsw with second := smDel f.val x.lsw.second } }) s)) ∧
  -- FEED_OVERLOAD by the mean of the last 100 blocks of 10 ms, 4,000 samples in all at 5/2 mA a code (R259)
  (∀ (f : Fin 6) (s : State), domOn s 10 = true → 25000 * 8000 < loadSum s f.val * 5 → fbit s (R.LSW_FEED_STAT f.val) F.LSW_FEED_STAT_OVERLOAD = false →
    exec (.feedOverload (some f)) s = .next (fault (fsetb s (R.LSW_FEED_STAT f.val) F.LSW_FEED_STAT_OVERLOAD true) Ev.FEED_OVERLOAD
      [(f.val : Int), divOpen (loadSum s f.val * 5) 8000])) ∧
  (∀ (f : Fin 6) (s : State), domOn s 10 = true → loadSum s f.val * 5 ≤ 25000 * 8000 → fbit s (R.LSW_FEED_STAT f.val) F.LSW_FEED_STAT_OVERLOAD = true →
    exec (.feedOverload (some f)) s = .next (faultEnd (fsetb s (R.LSW_FEED_STAT f.val) F.LSW_FEED_STAT_OVERLOAD false) Ev.FEED_OVERLOAD
      [(f.val : Int)])) ∧
  (∀ s : State, domOn s 10 = true → 120000 * 8000 < (((List.range 6).map (loadSum s)).foldl (· + ·) 0) * 5 →
    fbit s R.LSW_TOTAL F.LSW_TOTAL_OVERLOAD = false →
    exec (.feedOverload none) s = .next (fault (fsetb s R.LSW_TOTAL F.LSW_TOTAL_OVERLOAD true) Ev.MODULE_OVERLOAD
      [divOpen ((((List.range 6).map (loadSum s)).foldl (· + ·) 0 : Nat) * 5) 8000])) ∧
  (∀ (ch : Fin 96) (g : Fin 4) (s : State), domOn s 10 = true → actualOn s ch.val = false → farDue s 11 ch.val (msTicks 100) = true →
    chBit (farStamp 11 ch.val s) ch.val F.LSW_CH_STAT_STUCK_ON = false →
    exec (.segmentStuckCheck ch (some g)) s = .next (staged (fun x => fault (fsetb x (R.LSW_CH_STAT ch.val) F.LSW_CH_STAT_STUCK_ON true)
      Ev.STUCK_ON [(ch.val : Int), (g.val : Int)]) (farStamp 11 ch.val s))) ∧
  (∀ (ch : Fin 96) (s : State), domOn s 10 = true → actualOn s ch.val = false → farDue s 11 ch.val (msTicks 100) = true →
    exec (.segmentStuckCheck ch none) s = .next (farStamp 11 ch.val s)) ∧
  -- half-bridge drivers
  (∀ (m : Fin 4) (s : State), domOn s 0 = true → fbit s (R.LSW_HB_STAT m.val) F.LSW_HB_STAT_DESAT = false →
    exec (.hbDesat m) s = .next (staged (fun x => fault (fsetb x (R.LSW_HB_STAT m.val) F.LSW_HB_STAT_DESAT true) Ev.HB_DESAT
      [(m.val : Int), (x.tb : Int)]) s)) ∧
  (∀ (m : Fin 4) (s : State), domOn s 0 = true → fbit s (R.LSW_HB_STAT m.val) F.LSW_HB_STAT_DRV_UV = false →
    exec (.hbDrvUv m) s = .next (staged (fun x => fault (fsetb x (R.LSW_HB_STAT m.val) F.LSW_HB_STAT_DRV_UV true) Ev.HB_DRV_UV
      [(m.val : Int), (x.tb : Int)]) s)) ∧
  (∀ (m : Fin 4) (s : State), fbit s (R.LSW_HB_STAT m.val) F.LSW_HB_STAT_DRV_UV = true →
    exec (.hbDrvUvRelease m) s = .next (staged (fun x => faultEnd (fsetb x (R.LSW_HB_STAT m.val) F.LSW_HB_STAT_DRV_UV false) Ev.HB_DRV_UV
      [(m.val : Int), (x.tb : Int)]) s)) ∧
  (∀ (who : Fin 36) (m : Fin 4) (s : State), rapMay s who.val .other 10 = true → fbit s (R.LSW_HB_STAT m.val) F.LSW_HB_STAT_DESAT = true →
    exec (.hbClear who m) s = .next (rapAnswer (staged (fun x => faultEnd (fsetb x (R.LSW_HB_STAT m.val) F.LSW_HB_STAT_DESAT false)
      Ev.HB_DESAT [(m.val : Int), (x.tb : Int)]) s) who.val .ok [])) ∧
  -- halter mode
  (∀ (i : Fin 8) (s : State), domOn s 0 = true → bitOf (fget s R.LSW_HALTER_STAT F.LSW_HALTER_STAT_IN) i.val = false →
    halterActive s = false → s.lsw.pulseOn = [] →
    exec (.halterInput i true) s = .next (settle s { halterBit s F.LSW_HALTER_STAT_IN i.val true with
      lsw := { s.lsw with pulseOn := [], inAt := smIns i.val s.tb s.lsw.inAt } })) ∧
  (∀ s : State, domOn s 0 = true → fbit s R.LSW_HALTER_STAT F.LSW_HALTER_STAT_EN = false →
    exec .halterEnActive s = .next (staged (fun x => halterCheck (fsetb x R.LSW_HALTER_STAT F.LSW_HALTER_STAT_EN true)) s)) ∧
  (∀ s : State, fbit s R.LSW_HALTER_STAT F.LSW_HALTER_STAT_EN = true → halterActive s = true →
    exec .halterEnInactive s = .next (staged (fun x =>
      let t := fset (fsetb (fsetb x R.LSW_HALTER_STAT F.LSW_HALTER_STAT_EN false) R.LSW_HALTER_STAT F.LSW_HALTER_STAT_ACTIVE false)
        R.LSW_HALTER_STAT F.LSW_HALTER_STAT_ARMED 0
      raise { t with lsw := { t.lsw with pulseOn := [] } } Ev.HALTER_EXIT []) s)) ∧
  (∀ (ch : Fin 96) (i : Nat) (s : State), halterActive s = true → halterIn s ch.val = some i →
    fbit s (R.LSW_HALTER_MAP ch.val) F.LSW_HALTER_MAP_MODE = true → fget s (R.LSW_HALTER_MAP ch.val) F.LSW_HALTER_MAP_DUTY16 < 16 →
    bitOf (fget s R.LSW_HALTER_STAT F.LSW_HALTER_STAT_IN) i = true → bitOf (fget s R.LSW_HALTER_STAT F.LSW_HALTER_STAT_ARMED) i = true →
    ch.val ∉ s.lsw.pulseOn → aoPast s (smFind s.lsw.pulseAt ch.val) (aoTicks (pulsePeriod s ch.val - pulseOnTime s ch.val)) = true →
    exec (.halterPulse ch) s = .next (staged (pulseStart [ch.val]) s)) ∧
  -- and the end of its on time
  (∀ (ch : Fin 96) (i : Nat) (s : State), halterActive s = true → halterIn s ch.val = some i →
    fbit s (R.LSW_HALTER_MAP ch.val) F.LSW_HALTER_MAP_MODE = true → fget s (R.LSW_HALTER_MAP ch.val) F.LSW_HALTER_MAP_DUTY16 < 16 →
    bitOf (fget s R.LSW_HALTER_STAT F.LSW_HALTER_STAT_IN) i = true → bitOf (fget s R.LSW_HALTER_STAT F.LSW_HALTER_STAT_ARMED) i = true →
    ch.val ∈ s.lsw.pulseOn → aoPast s (smFind s.lsw.pulseAt ch.val) (aoTicks (pulseOnTime s ch.val)) = true →
    exec (.halterPulse ch) s = .next (staged (fun x => { x with lsw := { x.lsw with
      pulseOn := x.lsw.pulseOn.filter (· != ch.val), pulseAt := smIns ch.val x.tb x.lsw.pulseAt } }) s)) ∧
  (∀ (i : Fin 8) (s : State), aoPast s (smFind s.lsw.inAt i.val) (fget s (R.LSW_HALTER_IN i.val) F.LSW_HALTER_IN_STUCK_LIM * secTicks) = true → fget s (R.LSW_HALTER_IN i.val) F.LSW_HALTER_IN_STUCK_LIM ≠ 0 →
    bitOf (fget s R.LSW_HALTER_STAT F.LSW_HALTER_STAT_IN) i.val = true → bitOf (fget s R.LSW_HALTER_STAT F.LSW_HALTER_STAT_STUCK) i.val = false →
    exec (.halterStuck i) s = .next (staged (fun x => fault (halterDisarm i.val (halterBit x F.LSW_HALTER_STAT_STUCK i.val true))
      Ev.HALTER_STUCK [(i.val : Int)]) s))

/-- For LOOP_STEP, LOOP_LATE, LOOP_HOLD_TIMEOUT, LOOP_AUTO, LOOP_MANUAL, CURB_AUTO, CURB_MANUAL, TRACE_ARM, TRACE_STOP, TRACE_FORCE, INJ_START,
INJ_STOP and INJ_DURATION_END: under the conditions under which each happens, exec answers the next state its rule describes. MANUAL to a single
member of a curb group is ignored; FB_TMO of HOLD is LOOP_FAULT; a START refused answers INJ_DENIED with its cause. (R280, R285, R287, R291, R294,
R295, R296, R297.) -/
def Obligations.LoopCommandsComplete : Prop :=
  -- LOOP_STEP of a loop outside any curb group, in an unpaired module
  (∀ (n : Fin 64) (s : State) (d : LoopDef) (lane : Nat), loopDef s n.val = some d → loopsRun s = true →
    loopDue s (boundaryAt s.tb) n.val = true → s.tb ≤ boundaryAt s.tb + 30000 → (loopSt s n.val).stepAt ≠ some (boundaryAt s.tb) →
    loopHeld s n.val = false → loopLane s (boundaryAt s.tb) n.val = some lane → s.pwr.paired = false → curbOf s n.val = none →
    sparesOf s 1 = [] →
    exec (.loopStep n false) s = .next (
      let t := loopStep n.val (boundaryAt s.tb) d s
      let v := trcStep n.val (boundaryAt s.tb) (actWrite n.val d [n.val] (loopSt t n.val).uAct t)
      ctlLoad (boundaryAt s.tb) (pressInput (.loop n) (fRoundUp (loopSt v n.val).pv 1 1) (fFinite (loopSt v n.val).pv && (feedback s n.val).2)
        (lcfg s n.val F.CTL_LOOP_CFG_DIV * cycleTicks) v))) ∧
  -- LOOP_STEP of a member of a curb group: the last member's step runs the group
  (∀ (n : Fin 64) (s : State) (d : LoopDef) (lane k : Nat), loopDef s n.val = some d → loopsRun s = true →
    loopDue s (boundaryAt s.tb) n.val = true → s.tb ≤ boundaryAt s.tb + 30000 → (loopSt s n.val).stepAt ≠ some (boundaryAt s.tb) →
    loopHeld s n.val = false → loopLane s (boundaryAt s.tb) n.val = some lane → s.pwr.paired = false → curbOf s n.val = some k →
    sparesOf s 1 = [] →
    exec (.loopStep n false) s = .next (
      let v := curbFinish k (boundaryAt s.tb) (loopStep n.val (boundaryAt s.tb) d s)
      ctlLoad (boundaryAt s.tb) (pressInput (.loop n) (fRoundUp (loopSt v n.val).pv 1 1) (fFinite (loopSt v n.val).pv && (feedback s n.val).2)
        (lcfg s n.val F.CTL_LOOP_CFG_DIV * cycleTicks) v))) ∧
  -- LOOP_STEP whose recomputation differs
  (∀ (n : Fin 64) (s : State) (d : LoopDef) (lane : Nat), loopDef s n.val = some d → loopsRun s = true →
    loopDue s (boundaryAt s.tb) n.val = true → s.tb ≤ boundaryAt s.tb + 30000 → (loopSt s n.val).stepAt ≠ some (boundaryAt s.tb) →
    loopHeld s n.val = false → loopLane s (boundaryAt s.tb) n.val = some lane → sparesOf s 1 ≠ [] → lane = laneDue s 1 →
    exec (.loopStep n true) s = .next (loopMismatch lane (boundaryAt s.tb) s)) ∧
  -- LOOP_LATE before the 10th in a row
  (∀ (n : Fin 64) (s : State), loopsRun s = true → loopDue s (boundaryAt s.tb) n.val = true → boundaryAt s.tb + 30000 ≤ s.tb →
    (loopSt s n.val).stepAt ≠ some (boundaryAt s.tb) → loopHeld s n.val = false → (loopSt s n.val).lateRun < 9 →
    curbOf s n.val = none →
    exec (.loopLate n) s = .next (ctlLoad (boundaryAt s.tb) (fault (setLoop n.val { loopSt s n.val with
      lateRun := (loopSt s n.val).lateRun + 1, stepAt := some (boundaryAt s.tb) } (fincWrap (fsetb (fsetb s (R.CTL_LOOP_STAT n.val)
      F.CTL_LOOP_STAT_LATE true) R.CTL_STATUS F.CTL_STATUS_LATE true) R.CTL_LATE_CNT F.CTL_LATE_CNT_COUNT)) Ev.LOOP_LATE [(n.val : Int)]))) ∧
  -- LOOP_HOLD_TIMEOUT
  (∀ (n : Fin 64) (s : State), lstate s n.val = 3 → (loopSt s n.val).holdAt + msTicks (lcfg1 s n.val F.CTL_LOOP_CFG1_FB_TMO) ≤ s.tb →
    exec (.loopHoldTimeout n) s = .next (loopFault n.val .feedback s)) ∧
  -- LOOP_AUTO, LOOP_MANUAL, CURB_AUTO, CURB_MANUAL
  (∀ (who : Fin 36) (n : Fin 64) (s : State), rapMay s who.val .other 1 = true → lstate s n.val ≠ 5 →
    exec (.loopAuto who n) s = .next (rapAnswer (setLoop n.val { loopSt s n.val with cmd := some false } s) who.val .ok [])) ∧
  (∀ (who : Fin 36) (n : Fin 64) (s : State), rapMay s who.val .other 1 = true → curbOf s n.val = none →
    exec (.loopManual who n) s = .next (rapAnswer (setLoop n.val { loopSt s n.val with cmd := some true } s) who.val .ok [])) ∧
  (∀ (who : Fin 36) (n : Fin 64) (s : State), rapMay s who.val .other 1 = true → (curbOf s n.val).isSome = true →
    exec (.loopManual who n) s = .next (rapAnswer s who.val .ok [])) ∧
  (∀ (who : Fin 36) (k : Fin 16) (s : State), rapMay s who.val .other 1 = true →
    exec (.curbAuto who k) s = .next (rapAnswer (fsetb s (R.CTL_CURB_STAT k.val) F.CTL_CURB_STAT_MANUAL false) who.val .ok [])) ∧
  (∀ (who : Fin 36) (k : Fin 16) (s : State), rapMay s who.val .other 1 = true → curbMembers s k.val ≠ [] →
    exec (.curbManual who k) s = .next (rapAnswer (fsetb s (R.CTL_CURB_STAT k.val) F.CTL_CURB_STAT_MANUAL true) who.val .ok [])) ∧
  -- TRACE_ARM, TRACE_STOP, TRACE_FORCE
  (∀ (who : Fin 36) (s : State), rapMay s who.val .test 1 = true →
    exec (.traceArm who) s = .next (rapAnswer (
      let t := forN 16 (fun c x => rsetN { x with ctl := { x.ctl with trc := smDel c x.ctl.trc } } (R.CTL_TRC_IDX c) 0) s
      fset { t with ctl := { t.ctl with trcForce := false } } R.CTL_TRC_STAT F.CTL_TRC_STAT_STATE (if fbit s R.CTL_TRC_CTRL F.CTL_TRC_CTRL_MODE then 1 else 2)) who.val .ok [])) ∧
  (∀ (who : Fin 36) (s : State), rapMay s who.val .test 1 = true →
    exec (.traceStop who) s = .next (rapAnswer (trcStop s) who.val .ok [])) ∧
  (∀ (who : Fin 36) (s : State), rapMay s who.val .test 1 = true →
    exec (.traceForce who) s = .next (rapAnswer { s with ctl := { s.ctl with
      trcForce := fget s R.CTL_TRC_STAT F.CTL_TRC_STAT_STATE == 1 } } who.val .ok [])) ∧
  -- INJ_START accepted, and refused for a cause other than the role
  (∀ (who : Fin 36) (r : Role) (s : State), sessRole s who.val = some r → rapPath s = true → injRefused s who.val = none →
    exec (.injStart who) s = .next (
      let c (f : Fld) : Nat := fget s R.CTL_INJ_CFG f
      let j : Inj := ⟨c F.CTL_INJ_CFG_LOOP, c F.CTL_INJ_CFG_POINT, c F.CTL_INJ_CFG_SIG, c F.CTL_INJ_CFG_N, c F.CTL_INJ_CFG_HOLD,
        rget s R.CTL_INJ_AMP, rget s R.CTL_INJ_F0, rget s R.CTL_INJ_F1, rget s R.CTL_INJ_ABORT_LO, rget s R.CTL_INJ_ABORT_HI,
        fget s R.CTL_INJ_DUR F.CTL_INJ_DUR_DUR, who.val, none, 0⟩
      let t := fset (fset (injEnd 1 s) R.CTL_INJ_STAT F.CTL_INJ_STAT_STATE 1) R.CTL_INJ_STAT F.CTL_INJ_STAT_CAUSE 0
      rapAnswer (raise (rset64 { t with ctl := { t.ctl with inj := some j } } R.CTL_INJ_TB_LO R.CTL_INJ_TB_HI s.tb) Ev.INJ_START
        [(j.loop : Int), (j.point : Int), (j.sig : Int)]) who.val .ok [])) ∧
  (∀ (who : Fin 36) (r : Role) (c : Nat) (s : State), sessRole s who.val = some r → rapPath s = true → injRefused s who.val = some c →
    c ≠ 3 → exec (.injStart who) s = .next (rapAnswer (fset s R.CTL_INJ_STAT F.CTL_INJ_STAT_CAUSE c) who.val .injDenied [(c : Int)])) ∧
  (∀ (who : Fin 36) (s : State), rapMay s who.val .test 1 = true →
    exec (.injStop who) s = .next (rapAnswer (injEnd 1 s) who.val .ok [])) ∧
  (∀ (s : State) (j : Inj) (t : Nat), s.ctl.inj = some j → j.first = some t → t + msTicks j.dur ≤ s.tb →
    exec .injDurationEnd s = .next (injEnd 2 s))

/-- For CAN_FRAME, CAN_QUEUE_DRAIN, CAN_ERROR, BUS_OFF_RECOVERY, CAN_RECOVER, CAN_MODE_WRITE, CAN_MODE_APPLY, SLOT_ARM, SLOT_ABORT, START_OPPORTUNITY,
CAN_TX_END, LATE_LIM_EXPIRY and TX_TB_REACHED: under the conditions under which each happens, exec answers the next state its rule describes: a
frame received enters the controller's queue and lowers REC; a recovery returns the controller to ERROR_ACTIVE with both counts 0 (the counts are
the model's reading of ISO 11898-1); a slot's attempt is counted and its result recorded; an abort during an attempt waits for its end. (R305,
R310, R311, R313, R315, R320, R321, R322.) -/
def Obligations.CanBusCommandsComplete : Prop :=
  -- CAN_FRAME in NORMAL and in LISTEN_ONLY
  (∀ (c : Fin 4) (f : CanFr) (t : Nat) (s : State), canOn s c.val = true → canState s c.val ≠ 2 → canMode s c.val = 1 → t ≤ s.tb →
    exec (.canFrame c f t) s = .next (peerSeen c.val (canPut c.val (entOf f t 32 255) s))) ∧
  (∀ (c : Fin 4) (f : CanFr) (t : Nat) (s : State), canOn s c.val = true → canState s c.val ≠ 2 → canMode s c.val ≠ 1 → t ≤ s.tb →
    exec (.canFrame c f t) s = .next (peerSeen c.val (canStateSync c.val (fset (canPut c.val (entOf f t 0 255) s) (R.CAN_STATUS c.val)
      F.CAN_STATUS_REC (recDown s c.val))))) ∧
  -- CAN_QUEUE_DRAIN with nothing lost
  (∀ (c : Fin 4) (tag : Option Nat) (s : State) (e : CanEnt) (q : List CanEnt), (canOf s c.val).queue = e :: q → (canOf s c.val).lost = none →
    domOn s 7 = true → domOn s 8 = true →
    exec (.canQueueDrain c tag) s = .next (canDrain c.val e tag (setCan c.val { canOf s c.val with queue := q, lost := none } s))) ∧
  -- CAN_ERROR in a receiver: counted, recorded, its code kept, REC raised (at most 255)
  (∀ (c : Fin 4) (e : Fin 6) (dom : Bool) (n : Fin 9) (s : State), canOn s c.val = true → e.val ≠ 0 → canState s c.val ≠ 2 →
    canMode s c.val ≠ 1 →
    exec (.canError c e false dom n) s = .next (
      let t := fault (fset (fincSat s (R.CAN_ERR c.val) F.CAN_ERR_ERR_CNT) (R.CAN_ERR c.val) F.CAN_ERR_LAST_ERR e.val) Ev.CAN_ERROR
        [(c.val : Int), (e.val : Int), 0]
      let u := canStateSync c.val (fset t (R.CAN_STATUS c.val) F.CAN_STATUS_REC
        (min (fget s (R.CAN_STATUS c.val) F.CAN_STATUS_REC + errStep s c.val e.val false dom n.val) 255))
      canPut c.val (errEnt u c.val e.val false) u)) ∧
  -- BUS_OFF_RECOVERY and CAN_RECOVER
  (∀ (c : Fin 4) (s : State), canState s c.val = 2 → recovered s c.val = true → domOn s 7 = true →
    exec (.busOffRecovery c) s = .next (
      let t := fset (fset (fset s (R.CAN_STATUS c.val) F.CAN_STATUS_STATE 0) (R.CAN_STATUS c.val) F.CAN_STATUS_TEC 0) (R.CAN_STATUS c.val)
        F.CAN_STATUS_REC 0
      let u := setCan c.val { canOf t c.val with recover := none } t
      faultEnd (canPut c.val (errEnt u c.val 7 true) u) Ev.CAN_BUS_OFF [(c.val : Int)])) ∧
  (∀ (who : Fin 36) (c : Fin 4) (s : State), rapMay s who.val .other 7 = true → canState s c.val = 2 →
    (canOf s c.val).recover = none →
    exec (.canRecover who c) s = .next (rapAnswer (setCan c.val { canOf s c.val with recover := some s.tb } s) who.val .ok [])) ∧
  -- before the 128 sequences of 11 recessive bits have passed nothing recovers
  (∀ (c : Fin 4) (s : State), recovered s c.val = false → exec (.busOffRecovery c) s = .next s) ∧
  -- CAN_MODE_WRITE and CAN_MODE_APPLY
  (∀ (who : Fin 36) (c m : Fin 4) (s : State), rapMay s who.val .can 7 = true →
    exec (.canModeWrite who c m) s = .next (rapAnswer (fset s (R.CAN_CTRL c.val) F.CAN_CTRL_MODE m.val) who.val .ok [])) ∧
  (∀ (c : Fin 4) (s : State), domOn s 7 = true → (canOf s c.val).cur = none →
    canMode s c.val ≠ fget s (R.CAN_CTRL c.val) F.CAN_CTRL_MODE →
    exec (.canModeApply c) s = .next (canModeSet c.val (fget s (R.CAN_CTRL c.val) F.CAN_CTRL_MODE) s)) ∧
  -- SLOT_ARM and SLOT_ABORT of a slot that RAP owns
  (∀ (who : Fin 36) (c : Fin 4) (k : Fin 128) (s : State), rapMay s who.val .can 7 = true →
    fbit s (R.CAN_SLOT_CTRL c.val k.val) F.CAN_SLOT_CTRL_OWNER = true → slotState s c.val k.val ≠ 2 →
    exec (.slotArm (some who) c k) s = .next (rapAnswer (slotArm c.val k.val (slotShadow s c.val k.val) s) who.val .ok [])) ∧
  (∀ (who : Fin 36) (c : Fin 4) (k : Fin 128) (s : State), rapMay s who.val .can 7 = true →
    fbit s (R.CAN_SLOT_CTRL c.val k.val) F.CAN_SLOT_CTRL_OWNER = false →
    exec (.slotArm (some who) c k) s = .next (rapAnswer s who.val .notOwner [])) ∧
  (∀ (c : Fin 4) (k : Fin 128) (s : State), domOn s 7 = true → domOn s 1 = true →
    fbit s (R.CAN_SLOT_CTRL c.val k.val) F.CAN_SLOT_CTRL_OWNER = false → slotState s c.val k.val = 2 →
    exec (.slotAbort none c k) s = .next (setCan c.val { canOf s c.val with aborting := true } s)) ∧
  (∀ (c : Fin 4) (k : Fin 128) (s : State), domOn s 7 = true → domOn s 1 = true →
    fbit s (R.CAN_SLOT_CTRL c.val k.val) F.CAN_SLOT_CTRL_OWNER = false → slotState s c.val k.val = 1 →
    exec (.slotAbort none c k) s = .next (slotEnd c.val k.val 9 true s)) ∧
  -- START_OPPORTUNITY: of the slots due and not late, the winner begins its attempt
  (∀ (c : Fin 4) (q : Nat) (s : State) (k : Nat) (a : SlotAct), domOn s 7 = true → canMode s c.val = 0 → canState s c.val < 2 →
    (canOf s c.val).cur = none → quantumPast s c.val q = false → (slotsDue s c.val).filter (fun x => slotLate x.2 s.tb) = [] →
    slotWinner ((slotsDue s c.val).filter (fun x => !slotLate x.2 s.tb)) = some (k, a) →
    exec (.startOpportunity c q) s = .next (slotSet c.val k F.CAN_SLOT_STAT_STATE 2 (fincSat (setCan c.val { canOf s c.val with
      cur := some (k, s.tb + q), aborting := false } s) (R.CAN_SLOT_STAT c.val k) F.CAN_SLOT_STAT_ATTEMPTS))) ∧
  -- CAN_TX_END of an attempt that lost arbitration
  (∀ (c : Fin 4) (s : State) (k t : Nat) (a : SlotAct), (canOf s c.val).cur = some (k, t) → slotAct s c.val k = some a →
    exec (.canTxEnd c .arb none) s = .next (slotHeld c.val k (canOf s c.val).aborting (slotFail c.val k a .arb
      (canOf s c.val).aborting (tdcShow c.val (slotFrame a).brs none (setCan c.val { canOf s c.val with cur := none, aborting := false } s))))) ∧
  -- LATE_LIM_EXPIRY and TX_TB_REACHED
  (∀ (c : Fin 4) (k : Fin 128) (s : State) (a : SlotAct), slotAct s c.val k.val = some a → domOn s 7 = true → slotState s c.val k.val = 1 →
    slotLate a s.tb = true → exec (.lateLimExpiry c k) s = .next (slotEnd c.val k.val 2 false s)) ∧
  (∀ (c : Fin 4) (k : Fin 128) (s : State) (a : SlotAct), slotAct s c.val k.val = some a → domOn s 7 = true → canState s c.val = 2 →
    slotState s c.val k.val = 1 → a.single = true → a.txTb ≤ s.tb →
    exec (.txTbReached c k) s = .next (slotEnd c.val k.val 8 false s))

/-- For ADDRESS_CLAIM, CLAIM_QUIET_END, ADDRESS_CLAIMED_RECEIVED, REQUEST_ADDRESS_CLAIMED, COMMANDED_ADDRESS, DM3_CLEAR, DM11_CLEAR and ISO_TRANSPORT:
the consumer takes its oldest entry, and under the conditions under which each happens exec answers the next state its rule describes: the
preferred address is claimed; 250 ms later it is in use; a request is answered with the address and NAME, or with cannot claim; of the 16
transport sessions a further one is aborted. (R318, R325, R326, R450.) -/
def Obligations.IsoCommandsComplete : Prop :=
  (∀ (c : Fin 4) (s : State), isoOn s c.val = true → (canOf s c.val).claim = 0 →
    exec (.addressClaim c) s = .next (isoClaim c.val (isoPref s) s)) ∧
  (∀ (c : Fin 4) (s : State), (canOf s c.val).claim = 1 → (canOf s c.val).claimAt + msTicks 250 ≤ s.tb →
    exec (.claimQuietEnd c) s = .next (setCan c.val { canOf s c.val with claim := 2 } s)) ∧
  -- ADDRESS_CLAIMED_RECEIVED of an address not seen before, by a NAME not seen before, not this module's address
  (∀ (c : Fin 4) (a : Fin 256) (name : Nat) (s : State), canOn (canTake c.val 0 s) c.val = true → (canOf (canTake c.val 0 s) c.val).used = [] →
    (canOf (canTake c.val 0 s) c.val).claim = 0 → a.val ≤ 253 →
    exec (.addressClaimedReceived c a name) s = .next (
      let t := canTake c.val 0 s
      setCan c.val { canOf t c.val with used := [(a.val, name)] } t)) ∧
  -- REQUEST_ADDRESS_CLAIMED with an address in use, and with none to be had
  (∀ (c : Fin 4) (s : State), isoOn (canTake c.val 0 s) c.val = true → (canOf (canTake c.val 0 s) c.val).claim = 2 →
    exec (.requestAddressClaimed c) s = .next (
      let t := canTake c.val 0 s
      send t MsgKind.ADDRESS_CLAIMED c.val [(fget t (R.CAN_ISO c.val) F.CAN_ISO_ADDR : Int), (isoShown t c.val : Int)])) ∧
  (∀ (c : Fin 4) (s : State), isoOn (canTake c.val 0 s) c.val = true → (canOf (canTake c.val 0 s) c.val).claim = 3 →
    exec (.requestAddressClaimed c) s = .next (send (canTake c.val 0 s) MsgKind.CANNOT_CLAIM c.val [(isoShown (canTake c.val 0 s) c.val : Int)])) ∧
  (∀ (c : Fin 4) (a : Fin 254) (s : State), isoOn (canTake c.val 0 s) c.val = true → (canOf (canTake c.val 0 s) c.val).claim = 2 →
    exec (.commandedAddress c (isoShown (canTake c.val 0 s) c.val) a) s = .next (isoClaim c.val a.val (canTake c.val 0 s))) ∧
  (∀ (c : Fin 4) (s : State), exec (.dm3Clear c) s = .next (dmClear c.val (canTake c.val 0 s))) ∧
  (∀ (c : Fin 4) (s : State), exec (.dm11Clear c) s = .next (dmClear c.val (canTake c.val 0 s))) ∧
  -- ISO_TRANSPORT: a start, a part, an abort
  (∀ (c : Fin 4) (p : Fin 256) (pgn n : Nat) (s : State), canOn (canTake c.val 0 s) c.val = true →
    (canOf (canTake c.val 0 s) c.val).tp = [] → n ≤ 117440505 →
    exec (.isoTransport c p false false pgn (.start n) none) s = .next (
      let t := canTake c.val 0 s
      setCan c.val { canOf t c.val with tp := [⟨p.val, false, false, n, []⟩] } t)) ∧
  (∀ (c : Fin 4) (p : Fin 256) (pgn n : Nat) (s : State), canOn (canTake c.val 0 s) c.val = true →
    16 ≤ ((canOf (canTake c.val 0 s) c.val).tp.filter (fun t => !tpIs p.val false false t)).length →
    exec (.isoTransport c p false false pgn (.start n) none) s = .next (send (canTake c.val 0 s) MsgKind.TP_ABORT p.val [(c.val : Int)])) ∧
  (∀ (c : Fin 4) (p : Fin 256) (pgn : Nat) (s : State), canOn (canTake c.val 0 s) c.val = true →
    exec (.isoTransport c p false false pgn .abort none) s = .next (
      let t := canTake c.val 0 s
      setCan c.val { canOf t c.val with tp := (canOf t c.val).tp.filter (fun y => !tpIs p.val false false y) } t))

/-- For LINK_FRAME, LC_FRAME, LINK_ACK_TIMEOUT, LINK_DOWN, LINK_TRAINING, LINK_UP, TIME_SYNC_REQUEST, TIME_SYNC_REQUEST_RX and TIME_SYNC_REPLY: under
the conditions under which each happens, exec answers the next state its rule describes: a frame with a bad CRC is counted and answered NAK with
the LSEQ expected; one out of sequence is answered NAK; one in sequence is acknowledged, its buffer credited, and delivered; a DOWN link trains
every 1 ms; the parent answers a timing request with its two stamps. (R332, R333, R334, R336, R346, R347.) -/
def Obligations.LinkCommandsComplete : Prop :=
  (∀ (n : Fin 5) (f : LFrame) (s : State), linkUp s n.val = true → domOn s 6 = true →
    exec (.linkFrame n f false) s = .next (lcSend n.val 1 (f.cls % 8) (smGet zero (tlOf s n.val).rxExp f.cls)
      (fault (fincSat s (R.TLK_LINK_CNT n.val) F.TLK_LINK_CNT_CRC_ERR) Ev.LINK_RESEND [(n.val : Int), (f.cls : Int)]))) ∧
  (∀ (n : Fin 5) (f : LFrame) (s : State), linkUp s n.val = true → domOn s 6 = true → f.cls ≤ 5 → f.len ≤ 492 →
    f.lseq ≠ smGet zero (tlOf s n.val).rxExp f.cls →
    exec (.linkFrame n f true) s = .next (lcSend n.val 1 f.cls (smGet zero (tlOf s n.val).rxExp f.cls) s)) ∧
  (∀ (n : Fin 5) (f : LFrame) (s : State), linkUp s n.val = true → domOn s 6 = true → f.cls ≤ 5 → f.len ≤ 492 →
    f.lseq = smGet zero (tlOf s n.val).rxExp f.cls →
    f.dst = midOf s →
    exec (.linkFrame n f true) s = .next (seenTc4 f (lcSend n.val 2 f.cls 1 (lcSend n.val 0 f.cls f.lseq (setTl n.val { tlOf s n.val with
      rxExp := smSet zero f.cls ((f.lseq + 1) % 256) (tlOf s n.val).rxExp } s))))) ∧
  (∀ (n : Fin 5) (c q : Nat) (s : State), linkUp s n.val = true → exec (.lcFrame n (.ack c q)) s = .next (linkAcked n.val c q s)) ∧
  (∀ (n : Fin 5) (c q : Nat) (s : State), linkUp s n.val = true →
    exec (.lcFrame n (.nak c q)) s = .next (linkResend n.val c (linkAcked n.val c ((q + 255) % 256) s))) ∧
  (∀ (n : Fin 5) (c : Fin 6) (s : State) (u : LFrame × Nat), (tlOf s n.val).unacked.find? (fun u => u.1.cls == c.val) = some u →
    linkUp s n.val = true → u.2 + frameTicks u.1 + usTicks 10 ≤ s.tb → exec (.linkAckTimeout n c) s = .next (linkResend n.val c.val s)) ∧
  (∀ (n : Fin 5) (s : State), linkState s n.val ≠ 0 → exec (.linkDown n) s = .next (leaderRefresh (linkDown n.val s))) ∧
  (∀ (n : Fin 5) (s : State), domOn s 6 = true → linkState s n.val = 0 → (tlOf s n.val).since + msTicks 1 ≤ s.tb →
    exec (.linkTraining n) s = .next (linkEnter n.val 1 s)) ∧
  (∀ (n : Fin 5) (p : Fin 64) (s : State), domOn s 6 = true → linkState s n.val = 1 → (tlOf s n.val).since + msTicks 1 ≤ s.tb →
    exec (.linkUp n p) s = .next (leaderRefresh (faultPast (linkEnter n.val 2 (fset (setTl n.val (tlInit n.val) s) (R.TLK_LINK_STAT n.val)
      F.TLK_LINK_STAT_PEER p.val)) Ev.LINK_STATE [(n.val : Int)]))) ∧
  (∀ (n : Fin 5) (fr : Fin 32) (s : State), linkUp s n.val = true → fbit s (R.TLK_LINK_STAT n.val) F.TLK_LINK_STAT_PARENT = true →
    (tlOf s n.val).syncAt = none →
    exec (.timeSyncRequest n fr) s = .next (send (setTl n.val { tlOf s n.val with
      syncAt := some s.tb, t1 := some (s.tb * 32 + fr.val) } s) MsgKind.TIME_SYNC_REQUEST n.val [])) ∧
  (∀ (n : Fin 5) (fr : Fin 32) (d : Nat) (s : State), linkUp s n.val = true →
    exec (.timeSyncRequestRx n fr d) s = .next (send s MsgKind.TIME_SYNC_REPLY n.val [((s.tb * 32 + fr.val : Nat) : Int),
      ((s.tb * 32 + fr.val : Nat) : Int) + d, sext 16 (fget s R.TLK_CLK F.TLK_CLK_CLK_OFS)])) ∧
  -- TIME_SYNC_REPLY, the first of a link: half the difference is the offset, half the sum the delay
  (∀ (n : Fin 5) (fr : Fin 32) (t2 t3 t1 : Nat) (ofs : Int) (s : State), (tlOf s n.val).t1 = some t1 → (tlOf s n.val).offs = [] →
    exec (.timeSyncReply n fr t2 t3 ofs) s = .next (
      let there : Int := (t2 : Int) - t1
      let back : Int := ((s.tb : Int) * 32 + fr.val) - t3
      let o := divOpen (back - there) 2
      let mean := divOpen (0 + o) 1
      let clk := clampInt (-32768) 32767 (mean + ofs)
      let t := setTl n.val { tlOf s n.val with t1 := none, offs := [o] } s
      let u := fset (fset t (R.TLK_LINK_DLY n.val) F.TLK_LINK_DLY_DELAY (fitS 17 (divOpen (there + back) 2))) (R.TLK_LINK_DLY n.val)
        F.TLK_LINK_DLY_OFFSET (fitS 16 o)
      let v := fset u R.TLK_CLK F.TLK_CLK_CLK_OFS (bitsOf 16 clk)
      alignCheck { v with team := { v.team with
        clk10 := (v.team.clk10 ++ [clk]).drop (v.team.clk10.length + 1 - 10), trim := v.team.trim + clampInt (-100) 100 mean } }))

/-- For HELLO_SEND, HELLO, DISCOVERY_END, LEADER_BEAT_SEND, LEADER_BEAT, LEADER_LOST, ROLE_MOVE_APPLY, ROUTING_TABLE, ROUTING_TABLE_APPLY and
TB_SLEW_DONE: under the conditions under which each happens, exec answers the next state its rule describes: a HELLO leaves each link that is UP
every 100 µs; a beat of the own leader and term renews its stamp; without a beat for 5 ms and with no more than half of the table's members in
reach the module is ISOLATED; the routing table is changed at the boundary it names. That a leader's own parts before the beat stay is the model's
reading. (R339, R340, R341, R342, R343, R345, R348.) -/
def Obligations.TeamCommandsComplete : Prop :=
  (∀ (s : State) (m : Nat), domOn s 6 = true → s.pwr.mid = some m → s.team.helloTx = none →
    exec .helloSend s = .next (
      let t := forEach (upLinks s) (fun p t => send t MsgKind.HELLO p.1 (helloArgs (ownHello s))) s
      { t with team := { t.team with helloTx := some s.tb, helloAt := some (s.team.helloAt.getD s.tb) } })) ∧
  -- HELLO of a module not yet heard, before the team has formed: passed on over every other link
  (∀ (n : Fin 5) (h : Hello) (s : State) (m : Nat), domOn s 6 = true → s.pwr.mid = some m → heardOf s h.mid = none → h.mid ≠ midOf s →
    (partCheck (wiringCheck h (hear h (helloCheck h (forEach ((upLinks s).filter (fun p => p.1 != n.val))
      (fun p t => send t MsgKind.HELLO p.1 (helloArgs h)) s))))).team.formed = false →
    exec (.hello n h) s = .next (partCheck (wiringCheck h (hear h (helloCheck h (forEach ((upLinks s).filter (fun p => p.1 != n.val))
      (fun p t => send t MsgKind.HELLO p.1 (helloArgs h)) s)))))) ∧
  -- DISCOVERY_END with every planned module heard and no other team: the team forms
  (∀ (s : State) (p : PlanPos), s.team.formed = false → mayJoin s = true → (planMids s).filter (fun m => !(present s).contains m) = [] →
    planPos s (posOf s) = some p → p.paired = true → teamState s ≠ 4 → s.team.beat = none →
    exec .discoveryEnd s = .next (formTeam { s with team := { s.team with missing := [] } })) ∧
  (∀ s : State, isLeader s = true → domOn s 6 = true → s.team.beatTx = none →
    exec .leaderBeatSend s = .next (
      let t := toTeam s MsgKind.LEADER_BEAT ((fget s R.TLK_TERM F.TLK_TERM_TERM : Int) :: s.team.members.map Int.ofNat)
      { t with team := { t.team with beatTx := some s.tb } })) ∧
  -- LEADER_BEAT heard before the team has formed
  (∀ (m : Fin 64) (t : Fin 65536) (l : List (Fin 64)) (s : State) (i : Nat), domOn s 6 = true → m.val ≠ midOf s → s.pwr.mid = some i →
    teamState s ≠ 4 → s.team.formed = false →
    exec (.leaderBeat m t l) s = .next { s with team := { s.team with beat := some (m.val, t.val, l.map (·.val)) } }) ∧
  -- LEADER_LOST with no one in reach
  (∀ (s : State) (t : Nat), s.team.beatAt = some t → t + msTicks 5 ≤ s.tb → teamState s = 1 →
    ((reachFrom (neighboursOf s s.team.members) (midOf s)).map (·.mid)).filter (fun m => leaderOf s != some m) = [] →
    exec .leaderLost s = .next (setTeamState 3 (setLeader none (setMembers [] s)))) ∧
  (∀ (r : Fin 3) (p : Fin 32) (s : State), isLeader s = false →
    exec (.roleMoveApply r p) s = .next (rolesSync (setRole r.val p.val { s with team := { s.team with
      roleNext := s.team.roleNext.filter (fun x => !(x.2.1 == r.val && x.2.2 == p.val)) } }))) ∧
  (∀ (t : RouteTab) (s : State), isLeader s = false → domOn s 6 = true →
    exec (.routingTable t) s = .next { s with team := { s.team with routeNext := some t } }) ∧
  (∀ (t : RouteTab) (s : State), s.team.routeNext = some t → t.b ≤ s.tb → exec .routingTableApply s = .next (tableApply t s)) ∧
  (∀ (s : State) (l t : Nat) (ms : List Nat), fbit s R.TLK_CLK F.TLK_CLK_TB_SLEW = true → s.team.slewLeft = 0 →
    s.team.beat = some (l, t, ms) → exec .tbSlewDone s = .next (teamAdmit l t ms (fsetb s R.TLK_CLK F.TLK_CLK_TB_SLEW false)))

/-- For SHADOW_STATE, PARTNER_ACK, PL_HEARTBEAT_SEND, PL_HEARTBEAT, PARTNER_LOST, TAKEOVER_COMPLETE, DRIVE_CLAIM, POSITION_SAFE,
PARTNER_ABSENT_REPORT, PAIR_UNRESOLVED, HANDOVER and HANDOVER_APPLY: under the conditions under which each happens, exec answers the next state
its rule describes: a corrupted shadow state sets SHADOW_BAD with a fault; three missed heartbeats (1,300 ticks) lose the partner; the driving
module names H at least 10 cycles ahead; after 100 ms without a report PAIR_UNRESOLVED is a fault. (R350, R351, R352, R353, R354, R355.) -/
def Obligations.PairCommandsComplete : Prop :=
  (∀ (sh : Shadow) (s : State), domOn s 6 = true → pairState s = 2 →
    exec (.shadowState sh false) s = .next (fault (fsetb s R.TLK_PAIR_STAT F.TLK_PAIR_STAT_SHADOW_BAD true) Ev.SHADOW_BAD [])) ∧
  -- a good one is kept and acknowledged as complete
  (∀ (sh : Shadow) (s : State), domOn s 6 = true → pairState s = 2 → fltHeld s Ev.SHADOW_BAD [] = false →
    exec (.shadowState sh true) s = .next (send { s with team := { s.team with shadow := some sh } } MsgKind.PL_ACK (partnerOf (midOf s))
      [(sh.b : Int), 1])) ∧
  (∀ s : State, pairPlanned s = true → domOn s 6 = true → s.team.hbTx = none →
    exec .plHeartbeatSend s = .next (send { s with team := { s.team with hbNext := (s.team.hbNext + 1) % 16, hbTx := some s.tb } }
      MsgKind.PL_HEARTBEAT (partnerOf (midOf s)) [(s.team.hbNext : Int), (b2n (drives s && s.team.formed) : Int), (b2n s.team.healthy : Int),
        (b2n s.team.handover.isSome : Int), ((s.team.handover.getD 0 : Nat) : Int)])) ∧
  -- PL_HEARTBEAT of a partner that has not been heard, in a module that drives alone
  (∀ (n : Fin 16) (d : Bool) (h : Option Nat) (s : State), pairPlanned s = true → domOn s 6 = true →
    fbit s R.TLK_PAIR_STAT F.TLK_PAIR_STAT_PARTNER_HB = false → pairState s = 0 →
    exec (.plHeartbeat n d true h) s = .next (
      let t := faddSat s R.TLK_PAIR_STAT F.TLK_PAIR_STAT_HB_MISSED 0
      fsetb { t with team := { t.team with hbAt := some s.tb, hbCnt := n.val, hbDrive := d } } R.TLK_PAIR_STAT
        F.TLK_PAIR_STAT_PARTNER_HB true)) ∧
  (∀ (s : State) (t : Nat), s.team.hbAt = some t → fbit s R.TLK_PAIR_STAT F.TLK_PAIR_STAT_PARTNER_HB = true → t + 1300 ≤ s.tb →
    exec .partnerLost s = .next (partnerLost s)) ∧
  (∀ s : State, pairState s = 4 → exec .takeoverComplete s = .next (takeOver s.tb s)) ∧
  -- DRIVE_CLAIM of the partner of another position, which does not lead
  (∀ (m : Fin 64) (t : Nat) (s : State), m.val ≠ midOf s → domOn s 6 = true → leaderOf s ≠ some (partnerOf m.val) → isLeader s = false →
    m.val ≠ partnerOf (midOf s) → exec (.driveClaim m t) s = .next s) ∧
  -- and of this position's own partner: this module yields
  (∀ (m : Fin 64) (t : Nat) (s : State), m.val ≠ midOf s → domOn s 6 = true → leaderOf s ≠ some (partnerOf m.val) → isLeader s = false →
    m.val = partnerOf (midOf s) → pairState s = 1 → exec (.driveClaim m t) s = .next (yieldPosition s)) ∧
  (∀ (p : Fin 32) (s : State), p.val ≠ posOf s → s.team.members.filter (fun m => m / 2 == p.val) ≠ [] →
    isLeader (setMembers (s.team.members.filter (fun m => m / 2 != p.val)) s) = false →
    exec (.positionSafe p) s = .next (setMembers (s.team.members.filter (fun m => m / 2 != p.val)) s)) ∧
  (∀ s : State, pairState s = 1 → fbit s R.TLK_PAIR_STAT F.TLK_PAIR_STAT_PARTNER_HB = false →
    exec .partnerAbsentReport s = .next (raise (resolvedPair (forEach s.cov.toAck stripOut (setPair 0 { s with
      cov := { s.cov with toAck := [] }, team := { s.team with lostAt := none } }))) Ev.PAIR_ALONE [(posOf s : Int)])) ∧
  -- where PAIR_UNRESOLVED stood, it ends
  (∀ s : State, fbit s R.TLK_PAIR_STAT F.TLK_PAIR_STAT_PAIR_UNRESOLVED = true →
    resolvedPair s = faultEnd (fsetb s R.TLK_PAIR_STAT F.TLK_PAIR_STAT_PAIR_UNRESOLVED false) Ev.PAIR_UNRESOLVED [(posOf s : Int)]) ∧
  (∀ (s : State) (t : Nat), s.team.lostAt = some t → pairState s = 1 → t + msTicks 100 ≤ s.tb →
    fbit s R.TLK_PAIR_STAT F.TLK_PAIR_STAT_PAIR_UNRESOLVED = false →
    exec .pairUnresolved s = .next (fault (fsetb s R.TLK_PAIR_STAT F.TLK_PAIR_STAT_PAIR_UNRESOLVED true) Ev.PAIR_UNRESOLVED
      [(posOf s : Int)])) ∧
  (∀ (who : Fin 36) (s : State), rapMay s who.val .handover 6 = true → pairState s = 1 → s.team.partnerSh = true →
    fbit s R.TLK_PAIR_STAT F.TLK_PAIR_STAT_PARTNER_HB = true →
    exec (.handover who) s = .next (rapAnswer { s with team := { s.team with
      handover := some (boundaryFrom (s.tb + 10 * cycleTicks)) } } who.val .ok [])) ∧
  (∀ (s : State) (H : Nat), s.team.handover = some H → H ≤ s.tb → pairState s = 2 → exec .handoverApply s = .next (takeOver H s)) ∧
  (∀ (s : State) (H : Nat), s.team.handover = some H → H ≤ s.tb → pairState s = 1 →
    exec .handoverApply s = .next (rolesSync (staged handOff s))) ∧
  -- PARTNER_ACK of a strip, and of a complete state
  (∀ (o : Fin 96) (q : Nat) (b : Bool) (s : State) (x : Strip), s.cov.toAck.find? (fun x => x.out == o.val + 1 && x.seq == q) = some x →
    exec (.partnerAck (some (o, q)) b) s = .next (stripOut x { s with cov := { s.cov with
      toAck := removeFirst (fun y => y == x) s.cov.toAck } })) ∧
  (∀ (b : Bool) (s : State), pairState s = 1 →
    exec (.partnerAck none b) s = .next { s with team := { s.team with partnerSh := b } })

/-- For SAFETY_EVALUATION, ISLAND_HEARTBEAT_LOSS, SI_CHANNEL_ACCEPTED, TEST_PULSE, DISCREPANCY, SO_OFF_PULSE_TEST, SO_PRECLOSE_TEST, SO_STUCK,
SO_OPEN_FAIL, SRST_EDGE, SRST_STUCK, SO_AUTO_RESTART, SAFETY_PDU_SEND, SAFETY_PDU and CONN_TIMEOUT: under the conditions under which each happens,
exec answers the next state its rule describes: an output test that fails is SO_TEST_FAIL; a readback that contradicts the command is SO_STUCK or
SO_OPEN_FAIL; a PDU with another version or a bad CHK is discarded and counted; a connection with no accepted PDU for WDT is a fault. (R360, R363,
R364, R365, R367, R368, R369, R370, R376, R377, R378.) -/
def Obligations.IslandCommandsComplete : Prop :=
  (∀ (no nc : BitVec 16) (h l sh : BitVec 4) (mv temp : Int) (s : State), s.pwr.powered = true → s.pwr.asleep = false →
    exec (.safetyEvaluation no nc h l sh false false mv temp) s =
      .next (staged (fun x => forN 4 (soEval h l sh) (islandCheck no nc (selfFail false mv temp) (safTick x))) s)) ∧
  (∀ s : State, s.pwr.powered = true → s.pwr.asleep = false → exec .islandHeartbeatLoss s = .next (staged (islandReset 3) s)) ∧
  (∀ (b : Bool) (s : State), s.pwr.powered = true → s.pwr.asleep = false → exec (.siChannelAccepted 8 b) s = .next (srstAccept b s)) ∧
  (∀ (c : Fin 9) (b : Bool) (s : State), s.pwr.powered = true → s.pwr.asleep = false → c.val ≠ 8 →
    exec (.siChannelAccepted c b) s = .next (chAccept (c.val / 2) (c.val % 2 == 1) b s)) ∧
  -- a pulse of TPA whose driver is good
  (∀ (o c : BitVec 4) (s : State), s.pwr.powered = true → s.pwr.asleep = false → pulseEnd false s = true →
    exec (.testPulse false false o c) s = .next (
      let t := forN 4 (pulseInput false o c) (pulseSeen false s)
      drvClear { t with saf := { t.saf with drvA := t.saf.drvA.map (· + 1) } })) ∧
  (∀ (x : Fin 4) (t : Nat) (s : State), (siOf s x.val).firstAt = some t → t + discMs s < s.saf.ms →
    exec (.discrepancy x) s = .next (siFaulted x.val F.SAF_IN_DISCREPANCY Ev.DISCREPANCY s)) ∧
  -- SO_OFF_PULSE_TEST passed and failed
  (∀ (x : Fin 4) (s : State), fbit s (R.SAF_SO x.val) F.SAF_SO_CLOSED = true → (soOf s x.val).dueH ≤ s.saf.ms →
    exec (.soOffPulseTest x false true) s = .next (fincWrap (setSo x.val { soOf s x.val with dueH := (soOf s x.val).dueH + tTest s } s)
      (R.SAF_SO x.val) F.SAF_SO_TESTS)) ∧
  (∀ (x : Fin 4) (s : State), fbit s (R.SAF_SO x.val) F.SAF_SO_CLOSED = true → (soOf s x.val).dueH ≤ s.saf.ms →
    exec (.soOffPulseTest x false false) s = .next (staged (outFault x.val Ev.SO_TEST_FAIL) s)) ∧
  -- SO_PRECLOSE_TEST passed and failed
  (∀ (x : Fin 4) (s : State), s.pwr.powered = true → s.pwr.asleep = false → fbit s (R.SAF_SO x.val) F.SAF_SO_CLOSED = false →
    (soOf s x.val).shut = false → soUsed s x.val = true → fbit s (R.SAF_SO x.val) F.SAF_SO_OUT_FAULT = false → (soOf s x.val).preAt = none →
    exec (.soPrecloseTest x true) s = .next (setSo x.val { soOf s x.val with tested := true, preAt := some s.saf.ms } s)) ∧
  (∀ (x : Fin 4) (s : State), s.pwr.powered = true → s.pwr.asleep = false → fbit s (R.SAF_SO x.val) F.SAF_SO_CLOSED = false →
    (soOf s x.val).shut = false → soUsed s x.val = true → fbit s (R.SAF_SO x.val) F.SAF_SO_OUT_FAULT = false → (soOf s x.val).preAt = none →
    exec (.soPrecloseTest x false) s = .next (outFault x.val Ev.SO_TEST_FAIL s)) ∧
  (∀ (x : Fin 4) (s : State), fbit s (R.SAF_SO x.val) F.SAF_SO_CLOSED = false → rbBad s x.val = true →
    exec (.soStuck x) s = .next (outFault x.val Ev.SO_STUCK s)) ∧
  (∀ (x : Fin 4) (s : State), fbit s (R.SAF_SO x.val) F.SAF_SO_CLOSED = true → rbBad s x.val = true →
    exec (.soOpenFail x) s = .next (staged (outFault x.val Ev.SO_OPEN_FAIL) s)) ∧
  -- SRST_EDGE acts on every SOx that waits for it; SRST_STUCK after more than 5 s
  (∀ s : State, s.saf.edge = true →
    exec .srstEdge s = .next (staged (fun y => forN 4 (fun x z =>
      if fbit z (R.SAF_SO x) F.SAF_SO_CLOSED = false ∧ soAuto z x = false ∧ soHolds z x ∧ (soOf z x).tested then soClose x z else z)
      { y with saf := { y.saf with edge := false } }) s)) ∧
  (∀ (t : Nat) (s : State), s.saf.srstAt = some t → s.saf.srst = true → t + 5000 < s.saf.ms →
    fbit s R.SAF_STATUS F.SAF_STATUS_SRST_STUCK = false →
    exec .srstStuck s = .next (raise (fsetb s R.SAF_STATUS F.SAF_STATUS_SRST_STUCK true) Ev.SRST_STUCK [])) ∧
  (∀ (x : Fin 4) (t : Nat) (s : State), (soOf s x.val).since = some t → fbit s (R.SAF_SO x.val) F.SAF_SO_CLOSED = false →
    soAuto s x.val = true → (soOf s x.val).tested = true → soHolds s x.val = true → t + 500 ≤ s.saf.ms →
    exec (.soAutoRestart x) s = .next (staged (soClose x.val) s)) ∧
  -- connections
  (∀ (n : Fin 64) (d : ConnDef) (s : State), connDef s n.val = some d → d.producer = true → (connOf s n.val).seen = false → d.ctrl = none →
    s.pwr.powered = true → s.pwr.asleep = false → exec (.safetyPduSend n) s = .next (
      let q := (fget s (R.SAF_CONN_STAT n.val) F.SAF_CONN_STAT_LAST + 1) % 65536
      send (setConn n.val { connOf s n.val with seen := true, at_ := s.saf.ms, flt := islandHeld s } (fset (fset s (R.SAF_CONN_STAT n.val) F.SAF_CONN_STAT_LAST q)
        (R.SAF_CONN_STAT n.val) F.SAF_CONN_STAT_SIG (sigOwn s))) MsgKind.SAFETY_PDU d.peer [(n.val : Int), 1, (q : Int), (sigOwn s : Int),
        (b2n (islandHeld s) : Int), (safetyChk d.hid q (sigOwn s) (b2n (islandHeld s)) : Int)])) ∧
  (∀ (src : Nat) (n v : Fin 256) (q : Fin 65536) (g st : BitVec 8) (k : BitVec 32) (d : ConnDef) (s : State),
    connFor s none src n = some d → s.pwr.powered = true → s.pwr.asleep = false →
    (v.val ≠ 1 ∨ k.toNat ≠ safetyChk d.hid q.val g.toNat st.toNat) →
    exec (.safetyPdu none src n v q g st k) s =
      .next (connBad d.idx.val F.SAF_CONN_ERR_CRC_ERR (raise s Ev.SAFETY_CRC [(d.idx.val : Int)]))) ∧
  (∀ (src : Nat) (n : Fin 256) (q : Fin 65536) (g st : BitVec 8) (k : BitVec 32) (d : ConnDef) (s : State),
    connFor s none src n = some d → s.pwr.powered = true → s.pwr.asleep = false → k.toNat = safetyChk d.hid q.val g.toNat st.toNat →
    (connOf s d.idx.val).seen = true →
    (q.val + 65536 - fget s (R.SAF_CONN_STAT d.idx.val) F.SAF_CONN_STAT_LAST) % 65536 ≠ 0 →
    (q.val + 65536 - fget s (R.SAF_CONN_STAT d.idx.val) F.SAF_CONN_STAT_LAST) % 65536 ≤ d.win →
    exec (.safetyPdu none src n 1 q g st k) s = .next (connGood d.idx.val q.val g.toNat (st.getLsbD 0) s)) ∧
  -- a PDU in a CAN frame: from the connection of its controller and identifier
  (∀ (c : Fin 4) (src : Nat) (n v : Fin 256) (q : Fin 65536) (g st : BitVec 8) (k : BitVec 32) (d : ConnDef) (s : State),
    connFor s (some c) src n = some d → s.pwr.powered = true → s.pwr.asleep = false →
    exec (.safetyPdu (some c) src n v q g st k) s = .next (pduTake d v q g st k (canTake c.val 5 s))) ∧
  (∀ (n : Fin 64) (d : ConnDef) (s : State), connDef s n.val = some d → d.producer = false →
    fget s (R.SAF_CONN_STAT n.val) F.SAF_CONN_STAT_STATE = 1 → (connOf s n.val).at_ + d.wdt ≤ s.saf.ms →
    exec (.connTimeout n) s = .next (fault (connEnter n.val 2 s) Ev.CONN_TIMEOUT [(n.val : Int)]))

/-- For TLS_HANDSHAKE, TLS_IDLE_TIMEOUT, TLS_LIFETIME_END, TLS_ERROR, TLS_KEY_UPDATE, RAP_SESSION, CAN_SESSION_REKEY, REKEY_TIMEOUT and TT_HWM_STORE:
under the conditions under which each happens, exec answers the next state its rule describes: credentials that pass open the first free of four
TLS sessions; 300 s without a request, 24 h, or a TLS error close one; a CAN session rekeys when a side has sent 2^31 messages, and ends where the
rekey takes more than 10 s; TT_HWM is stored every 60 s. (R391, R392, R393, R394.) -/
def Obligations.SessionCommandsComplete : Prop :=
  (∀ (c : Cred) (s : State), rapPath s = true → s.pwm.halted = false → sessOf s 0 = none → credCheck s c = 0 →
    exec (.tlsHandshake c) s = .next (sessOpen 0 0 0 0 0 c s)) ∧
  (∀ (c : Cred) (s : State), rapPath s = true → s.pwm.halted = false → sessOf s 0 = none → credCheck s c ≠ 0 →
    exec (.tlsHandshake c) s = .next (sessRefused none 0 c (credCheck s c) s)) ∧
  (∀ (k : Fin 4) (x : Sess) (s : State), sessOf s k.val = some x → x.lastAt + 300 * secTicks ≤ s.tb →
    exec (.tlsIdleTimeout k) s = .next (sessClose k.val 0 s)) ∧
  (∀ (k : Fin 4) (x : Sess) (s : State), sessOf s k.val = some x → x.opened + 86400 * secTicks ≤ s.tb →
    exec (.tlsLifetimeEnd k) s = .next (sessClose k.val 1 s)) ∧
  (∀ (k : Fin 4) (x : Sess) (s : State), sessOf s k.val = some x →
    exec (.tlsError k) s = .next (sessClose k.val 2 (fault s Ev.TLS_ERROR [(k.val : Int)]))) ∧
  (∀ (k : Fin 4) (x : Sess) (s : State), sessOf s k.val = some x →
    exec (.tlsKeyUpdate k true) s = .next (send (setSess k.val { x with keyRx := x.keyRx + 1 } s) MsgKind.TLS_KEY_UPDATE k.val [1])) ∧
  (∀ (k : Fin 4) (x : Sess) (s : State), sessOf s k.val = some x →
    exec (.tlsKeyUpdate k false) s = .next (send (setSess k.val { x with keyTx := x.keyTx + 1 } s) MsgKind.TLS_KEY_UPDATE k.val [0])) ∧
  -- RAP_SESSION: the first message of a handshake is answered with the device serial
  (∀ (c : Fin 4) (a : Fin 256) (x : Cred) (s : State), domOn s 1 = true → domOn s 7 = true → s.pwm.halted = false →
    credCheck (canTake c.val 1 s) { x with sigOk := true } = 0 → (canPlace (canTake c.val 1 s) c.val).isSome = true →
    exec (.rapSession c a (.hello x)) s = .next (
      let t := canTake c.val 1 s
      send { t with brd := { t.brd with shakes := smIns (c.val * 256 + a.val) x t.brd.shakes } } MsgKind.SESSION_ANSWER a.val
        [(c.val : Int), (t.pwr.serial : Int)])) ∧
  -- its end with credentials that fail is refused
  (∀ (c : Fin 4) (a : Fin 256) (ok : Bool) (sid : Nat) (x : Cred) (s : State), domOn s 1 = true → domOn s 7 = true → s.pwm.halted = false →
    (canTake c.val 1 s).brd.shakes = [(c.val * 256 + a.val, x)] → credCheck (canTake c.val 1 s) { x with sigOk := ok } ≠ 0 →
    exec (.rapSession c a (.finish ok sid)) s = .next (
      let t := canTake c.val 1 s
      sessRefused (some c) a.val x (credCheck t { x with sigOk := ok }) (shakeDrop (c.val * 256 + a.val) t))) ∧
  (∀ (who : Fin 36) (x : Sess) (s : State), sessOf s who.val = some x → 4 ≤ who.val → x.rekey = none → x.fTx < 2 ^ 31 → 2 ^ 31 ≤ x.fRx →
    exec (.canSessionRekey who) s = .next (setSess who.val { x with rekey := some s.tb } s)) ∧
  (∀ (who : Fin 36) (x : Sess) (t : Nat) (s : State), sessOf s who.val = some x → x.rekey = some t → t + 10 * secTicks ≤ s.tb →
    exec (.rekeyTimeout who) s = .next (sessClose who.val 7 s)) ∧
  (∀ s : State, domOn s 9 = true → fbit s R.BRD_STATUS F.BRD_STATUS_TT_HWM_VALID = true → s.brd.hwmAt + 60 * secTicks ≤ s.tb →
    exec .ttHwmStore s = .next (hwmStore s))

/-- For ENROLL_OWNER, BIND_LIVERY, SELECT_LIVERY, TRANSFER, TRANSFER_APPLY, RECLAIM, UNLOCK, RELOCK, UNLOCK_EXPIRY, TSK_ROTATION and BRD_CHAL_READ:
with the object staged and its checks passed, exec answers the next state its rule describes, with RESULT 0 and the command's number in
BRD_RESULT; an object of another kind has RESULT 1, a session of another role RESULT 3. The roles of the commands, the order of the checks and the
bounds are readings of the model (DEDUCED, log entry 55). (R387, R388, R398, R400, R401, R408, R409, R413.) -/
def Obligations.OwnershipCommandsComplete : Prop :=
  -- ENROLL_OWNER of a module without an owner
  (∀ (who : Fin 36) (p : OemPermit) (s : State), rapMay s who.val .brd 1 = true → sessRole s who.val = some .oem →
    s.brd.object = some (.claim p) → fbit s R.BRD_STATUS F.BRD_STATUS_OWNER = false → permitCheck s true p = 0 →
    (teamSerials s).all p.serials.contains = true → p.serials.all (teamSerials s).contains = true →
    exec (.enrollOwner who) s = .next (
      let k := newLmk s
      let l : Livery := ⟨p.root, p.serials, 0, true, k.1, [], [], 0⟩
      let t := wrapLmk 0 l (setLiv 0 l { k.2 with brd := { k.2.brd with used := p.number :: k.2.brd.used } })
      rapAnswer (brdResult 1 0 (livSync (fset (fset t (R.BRD_LIV 0) F.BRD_LIV_STATE 1) R.BRD_STATUS F.BRD_STATUS_LIVERY 0)))
        who.val .ok [])) ∧
  -- BIND_LIVERY of an empty livery
  (∀ (who : Fin 36) (b : Binding) (s : State), rapMay s who.val .brd 1 = true → sessRole s who.val = some .owner →
    s.brd.object = some (.binding b) → b.livery ≤ 3 → b.serials.length ≤ 64 → b.sigOk = true → livery s b.livery = none →
    ownerElsewhere s b.livery b.root = false →
    exec (.bindLivery who) s = .next (
      let k := newLmk s
      let l := takeRevoke b ⟨b.root, b.serials, b.version, b.serials.contains s.pwr.serial, k.1, [], [], 0⟩
      rapAnswer (brdResult 2 0 (livSync (fset (wrapLmk b.livery l (setLiv b.livery l k.2)) (R.BRD_LIV b.livery) F.BRD_LIV_STATE 1))) who.val .ok [])) ∧
  -- SELECT_LIVERY of one that is in force
  (∀ (who : Fin 36) (n : Nat) (s : State), rapMay s who.val .brd 1 = true → sessRole s who.val = some .owner →
    s.brd.object = some (.select n) → livState s n = 1 →
    exec (.selectLivery who) s =
      .next (rapAnswer (brdResult 3 0 (livSync (fset s R.BRD_STATUS F.BRD_STATUS_LIVERY n))) who.val .ok [])) ∧
  -- a session of another role that may write security objects: RESULT 3
  (∀ (who : Fin 36) (s : State), rapMay s who.val .brd 1 = true → sessRole s who.val = some .vendor →
    exec (.selectLivery who) s = .next (rapAnswer (brdResult 3 3 s) who.val .ok [])) ∧
  -- TRANSFER and its boundary
  (∀ (who : Fin 36) (liv root new : Nat) (ok keep : Bool) (s : State), rapMay s who.val .brd 1 = true → sessRole s who.val = some .owner →
    s.brd.object = some (.transfer liv root ok keep new) → jobRun s = false → ownerSigned s liv root ok = 0 →
    exec (.transfer who) s = .next (rapAnswer (brdResult 7 0 (transferName liv keep new s)) who.val .ok [])) ∧
  (∀ (b liv new : Nat) (keep : Bool) (s : State), s.brd.transfer = some (b, liv, keep, new) → b ≤ s.tb → liv < 4 →
    exec .transferApply s = .next (transferDo liv keep new { s with brd := { s.brd with transfer := none } })) ∧
  -- RECLAIM
  (∀ (who : Fin 36) (p : OemPermit) (s : State), rapMay s who.val .brd 1 = true → sessRole s who.val = some .oem →
    s.brd.object = some (.reclaim p) → jobRun s = false → permitCheck s false p = 0 →
    exec (.reclaim who) s = .next (rapAnswer (brdResult 8 0 (transferName 4 false 0
      { s with brd := { s.brd with used := p.number :: s.brd.used } })) who.val .ok [])) ∧
  -- UNLOCK in a TLS session with the permit's checks passed
  (∀ (who : Fin 36) (ser chal : Nat) (toT : Int) (ch : List Cert) (l : List (Option Nat × Bool × Nat)) (s : State), rapMay s who.val .brd 1 = true →
    sessRole s who.val = some .vendor → s.brd.object = some (.unlock true ch ser chal toT l) → chainHolds s s.img.otpRoot ch = true → who.val < 4 → jobRun s = false →
    locked s = true → ser = s.pwr.serial → chal = s.brd.chal → checkTime s ≤ toT → toT ≤ checkTime s + 86400 * 6400000000 →
    consented s l = true → fget s R.BRD_STATUS F.BRD_STATUS_UNLOCKS < 16 →
    exec (.unlock who) s = .next (rapAnswer (brdResult 9 0 (unlockDo who.val s)) who.val .ok [])) ∧
  -- RELOCK and UNLOCK_EXPIRY: the lock is back with the next restart
  (∀ (who : Fin 36) (s : State), rapMay s who.val .brd 1 = true → sessRole s who.val = some .debug →
    fget s R.BRD_STATUS F.BRD_STATUS_LOCK = 1 →
    exec (.relock who) s = .next (rapAnswer (brdResult 10 0 (fset s R.BRD_STATUS F.BRD_STATUS_LOCK 2)) who.val .ok [])) ∧
  (∀ (t : Nat) (s : State), s.brd.unlockAt = some t → t + 86400 * secTicks ≤ s.stb.optTicks → fget s R.BRD_STATUS F.BRD_STATUS_LOCK = 1 →
    exec .unlockExpiry s = .next (fset s R.BRD_STATUS F.BRD_STATUS_LOCK 2)) ∧
  -- TSK_ROTATION every 24 h; BRD_CHAL_READ answers the new challenge
  (∀ s : State, isLeader s = true → s.brd.tskAt + 86400 * secTicks ≤ s.tb →
    exec .tskRotation s = .next (toTeam (tskNew s) MsgKind.TSK_WRAP [])) ∧
  (∀ (who : Fin 36) (r : Role) (s : State), sessRole s who.val = some r → rapPath s = true →
    exec (.brdChalRead who) s = .next (rapAnswer (newChal s) who.val .ok [1, ((rget (newChal s) R.BRD_CHAL).toNat : Int)]))

/-- For INSTALL_LEASE, REVOKE_LEASE, CLOSE_LEASE, LEASE_EXPIRY and LEASE_FROM: with the object staged and its checks passed, exec answers the next
state its rule describes: a lease takes a free place as INSTALLED (1) with its livery; REVOKE ends it as 5, CLOSE as 6, and TO as 3. The order of
the checks is the model's reading (DEDUCED, log entry 56). (R402, R403, R404.) -/
def Obligations.LeaseCommandsComplete : Prop :=
  (∀ (who : Fin 36) (l : Lease) (m : Nat) (s : State), rapMay s who.val .brd 1 = true → sessRole s who.val = some .owner →
    s.brd.object = some (.lease l) → ownerSigned s l.livery l.root l.sigOk = 0 → leaseOk l = true → checkTime s < l.toT → l.devices = [] →
    s.brd.leases = [] → leasePlace s = some m →
    exec (.installLease who) s = .next (rapAnswer (brdResult 4 0 (setLease m ⟨l, 0, [], none, none, [], 0, false⟩ (rset s (R.BRD_HIRE_STAT m)
      (fsetW (fsetW 0 F.BRD_HIRE_STAT_STATE 1) F.BRD_HIRE_STAT_LIVERY l.livery)))) who.val .ok [])) ∧
  (∀ (who : Fin 36) (liv id root m : Nat) (ok : Bool) (s : State), rapMay s who.val .brd 1 = true → sessRole s who.val = some .owner →
    s.brd.object = some (.revoke liv id root ok) → ownerSigned s liv root ok = 0 → leaseFind s liv id = some m → leaseState s m = 2 →
    exec (.revokeLease who) s = .next (rapAnswer (brdResult 5 0 (leaseEnd m 5 s)) who.val .ok [])) ∧
  (∀ (who : Fin 36) (liv id m : Nat) (s : State), rapMay s who.val .brd 1 = true → sessRole s who.val = some .owner →
    s.brd.object = some (.close liv id) → leaseFind s liv id = some m →
    exec (.closeLease who) s = .next (rapAnswer (brdResult 6 0 (leaseEnd m 6 s)) who.val .ok [])) ∧
  (∀ (m : Fin 8) (l : LeaseSt) (s : State), leaseAt s m.val = some l → leaseState s m.val = 2 → l.lease.toT ≤ checkTime s →
    exec (.leaseExpiry m) s = .next (leaseEnd m.val 3 s)) ∧
  (∀ (m : Fin 8) (s : State), s.brd.sess.any (fun x => x.2.lease == some m.val) = true →
    exec (.leaseFrom m) s = .next (leaseActive m.val s))

/-- For LANE_SLICE, LANE_SLICE_RESULT, NAV_CORE_SLICE, ACQ_TILE_SLICE, TRK_BANK_SLICE, SRAM_ROW_TEST, DRAM_PAGE_TEST, CUR_ADC_REFERENCE, AIN_RESAMPLE,
RETEST, FARRIER_PAUSE and FARRIER_RESUME: under the conditions under which each happens, exec answers the next state its rule describes: a lane's
slice begins at a boundary with the spare in its place; a unit passes when either of two tries passes and every failed try leaves a record; a
current converter is within limits from code 2,040 to 2,056; RETEST of a unit that is not retired has result 4. (R416, R419, R420, R423, R426,
R427, R429, R430.) -/
def Obligations.FarrierCommandsComplete : Prop :=
  (∀ (lp : Bool) (s : State), s.tb % cycleTicks = 0 → servesScope s (b2n lp) 0 = false → farDue s (b2n lp) 0 secTicks = true →
    sliceMay s (b2n lp) true = true →
    exec (.laneSlice lp) s = .next (
      let t := setSpares (b2n lp) ((sparesOf s (b2n lp)).drop 1) (farStamp (b2n lp) 0 s)
      showRoles (b2n lp) { t with far := { t.far with slices := t.far.slices ++ [⟨b2n lp, laneDue s (b2n lp), s.tb, 0⟩] } })) ∧
  -- LANE_SLICE_RESULT passed, and its first failure
  (∀ (lp : Bool) (g : Word) (w : Test2) (s : State) (x : Slice), sliceOf s (b2n lp) = some x → x.from_ + cycleTicks ≤ s.tb →
    s.pwm.halted = false →
    exec (.laneSliceResult lp true g w) s = .next (rotate (b2n lp) x.unit (newSpare (b2n lp) x.unit (sliceEnd (b2n lp) w s)))) ∧
  (∀ (lp : Bool) (g : Word) (w : Test2) (s : State) (x : Slice), sliceOf s (b2n lp) = some x → x.from_ + cycleTicks ≤ s.tb →
    s.pwm.halted = false → x.fails = 0 →
    exec (.laneSliceResult lp false g w) s = .next (
      let t := testFailed (b2n lp) x.unit 1 g.toNat s
      { t with far := { t.far with slices := t.far.slices.map (fun y => if y.kind = b2n lp then { y with from_ := s.tb, fails := 1 } else y) } })) ∧
  -- units that pass at the first try
  (∀ (c : Fin 8) (t : Test2) (s : State), sliceMay s 2 false = true → domOn s 2 = true → 8 ≤ fget s (R.FAR_CAP 2) F.FAR_CAP_IN_SERVICE →
    farDue s 2 c.val (10 * secTicks) = true → t.ok = true → exec (.navCoreSlice c t) s = .next (farStamp 2 c.val s)) ∧
  (∀ (c : Fin 8) (t : Test2) (s : State), sliceMay s 2 false = true → domOn s 2 = true → 8 ≤ fget s (R.FAR_CAP 2) F.FAR_CAP_IN_SERVICE →
    farDue s 2 c.val (10 * secTicks) = true → t.ok = false → t.ok2 = false →
    exec (.navCoreSlice c t) s = .next (unitRetire 2 c.val (testFailed 2 c.val 1 t.sig2.toNat
      (testFailed 2 c.val 1 t.sig.toNat (farStamp 2 c.val s))))) ∧
  (∀ (c : Fin 18) (t : Test2) (s : State), sliceMay s 7 true = true → isG s = true → domOn s 3 = true → isRetired s 7 c.val = false →
    c.val ∉ sparesOf s 7 → farDue s 7 0 (10 * secTicks) = true → t.ok = true →
    exec (.acqTileSlice c t) s = .next (newSpare 7 c.val (setSpares 7 ((sparesOf s 7).drop 1) (farStamp 7 0 s)))) ∧
  (∀ (b : Fin 12) (t : Test2) (s : State), sliceMay s 8 true = true → isG s = true → domOn s 4 = true → b.val ∉ s.gns.outBanks →
    farDue s 8 0 (60 * secTicks) = true → t.ok = true →
    exec (.trkBankSlice b t) s = .next (newSpare 8 (bankUnit s b.val) (bankSwap b.val (farStamp 8 0 s)))) ∧
  -- memory rows that fail both tries
  (∀ (m : Fin 48) (r : Fin 512) (t : Test2) (s : State), sliceMay s 9 false = true → servesScope s 9 m.val = false →
    rowWindow s m.val = true → farDue s 9 m.val (msTicks 1) = true → t.ok = false → t.ok2 = false →
    exec (.sramRowTest m r t) s = .next (sramRowBad m.val r.val (testFailed 9 m.val 1 t.sig2.toNat
      (testFailed 9 m.val 1 t.sig.toNat (farStamp 9 m.val s))))) ∧
  (∀ (p b r : Nat) (t : Test2) (s : State), sliceMay s 10 false = true → domOn s 8 = true → p < 524288 → p ∉ s.far.pages →
    farDue s 10 0 (usTicks 400) = true → t.ok = false → t.ok2 = false →
    exec (.dramPageTest p b r t) s = .next (dramRowBad b r p (testFailed 10 0 1 t.sig2.toNat
      (testFailed 10 0 1 t.sig.toNat (farStamp 10 0 s))))) ∧
  -- CUR_ADC_REFERENCE within limits, and a first one outside
  (∀ (c : Fin 12) (v : BitVec 12) (s : State), domOn s 10 = true → s.tb % 50000 = 3125 → c.val ∉ s.far.adcFail → servesScope s 12 c.val = false →
    2040 ≤ v.toNat → v.toNat ≤ 2056 →
    exec (.curAdcReference c v) s = .next { s with far := { s.far with adcBad := smSet zero c.val 0 s.far.adcBad } }) ∧
  (∀ (c : Fin 12) (v : BitVec 12) (s : State), domOn s 10 = true → s.tb % 50000 = 3125 → c.val ∉ s.far.adcFail → servesScope s 12 c.val = false →
    v.toNat < 2040 → smGet zero s.far.adcBad c.val = 0 →
    exec (.curAdcReference c v) s = .next (testFailed 12 c.val 1 v.toNat
      { s with far := { s.far with adcBad := smSet zero c.val 1 s.far.adcBad } })) ∧
  -- AIN_RESAMPLE within 131 codes of an input that has not failed
  (∀ (n : Fin 16) (v : BitVec 16) (s : State), domOn s 10 = true → fbit s R.FAR_STATUS F.FAR_STATUS_SLICES_RUN = true → s.far.ainFail = true →
    s.far.ainNext = n.val → servesScope s 13 0 = false → farDue s 13 0 (cycleTicks - s.tb % cycleTicks) = true →
    smGet zero s.far.ainBad n.val = 0 → v.toNat ≤ fget s (R.FBI_AIN n.val) F.FBI_AIN_CODE + 131 →
    fget s (R.FBI_AIN n.val) F.FBI_AIN_CODE ≤ v.toNat + 131 →
    exec (.ainResample n v) s = .next (
      let t := farStamp 13 0 s
      { t with far := { t.far with ainBad := smSet zero n.val 0 s.far.ainBad
                                   ainSweep := if n.val = 0 then [] else s.far.ainSweep, ainNext := (n.val + 1) % 16 } })) ∧
  -- RETEST, PAUSE, RESUME
  (∀ (who : Fin 36) (k : Fin 16) (i : Fin 512) (t : Test2) (s : State), rapMay s who.val .farrier 1 = true → isRetired s k.val i.val = false →
    exec (.retest who k i t) s = .next (rapAnswer (farResult 4 0 s) who.val .ok [])) ∧
  (∀ (who : Fin 36) (k : Fin 16) (i : Fin 512) (t : Test2) (s : State), rapMay s who.val .farrier 1 = true → jobRun s = false →
    isRetired s k.val i.val = true → s.far.waiting = none → sliceOf s k.val = none →
    exec (.retest who k i t) s = .next (rapAnswer (retest k.val i.val t s) who.val .ok [])) ∧
  (∀ (who : Fin 36) (s : State), rapMay s who.val .farrier 1 = true →
    exec (.farrierPause who) s = .next (rapAnswer (fsetb s R.FAR_STATUS F.FAR_STATUS_SLICES_RUN false) who.val .ok [])) ∧
  (∀ (who : Fin 36) (s : State), rapMay s who.val .farrier 1 = true →
    exec (.farrierResume who) s = .next (rapAnswer (fsetb s R.FAR_STATUS F.FAR_STATUS_SLICES_RUN true) who.val .ok []))

/-- For RECORD_WRITE, DROPPED_RECORD, TB_MARK, OPT_SAVE, FREEZE, UNFREEZE, FREEZE_TIMEOUT, STB_CLEAR, STB_EXPORT, COLLECT, COLLECT_ANSWER,
COLLECT_TIMEOUT and STB_CHAL_READ: under the conditions under which each happens, exec answers the next state its rule describes: while frozen
only severity-3 records are written (to NOR); a second in which drops occurred ends with one DROPPED record and the counts of the second at 0;
FREEZE during a freeze or within 10 s of its end is BUSY (6); a freeze ends after 10 s; a member that has not answered is recorded as missing.
(R433, R435, R436, R437, R439, R440, R442.) -/
def Obligations.StudBookCommandsComplete : Prop :=
  (∀ s : State, domOn s 9 = true → s.stb.frozenAt.isSome = true →
    exec .recordWrite s = .next { s with stb := s.stb.raiseQ.foldl (fun b r => stbNor r b) s.stb }) ∧
  (∀ s : State, domOn s 9 = true → s.stb.frozenAt = none → level s = 0 →
    exec .recordWrite s = .next { s with stb := stbLogAll { s.stb with raiseQ := [] } s.stb.raiseQ }) ∧
  (∀ (a b c d : Nat) (s : State), s.stb.dropSec = [a, b, c, d] → 0 < a + b + c + d → s.stb.dropAt + 1000 ≤ optMs s →
    exec .droppedRecord s = .next (
      raise { s with stb := { s.stb with dropSec := [0, 0, 0, 0], dropRange := (0, 0), dropAt := optMs s } } Ev.DROPPED
        [((min a 65535 : Nat) : Int), ((min b 65535 : Nat) : Int), ((min c 65535 : Nat) : Int), ((min d 65535 : Nat) : Int),
          (s.stb.dropRange.1 : Int), (s.stb.dropRange.2 : Int)])) ∧
  (∀ s : State, s.stb.markAt + 60000 ≤ optMs s →
    exec .tbMark s = .next (raise { s with stb := { s.stb with markAt := optMs s } } Ev.TB_MARK [(s.tb : Int), ttOfs s, (fget s R.POS_TT_STATUS F.POS_TT_STATUS_TT_STATE : Int),
    (fget s R.POS_LEAP F.POS_LEAP_GPS_UTC : Int)])) ∧
  (∀ s : State, s.stb.optSaved + 10000 ≤ optMs s → exec .optSave s = .next { s with stb := { s.stb with optSaved := optMs s } }) ∧
  -- FREEZE accepted, and BUSY
  (∀ (who : Fin 36) (s : State), rapMay s who.val .farrier 9 = true → s.stb.frozenAt = none → s.stb.freezeEnd = none →
    exec (.freeze who) s = .next (rapAnswer (stbResult (fsetb { s with stb := { s.stb with
      frozenAt := some s.tb, frozenBy := who.val, holdLost := 0 } } R.STB_STATUS F.STB_STATUS_FROZEN true) 1 0) who.val .ok [])) ∧
  (∀ (who : Fin 36) (s : State), rapMay s who.val .farrier 9 = true → s.stb.frozenAt.isSome = true →
    exec (.freeze who) s = .next (rapAnswer (stbResult s 1 6) who.val .ok [])) ∧
  (∀ (who : Fin 36) (t : Nat) (s : State), rapMay s who.val .farrier 9 = true → s.stb.frozenAt = none → s.stb.freezeEnd = some t →
    s.tb < t + 10 * secTicks →
    exec (.freeze who) s = .next (rapAnswer (stbResult s 1 6) who.val .ok [])) ∧
  (∀ (who : Fin 36) (s : State), rapMay s who.val .farrier 9 = true →
    exec (.unfreeze who) s = .next (rapAnswer (stbResult (freezeStop s) 2 0) who.val .ok [])) ∧
  (∀ (t : Nat) (s : State), s.stb.frozenAt = some t → t + 10 * secTicks ≤ s.tb →
    exec .freezeTimeout s = .next (raise (fsetb { s with stb := stbLogAll { s.stb with
      frozenAt := none, freezeEnd := some s.tb, raiseQ := [], holdQ := [] } (s.stb.raiseQ ++ s.stb.holdQ) } R.STB_STATUS F.STB_STATUS_FROZEN false) Ev.FREEZE [((s.tb : Int) - t) / 200000, (s.stb.holdQ.length : Int),
      ((min s.stb.holdLost 65535 : Nat) : Int)])) ∧
  -- STB_CLEAR with a permit that is refused, and one that holds
  (∀ (who : Fin 36) (m : Nat) (p : ClearPermit) (r : Role) (s : State), rapPath s = true → sessRole s who.val = some r → domOn s 9 = true →
    clearResult s who.val (m % 16) p ≠ 0 →
    exec (.stbClear who m p) s = .next (rapAnswer (stbResult (freeNext { s with stb := { s.stb with chal := some (freshChal s) } }) 3
      (clearResult s who.val (m % 16) p)) who.val .ok [])) ∧
  (∀ (who : Fin 36) (m : Nat) (p : ClearPermit) (r : Role) (s : State), rapPath s = true → sessRole s who.val = some r → domOn s 9 = true →
    clearResult s who.val (m % 16) p = 0 →
    exec (.stbClear who m p) s = .next (rapAnswer (stbClear s who.val (m % 16) p) who.val .ok [])) ∧
  (∀ (who : Fin 36) (m : Nat) (s : State), rapMay s who.val .stbRead 9 = true →
    exec (.stbExport who m) s = .next (rapAnswer (stbResult { s with stb := { s.stb with
      exported := some (exportOf s (m % 16) s.stb.log) } } 4 0) who.val .ok [])) ∧
  -- COLLECT on a module that does not lead, during a collection, and on a leader alone
  (∀ (who : Fin 36) (m : Nat) (s : State), rapMay s who.val .stbRead 9 = true → isLeader s = false →
    exec (.collect who m) s = .next (rapAnswer (stbResult s 5 7) who.val .ok [])) ∧
  (∀ (who : Fin 36) (m : Nat) (s : State), rapMay s who.val .stbRead 9 = true → isLeader s = true → s.stb.collect = [] → otherMembers s = [] →
    exec (.collect who m) s = .next (
      let own := recsFit (fileBytes - 128) (exportSel (m % 16) (s.stb.log.filter (fun r => decide (collectedTo s s.pwr.serial < r.seq))))
      let e := exportEnds own
      rapAnswer (stbResult (fsetb { s with stb := joinExport s.pwr.serial e.1 e.2 (exportSize own) { s.stb with
        collect := [], missing := [], joined := [], collectAt := s.tb } } R.STB_STATUS F.STB_STATUS_COLLECTING false) 5 0) who.val .ok [])) ∧
  (∀ (m : Fin 64) (ser a b n : Nat) (s : State), s.stb.collect = [m.val] → joinedBytes s.stb + n ≤ fileBytes →
    exec (.collectAnswer m ser a b n) s = .next (
      let t := fsetb { s with stb := { s.stb with collect := [] } } R.STB_STATUS F.STB_STATUS_COLLECTING false
      { t with stb := { s.stb with collect := [], joined := s.stb.joined ++ [(ser, a, b, n)]
                                   collected := smSet zero ser (max b (smGet zero s.stb.collected ser)) s.stb.collected } })) ∧
  (∀ (m : Fin 64) (s : State), s.stb.collect = [m.val] → s.stb.collectAt + 10 * secTicks ≤ s.tb →
    exec (.collectTimeout m) s = .next (
      let t := fsetb { s with stb := { s.stb with collect := [] } } R.STB_STATUS F.STB_STATUS_COLLECTING false
      raise { t with stb := { s.stb with collect := [], missing := s.stb.missing ++ [m.val] } } Ev.COLLECT_MISSING [(m.val : Int)])) ∧
  (∀ (who : Fin 36) (r : Role) (s : State), rapPath s = true → sessRole s who.val = some r → mayAct .stbRead r = true →
    domOn s 9 = true →
    exec (.stbChalRead who) s = .next (rapAnswer (rsetN (freeNext { s with stb := { s.stb with chal := some (freshChal s) } }) R.STB_CHAL
      (freshChal s)) who.val .ok [1, (freshChal s : Int)]))

/-- For FAULT_REPORT, FM_HEARTBEAT_LOSS, DOMAIN_BACK, DOMAIN_LOST and EMMC_LIFE_CHECK: under the conditions under which each happens, exec answers the
next state its rule describes: the inbox is admitted to the queue and one report is handled; in a driving module with a ready partner HEALTHY
clears and the reset waits; a domain not back in its time is DOMAIN_LOST; the eMMC's life codes are shown, and a rise of the wear class is a fault
of that class. (R447, R448, R449, R451, R453, R454, R459.) -/
def Obligations.FaultManagerCommandsComplete : Prop :=
  -- FAULT_REPORT with nothing to handle
  (∀ s : State, domOn s 1 = true → s.pwm.halted = false → nextReport (admitAll s).flt.queue = none →
    exec .faultReport s = .next (dm1Tell s.flt.active (fltShow (admitAll s)))) ∧
  -- of a report below class 4
  (∀ (s : State) (i : Nat) (r : Report), domOn s 1 = true → s.pwm.halted = false → nextReport (admitAll s).flt.queue = some i →
    (admitAll s).flt.queue[i]? = some r → r.cls < 4 →
    exec .faultReport s = .next (dm1Tell s.flt.active (fltShow (handle r { admitAll s with flt := { (admitAll s).flt with
      queue := (admitAll s).flt.queue.eraseIdx i } })))) ∧
  (∀ s : State, domOn s 1 = true → s.pwm.halted = false → yieldFirst s = false →
    exec .fmHeartbeatLoss s = .next (coreReset (faultCls s Ev.FM_LOST [] 5))) ∧
  (∀ s : State, domOn s 1 = true → s.pwm.halted = false → yieldFirst s = true → s.team.healthy = true →
    exec .fmHeartbeatLoss s = .next { s with team := { s.team with healthy := false } }) ∧
  -- DOMAIN_BACK of the core, and of a domain
  (∀ (f : FarRun) (s : State), mayRun s = true → domPow s 1 = false → s.flt.down.any (fun x => x.1 == 12) = true →
    exec (.domainBack 12 f) s = .next (fltShow (coreOn f (downEnd 12 s)))) ∧
  (∀ (k : Fin 14) (f : FarRun) (s : State), mayRun s = true → 2 ≤ k.val → k.val < 12 → domPow s k.val = false → s.img.active.isSome = true →
    s.flt.down.any (fun x => x.1 == 12 || x.1 == 13) = false →
    exec (.domainBack k f) s = .next (
      let t := domainOn k.val (downEnd k.val (farTests (domKind k.val) f (faultPast s Ev.DOMAIN_LOST [(k.val : Int)])))
      if domPow s 1 then fltShow t else t)) ∧
  -- DOMAIN_LOST of a domain that is not back in time
  (∀ (k : Fin 12) (x : Nat × Nat) (s : State), s.flt.down.find? (fun x => x.1 == k.val) = some x → x.2 + backTime k.val < s.tb →
    exec (.domainLost k) s = .next (levelLost (faultCls { s with flt := { s.flt with
      down := s.flt.down.filter (fun y => y.1 != k.val) } } Ev.DOMAIN_LOST [(k.val : Int)]
      (if k.val = 8 ∨ k.val = 9 then 3 else evClass Ev.DOMAIN_LOST)))) ∧
  -- EMMC_LIFE_CHECK without and with a rise of the wear class
  (∀ (a b : Fin 16) (e : Fin 4) (s : State), domOn s 1 = true → domOn s 9 = true → lifeDue s = true →
    wearClass a.val b.val e.val ≤
    wearClass (fget s R.FLT_EMMC F.FLT_EMMC_LIFE_A) (fget s R.FLT_EMMC F.FLT_EMMC_LIFE_B) (fget s R.FLT_EMMC F.FLT_EMMC_PRE_EOL) →
    exec (.emmcLifeCheck a b e) s = .next (
      let u := { s with flt := { s.flt with lifeAt := some s.stb.optTicks } }
      let t := fset (fset (fset u R.FLT_EMMC F.FLT_EMMC_LIFE_A a.val) R.FLT_EMMC F.FLT_EMMC_LIFE_B b.val) R.FLT_EMMC F.FLT_EMMC_PRE_EOL e.val
      { t with stb := { t.stb with wearStop := t.stb.wearStop || e.val == 3 } })) ∧
  (∀ (a b : Fin 16) (e : Fin 4) (s : State), domOn s 1 = true → domOn s 9 = true → lifeDue s = true →
    wearClass (fget s R.FLT_EMMC F.FLT_EMMC_LIFE_A) (fget s R.FLT_EMMC F.FLT_EMMC_LIFE_B) (fget s R.FLT_EMMC F.FLT_EMMC_PRE_EOL) <
      wearClass a.val b.val e.val →
    exec (.emmcLifeCheck a b e) s = .next (
      let u := { s with flt := { s.flt with lifeAt := some s.stb.optTicks } }
      let t := fset (fset (fset u R.FLT_EMMC F.FLT_EMMC_LIFE_A a.val) R.FLT_EMMC F.FLT_EMMC_LIFE_B b.val) R.FLT_EMMC F.FLT_EMMC_PRE_EOL e.val
      faultCls (fsetb { t with stb := { t.stb with wearStop := t.stb.wearStop || e.val == 3 } } R.FLT_EMMC F.FLT_EMMC_EMMC_WEAR true)
        Ev.EMMC_WEAR [(a.val : Int), (b.val : Int), (e.val : Int)] (wearClass a.val b.val e.val)))

/-- For RAP_READ, RAP_WRITE, READ_LO_LATCH, BLK_OPEN, BLK_DATA, BLK_CLOSE, RAP_RELAY_REQUEST, RAP_RELAY_RESPONSE and RELAY_TIMEOUT: a READ of one
register that the role may read and whose domain is on answers OK, 1 and the word; a READ of LO latches HI for the session; a WRITE of one
register that R478 allows leaves the word its access kinds give (RW bits the value, W1C bits cleared, every other bit as before) and answers OK
with 1; a request for another member is relayed; a ninth is BUSY; no response within 1 s is RELAY_TIMEOUT. (R478, R479, R480, R481, R482, R483,
R485.) -/
def Obligations.RapCommandsComplete : Prop :=
  -- RAP_READ of one register without an effect of its own
  (∀ (who : Fin 36) (tag : Fin 256) (a : Nat) (s : State) (q : Rq), rapPath s = true → rqOf s who.val = some q → spanOk a 1 = true → rqReads s q a = true →
    addrOn s a = true → readEffect a s = s → (regDesc a).isSome = true → isLo a = false → isHi a = false →
    exec (.rapRead who none tag a 0) s = .next (rapAnswer s who.val .ok [1, ((viewReg s a).toNat : Int)])) ∧
  -- a register the role may not read
  (∀ (who : Fin 36) (tag : Fin 256) (a : Nat) (n : Fin 64) (s : State) (q : Rq), rapPath s = true → rqOf s who.val = some q → spanOk a (n.val + 1) = true →
    rqReads s q a = false → exec (.rapRead who none tag a n) s = .next (rapAnswer s who.val .masked [0])) ∧
  -- READ_LO_LATCH
  (∀ (who : Fin 36) (a : Nat) (s : State) (q : Rq), rapPath s = true → rqOf s who.val = some q → spanOk a 1 = true → rqReads s q a = true →
    addrOn s a = true → readEffect a s = s → (regDesc a).isSome = true → isLo a = true →
    exec (.readLoLatch who a) s = .next (rapAnswer { s with rap := { s.rap with
      latch := smIns (latchKey who.val a) (viewReg s (a + 4)) s.rap.latch } } who.val .ok [1, ((viewReg s a).toNat : Int)])) ∧
  -- RAP_WRITE of one register, and one the role forbids
  (∀ (who : Fin 36) (tag : Fin 256) (a : Nat) (w : Word) (s : State) (q : Rq) (d : RegDesc), rapPath s = true → rqOf s who.val = some q → spanOk a 1 = true →
    writeCheck s q a w = none → regDesc a = some d →
    exec (.rapWrite who none tag a [w]) s = .next (rapAnswer (writeReg d a w s) who.val .ok [1])) ∧
  (∀ (a : Nat) (w : Word) (s : State) (d : RegDesc), readEffect a s = s → a ≠ R.STB_STATUS →
    ixOf (R.CTL_LOOP_SP 0) 64 64 a = none →
    writeReg d a w s = rset s a (written d (ownBits a) (rget s a) w)) ∧
  (∀ (who : Fin 36) (tag : Fin 256) (a : Nat) (w : Word) (s : State) (q : Rq), rapPath s = true → rqOf s who.val = some q → spanOk a 1 = true →
    rqMay s q (writeAct s a w) = false →
    exec (.rapWrite who none tag a [w]) s = .next (rapAnswer (writeDenied s q.role a) who.val .denied [0])) ∧
  -- no session; not a member; a ninth relay; a relay
  (∀ (who : Fin 36) (p : Option (Fin 64)) (tag : Fin 256) (a : Nat) (n : Fin 64) (s : State), rapPath s = true → rqOf s who.val = none →
    exec (.rapRead who p tag a n) s = .next (rapAnswer s who.val .noSession [])) ∧
  (∀ (who : Fin 36) (m : Fin 64) (tag : Fin 256) (a : Nat) (n : Fin 64) (s : State) (q : Rq), rapPath s = true → rqOf s who.val = some q → m.val ≠ midOf s →
    m.val ∉ s.team.members → exec (.rapRead who (some m) tag a n) s = .next (rapAnswer s who.val .noMember [])) ∧
  (∀ (who : Fin 36) (m : Fin 64) (tag : Fin 256) (a : Nat) (n : Fin 64) (s : State) (q : Rq), rapPath s = true → rqOf s who.val = some q → m.val ≠ midOf s →
    m.val ∈ s.team.members → 8 ≤ (s.rap.relays.filter (fun r => r.who == who.val)).length →
    exec (.rapRead who (some m) tag a n) s = .next (rapAnswer s who.val .busy [])) ∧
  (∀ (who : Fin 36) (m : Fin 64) (tag : Fin 256) (a : Nat) (n : Fin 64) (s : State) (q : Rq) (x : Sess), rapPath s = true →
    rqOf s who.val = some q → m.val ≠ midOf s → m.val ∈ s.team.members →
    (s.rap.relays.filter (fun r => r.who == who.val)).length < 8 → sessOf s who.val = some x → who.val < 4 →
    exec (.rapRead who (some m) tag a n) s = .next (
      let t := setSess who.val { x with lastAt := s.tb } { s with pwr := { s.pwr with stayFrom := s.tb } }
      send { t with rap := { t.rap with relays := t.rap.relays ++ [⟨who.val, tag.val, m.val, s.tb⟩] } } MsgKind.RELAY_REQUEST m.val
        [(who.val : Int), (tag.val : Int), (roleCode q.role : Int)])) ∧
  -- BLK_OPEN for writing of the command object
  (∀ (who : Fin 36) (tag : Fin 256) (p n : Nat) (s : State) (q : Rq), rapPath s = true → rqOf s who.val = some q → objMay s q 0x50 p = true → domOn s 1 = true →
    s.rap.handles = [] →
    exec (.blkOpen who none tag 0x50 true p n) s = .next (rapAnswer { s with rap := { s.rap with
      handles := [(0, ⟨0x50, who.val, true, p, n, []⟩)] } } who.val .ok [0, (n : Int)])) ∧
  -- BLK_DATA written through it, and BLK_CLOSE: the object is staged for the next command
  (∀ (who : Fin 36) (tag h : Fin 256) (b : Byte) (s : State) (q : Rq) (x : Handle), rapPath s = true → rqOf s who.val = some q → handleOf s q h.val = some x →
    x.write = true → 1 ≤ x.len → domOn s (objDom x.obj) = true →
    exec (.blkData who none tag h 0 0 [b]) s = .next (rapAnswer { s with rap := { s.rap with
      handles := smIns h.val { x with data := smSet zero 0 b.toNat x.data } s.rap.handles } } who.val .ok [1])) ∧
  (∀ (who : Fin 36) (tag h : Fin 256) (o : BrdObj) (s : State) (q : Rq) (x : Handle), rapPath s = true → rqOf s who.val = some q → handleOf s q h.val = some x →
    x.write = true → x.obj = 0x50 → domOn s 1 = true →
    exec (.blkClose who none tag h (.object o)) s = .next (rapAnswer { s with
      rap := { s.rap with handles := smDel h.val s.rap.handles }, brd := { s.brd with object := some o } } who.val .ok [])) ∧
  -- relays of other members, answered and timed out
  (∀ (m : Fin 64) (k : Fin 36) (tag : Fin 256) (r : Role) (l : Option (Fin 8)) (x : RapReq) (s : State), m.val ∈ otherMembers s →
    domOn s 1 = true → domOn s 6 = true →
    exec (.rapRelayRequest m k tag r l x) s =
      .next (rapHandle ⟨r, l.map (·.val), 64 + m.val, some (m.val, k.val, tag.val), isData x⟩ x s)) ∧
  (∀ (m : Fin 64) (who : Fin 36) (tag : Fin 256) (st : RapStatus) (l : List Int) (s : State) (r : Relay),
    relayOf s who.val tag.val = some r → r.mid = m.val →
    exec (.rapRelayResponse m who tag st l) s = .next (rapAnswer { s with rap := { s.rap with
      relays := removeFirst (fun r => r.who == who.val && r.tag == tag.val) s.rap.relays } } who.val st l)) ∧
  (∀ (who : Fin 36) (tag : Fin 256) (s : State) (r : Relay), relayOf s who.val tag.val = some r → r.at_ + secTicks ≤ s.tb →
    exec (.relayTimeout who tag) s = .next (rapAnswer { s with rap := { s.rap with
      relays := removeFirst (fun r => r.who == who.val && r.tag == tag.val) s.rap.relays } } who.val .relayTimeout []))

/-- For every state whose register file is in canonical form (addresses strictly rising, and no entry equal to the reset word of its register), a step
that answers a next state leaves it so. So two states with equal register contents are equal data, and a register that is not listed reads its
reset word. (R16, R17.) -/
def Obligations.StepKeepsRegisterFile : Prop :=
  ∀ s t : State, regsWf s = true → step s = .next t → regsWf t = true

/-- For every state and every step that answers a next state: the count of R46 for harness images and the OTP firmware count of R468 are at least what
they were. That the model's first start takes the shipped counts from its operand is the model's choice (log entry 16). (R46, R468.) -/
def Obligations.OtpCountsNeverFall : Prop :=
  ∀ s t : State, step s = .next t → s.img.otpSvn ≤ t.img.otpSvn ∧ s.pwr.otpFwSvn ≤ t.pwr.otpFwSvn

/-- For every command c and state s: where exec answers a next state t, the queue of t is that of s, the messages sent so far are a prefix of those of
t, and the count of free values drawn is at least what it was. A tick keeps the same. (R14.) -/
def Obligations.CommandsKeepQueueAndMessages : Prop :=
  (∀ (c : Instr) (s t : State), exec c s = .next t → t.pending = s.pending ∧ s.sent <+: t.sent ∧ s.freeCnt ≤ t.freeCnt) ∧
  (∀ s : State, (tick s).pending = s.pending ∧ s.sent <+: (tick s).sent ∧ s.freeCnt ≤ (tick s).freeCnt)

/-- For every command and every state: exec never refuses. It faults only with beyondRatings, only in POWER_UP and VLOG_OVERVOLTAGE, and only for VLOG
above 58.0 V, beyond which R494 states no behaviour. So a step of any state whose front command is neither of these answers a next state. (R494.) -/
def Obligations.OnlyRatingsEndARun : Prop :=
  (∀ (c : Instr) (s : State) (r : Refusal), exec c s ≠ .refused r) ∧
  (∀ (c : Instr) (s : State) (f : Fault), exec c s = .fault f → f = .beyondRatings ∧
    ((∃ b : Boot, c = .powerUp b ∧ 580 < b.vlog.toNat) ∨ (∃ v : BitVec 10, c = .vlogOvervoltage v ∧ 580 < v.toNat))) ∧
  (∀ s : State, (∀ b : Boot, s.pending.head? = some (.powerUp b) → b.vlog.toNat ≤ 580) →
    (∀ v : BitVec 10, s.pending.head? = some (.vlogOvervoltage v) → v.toNat ≤ 580) → ∃ t : State, step s = .next t)

/-- For a READ or WRITE of one register by an open session over a path that is up. READ: a class the role may not read is MASKED; else a domain that
is off is DOMAIN_OFF, and its word is read as 0; else an unlisted offset answers OK with the word 0. WRITE: a role that may not write is DENIED;
else a domain that is off is DOMAIN_OFF; else an unlisted offset is NO_REG; else a register of RO and RWI fields alone (every fault-catalogue word
among them) is READ_ONLY and nothing changes; else a register with a single writer that the session is not is NOT_OWNER; else the writable fields
change, every other bit stays, and the answer is OK. (R478.) -/
def Obligations.RegistersAreCheckedInOrder : Prop :=
  (∀ (who : Fin 36) (tag : Fin 256) (a : Nat) (s : State) (q : Rq), rapPath s = true → rqOf s who.val = some q → spanOk a 1 = true →
    (rqReads s q a = false → exec (.rapRead who none tag a 0) s = .next (rapAnswer s who.val .masked [0])) ∧
    (rqReads s q a = true → addrOn s a = false → exec (.rapRead who none tag a 0) s = .next (rapAnswer s who.val .domainOff [0, 0])) ∧
    (rqReads s q a = true → addrOn s a = true → regDesc a = none → inCat a = false →
      exec (.rapRead who none tag a 0) s = .next (rapAnswer s who.val .ok [1, 0]))) ∧
  (∀ (who : Fin 36) (tag : Fin 256) (a : Nat) (w : Word) (s : State) (q : Rq), rapPath s = true → rqOf s who.val = some q → spanOk a 1 = true →
    (rqMay s q (writeAct s a w) = false →
      exec (.rapWrite who none tag a [w]) s = .next (rapAnswer (writeDenied s q.role a) who.val .denied [0])) ∧
    (rqMay s q (writeAct s a w) = true →
      (addrOn s a = false → exec (.rapWrite who none tag a [w]) s = .next (rapAnswer s who.val .domainOff [0])) ∧
      (addrOn s a = true →
        (regDesc a = none → inCat a = false → exec (.rapWrite who none tag a [w]) s = .next (rapAnswer s who.val .noReg [0])) ∧
        (regDesc a = none → inCat a = true → exec (.rapWrite who none tag a [w]) s = .next (rapAnswer s who.val .readOnly [0])) ∧
        (∀ d : RegDesc, regDesc a = some d →
          (d.rw = 0 → d.rwa = 0 → d.w1c = 0 → d.wo = 0 →
            exec (.rapWrite who none tag a [w]) s = .next (rapAnswer s who.val .readOnly [0])) ∧
          (¬(d.rw = 0 ∧ d.rwa = 0 ∧ d.w1c = 0 ∧ d.wo = 0) →
            (isWriter s a = false → exec (.rapWrite who none tag a [w]) s = .next (rapAnswer s who.val .notOwner [0])) ∧
            (isWriter s a = true → exec (.rapWrite who none tag a [w]) s = .next (rapAnswer (writeReg d a w s) who.val .ok [1]))))))) ∧
  -- what a write leaves of a word: bits neither RW, RWA nor W1C stay; an RW bit takes the value; a W1C bit written 1 clears, and written 0 stays
  (∀ (d : RegDesc) (own : Nat) (old w : Word) (i : Nat), i < 32 →
    (d.rw.testBit i = false → d.rwa.testBit i = false → d.w1c.testBit i = false → (written d own old w).getLsbD i = old.getLsbD i) ∧
    (d.rw.testBit i = true → d.w1c.testBit i = false → own.testBit i = false → (written d own old w).getLsbD i = w.getLsbD i) ∧
    (d.rw.testBit i = false → d.rwa.testBit i = false → d.w1c.testBit i = true →
      (written d own old w).getLsbD i = (old.getLsbD i && !w.getLsbD i)))

/-- For every counting channel whose line-count check is in use (LINES not 0): with |IDX_ACC| beyond LINES + LINE_TOL and no INDEX_MISSING since the
last index, the channel sets INDEX_MISSING and raises it; having raised it, or within the bound, it does nothing more; an index clears the
accumulator and lets it be raised again; counting does not. (R90.) -/
def Obligations.IndexMissingOnce : Prop :=
  (∀ (n : Nat) (s : State), fget s (R.FBI_IDX n) F.FBI_IDX_LINES ≠ 0 → (chSt s n).missing = false →
    fget s (R.FBI_IDX n) F.FBI_IDX_LINES + fget s (R.FBI_IDX n) F.FBI_IDX_LINE_TOL < (chSt s n).idxAcc.natAbs →
    checkMissing n s = raise (fsetb (setCh s n { chSt s n with missing := true }) (R.FBI_STAT n) F.FBI_STAT_INDEX_MISSING true)
      Ev.INDEX_MISSING [n] ∧ (chSt (checkMissing n s) n).missing = true) ∧
  (∀ (n : Nat) (s : State), (chSt s n).missing = true → checkMissing n s = s) ∧
  (∀ (n : Nat) (s : State),
    (chSt s n).idxAcc.natAbs ≤ fget s (R.FBI_IDX n) F.FBI_IDX_LINES + fget s (R.FBI_IDX n) F.FBI_IDX_LINE_TOL → checkMissing n s = s) ∧
  (∀ (n stamp : Nat) (s : State), (chSt (applyIndex n stamp s) n).missing = false ∧ (chSt (applyIndex n stamp s) n).idxAcc = 0) ∧
  (∀ (n : Nat) (d : Int) (stamp : Nat) (s : State), (chSt (applyCount n d stamp s) n).missing = (chSt s n).missing ∧
    (chSt (applyCount n d stamp s) n).idxAcc = (chSt s n).idxAcc + d)

/-- The write of VAL_HI commits the 48 bits of VAL_LO and VAL_HI and arms the unit. On a count of its source, a unit that is armed and whose VAL is
the new count, counted in its compare direction (up for STEP 0 or more, down below), takes a hit: HITS rises, VAL becomes VAL + STEP modulo 2^48
and then modulo MOD where MOD is not 0, a PULSE pin gets its pulse from 2 ticks ahead on (a pulse that still runs ends where the new one begins),
a TOGGLE pin turns over, CMP_HIT is raised with unit, HITS and stamp, and with STEP 0 the unit disarms. A count in the tick of a commit meets VAL
and ARMED as they were before it (R103), and the values committed stay. Any other count leaves the unit as it was. The pulses' overlap and the hit
of a commit's tick are readings of the model (DEDUCED, log entry 30). (R94, R95, R96, R103.) -/
def Obligations.CompareUnitHits : Prop :=
  (∀ (who : Fin 36) (k : Fin 4) (hi : Word) (s : State), rapMay s who.val .other 11 = true →
    exec (.cmpValHiWrite who k hi) s = .next (rapAnswer (cmpCommit k.val hi s) who.val .ok [])) ∧
  (∀ (k : Fin 4) (hi : Word) (s : State),
    (smGet cmpInit (cmpCommit k.val hi s).fbi.cmp k.val).val = (rget s (R.FBI_CMP_VAL_LO k.val)).toNat + hi.toNat % 2 ^ 16 * 2 ^ 32 ∧
    fbit (cmpCommit k.val hi s) (R.FBI_CMP_STAT k.val) F.FBI_CMP_STAT_ARMED = true) ∧
  -- no commit in this tick: no hit
  (∀ (k : Fin 4) (n : Nat) (cnt d : Int) (stamp : Nat) (s : State) (c : CmpSt), c = smGet cmpInit s.fbi.cmp k.val →
    (∀ p : Nat × Nat × Bool, c.pre = some p → p.1 ≠ s.tb) →
    ¬(fbit s (R.FBI_CMP_STAT k.val) F.FBI_CMP_STAT_ARMED = true ∧ fget s (R.FBI_CMP_CFG k.val) F.FBI_CMP_CFG_SRC = n ∧
      (0 ≤ sext 32 (rget s (R.FBI_CMP_STEP k.val)).toNat ↔ 0 < d) ∧ bitsOf 48 cnt = c.val) →
    cmpHit k.val n cnt d stamp s = s) ∧
  -- no commit in this tick: a hit
  (∀ (k : Fin 4) (n : Nat) (cnt d : Int) (stamp : Nat) (s : State) (step : Int) (v md : Nat) (c c' : CmpSt),
    step = sext 32 (rget s (R.FBI_CMP_STEP k.val)).toNat → md = (rget s (R.FBI_CMP_MOD k.val)).toNat →
    c = smGet cmpInit s.fbi.cmp k.val → (∀ p : Nat × Nat × Bool, c.pre = some p → p.1 ≠ s.tb) → v = bitsOf 48 ((c.val : Int) + step) →
    c' = smGet cmpInit (cmpHit k.val n cnt d stamp s).fbi.cmp k.val →
    fbit s (R.FBI_CMP_STAT k.val) F.FBI_CMP_STAT_ARMED = true → fget s (R.FBI_CMP_CFG k.val) F.FBI_CMP_CFG_SRC = n →
    (0 ≤ step ↔ 0 < d) → bitsOf 48 cnt = c.val →
    c'.val = (if md = 0 then v else v % md) ∧
    fget (cmpHit k.val n cnt d stamp s) (R.FBI_CMP_HITS k.val) F.FBI_CMP_HITS_HITS =
      (fget s (R.FBI_CMP_HITS k.val) F.FBI_CMP_HITS_HITS + 1) % 2 ^ 32 ∧
    c'.toggle = (if fget s (R.FBI_CMP_CFG k.val) F.FBI_CMP_CFG_PIN_MODE = 2 then !c.toggle else c.toggle) ∧
    c'.pulse = (if fget s (R.FBI_CMP_CFG k.val) F.FBI_CMP_CFG_PIN_MODE = 1 then
      c.pulse.map (fun p => (p.1, min p.2 (s.tb + 2))) ++ [(s.tb + 2, s.tb + 2 + fget s (R.FBI_CMP_CFG k.val) F.FBI_CMP_CFG_PW)] else c.pulse) ∧
    fbit (cmpHit k.val n cnt d stamp s) (R.FBI_CMP_STAT k.val) F.FBI_CMP_STAT_ARMED = decide (step ≠ 0) ∧
    (∃ u : State, cmpHit k.val n cnt d stamp s =
      raise u Ev.CMP_HIT [(k.val : Int), ((fget u (R.FBI_CMP_HITS k.val) F.FBI_CMP_HITS_HITS : Nat) : Int), (stamp : Int)] ∧
      u.stb = s.stb)) ∧
  -- a commit in this tick, of a unit that was armed at v0 or not armed
  (∀ (k : Fin 4) (n : Nat) (cnt d : Int) (stamp : Nat) (s : State) (v0 : Nat) (a0 : Bool) (c : CmpSt), c = smGet cmpInit s.fbi.cmp k.val →
    c.pre = some (s.tb, v0, a0) →
    ((a0 = false ∨ bitsOf 48 cnt ≠ v0) → cmpHit k.val n cnt d stamp s = s) ∧
    (a0 = true → bitsOf 48 cnt = v0 → fget s (R.FBI_CMP_CFG k.val) F.FBI_CMP_CFG_SRC = n →
      (0 ≤ sext 32 (rget s (R.FBI_CMP_STEP k.val)).toNat ↔ 0 < d) →
      (smGet cmpInit (cmpHit k.val n cnt d stamp s).fbi.cmp k.val).val = c.val ∧
      fget (cmpHit k.val n cnt d stamp s) (R.FBI_CMP_HITS k.val) F.FBI_CMP_HITS_HITS =
        (fget s (R.FBI_CMP_HITS k.val) F.FBI_CMP_HITS_HITS + 1) % 2 ^ 32 ∧
      fbit (cmpHit k.val n cnt d stamp s) (R.FBI_CMP_STAT k.val) F.FBI_CMP_STAT_ARMED =
        fbit s (R.FBI_CMP_STAT k.val) F.FBI_CMP_STAT_ARMED))

/-- For each of 66 commands that a session gives (ACTIVATE_FW to COLLECT: firmware, key-off, image store, counters, debug halt, jobs, exclusions,
sections, modes, alley, shadows, forces, trips, watchdog, channels, half-bridges, loops, curbs, trace, injection, CAN, slots, pair hand-over,
ownership, leases, farrier and stud book), on every state and with every operand: with the path of RAP down nothing happens; a requester with no
open session is answered NO_SESSION; a session whose role (for a contractor, while its lease lasts) R390 does not permit is answered DENIED with a
WRITE_DENIED record of the role and the register; a permitted session whose register's domain is off is answered DOMAIN_OFF; and in each case
nothing else happens. Which role may give a BRD command, and that a session must be open, is checked before the command's own RESULT. That DEBUG
halt and resume name register 0 is the model's choice (log entry 45). (R25, R387, R388, R389, R390, R403, R478, R482.) -/
def Obligations.SessionsActOnlyInTheirRole : Prop :=
  (∀ (who : Fin 36) (s : State) (ch : Fin 16) (q : Fin 4) (w : Word) (z : Nat) (job : JobDef) (p : Poly), ∀ x ∈ ([
    (.activateFw who, .image, 0, R.PWR_FW_CTRL), (.fwCancel who, .image, 0, R.PWR_FW_CTRL), (.sleep who, .sleep, 0, R.PWR_CMD),
    (.stay who, .other, 0, R.PWR_CMD), (.imgCheck who, .image, 9, R.IMG_CTRL), (.imgActivate who, .image, 9, R.IMG_CTRL),
    (.imgAbort who, .image, 9, R.IMG_CTRL), (.restartActivate who, .image, 9, R.IMG_CTRL), (.imgRevert who, .image, 9, R.IMG_CTRL),
    (.fbiLoad who ch, .other, 11, R.FBI_CTRL ch.val), (.fbiArm who ch, .other, 11, R.FBI_CTRL ch.val),
    (.fbiClear who ch, .other, 11, R.FBI_CTRL ch.val), (.cmpValHiWrite who q w, .other, 11, R.FBI_CMP_VAL_HI q.val),
    (.debugHalt who, .debug, 0, 0), (.debugResume who, .debug, 0, 0), (.jobLoad (some who) job, .job, 8, R.COV_JOB_CTRL),
    (.jobStart (some who), .job, 8, R.COV_JOB_CTRL), (.jobSuspend (some who), .job, 8, R.COV_JOB_CTRL),
    (.jobResume (some who), .job, 8, R.COV_JOB_CTRL), (.jobClose (some who), .job, 8, R.COV_JOB_CTRL),
    (.jobDiscard (some who), .discard, 8, R.COV_JOB_CTRL), (.jobExport (some who), .discard, 8, R.COV_JOB_CTRL),
    (.addExcl (some who) z p, .addExcl, 8, R.COV_JOB_CTRL)] :
      List (Instr × Act × Nat × Nat)),
    (rapPath s = false → exec x.1 s = .next s) ∧
    (rapPath s = true → sessRole s who.val = none → exec x.1 s = .next (rapAnswer s who.val .noSession [])) ∧
    (∀ r : Role, rapPath s = true → sessRole s who.val = some r → sessMay s who.val x.2.1 r = false →
      exec x.1 s = .next (rapAnswer (writeDenied s r x.2.2.2) who.val .denied [])) ∧
    (∀ r : Role, rapPath s = true → sessRole s who.val = some r → sessMay s who.val x.2.1 r = true → domOn s x.2.2.1 = false →
      exec x.1 s = .next (rapAnswer s who.val .domainOff []))) ∧
  (∀ (who : Fin 36) (s : State) (ch : Fin 16) (q : Fin 4) (k : Fin 3) (o : Fin 96) (t : Fin 8) (l : Fin 64) (g : Fin 104) (w : Word) (b : Bool) (ph : Bool), ∀ x ∈ ([
    (.masterWrite who b, .operate, 1, R.STR_SECCTL), (.secswWrite who k w, .operate, 1, R.STR_SECSW k.val),
    (.stallWrite who o w, .operate, 1, R.STR_STALL o.val), (.modeReqWrite who b, .operate, 1, R.STR_MODE),
    (.alleySet who, .other, 1, R.STR_ALLEY_STAT), (.alleyOrient who b, .other, 1, R.STR_ALLEY_STAT),
    (.shadowWrite (.rap who) g ph w, .duty, 10, if ph then R.PWM_CH_PHASE g.val else R.PWM_CH_DUTY g.val),
    (.forceCommit who true, .force true, 10, R.PWM_FORCE_CTRL), (.forceClearAll who, .force true, 10, R.PWM_FORCE_CTRL),
    (.tripClear who t, .other, 0, R.PWM_TRIP_STAT t.val), (.wdSuspendWrite who b, .debug, 10, R.PWM_CTRL),
    (.channelClear who o, .other, 10, R.LSW_CH_CTRL o.val), (.hbClear who q, .other, 10, R.LSW_HB_STAT q.val),
    (.loopAuto who l, .other, 1, R.CTL_LOOP_CMD l.val), (.loopManual who l, .other, 1, R.CTL_LOOP_CMD l.val),
    (.curbAuto who ch, .other, 1, R.CTL_CURB_CMD ch.val), (.curbManual who ch, .other, 1, R.CTL_CURB_CMD ch.val),
    (.traceArm who, .test, 1, R.CTL_TRC_CTRL), (.traceStop who, .test, 1, R.CTL_TRC_CTRL), (.traceForce who, .test, 1, R.CTL_TRC_CTRL),
    (.injStop who, .test, 1, R.CTL_INJ_CTRL)] :
      List (Instr × Act × Nat × Nat)),
    (rapPath s = false → exec x.1 s = .next s) ∧
    (rapPath s = true → sessRole s who.val = none → exec x.1 s = .next (rapAnswer s who.val .noSession [])) ∧
    (∀ r : Role, rapPath s = true → sessRole s who.val = some r → sessMay s who.val x.2.1 r = false →
      exec x.1 s = .next (rapAnswer (writeDenied s r x.2.2.2) who.val .denied [])) ∧
    (∀ r : Role, rapPath s = true → sessRole s who.val = some r → sessMay s who.val x.2.1 r = true → domOn s x.2.2.1 = false →
      exec x.1 s = .next (rapAnswer s who.val .domainOff []))) ∧
  (∀ (who : Fin 36) (s : State) (q : Fin 4) (m : Fin 4) (sl : Fin 128) (z : Nat) (kd : Fin 16) (ix : Fin 512) (tst : Test2), ∀ x ∈ ([
    (.canRecover who q, .other, 7, R.CAN_CTRL q.val), (.canModeWrite who q m, .can, 7, R.CAN_CTRL q.val),
    (.slotArm (some who) q sl, .can, 7, R.CAN_SLOT_CMD q.val sl.val), (.slotAbort (some who) q sl, .can, 7, R.CAN_SLOT_CMD q.val sl.val),
    (.handover who, .handover, 6, R.TLK_PAIR_CTRL), (.enrollOwner who, .brd, 1, R.BRD_CMD), (.bindLivery who, .brd, 1, R.BRD_CMD),
    (.selectLivery who, .brd, 1, R.BRD_CMD), (.installLease who, .brd, 1, R.BRD_CMD), (.revokeLease who, .brd, 1, R.BRD_CMD),
    (.closeLease who, .brd, 1, R.BRD_CMD), (.transfer who, .brd, 1, R.BRD_CMD), (.reclaim who, .brd, 1, R.BRD_CMD),
    (.unlock who, .brd, 1, R.BRD_CMD), (.relock who, .brd, 1, R.BRD_CMD), (.retest who kd ix tst, .farrier, 1, R.FAR_CMD),
    (.farrierPause who, .farrier, 1, R.FAR_CMD), (.farrierResume who, .farrier, 1, R.FAR_CMD), (.freeze who, .farrier, 9, R.STB_CMD),
    (.unfreeze who, .farrier, 9, R.STB_CMD), (.stbExport who z, .stbRead, 9, R.STB_CMD), (.collect who z, .stbRead, 9, R.STB_CMD)] :
      List (Instr × Act × Nat × Nat)),
    (rapPath s = false → exec x.1 s = .next s) ∧
    (rapPath s = true → sessRole s who.val = none → exec x.1 s = .next (rapAnswer s who.val .noSession [])) ∧
    (∀ r : Role, rapPath s = true → sessRole s who.val = some r → sessMay s who.val x.2.1 r = false →
      exec x.1 s = .next (rapAnswer (writeDenied s r x.2.2.2) who.val .denied [])) ∧
    (∀ r : Role, rapPath s = true → sessRole s who.val = some r → sessMay s who.val x.2.1 r = true → domOn s x.2.2.1 = false →
      exec x.1 s = .next (rapAnswer s who.val .domainOff [])))

/-- For every role: jobs by OWNER, OPERATOR and CONTRACTOR; DISCARD and EXPORT by OWNER; exclusions by OWNER and OPERATOR; sections, stalls and
MODE_REQ by OWNER, OPERATOR and CONTRACTOR; forces by OEM and SERVICE, and with the value OFF only by OPERATOR; shadows, tests, CAN, images,
farrier and every other writable register by OEM and SERVICE; hand-over and key-off by OWNER, OEM and SERVICE; halt and WD_SUSPEND by DEBUG. A
contractor whose lease has ended may give none. (R390, R403.) -/
def Obligations.RolesOfActions : Prop :=
  (∀ r : Role, (mayAct .job r = true ↔ r ∈ [Role.owner, .operator, .contractor]) ∧ (mayAct .discard r = true ↔ r = .owner) ∧
    (mayAct .addExcl r = true ↔ r ∈ [Role.owner, .operator]) ∧ (mayAct .operate r = true ↔ r ∈ [Role.owner, .operator, .contractor]) ∧
    (mayAct (.force false) r = true ↔ r ∈ [Role.oem, .service]) ∧ (mayAct (.force true) r = true ↔ r ∈ [Role.oem, .service, .operator]) ∧
    (∀ a ∈ [Act.duty, .test, .can, .image, .farrier, .other], mayAct a r = true ↔ r ∈ [Role.oem, .service]) ∧
    (mayAct .handover r = true ↔ r ∈ [Role.owner, .oem, .service]) ∧ (mayAct .sleep r = true ↔ r ∈ [Role.owner, .oem, .service]) ∧
    (mayAct .rtcm r = true ↔ r ∈ [Role.vendor, .oem, .owner, .operator, .contractor, .service]) ∧ (mayAct .debug r = true ↔ r = .debug)) ∧
  (∀ (s : State) (who : Nat) (a : Act), leaseLive s who = false → sessMay s who a .contractor = false) ∧
  (∀ (s : State) (who : Nat) (a : Act) (r : Role), r ≠ .contractor → sessMay s who a r = mayAct a r)

/-- For every high-side channel n and every state. An open safety output whose cut map names it turns it off. Otherwise a channel whose switch is
stuck on stays on; else a channel protection turns it off; else with AO or L0 lost it is at its safe state; else a trip latch whose mask includes
its group; else halter mode decides a mapped channel; else, for a channel whose gate commands its output (powered, PD10 on, owned, nothing held),
an UNUSED output is off, a force OFF, ON or WAVE decides, and else the stride gate: off holds it off, on gives the waveform. The chain is a
function of the state alone, so no earlier value is replayed. (R31, R32, R33, R34, R66, R241, R243, R257, R269.) -/
def Obligations.PrecedenceChain : Prop :=
  (∀ (s : State) (n : Nat), cutOff s n = true → chain s n = (1, .off) ∧ actualOn s n = false) ∧
  (∀ (s : State) (n : Nat), cutOff s n = false →
    (fbit s (R.LSW_CH_STAT n) F.LSW_CH_STAT_STUCK_ON = true → chain s n = (0, .on) ∧ actualOn s n = true) ∧
    (fbit s (R.LSW_CH_STAT n) F.LSW_CH_STAT_STUCK_ON = false →
      (protOff s n = true → chain s n = (2, .off) ∧ actualOn s n = false) ∧
      (protOff s n = false → s.pwr.aoOk = false ∨ (l0Ok s = false ∧ s.pwr.asleep = false) →
        chain s n = (5, driveOf (safeOn s n)) ∧ actualOn s n = safeOn s n) ∧
      (protOff s n = false → s.pwr.aoOk = true → (l0Ok s = true ∨ s.pwr.asleep = true) →
        (tripOff s (groupOf s n) = true → chain s n = (3, .off) ∧ actualOn s n = false) ∧
        (tripOff s (groupOf s n) = false →
          (∀ i : Nat, halterActive s = true → halterIn s n = some i → chain s n = (4, driveOf (halterOn s n i)) ∧ actualOn s n = halterOn s n i) ∧
          (halterActive s = false ∨ halterIn s n = none → chain s n = (5, lowDrive s n)))))) ∧
  (∀ (s : State) (n : Nat), s.pwr.asleep = false → s.pwr.powered = true → domPow s 10 = true → s.pwm.pairBad.contains n = false →
    sidelined s = false → s.pwm.held = none → fbit s R.PWM_STATUS F.PWM_STATUS_OWNED = true → gateLive s = true →
    (roleOf s n = .unused → lowDrive s n = .off) ∧
    (roleOf s n ≠ .unused →
      (forceOf s n (groupOf s n) = 1 → lowDrive s n = .off) ∧ (forceOf s n (groupOf s n) = 2 → lowDrive s n = .on) ∧
      (forceOf s n (groupOf s n) = 3 → lowDrive s n = .wave) ∧
      (forceOf s n (groupOf s n) = 0 → (outEnt s n).isSome = true → gateOn s n = false → lowDrive s n = .off) ∧
      (forceOf s n (groupOf s n) = 0 → gateOn s n = true → lowDrive s n = .wave)))

/-- For every half-bridge, state and time in steps: not both gates are on, if the values a freeze holds do not name both; and a freeze of such a state
holds no such pair. So no force, waveform, trip, release or dead time turns both on. (R233, R234, R235.) -/
def Obligations.NeverBothGates : Prop :=
  (∀ (s : State) (m t : Nat), (∀ h : List Bool, s.pwm.held = some h → (h.getD (96 + 2 * m) false && h.getD (97 + 2 * m) false) = false) →
    hbGates s m t ≠ (true, true)) ∧
  (∀ (s : State) (m : Fin 4), (∀ h : List Bool, s.pwm.held = some h → (h.getD (96 + 2 * m.val) false && h.getD (97 + 2 * m.val) false) = false) →
    ∀ h : List Bool, (freeze s).pwm.held = some h → (h.getD (96 + 2 * m.val) false && h.getD (97 + 2 * m.val) false) = false)

/-- For every channel without supply compensation, with a carrier period of T units (T > 0) and a minimum pulse of at most T, and every time from one
period after its last transfer on: with h the rounded DUTY x T / 65536 (DUTY limited to 65,536) after the minimum-pulse policy, and s the rounded
PHASE x T / 65536 (less floor(h / 2) when centred), the waveform is on exactly while (t - s) modulo T < h. DUTY 0 gives no pulse, and DUTY 65,536
no edge. (R229, R230, R232.) -/
def Obligations.PulsesLieWhereStated : Prop :=
  (∀ (s : State) (n : Nat) (w : Wav) (t T h : Nat), T = perOf s n → 0 < T → fget s (R.PWM_CH_CFG n) F.PWM_CH_CFG_MINP ≤ T →
    (96 ≤ n ∨ fget s (R.LSW_CH_CFG1 n) F.LSW_CH_CFG1_COMP = 0) → w.tail = 0 → w.from_ + T ≤ t →
    h = (minPulse T (rnd (min w.duty 65536 * T) 65536) (fget s (R.PWM_CH_CFG n) F.PWM_CH_CFG_MINP) (stretchOf s n)).1 →
    waveAt s n w t = decide (((t : Int) - ((rnd (w.phase * T) 65536 : Nat) : Int) +
      (if fbit s (R.PWM_CH_CFG n) F.PWM_CH_CFG_ALIGN then ((h / 2 : Nat) : Int) else 0)) % (T : Int) < (h : Int))) ∧
  (∀ T P : Nat, 0 < T → ∀ st : Bool, (minPulse T (rnd (min 0 65536 * T) 65536) P st).1 = 0 ∨ T < P) ∧
  (∀ T P : Nat, 0 < T → ∀ (st : Bool) (d : Nat), 65536 ≤ d → (minPulse T (rnd (min d 65536 * T) 65536) P st).1 = T ∨ T < P)

/-- For every cell and state: merging a cell that lies outside the extent counts in COV_OUTSIDE; an excluded cell of an allocated tile counts in
COV_EXCL_HIT; either changes no cell. Any other cell's code rises by one up to 2, and every other cell keeps its code. (R183, R185.) -/
def Obligations.CommitOfACell : Prop :=
  (∀ (stamp : Nat) (c : Cell2) (s : State), inExtent s c = false → mergeCell stamp c s = fincWrap s R.COV_OUTSIDE F.COV_OUTSIDE_COUNT) ∧
  (∀ (stamp : Nat) (c : Cell2) (s : State), inExtent s c = true → excluded s c = true → tileAlloc s (tileOf c) = true →
    mergeCell stamp c s = fincWrap s R.COV_EXCL_HIT F.COV_EXCL_HIT_COUNT) ∧
  (∀ (stamp : Nat) (c : Cell2) (s : State), inExtent s c = true → excluded s c = false →
    smGet zero (mergeCell stamp c s).cov.code (cellKey c) =
      (if smGet zero s.cov.code (cellKey c) < 2 then smGet zero s.cov.code (cellKey c) + 1 else smGet zero s.cov.code (cellKey c)) ∧
    ∀ k : Nat, k ≠ cellKey c → smGet zero (mergeCell stamp c s).cov.code k = smGet zero s.cov.code k)

/-- For every output entry and state: without a pressure source or with one point, the first point's delays; at or below the first point, its delays,
and a clamp strictly below; at or above the last of strictly rising points, its delays; between two neighbouring points the on-delay and off-delay
of the straight line, rounded to the nearest 0.1 ms with halves up. An invalid source counts as P_REF. (R71, R72.) -/
def Obligations.DelaysByPressure : Prop :=
  (∀ (s : State) (o : OutEnt) (d : DelayPt) (ds : List DelayPt), o.delays = d :: ds → o.press.bind (pressOf s) = none ∨ ds = [] →
    outDelay s o = (d.on, d.off, false)) ∧
  (∀ (s : State) (o : OutEnt) (k : PressSrc) (d0 d1 : DelayPt) (ds : List DelayPt), o.delays = d0 :: d1 :: ds →
    o.press.bind (pressOf s) = some k → pressNow s k ≤ d0.p → outDelay s o = (d0.on, d0.off, decide (pressNow s k < d0.p))) ∧
  (∀ (s : State) (o : OutEnt) (k : PressSrc) (ds : List DelayPt) (l : DelayPt), o.delays = ds ++ [l] → ds ≠ [] →
    (o.delays.map (·.p)).Pairwise (· < ·) → o.press.bind (pressOf s) = some k → (l.p : Int) ≤ pressNow s k →
    outDelay s o = (l.on, l.off, decide ((l.p : Int) < pressNow s k))) ∧
  (∀ (s : State) (o : OutEnt) (k : PressSrc) (pre post : List DelayPt) (a b : DelayPt) (p den : Int), o.delays = pre ++ a :: b :: post →
    (o.delays.map (·.p)).Pairwise (· < ·) → o.press.bind (pressOf s) = some k → p = pressNow s k → den = (b.p : Int) - a.p →
    (a.p : Int) ≤ p → p < b.p →
    (2 * den * (outDelay s o).1 ≤ 2 * (a.on * den + (p - a.p) * ((b.on : Int) - a.on)) + den ∧
      2 * (a.on * den + (p - a.p) * ((b.on : Int) - a.on)) + den < 2 * den * ((outDelay s o).1 + 1)) ∧
    (2 * den * (outDelay s o).2.1 ≤ 2 * (a.off * den + (p - a.p) * ((b.off : Int) - a.off)) + den ∧
      2 * (a.off * den + (p - a.p) * ((b.off : Int) - a.off)) + den < 2 * den * ((outDelay s o).2.1 + 1))) ∧
  (∀ (s : State) (k : PressSrc), (pressSt s k.idx).ok = false → pressNow s k = k.pref)

/-- For every state, event and fields: raising changes nothing but the stud book; a fault adds one report to the fault manager's inbox besides. An
event of severity 2 or 3 always takes the next SEQ. SEQ never becomes 0, and stays below the reservation mark wherever it was below it, except for
the wrap of SEQ to 1. A queue that takes a record by R436 never grows beyond its capacity, and loses nothing while there is room; a full one drops
the record only when every record it holds is more severe. (R432, R436, R440.) -/
def Obligations.RecordsGetTheNextSeq : Prop :=
  (∀ (s : State) (e : Ev) (args : List Int), ∃ b : Stb, raise s e args = { s with stb := b }) ∧
  (∀ (s : State) (e : Ev) (args : List Int) (c : Nat), ∃ b : Stb,
    faultCls s e args c = { s with stb := b, flt := { s.flt with inbox := s.flt.inbox ++ [⟨e, args, c, true, s.tb⟩] } }) ∧
  (∀ (s : State) (e : Ev) (args : List Int), ∃ b : Stb,
    faultEnd s e args = { s with stb := b, flt := { s.flt with inbox := s.flt.inbox ++ [⟨e, args, evClass e, false, s.tb⟩] } }) ∧
  (∀ (s : State) (e : Ev) (args : List Int), 2 ≤ evSev false e → (raise s e args).stb.seq = if s.stb.seq + 1 < 2 ^ 32 then s.stb.seq + 1 else 1) ∧
  (∀ b : Stb, 0 < (stbSeq b).seq ∧ (stbSeq b).seq < 2 ^ 32 ∧ (b.seq < b.mark → (stbSeq b).seq < (stbSeq b).mark)) ∧
  (∀ (cap : Nat) (q : List Rec) (r : Rec) (b : Stb), q.length ≤ cap → (stbAdmit cap q r b).1.length ≤ cap) ∧
  (∀ (cap : Nat) (q : List Rec) (r : Rec) (b : Stb), q.length < cap → stbAdmit cap q r b = (q ++ [r], b)) ∧
  (∀ (cap : Nat) (q : List Rec) (r : Rec) (b : Stb), cap ≤ q.length → r.ev ≠ Ev.DROPPED → (∀ x ∈ q, r.sev < x.sev) →
    stbAdmit cap q r b = (q, stbDrop b r)) ∧
  (∀ (cap : Nat) (q1 q2 : List Rec) (x r : Rec) (b : Stb), cap ≤ (q1 ++ x :: q2).length → r.ev ≠ Ev.DROPPED → (∀ y ∈ q1, r.sev < y.sev) →
    x.sev ≤ r.sev → stbAdmit cap (q1 ++ x :: q2) r b = (q1 ++ q2 ++ [r], stbRemove b x))

/-- For every state, requester, status and data: after an answer every register, TB, the images, the outputs, the maps, the leases and the stud book
are as before; one request is counted, and one refusal where the status is not OK; the messages sent before are kept and at most one is added; an
answer over TLS leaves the CAN controllers alone. A denied write adds its WRITE_DENIED record to the stud book and nothing else. A READ changes no
register outside the output, bridle and stud book blocks. (R391, R393, R473, R482, R486.) -/
def Obligations.AnswersTouchNoRegister : Prop :=
  (∀ (s : State) (who : Nat) (st : RapStatus) (data : List Int), ∃ (se : List (Nat × Sess)) (c : Can) (m : List Msg) (r : Rap),
    rapAnswer s who st data =
      { s with pwr := { s.pwr with stayFrom := s.tb }, brd := { s.brd with sess := se }, can := c, sent := s.sent ++ m, rap := r } ∧
    m.length ≤ 1 ∧ (who < 4 → c = s.can) ∧ r.requests = (s.rap.requests + 1) % 65536 ∧
    r.refused = (if st = .ok then s.rap.refused else satInc 65535 s.rap.refused) ∧ r.handles = s.rap.handles ∧ r.latch = s.rap.latch) ∧
  (∀ (s : State) (r : Role) (reg : Nat), ∃ b : Stb, writeDenied s r reg = { s with stb := b }) ∧
  (∀ (who : Fin 36) (tag : Fin 256) (a : Nat) (n : Fin 64) (s t : State), exec (.rapRead who none tag a n) s = .next t →
    ∀ x : Nat, x / 0x10000 ≠ 0x15 → x / 0x10000 ≠ 0x16 → x / 0x10000 ≠ 0x1B → x / 0x10000 ≠ 0x1D → rget t x = rget s x)

/-- For every state, register and two different requesters: after one reads a register, the HI value latched for the other at any LO address is what
it was. A read of LO by a requester latches for it the HI value of that tick. (R479.) -/
def Obligations.LatchesAreApart : Prop :=
  (∀ (k1 k2 a lo : Nat) (s : State), k1 ≠ k2 → a < 2 ^ 32 → lo < 2 ^ 32 →
    (readReg k1 a s).1.rap.latch.find? (fun x => x.1 == latchKey k2 lo) = s.rap.latch.find? (fun x => x.1 == latchKey k2 lo)) ∧
  (∀ (k a : Nat) (s : State), isLo a = true →
    (readReg k a s).2 = viewReg (readEffect a s) a ∧
    (latchKey k a, viewReg (readEffect a s) (a + 4)) ∈ (readReg k a s).1.rap.latch)

/-- Where exec answers a next state t: FBI_LOAD changes no register (its count is set in the tick after, R84), FBI_ARM none but its FBI_STAT,
FBI_CLEAR none but its FBI_FCNT, FBI_LINE and FBI_STAT, CMP_VAL_HI_WRITE none but its FBI_CMP_VAL_HI and FBI_CMP_STAT; other channels and units
keep their state; and TB, images, geometry, pose, stride, coverage, waveforms, channels, loops, team, faults, island and queue are as before.
(R84, R88, R94, R104.) -/
def Obligations.CounterCommandsFrame : Prop :=
  (∀ (who : Fin 36) (ch : Fin 16) (k : Fin 4) (hi : Word) (s t : State),
    (exec (.fbiLoad who ch) s = .next t → t.regs = s.regs) ∧
    (exec (.fbiArm who ch) s = .next t → ∀ a : Nat, a ≠ R.FBI_STAT ch.val → rget t a = rget s a) ∧
    (exec (.fbiClear who ch) s = .next t →
      ∀ a : Nat, a ≠ R.FBI_FCNT ch.val → a ≠ R.FBI_LINE ch.val → a ≠ R.FBI_STAT ch.val → rget t a = rget s a) ∧
    (exec (.cmpValHiWrite who k hi) s = .next t →
      ∀ a : Nat, a ≠ R.FBI_CMP_VAL_HI k.val → a ≠ R.FBI_CMP_STAT k.val → rget t a = rget s a)) ∧
  (∀ (who : Fin 36) (ch : Fin 16) (k : Fin 4) (hi : Word) (s t : State),
    ∀ c ∈ [Instr.fbiLoad who ch, .fbiArm who ch, .fbiClear who ch, .cmpValHiWrite who k hi], exec c s = .next t →
      (∀ n : Nat, n ≠ ch.val → chSt t n = chSt s n) ∧ (∀ n : Nat, n ≠ k.val → smGet cmpInit t.fbi.cmp n = smGet cmpInit s.fbi.cmp n) ∧
      t.tb = s.tb ∧ t.pending = s.pending ∧ t.img = s.img ∧ t.cfg = s.cfg ∧ t.geo = s.geo ∧ t.gns = s.gns ∧ t.pos = s.pos ∧ t.str = s.str ∧
      t.saf = s.saf ∧ t.cov = s.cov ∧ t.pwm = s.pwm ∧ t.lsw = s.lsw ∧ t.ctl = s.ctl ∧ t.team = s.team ∧ t.far = s.far ∧ t.flt = s.flt ∧
      t.brd.leases = s.brd.leases ∧ t.brd.livs = s.brd.livs)

/-- Where exec answers a next state t: FORCE_COMMIT and FORCE_CLEAR_ALL change no register, and of the generator only what is pending; SHADOW_WRITE of
a channel changes no register but its DUTY or PHASE and its group's PWM_LG_STAT; and TB, images, geometry, feedback, pose, stride, coverage,
channels, loops, team, faults, island and queue are as before. (R236, R237, R241, R242.) -/
def Obligations.ForceAndShadowFrame : Prop :=
  (∀ (who : Fin 36) (b : Bool) (s t : State), ∀ c ∈ [Instr.forceCommit who b, .forceClearAll who], exec c s = .next t →
    t.regs = s.regs ∧ ∃ (p : Option ForcePend) (a : Nat) (r : Option Nat), t.pwm = { s.pwm with pend := p, commitAt := a, release := r }) ∧
  (∀ (who : Fin 36) (n : Fin 104) (ph : Bool) (v : Word) (s t : State), exec (.shadowWrite (.rap who) n ph v) s = .next t →
    (∀ a : Nat, a ≠ R.PWM_CH_DUTY n.val → a ≠ R.PWM_CH_PHASE n.val → a ≠ R.PWM_LG_STAT (lgOf s n.val) → rget t a = rget s a) ∧ t.pwm = s.pwm) ∧
  (∀ (who : Fin 36) (b ph : Bool) (n : Fin 104) (v : Word) (s t : State),
    ∀ c ∈ [Instr.forceCommit who b, .forceClearAll who, .shadowWrite (.rap who) n ph v], exec c s = .next t →
      t.tb = s.tb ∧ t.pending = s.pending ∧ t.img = s.img ∧ t.cfg = s.cfg ∧ t.geo = s.geo ∧ t.fbi = s.fbi ∧ t.gns = s.gns ∧ t.pos = s.pos ∧
      t.str = s.str ∧ t.saf = s.saf ∧ t.cov = s.cov ∧ t.lsw = s.lsw ∧ t.ctl = s.ctl ∧ t.team = s.team ∧ t.far = s.far ∧ t.flt = s.flt)

/-- For every state, register and field that lies in a word: after a field is set, it reads the value modulo its width; another field of the register
that does not overlap it, and every other register, reads as before. A saturating count stops at its field's top, a wrapping one starts again at
0, and a LO and HI pair reads the 64 bits it was given. (R16, R17.) -/
def Obligations.RegisterFields : Prop :=
  (∀ (s : State) (a : Nat) (f : Fld) (v : Nat), f.lo + f.w ≤ 32 → fget (fset s a f v) a f = v % 2 ^ f.w) ∧
  (∀ (s : State) (a b : Nat) (f : Fld) (v : Nat), b ≠ a → rget (fset s a f v) b = rget s b) ∧
  (∀ (s : State) (a : Nat) (f g : Fld) (v : Nat), f.lo + f.w ≤ 32 → g.lo + g.w ≤ f.lo ∨ f.lo + f.w ≤ g.lo →
    fget (fset s a f v) a g = fget s a g) ∧
  (∀ (s : State) (a : Nat) (f : Fld), f.lo + f.w ≤ 32 → fget (fincSat s a f) a f = min (fget s a f + 1) (2 ^ f.w - 1)) ∧
  (∀ (s : State) (a : Nat) (f : Fld), f.lo + f.w ≤ 32 → fget (fincWrap s a f) a f = (fget s a f + 1) % 2 ^ f.w) ∧
  (∀ (s : State) (lo hi v : Nat), lo ≠ hi → v < 2 ^ 64 → rget64 (rset64 s lo hi v) lo hi = v)

/-- SHADOW_WRITE, LOAD_ALL, LG_CANCEL, LG_TRANSFER, FORCE_COMMIT, FORCE_CLEAR_ALL, FORCE_TIMEOUT. For every state in which the source may write (PD10
on and the group owned by the source, or a session whose role may write an owned group): SHADOW_WRITE to a group that is not armed answers a next
state in which DUTY (above 65,536 taken as 65,536) or PHASE reads the value and every other register is as before; LOAD_ALL answers one in which
the group is armed, LG_CANCEL before the group's boundary one in which it is not, and both change no other register. A transfer that is due
answers a next state, and what it does leaves the group disarmed with its TB in XTB. FORCE_COMMIT answers one in which both force words wait for
the next tick, FORCE_CLEAR_ALL and FORCE_TIMEOUT one in which every force is to be released, and none changes a register before that tick. (R230,
R236, R237, R238, R239, R241, R242.) -/
def Obligations.LoadGroupAndForceCommandsRun : Prop :=
  (∀ (src : Writer) (ch : Fin 104) (v : Word) (s : State), (∀ who : Fin 36, src ≠ .rap who) → domOn s 10 = true →
    lgOwner s (lgOf s ch.val) src = true → lgArmed s (lgOf s ch.val) = false →
    (∃ t : State, exec (.shadowWrite src ch false v) s = .next t ∧
      fget t (R.PWM_CH_DUTY ch.val) F.PWM_CH_DUTY_DUTY = min 65536 (v.toNat % 2 ^ 17) ∧
      ∀ a : Nat, a ≠ R.PWM_CH_DUTY ch.val → rget t a = rget s a) ∧
    (∃ t : State, exec (.shadowWrite src ch true v) s = .next t ∧ fget t (R.PWM_CH_PHASE ch.val) F.PWM_CH_PHASE_PHASE = v.toNat % 2 ^ 16 ∧
      ∀ a : Nat, a ≠ R.PWM_CH_PHASE ch.val → rget t a = rget s a)) ∧
  (∀ (who : Fin 36) (ch : Fin 104) (v : Word) (s : State), rapMay s who.val .duty 10 = true → lgOwner s (lgOf s ch.val) (.rap who) = true →
    lgArmed s (lgOf s ch.val) = false →
    ∃ t : State, exec (.shadowWrite (.rap who) ch false v) s = .next t ∧
      fget t (R.PWM_CH_DUTY ch.val) F.PWM_CH_DUTY_DUTY = min 65536 (v.toNat % 2 ^ 17) ∧
      ∀ a : Nat, a ≠ R.PWM_CH_DUTY ch.val → rget t a = rget s a) ∧
  (∀ (src : Writer) (k : Fin 8) (s : State), (∀ who : Fin 36, src ≠ .rap who) → domOn s 10 = true → lgOwner s k.val src = true →
    (∃ t : State, exec (.loadAll src k false) s = .next t ∧ lgArmed t k.val = true ∧
      ∀ a : Nat, a ≠ R.PWM_LG_STAT k.val → rget t a = rget s a) ∧
    (lgDue s k.val = false → ∃ t : State, exec (.lgCancel src k) s = .next t ∧ fbit t (R.PWM_LG_STAT k.val) F.PWM_LG_STAT_ARMED = false ∧
      ∀ a : Nat, a ≠ R.PWM_LG_STAT k.val → rget t a = rget s a)) ∧
  (∀ (k : Fin 8) (s : State), lgDue s k.val = true → (∃ t : State, exec (.lgTransfer k) s = .next t ∧ t = staged (lgTransfer k.val) s) ∧
    fbit (lgTransfer k.val s) (R.PWM_LG_STAT k.val) F.PWM_LG_STAT_ARMED = false ∧
    rget (lgTransfer k.val s) (R.PWM_LG_XTB k.val) = BitVec.ofNat 32 s.tb) ∧
  (∀ (who : Fin 36) (s : State), rapMay s who.val (.force true) 10 = true →
    (∃ t : State, exec (.forceCommit who true) s = .next t ∧ t.regs = s.regs ∧ t.pwm.release = some 0 ∧ t.pwm.pend = none) ∧
    (∃ t : State, exec (.forceClearAll who) s = .next t ∧ t.regs = s.regs ∧ t.pwm.release = some 0 ∧ t.pwm.pend = none)) ∧
  (∀ (who : Fin 36) (s : State),
    rapMay s who.val (.force (offOnly (rget s R.PWM_FORCE_SH).toNat (rget s R.PWM_FORCE_ONE).toNat)) 10 = true →
    ∃ t : State, exec (.forceCommit who false) s = .next t ∧ t.regs = s.regs ∧
      t.pwm.pend = some ⟨(rget s R.PWM_FORCE_SH).toNat, (rget s R.PWM_FORCE_ONE).toNat, who.val⟩ ∧ t.pwm.commitAt = s.tb) ∧
  (∀ s : State, forcing s = true → s.pwm.commitAt + fget s R.PWM_HOLD F.PWM_HOLD_FORCE_TMO * secTicks ≤ s.tb →
    ∃ t : State, exec .forceTimeout s = .next t ∧ t.regs = s.regs ∧ t.pwm.release = some 1 ∧ t.pwm.pend = none)

/-- LOOP_STEP, LOOP_LATE, LOOP_HOLD_TIMEOUT, LOOP_AUTO, LOOP_MANUAL, CURB_AUTO, CURB_MANUAL, TRACE_ARM, TRACE_STOP, TRACE_FORCE, INJ_START, INJ_STOP,
INJ_DURATION_END. For every state: a LOOP_STEP that is due, in time, not yet run at its boundary and on a lane answers a next state in which the
loop's step of that boundary is done and its run of late steps is 0; one that comes late answers a next state in which the boundary's step is
abandoned and counted. A HOLD that has lasted FB_TMO leaves the loop in FAULT with its safe output. AUTO and MANUAL leave their request with the
loop, or the curb group's MANUAL bit. TRACE_ARM leaves the trace in RING or ONE_SHOT, TRACE_STOP of a running trace stops it, TRACE_FORCE in RING
leaves the trigger waiting. INJ_START without a cause to refuse leaves the injection RUNNING with CAUSE 0; INJ_STOP ends it ABORTED and
INJ_DURATION_END ends it DONE, with no injection left. (R280, R285, R287, R291, R294, R295, R296, R297.) -/
def Obligations.ControlEngineCommandsRun : Prop :=
  (∀ (n : Fin 64) (s : State) (d : LoopDef) (lane : Nat), loopDef s n.val = some d → loopsRun s = true →
    loopDue s (boundaryAt s.tb) n.val = true → s.tb ≤ boundaryAt s.tb + 30000 → (loopSt s n.val).stepAt ≠ some (boundaryAt s.tb) →
    loopHeld s n.val = false → loopLane s (boundaryAt s.tb) n.val = some lane → curbOf s n.val = none →
    ∃ t : State, exec (.loopStep n false) s = .next t ∧ (loopSt t n.val).stepAt = some (boundaryAt s.tb) ∧ (loopSt t n.val).lateRun = 0) ∧
  (∀ (n : Fin 64) (s : State), loopsRun s = true → loopDue s (boundaryAt s.tb) n.val = true → boundaryAt s.tb + 30000 ≤ s.tb →
    (loopSt s n.val).stepAt ≠ some (boundaryAt s.tb) → loopHeld s n.val = false → curbOf s n.val = none →
    ∃ t : State, exec (.loopLate n) s = .next t ∧ (loopSt t n.val).stepAt = some (boundaryAt s.tb) ∧
      (loopSt t n.val).lateRun = (loopSt s n.val).lateRun + 1) ∧
  (∀ (n : Fin 64) (s : State) (d : LoopDef), loopDef s n.val = some d → lstate s n.val = 3 →
    (loopSt s n.val).holdAt + msTicks (lcfg1 s n.val F.CTL_LOOP_CFG1_FB_TMO) ≤ s.tb →
    ∃ t : State, exec (.loopHoldTimeout n) s = .next t ∧ lstate t n.val = 5 ∧ (loopSt t n.val).u = d.safeOut) ∧
  (∀ (who : Fin 36) (n : Fin 64) (s : State), rapMay s who.val .other 1 = true →
    (lstate s n.val ≠ 5 ∨ faultGone s n.val = true →
      ∃ t : State, exec (.loopAuto who n) s = .next t ∧ (loopSt t n.val).cmd = some false ∧ t.regs = s.regs) ∧
    (curbOf s n.val = none → ∃ t : State, exec (.loopManual who n) s = .next t ∧ (loopSt t n.val).cmd = some true ∧ t.regs = s.regs)) ∧
  (∀ (who : Fin 36) (k : Fin 16) (s : State), rapMay s who.val .other 1 = true →
    (∃ t : State, exec (.curbAuto who k) s = .next t ∧ fbit t (R.CTL_CURB_STAT k.val) F.CTL_CURB_STAT_MANUAL = false ∧
      ∀ a : Nat, a ≠ R.CTL_CURB_STAT k.val → rget t a = rget s a) ∧
    (curbMembers s k.val ≠ [] → ∃ t : State, exec (.curbManual who k) s = .next t ∧
      fbit t (R.CTL_CURB_STAT k.val) F.CTL_CURB_STAT_MANUAL = true ∧ ∀ a : Nat, a ≠ R.CTL_CURB_STAT k.val → rget t a = rget s a)) ∧
  (∀ (who : Fin 36) (s : State), rapMay s who.val .test 1 = true →
    (∃ t : State, exec (.traceArm who) s = .next t ∧
      fget t R.CTL_TRC_STAT F.CTL_TRC_STAT_STATE = if fbit s R.CTL_TRC_CTRL F.CTL_TRC_CTRL_MODE then 1 else 2) ∧
    (fget s R.CTL_TRC_STAT F.CTL_TRC_STAT_STATE = 1 ∨ fget s R.CTL_TRC_STAT F.CTL_TRC_STAT_STATE = 2 →
      ∃ t : State, exec (.traceStop who) s = .next t ∧ fget t R.CTL_TRC_STAT F.CTL_TRC_STAT_STATE = 3) ∧
    (fget s R.CTL_TRC_STAT F.CTL_TRC_STAT_STATE = 1 →
      ∃ t : State, exec (.traceForce who) s = .next t ∧ t.ctl.trcForce = true ∧ t.regs = s.regs) ∧
    (∀ j : Inj, s.ctl.inj = some j → ∃ t : State, exec (.injStop who) s = .next t ∧ t.ctl.inj = none ∧
      fget t R.CTL_INJ_STAT F.CTL_INJ_STAT_STATE = 3 ∧ fget t R.CTL_INJ_STAT F.CTL_INJ_STAT_CAUSE = 1)) ∧
  (∀ (who : Fin 36) (r : Role) (s : State), sessRole s who.val = some r → rapPath s = true → injRefused s who.val = none →
    ∃ (t : State) (j : Inj), exec (.injStart who) s = .next t ∧ t.ctl.inj = some j ∧ j.who = who.val ∧
      fget t R.CTL_INJ_STAT F.CTL_INJ_STAT_STATE = 1 ∧ fget t R.CTL_INJ_STAT F.CTL_INJ_STAT_CAUSE = 0) ∧
  (∀ (s : State) (j : Inj) (f : Nat), s.ctl.inj = some j → j.first = some f → f + msTicks j.dur ≤ s.tb →
    ∃ t : State, exec .injDurationEnd s = .next t ∧ t.ctl.inj = none ∧ fget t R.CTL_INJ_STAT F.CTL_INJ_STAT_STATE = 2)

end
end

