-- ==== Sys2Proof/Laws/Dispatch.lean ====
section
/-!
SUPPORT. Laws/Dispatch.lean: one arm of exec per lemma, so that no proof unfolds the dispatch.
-/

set_option linter.unusedVariables false

open Sys2Proof Sys2Proof.Machine

namespace Sys2Proof.Laws

@[simp] theorem exec_powerUp (b : Boot) (s : State) : exec (.powerUp b) s = execPowerUp b s := rfl
@[simp] theorem exec_strapChanged (v : BitVec 6) (s : State) : exec (.strapChanged v) s = execStrapChanged v s := rfl
@[simp] theorem exec_levelRise (s : State) : exec (.levelRise) s = execLevelRise s := rfl
@[simp] theorem exec_vlogOvervoltage (vlog : BitVec 10) (s : State) : exec (.vlogOvervoltage vlog) s = execVlogOvervoltage vlog s := rfl
@[simp] theorem exec_vlogOvRecover (vlog : BitVec 10) (s : State) : exec (.vlogOvRecover vlog) s = execVlogOvRecover vlog s := rfl
@[simp] theorem exec_brownout (vlog : BitVec 10) (flushed : Bool) (s : State) : exec (.brownout vlog flushed) s = execBrownout vlog flushed s := rfl
@[simp] theorem exec_brownoutRestart (vlog : BitVec 10) (s : State) : exec (.brownoutRestart vlog) s = execBrownoutRestart vlog s := rfl
@[simp] theorem exec_vlogLoss (s : State) : exec (.vlogLoss) s = execVlogLoss s := rfl
@[simp] theorem exec_activateFw (who : Fin 36) (s : State) : exec (.activateFw who) s = execActivateFw who s := rfl
@[simp] theorem exec_fwCancel (who : Fin 36) (s : State) : exec (.fwCancel who) s = execFwCancel who s := rfl
@[simp] theorem exec_fwTrialConfirm (s : State) : exec (.fwTrialConfirm) s = execFwTrialConfirm s := rfl
@[simp] theorem exec_fwTrialFail (s : State) : exec (.fwTrialFail) s = execFwTrialFail s := rfl
@[simp] theorem exec_attnNActive (s : State) : exec (.attnNActive) s = execAttnNActive s := rfl
@[simp] theorem exec_attnNInactive (s : State) : exec (.attnNInactive) s = execAttnNInactive s := rfl
@[simp] theorem exec_keyoffCondition (s : State) : exec (.keyoffCondition) s = execKeyoffCondition s := rfl
@[simp] theorem exec_sleep (who : Fin 36) (s : State) : exec (.sleep who) s = execSleep who s := rfl
@[simp] theorem exec_stay (who : Fin 36) (s : State) : exec (.stay who) s = execStay who s := rfl
@[simp] theorem exec_keyoffReport (m : Fin 64) (s : State) : exec (.keyoffReport m) s = execKeyoffReport m s := rfl
@[simp] theorem exec_keyoffStart (full : Bool) (s : State) : exec (.keyoffStart full) s = execKeyoffStart full s := rfl
@[simp] theorem exec_keyoffForce (s : State) : exec (.keyoffForce) s = execKeyoffForce s := rfl
@[simp] theorem exec_wakeCan (ctrl : Fin 4) (w : CanWake) (s : State) : exec (.wakeCan ctrl w) s = execWakeCan ctrl w s := rfl
@[simp] theorem exec_wakeLink (n : Fin 5) (s : State) : exec (.wakeLink n) s = execWakeLink n s := rfl
@[simp] theorem exec_wakeHalter (s : State) : exec (.wakeHalter) s = execWakeHalter s := rfl
@[simp] theorem exec_wakeTimer (s : State) : exec (.wakeTimer) s = execWakeTimer s := rfl
@[simp] theorem exec_stayAwakeExpiry (s : State) : exec (.stayAwakeExpiry) s = execStayAwakeExpiry s := rfl
@[simp] theorem exec_gaitWindow (l : List Gait) (s : State) : exec (.gaitWindow l) s = execGaitWindow l s := rfl
@[simp] theorem exec_clockMonitorWindow (ao ref safe : Int) (s : State) : exec (.clockMonitorWindow ao ref safe) s = execClockMonitorWindow ao ref safe s := rfl
@[simp] theorem exec_clkRefLoss (s : State) : exec (.clkRefLoss) s = execClkRefLoss s := rfl
@[simp] theorem exec_refReturn (s : State) : exec (.refReturn) s = execRefReturn s := rfl
@[simp] theorem exec_memoryErrorDetected (e : MemErr) (s : State) : exec (.memoryErrorDetected e) s = execMemoryErrorDetected e s := rfl
@[simp] theorem exec_dualRailError (unit : Fin 31) (s : State) : exec (.dualRailError unit) s = execDualRailError unit s := rfl
@[simp] theorem exec_dramScrub (found : List MemErr) (s : State) : exec (.dramScrub found) s = execDramScrub found s := rfl
@[simp] theorem exec_imgCheck (who : Fin 36) (s : State) : exec (.imgCheck who) s = execImgCheck who s := rfl
@[simp] theorem exec_imgActivate (who : Fin 36) (s : State) : exec (.imgActivate who) s = execImgActivate who s := rfl
@[simp] theorem exec_imgAbort (who : Fin 36) (s : State) : exec (.imgAbort who) s = execImgAbort who s := rfl
@[simp] theorem exec_restartActivate (who : Fin 36) (s : State) : exec (.restartActivate who) s = execRestartActivate who s := rfl
@[simp] theorem exec_imgRevert (who : Fin 36) (s : State) : exec (.imgRevert who) s = execImgRevert who s := rfl
@[simp] theorem exec_teamImage (c : Container) (s : State) : exec (.teamImage c) s = execTeamImage c s := rfl
@[simp] theorem exec_stagedOk (m : Fin 64) (code : Fin 256) (s : State) : exec (.stagedOk m code) s = execStagedOk m code s := rfl
@[simp] theorem exec_stagingTimeout (s : State) : exec (.stagingTimeout) s = execStagingTimeout s := rfl
@[simp] theorem exec_prepare (C : Nat) (s : State) : exec (.prepare C) s = execPrepare C s := rfl
@[simp] theorem exec_swapAbort (s : State) : exec (.swapAbort) s = execSwapAbort s := rfl
@[simp] theorem exec_swapQuiesceStart (s : State) : exec (.swapQuiesceStart) s = execSwapQuiesceStart s := rfl
@[simp] theorem exec_swapCommit (s : State) : exec (.swapCommit) s = execSwapCommit s := rfl
@[simp] theorem exec_jointSourceFail (chain : Fin 32) (link : Fin 8) (second : Bool) (s : State) : exec (.jointSourceFail chain link second) s = execJointSourceFail chain link second s := rfl
@[simp] theorem exec_jointSrc1Return (chain : Fin 32) (link : Fin 8) (s : State) : exec (.jointSrc1Return chain link) s = execJointSrc1Return chain link s := rfl
@[simp] theorem exec_jointHoldExpiry (chain : Fin 32) (link : Fin 8) (s : State) : exec (.jointHoldExpiry chain link) s = execJointHoldExpiry chain link s := rfl
@[simp] theorem exec_geomPairDiff (chain : Fin 32) (link : Fin 8) (theirs : BitVec 16) (s : State) : exec (.geomPairDiff chain link theirs) s = execGeomPairDiff chain link theirs s := rfl
@[simp] theorem exec_inputEdgeAccepted (ch : Fin 16) (a b z : Option Bool) (s : State) : exec (.inputEdgeAccepted ch a b z) s = execInputEdgeAccepted ch a b z s := rfl
@[simp] theorem exec_fastEdge (ch : Fin 16) (s : State) : exec (.fastEdge ch) s = execFastEdge ch s := rfl
@[simp] theorem exec_chFaultClear (ch : Fin 16) (s : State) : exec (.chFaultClear ch) s = execChFaultClear ch s := rfl
@[simp] theorem exec_wireBreak (ch : Fin 16) (inp : Fin 3) (s : State) : exec (.wireBreak ch inp) s = execWireBreak ch inp s := rfl
@[simp] theorem exec_indexTimeout (ch : Fin 16) (inp : Fin 3) (s : State) : exec (.indexTimeout ch inp) s = execIndexTimeout ch inp s := rfl
@[simp] theorem exec_fbiLoad (who : Fin 36) (ch : Fin 16) (s : State) : exec (.fbiLoad who ch) s = execFbiLoad who ch s := rfl
@[simp] theorem exec_fbiArm (who : Fin 36) (ch : Fin 16) (s : State) : exec (.fbiArm who ch) s = execFbiArm who ch s := rfl
@[simp] theorem exec_fbiClear (who : Fin 36) (ch : Fin 16) (s : State) : exec (.fbiClear who ch) s = execFbiClear who ch s := rfl
@[simp] theorem exec_cmpValHiWrite (who : Fin 36) (k : Fin 4) (hi : Word) (s : State) : exec (.cmpValHiWrite who k hi) s = execCmpValHiWrite who k hi s := rfl
@[simp] theorem exec_cmpPulseEnd (k : Fin 4) (s : State) : exec (.cmpPulseEnd k) s = execCmpPulseEnd k s := rfl
@[simp] theorem exec_ssiRead (k : Fin 4) (data : Word) (status : Nat) (check : Nat) (wireLow : Bool) (s : State) : exec (.ssiRead k data status check wireLow) s = execSsiRead k data status check wireLow s := rfl
@[simp] theorem exec_ainSample (n : Fin 16) (code : BitVec 16) (above : Bool) (s : State) : exec (.ainSample n code above) s = execAinSample n code above s := rfl
@[simp] theorem exec_shuntOpen (n : Fin 16) (s : State) : exec (.shuntOpen n) s = execShuntOpen n s := rfl
@[simp] theorem exec_shuntClose (n : Fin 16) (high : Bool) (s : State) : exec (.shuntClose n high) s = execShuntClose n high s := rfl
@[simp] theorem exec_supplyLimitOff (b : Bool) (s : State) : exec (.supplyLimitOff b) s = execSupplyLimitOff b s := rfl
@[simp] theorem exec_supplyRetry (b : Bool) (s : State) : exec (.supplyRetry b) s = execSupplyRetry b s := rfl
@[simp] theorem exec_antBiasCheck (ua : Nat) (s : State) : exec (.antBiasCheck ua) s = execAntBiasCheck ua s := rfl
@[simp] theorem exec_antShort (s : State) : exec (.antShort) s = execAntShort s := rfl
@[simp] theorem exec_antBiasRetry (s : State) : exec (.antBiasRetry) s = execAntBiasRetry s := rfl
@[simp] theorem exec_availabilityEval (a : Avail) (s : State) : exec (.availabilityEval a) s = execAvailabilityEval a s := rfl
@[simp] theorem exec_acqRound (found : List Cand) (s : State) : exec (.acqRound found) s = execAcqRound found s := rfl
@[simp] theorem exec_pullInTimeout (ch : Fin 96) (s : State) : exec (.pullInTimeout ch) s = execPullInTimeout ch s := rfl
@[simp] theorem exec_acqPowerOff (s : State) : exec (.acqPowerOff) s = execAcqPowerOff s := rfl
@[simp] theorem exec_trackingDump (ch : Fin 96) (d : Dump) (s : State) : exec (.trackingDump ch d) s = execTrackingDump ch d s := rfl
@[simp] theorem exec_cn0Loss (ch : Fin 96) (s : State) : exec (.cn0Loss ch) s = execCn0Loss ch s := rfl
@[simp] theorem exec_epochStrobe (e : GStrobe) (s : State) : exec (.epochStrobe e) s = execEpochStrobe e s := rfl
@[simp] theorem exec_gnssRecord (r : GRec) (c : GChk) (e : Option GEpoch) (s : State) : exec (.gnssRecord r c e) s = execGnssRecord r c e s := rfl
@[simp] theorem exec_exclusionEnd (ant : Fin 64) (sat : Sat) (s : State) : exec (.exclusionEnd ant sat) s = execExclusionEnd ant sat s := rfl
@[simp] theorem exec_suspectClear (ant : Fin 64) (s : State) : exec (.suspectClear ant) s = execSuspectClear ant s := rfl
@[simp] theorem exec_spoofClear (s : State) : exec (.spoofClear) s = execSpoofClear s := rfl
@[simp] theorem exec_interferenceFft (lines : List (Int × Nat)) (gain jn : Nat) (s : State) : exec (.interferenceFft lines gain jn) s = execInterferenceFft lines gain jn s := rfl
@[simp] theorem exec_nomGainUpdate (s : State) : exec (.nomGainUpdate) s = execNomGainUpdate s := rfl
@[simp] theorem exec_poseRecordPublish (f : Fused) (s : State) : exec (.poseRecordPublish f) s = execPoseRecordPublish f s := rfl
@[simp] theorem exec_poseRecord (r : PoseRec) (s : State) : exec (.poseRecord r) s = execPoseRecord r s := rfl
@[simp] theorem exec_drLimitExpiry (s : State) : exec (.drLimitExpiry) s = execDrLimitExpiry s := rfl
@[simp] theorem exec_rtcmMessage (path : CorrPath) (typ : Nat) (station : Nat) (epoch : Nat) (crcOk : Bool) (s : State) : exec (.rtcmMessage path typ station epoch crcOk) s = execRtcmMessage path typ station epoch crcOk s := rfl
@[simp] theorem exec_externalPosePgn (ctrl : Fin 4) (pgn : Nat) (acc : Nat) (ok : Bool) (tt : Option Int) (s : State) : exec (.externalPosePgn ctrl pgn acc ok tt) s = execExternalPosePgn ctrl pgn acc ok tt s := rfl
@[simp] theorem exec_speedMessage (ctrl : Fin 4) (v : Int) (ok : Bool) (s : State) : exec (.speedMessage ctrl v ok) s = execSpeedMessage ctrl v ok s := rfl
@[simp] theorem exec_insSample (crcOk : Bool) (s : State) : exec (.insSample crcOk) s = execInsSample crcOk s := rfl
@[simp] theorem exec_ttOfsAnnounce (ofs : Int) (b : Nat) (st : Nat) (s : State) : exec (.ttOfsAnnounce ofs b st) s = execTtOfsAnnounce ofs b st s := rfl
@[simp] theorem exec_ttOfsApply (s : State) : exec (.ttOfsApply) s = execTtOfsApply s := rfl
@[simp] theorem exec_holdoverLimit (s : State) : exec (.holdoverLimit) s = execHoldoverLimit s := rfl
@[simp] theorem exec_tpoPulse (sec : Nat) (s : State) : exec (.tpoPulse sec) s = execTpoPulse sec s := rfl
@[simp] theorem exec_tpoPulseEnd (s : State) : exec (.tpoPulseEnd) s = execTpoPulseEnd s := rfl
@[simp] theorem exec_slewEnd (s : State) : exec (.slewEnd) s = execSlewEnd s := rfl
@[simp] theorem exec_strideBoundary (s : State) : exec (.strideBoundary) s = execStrideBoundary s := rfl
@[simp] theorem exec_strideCutoff (cuts : List (Fin 96 × Fin 8)) (s : State) : exec (.strideCutoff cuts) s = execStrideCutoff cuts s := rfl
@[simp] theorem exec_strideFullRestore (s : State) : exec (.strideFullRestore) s = execStrideFullRestore s := rfl
@[simp] theorem exec_strideWriteback (mis : Bool) (s : State) : exec (.strideWriteback mis) s = execStrideWriteback mis s := rfl
@[simp] theorem exec_eventCommit (out : Fin 96) (s : State) : exec (.eventCommit out) s = execEventCommit out s := rfl
@[simp] theorem exec_recentPlaneSweep (s : State) : exec (.recentPlaneSweep) s = execRecentPlaneSweep s := rfl
@[simp] theorem exec_debugHalt (who : Fin 36) (s : State) : exec (.debugHalt who) s = execDebugHalt who s := rfl
@[simp] theorem exec_debugResume (who : Fin 36) (s : State) : exec (.debugResume who) s = execDebugResume who s := rfl
@[simp] theorem exec_tileFill (t : Fin 1048576) (s : State) : exec (.tileFill t) s = execTileFill t s := rfl
@[simp] theorem exec_commitStrip (x : Strip) (s : State) : exec (.commitStrip x) s = execCommitStrip x s := rfl
@[simp] theorem exec_holeResend (pos : Fin 32) (out : Fin 128) (seq : Nat) (s : State) : exec (.holeResend pos out seq) s = execHoleResend pos out seq s := rfl
@[simp] theorem exec_resendRequest (m : Fin 64) (out : Fin 128) (seq : Nat) (s : State) : exec (.resendRequest m out seq) s = execResendRequest m out seq s := rfl
@[simp] theorem exec_replicaHole (pos : Fin 32) (out : Fin 128) (seq : Nat) (s : State) : exec (.replicaHole pos out seq) s = execReplicaHole pos out seq s := rfl
@[simp] theorem exec_catchUpStart (m : Fin 64) (s : State) : exec (.catchUpStart m) s = execCatchUpStart m s := rfl
@[simp] theorem exec_catchUpSeqTable (S : Nat) (start : Option Nat) (tab : List (Nat × SeqEnt)) (s : State) : exec (.catchUpSeqTable S start tab) s = execCatchUpSeqTable S start tab s := rfl
@[simp] theorem exec_catchUpTile (t : Fin 1048576) (codes : List (Nat × Nat)) (last : Bool) (s : State) : exec (.catchUpTile t codes last) s = execCatchUpTile t codes last s := rfl
@[simp] theorem exec_jobLoad (who : Option (Fin 36)) (job : JobDef) (s : State) : exec (.jobLoad who job) s = execJobLoad who job s := rfl
@[simp] theorem exec_jobLoadDone (s : State) : exec (.jobLoadDone) s = execJobLoadDone s := rfl
@[simp] theorem exec_jobDefinition (job : JobDef) (s : State) : exec (.jobDefinition job) s = execJobDefinition job s := rfl
@[simp] theorem exec_rasterHash (m : Fin 64) (hash : Nat) (s : State) : exec (.rasterHash m hash) s = execRasterHash m hash s := rfl
@[simp] theorem exec_rasterHashTimeout (m : Fin 64) (s : State) : exec (.rasterHashTimeout m) s = execRasterHashTimeout m s := rfl
@[simp] theorem exec_jobStart (who : Option (Fin 36)) (s : State) : exec (.jobStart who) s = execJobStart who s := rfl
@[simp] theorem exec_jobSuspend (who : Option (Fin 36)) (s : State) : exec (.jobSuspend who) s = execJobSuspend who s := rfl
@[simp] theorem exec_jobResume (who : Option (Fin 36)) (s : State) : exec (.jobResume who) s = execJobResume who s := rfl
@[simp] theorem exec_jobRunApply (b : Nat) (s : State) : exec (.jobRunApply b) s = execJobRunApply b s := rfl
@[simp] theorem exec_jobSuspended (full : Bool) (s : State) : exec (.jobSuspended full) s = execJobSuspended full s := rfl
@[simp] theorem exec_jobClose (who : Option (Fin 36)) (s : State) : exec (.jobClose who) s = execJobClose who s := rfl
@[simp] theorem exec_jobCloseDone (full : Bool) (s : State) : exec (.jobCloseDone full) s = execJobCloseDone full s := rfl
@[simp] theorem exec_jobDiscard (who : Option (Fin 36)) (s : State) : exec (.jobDiscard who) s = execJobDiscard who s := rfl
@[simp] theorem exec_jobExport (who : Option (Fin 36)) (s : State) : exec (.jobExport who) s = execJobExport who s := rfl
@[simp] theorem exec_exportDone (s : State) : exec (.exportDone) s = execExportDone s := rfl
@[simp] theorem exec_addExcl (who : Option (Fin 36)) (n : Nat) (p : Poly) (s : State) : exec (.addExcl who n p) s = execAddExcl who n p s := rfl
@[simp] theorem exec_exclAck (m : Fin 64) (n : Nat) (s : State) : exec (.exclAck m n) s = execExclAck m n s := rfl
@[simp] theorem exec_exclApply (n b : Nat) (s : State) : exec (.exclApply n b) s = execExclApply n b s := rfl
@[simp] theorem exec_jobStore (full : Bool) (s : State) : exec (.jobStore full) s = execJobStore full s := rfl
@[simp] theorem exec_masterWrite (who : Fin 36) (b : Bool) (s : State) : exec (.masterWrite who b) s = execMasterWrite who b s := rfl
@[simp] theorem exec_secswWrite (who : Fin 36) (k : Fin 3) (w : Word) (s : State) : exec (.secswWrite who k w) s = execSecswWrite who k w s := rfl
@[simp] theorem exec_stallWrite (who : Fin 36) (n : Fin 96) (w : Word) (s : State) : exec (.stallWrite who n w) s = execStallWrite who n w s := rfl
@[simp] theorem exec_teamStateChange (m : Fin 64) (c : TeamChg) (s : State) : exec (.teamStateChange m c) s = execTeamStateChange m c s := rfl
@[simp] theorem exec_sectionStateApply (b : Nat) (c : TeamChg) (s : State) : exec (.sectionStateApply b c) s = execSectionStateApply b c s := rfl
@[simp] theorem exec_modeReqWrite (who : Fin 36) (b : Bool) (s : State) : exec (.modeReqWrite who b) s = execModeReqWrite who b s := rfl
@[simp] theorem exec_tcSetpoint (sect : Fin 1024) (on : Bool) (fwd : Option Nat) (s : State) : exec (.tcSetpoint sect on fwd) s = execTcSetpoint sect on fwd s := rfl
@[simp] theorem exec_tcStatus (scOn : Bool) (fwd : Option Nat) (s : State) : exec (.tcStatus scOn fwd) s = execTcStatus scOn fwd s := rfl
@[simp] theorem exec_tcLoss (s : State) : exec (.tcLoss) s = execTcLoss s := rfl
@[simp] theorem exec_modeChangeApply (M : Nat) (c : ModeChg) (s : State) : exec (.modeChangeApply M c) s = execModeChangeApply M c s := rfl
@[simp] theorem exec_alleySet (who : Fin 36) (s : State) : exec (.alleySet who) s = execAlleySet who s := rfl
@[simp] theorem exec_alleyOrient (who : Fin 36) (b : Bool) (s : State) : exec (.alleyOrient who b) s = execAlleyOrient who b s := rfl
@[simp] theorem exec_shadowWrite (src : Writer) (ch : Fin 104) (phase : Bool) (v : Word) (s : State) : exec (.shadowWrite src ch phase v) s = execShadowWrite src ch phase v s := rfl
@[simp] theorem exec_loadAll (src : Writer) (k : Fin 8) (cancel : Bool) (s : State) : exec (.loadAll src k cancel) s = execLoadAll src k cancel s := rfl
@[simp] theorem exec_lgCancel (src : Writer) (k : Fin 8) (s : State) : exec (.lgCancel src k) s = execLgCancel src k s := rfl
@[simp] theorem exec_lgTransfer (k : Fin 8) (s : State) : exec (.lgTransfer k) s = execLgTransfer k s := rfl
@[simp] theorem exec_forceCommit (who : Fin 36) (clear : Bool) (s : State) : exec (.forceCommit who clear) s = execForceCommit who clear s := rfl
@[simp] theorem exec_forceClearAll (who : Fin 36) (s : State) : exec (.forceClearAll who) s = execForceClearAll who s := rfl
@[simp] theorem exec_forceTimeout (s : State) : exec (.forceTimeout) s = execForceTimeout s := rfl
@[simp] theorem exec_tripActive (k : Fin 8) (s : State) : exec (.tripActive k) s = execTripActive k s := rfl
@[simp] theorem exec_tripInactive (k : Fin 8) (s : State) : exec (.tripInactive k) s = execTripInactive k s := rfl
@[simp] theorem exec_tripClear (who : Fin 36) (k : Fin 8) (s : State) : exec (.tripClear who k) s = execTripClear who k s := rfl
@[simp] theorem exec_tripAutoRelease (k : Fin 8) (s : State) : exec (.tripAutoRelease k) s = execTripAutoRelease k s := rfl
@[simp] theorem exec_tripSafeSample (k : Fin 8) (s : State) : exec (.tripSafeSample k) s = execTripSafeSample k s := rfl
@[simp] theorem exec_ownWrite (expiry : Bool) (s : State) : exec (.ownWrite expiry) s = execOwnWrite expiry s := rfl
@[simp] theorem exec_wdExpired (s : State) : exec (.wdExpired) s = execWdExpired s := rfl
@[simp] theorem exec_wdSuspendWrite (who : Fin 36) (b : Bool) (s : State) : exec (.wdSuspendWrite who b) s = execWdSuspendWrite who b s := rfl
@[simp] theorem exec_currentSample (ch : Fin 96) (code : BitVec 12) (segs : SegCur) (partner : BitVec 12) (mv : Nat) (s : State) : exec (.currentSample ch code segs partner mv) s = execCurrentSample ch code segs partner mv s := rfl
@[simp] theorem exec_olUnknown (ch : Fin 96) (s : State) : exec (.olUnknown ch) s = execOlUnknown ch s := rfl
@[simp] theorem exec_shortTrip (ch : Fin 96) (s : State) : exec (.shortTrip ch) s = execShortTrip ch s := rfl
@[simp] theorem exec_retry (ch : Fin 96) (s : State) : exec (.retry ch) s = execRetry ch s := rfl
@[simp] theorem exec_retryWindowEnd (ch : Fin 96) (s : State) : exec (.retryWindowEnd ch) s = execRetryWindowEnd ch s := rfl
@[simp] theorem exec_thermalOff (ch : Fin 96) (s : State) : exec (.thermalOff ch) s = execThermalOff ch s := rfl
@[simp] theorem exec_thermalOn (ch : Fin 96) (s : State) : exec (.thermalOn ch) s = execThermalOn ch s := rfl
@[simp] theorem exec_clusterWarn (c : Fin 12) (temp : BitVec 9) (s : State) : exec (.clusterWarn c temp) s = execClusterWarn c temp s := rfl
@[simp] theorem exec_clusterWarnClear (c : Fin 12) (temp : BitVec 9) (s : State) : exec (.clusterWarnClear c temp) s = execClusterWarnClear c temp s := rfl
@[simp] theorem exec_clampEvent (ch : Fin 96) (i0 tcl vf : Nat) (s : State) : exec (.clampEvent ch i0 tcl vf) s = execClampEvent ch i0 tcl vf s := rfl
@[simp] theorem exec_channelClear (who : Fin 36) (ch : Fin 96) (s : State) : exec (.channelClear who ch) s = execChannelClear who ch s := rfl
@[simp] theorem exec_latchAutoClear (ch : Fin 96) (s : State) : exec (.latchAutoClear ch) s = execLatchAutoClear ch s := rfl
@[simp] theorem exec_feedUv (f : Fin 6) (s : State) : exec (.feedUv f) s = execFeedUv f s := rfl
@[simp] theorem exec_feedRestart (f : Fin 6) (s : State) : exec (.feedRestart f) s = execFeedRestart f s := rfl
@[simp] theorem exec_feedRestartSecond (f : Fin 6) (s : State) : exec (.feedRestartSecond f) s = execFeedRestartSecond f s := rfl
@[simp] theorem exec_feedOverload (f : Option (Fin 6)) (s : State) : exec (.feedOverload f) s = execFeedOverload f s := rfl
@[simp] theorem exec_segmentStuckCheck (ch : Fin 96) (seg : Option (Fin 4)) (s : State) : exec (.segmentStuckCheck ch seg) s = execSegmentStuckCheck ch seg s := rfl
@[simp] theorem exec_pairWiredUpdate (ch : Fin 96) (gate : Bool) (force : Fin 4) (duty phase : Nat) (tick : Nat) (s : State) : exec (.pairWiredUpdate ch gate force duty phase tick) s = execPairWiredUpdate ch gate force duty phase tick s := rfl
@[simp] theorem exec_hbDesat (m : Fin 4) (s : State) : exec (.hbDesat m) s = execHbDesat m s := rfl
@[simp] theorem exec_hbDrvUv (m : Fin 4) (s : State) : exec (.hbDrvUv m) s = execHbDrvUv m s := rfl
@[simp] theorem exec_hbDrvUvRelease (m : Fin 4) (s : State) : exec (.hbDrvUvRelease m) s = execHbDrvUvRelease m s := rfl
@[simp] theorem exec_hbClear (who : Fin 36) (m : Fin 4) (s : State) : exec (.hbClear who m) s = execHbClear who m s := rfl
@[simp] theorem exec_halterInput (i : Fin 8) (active : Bool) (s : State) : exec (.halterInput i0 active) s = execHalterInput i0 active s := rfl
@[simp] theorem exec_halterEnActive (s : State) : exec (.halterEnActive) s = execHalterEnActive s := rfl
@[simp] theorem exec_coreNotAlive (s : State) : exec (.coreNotAlive) s = execCoreNotAlive s := rfl
@[simp] theorem exec_halterEnInactive (s : State) : exec (.halterEnInactive) s = execHalterEnInactive s := rfl
@[simp] theorem exec_halterPulse (ch : Fin 96) (s : State) : exec (.halterPulse ch) s = execHalterPulse ch s := rfl
@[simp] theorem exec_halterStuck (i : Fin 8) (s : State) : exec (.halterStuck i0) s = execHalterStuck i0 s := rfl
@[simp] theorem exec_loopStep (n : Fin 64) (mis : Bool) (s : State) : exec (.loopStep n mis) s = execLoopStep n mis s := rfl
@[simp] theorem exec_loopLate (n : Fin 64) (s : State) : exec (.loopLate n) s = execLoopLate n s := rfl
@[simp] theorem exec_loopHoldTimeout (n : Fin 64) (s : State) : exec (.loopHoldTimeout n) s = execLoopHoldTimeout n s := rfl
@[simp] theorem exec_loopAuto (who : Fin 36) (n : Fin 64) (s : State) : exec (.loopAuto who n) s = execLoopAuto who n s := rfl
@[simp] theorem exec_loopManual (who : Fin 36) (n : Fin 64) (s : State) : exec (.loopManual who n) s = execLoopManual who n s := rfl
@[simp] theorem exec_curbAuto (who : Fin 36) (k : Fin 16) (s : State) : exec (.curbAuto who k) s = execCurbAuto who k s := rfl
@[simp] theorem exec_curbManual (who : Fin 36) (k : Fin 16) (s : State) : exec (.curbManual who k) s = execCurbManual who k s := rfl
@[simp] theorem exec_traceArm (who : Fin 36) (s : State) : exec (.traceArm who) s = execTraceArm who s := rfl
@[simp] theorem exec_traceStop (who : Fin 36) (s : State) : exec (.traceStop who) s = execTraceStop who s := rfl
@[simp] theorem exec_traceForce (who : Fin 36) (s : State) : exec (.traceForce who) s = execTraceForce who s := rfl
@[simp] theorem exec_injStart (who : Fin 36) (s : State) : exec (.injStart who) s = execInjStart who s := rfl
@[simp] theorem exec_injStop (who : Fin 36) (s : State) : exec (.injStop who) s = execInjStop who s := rfl
@[simp] theorem exec_injDurationEnd (s : State) : exec (.injDurationEnd) s = execInjDurationEnd s := rfl
@[simp] theorem exec_canFrame (ctrl : Fin 4) (f : CanFr) (sof : Nat) (s : State) : exec (.canFrame ctrl f sof) s = execCanFrame ctrl f sof s := rfl
@[simp] theorem exec_canQueueDrain (ctrl : Fin 4) (tagF : Option Nat) (s : State) : exec (.canQueueDrain ctrl tagF) s = execCanQueueDrain ctrl tagF s := rfl
@[simp] theorem exec_canError (ctrl : Fin 4) (code : Fin 6) (tx dom : Bool) (step : Fin 9) (s : State) : exec (.canError ctrl code tx dom step) s = execCanError ctrl code tx dom step s := rfl
@[simp] theorem exec_busOffRecovery (ctrl : Fin 4) (s : State) : exec (.busOffRecovery ctrl) s = execBusOffRecovery ctrl s := rfl
@[simp] theorem exec_canRecover (who : Fin 36) (ctrl : Fin 4) (s : State) : exec (.canRecover who ctrl) s = execCanRecover who ctrl s := rfl
@[simp] theorem exec_canModeWrite (who : Fin 36) (ctrl : Fin 4) (mode : Fin 4) (s : State) : exec (.canModeWrite who ctrl mode) s = execCanModeWrite who ctrl mode s := rfl
@[simp] theorem exec_canModeApply (ctrl : Fin 4) (s : State) : exec (.canModeApply ctrl) s = execCanModeApply ctrl s := rfl
@[simp] theorem exec_slotArm (who : Option (Fin 36)) (ctrl : Fin 4) (slot : Fin 128) (s : State) : exec (.slotArm who ctrl slot) s = execSlotArm who ctrl slot s := rfl
@[simp] theorem exec_slotAbort (who : Option (Fin 36)) (ctrl : Fin 4) (slot : Fin 128) (s : State) : exec (.slotAbort who ctrl slot) s = execSlotAbort who ctrl slot s := rfl
@[simp] theorem exec_startOpportunity (ctrl : Fin 4) (q : Nat) (s : State) : exec (.startOpportunity ctrl q) s = execStartOpportunity ctrl q s := rfl
@[simp] theorem exec_canTxEnd (ctrl : Fin 4) (res : TxEnd) (tdcv : Option Nat) (s : State) : exec (.canTxEnd ctrl res tdcv) s = execCanTxEnd ctrl res tdcv s := rfl
@[simp] theorem exec_addressClaim (ctrl : Fin 4) (s : State) : exec (.addressClaim ctrl) s = execAddressClaim ctrl s := rfl
@[simp] theorem exec_claimQuietEnd (ctrl : Fin 4) (s : State) : exec (.claimQuietEnd ctrl) s = execClaimQuietEnd ctrl s := rfl
@[simp] theorem exec_addressClaimedReceived (ctrl : Fin 4) (addr : Fin 256) (name : Nat) (s : State) : exec (.addressClaimedReceived ctrl addr name) s = execAddressClaimedReceived ctrl addr name s := rfl
@[simp] theorem exec_requestAddressClaimed (ctrl : Fin 4) (s : State) : exec (.requestAddressClaimed ctrl) s = execRequestAddressClaimed ctrl s := rfl
@[simp] theorem exec_commandedAddress (ctrl : Fin 4) (name : Nat) (addr : Fin 254) (s : State) : exec (.commandedAddress ctrl name addr) s = execCommandedAddress ctrl name addr s := rfl
@[simp] theorem exec_dm3Clear (ctrl : Fin 4) (s : State) : exec (.dm3Clear ctrl) s = execDm3Clear ctrl s := rfl
@[simp] theorem exec_dm11Clear (ctrl : Fin 4) (s : State) : exec (.dm11Clear ctrl) s = execDm11Clear ctrl s := rfl
@[simp] theorem exec_isoTransport (ctrl : Fin 4) (peer : Fin 256) (out bam : Bool) (pgn : Nat) (part : TpPart) (tagF : Option Nat) (s : State) : exec (.isoTransport ctrl peer out bam pgn part tagF) s = execIsoTransport ctrl peer out bam pgn part tagF s := rfl
@[simp] theorem exec_linkFrame (n : Fin 5) (f : LFrame) (crcOk : Bool) (s : State) : exec (.linkFrame n f crcOk) s = execLinkFrame n f crcOk s := rfl
@[simp] theorem exec_lcFrame (n : Fin 5) (m : LcMsg) (s : State) : exec (.lcFrame n m) s = execLcFrame n m s := rfl
@[simp] theorem exec_linkAckTimeout (n : Fin 5) (cls : Fin 6) (s : State) : exec (.linkAckTimeout n cls) s = execLinkAckTimeout n cls s := rfl
@[simp] theorem exec_linkDown (n : Fin 5) (s : State) : exec (.linkDown n) s = execLinkDown n s := rfl
@[simp] theorem exec_linkTraining (n : Fin 5) (s : State) : exec (.linkTraining n) s = execLinkTraining n s := rfl
@[simp] theorem exec_linkUp (n : Fin 5) (peer : Fin 64) (s : State) : exec (.linkUp n peer) s = execLinkUp n peer s := rfl
@[simp] theorem exec_helloSend (s : State) : exec (.helloSend) s = execHelloSend s := rfl
@[simp] theorem exec_hello (n : Fin 5) (h : Hello) (s : State) : exec (.hello n h) s = execHello n h s := rfl
@[simp] theorem exec_discoveryEnd (s : State) : exec (.discoveryEnd) s = execDiscoveryEnd s := rfl
@[simp] theorem exec_leaderBeatSend (s : State) : exec (.leaderBeatSend) s = execLeaderBeatSend s := rfl
@[simp] theorem exec_leaderBeat (m : Fin 64) (term : Fin 65536) (members : List (Fin 64)) (s : State) : exec (.leaderBeat m term members) s = execLeaderBeat m term members s := rfl
@[simp] theorem exec_leaderLost (s : State) : exec (.leaderLost) s = execLeaderLost s := rfl
@[simp] theorem exec_roleMoveApply (role : Fin 3) (pos : Fin 32) (s : State) : exec (.roleMoveApply role pos) s = execRoleMoveApply role pos s := rfl
@[simp] theorem exec_routingTable (t : RouteTab) (s : State) : exec (.routingTable t) s = execRoutingTable t s := rfl
@[simp] theorem exec_routingTableApply (s : State) : exec (.routingTableApply) s = execRoutingTableApply s := rfl
@[simp] theorem exec_timeSyncRequest (n : Fin 5) (frac : Fin 32) (s : State) : exec (.timeSyncRequest n frac) s = execTimeSyncRequest n frac s := rfl
@[simp] theorem exec_timeSyncRequestRx (n : Fin 5) (frac : Fin 32) (turn : Nat) (s : State) : exec (.timeSyncRequestRx n frac turn) s = execTimeSyncRequestRx n frac turn s := rfl
@[simp] theorem exec_timeSyncReply (n : Fin 5) (frac : Fin 32) (t2 t3 : Nat) (ofs : Int) (s : State) : exec (.timeSyncReply n frac t2 t3 ofs) s = execTimeSyncReply n frac t2 t3 ofs s := rfl
@[simp] theorem exec_tbSlewDone (s : State) : exec (.tbSlewDone) s = execTbSlewDone s := rfl
@[simp] theorem exec_shadowState (sh : Shadow) (ok : Bool) (s : State) : exec (.shadowState sh ok) s = execShadowState sh ok s := rfl
@[simp] theorem exec_plHeartbeatSend (s : State) : exec (.plHeartbeatSend) s = execPlHeartbeatSend s := rfl
@[simp] theorem exec_plHeartbeat (cnt : Fin 16) (driving healthy : Bool) (handover : Option Nat) (s : State) : exec (.plHeartbeat cnt driving healthy handover) s = execPlHeartbeat cnt driving healthy handover s := rfl
@[simp] theorem exec_partnerLost (s : State) : exec (.partnerLost) s = execPartnerLost s := rfl
@[simp] theorem exec_takeoverComplete (s : State) : exec (.takeoverComplete) s = execTakeoverComplete s := rfl
@[simp] theorem exec_driveClaim (m : Fin 64) (T : Nat) (s : State) : exec (.driveClaim m T) s = execDriveClaim m T s := rfl
@[simp] theorem exec_positionSafe (pos : Fin 32) (s : State) : exec (.positionSafe pos) s = execPositionSafe pos s := rfl
@[simp] theorem exec_partnerAbsentReport (s : State) : exec (.partnerAbsentReport) s = execPartnerAbsentReport s := rfl
@[simp] theorem exec_pairUnresolved (s : State) : exec (.pairUnresolved) s = execPairUnresolved s := rfl
@[simp] theorem exec_handover (who : Fin 36) (s : State) : exec (.handover who) s = execHandover who s := rfl
@[simp] theorem exec_handoverApply (s : State) : exec (.handoverApply) s = execHandoverApply s := rfl
@[simp] theorem exec_safetyEvaluation (no nc : BitVec 16) (rbH rbL short : BitVec 4) (srst selfBad : Bool) (mv temp : Int) (s : State) : exec (.safetyEvaluation no nc rbH rbL short srst selfBad mv temp) s = execSafetyEvaluation no nc rbH rbL short srst selfBad mv temp s := rfl
@[simp] theorem exec_islandHeartbeatLoss (s : State) : exec (.islandHeartbeatLoss) s = execIslandHeartbeatLoss s := rfl
@[simp] theorem exec_siChannelAccepted (ch : Fin 9) (high : Bool) (s : State) : exec (.siChannelAccepted ch high) s = execSiChannelAccepted ch high s := rfl
@[simp] theorem exec_testPulse (b stuck : Bool) (own cross : BitVec 4) (s : State) : exec (.testPulse b stuck own cross) s = execTestPulse b stuck own cross s := rfl
@[simp] theorem exec_discrepancy (x : Fin 4) (s : State) : exec (.discrepancy x) s = execDiscrepancy x s := rfl
@[simp] theorem exec_soOffPulseTest (x : Fin 4) (low ok : Bool) (s : State) : exec (.soOffPulseTest x low ok) s = execSoOffPulseTest x low ok s := rfl
@[simp] theorem exec_soPrecloseTest (x : Fin 4) (ok : Bool) (s : State) : exec (.soPrecloseTest x ok) s = execSoPrecloseTest x ok s := rfl
@[simp] theorem exec_soStuck (x : Fin 4) (s : State) : exec (.soStuck x) s = execSoStuck x s := rfl
@[simp] theorem exec_soOpenFail (x : Fin 4) (s : State) : exec (.soOpenFail x) s = execSoOpenFail x s := rfl
@[simp] theorem exec_srstEdge (s : State) : exec (.srstEdge) s = execSrstEdge s := rfl
@[simp] theorem exec_srstStuck (s : State) : exec (.srstStuck) s = execSrstStuck s := rfl
@[simp] theorem exec_soAutoRestart (x : Fin 4) (s : State) : exec (.soAutoRestart x) s = execSoAutoRestart x s := rfl
@[simp] theorem exec_safetyPduSend (n : Fin 64) (s : State) : exec (.safetyPduSend n) s = execSafetyPduSend n s := rfl
@[simp] theorem exec_safetyPdu (ctrl : Option (Fin 4)) (src : Nat) (conn ver : Fin 256) (seq : Fin 65536) (sig stat : BitVec 8) (chk : BitVec 32) (s : State) : exec (.safetyPdu ctrl src conn ver seq sig stat chk) s = execSafetyPdu ctrl src conn ver seq sig stat chk s := rfl
@[simp] theorem exec_connTimeout (n : Fin 64) (s : State) : exec (.connTimeout n) s = execConnTimeout n s := rfl
@[simp] theorem exec_tlsHandshake (c : Cred) (s : State) : exec (.tlsHandshake c) s = execTlsHandshake c s := rfl
@[simp] theorem exec_tlsIdleTimeout (k : Fin 4) (s : State) : exec (.tlsIdleTimeout k) s = execTlsIdleTimeout k s := rfl
@[simp] theorem exec_tlsLifetimeEnd (k : Fin 4) (s : State) : exec (.tlsLifetimeEnd k) s = execTlsLifetimeEnd k s := rfl
@[simp] theorem exec_tlsKeyUpdate (k : Fin 4) (rx : Bool) (s : State) : exec (.tlsKeyUpdate k rx) s = execTlsKeyUpdate k rx s := rfl
@[simp] theorem exec_rapSession (ctrl : Fin 4) (addr : Fin 256) (m : SessMsg) (s : State) : exec (.rapSession ctrl addr m) s = execRapSession ctrl addr m s := rfl
@[simp] theorem exec_canSessionRekey (who : Fin 36) (s : State) : exec (.canSessionRekey who) s = execCanSessionRekey who s := rfl
@[simp] theorem exec_ttHwmStore (s : State) : exec (.ttHwmStore) s = execTtHwmStore s := rfl
@[simp] theorem exec_enrollOwner (who : Fin 36) (s : State) : exec (.enrollOwner who) s = execEnrollOwner who s := rfl
@[simp] theorem exec_bindLivery (who : Fin 36) (s : State) : exec (.bindLivery who) s = execBindLivery who s := rfl
@[simp] theorem exec_selectLivery (who : Fin 36) (s : State) : exec (.selectLivery who) s = execSelectLivery who s := rfl
@[simp] theorem exec_installLease (who : Fin 36) (s : State) : exec (.installLease who) s = execInstallLease who s := rfl
@[simp] theorem exec_revokeLease (who : Fin 36) (s : State) : exec (.revokeLease who) s = execRevokeLease who s := rfl
@[simp] theorem exec_closeLease (who : Fin 36) (s : State) : exec (.closeLease who) s = execCloseLease who s := rfl
@[simp] theorem exec_leaseExpiry (m : Fin 8) (s : State) : exec (.leaseExpiry m) s = execLeaseExpiry m s := rfl
@[simp] theorem exec_transfer (who : Fin 36) (s : State) : exec (.transfer who) s = execTransfer who s := rfl
@[simp] theorem exec_transferApply (s : State) : exec (.transferApply) s = execTransferApply s := rfl
@[simp] theorem exec_reclaim (who : Fin 36) (s : State) : exec (.reclaim who) s = execReclaim who s := rfl
@[simp] theorem exec_unlock (who : Fin 36) (s : State) : exec (.unlock who) s = execUnlock who s := rfl
@[simp] theorem exec_relock (who : Fin 36) (s : State) : exec (.relock who) s = execRelock who s := rfl
@[simp] theorem exec_unlockExpiry (s : State) : exec (.unlockExpiry) s = execUnlockExpiry s := rfl
@[simp] theorem exec_tskRotation (s : State) : exec (.tskRotation) s = execTskRotation s := rfl
@[simp] theorem exec_brdChalRead (who : Fin 36) (s : State) : exec (.brdChalRead who) s = execBrdChalRead who s := rfl
@[simp] theorem exec_stbChalRead (who : Fin 36) (s : State) : exec (.stbChalRead who) s = execStbChalRead who s := rfl
@[simp] theorem exec_laneSlice (loop : Bool) (s : State) : exec (.laneSlice loop) s = execLaneSlice loop s := rfl
@[simp] theorem exec_laneSliceResult (loop ok : Bool) (sig : Word) (w : Test2) (s : State) : exec (.laneSliceResult loop ok sig w) s = execLaneSliceResult loop ok sig w s := rfl
@[simp] theorem exec_navCoreSlice (core : Fin 8) (t : Test2) (s : State) : exec (.navCoreSlice core t) s = execNavCoreSlice core t s := rfl
@[simp] theorem exec_acqTileSlice (tile : Fin 18) (t : Test2) (s : State) : exec (.acqTileSlice tile t) s = execAcqTileSlice tile t s := rfl
@[simp] theorem exec_trkBankSlice (bank : Fin 12) (t : Test2) (s : State) : exec (.trkBankSlice bank t) s = execTrkBankSlice bank t s := rfl
@[simp] theorem exec_sramRowTest (m : Fin 48) (row : Fin 512) (t : Test2) (s : State) : exec (.sramRowTest m row t) s = execSramRowTest m row t s := rfl
@[simp] theorem exec_dramPageTest (page bank row : Nat) (t : Test2) (s : State) : exec (.dramPageTest page bank row t) s = execDramPageTest page bank row t s := rfl
@[simp] theorem exec_curAdcReference (c : Fin 12) (code : BitVec 12) (s : State) : exec (.curAdcReference c code) s = execCurAdcReference c code s := rfl
@[simp] theorem exec_ainResample (n : Fin 16) (code : BitVec 16) (s : State) : exec (.ainResample n code) s = execAinResample n code s := rfl
@[simp] theorem exec_retest (who : Fin 36) (kind : Fin 16) (index : Fin 512) (t : Test2) (s : State) : exec (.retest who kind index t) s = execRetest who kind index t s := rfl
@[simp] theorem exec_farrierPause (who : Fin 36) (s : State) : exec (.farrierPause who) s = execFarrierPause who s := rfl
@[simp] theorem exec_farrierResume (who : Fin 36) (s : State) : exec (.farrierResume who) s = execFarrierResume who s := rfl
@[simp] theorem exec_recordWrite (s : State) : exec (.recordWrite) s = execRecordWrite s := rfl
@[simp] theorem exec_droppedRecord (s : State) : exec (.droppedRecord) s = execDroppedRecord s := rfl
@[simp] theorem exec_tbMark (s : State) : exec (.tbMark) s = execTbMark s := rfl
@[simp] theorem exec_optSave (s : State) : exec (.optSave) s = execOptSave s := rfl
@[simp] theorem exec_freeze (who : Fin 36) (s : State) : exec (.freeze who) s = execFreeze who s := rfl
@[simp] theorem exec_unfreeze (who : Fin 36) (s : State) : exec (.unfreeze who) s = execUnfreeze who s := rfl
@[simp] theorem exec_freezeTimeout (s : State) : exec (.freezeTimeout) s = execFreezeTimeout s := rfl
@[simp] theorem exec_stbClear (who : Fin 36) (mask : Nat) (p : ClearPermit) (s : State) : exec (.stbClear who mask p) s = execStbClear who mask p s := rfl
@[simp] theorem exec_stbExport (who : Fin 36) (mask : Nat) (s : State) : exec (.stbExport who mask) s = execStbExport who mask s := rfl
@[simp] theorem exec_collect (who : Fin 36) (mask : Nat) (s : State) : exec (.collect who mask) s = execCollect who mask s := rfl
@[simp] theorem exec_collectAnswer (m : Fin 64) (serial first last bytes : Nat) (s : State) : exec (.collectAnswer m serial first last bytes) s = execCollectAnswer m serial first last bytes s := rfl
@[simp] theorem exec_collectTimeout (m : Fin 64) (s : State) : exec (.collectTimeout m) s = execCollectTimeout m s := rfl
@[simp] theorem exec_faultReport (s : State) : exec (.faultReport) s = execFaultReport s := rfl
@[simp] theorem exec_fmHeartbeatLoss (s : State) : exec (.fmHeartbeatLoss) s = execFmHeartbeatLoss s := rfl
@[simp] theorem exec_domainBack (k : Fin 14) (f : FarRun) (s : State) : exec (.domainBack k f) s = execDomainBack k f s := rfl
@[simp] theorem exec_domainLost (k : Fin 12) (s : State) : exec (.domainLost k) s = execDomainLost k s := rfl
@[simp] theorem exec_emmcLifeCheck (a b : Fin 16) (eol : Fin 4) (s : State) : exec (.emmcLifeCheck a b eol) s = execEmmcLifeCheck a b eol s := rfl
@[simp] theorem exec_rapRead (who : Fin 36) (peer : Option (Fin 64)) (tag : Fin 256) (addr : Nat) (n : Fin 64) (s : State) : exec (.rapRead who peer tag addr n) s = execRapRead who peer tag addr n s := rfl
@[simp] theorem exec_rapWrite (who : Fin 36) (peer : Option (Fin 64)) (tag : Fin 256) (addr : Nat) (ws : List Word) (s : State) : exec (.rapWrite who peer tag addr ws) s = execRapWrite who peer tag addr ws s := rfl
@[simp] theorem exec_readLoLatch (who : Fin 36) (addr : Nat) (s : State) : exec (.readLoLatch who addr) s = execReadLoLatch who addr s := rfl
@[simp] theorem exec_blkOpen (who : Fin 36) (peer : Option (Fin 64)) (tag : Fin 256) (obj : Fin 256) (write : Bool) (param len : Nat) (s : State) : exec (.blkOpen who peer tag obj write param len) s = execBlkOpen who peer tag obj write param len s := rfl
@[simp] theorem exec_blkData (who : Fin 36) (peer : Option (Fin 64)) (tag : Fin 256) (h : Fin 256) (off : Nat) (len : Fin 1024) (bytes : List Byte) (s : State) : exec (.blkData who peer tag h off len bytes) s = execBlkData who peer tag h off len bytes s := rfl
@[simp] theorem exec_blkClose (who : Fin 36) (peer : Option (Fin 64)) (tag : Fin 256) (h : Fin 256) (body : BlkBody) (s : State) : exec (.blkClose who peer tag h body) s = execBlkClose who peer tag h body s := rfl
@[simp] theorem exec_rapRelayRequest (src : Fin 64) (sess : Fin 36) (tag : Fin 256) (role : Role) (lease : Option (Fin 8)) (q : RapReq) (s : State) : exec (.rapRelayRequest src sess tag role lease q) s = execRapRelayRequest src sess tag role lease q s := rfl
@[simp] theorem exec_rapRelayResponse (src : Fin 64) (who : Fin 36) (tag : Fin 256) (st : RapStatus) (data : List Int) (s : State) : exec (.rapRelayResponse src who tag st data) s = execRapRelayResponse src who tag st data s := rfl
@[simp] theorem exec_relayTimeout (who : Fin 36) (tag : Fin 256) (s : State) : exec (.relayTimeout who tag) s = execRelayTimeout who tag s := rfl
@[simp] theorem exec_vlogLow (vlog : BitVec 10) (s : State) : exec (.vlogLow vlog) s = execVlogLow vlog s := rfl
@[simp] theorem exec_vlogHigh (vlog : BitVec 10) (s : State) : exec (.vlogHigh vlog) s = execVlogHigh vlog s := rfl
@[simp] theorem exec_wireBreakEnd (ch : Fin 16) (inp : Fin 3) (s : State) : exec (.wireBreakEnd ch inp) s = execWireBreakEnd ch inp s := rfl
@[simp] theorem exec_inertialSilence (s : State) : exec (.inertialSilence) s = execInertialSilence s := rfl
@[simp] theorem exec_lateLimExpiry (ctrl : Fin 4) (slot : Fin 128) (s : State) : exec (.lateLimExpiry ctrl slot) s = execLateLimExpiry ctrl slot s := rfl
@[simp] theorem exec_txTbReached (ctrl : Fin 4) (slot : Fin 128) (s : State) : exec (.txTbReached ctrl slot) s = execTxTbReached ctrl slot s := rfl
@[simp] theorem exec_rekeyTimeout (who : Fin 36) (s : State) : exec (.rekeyTimeout who) s = execRekeyTimeout who s := rfl
@[simp] theorem exec_partnerAck (strip : Option (Fin 96 × Nat)) (shadow : Bool) (s : State) : exec (.partnerAck strip shadow) s = execPartnerAck strip shadow s := rfl
@[simp] theorem exec_leaseFrom (m : Fin 8) (s : State) : exec (.leaseFrom m) s = execLeaseFrom m s := rfl
@[simp] theorem exec_teamRestart (s : State) : exec (.teamRestart) s = execTeamRestart s := rfl
@[simp] theorem exec_tlsError (k : Fin 4) (s : State) : exec (.tlsError k) s = execTlsError k s := rfl

end Sys2Proof.Laws
end

