-- ==== Sys2Proof/Laws/Maps.lean ====
section
/-!
SUPPORT. Laws/Maps.lean: what the operations over sparse maps do, and that each keeps the canonical form.
-/

open Sys2Proof Sys2Proof.Machine

namespace Sys2Proof.Laws

variable {α : Type} {d : Nat → α} {k k' : Nat} {v : α}

theorem smGet_smDel_same (m : List (Nat × α)) : smGet d (smDel k m) k = d k := by
  induction m with
  | nil => rfl
  | cons x m ih =>
    obtain ⟨a, b⟩ := x
    by_cases h : a = k <;> simp [smDel, smGet, h, ih]

theorem smGet_smDel_ne (h : k' ≠ k) (m : List (Nat × α)) : smGet d (smDel k m) k' = smGet d m k' := by
  induction m with
  | nil => rfl
  | cons x m ih =>
    obtain ⟨a, b⟩ := x
    by_cases e : a = k
    · subst e; simp [smDel, smGet, Ne.symm h, ih]
    · simp [smDel, smGet, e, ih]

theorem smGet_smIns_same (m : List (Nat × α)) : smGet d (smIns k v m) k = v := by
  induction m with
  | nil => simp [smIns, smGet]
  | cons x m ih =>
    obtain ⟨a, b⟩ := x
    unfold smIns
    split
    · simp [smGet]
    · split
      · simp [smGet]
      · simp [smGet, *]

theorem smGet_smIns_ne (h : k' ≠ k) (m : List (Nat × α)) : smGet d (smIns k v m) k' = smGet d m k' := by
  induction m with
  | nil => simp [smIns, smGet, Ne.symm h]
  | cons x m ih =>
    obtain ⟨a, b⟩ := x
    unfold smIns
    split
    · simp [smGet, Ne.symm h]
    · split
      · next e => subst e; simp [smGet, Ne.symm h]
      · simp [smGet, ih]

/-- A write is read back. -/
theorem smGet_smSet_same [DecidableEq α] (m : List (Nat × α)) : smGet d (smSet d k v m) k = v := by
  unfold smSet
  split
  · next e => rw [smGet_smDel_same, e]
  · exact smGet_smIns_same m

/-- A write leaves every other key alone. -/
theorem smGet_smSet_ne [DecidableEq α] (h : k' ≠ k) (m : List (Nat × α)) : smGet d (smSet d k v m) k' = smGet d m k' := by
  unfold smSet
  split
  · exact smGet_smDel_ne h m
  · exact smGet_smIns_ne h m

/-- The canonical form, said of all entries at once. -/
theorem smWf_iff [DecidableEq α] (m : List (Nat × α)) :
    smWf d m = true ↔ (∀ x ∈ m, x.2 ≠ d x.1) ∧ m.Pairwise (fun a b => a.1 < b.1) := by
  induction m with
  | nil => simp [smWf]
  | cons x m ih =>
    obtain ⟨a, b⟩ := x
    cases m with
    | nil => simp [smWf]
    | cons y m =>
      obtain ⟨a', b'⟩ := y
      rw [smWf]
      simp only [Bool.and_eq_true, decide_eq_true_eq, ih]
      constructor
      · rintro ⟨⟨hb, hlt⟩, hd, hp⟩
        refine ⟨?_, ?_⟩
        · intro z hz
          rcases List.mem_cons.1 hz with rfl | hz
          · exact hb
          · exact hd z hz
        · refine List.pairwise_cons.2 ⟨?_, hp⟩
          intro z hz
          rcases List.mem_cons.1 hz with rfl | hz
          · exact hlt
          · exact Nat.lt_trans hlt ((List.pairwise_cons.1 hp).1 z hz)
      · rintro ⟨hd, hp⟩
        have hp' := List.pairwise_cons.1 hp
        exact ⟨⟨hd (a, b) (by simp), hp'.1 (a', b') (by simp)⟩, fun z hz => hd z (List.mem_cons_of_mem _ hz), hp'.2⟩

theorem mem_smDel {x : Nat × α} {m : List (Nat × α)} : x ∈ smDel k m ↔ x ∈ m ∧ x.1 ≠ k := by
  induction m with
  | nil => simp [smDel]
  | cons y m ih =>
    obtain ⟨a, b⟩ := y
    by_cases h : a = k
    · subst h
      simp only [smDel, if_pos, ih, List.mem_cons]
      constructor
      · rintro ⟨h1, h2⟩; exact ⟨.inr h1, h2⟩
      · rintro ⟨rfl | h1, h2⟩
        · exact absurd rfl h2
        · exact ⟨h1, h2⟩
    · simp only [smDel, h, if_false, List.mem_cons, ih]
      constructor
      · rintro (rfl | ⟨h1, h2⟩)
        · exact ⟨.inl rfl, h⟩
        · exact ⟨.inr h1, h2⟩
      · rintro ⟨rfl | h1, h2⟩
        · exact .inl rfl
        · exact .inr ⟨h1, h2⟩

theorem smDel_sublist (m : List (Nat × α)) : (smDel k m).Sublist m := by
  induction m with
  | nil => exact List.Sublist.refl _
  | cons y m ih =>
    obtain ⟨a, b⟩ := y
    by_cases h : a = k
    · simpa [smDel, h] using ih.cons (a, b)
    · simpa [smDel, h] using ih.cons_cons (a, b)

theorem mem_smIns {x : Nat × α} {m : List (Nat × α)} (h : x ∈ smIns k v m) : x = (k, v) ∨ x ∈ m := by
  induction m with
  | nil => simpa [smIns] using h
  | cons y m ih =>
    obtain ⟨a, b⟩ := y
    unfold smIns at h
    split at h
    · simpa using h
    · split at h
      · rcases List.mem_cons.1 h with h | h
        · exact .inl h
        · exact .inr (List.mem_cons_of_mem _ h)
      · rcases List.mem_cons.1 h with h | h
        · exact .inr (by simp [h])
        · rcases ih h with h | h
          · exact .inl h
          · exact .inr (List.mem_cons_of_mem _ h)

theorem smIns_pairwise {m : List (Nat × α)} (h : m.Pairwise (fun a b => a.1 < b.1)) :
    (smIns k v m).Pairwise (fun a b => a.1 < b.1) := by
  induction m with
  | nil => simp [smIns]
  | cons y m ih =>
    obtain ⟨a, b⟩ := y
    have h' := List.pairwise_cons.1 h
    unfold smIns
    split
    · next e =>
      refine List.pairwise_cons.2 ⟨?_, h⟩
      intro z hz
      rcases List.mem_cons.1 hz with rfl | hz
      · exact e
      · exact Nat.lt_trans e (h'.1 z hz)
    · split
      · next e => subst e; exact List.pairwise_cons.2 ⟨h'.1, h'.2⟩
      · next e1 e2 =>
        refine List.pairwise_cons.2 ⟨?_, ih h'.2⟩
        intro z hz
        rcases mem_smIns hz with rfl | hz
        · show a < k; omega
        · exact h'.1 z hz

/-- A write keeps the canonical form. -/
theorem smWf_smSet [DecidableEq α] {m : List (Nat × α)} (h : smWf d m = true) : smWf d (smSet d k v m) = true := by
  rw [smWf_iff] at h ⊢
  unfold smSet
  split
  · exact ⟨fun x hx => h.1 x (mem_smDel.1 hx).1, h.2.sublist (smDel_sublist m)⟩
  · next e =>
    refine ⟨?_, smIns_pairwise h.2⟩
    intro x hx
    rcases mem_smIns hx with rfl | hx
    · exact e
    · exact h.1 x hx

/-- Dropping entries keeps the canonical form. -/
theorem smWf_filter [DecidableEq α] {m : List (Nat × α)} (p : Nat × α → Bool) (h : smWf d m = true) : smWf d (m.filter p) = true := by
  rw [smWf_iff] at h ⊢
  exact ⟨fun x hx => h.1 x (List.mem_filter.1 hx).1, h.2.sublist List.filter_sublist⟩

end Sys2Proof.Laws
end

