-- ==== Sys2Proof/Laws/Kept.lean ====
section
/-!
SUPPORT. Laws/Kept.lean: what every operation of the model keeps from the state a command starts in: the queue, the messages sent so far, the
count of free values used, the canonical register file, and the two anti-rollback counts in OTP (R46, R468), which never fall.
-/

open Sys2Proof Sys2Proof.Machine

namespace Sys2Proof.Laws

/-- What no operation of a command may undo. -/
structure Kept (s t : State) : Prop where
  pending : t.pending = s.pending
  sent : s.sent <+: t.sent
  free : s.freeCnt ≤ t.freeCnt
  regs : smWf resetWord s.regs = true → smWf resetWord t.regs = true
  svn : s.img.otpSvn ≤ t.img.otpSvn
  fwSvn : s.pwr.otpFwSvn ≤ t.pwr.otpFwSvn

/-- Where a command answers a next state, it has kept them. -/
structure KeptOut (s : State) (o : Host.Outcome State Fault Refusal) : Prop where
  next : ∀ t, o = .next t → Kept s t

theorem kept_refl (s : State) : Kept s s := ⟨rfl, List.prefix_refl _, Nat.le_refl _, id, Nat.le_refl _, Nat.le_refl _⟩

theorem Kept.trans {s t u : State} (h : Kept s t) (g : Kept t u) : Kept s u :=
  ⟨g.pending.trans h.pending, h.sent.trans g.sent, Nat.le_trans h.free g.free, fun r => g.regs (h.regs r),
    Nat.le_trans h.svn g.svn, Nat.le_trans h.fwSvn g.fwSvn⟩

theorem keptOut_next {s t : State} (h : Kept s t) : KeptOut s (.next t) := by
  constructor; intro u e; cases e; exact h

theorem keptOut_fault {s : State} (f : Fault) : KeptOut s (.fault f) := by
  constructor; intro u e; cases e

theorem keptOut_refused {s : State} (r : Refusal) : KeptOut s (.refused r) := by
  constructor; intro u e; cases e

/-- What Kept says of the fields it speaks of. -/
def KeptD (s : State) (p : List Instr) (r : List (Nat × Word)) (m : List Msg) (c svn fw : Nat) : Prop :=
  p = s.pending ∧ s.sent <+: m ∧ s.freeCnt ≤ c ∧ (smWf resetWord s.regs = true → smWf resetWord r = true) ∧ s.img.otpSvn ≤ svn ∧
    s.pwr.otpFwSvn ≤ fw

theorem kept_mk {s : State} {pending : List Instr} {regs : List (Nat × Word)} {tb : Nat} {pwr : Pwr} {img : Img} {cfg : Cfg} {geo : Geo}
    {fbi : Fbi} {gns : Gns} {pos : Pos} {str : Str} {saf : Saf} {cov : Cov} {pwm : Machine.Pwm} {lsw : Lsw} {ctl : Ctl} {can : Can} {team : Team}
    {brd : Brd} {far : Far} {stb : Stb} {flt : Flt} {rap : Rap} {sent : List Msg} {freeCnt : Nat} :
    Kept s ⟨pending, regs, tb, pwr, img, cfg, geo, fbi, gns, pos, str, saf, cov, pwm, lsw, ctl, can, team, brd, far, stb, flt, rap, sent, freeCnt⟩
      ↔ KeptD s pending regs sent freeCnt img.otpSvn pwr.otpFwSvn :=
  ⟨fun h => ⟨h.pending, h.sent, h.free, h.regs, h.svn, h.fwSvn⟩, fun ⟨h1, h2, h3, h4, h5, h6⟩ => ⟨h1, h2, h3, h4, h5, h6⟩⟩

/-- An update of any other field keeps them. -/
theorem keptD_of {s t : State} {svn fw : Nat} (h : Kept s t) (hi : svn = t.img.otpSvn) (hw : fw = t.pwr.otpFwSvn) :
    KeptD s t.pending t.regs t.sent t.freeCnt svn fw :=
  ⟨h.pending, h.sent, h.free, h.regs, hi ▸ h.svn, hw ▸ h.fwSvn⟩

theorem keptD_free {s t : State} {n : Nat} (h : Kept s t) :
    KeptD s t.pending t.regs t.sent (t.freeCnt + n) t.img.otpSvn t.pwr.otpFwSvn :=
  ⟨h.pending, h.sent, Nat.le_trans h.free (Nat.le_add_right _ _), h.regs, h.svn, h.fwSvn⟩

theorem kept_ite {s t u : State} {c : Prop} [Decidable c] (h : Kept s t) (g : Kept s u) : Kept s (if c then t else u) := by
  split
  · exact h
  · exact g

theorem kept_rset {s0 s : State} {a : Nat} {w : Word} (h : Kept s0 s) : Kept s0 (rset s a w) :=
  ⟨h.pending, h.sent, h.free, fun r => smWf_smSet (h.regs r), h.svn, h.fwSvn⟩

theorem kept_rclear {s0 s : State} {p : Nat → Bool} (h : Kept s0 s) : Kept s0 (rclear s p) :=
  ⟨h.pending, h.sent, h.free, fun r => smWf_filter _ (h.regs r), h.svn, h.fwSvn⟩

theorem kept_rsetAll {s0 : State} (l : List (Nat × Word)) : ∀ {s : State}, Kept s0 s → Kept s0 (rsetAll s l) := by
  induction l with
  | nil => intro s h; exact h
  | cons x l ih => intro s h; exact ih (kept_rset h)

theorem kept_forEach {α : Type} {s0 : State} {l : List α} {f : α → State → State} (hf : ∀ x t, Kept s0 t → Kept s0 (f x t)) :
    ∀ {s : State}, Kept s0 s → Kept s0 (forEach l f s) := by
  unfold forEach
  induction l with
  | nil => intro s h; exact h
  | cons x l ih => intro s h; exact ih (hf x s h)

theorem kept_forN {s0 : State} {n : Nat} {f : Nat → State → State} (hf : ∀ x t, Kept s0 t → Kept s0 (f x t)) {s : State} (h : Kept s0 s) :
    Kept s0 (forN n f s) := kept_forEach (l := List.range n) hf h

theorem kept_foldl {α : Type} {s0 : State} {l : List α} {f : State → α → State} (hf : ∀ x t, Kept s0 t → Kept s0 (f t x)) :
    ∀ {s : State}, Kept s0 s → Kept s0 (l.foldl f s) := by
  induction l with
  | nil => intro s h; exact h
  | cons x l ih => intro s h; exact ih (hf x s h)

theorem kept_foldl2 {α β : Type} {s0 : State} {l : List α} {f : β × State → α → β × State}
    (hf : ∀ x p, Kept s0 p.2 → Kept s0 (f p x).2) : ∀ {p : β × State}, Kept s0 p.2 → Kept s0 (l.foldl f p).2 := by
  induction l with
  | nil => intro p h; exact h
  | cons x l ih => intro p h; exact ih (hf x p h)

theorem kept_foldl1 {α β : Type} {s0 : State} {l : List α} {f : State × β → α → State × β}
    (hf : ∀ x p, Kept s0 p.1 → Kept s0 (f p x).1) : ∀ {p : State × β}, Kept s0 p.1 → Kept s0 (l.foldl f p).1 := by
  induction l with
  | nil => intro p h; exact h
  | cons x l ih => intro p h; exact ih (hf x p h)

theorem kept_whenB {s0 : State} {c : Bool} {f : State → State} (hf : ∀ t, Kept s0 t → Kept s0 (f t)) {s : State} (h : Kept s0 s) :
    Kept s0 (whenB c f s) := by
  unfold whenB; split
  · exact hf s h
  · exact h

theorem kept_send {s0 s : State} {k : MsgKind} {dst : Nat} {args : List Int} (h : Kept s0 s) : Kept s0 (send s k dst args) :=
  ⟨h.pending, h.sent.trans (List.prefix_append _ _), h.free, h.regs, h.svn, h.fwSvn⟩

theorem kept_freeNext {s0 s : State} (h : Kept s0 s) : Kept s0 (freeNext s) :=
  ⟨h.pending, h.sent, Nat.le_succ_of_le h.free, h.regs, h.svn, h.fwSvn⟩

end Sys2Proof.Laws
end

