-- ==== Sys2Proof/Laws/KeptOps.lean ====
section
/-!
SUPPORT. Laws/KeptOps.lean: each operation of Machine/Ops.lean keeps what Laws/Kept.lean lists.
-/

set_option linter.unusedVariables false
set_option linter.unusedTactic false
set_option linter.unreachableTactic false

open Sys2Proof Sys2Proof.Machine

namespace Sys2Proof.Laws

theorem kept_fset {base : State} {s : State} {a : Nat} {f : Fld} {v : Nat} (h : Kept base s) :
    Kept base (fset s a f v) := by
  unfold fset
  try dsimp only
  with_reducible
    repeat' first
      | assumption | apply kept_rset

theorem kept_fsetb {base : State} {s : State} {a : Nat} {f : Fld} {b : Bool} (h : Kept base s) :
    Kept base (fsetb s a f b) := by
  unfold fsetb
  try dsimp only
  with_reducible
    repeat' first
      | assumption | apply kept_fset

theorem kept_fincSat {base : State} {s : State} {a : Nat} {f : Fld} (h : Kept base s) :
    Kept base (fincSat s a f) := by
  unfold fincSat
  try dsimp only
  with_reducible
    repeat' first
      | assumption | apply kept_fset

theorem kept_faddSat {base : State} {s : State} {a : Nat} {f : Fld} {n : Nat} (h : Kept base s) :
    Kept base (faddSat s a f n) := by
  unfold faddSat
  try dsimp only
  with_reducible
    repeat' first
      | assumption | apply kept_fset

theorem kept_fincWrap {base : State} {s : State} {a : Nat} {f : Fld} (h : Kept base s) :
    Kept base (fincWrap s a f) := by
  unfold fincWrap
  try dsimp only
  with_reducible
    repeat' first
      | assumption | apply kept_fset

theorem kept_faddWrap {base : State} {s : State} {a : Nat} {f : Fld} {n : Nat} (h : Kept base s) :
    Kept base (faddWrap s a f n) := by
  unfold faddWrap
  try dsimp only
  with_reducible
    repeat' first
      | assumption | apply kept_fset

theorem kept_rsetN {base : State} {s : State} {a : Nat} {v : Nat} (h : Kept base s) :
    Kept base (rsetN s a v) := by
  unfold rsetN
  try dsimp only
  with_reducible
    repeat' first
      | assumption | apply kept_rset

theorem kept_rset64 {base : State} {s : State} {lo hi : Nat} {v : Nat} (h : Kept base s) :
    Kept base (rset64 s lo hi v) := by
  unfold rset64
  try dsimp only
  with_reducible
    repeat' first
      | assumption | apply kept_rsetN

theorem kept_domSet {base : State} {s : State} {d : Nat} {b : Bool} (h : Kept base s) :
    Kept base (domSet s d b) := by
  unfold domSet
  try dsimp only
  with_reducible
    repeat' first
      | assumption | apply kept_fset

theorem kept_recRaise {base : State} {s : State} {isFault : Bool} {e : Ev} {args : List Int} (h : Kept base s) :
    Kept base (recRaise s isFault e args) := by
  unfold recRaise
  try dsimp only
  with_reducible
    repeat' first
      | assumption | apply kept_ite | simp only [kept_mk] | apply keptD_of | rfl | split

theorem kept_raise {base : State} {s : State} {e : Ev} {args : List Int} (h : Kept base s) :
    Kept base (raise s e args) := by
  unfold raise
  try dsimp only
  with_reducible
    repeat' first
      | assumption | apply kept_recRaise

theorem kept_report {base : State} {e : Ev} {args : List Int} {cls : Nat} {onset : Bool} {s : State} (h : Kept base s) :
    Kept base (report e args cls onset s) := by
  unfold report
  try dsimp only
  with_reducible
    repeat' first
      | assumption | simp only [kept_mk] | apply keptD_of | rfl

theorem kept_faultCls {base : State} {s : State} {e : Ev} {args : List Int} {cls : Nat} (h : Kept base s) :
    Kept base (faultCls s e args cls) := by
  unfold faultCls
  try dsimp only
  with_reducible
    repeat' first
      | assumption | apply kept_report | apply kept_recRaise

theorem kept_fault {base : State} {s : State} {e : Ev} {args : List Int} (h : Kept base s) :
    Kept base (fault s e args) := by
  unfold fault
  try dsimp only
  with_reducible
    repeat' first
      | assumption | apply kept_faultCls

theorem kept_faultOver {base : State} {s : State} {e : Ev} {args : List Int} (h : Kept base s) :
    Kept base (faultOver s e args) := by
  unfold faultOver
  try dsimp only
  with_reducible
    repeat' first
      | assumption | apply kept_report

theorem kept_faultOnce {base : State} {s : State} {e : Ev} {args : List Int} (h : Kept base s) :
    Kept base (faultOnce s e args) := by
  unfold faultOnce
  try dsimp only
  with_reducible
    repeat' first
      | assumption | apply kept_faultOver | apply kept_fault

theorem kept_faultPast {base : State} {s : State} {e : Ev} {args : List Int} (h : Kept base s) :
    Kept base (faultPast s e args) := by
  unfold faultPast
  try dsimp only
  with_reducible
    repeat' first
      | assumption | apply kept_faultOver | apply kept_ite | split

theorem kept_faultEnd {base : State} {s : State} {e : Ev} {args : List Int} (h : Kept base s) :
    Kept base (faultEnd s e args) := by
  unfold faultEnd
  try dsimp only
  with_reducible
    repeat' first
      | assumption | apply kept_report | apply kept_recRaise

end Sys2Proof.Laws
end

