-- ==== Sys2Proof/Laws/KeptAccess.lean ====
section
/-!
SUPPORT. Laws/KeptAccess.lean: each operation of Machine/Access.lean keeps what Laws/Kept.lean lists.
-/

set_option linter.unusedVariables false
set_option linter.unusedTactic false
set_option linter.unreachableTactic false

open Sys2Proof Sys2Proof.Machine

namespace Sys2Proof.Laws

theorem kept_setSess {base : State} {k : Nat} {x : Sess} {s : State} (h : Kept base s) :
    Kept base (setSess k x s) := by
  unfold setSess
  try dsimp only
  with_reducible
    repeat' first
      | assumption | simp only [kept_mk] | apply keptD_of | rfl

theorem kept_sessTouch {base : State} {s : State} {who : Nat} (h : Kept base s) :
    Kept base (sessTouch s who) := by
  unfold sessTouch
  try dsimp only
  with_reducible
    repeat' first
      | assumption | apply kept_setSess | apply kept_ite | simp only [kept_mk] | apply keptD_of | rfl | split

theorem kept_setCan {base : State} {c : Nat} {x : CanCtl} {s : State} (h : Kept base s) :
    Kept base (setCan c x s) := by
  unfold setCan
  try dsimp only
  with_reducible
    repeat' first
      | assumption | simp only [kept_mk] | apply keptD_of | rfl

theorem kept_canTake {base : State} {c k : Nat} {s : State} (h : Kept base s) :
    Kept base (canTake c k s) := by
  unfold canTake
  try dsimp only
  with_reducible
    repeat' first
      | assumption | apply kept_setCan | simp only [kept_mk] | apply keptD_of | rfl | split

theorem kept_rapAnswer {base : State} {s : State} {who : Nat} {st : RapStatus} {data : List Int} (h : Kept base s) :
    Kept base (rapAnswer s who st data) := by
  unfold rapAnswer
  try dsimp only
  with_reducible
    repeat' first
      | assumption | apply kept_canTake | apply kept_sessTouch | apply kept_send | apply kept_ite | simp only [kept_mk] | apply keptD_of | rfl
      | exact keptOut_refused _ | simp only [id_eq] | split

theorem kept_writeDenied {base : State} {s : State} {r : Role} {reg : Nat} (h : Kept base s) :
    Kept base (writeDenied s r reg) := by
  unfold writeDenied
  try dsimp only
  with_reducible
    repeat' first
      | assumption | apply kept_raise

theorem kept_gapLease {base : State} {s : State} (h : Kept base s) :
    Kept base (gapLease s) := by
  unfold gapLease
  try dsimp only
  with_reducible
    repeat' first
      | assumption | intro _ | apply kept_ite | simp only [kept_mk] | apply keptD_of | rfl | split

theorem kept_rapRefuse {base : State} {s : State} {who dom reg : Nat} {act : Act} (h : Kept base s) :
    Kept base (rapRefuse s who dom reg act) := by
  unfold rapRefuse
  try dsimp only
  with_reducible
    repeat' first
      | assumption | apply kept_rapAnswer | apply kept_writeDenied | apply kept_domainOff | apply kept_ite | simp only [kept_mk] | apply keptD_of
      | rfl | split

theorem kept_rapDo {base : State} {s : State} {who : Nat} {act : Act} {dom reg : Nat} {f : State → State} (hf : ∀  t, Kept base t → Kept base (f  t)) (h : Kept base s) :
    Kept base (rapDo s who act dom reg f) := by
  unfold rapDo
  try dsimp only
  with_reducible
    repeat' first
      | assumption | intro _ | apply hf | apply kept_rapAnswer | apply kept_rapRefuse | apply kept_ite | split

theorem kept_toLeader {base : State} {s : State} {k : MsgKind} {args : List Int} (h : Kept base s) :
    Kept base (toLeader s k args) := by
  unfold toLeader
  try dsimp only
  with_reducible
    repeat' first
      | assumption | apply kept_send | apply kept_ite | split

theorem kept_toTeam {base : State} {s : State} {k : MsgKind} {args : List Int} (h : Kept base s) :
    Kept base (toTeam s k args) := by
  unfold toTeam
  try dsimp only
  with_reducible
    repeat' first
      | assumption | intro _ | apply kept_forEach | apply kept_send

end Sys2Proof.Laws
end

