-- ==== Sys2Proof/Laws/KeptChannels.lean ====
section
/-!
SUPPORT. Laws/KeptChannels.lean: each operation of Machine/Channels.lean keeps what Laws/Kept.lean lists.
-/

set_option linter.unusedVariables false
set_option linter.unusedTactic false
set_option linter.unreachableTactic false

open Sys2Proof Sys2Proof.Machine

namespace Sys2Proof.Laws

theorem kept_setCh {base : State} {s : State} {n : Nat} {c : ChSt} (h : Kept base s) :
    Kept base (setCh s n c) := by
  unfold setCh
  try dsimp only
  with_reducible
    repeat' first
      | assumption | simp only [kept_mk] | apply keptD_of | rfl

end Sys2Proof.Laws
end

