-- ==== Sys2Proof/Laws/KeptAlley.lean ====
section
/-!
SUPPORT. Laws/KeptAlley.lean: each operation of Machine/Alley.lean keeps what Laws/Kept.lean lists.
-/

set_option linter.unusedVariables false
set_option linter.unusedTactic false
set_option linter.unreachableTactic false

open Sys2Proof Sys2Proof.Machine

namespace Sys2Proof.Laws

theorem kept_alleyAdapt {base : State} {m : Nat} {centre : Int} {s : State} (h : Kept base s) :
    Kept base (alleyAdapt m centre s) := by
  unfold alleyAdapt
  try dsimp only
  with_reducible
    repeat' first
      | assumption | apply kept_rsetN | apply kept_fincSat | apply kept_ite | simp only [kept_mk] | apply keptD_of | rfl | split

theorem kept_alleyMagnet {base : State} {n : Nat} {centre : Int} {_ct : Nat} {s : State} (h : Kept base s) :
    Kept base (alleyMagnet n centre _ct s) := by
  unfold alleyMagnet
  try dsimp only
  with_reducible
    repeat' first
      | assumption | apply kept_fincSat | apply kept_alleyAdapt | apply kept_fset | apply kept_fsetb | apply kept_ite | simp only [kept_mk]
      | apply keptD_of | rfl | split

theorem kept_alleyBoundary {base : State} {s : State} (h : Kept base s) :
    Kept base (alleyBoundary s) := by
  unfold alleyBoundary
  try dsimp only
  with_reducible
    repeat' first
      | assumption | apply kept_fsetb | apply kept_rsetN | apply kept_ite | simp only [kept_mk] | apply keptD_of | rfl | split

theorem kept_platIndex {base : State} {n : Nat} {s : State} (h : Kept base s) :
    Kept base (platIndex n s) := by
  unfold platIndex
  try dsimp only
  with_reducible
    repeat' first
      | assumption | apply kept_fincWrap | apply kept_ite | simp only [kept_mk] | apply keptD_of | rfl | split

theorem kept_platBoundary {base : State} {s : State} (h : Kept base s) :
    Kept base (platBoundary s) := by
  unfold platBoundary
  try dsimp only
  with_reducible
    repeat' first
      | assumption | apply kept_fset | apply kept_fsetb

end Sys2Proof.Laws
end

