-- ==== Sys2Proof/Laws/KeptSafeOut.lean ====
section
/-!
SUPPORT. Laws/KeptSafeOut.lean: each operation of Machine/SafeOut.lean keeps what Laws/Kept.lean lists.
-/

set_option linter.unusedVariables false
set_option linter.unusedTactic false
set_option linter.unreachableTactic false

open Sys2Proof Sys2Proof.Machine

namespace Sys2Proof.Laws

theorem kept_setSo {base : State} {x : Nat} {o : SafSo} {s : State} (h : Kept base s) :
    Kept base (setSo x o s) := by
  unfold setSo
  try dsimp only
  with_reducible
    repeat' first
      | assumption | simp only [kept_mk] | apply keptD_of | rfl

theorem kept_soShow {base : State} {s : State} (h : Kept base s) :
    Kept base (soShow s) := by
  unfold soShow
  try dsimp only
  with_reducible
    repeat' first
      | assumption | intro _ | apply kept_fset | apply kept_foldl | apply kept_foldl2 | apply kept_foldl1 | apply kept_ite | split

theorem kept_soOpen {base : State} {x : Nat} {s : State} (h : Kept base s) :
    Kept base (soOpen x s) := by
  unfold soOpen
  try dsimp only
  with_reducible
    repeat' first
      | assumption | apply kept_fsetb | apply kept_setSo | apply kept_soShow | apply kept_fincSat | apply kept_ite | simp only [kept_mk]
      | apply keptD_of | rfl | split

theorem kept_l0Open {base : State} {s : State} (h : Kept base s) :
    Kept base (l0Open s) := by
  unfold l0Open
  try dsimp only
  with_reducible
    repeat' first
      | assumption | intro _ | apply kept_forN | apply kept_soOpen | apply kept_ite | split

end Sys2Proof.Laws
end

