-- ==== Sys2Proof/Laws/KeptGeometry.lean ====
section
/-!
SUPPORT. Laws/KeptGeometry.lean: each operation of Machine/Geometry.lean keeps what Laws/Kept.lean lists.
-/

set_option linter.unusedVariables false
set_option linter.unusedTactic false
set_option linter.unreachableTactic false

open Sys2Proof Sys2Proof.Machine

namespace Sys2Proof.Laws

theorem kept_setLink {base : State} {s : State} {n : Nat} {l : LinkSt} (h : Kept base s) :
    Kept base (setLink s n l) := by
  unfold setLink
  try dsimp only
  with_reducible
    repeat' first
      | assumption | simp only [kept_mk] | apply keptD_of | rfl

theorem kept_jointSample {base : State} {src : JointSrc} {only : Option Nat} {s : State} (h : Kept base s) :
    Kept base (jointSample src only s) := by
  unfold jointSample
  try dsimp only
  with_reducible
    repeat' first
      | assumption | intro _ | apply kept_forEach | apply kept_setLink | apply kept_fsetb | apply kept_ite | simp only [kept_mk] | apply keptD_of
      | rfl | split

theorem kept_linkReg {base : State} {s : State} {c l : Nat} (h : Kept base s) :
    Kept base (linkReg s c l) := by
  unfold linkReg
  try dsimp only
  with_reducible
    repeat' first
      | assumption | apply kept_fset | apply kept_fsetb

theorem kept_chainBit {base : State} {s : State} {c : Nat} {b : Bool} (h : Kept base s) :
    Kept base (chainBit s c b) := by
  unfold chainBit
  try dsimp only
  with_reducible
    repeat' first
      | assumption | apply kept_fset

theorem kept_linkSnap {base : State} {c l : Nat} {k : Link} {s : State} (h : Kept base s) :
    Kept base (linkSnap c l k s) := by
  unfold linkSnap
  try dsimp only
  with_reducible
    repeat' first
      | assumption | apply kept_setLink | apply kept_fault | apply kept_faultEnd | apply kept_raise | apply kept_chainBit | apply kept_linkReg
      | apply kept_ite | split

theorem kept_jointSnapshot {base : State} {s : State} (h : Kept base s) :
    Kept base (jointSnapshot s) := by
  unfold jointSnapshot
  try dsimp only
  with_reducible
    repeat' first
      | assumption | intro _ | apply kept_forEach | apply kept_linkSnap

theorem kept_jointFail {base : State} {c l : Nat} {k : Link} {second : Bool} {s : State} (h : Kept base s) :
    Kept base (jointFail c l k second s) := by
  unfold jointFail
  try dsimp only
  with_reducible
    repeat' first
      | assumption | intro _ | apply kept_hold | apply kept_linkReg | apply kept_whenB | apply kept_raise | apply kept_setLink | apply kept_fsetb
      | apply kept_ite | simp only [kept_mk] | apply keptD_of | rfl | split

theorem kept_execJointSourceFail {base : State} {chain : Fin 32} {link : Fin 8} {second : Bool} {s : State} (h : Kept base s) :
    KeptOut base (execJointSourceFail chain link second s) := by
  unfold execJointSourceFail
  try dsimp only
  with_reducible
    repeat' first
      | assumption | apply kept_jointFail | apply kept_ite | simp only [kept_mk] | apply keptD_of | rfl | apply keptOut_next | split

theorem kept_execJointSrc1Return {base : State} {chain : Fin 32} {link : Fin 8} {s : State} (h : Kept base s) :
    KeptOut base (execJointSrc1Return chain link s) := by
  unfold execJointSrc1Return
  try dsimp only
  with_reducible
    repeat' first
      | assumption | intro _ | apply kept_setLink | apply kept_linkReg | apply kept_whenB | apply kept_faultEnd | apply kept_ite
      | simp only [kept_mk] | apply keptD_of | rfl | apply keptOut_next | split

theorem kept_execJointHoldExpiry {base : State} {chain : Fin 32} {link : Fin 8} {s : State} (h : Kept base s) :
    KeptOut base (execJointHoldExpiry chain link s) := by
  unfold execJointHoldExpiry
  try dsimp only
  with_reducible
    repeat' first
      | assumption | apply kept_linkReg | apply kept_fault | apply kept_raise | apply kept_setLink | apply kept_chainBit | apply kept_ite
      | simp only [kept_mk] | apply keptD_of | rfl | apply keptOut_next | split

theorem kept_pairDiff {base : State} {c l : Nat} {k : Link} {theirs : Int} {B : Nat} {s : State} (h : Kept base s) :
    Kept base (pairDiff c l k theirs B s) := by
  unfold pairDiff
  try dsimp only
  with_reducible
    repeat' first
      | assumption | intro _ | apply kept_whenB | apply kept_faultEnd | apply kept_setLink | apply kept_fault | apply kept_ite
      | simp only [kept_mk] | apply keptD_of | rfl | split

theorem kept_execGeomPairDiff {base : State} {chain : Fin 32} {link : Fin 8} {theirs : BitVec 16} {s : State} (h : Kept base s) :
    KeptOut base (execGeomPairDiff chain link theirs s) := by
  unfold execGeomPairDiff
  try dsimp only
  with_reducible
    repeat' first
      | assumption | apply kept_pairDiff | apply kept_ite | simp only [kept_mk] | apply keptD_of | rfl | apply keptOut_next | split

theorem kept_setPress {base : State} {s : State} {k : Nat} {p : PressSt} (h : Kept base s) :
    Kept base (setPress s k p) := by
  unfold setPress
  try dsimp only
  with_reducible
    repeat' first
      | assumption | simp only [kept_mk] | apply keptD_of | rfl

theorem kept_pressSample {base : State} {k : PressSrc} {x : Int} {good : Bool} {dt : Nat} {s : State} (h : Kept base s) :
    Kept base (pressSample k x good dt s) := by
  unfold pressSample
  try dsimp only
  with_reducible
    repeat' first
      | assumption | apply kept_setPress | apply kept_ite | simp only [kept_mk] | apply keptD_of | rfl | split

theorem kept_pressInput {base : State} {inp : PressIn} {x : Int} {good : Bool} {dt : Nat} {s : State} (h : Kept base s) :
    Kept base (pressInput inp x good dt s) := by
  unfold pressInput
  try dsimp only
  with_reducible
    repeat' first
      | assumption | intro _ | apply kept_forEach | apply kept_pressSample

theorem kept_pressCheck {base : State} {k : PressSrc} {s : State} (h : Kept base s) :
    Kept base (pressCheck k s) := by
  unfold pressCheck
  try dsimp only
  with_reducible
    repeat' first
      | assumption | apply kept_setPress | apply kept_ite | simp only [kept_mk] | apply keptD_of | rfl | split

theorem kept_pressLatch {base : State} {k : PressSrc} {s : State} (h : Kept base s) :
    Kept base (pressLatch k s) := by
  unfold pressLatch
  try dsimp only
  with_reducible
    repeat' first
      | assumption | apply kept_fset | apply kept_fsetb | apply kept_fault | apply kept_faultEnd | apply kept_raise | apply kept_setPress
      | apply kept_ite | simp only [kept_mk] | apply keptD_of | rfl | split

theorem kept_delayLatch {base : State} {s : State} (h : Kept base s) :
    Kept base (delayLatch s) := by
  unfold delayLatch
  try dsimp only
  with_reducible
    repeat' first
      | assumption | intro _ | apply kept_forEach | apply kept_pressLatch | apply kept_pressCheck | apply kept_fsetb | apply kept_fset

end Sys2Proof.Laws
end

