-- ==== Sys2Proof/Laws/KeptModes.lean ====
section
/-!
SUPPORT. Laws/KeptModes.lean: each operation of Machine/Modes.lean keeps what Laws/Kept.lean lists.
-/

set_option linter.unusedVariables false
set_option linter.unusedTactic false
set_option linter.unreachableTactic false

open Sys2Proof Sys2Proof.Machine

namespace Sys2Proof.Laws

theorem kept_secEnLatch {base : State} {s : State} (h : Kept base s) :
    Kept base (secEnLatch s) := by
  unfold secEnLatch
  try dsimp only
  with_reducible
    repeat' first
      | assumption | intro _ | apply kept_forN | apply kept_rsetN

theorem kept_nameChange {base : State} {c : TeamChg} {s : State} (h : Kept base s) :
    Kept base (nameChange c s) := by
  unfold nameChange
  try dsimp only
  with_reducible
    repeat' first
      | assumption | apply kept_toTeam | simp only [kept_mk] | apply keptD_of | rfl

theorem kept_teamChange {base : State} {c : TeamChg} {s : State} (h : Kept base s) :
    Kept base (teamChange c s) := by
  unfold teamChange
  try dsimp only
  with_reducible
    repeat' first
      | assumption | apply kept_nameChange | apply kept_toLeader | apply kept_ite | simp only [kept_mk] | apply keptD_of | rfl | split

theorem kept_askAgain {base : State} {s : State} (h : Kept base s) :
    Kept base (askAgain s) := by
  unfold askAgain
  try dsimp only
  with_reducible
    repeat' first
      | assumption | intro _ | apply kept_forEach | apply kept_nameChange | apply kept_toLeader | apply kept_ite | simp only [kept_mk]
      | apply keptD_of | rfl | split

theorem kept_applyChange {base : State} {c : TeamChg} {s : State} (h : Kept base s) :
    Kept base (applyChange c s) := by
  unfold applyChange
  try dsimp only
  with_reducible
    repeat' first
      | assumption | apply kept_fsetb | apply kept_rset | apply kept_fset | simp only [kept_mk] | apply keptD_of | rfl | split

theorem kept_execMasterWrite {base : State} {who : Fin 36} {b : Bool} {s : State} (h : Kept base s) :
    KeptOut base (execMasterWrite who b s) := by
  unfold execMasterWrite
  try dsimp only
  with_reducible
    repeat' first
      | assumption | intro _ | apply kept_rapDo | apply kept_teamChange | apply keptOut_next

theorem kept_execSecswWrite {base : State} {who : Fin 36} {k : Fin 3} {w : Word} {s : State} (h : Kept base s) :
    KeptOut base (execSecswWrite who k w s) := by
  unfold execSecswWrite
  try dsimp only
  with_reducible
    repeat' first
      | assumption | intro _ | apply kept_rapDo | apply kept_teamChange | apply keptOut_next

theorem kept_execStallWrite {base : State} {who : Fin 36} {n : Fin 96} {w : Word} {s : State} (h : Kept base s) :
    KeptOut base (execStallWrite who n w s) := by
  unfold execStallWrite
  try dsimp only
  with_reducible
    repeat' first
      | assumption | intro _ | apply kept_rapDo | apply kept_teamChange | apply keptOut_next

theorem kept_execTeamStateChange {base : State} {_m : Fin 64} {c : TeamChg} {s : State} (h : Kept base s) :
    KeptOut base (execTeamStateChange _m c s) := by
  unfold execTeamStateChange
  try dsimp only
  with_reducible
    repeat' first
      | assumption | apply kept_nameChange | apply kept_ite | apply keptOut_next | split

theorem kept_execSectionStateApply {base : State} {b : Nat} {c : TeamChg} {s : State} (h : Kept base s) :
    KeptOut base (execSectionStateApply b c s) := by
  unfold execSectionStateApply
  try dsimp only
  with_reducible
    repeat' first
      | assumption | intro _ | apply kept_applyChange | apply kept_ite | simp only [kept_mk] | apply keptD_of | rfl | apply keptOut_next | split

theorem kept_workBoundary {base : State} {s : State} (h : Kept base s) :
    Kept base (workBoundary s) := by
  unfold workBoundary
  try dsimp only
  with_reducible
    repeat' first
      | assumption | apply kept_teamChange | apply kept_ite | simp only [kept_mk] | apply keptD_of | rfl | split

theorem kept_nameMode {base : State} {c : ModeChg} {s : State} (h : Kept base s) :
    Kept base (nameMode c s) := by
  unfold nameMode
  try dsimp only
  with_reducible
    repeat' first
      | assumption | apply kept_toTeam | apply kept_ite | simp only [kept_mk] | apply keptD_of | rfl | split

theorem kept_modeEval {base : State} {s : State} (h : Kept base s) :
    Kept base (modeEval s) := by
  unfold modeEval
  try dsimp only
  with_reducible
    repeat' first
      | assumption | apply kept_nameMode | apply kept_ite | split

theorem kept_execModeReqWrite {base : State} {who : Fin 36} {b : Bool} {s : State} (h : Kept base s) :
    KeptOut base (execModeReqWrite who b s) := by
  unfold execModeReqWrite
  try dsimp only
  with_reducible
    repeat' first
      | assumption | intro _ | apply kept_rapDo | apply kept_modeEval | apply kept_fsetb | apply keptOut_next

theorem kept_tcLost {base : State} {s : State} (h : Kept base s) :
    Kept base (tcLost s) := by
  unfold tcLost
  try dsimp only
  with_reducible
    repeat' first
      | assumption | apply kept_nameMode | apply kept_fsetb | apply kept_ite | split

theorem kept_tcTake {base : State} {fwd : Option Nat} {k : MsgKind} {args : List Int} {f : Nat → State → State} {s : State} (hf : ∀ x0 t, Kept base t → Kept base (f x0 t)) (h : Kept base s) :
    Kept base (tcTake fwd k args f s) := by
  unfold tcTake
  try dsimp only
  with_reducible
    repeat' first
      | assumption | intro _ | apply hf | apply kept_toTeam | apply kept_canTake | simp only [kept_mk] | apply keptD_of | rfl | split

theorem kept_execTcStatus {base : State} {scOn : Bool} {fwd : Option Nat} {s : State} (h : Kept base s) :
    KeptOut base (execTcStatus scOn fwd s) := by
  unfold execTcStatus
  try dsimp only
  with_reducible
    repeat' first
      | assumption | intro _ | apply kept_tcTake | apply kept_fsetb | apply kept_modeEval | apply kept_tcLost | apply kept_ite
      | simp only [kept_mk] | apply keptD_of | rfl | apply keptOut_next | split

theorem kept_execTcLoss {base : State} {s : State} (h : Kept base s) :
    KeptOut base (execTcLoss s) := by
  unfold execTcLoss
  try dsimp only
  with_reducible
    repeat' first
      | assumption | apply kept_tcLost | apply kept_ite | simp only [kept_mk] | apply keptD_of | rfl | apply keptOut_next | split

theorem kept_schedSet {base : State} {sect : Nat} {v : Bool × List (Nat × Bool)} {s : State} (h : Kept base s) :
    Kept base (schedSet sect v s) := by
  unfold schedSet
  try dsimp only
  with_reducible
    repeat' first
      | assumption | intro _ | simp only [kept_mk] | apply keptD_of | rfl

theorem kept_schedEdge {base : State} {sect g : Nat} {on : Bool} {s : State} (h : Kept base s) :
    Kept base (schedEdge sect g on s) := by
  unfold schedEdge
  try dsimp only
  with_reducible
    repeat' first
      | assumption | apply kept_schedSet | apply kept_fsetb | apply kept_ite | simp only [kept_mk] | apply keptD_of | rfl | split

theorem kept_execTcSetpoint {base : State} {sect : Fin 1024} {on : Bool} {fwd : Option Nat} {s : State} (h : Kept base s) :
    KeptOut base (execTcSetpoint sect on fwd s) := by
  unfold execTcSetpoint
  try dsimp only
  with_reducible
    repeat' first
      | assumption | intro _ | apply kept_tcTake | apply kept_forEach | apply kept_schedEdge | apply kept_ite | apply keptOut_next | split

theorem kept_tcschLatch {base : State} {s : State} (h : Kept base s) :
    Kept base (tcschLatch s) := by
  unfold tcschLatch
  try dsimp only
  with_reducible
    repeat' first
      | assumption | intro _ | apply kept_forN | apply kept_rsetN

theorem kept_schedBoundary {base : State} {B : Nat} {s : State} (h : Kept base s) :
    Kept base (schedBoundary B s) := by
  unfold schedBoundary
  try dsimp only
  with_reducible
    repeat' first
      | assumption | intro _ | apply kept_tcschLatch | apply kept_ite | simp only [kept_mk] | apply keptD_of | rfl | split

theorem kept_applyMode {base : State} {c : ModeChg} {s : State} (h : Kept base s) :
    Kept base (applyMode c s) := by
  unfold applyMode
  try dsimp only
  with_reducible
    repeat' first
      | assumption | intro _ | apply kept_tcschLatch | apply kept_fset | simp only [kept_mk] | apply keptD_of | rfl | split

theorem kept_execModeChangeApply {base : State} {M : Nat} {c : ModeChg} {s : State} (h : Kept base s) :
    KeptOut base (execModeChangeApply M c s) := by
  unfold execModeChangeApply
  try dsimp only
  with_reducible
    repeat' first
      | assumption | apply kept_applyMode | apply kept_ite | simp only [kept_mk] | apply keptD_of | rfl | apply keptOut_next | split

theorem kept_execAlleySet {base : State} {who : Fin 36} {s : State} (h : Kept base s) :
    KeptOut base (execAlleySet who s) := by
  unfold execAlleySet
  try dsimp only
  with_reducible
    repeat' first
      | assumption | intro _ | apply kept_rapDo | apply kept_ite | simp only [kept_mk] | apply keptD_of | rfl | apply keptOut_next | split

theorem kept_execAlleyOrient {base : State} {who : Fin 36} {b : Bool} {s : State} (h : Kept base s) :
    KeptOut base (execAlleyOrient who b s) := by
  unfold execAlleyOrient
  try dsimp only
  with_reducible
    repeat' first
      | assumption | intro _ | apply kept_rapDo | apply kept_fsetb | apply keptOut_next

end Sys2Proof.Laws
end

