-- ==== Sys2Proof/Laws/KeptQueue.lean ====
section
/-!
SUPPORT. Laws/KeptQueue.lean: each operation of Machine/Queue.lean keeps what Laws/Kept.lean lists.
-/

set_option linter.unusedVariables false
set_option linter.unusedTactic false
set_option linter.unreachableTactic false

open Sys2Proof Sys2Proof.Machine

namespace Sys2Proof.Laws

theorem kept_setOut {base : State} {s : State} {n : Nat} {o : OutSt} (h : Kept base s) :
    Kept base (setOut s n o) := by
  unfold setOut
  try dsimp only
  with_reducible
    repeat' first
      | assumption | simp only [kept_mk] | apply keptD_of | rfl

theorem kept_mateTake {base : State} {n : Nat} {on : Bool} {s : State} (h : Kept base s) :
    Kept base (mateTake n on s) := by
  unfold mateTake
  try dsimp only
  with_reducible
    repeat' first
      | assumption | intro _ | apply kept_setOut | apply kept_ite | simp only [kept_mk] | apply keptD_of | rfl | split

theorem kept_nextReg {base : State} {n : Nat} {s : State} (h : Kept base s) :
    Kept base (nextReg n s) := by
  unfold nextReg
  try dsimp only
  with_reducible
    repeat' first
      | assumption | apply kept_fset | apply kept_rsetN | apply kept_rset | simp only [kept_mk] | apply keptD_of | rfl | split

theorem kept_provAdd {base : State} {cells : List Nat} {s : State} (h : Kept base s) :
    Kept base (provAdd cells s) := by
  unfold provAdd
  try dsimp only
  with_reducible
    repeat' first
      | assumption | intro _ | apply kept_forEach | simp only [kept_mk] | apply keptD_of | rfl

theorem kept_provSub {base : State} {cells : List Nat} {s : State} (h : Kept base s) :
    Kept base (provSub cells s) := by
  unfold provSub
  try dsimp only
  with_reducible
    repeat' first
      | assumption | intro _ | apply kept_forEach | apply kept_ite | simp only [kept_mk] | apply keptD_of | rfl | split

theorem kept_withdraw {base : State} {n : Nat} {p : ProvRun → Bool} {s : State} (h : Kept base s) :
    Kept base (withdraw n p s) := by
  unfold withdraw
  try dsimp only
  with_reducible
    repeat' first
      | assumption | intro _ | apply kept_forEach | apply kept_provSub | apply kept_setOut | simp only [kept_mk] | apply keptD_of | rfl

theorem kept_cutMarks {base : State} {n g : Nat} {s : State} (h : Kept base s) :
    Kept base (cutMarks n g s) := by
  unfold cutMarks
  try dsimp only
  with_reducible
    repeat' first
      | assumption | intro _ | apply kept_provSub | apply kept_setOut | simp only [kept_mk] | apply keptD_of | rfl

theorem kept_squash {base : State} {n : Nat} {p : QEnt → Bool} {s : State} (h : Kept base s) :
    Kept base (squash n p s) := by
  unfold squash
  try dsimp only
  with_reducible
    repeat' first
      | assumption | intro _ | apply kept_cutMarks | apply kept_setOut | apply kept_faddWrap | apply kept_fincWrap | apply kept_foldl
      | apply kept_foldl2 | apply kept_foldl1 | simp only [kept_mk] | apply keptD_of | rfl | split

theorem kept_stopOut {base : State} {n f reason : Nat} {s : State} (h : Kept base s) :
    Kept base (stopOut n f reason s) := by
  unfold stopOut
  try dsimp only
  with_reducible
    repeat' first
      | assumption | intro _ | apply kept_fset | apply kept_squash | apply kept_nextReg | apply kept_cutMarks | apply kept_setOut | apply kept_ite
      | simp only [kept_mk] | apply keptD_of | rfl | split

theorem kept_engineStop {base : State} {s : State} (h : Kept base s) :
    Kept base (engineStop s) := by
  unfold engineStop
  try dsimp only
  with_reducible
    repeat' first
      | assumption | intro _ | apply kept_forEach | apply kept_stopOut | apply kept_fsetb | apply kept_ite | split

end Sys2Proof.Laws
end

