-- ==== Sys2Proof/Laws/KeptLevel.lean ====
section
/-!
SUPPORT. Laws/KeptLevel.lean: each operation of Machine/Level.lean keeps what Laws/Kept.lean lists.
-/

set_option linter.unusedVariables false
set_option linter.unusedTactic false
set_option linter.unreachableTactic false

open Sys2Proof Sys2Proof.Machine

namespace Sys2Proof.Laws

theorem kept_otpRaise {base : State} {s : State} (h : Kept base s) :
    Kept base (otpRaise s) := by
  unfold otpRaise
  split
  · split
    · next c e hc =>
      refine kept_fset (kept_mk.2 ?_)
      exact ⟨h.pending, h.sent, h.free, h.regs, Nat.le_of_lt (Nat.lt_of_le_of_lt h.svn hc.2.1), h.fwSvn⟩
    · exact h
  · exact h

theorem kept_trialReached {base : State} {s : State} (h : Kept base s) :
    Kept base (trialReached s) := by
  unfold trialReached
  try dsimp only
  with_reducible
    repeat' first
      | assumption | apply kept_ite | simp only [kept_mk] | apply keptD_of | rfl | split

theorem kept_injEnd {base : State} {cause : Nat} {s : State} (h : Kept base s) :
    Kept base (injEnd cause s) := by
  unfold injEnd
  try dsimp only
  with_reducible
    repeat' first
      | assumption | apply kept_fset | apply kept_fsetb | apply kept_raise | apply kept_ite | simp only [kept_mk] | apply keptD_of | rfl | split

theorem kept_setLevel {base : State} {l : Nat} {s : State} (h : Kept base s) :
    Kept base (setLevel l s) := by
  unfold setLevel
  try dsimp only
  with_reducible
    repeat' first
      | assumption | apply kept_raise | apply kept_fincSat | apply kept_fset | apply kept_injEnd | apply kept_engineStop | apply kept_trialReached
      | apply kept_otpRaise | apply kept_ite | simp only [kept_mk] | apply keptD_of | rfl | split

theorem kept_levelDrop {base : State} {s : State} (h : Kept base s) :
    Kept base (levelDrop s) := by
  unfold levelDrop
  try dsimp only
  with_reducible
    repeat' first
      | assumption | apply kept_fset | apply kept_setLevel | apply kept_ite | split

theorem kept_levelUp {base : State} {s : State} (h : Kept base s) :
    Kept base (levelUp s) := by
  unfold levelUp
  try dsimp only
  with_reducible
    repeat' first
      | assumption | apply kept_fset | apply kept_setLevel | apply kept_ite | split

end Sys2Proof.Laws
end

