-- ==== Sys2Proof/Laws/KeptStudBook.lean ====
section
/-!
SUPPORT. Laws/KeptStudBook.lean: each operation of Machine/StudBook.lean keeps what Laws/Kept.lean lists.
-/

set_option linter.unusedVariables false
set_option linter.unusedTactic false
set_option linter.unreachableTactic false

open Sys2Proof Sys2Proof.Machine

namespace Sys2Proof.Laws

theorem kept_recordWrite {base : State} {s : State} (h : Kept base s) :
    Kept base (recordWrite s) := by
  unfold recordWrite
  try dsimp only
  with_reducible
    repeat' first
      | assumption | intro _ | apply kept_foldl | apply kept_foldl2 | apply kept_foldl1 | apply kept_ite | simp only [kept_mk] | apply keptD_of
      | rfl | split

theorem kept_execRecordWrite {base : State} {s : State} (h : Kept base s) :
    KeptOut base (execRecordWrite s) := by
  unfold execRecordWrite
  try dsimp only
  with_reducible
    repeat' first
      | assumption | apply kept_recordWrite | apply kept_ite | apply keptOut_next | split

theorem kept_execDroppedRecord {base : State} {s : State} (h : Kept base s) :
    KeptOut base (execDroppedRecord s) := by
  unfold execDroppedRecord
  try dsimp only
  with_reducible
    repeat' first
      | assumption | apply kept_raise | apply kept_foldl | apply kept_foldl2 | apply kept_foldl1 | apply kept_ite | simp only [kept_mk]
      | apply keptD_of | rfl | apply keptOut_next | split

theorem kept_execTbMark {base : State} {s : State} (h : Kept base s) :
    KeptOut base (execTbMark s) := by
  unfold execTbMark
  try dsimp only
  with_reducible
    repeat' first
      | assumption | apply kept_raise | apply kept_ite | simp only [kept_mk] | apply keptD_of | rfl | apply keptOut_next | split

theorem kept_optSave {base : State} {s : State} (h : Kept base s) :
    Kept base (optSave s) := by
  unfold optSave
  try dsimp only
  with_reducible
    repeat' first
      | assumption | simp only [kept_mk] | apply keptD_of | rfl

theorem kept_execOptSave {base : State} {s : State} (h : Kept base s) :
    KeptOut base (execOptSave s) := by
  unfold execOptSave
  try dsimp only
  with_reducible
    repeat' first
      | assumption | apply kept_optSave | apply kept_ite | apply keptOut_next | split

theorem kept_stbResult {base : State} {s : State} {cmd res : Nat} (h : Kept base s) :
    Kept base (stbResult s cmd res) := by
  unfold stbResult
  try dsimp only
  with_reducible
    repeat' first
      | assumption | apply kept_rset

theorem kept_execFreeze {base : State} {who : Fin 36} {s : State} (h : Kept base s) :
    KeptOut base (execFreeze who s) := by
  unfold execFreeze
  try dsimp only
  with_reducible
    repeat' first
      | assumption | intro _ | apply kept_rapDo | apply kept_stbResult | apply kept_fsetb | apply kept_ite | simp only [kept_mk] | apply keptD_of
      | rfl | apply keptOut_next | split

theorem kept_freezeStop {base : State} {s : State} (h : Kept base s) :
    Kept base (freezeStop s) := by
  unfold freezeStop
  try dsimp only
  with_reducible
    repeat' first
      | assumption | apply kept_raise | apply kept_fsetb | simp only [kept_mk] | apply keptD_of | rfl | split

theorem kept_execUnfreeze {base : State} {who : Fin 36} {s : State} (h : Kept base s) :
    KeptOut base (execUnfreeze who s) := by
  unfold execUnfreeze
  try dsimp only
  with_reducible
    repeat' first
      | assumption | intro _ | apply kept_rapDo | apply kept_stbResult | apply kept_freezeStop | apply keptOut_next

theorem kept_execFreezeTimeout {base : State} {s : State} (h : Kept base s) :
    KeptOut base (execFreezeTimeout s) := by
  unfold execFreezeTimeout
  try dsimp only
  with_reducible
    repeat' first
      | assumption | apply kept_freezeStop | apply kept_ite | simp only [kept_mk] | apply keptD_of | rfl | apply keptOut_next | split

theorem kept_stbClear {base : State} {s : State} {who mask : Nat} {p : ClearPermit} (h : Kept base s) :
    Kept base (stbClear s who mask p) := by
  unfold stbClear
  try dsimp only
  with_reducible
    repeat' first
      | assumption | intro _ | apply kept_freeNext | apply kept_stbResult | apply kept_raise | apply kept_foldl | apply kept_foldl2
      | apply kept_foldl1 | apply kept_ite | simp only [kept_mk] | apply keptD_of | rfl | split

theorem kept_execStbClear {base : State} {who : Fin 36} {mask : Nat} {p : ClearPermit} {s : State} (h : Kept base s) :
    KeptOut base (execStbClear who mask p s) := by
  unfold execStbClear
  try dsimp only
  with_reducible
    repeat' first
      | assumption | apply kept_rapAnswer | apply kept_stbClear | apply kept_domainOff | apply kept_ite | apply keptOut_next | split

theorem kept_execStbExport {base : State} {who : Fin 36} {mask : Nat} {s : State} (h : Kept base s) :
    KeptOut base (execStbExport who mask s) := by
  unfold execStbExport
  try dsimp only
  with_reducible
    repeat' first
      | assumption | intro _ | apply kept_rapDo | apply kept_stbResult | simp only [kept_mk] | apply keptD_of | rfl | apply keptOut_next

theorem kept_collectAsk {base : State} {mask m : Nat} {s : State} (h : Kept base s) :
    Kept base (collectAsk mask m s) := by
  unfold collectAsk
  try dsimp only
  with_reducible
    repeat' first
      | assumption | intro _ | apply kept_send

theorem kept_execCollect {base : State} {who : Fin 36} {mask : Nat} {s : State} (h : Kept base s) :
    KeptOut base (execCollect who mask s) := by
  unfold execCollect
  try dsimp only
  with_reducible
    repeat' first
      | assumption | intro _ | apply kept_rapDo | apply kept_stbResult | apply kept_own | apply kept_forEach | apply kept_collectAsk
      | apply kept_fsetb | apply kept_ite | simp only [kept_mk] | apply keptD_of | rfl | apply keptOut_next | split

theorem kept_collectLess {base : State} {m : Nat} {s : State} (h : Kept base s) :
    Kept base (collectLess m s) := by
  unfold collectLess
  try dsimp only
  with_reducible
    repeat' first
      | assumption | intro _ | apply kept_fsetb | simp only [kept_mk] | apply keptD_of | rfl

theorem kept_execCollectAnswer {base : State} {m : Fin 64} {serial first last bytes : Nat} {s : State} (h : Kept base s) :
    KeptOut base (execCollectAnswer m serial first last bytes s) := by
  unfold execCollectAnswer
  try dsimp only
  with_reducible
    repeat' first
      | assumption | apply kept_collectLess | apply kept_ite | simp only [kept_mk] | apply keptD_of | rfl | apply keptOut_next | split

theorem kept_execCollectTimeout {base : State} {m : Fin 64} {s : State} (h : Kept base s) :
    KeptOut base (execCollectTimeout m s) := by
  unfold execCollectTimeout
  try dsimp only
  with_reducible
    repeat' first
      | assumption | apply kept_collectLess | apply kept_raise | apply kept_ite | simp only [kept_mk] | apply keptD_of | rfl | apply keptOut_next
      | split

theorem kept_execStbChalRead {base : State} {who : Fin 36} {s : State} (h : Kept base s) :
    KeptOut base (execStbChalRead who s) := by
  unfold execStbChalRead
  try dsimp only
  with_reducible
    repeat' first
      | assumption | apply kept_rapAnswer | apply kept_domainOff | apply kept_rsetN | apply kept_freeNext | apply kept_ite | simp only [kept_mk]
      | apply keptD_of | rfl | apply keptOut_next | split

end Sys2Proof.Laws
end

