-- ==== Sys2Proof/Laws/KeptSegs.lean ====
section
/-!
SUPPORT. Laws/KeptSegs.lean: each operation of Machine/Segs.lean keeps what Laws/Kept.lean lists.
-/

set_option linter.unusedVariables false
set_option linter.unusedTactic false
set_option linter.unreachableTactic false

open Sys2Proof Sys2Proof.Machine

namespace Sys2Proof.Laws

theorem kept_setImgState {base : State} {n : Nat} {s : State} (h : Kept base s) :
    Kept base (setImgState n s) := by
  unfold setImgState
  try dsimp only
  with_reducible
    repeat' first
      | assumption | apply kept_fset

theorem kept_setImgErr {base : State} {code seg : Nat} {s : State} (h : Kept base s) :
    Kept base (setImgErr code seg s) := by
  unfold setImgErr
  try dsimp only
  with_reducible
    repeat' first
      | assumption | apply kept_fset

theorem kept_prepare {base : State} {C : Nat} {s : State} (h : Kept base s) :
    Kept base (prepare C s) := by
  unfold prepare
  try dsimp only
  with_reducible
    repeat' first
      | assumption | intro _ | apply kept_rset64 | apply kept_setImgState | simp only [kept_mk] | apply keptD_of | rfl | split

end Sys2Proof.Laws
end

