-- ==== Sys2Proof/Laws/KeptPoseTime.lean ====
section
/-!
SUPPORT. Laws/KeptPoseTime.lean: each operation of Machine/PoseTime.lean keeps what Laws/Kept.lean lists.
-/

set_option linter.unusedVariables false
set_option linter.unusedTactic false
set_option linter.unreachableTactic false

open Sys2Proof Sys2Proof.Machine

namespace Sys2Proof.Laws

theorem kept_chooseSource {base : State} {cut : Nat} {jx jy : Int} {s : State} (h : Kept base s) :
    Kept base (chooseSource cut jx jy s) := by
  unfold chooseSource
  try dsimp only
  with_reducible
    repeat' first
      | assumption | apply kept_raise | apply kept_ite | simp only [kept_mk] | apply keptD_of | rfl | split

theorem kept_setTt {base : State} {n : Nat} {s : State} (h : Kept base s) :
    Kept base (setTt n s) := by
  unfold setTt
  try dsimp only
  with_reducible
    repeat' first
      | assumption | apply kept_fset

theorem kept_ttSee {base : State} {n : Nat} {s : State} (h : Kept base s) :
    Kept base (ttSee n s) := by
  unfold ttSee
  try dsimp only
  with_reducible
    repeat' first
      | assumption | apply kept_setTt | apply kept_ite | simp only [kept_mk] | apply keptD_of | rfl | split

theorem kept_keepRecord {base : State} {r : PoseRec} {s : State} (h : Kept base s) :
    Kept base (keepRecord r s) := by
  unfold keepRecord
  try dsimp only
  with_reducible
    repeat' first
      | assumption | intro _ | apply kept_ite | simp only [kept_mk] | apply keptD_of | rfl | split

theorem kept_execPoseRecordPublish {base : State} {f : Fused} {s : State} (h : Kept base s) :
    KeptOut base (execPoseRecordPublish f s) := by
  unfold execPoseRecordPublish
  try dsimp only
  with_reducible
    repeat' first
      | assumption | intro _ | apply kept_chooseSource | apply kept_keepRecord | apply kept_toTeam | apply kept_ite | apply keptOut_next | split

theorem kept_poseLost {base : State} {s : State} (h : Kept base s) :
    Kept base (poseLost s) := by
  unfold poseLost
  try dsimp only
  with_reducible
    repeat' first
      | assumption | apply kept_fsetb | apply kept_levelDrop | apply kept_fault | apply kept_ite | simp only [kept_mk] | apply keptD_of | rfl
      | split

theorem kept_execPoseRecord {base : State} {r : PoseRec} {s : State} (h : Kept base s) :
    KeptOut base (execPoseRecord r s) := by
  unfold execPoseRecord
  try dsimp only
  with_reducible
    repeat' first
      | assumption | apply kept_fault | apply kept_keepRecord | apply kept_ite | apply keptOut_next | split

theorem kept_execDrLimitExpiry {base : State} {s : State} (h : Kept base s) :
    KeptOut base (execDrLimitExpiry s) := by
  unfold execDrLimitExpiry
  try dsimp only
  with_reducible
    repeat' first
      | assumption | apply kept_poseLost | apply kept_ite | simp only [kept_mk] | apply keptD_of | rfl | apply keptOut_next | split

theorem kept_showRecord {base : State} {r : PoseRec} {s : State} (h : Kept base s) :
    Kept base (showRecord r s) := by
  unfold showRecord
  try dsimp only
  with_reducible
    repeat' first
      | assumption | apply kept_fset | apply kept_fsetb | apply kept_rsetN

theorem kept_ttFollow {base : State} {r : PoseRec} {s : State} (h : Kept base s) :
    Kept base (ttFollow r s) := by
  unfold ttFollow
  try dsimp only
  with_reducible
    repeat' first
      | assumption | intro _ | apply kept_rset64 | apply kept_ttSee | apply kept_ite | split

theorem kept_takeRecord {base : State} {r : PoseRec} {s0 : State} (h : Kept base s0) :
    Kept base (takeRecord r s0) := by
  unfold takeRecord
  try dsimp only
  with_reducible
    repeat' first
      | assumption | apply kept_ttFollow | apply kept_showRecord | apply kept_faultEnd | apply kept_poseLost | apply kept_ite
      | simp only [kept_mk] | apply keptD_of | rfl | split

theorem kept_poseBoundary {base : State} {B : Nat} {s : State} (h : Kept base s) :
    Kept base (poseBoundary B s) := by
  unfold poseBoundary
  try dsimp only
  with_reducible
    repeat' first
      | assumption | intro _ | apply kept_takeRecord | apply kept_platBoundary | apply kept_alleyBoundary | apply kept_fault | apply kept_fsetb
      | apply kept_poseLost | apply kept_ite | simp only [kept_mk] | apply keptD_of | rfl | split

theorem kept_execInsSample {base : State} {crcOk : Bool} {s : State} (h : Kept base s) :
    KeptOut base (execInsSample crcOk s) := by
  unfold execInsSample
  try dsimp only
  with_reducible
    repeat' first
      | assumption | intro _ | apply kept_whenB | apply kept_faultEnd | apply kept_fault | apply kept_ite | simp only [kept_mk] | apply keptD_of
      | rfl | apply keptOut_next | split

theorem kept_execInertialSilence {base : State} {s : State} (h : Kept base s) :
    KeptOut base (execInertialSilence s) := by
  unfold execInertialSilence
  try dsimp only
  with_reducible
    repeat' first
      | assumption | apply kept_faultCls | apply kept_ite | simp only [kept_mk] | apply keptD_of | rfl | apply keptOut_next | split

theorem kept_execSpeedMessage {base : State} {ctrl : Fin 4} {v : Int} {ok : Bool} {s0 : State} (h : Kept base s0) :
    KeptOut base (execSpeedMessage ctrl v ok s0) := by
  unfold execSpeedMessage
  try dsimp only
  with_reducible
    repeat' first
      | assumption | apply kept_canTake | apply kept_ite | simp only [kept_mk] | apply keptD_of | rfl | apply keptOut_next | split

theorem kept_ambDrop {base : State} {s : State} (h : Kept base s) :
    Kept base (ambDrop s) := by
  unfold ambDrop
  try dsimp only
  with_reducible
    repeat' first
      | assumption | intro _ | apply kept_forEach | apply kept_fsetb | simp only [kept_mk] | apply keptD_of | rfl

theorem kept_takeCorr {base : State} {eth : Bool} {station epoch : Nat} {s : State} (h : Kept base s) :
    Kept base (takeCorr eth station epoch s) := by
  unfold takeCorr
  try dsimp only
  with_reducible
    repeat' first
      | assumption | apply kept_fincWrap | apply kept_fset | apply kept_fsetb | apply kept_ambDrop | apply kept_ite | simp only [kept_mk]
      | apply keptD_of | rfl | split

theorem kept_corrIn {base : State} {eth : Bool} {typ station epoch : Nat} {crcOk : Bool} {s : State} (h : Kept base s) :
    Kept base (corrIn eth typ station epoch crcOk s) := by
  unfold corrIn
  try dsimp only
  with_reducible
    repeat' first
      | assumption | apply kept_takeCorr | apply kept_send | apply kept_ite | simp only [kept_mk] | apply keptD_of | rfl | split

theorem kept_execRtcmMessage {base : State} {path : CorrPath} {typ station epoch : Nat} {crcOk : Bool} {s0 : State} (h : Kept base s0) :
    KeptOut base (execRtcmMessage path typ station epoch crcOk s0) := by
  unfold execRtcmMessage
  try dsimp only
  with_reducible
    repeat' first
      | assumption | apply kept_canTake | apply kept_writeDenied | apply kept_corrIn | apply kept_ite | simp only [kept_mk] | apply keptD_of | rfl
      | apply keptOut_next | split

theorem kept_ofsAdd {base : State} {ofs : Int} {B : Nat} {s : State} (h : Kept base s) :
    Kept base (ofsAdd ofs B s) := by
  unfold ofsAdd
  try dsimp only
  with_reducible
    repeat' first
      | assumption | simp only [kept_mk] | apply keptD_of | rfl

theorem kept_nameOfs {base : State} {ofs : Int} {B : Nat} {s : State} (h : Kept base s) :
    Kept base (nameOfs ofs B s) := by
  unfold nameOfs
  try dsimp only
  with_reducible
    repeat' first
      | assumption | apply kept_toTeam | apply kept_ofsAdd

theorem kept_tellTt {base : State} {n : Nat} {s : State} (h : Kept base s) :
    Kept base (tellTt n s) := by
  unfold tellTt
  try dsimp only
  with_reducible
    repeat' first
      | assumption | apply kept_toTeam | apply kept_setTt

theorem kept_execTtOfsAnnounce {base : State} {ofs : Int} {b st : Nat} {s : State} (h : Kept base s) :
    KeptOut base (execTtOfsAnnounce ofs b st s) := by
  unfold execTtOfsAnnounce
  try dsimp only
  with_reducible
    repeat' first
      | assumption | apply kept_ttSee | apply kept_ofsAdd | apply kept_ite | apply keptOut_next | split

theorem kept_applyOfs {base : State} {new : Int} {s : State} (h : Kept base s) :
    Kept base (applyOfs new s) := by
  unfold applyOfs
  try dsimp only
  with_reducible
    repeat' first
      | assumption | apply kept_rset64 | apply kept_raise | apply kept_fincSat | apply kept_fsetb | apply kept_ite | split

theorem kept_execTtOfsApply {base : State} {s : State} (h : Kept base s) :
    KeptOut base (execTtOfsApply s) := by
  unfold execTtOfsApply
  try dsimp only
  with_reducible
    repeat' first
      | assumption | intro _ | apply kept_forEach | apply kept_applyOfs | simp only [kept_mk] | apply keptD_of | rfl | apply keptOut_next

theorem kept_stepVoid {base : State} {s : State} (h : Kept base s) :
    Kept base (stepVoid s) := by
  unfold stepVoid
  try dsimp only
  with_reducible
    repeat' first
      | assumption | intro _ | apply kept_forEach | apply kept_nameOfs | simp only [kept_mk] | apply keptD_of | rfl

theorem kept_ttHoldover {base : State} {s : State} (h : Kept base s) :
    Kept base (ttHoldover s) := by
  unfold ttHoldover
  try dsimp only
  with_reducible
    repeat' first
      | assumption | apply kept_stepVoid | apply kept_tellTt | apply kept_ite | simp only [kept_mk] | apply keptD_of | rfl | split

theorem kept_ttLock {base : State} {err : Int} {s : State} (h : Kept base s) :
    Kept base (ttLock err s) := by
  unfold ttLock
  try dsimp only
  with_reducible
    repeat' first
      | assumption | apply kept_tellTt | apply kept_fsetb | apply kept_nameOfs | apply kept_ite | simp only [kept_mk] | apply keptD_of | rfl
      | split

theorem kept_ttEpoch {base : State} {ep : Nat} {sol : Option Int} {s : State} (h : Kept base s) :
    Kept base (ttEpoch ep sol s) := by
  unfold ttEpoch
  try dsimp only
  with_reducible
    repeat' first
      | assumption | apply kept_ttHoldover | apply kept_ttLock | apply kept_ite | simp only [kept_mk] | apply keptD_of | rfl | split

theorem kept_ttMissed {base : State} {B : Nat} {s : State} (h : Kept base s) :
    Kept base (ttMissed B s) := by
  unfold ttMissed
  try dsimp only
  with_reducible
    repeat' first
      | assumption | apply kept_ttHoldover | apply kept_ite | simp only [kept_mk] | apply keptD_of | rfl | split

theorem kept_slewBoundary {base : State} {B : Nat} {s : State} (h : Kept base s) :
    Kept base (slewBoundary B s) := by
  unfold slewBoundary
  try dsimp only
  with_reducible
    repeat' first
      | assumption | apply kept_nameOfs | apply kept_ite | simp only [kept_mk] | apply keptD_of | rfl | split

theorem kept_execSlewEnd {base : State} {s : State} (h : Kept base s) :
    KeptOut base (execSlewEnd s) := by
  unfold execSlewEnd
  try dsimp only
  with_reducible
    repeat' first
      | assumption | apply kept_fsetb | apply kept_ite | simp only [kept_mk] | apply keptD_of | rfl | apply keptOut_next | split

theorem kept_execHoldoverLimit {base : State} {s : State} (h : Kept base s) :
    KeptOut base (execHoldoverLimit s) := by
  unfold execHoldoverLimit
  try dsimp only
  with_reducible
    repeat' first
      | assumption | apply kept_tellTt | apply kept_setTt | apply kept_ite | simp only [kept_mk] | apply keptD_of | rfl | apply keptOut_next
      | split

theorem kept_extTime {base : State} {ofs : Int} {s : State} (h : Kept base s) :
    Kept base (extTime ofs s) := by
  unfold extTime
  try dsimp only
  with_reducible
    repeat' first
      | assumption | apply kept_nameOfs | apply kept_setTt | apply kept_ite | simp only [kept_mk] | apply keptD_of | rfl | split

theorem kept_execExternalPosePgn {base : State} {ctrl : Fin 4} {pgn acc : Nat} {ok : Bool} {tt : Option Int} {s0 : State} (h : Kept base s0) :
    KeptOut base (execExternalPosePgn ctrl pgn acc ok tt s0) := by
  unfold execExternalPosePgn
  try dsimp only
  with_reducible
    repeat' first
      | assumption | apply kept_canTake | apply kept_extTime | apply kept_ite | simp only [kept_mk] | apply keptD_of | rfl | apply keptOut_next
      | split

theorem kept_execTpoPulse {base : State} {sec : Nat} {s : State} (h : Kept base s) :
    KeptOut base (execTpoPulse sec s) := by
  unfold execTpoPulse
  try dsimp only
  with_reducible
    repeat' first
      | assumption | apply kept_send | apply kept_nameOfs | apply kept_ite | simp only [kept_mk] | apply keptD_of | rfl | apply keptOut_next
      | split

theorem kept_execTpoPulseEnd {base : State} {s : State} (h : Kept base s) :
    KeptOut base (execTpoPulseEnd s) := by
  unfold execTpoPulseEnd
  try dsimp only
  with_reducible
    repeat' first
      | assumption | apply kept_ite | simp only [kept_mk] | apply keptD_of | rfl | apply keptOut_next | split

end Sys2Proof.Laws
end

