-- ==== Sys2Proof/Laws/KeptGnss.lean ====
section
/-!
SUPPORT. Laws/KeptGnss.lean: each operation of Machine/Gnss.lean keeps what Laws/Kept.lean lists.
-/

set_option linter.unusedVariables false
set_option linter.unusedTactic false
set_option linter.unreachableTactic false

open Sys2Proof Sys2Proof.Machine

namespace Sys2Proof.Laws

theorem kept_chanReg {base : State} {n : Nat} {s : State} (h : Kept base s) :
    Kept base (chanReg n s) := by
  unfold chanReg
  try dsimp only
  with_reducible
    repeat' first
      | assumption | apply kept_fset | apply kept_fsetb

theorem kept_setChan {base : State} {n : Nat} {c : Chan} {s : State} (h : Kept base s) :
    Kept base (setChan n c s) := by
  unfold setChan
  try dsimp only
  with_reducible
    repeat' first
      | assumption | apply kept_chanReg | simp only [kept_mk] | apply keptD_of | rfl

theorem kept_chanShow {base : State} {s : State} (h : Kept base s) :
    Kept base (chanShow s) := by
  unfold chanShow
  try dsimp only
  with_reducible
    repeat' first
      | assumption | intro _ | apply kept_forEach | apply kept_chanReg

theorem kept_searchOn {base : State} {s : State} (h : Kept base s) :
    Kept base (searchOn s) := by
  unfold searchOn
  try dsimp only
  with_reducible
    repeat' first
      | assumption | apply kept_domSet | apply kept_fsetb

theorem kept_addSearch {base : State} {x : Sat} {kind : Nat} {slip : Bool} {s : State} (h : Kept base s) :
    Kept base (addSearch x kind slip s) := by
  unfold addSearch
  try dsimp only
  with_reducible
    repeat' first
      | assumption | intro _ | apply kept_searchOn | apply kept_ite | simp only [kept_mk] | apply keptD_of | rfl | split

theorem kept_searchSat {base : State} {x : Sat} {slip : Bool} {s : State} (h : Kept base s) :
    Kept base (searchSat x slip s) := by
  unfold searchSat
  try dsimp only
  with_reducible
    repeat' first
      | assumption | apply kept_addSearch | apply kept_ite | split

theorem kept_searchAll {base : State} {s : State} (h : Kept base s) :
    Kept base (searchAll s) := by
  unfold searchAll
  try dsimp only
  with_reducible
    repeat' first
      | assumption | intro _ | apply kept_forEach | apply kept_addSearch | apply kept_searchSat | simp only [kept_mk] | apply keptD_of | rfl
      | split

theorem kept_toIdle {base : State} {n : Nat} {slip : Bool} {s : State} (h : Kept base s) :
    Kept base (toIdle n slip s) := by
  unfold toIdle
  try dsimp only
  with_reducible
    repeat' first
      | assumption | apply kept_searchSat | apply kept_setChan | apply kept_ite | split

theorem kept_handOver {base : State} {c : Cand} {slip : Bool} {s : State} (h : Kept base s) :
    Kept base (handOver c slip s) := by
  unfold handOver
  try dsimp only
  with_reducible
    repeat' first
      | assumption | intro _ | apply kept_setChan | apply kept_ite | simp only [kept_mk] | apply keptD_of | rfl | split

theorem kept_classTrim {base : State} {s : State} (h : Kept base s) :
    Kept base (classTrim s) := by
  unfold classTrim
  try dsimp only
  with_reducible
    repeat' first
      | assumption | intro _ | apply kept_forN | apply kept_setChan | apply kept_ite | simp only [kept_mk] | apply keptD_of | rfl | split

theorem kept_banksLess {base : State} {b : Nat} {s : State} (h : Kept base s) :
    Kept base (banksLess b s) := by
  unfold banksLess
  try dsimp only
  with_reducible
    repeat' first
      | assumption | intro _ | apply kept_forEach | apply kept_setChan | apply kept_searchSat | apply kept_foldl | apply kept_foldl2
      | apply kept_foldl1 | apply kept_ite | simp only [kept_mk] | apply keptD_of | rfl | split

theorem kept_execAcqRound {base : State} {found : List Cand} {s : State} (h : Kept base s) :
    KeptOut base (execAcqRound found s) := by
  unfold execAcqRound
  try dsimp only
  with_reducible
    repeat' first
      | assumption | intro _ | apply kept_forEach | apply kept_handOver | apply kept_fsetb | apply kept_foldl | apply kept_foldl2
      | apply kept_foldl1 | apply kept_ite | simp only [kept_mk] | apply keptD_of | rfl | apply keptOut_next | split

theorem kept_execPullInTimeout {base : State} {ch : Fin 96} {s : State} (h : Kept base s) :
    KeptOut base (execPullInTimeout ch s) := by
  unfold execPullInTimeout
  try dsimp only
  with_reducible
    repeat' first
      | assumption | apply kept_fincSat | apply kept_setChan | apply kept_ite | apply keptOut_next | split

theorem kept_execAcqPowerOff {base : State} {s : State} (h : Kept base s) :
    KeptOut base (execAcqPowerOff s) := by
  unfold execAcqPowerOff
  try dsimp only
  with_reducible
    repeat' first
      | assumption | apply kept_domSet | apply kept_ite | apply keptOut_next | split

theorem kept_lossKeep {base : State} {n : Nat} {s : State} (h : Kept base s) :
    Kept base (lossKeep n s) := by
  unfold lossKeep
  try dsimp only
  with_reducible
    repeat' first
      | assumption | intro _ | apply kept_ite | simp only [kept_mk] | apply keptD_of | rfl | split

theorem kept_ephKeep {base : State} {c : Chan} {s : State} (h : Kept base s) :
    Kept base (ephKeep c s) := by
  unfold ephKeep
  try dsimp only
  with_reducible
    repeat' first
      | assumption | apply kept_ite | simp only [kept_mk] | apply keptD_of | rfl | split

theorem kept_execTrackingDump {base : State} {ch : Fin 96} {d : Dump} {s : State} (h : Kept base s) :
    KeptOut base (execTrackingDump ch d s) := by
  unfold execTrackingDump
  try dsimp only
  with_reducible
    repeat' first
      | assumption | apply kept_toIdle | apply kept_lossKeep | apply kept_ephKeep | apply kept_setChan | apply kept_fault | apply kept_fsetb
      | apply kept_faultEnd | apply kept_ite | simp only [kept_mk] | apply keptD_of | rfl | apply keptOut_next | split

theorem kept_execCn0Loss {base : State} {ch : Fin 96} {s : State} (h : Kept base s) :
    KeptOut base (execCn0Loss ch s) := by
  unfold execCn0Loss
  try dsimp only
  with_reducible
    repeat' first
      | assumption | apply kept_toIdle | apply kept_lossKeep | apply kept_ite | simp only [kept_mk] | apply keptD_of | rfl | apply keptOut_next
      | split

theorem kept_antShow {base : State} {s : State} (h : Kept base s) :
    Kept base (antShow s) := by
  unfold antShow
  try dsimp only
  with_reducible
    repeat' first
      | assumption | apply kept_fset | apply kept_ite | split

theorem kept_execAntBiasCheck {base : State} {ua : Nat} {s : State} (h : Kept base s) :
    KeptOut base (execAntBiasCheck ua s) := by
  unfold execAntBiasCheck
  try dsimp only
  with_reducible
    repeat' first
      | assumption | apply kept_antShow | apply kept_fault | apply kept_faultEnd | apply kept_ite | simp only [kept_mk] | apply keptD_of | rfl
      | apply keptOut_next | split

theorem kept_execAntShort {base : State} {s : State} (h : Kept base s) :
    KeptOut base (execAntShort s) := by
  unfold execAntShort
  try dsimp only
  with_reducible
    repeat' first
      | assumption | apply kept_antShow | apply kept_fault | apply kept_ite | simp only [kept_mk] | apply keptD_of | rfl | apply keptOut_next
      | split

theorem kept_execAntBiasRetry {base : State} {s : State} (h : Kept base s) :
    KeptOut base (execAntBiasRetry s) := by
  unfold execAntBiasRetry
  try dsimp only
  with_reducible
    repeat' first
      | assumption | apply kept_antShow | apply kept_ite | simp only [kept_mk] | apply keptD_of | rfl | apply keptOut_next | split

theorem kept_announcePath {base : State} {fall : Bool} {s : State} (h : Kept base s) :
    Kept base (announcePath fall s) := by
  unfold announcePath
  try dsimp only
  with_reducible
    repeat' first
      | assumption | apply kept_toTeam | apply kept_fault | apply kept_faultEnd | apply kept_ite | simp only [kept_mk] | apply keptD_of | rfl
      | split

theorem kept_evalShow {base : State} {main all : Nat} {a : Avail} {s : State} (h : Kept base s) :
    Kept base (evalShow main all a s) := by
  unfold evalShow
  try dsimp only
  with_reducible
    repeat' first
      | assumption | apply kept_fset

theorem kept_execAvailabilityEval {base : State} {a : Avail} {s : State} (h : Kept base s) :
    KeptOut base (execAvailabilityEval a s) := by
  unfold execAvailabilityEval
  try dsimp only
  with_reducible
    repeat' first
      | assumption | apply kept_evalShow | apply kept_announcePath | apply kept_ite | simp only [kept_mk] | apply keptD_of | rfl
      | apply keptOut_next | split

theorem kept_setPath {base : State} {fall : Bool} {s : State} (h : Kept base s) :
    Kept base (setPath fall s) := by
  unfold setPath
  try dsimp only
  with_reducible
    repeat' first
      | assumption | apply kept_classTrim | apply kept_fsetb

theorem kept_applyPath {base : State} {told : Option Bool} {s : State} (h : Kept base s) :
    Kept base (applyPath told s) := by
  unfold applyPath
  try dsimp only
  with_reducible
    repeat' first
      | assumption | apply kept_setPath | apply kept_ite | simp only [kept_mk] | apply keptD_of | rfl | split

theorem kept_takeTold {base : State} {x : GTold} {s : State} (h : Kept base s) :
    Kept base (takeTold x s) := by
  unfold takeTold
  try dsimp only
  with_reducible
    repeat' first
      | assumption | intro _ | apply kept_chanShow | apply kept_fsetb | apply kept_ite | simp only [kept_mk] | apply keptD_of | rfl | split

theorem kept_strobeRecord {base : State} {e : GStrobe} {s : State} (h : Kept base s) :
    Kept base (strobeRecord e s) := by
  unfold strobeRecord
  try dsimp only
  with_reducible
    repeat' first
      | assumption | intro _ | apply kept_whenB | apply kept_fincSat | apply kept_fincWrap | apply kept_rset64 | apply kept_rsetN
      | apply kept_send | apply kept_fsetb | apply kept_ite | simp only [kept_mk] | apply keptD_of | rfl | split

theorem kept_execEpochStrobe {base : State} {e : GStrobe} {s : State} (h : Kept base s) :
    KeptOut base (execEpochStrobe e s) := by
  unfold execEpochStrobe
  try dsimp only
  with_reducible
    repeat' first
      | assumption | apply kept_strobeRecord | apply kept_takeTold | apply kept_applyPath | apply kept_ite | apply keptOut_next | split

theorem kept_spoofEnter {base : State} {s : State} (h : Kept base s) :
    Kept base (spoofEnter s) := by
  unfold spoofEnter
  try dsimp only
  with_reducible
    repeat' first
      | assumption | intro _ | apply kept_forEach | apply kept_setChan | apply kept_fsetb | apply kept_searchAll | apply kept_fault
      | apply kept_ttHoldover | apply kept_ite | simp only [kept_mk] | apply keptD_of | rfl | split

theorem kept_spoofLeave {base : State} {s : State} (h : Kept base s) :
    Kept base (spoofLeave s) := by
  unfold spoofLeave
  try dsimp only
  with_reducible
    repeat' first
      | assumption | apply kept_faultEnd | apply kept_fsetb

theorem kept_spoofSync {base : State} {s : State} (h : Kept base s) :
    Kept base (spoofSync s) := by
  unfold spoofSync
  try dsimp only
  with_reducible
    repeat' first
      | assumption | apply kept_spoofEnter | apply kept_spoofLeave | apply kept_ite | simp only [kept_mk] | apply keptD_of | rfl | split

theorem kept_execSpoofClear {base : State} {s : State} (h : Kept base s) :
    KeptOut base (execSpoofClear s) := by
  unfold execSpoofClear
  try dsimp only
  with_reducible
    repeat' first
      | assumption | intro _ | apply kept_spoofLeave | apply kept_ite | simp only [kept_mk] | apply keptD_of | rfl | apply keptOut_next | split

theorem kept_setAnt {base : State} {m : Nat} {a : AntSt} {s : State} (h : Kept base s) :
    Kept base (setAnt m a s) := by
  unfold setAnt
  try dsimp only
  with_reducible
    repeat' first
      | assumption | simp only [kept_mk] | apply keptD_of | rfl

theorem kept_exclude {base : State} {ant : Option Nat} {sat : Sat} {c : ExclCause} {ev : Ev} {bit : Fld} {s : State} (h : Kept base s) :
    Kept base (exclude ant sat c ev bit s) := by
  unfold exclude
  try dsimp only
  with_reducible
    repeat' first
      | assumption | intro _ | apply kept_chanShow | apply kept_fsetb | apply kept_fault | apply kept_ite | simp only [kept_mk] | apply keptD_of
      | rfl | split

theorem kept_unexclude {base : State} {ant : Option Nat} {sat : Sat} {c : ExclCause} {ev : Ev} {s : State} (h : Kept base s) :
    Kept base (unexclude ant sat c ev s) := by
  unfold unexclude
  try dsimp only
  with_reducible
    repeat' first
      | assumption | intro _ | apply kept_faultEnd | apply kept_chanShow | apply kept_ite | simp only [kept_mk] | apply keptD_of | rfl | split

theorem kept_suspect {base : State} {m : Nat} {s : State} (h : Kept base s) :
    Kept base (suspect m s) := by
  unfold suspect
  try dsimp only
  with_reducible
    repeat' first
      | assumption | apply kept_setAnt | apply kept_fault | apply kept_chanShow | apply kept_fsetb | apply kept_ite | simp only [kept_mk]
      | apply keptD_of | rfl | split

theorem kept_antCheck {base : State} {m : Nat} {was now : Bool} {ev : Ev} {bit : Fld} {s : State} (h : Kept base s) :
    Kept base (antCheck m was now ev bit s) := by
  unfold antCheck
  try dsimp only
  with_reducible
    repeat' first
      | assumption | apply kept_suspect | apply kept_fsetb | apply kept_fault | apply kept_faultEnd | apply kept_ite | split

theorem kept_dopCheck {base : State} {m : Nat} {x : Sat × Nat} {s : State} (h : Kept base s) :
    Kept base (dopCheck m x s) := by
  unfold dopCheck
  try dsimp only
  with_reducible
    repeat' first
      | assumption | intro _ | apply kept_exclude | apply kept_unexclude | apply kept_ite | simp only [kept_mk] | apply keptD_of | rfl | split

theorem kept_dopBreak {base : State} {m : Nat} {l : List (Sat × Nat)} {s : State} (h : Kept base s) :
    Kept base (dopBreak m l s) := by
  unfold dopBreak
  try dsimp only
  with_reducible
    repeat' first
      | assumption | intro _ | simp only [kept_mk] | apply keptD_of | rfl

theorem kept_navFail {base : State} {m : Nat} {sat : Sat} {s : State} (h : Kept base s) :
    Kept base (navFail m sat s) := by
  unfold navFail
  try dsimp only
  with_reducible
    repeat' first
      | assumption | intro _ | apply kept_exclude | apply kept_setAnt | apply kept_suspect | apply kept_ite | simp only [kept_mk] | apply keptD_of
      | rfl | split

theorem kept_geomCheck {base : State} {ep : Nat} {now : Bool} {s : State} (h : Kept base s) :
    Kept base (geomCheck ep now s) := by
  unfold geomCheck
  try dsimp only
  with_reducible
    repeat' first
      | assumption | apply kept_fault | apply kept_fsetb | apply kept_faultEnd | apply kept_ite | simp only [kept_mk] | apply keptD_of | rfl
      | split

theorem kept_integrity {base : State} {r : GRec} {c : GChk} {s : State} (h : Kept base s) :
    Kept base (integrity r c s) := by
  unfold integrity
  try dsimp only
  with_reducible
    repeat' first
      | assumption | intro _ | apply kept_forEach | apply kept_exclude | apply kept_dopBreak | apply kept_dopCheck | apply kept_unexclude
      | apply kept_navFail | apply kept_setAnt | apply kept_antCheck | apply kept_geomCheck | apply kept_ite | simp only [kept_mk]
      | apply keptD_of | rfl | split

theorem kept_spoofCheck {base : State} {s : State} (h : Kept base s) :
    Kept base (spoofCheck s) := by
  unfold spoofCheck
  try dsimp only
  with_reducible
    repeat' first
      | assumption | intro _ | apply kept_spoofEnter | apply kept_ite | split

theorem kept_execExclusionEnd {base : State} {ant : Fin 64} {sat : Sat} {s : State} (h : Kept base s) :
    KeptOut base (execExclusionEnd ant sat s) := by
  unfold execExclusionEnd
  try dsimp only
  with_reducible
    repeat' first
      | assumption | intro _ | apply kept_unexclude | apply kept_ite | simp only [kept_mk] | apply keptD_of | rfl | apply keptOut_next | split

theorem kept_execSuspectClear {base : State} {ant : Fin 64} {s : State} (h : Kept base s) :
    KeptOut base (execSuspectClear ant s) := by
  unfold execSuspectClear
  try dsimp only
  with_reducible
    repeat' first
      | assumption | apply kept_setAnt | apply kept_suspect | apply kept_chanShow | apply kept_fsetb | apply kept_faultEnd | apply kept_ite
      | simp only [kept_mk] | apply keptD_of | rfl | apply keptOut_next | split

theorem kept_shapeDiffRun {base : State} {n r : Nat} {s : State} (h : Kept base s) :
    Kept base (shapeDiffRun n r s) := by
  unfold shapeDiffRun
  try dsimp only
  with_reducible
    repeat' first
      | assumption | simp only [kept_mk] | apply keptD_of | rfl

theorem kept_shapeUpdate {base : State} {ep : Nat} {x : ShapeIn} {s : State} (h : Kept base s) :
    Kept base (shapeUpdate ep x s) := by
  unfold shapeUpdate
  split
  · exact h
  · extract_lets n run p1 s1 s2 s3 p2 s4
    have h1 : Kept base s1 := kept_mk.2 (keptD_of h rfl rfl)
    have h2 : Kept base s2 := kept_fsetb h1
    have h3 : Kept base s3 := kept_fsetb (kept_fset h2)
    have h4 : Kept base s4 := kept_jointSample (kept_mk.2 (keptD_of h3 rfl rfl))
    refine kept_ite (kept_shapeDiffRun h2) ?_
    split
    · exact kept_shapeDiffRun h4
    · exact kept_ite (kept_raise (kept_fsetb (kept_shapeDiffRun h4))) (kept_shapeDiffRun h4)

theorem kept_shapeAge {base : State} {ep : Nat} {l : List ShapeIn} {s : State} (h : Kept base s) :
    Kept base (shapeAge ep l s) := by
  unfold shapeAge
  try dsimp only
  with_reducible
    repeat' first
      | assumption | intro _ | apply kept_forEach | apply kept_fsetb | apply kept_ite | simp only [kept_mk] | apply keptD_of | rfl | split

theorem kept_istoSet {base : State} {p : List SysPart} {l : List Sat} {x : Nat × Int × Bool} {s : State} (h : Kept base s) :
    Kept base (istoSet p l x s) := by
  unfold istoSet
  try dsimp only
  with_reducible
    repeat' first
      | assumption | intro _ | apply kept_fsetb | apply kept_fset | apply kept_ite | simp only [kept_mk] | apply keptD_of | rfl | split

theorem kept_epochSolution {base : State} {ep : Nat} {e : GEpoch} {s0 : State} (h : Kept base s0) :
    Kept base (epochSolution ep e s0) := by
  unfold epochSolution
  try dsimp only
  with_reducible
    repeat' first
      | assumption | intro _ | apply kept_shapeAge | apply kept_forEach | apply kept_istoSet | apply kept_shapeUpdate | apply kept_fsetb
      | apply kept_fset | apply kept_ttEpoch | apply kept_ite | simp only [kept_mk] | apply keptD_of | rfl | split

theorem kept_recTake {base : State} {r : GRec} {s : State} (h : Kept base s) :
    Kept base (recTake r s) := by
  unfold recTake
  try dsimp only
  with_reducible
    repeat' first
      | assumption | intro _ | apply kept_setAnt | apply kept_ite | simp only [kept_mk] | apply keptD_of | rfl | split

theorem kept_execGnssRecord {base : State} {r : GRec} {c : GChk} {e : Option GEpoch} {s : State} (h : Kept base s) :
    KeptOut base (execGnssRecord r c e s) := by
  unfold execGnssRecord
  try dsimp only
  with_reducible
    repeat' first
      | assumption | apply kept_recTake | apply kept_spoofCheck | apply kept_integrity | apply kept_epochSolution | apply kept_ttEpoch
      | apply kept_ite | simp only [kept_mk] | apply keptD_of | rfl | apply keptOut_next | split

theorem kept_notchSet {base : State} {k : Nat} {on : Bool} {f : Int} {s : State} (h : Kept base s) :
    Kept base (notchSet k on f s) := by
  unfold notchSet
  try dsimp only
  with_reducible
    repeat' first
      | assumption | apply kept_fsetb | apply kept_fset | apply kept_ite | split

theorem kept_notchRelease {base : State} {k : Nat} {since : Option Nat} {s : State} (h : Kept base s) :
    Kept base (notchRelease k since s) := by
  unfold notchRelease
  try dsimp only
  with_reducible
    repeat' first
      | assumption | apply kept_raise | apply kept_notchSet | apply kept_ite | simp only [kept_mk] | apply keptD_of | rfl | split

theorem kept_notchPlace {base : State} {f : Int} {s : State} (h : Kept base s) :
    Kept base (notchPlace f s) := by
  unfold notchPlace
  try dsimp only
  with_reducible
    repeat' first
      | assumption | apply kept_raise | apply kept_notchSet | apply kept_ite | split

theorem kept_jamOn {base : State} {args : List Int} {s : State} (h : Kept base s) :
    Kept base (jamOn args s) := by
  unfold jamOn
  try dsimp only
  with_reducible
    repeat' first
      | assumption | apply kept_fault | apply kept_fsetb

theorem kept_gainCount {base : State} {gain : Nat} {s : State} (h : Kept base s) :
    Kept base (gainCount gain s) := by
  unfold gainCount
  try dsimp only
  with_reducible
    repeat' first
      | assumption | apply kept_ite | simp only [kept_mk] | apply keptD_of | rfl | split

theorem kept_jamSet {base : State} {third wide : Bool} {jn : Nat} {clear : Option Nat} {s : State} (h : Kept base s) :
    Kept base (jamSet third wide jn clear s) := by
  unfold jamSet
  try dsimp only
  with_reducible
    repeat' first
      | assumption | intro _ | apply kept_whenB | apply kept_jamOn | apply kept_fsetb | apply kept_faultEnd | apply kept_ite | simp only [kept_mk]
      | apply keptD_of | rfl | split

theorem kept_execInterferenceFft {base : State} {lines : List (Int × Nat)} {gain jn : Nat} {s : State} (h : Kept base s) :
    KeptOut base (execInterferenceFft lines gain jn s) := by
  unfold execInterferenceFft
  try dsimp only
  with_reducible
    repeat' first
      | assumption | intro _ | apply kept_fset | apply kept_notchRelease | apply kept_forEach | apply kept_notchPlace | apply kept_gainCount
      | apply kept_jamSet | apply kept_ite | simp only [kept_mk] | apply keptD_of | rfl | apply keptOut_next | split

theorem kept_execNomGainUpdate {base : State} {s : State} (h : Kept base s) :
    KeptOut base (execNomGainUpdate s) := by
  unfold execNomGainUpdate
  try dsimp only
  with_reducible
    repeat' first
      | assumption | apply kept_fset | apply kept_ite | simp only [kept_mk] | apply keptD_of | rfl | apply keptOut_next | split

end Sys2Proof.Laws
end

