-- ==== Sys2Proof/Laws/KeptPwm.lean ====
section
/-!
SUPPORT. Laws/KeptPwm.lean: each operation of Machine/Pwm.lean keeps what Laws/Kept.lean lists.
-/

set_option linter.unusedVariables false
set_option linter.unusedTactic false
set_option linter.unreachableTactic false

open Sys2Proof Sys2Proof.Machine

namespace Sys2Proof.Laws

theorem kept_setWav {base : State} {n : Nat} {w : Wav} {s : State} (h : Kept base s) :
    Kept base (setWav n w s) := by
  unfold setWav
  try dsimp only
  with_reducible
    repeat' first
      | assumption | simp only [kept_mk] | apply keptD_of | rfl

theorem kept_waveFold {base : State} {n : Nat} {s : State} (h : Kept base s) :
    Kept base (waveFold n s) := by
  unfold waveFold
  try dsimp only
  with_reducible
    repeat' first
      | assumption | intro _ | apply kept_whenB | apply kept_fsetb | apply kept_setWav | apply kept_ite | simp only [kept_mk] | apply keptD_of
      | rfl | split

theorem kept_hbSettle {base : State} {old : State} {m : Nat} {s : State} (h : Kept base s) :
    Kept base (hbSettle old m s) := by
  unfold hbSettle
  try dsimp only
  with_reducible
    repeat' first
      | assumption | intro _ | apply kept_ite | simp only [kept_mk] | apply keptD_of | rfl | split

theorem kept_setLch {base : State} {n : Nat} {f : LswCh → LswCh} {s : State} (h : Kept base s) :
    Kept base (setLch n f s) := by
  unfold setLch
  try dsimp only
  with_reducible
    repeat' first
      | assumption | simp only [kept_mk] | apply keptD_of | rfl

theorem kept_retryCancel {base : State} {n : Nat} {s : State} (h : Kept base s) :
    Kept base (retryCancel n s) := by
  unfold retryCancel
  try dsimp only
  with_reducible
    repeat' first
      | assumption | intro _ | apply kept_fsetb | apply kept_setLch | apply kept_ite | simp only [kept_mk] | apply keptD_of | rfl | split

theorem kept_command {base : State} {n : Nat} {s : State} (h : Kept base s) :
    Kept base (command n s) := by
  unfold command
  try dsimp only
  with_reducible
    repeat' first
      | assumption | intro _ | apply kept_setLch | apply kept_retryCancel | apply kept_ite | simp only [kept_mk] | apply keptD_of | rfl | split

theorem kept_evidence {base : State} {n : Nat} {s0 : State} (h : Kept base s0) :
    Kept base (evidence n s0) := by
  unfold evidence
  extract_lets s c w old d e s1 e1 p s2 o
  have hs : Kept base s := kept_command h
  have h1 : Kept base s1 := kept_ite hs (kept_setLch hs)
  have h2 : Kept base s2 := kept_mk.2 (keptD_of h1 rfl rfl)
  exact kept_ite hs (kept_ite h2 (kept_setOut h2))

theorem kept_retryTick {base : State} {s : State} (h : Kept base s) :
    Kept base (retryTick s) := by
  unfold retryTick
  try dsimp only
  with_reducible
    repeat' first
      | assumption | intro _ | apply kept_forEach | apply kept_evidence | apply kept_retryCancel | simp only [kept_mk] | apply keptD_of | rfl
      | split

theorem kept_wiredSend {base : State} {n : Nat} {s : State} (h : Kept base s) :
    Kept base (wiredSend n s) := by
  unfold wiredSend
  try dsimp only
  with_reducible
    repeat' first
      | assumption | intro _ | apply kept_send | apply kept_ite | simp only [kept_mk] | apply keptD_of | rfl | split

theorem kept_settle {base : State} {old s : State} (h : Kept base s) :
    Kept base (settle old s) := by
  unfold settle
  try dsimp only
  with_reducible
    repeat' first
      | assumption | intro _ | apply kept_forN | apply kept_wiredSend | apply kept_evidence | apply kept_hbSettle

theorem kept_staged {base : State} {f : State → State} {s : State} (hf : ∀  t, Kept base t → Kept base (f  t)) (h : Kept base s) :
    Kept base (staged f s) := by
  unfold staged
  try dsimp only
  with_reducible
    repeat' first
      | assumption | intro _ | apply hf | apply kept_settle

theorem kept_setGate {base : State} {n : Nat} {on : Bool} {s : State} (h : Kept base s) :
    Kept base (setGate n on s) := by
  unfold setGate
  try dsimp only
  with_reducible
    repeat' first
      | assumption | intro _ | apply kept_setWav | apply kept_fsetb | apply kept_rsetN | apply kept_ite | simp only [kept_mk] | apply keptD_of
      | rfl | split

theorem kept_lgWrite {base : State} {src : Writer} {k reg : Nat} {f : State → State} {s : State} (hf : ∀  t, Kept base t → Kept base (f  t)) (h : Kept base s) :
    Kept base (lgWrite src k reg f s) := by
  unfold lgWrite
  try dsimp only
  with_reducible
    repeat' first
      | assumption | intro _ | apply hf | apply kept_fincSat | apply kept_rapRefuse | apply kept_rapAnswer | apply kept_ite | simp only [kept_mk]
      | apply keptD_of | rfl | split

theorem kept_shadowSet {base : State} {n : Nat} {phase : Bool} {v : Nat} {s : State} (h : Kept base s) :
    Kept base (shadowSet n phase v s) := by
  unfold shadowSet
  try dsimp only
  with_reducible
    repeat' first
      | assumption | apply kept_fsetb | apply kept_fset | apply kept_ite | split

theorem kept_execShadowWrite {base : State} {src : Writer} {ch : Fin 104} {phase : Bool} {v : Word} {s : State} (h : Kept base s) :
    KeptOut base (execShadowWrite src ch phase v s) := by
  unfold execShadowWrite
  try dsimp only
  with_reducible
    repeat' first
      | assumption | intro _ | apply kept_lgWrite | apply kept_shadowSet | apply kept_ite | apply keptOut_next | split

theorem kept_lgArm {base : State} {k : Nat} {s : State} (h : Kept base s) :
    Kept base (lgArm k s) := by
  unfold lgArm
  try dsimp only
  with_reducible
    repeat' first
      | assumption | apply kept_fsetb | apply kept_ite | simp only [kept_mk] | apply keptD_of | rfl | split

theorem kept_execLoadAll {base : State} {src : Writer} {k : Fin 8} {cancel : Bool} {s : State} (h : Kept base s) :
    KeptOut base (execLoadAll src k cancel s) := by
  unfold execLoadAll
  try dsimp only
  with_reducible
    repeat' first
      | assumption | intro _ | apply kept_lgWrite | apply kept_lgArm | apply kept_ite | apply keptOut_next | split

theorem kept_execLgCancel {base : State} {src : Writer} {k : Fin 8} {s : State} (h : Kept base s) :
    KeptOut base (execLgCancel src k s) := by
  unfold execLgCancel
  try dsimp only
  with_reducible
    repeat' first
      | assumption | intro _ | apply kept_lgWrite | apply kept_fsetb | apply kept_ite | apply keptOut_next | split

theorem kept_chTransfer {base : State} {n : Nat} {s : State} (h : Kept base s) :
    Kept base (chTransfer n s) := by
  unfold chTransfer
  try dsimp only
  with_reducible
    repeat' first
      | assumption | apply kept_waveFold | apply kept_fset | apply kept_setWav

theorem kept_lgTransfer {base : State} {k : Nat} {s : State} (h : Kept base s) :
    Kept base (lgTransfer k s) := by
  unfold lgTransfer
  try dsimp only
  with_reducible
    repeat' first
      | assumption | intro _ | apply kept_forN | apply kept_waveFold | apply kept_chTransfer | apply kept_fsetb | apply kept_rsetN
      | apply kept_fincWrap | apply kept_ite | simp only [kept_mk] | apply keptD_of | rfl | split

theorem kept_execLgTransfer {base : State} {k : Fin 8} {s : State} (h : Kept base s) :
    KeptOut base (execLgTransfer k s) := by
  unfold execLgTransfer
  try dsimp only
  with_reducible
    repeat' first
      | assumption | intro _ | apply kept_staged | apply kept_lgTransfer | apply kept_ite | apply keptOut_next | split

theorem kept_execForceCommit {base : State} {who : Fin 36} {clear : Bool} {s : State} (h : Kept base s) :
    KeptOut base (execForceCommit who clear s) := by
  unfold execForceCommit
  try dsimp only
  with_reducible
    repeat' first
      | assumption | intro _ | apply kept_rapDo | apply kept_ite | simp only [kept_mk] | apply keptD_of | rfl | apply keptOut_next | split

theorem kept_execForceClearAll {base : State} {who : Fin 36} {s : State} (h : Kept base s) :
    KeptOut base (execForceClearAll who s) := by
  unfold execForceClearAll
  try dsimp only
  with_reducible
    repeat' first
      | assumption | intro _ | apply kept_rapDo | simp only [kept_mk] | apply keptD_of | rfl | apply keptOut_next

theorem kept_execForceTimeout {base : State} {s : State} (h : Kept base s) :
    KeptOut base (execForceTimeout s) := by
  unfold execForceTimeout
  try dsimp only
  with_reducible
    repeat' first
      | assumption | apply kept_ite | simp only [kept_mk] | apply keptD_of | rfl | apply keptOut_next | split

theorem kept_forceSessionEnd {base : State} {who : Nat} {s : State} (h : Kept base s) :
    Kept base (forceSessionEnd who s) := by
  unfold forceSessionEnd
  try dsimp only
  with_reducible
    repeat' first
      | assumption | apply kept_ite | simp only [kept_mk] | apply keptD_of | rfl | split

theorem kept_forceRelease {base : State} {cause : Nat} {s : State} (h : Kept base s) :
    Kept base (forceRelease cause s) := by
  unfold forceRelease
  try dsimp only
  with_reducible
    repeat' first
      | assumption | apply kept_raise | apply kept_rsetN | apply kept_ite | simp only [kept_mk] | apply keptD_of | rfl | split

theorem kept_forceTick {base : State} {s : State} (h : Kept base s) :
    Kept base (forceTick s) := by
  unfold forceTick
  try dsimp only
  with_reducible
    repeat' first
      | assumption | intro _ | apply kept_staged | apply kept_forceRelease | apply kept_rsetN | apply kept_ite | simp only [kept_mk]
      | apply keptD_of | rfl | split

end Sys2Proof.Laws
end

