-- ==== Sys2Proof/Laws/KeptStage.lean ====
section
/-!
SUPPORT. Laws/KeptStage.lean: each operation of Machine/Stage.lean keeps what Laws/Kept.lean lists.
-/

set_option linter.unusedVariables false
set_option linter.unusedTactic false
set_option linter.unreachableTactic false

open Sys2Proof Sys2Proof.Machine

namespace Sys2Proof.Laws

theorem kept_tripSet {base : State} {k first : Nat} {s : State} (h : Kept base s) :
    Kept base (tripSet k first s) := by
  unfold tripSet
  try dsimp only
  with_reducible
    repeat' first
      | assumption | apply kept_fincSat | apply kept_fsetb | apply kept_fault | apply kept_rsetN | apply kept_ite | split

theorem kept_setTrip {base : State} {k : Nat} {f : TripSt → TripSt} {s : State} (h : Kept base s) :
    Kept base (setTrip k f s) := by
  unfold setTrip
  try dsimp only
  with_reducible
    repeat' first
      | assumption | simp only [kept_mk] | apply keptD_of | rfl

theorem kept_execTripActive {base : State} {k : Fin 8} {s : State} (h : Kept base s) :
    KeptOut base (execTripActive k s) := by
  unfold execTripActive
  try dsimp only
  with_reducible
    repeat' first
      | assumption | intro _ | apply kept_staged | apply kept_fsetb | apply kept_fault | apply kept_fset | apply kept_fincSat | apply kept_tripSet
      | apply kept_ite | simp only [kept_mk] | apply keptD_of | rfl | apply keptOut_next | split

theorem kept_tripClear {base : State} {k : Nat} {s : State} (h : Kept base s) :
    Kept base (tripClear k s) := by
  unfold tripClear
  try dsimp only
  with_reducible
    repeat' first
      | assumption | intro _ | apply kept_staged | apply kept_faultEnd | apply kept_fsetb | apply kept_ite | split

theorem kept_execTripInactive {base : State} {k : Fin 8} {s : State} (h : Kept base s) :
    KeptOut base (execTripInactive k s) := by
  unfold execTripInactive
  try dsimp only
  with_reducible
    repeat' first
      | assumption | intro _ | apply kept_setTrip | apply kept_fsetb | apply kept_tripClear | apply kept_fset | apply kept_ite
      | simp only [kept_mk] | apply keptD_of | rfl | apply keptOut_next | split

theorem kept_execTripClear {base : State} {who : Fin 36} {k : Fin 8} {s : State} (h : Kept base s) :
    KeptOut base (execTripClear who k s) := by
  unfold execTripClear
  try dsimp only
  with_reducible
    repeat' first
      | assumption | intro _ | apply kept_rapDo | apply kept_setTrip | apply kept_fincSat | apply kept_tripClear | apply kept_ite
      | simp only [kept_mk] | apply keptD_of | rfl | apply keptOut_next | split

theorem kept_execTripAutoRelease {base : State} {k : Fin 8} {s : State} (h : Kept base s) :
    KeptOut base (execTripAutoRelease k s) := by
  unfold execTripAutoRelease
  try dsimp only
  with_reducible
    repeat' first
      | assumption | apply kept_tripClear | apply kept_ite | apply keptOut_next | split

theorem kept_execTripSafeSample {base : State} {k : Fin 8} {s : State} (h : Kept base s) :
    KeptOut base (execTripSafeSample k s) := by
  unfold execTripSafeSample
  try dsimp only
  with_reducible
    repeat' first
      | assumption | intro _ | apply kept_staged | apply kept_tripSet | apply kept_ite | apply keptOut_next | split

theorem kept_wdStart {base : State} {s : State} (h : Kept base s) :
    Kept base (wdStart s) := by
  unfold wdStart
  try dsimp only
  with_reducible
    repeat' first
      | assumption | apply kept_fsetb | apply kept_ite | simp only [kept_mk] | apply keptD_of | rfl | split

theorem kept_wdExpire {base : State} {s : State} (h : Kept base s) :
    Kept base (wdExpire s) := by
  unfold wdExpire
  try dsimp only
  with_reducible
    repeat' first
      | assumption | apply kept_fsetb | apply kept_fault | simp only [kept_mk] | apply keptD_of | rfl

theorem kept_execWdExpired {base : State} {s : State} (h : Kept base s) :
    KeptOut base (execWdExpired s) := by
  unfold execWdExpired
  try dsimp only
  with_reducible
    repeat' first
      | assumption | intro _ | apply kept_staged | apply kept_wdExpire | apply kept_ite | apply keptOut_next | split

theorem kept_own {base : State} {s : State} (h : Kept base s) :
    Kept base (own s) := by
  unfold own
  try dsimp only
  with_reducible
    repeat' first
      | assumption | apply kept_faultPast | apply kept_fsetb | simp only [kept_mk] | apply keptD_of | rfl

theorem kept_execOwnWrite {base : State} {expiry : Bool} {s : State} (h : Kept base s) :
    KeptOut base (execOwnWrite expiry s) := by
  unfold execOwnWrite
  try dsimp only
  with_reducible
    repeat' first
      | assumption | intro _ | apply kept_staged | apply kept_wdExpire | apply kept_own | apply kept_ite | apply keptOut_next | split

theorem kept_execWdSuspendWrite {base : State} {who : Fin 36} {b : Bool} {s : State} (h : Kept base s) :
    KeptOut base (execWdSuspendWrite who b s) := by
  unfold execWdSuspendWrite
  try dsimp only
  with_reducible
    repeat' first
      | assumption | intro _ | apply kept_rapDo | apply kept_raise | apply kept_fsetb | apply kept_ite | apply keptOut_next | split

theorem kept_hold {base : State} {s : State} (h : Kept base s) :
    Kept base (hold s) := by
  unfold hold
  try dsimp only
  with_reducible
    repeat' first
      | assumption | apply kept_wdStart | apply kept_ite | simp only [kept_mk] | apply keptD_of | rfl | split

theorem kept_freeze {base : State} {s : State} (h : Kept base s) :
    Kept base (freeze s) := by
  unfold freeze
  try dsimp only
  with_reducible
    repeat' first
      | assumption | apply kept_hold | apply kept_fsetb | simp only [kept_mk] | apply keptD_of | rfl

theorem kept_unfreeze {base : State} {s : State} (h : Kept base s) :
    Kept base (unfreeze s) := by
  unfold unfreeze
  try dsimp only
  with_reducible
    repeat' first
      | assumption | apply kept_fsetb | simp only [kept_mk] | apply keptD_of | rfl

theorem kept_halterEnter {base : State} {s : State} (h : Kept base s) :
    Kept base (halterEnter s) := by
  unfold halterEnter
  try dsimp only
  with_reducible
    repeat' first
      | assumption | apply kept_fsetb | apply kept_fset | apply kept_raise | apply kept_ite | simp only [kept_mk] | apply keptD_of | rfl | split

theorem kept_halterCheck {base : State} {s : State} (h : Kept base s) :
    Kept base (halterCheck s) := by
  unfold halterCheck
  try dsimp only
  with_reducible
    repeat' first
      | assumption | apply kept_halterEnter | apply kept_ite | split

theorem kept_execCoreNotAlive {base : State} {s : State} (h : Kept base s) :
    KeptOut base (execCoreNotAlive s) := by
  unfold execCoreNotAlive
  try dsimp only
  with_reducible
    repeat' first
      | assumption | intro _ | apply kept_staged | apply kept_halterCheck | apply kept_wdStart | apply kept_ite | apply keptOut_next | split

theorem kept_pairApply {base : State} {n : Nat} {gate : Bool} {force duty phase : Nat} {s : State} (h : Kept base s) :
    Kept base (pairApply n gate force duty phase s) := by
  unfold pairApply
  try dsimp only
  with_reducible
    repeat' first
      | assumption | apply kept_fset | apply kept_setWav | apply kept_waveFold | apply kept_ite | simp only [kept_mk] | apply keptD_of | rfl
      | split

theorem kept_execPairWiredUpdate {base : State} {ch : Fin 96} {gate : Bool} {force : Fin 4} {duty phase tick : Nat} {s : State} (h : Kept base s) :
    KeptOut base (execPairWiredUpdate ch gate force duty phase tick s) := by
  unfold execPairWiredUpdate
  try dsimp only
  with_reducible
    repeat' first
      | assumption | intro _ | apply kept_tick | apply kept_staged | apply kept_pairApply | apply kept_ite | simp only [kept_mk] | apply keptD_of
      | rfl | apply keptOut_next | split

theorem kept_pairTick {base : State} {s : State} (h : Kept base s) :
    Kept base (pairTick s) := by
  unfold pairTick
  try dsimp only
  with_reducible
    repeat' first
      | assumption | intro _ | apply kept_staged | apply kept_forEach | apply kept_pairApply | simp only [kept_mk] | apply keptD_of | rfl | split

end Sys2Proof.Laws
end

