-- ==== Sys2Proof/Laws/KeptLoad.lean ====
section
/-!
SUPPORT. Laws/KeptLoad.lean: each operation of Machine/Load.lean keeps what Laws/Kept.lean lists.
-/

set_option linter.unusedVariables false
set_option linter.unusedTactic false
set_option linter.unreachableTactic false

open Sys2Proof Sys2Proof.Machine

namespace Sys2Proof.Laws

theorem kept_capRetire {base : State} {k : Nat} {s : State} (h : Kept base s) :
    Kept base (capRetire k s) := by
  unfold capRetire
  try dsimp only
  with_reducible
    repeat' first
      | assumption | apply kept_fsetb | apply kept_fincSat | apply kept_fset

theorem kept_capacityLost {base : State} {k i : Nat} {s : State} (h : Kept base s) :
    Kept base (capacityLost k i s) := by
  unfold capacityLost
  try dsimp only
  with_reducible
    repeat' first
      | assumption | apply kept_fault | apply kept_fsetb

theorem kept_testFailed {base : State} {k i t : Nat} {sig : Int} {s : State} (h : Kept base s) :
    Kept base (testFailed k i t sig s) := by
  unfold testFailed
  try dsimp only
  with_reducible
    repeat' first
      | assumption | apply kept_raise | apply kept_fset

theorem kept_retrySync {base : State} {n : Nat} {s : State} (h : Kept base s) :
    Kept base (retrySync n s) := by
  unfold retrySync
  try dsimp only
  with_reducible
    repeat' first
      | assumption | intro _ | apply kept_setLch | apply kept_fsetb | apply kept_raise | apply kept_ite | simp only [kept_mk] | apply keptD_of
      | rfl | split

theorem kept_latchNote {base : State} {n : Nat} {f : Fld} {s : State} (h : Kept base s) :
    Kept base (latchNote n f s) := by
  unfold latchNote
  try dsimp only
  with_reducible
    repeat' first
      | assumption | intro _ | apply kept_setLch | simp only [kept_mk] | apply keptD_of | rfl

theorem kept_tripLatch {base : State} {n : Nat} {short : Bool} {s : State} (h : Kept base s) :
    Kept base (tripLatch n short s) := by
  unfold tripLatch
  try dsimp only
  with_reducible
    repeat' first
      | assumption | intro _ | apply kept_setLch | apply kept_latchNote | apply kept_fsetb | apply kept_fault | apply kept_ite
      | simp only [kept_mk] | apply keptD_of | rfl | split

theorem kept_windowPast {base : State} {n : Nat} {s : State} (h : Kept base s) :
    Kept base (windowPast n s) := by
  unfold windowPast
  try dsimp only
  with_reducible
    repeat' first
      | assumption | intro _ | apply kept_setLch | apply kept_ite | simp only [kept_mk] | apply keptD_of | rfl | split

theorem kept_chTrip {base : State} {n : Nat} {short : Bool} {s0 : State} (h : Kept base s0) :
    Kept base (chTrip n short s0) := by
  unfold chTrip
  try dsimp only
  with_reducible
    repeat' first
      | assumption | intro _ | apply kept_windowPast | apply kept_fincSat | apply kept_fault | apply kept_setLch | apply kept_tripLatch
      | apply kept_retrySync | apply kept_fsetb | apply kept_ite | simp only [kept_mk] | apply keptD_of | rfl | split

theorem kept_tripPast {base : State} {n : Nat} {s : State} (h : Kept base s) :
    Kept base (tripPast n s) := by
  unfold tripPast
  try dsimp only
  with_reducible
    repeat' first
      | assumption | apply kept_faultPast

theorem kept_retryMake {base : State} {n : Nat} {s : State} (h : Kept base s) :
    Kept base (retryMake n s) := by
  unfold retryMake
  try dsimp only
  with_reducible
    repeat' first
      | assumption | intro _ | apply kept_setLch | apply kept_tripPast | apply kept_fsetb | apply kept_retrySync | apply kept_raise
      | apply kept_fincSat | simp only [kept_mk] | apply keptD_of | rfl

theorem kept_execShortTrip {base : State} {ch : Fin 96} {s : State} (h : Kept base s) :
    KeptOut base (execShortTrip ch s) := by
  unfold execShortTrip
  try dsimp only
  with_reducible
    repeat' first
      | assumption | intro _ | apply kept_staged | apply kept_chTrip | apply kept_tripLatch | apply kept_fault | apply kept_fincSat
      | apply kept_ite | apply keptOut_next | split

theorem kept_execRetry {base : State} {ch : Fin 96} {s : State} (h : Kept base s) :
    KeptOut base (execRetry ch s) := by
  unfold execRetry
  try dsimp only
  with_reducible
    repeat' first
      | assumption | intro _ | apply kept_retrySync | apply kept_setLch | apply kept_staged | apply kept_retryMake | apply kept_ite
      | simp only [kept_mk] | apply keptD_of | rfl | apply keptOut_next | split

theorem kept_execRetryWindowEnd {base : State} {ch : Fin 96} {s : State} (h : Kept base s) :
    KeptOut base (execRetryWindowEnd ch s) := by
  unfold execRetryWindowEnd
  try dsimp only
  with_reducible
    repeat' first
      | assumption | apply kept_windowPast | apply keptOut_next

theorem kept_evLoad {base : State} {n t : Nat} {ok : Bool} {s : State} (h : Kept base s) :
    Kept base (evLoad n t ok s) := by
  unfold evLoad
  try dsimp only
  with_reducible
    repeat' first
      | assumption | intro _ | apply kept_tick | apply kept_setOut | apply kept_ite | simp only [kept_mk] | apply keptD_of | rfl | split

theorem kept_segShow {base : State} {n : Nat} {s : State} (h : Kept base s) :
    Kept base (segShow n s) := by
  unfold segShow
  try dsimp only
  with_reducible
    repeat' first
      | assumption | apply kept_fsetb | apply kept_fset

theorem kept_segRetire {base : State} {n : Nat} {g : Fin 4} {s : State} (h : Kept base s) :
    Kept base (segRetire n g s) := by
  unfold segRetire
  try dsimp only
  with_reducible
    repeat' first
      | assumption | intro _ | apply kept_setLch | apply kept_segShow | apply kept_capRetire | apply kept_capacityLost | apply kept_ite
      | simp only [kept_mk] | apply keptD_of | rfl | split

theorem kept_segShare {base : State} {n code : Nat} {g : Fin 4} {cur : Nat} {s : State} (h : Kept base s) :
    Kept base (segShare n code g cur s) := by
  unfold segShare
  try dsimp only
  with_reducible
    repeat' first
      | assumption | intro _ | apply kept_setLch | apply kept_segRetire | apply kept_testFailed | apply kept_ite | simp only [kept_mk]
      | apply keptD_of | rfl | split

theorem kept_farStamp {base : State} {k i : Nat} {s : State} (h : Kept base s) :
    Kept base (farStamp k i s) := by
  unfold farStamp
  try dsimp only
  with_reducible
    repeat' first
      | assumption | simp only [kept_mk] | apply keptD_of | rfl

theorem kept_execSegmentStuckCheck {base : State} {ch : Fin 96} {seg : Option (Fin 4)} {s : State} (h : Kept base s) :
    KeptOut base (execSegmentStuckCheck ch seg s) := by
  unfold execSegmentStuckCheck
  try dsimp only
  with_reducible
    repeat' first
      | assumption | intro _ | apply kept_farStamp | apply kept_staged | apply kept_fault | apply kept_fsetb | apply kept_ite
      | simp only [kept_mk] | apply keptD_of | rfl | apply keptOut_next | split

theorem kept_sumCurrents {base : State} {n : Nat} {s : State} (h : Kept base s) :
    Kept base (sumCurrents n s) := by
  unfold sumCurrents
  try dsimp only
  with_reducible
    repeat' first
      | assumption | intro _ | apply kept_fset | apply kept_foldl | apply kept_foldl2 | apply kept_foldl1

theorem kept_ocTest {base : State} {n code : Nat} {s : State} (h : Kept base s) :
    Kept base (ocTest n code s) := by
  unfold ocTest
  try dsimp only
  with_reducible
    repeat' first
      | assumption | intro _ | apply kept_setLch | apply kept_chTrip | apply kept_ite | simp only [kept_mk] | apply keptD_of | rfl | split

theorem kept_openLoad {base : State} {n : Nat} {b : Bool} {t : Nat} {s : State} (h : Kept base s) :
    Kept base (openLoad n b t s) := by
  unfold openLoad
  try dsimp only
  with_reducible
    repeat' first
      | assumption | apply kept_evLoad | apply kept_fsetb | apply kept_fault | apply kept_faultEnd | apply kept_ite | split

theorem kept_olTest {base : State} {n code : Nat} {s : State} (h : Kept base s) :
    Kept base (olTest n code s) := by
  unfold olTest
  try dsimp only
  with_reducible
    repeat' first
      | assumption | intro _ | apply kept_setLch | apply kept_fsetb | apply kept_openLoad | apply kept_ite | simp only [kept_mk] | apply keptD_of
      | rfl | split

theorem kept_feedVolt {base : State} {f mv : Nat} {s0 : State} (h : Kept base s0) :
    Kept base (feedVolt f mv s0) := by
  unfold feedVolt
  try dsimp only
  with_reducible
    repeat' first
      | assumption | intro _ | apply kept_forN | apply kept_waveFold | apply kept_fset | simp only [kept_mk] | apply keptD_of | rfl

theorem kept_loadAdd {base : State} {f code : Nat} {s : State} (h : Kept base s) :
    Kept base (loadAdd f code s) := by
  unfold loadAdd
  try dsimp only
  with_reducible
    repeat' first
      | assumption | intro _ | simp only [kept_mk] | apply keptD_of | rfl

theorem kept_execCurrentSample {base : State} {ch : Fin 96} {code : BitVec 12} {segs : SegCur} {partner : BitVec 12} {mv : Nat} {s : State} (h : Kept base s) :
    KeptOut base (execCurrentSample ch code segs partner mv s) := by
  unfold execCurrentSample
  try dsimp only
  with_reducible
    repeat' first
      | assumption | intro _ | apply kept_staged | apply kept_mateTake | apply kept_send | apply kept_sumCurrents | apply kept_loadAdd
      | apply kept_fset | apply kept_feedVolt | apply kept_forEach | apply kept_segShare | apply kept_ocTest | apply kept_olTest | apply kept_ite
      | apply keptOut_next | split

theorem kept_execOlUnknown {base : State} {ch : Fin 96} {s : State} (h : Kept base s) :
    KeptOut base (execOlUnknown ch s) := by
  unfold execOlUnknown
  try dsimp only
  with_reducible
    repeat' first
      | assumption | apply kept_fsetb | apply kept_ite | apply keptOut_next | split

theorem kept_execFeedOverload {base : State} {f : Option (Fin 6)} {s : State} (h : Kept base s) :
    KeptOut base (execFeedOverload f s) := by
  unfold execFeedOverload
  try dsimp only
  with_reducible
    repeat' first
      | assumption | apply kept_fsetb | apply kept_fault | apply kept_faultEnd | apply kept_foldl | apply kept_foldl2 | apply kept_foldl1
      | apply kept_ite | simp only [kept_mk] | apply keptD_of | rfl | apply keptOut_next | split

theorem kept_execThermalOff {base : State} {ch : Fin 96} {s : State} (h : Kept base s) :
    KeptOut base (execThermalOff ch s) := by
  unfold execThermalOff
  try dsimp only
  with_reducible
    repeat' first
      | assumption | intro _ | apply kept_staged | apply kept_fault | apply kept_setLch | apply kept_fsetb | apply kept_latchNote | apply kept_ite
      | simp only [kept_mk] | apply keptD_of | rfl | apply keptOut_next | split

theorem kept_execThermalOn {base : State} {ch : Fin 96} {s : State} (h : Kept base s) :
    KeptOut base (execThermalOn ch s) := by
  unfold execThermalOn
  try dsimp only
  with_reducible
    repeat' first
      | assumption | intro _ | apply kept_staged | apply kept_faultEnd | apply kept_fsetb | apply kept_ite | apply keptOut_next | split

theorem kept_execClusterWarn {base : State} {c : Fin 12} {temp : BitVec 9} {s : State} (h : Kept base s) :
    KeptOut base (execClusterWarn c temp s) := by
  unfold execClusterWarn
  try dsimp only
  with_reducible
    repeat' first
      | assumption | intro _ | apply kept_forEach | apply kept_retrySync | apply kept_fsetb | apply kept_fset | apply kept_ite
      | apply keptOut_next | split

theorem kept_execClusterWarnClear {base : State} {c : Fin 12} {temp : BitVec 9} {s : State} (h : Kept base s) :
    KeptOut base (execClusterWarnClear c temp s) := by
  unfold execClusterWarnClear
  try dsimp only
  with_reducible
    repeat' first
      | assumption | intro _ | apply kept_forEach | apply kept_retrySync | apply kept_fsetb | apply kept_fset | apply kept_ite
      | apply keptOut_next | split

theorem kept_execClampEvent {base : State} {ch : Fin 96} {i0 tcl vf : Nat} {s : State} (h : Kept base s) :
    KeptOut base (execClampEvent ch i0 tcl vf s) := by
  unfold execClampEvent
  try dsimp only
  with_reducible
    repeat' first
      | assumption | intro _ | apply kept_staged | apply kept_setLch | apply kept_fset | apply kept_fault | apply kept_latchNote
      | apply kept_fsetb | apply kept_ite | simp only [kept_mk] | apply keptD_of | rfl | apply keptOut_next | split

theorem kept_latchClear {base : State} {n : Nat} {s : State} (h : Kept base s) :
    Kept base (latchClear n s) := by
  unfold latchClear
  try dsimp only
  with_reducible
    repeat' first
      | assumption | intro _ | apply kept_forEach | apply kept_faultEnd | apply kept_fsetb

theorem kept_execChannelClear {base : State} {who : Fin 36} {ch : Fin 96} {s : State} (h : Kept base s) :
    KeptOut base (execChannelClear who ch s) := by
  unfold execChannelClear
  try dsimp only
  with_reducible
    repeat' first
      | assumption | intro _ | apply kept_rapDo | apply kept_fincSat | apply kept_staged | apply kept_latchClear | apply kept_ite
      | apply keptOut_next | split

theorem kept_execLatchAutoClear {base : State} {ch : Fin 96} {s : State} (h : Kept base s) :
    KeptOut base (execLatchAutoClear ch s) := by
  unfold execLatchAutoClear
  try dsimp only
  with_reducible
    repeat' first
      | assumption | intro _ | apply kept_staged | apply kept_latchClear | apply kept_ite | simp only [kept_mk] | apply keptD_of | rfl
      | apply keptOut_next | split

theorem kept_clusterRestart {base : State} {c : Nat} {s : State} (h : Kept base s) :
    Kept base (clusterRestart c s) := by
  unfold clusterRestart
  try dsimp only
  with_reducible
    repeat' first
      | assumption | intro _ | apply kept_forEach | apply kept_fsetb | apply kept_retrySync | apply kept_setLch | apply kept_retryMake
      | apply kept_raise | apply kept_ite | simp only [kept_mk] | apply keptD_of | rfl | split

theorem kept_execFeedRestart {base : State} {f : Fin 6} {s : State} (h : Kept base s) :
    KeptOut base (execFeedRestart f s) := by
  unfold execFeedRestart
  try dsimp only
  with_reducible
    repeat' first
      | assumption | intro _ | apply kept_staged | apply kept_faultEnd | apply kept_fsetb | apply kept_clusterRestart | apply kept_ite
      | simp only [kept_mk] | apply keptD_of | rfl | apply keptOut_next | split

theorem kept_execFeedRestartSecond {base : State} {f : Fin 6} {s : State} (h : Kept base s) :
    KeptOut base (execFeedRestartSecond f s) := by
  unfold execFeedRestartSecond
  try dsimp only
  with_reducible
    repeat' first
      | assumption | intro _ | apply kept_staged | apply kept_clusterRestart | apply kept_ite | simp only [kept_mk] | apply keptD_of | rfl
      | apply keptOut_next | split

theorem kept_execHbDesat {base : State} {m : Fin 4} {s : State} (h : Kept base s) :
    KeptOut base (execHbDesat m s) := by
  unfold execHbDesat
  try dsimp only
  with_reducible
    repeat' first
      | assumption | intro _ | apply kept_staged | apply kept_fault | apply kept_fsetb | apply kept_ite | apply keptOut_next | split

theorem kept_execHbDrvUv {base : State} {m : Fin 4} {s : State} (h : Kept base s) :
    KeptOut base (execHbDrvUv m s) := by
  unfold execHbDrvUv
  try dsimp only
  with_reducible
    repeat' first
      | assumption | intro _ | apply kept_staged | apply kept_fault | apply kept_fsetb | apply kept_ite | apply keptOut_next | split

theorem kept_execHbDrvUvRelease {base : State} {m : Fin 4} {s : State} (h : Kept base s) :
    KeptOut base (execHbDrvUvRelease m s) := by
  unfold execHbDrvUvRelease
  try dsimp only
  with_reducible
    repeat' first
      | assumption | intro _ | apply kept_staged | apply kept_faultEnd | apply kept_fsetb | apply kept_ite | apply keptOut_next | split

theorem kept_execHbClear {base : State} {who : Fin 36} {m : Fin 4} {s : State} (h : Kept base s) :
    KeptOut base (execHbClear who m s) := by
  unfold execHbClear
  try dsimp only
  with_reducible
    repeat' first
      | assumption | intro _ | apply kept_rapDo | apply kept_staged | apply kept_faultEnd | apply kept_fsetb | apply kept_ite | apply keptOut_next
      | split

end Sys2Proof.Laws
end

