-- ==== Sys2Proof/Laws/KeptHalter.lean ====
section
/-!
SUPPORT. Laws/KeptHalter.lean: each operation of Machine/Halter.lean keeps what Laws/Kept.lean lists.
-/

set_option linter.unusedVariables false
set_option linter.unusedTactic false
set_option linter.unreachableTactic false

open Sys2Proof Sys2Proof.Machine

namespace Sys2Proof.Laws

theorem kept_pulseStart {base : State} {l : List Nat} {s : State} (h : Kept base s) :
    Kept base (pulseStart l s) := by
  unfold pulseStart
  try dsimp only
  with_reducible
    repeat' first
      | assumption | intro _ | apply kept_foldl | apply kept_foldl2 | apply kept_foldl1 | simp only [kept_mk] | apply keptD_of | rfl

theorem kept_halterBit {base : State} {s : State} {f : Fld} {i : Nat} {b : Bool} (h : Kept base s) :
    Kept base (halterBit s f i b) := by
  unfold halterBit
  try dsimp only
  with_reducible
    repeat' first
      | assumption | apply kept_fset

theorem kept_halterDisarm {base : State} {i : Nat} {s : State} (h : Kept base s) :
    Kept base (halterDisarm i s) := by
  unfold halterDisarm
  try dsimp only
  with_reducible
    repeat' first
      | assumption | intro _ | apply kept_halterBit | simp only [kept_mk] | apply keptD_of | rfl

theorem kept_execHalterInput {base : State} {i : Fin 8} {active : Bool} {s : State} (h : Kept base s) :
    KeptOut base (execHalterInput i active s) := by
  unfold execHalterInput
  try dsimp only
  with_reducible
    repeat' first
      | assumption | intro _ | apply kept_staged | apply kept_halterBit | apply kept_pulseStart | apply kept_whenB | apply kept_faultEnd
      | apply kept_ite | simp only [kept_mk] | apply keptD_of | rfl | apply keptOut_next | split

theorem kept_execHalterEnActive {base : State} {s : State} (h : Kept base s) :
    KeptOut base (execHalterEnActive s) := by
  unfold execHalterEnActive
  try dsimp only
  with_reducible
    repeat' first
      | assumption | intro _ | apply kept_staged | apply kept_halterCheck | apply kept_fsetb | apply kept_ite | apply keptOut_next | split

theorem kept_execHalterEnInactive {base : State} {s : State} (h : Kept base s) :
    KeptOut base (execHalterEnInactive s) := by
  unfold execHalterEnInactive
  try dsimp only
  with_reducible
    repeat' first
      | assumption | intro _ | apply kept_staged | apply kept_fsetb | apply kept_fset | apply kept_raise | apply kept_ite | simp only [kept_mk]
      | apply keptD_of | rfl | apply keptOut_next | split

theorem kept_execHalterPulse {base : State} {ch : Fin 96} {s : State} (h : Kept base s) :
    KeptOut base (execHalterPulse ch s) := by
  unfold execHalterPulse
  try dsimp only
  with_reducible
    repeat' first
      | assumption | intro _ | apply kept_staged | apply kept_pulseStart | apply kept_ite | simp only [kept_mk] | apply keptD_of | rfl
      | apply keptOut_next | split

theorem kept_execHalterStuck {base : State} {i : Fin 8} {s : State} (h : Kept base s) :
    KeptOut base (execHalterStuck i s) := by
  unfold execHalterStuck
  try dsimp only
  with_reducible
    repeat' first
      | assumption | intro _ | apply kept_staged | apply kept_fault | apply kept_halterDisarm | apply kept_halterBit | apply kept_ite
      | apply keptOut_next | split

end Sys2Proof.Laws
end

