-- ==== Sys2Proof/Laws/KeptFarrier.lean ====
section
/-!
SUPPORT. Laws/KeptFarrier.lean: each operation of Machine/Farrier.lean keeps what Laws/Kept.lean lists.
-/

set_option linter.unusedVariables false
set_option linter.unusedTactic false
set_option linter.unreachableTactic false

open Sys2Proof Sys2Proof.Machine

namespace Sys2Proof.Laws

theorem kept_showRoles {base : State} {k : Nat} {s : State} (h : Kept base s) :
    Kept base (showRoles k s) := by
  unfold showRoles
  try dsimp only
  with_reducible
    repeat' first
      | assumption | intro _ | apply kept_forN | apply kept_fsetb | apply kept_fset | apply kept_fault | apply kept_ite | simp only [kept_mk]
      | apply keptD_of | rfl | split

theorem kept_setSpares {base : State} {k : Nat} {l : List Nat} {s : State} (h : Kept base s) :
    Kept base (setSpares k l s) := by
  unfold setSpares
  try dsimp only
  with_reducible
    repeat' first
      | assumption | intro _ | apply kept_fset | simp only [kept_mk] | apply keptD_of | rfl

theorem kept_recompSync {base : State} {k : Nat} {s : State} (h : Kept base s) :
    Kept base (recompSync k s) := by
  unfold recompSync
  try dsimp only
  with_reducible
    repeat' first
      | assumption | apply kept_fault | apply kept_fsetb | apply kept_faultEnd | apply kept_ite | split

theorem kept_spareLost {base : State} {k : Nat} {s : State} (h : Kept base s) :
    Kept base (spareLost k s) := by
  unfold spareLost
  try dsimp only
  with_reducible
    repeat' first
      | assumption | apply kept_fault | apply kept_fsetb | apply kept_recompSync | apply kept_ite | split

theorem kept_mapRetire {base : State} {k i : Nat} {s : State} (h : Kept base s) :
    Kept base (mapRetire k i s) := by
  unfold mapRetire
  try dsimp only
  with_reducible
    repeat' first
      | assumption | simp only [kept_mk] | apply keptD_of | rfl

theorem kept_retireTested {base : State} {k i : Nat} {s : State} (h : Kept base s) :
    Kept base (retireTested k i s) := by
  unfold retireTested
  try dsimp only
  with_reducible
    repeat' first
      | assumption | apply kept_fincSat | apply kept_mapRetire | apply kept_showRoles | apply kept_spareLost | apply kept_ite | split

theorem kept_bankSwapped {base : State} {b : Nat} {s : State} (h : Kept base s) :
    Kept base (bankSwapped b s) := by
  unfold bankSwapped
  try dsimp only
  with_reducible
    repeat' first
      | assumption | intro _ | apply kept_ite | simp only [kept_mk] | apply keptD_of | rfl | split

theorem kept_bankOut {base : State} {i : Nat} {s : State} (h : Kept base s) :
    Kept base (bankOut i s) := by
  unfold bankOut
  try dsimp only
  with_reducible
    repeat' first
      | assumption | intro _ | apply kept_forEach | apply kept_banksLess

theorem kept_bankMove {base : State} {i u : Nat} {s : State} (h : Kept base s) :
    Kept base (bankMove i u s) := by
  unfold bankMove
  try dsimp only
  with_reducible
    repeat' first
      | assumption | intro _ | apply kept_forEach | apply kept_bankSwapped | apply kept_ite | simp only [kept_mk] | apply keptD_of | rfl | split

theorem kept_unitRetire {base : State} {k i : Nat} {s : State} (h : Kept base s) :
    Kept base (unitRetire k i s) := by
  unfold unitRetire
  try dsimp only
  with_reducible
    repeat' first
      | assumption | intro _ | apply kept_retireTested | apply kept_setSpares | apply kept_whenB | apply kept_bankMove | apply kept_showRoles
      | apply kept_capacityLost | apply kept_bankOut | apply kept_capRetire | apply kept_mapRetire | apply kept_ite | simp only [kept_mk]
      | apply keptD_of | rfl | split

theorem kept_rotate {base : State} {k i : Nat} {s : State} (h : Kept base s) :
    Kept base (rotate k i s) := by
  unfold rotate
  try dsimp only
  with_reducible
    repeat' first
      | assumption | apply kept_ite | simp only [kept_mk] | apply keptD_of | rfl | split

theorem kept_execLaneSlice {base : State} {loop : Bool} {s : State} (h : Kept base s) :
    KeptOut base (execLaneSlice loop s) := by
  unfold execLaneSlice
  try dsimp only
  with_reducible
    repeat' first
      | assumption | apply kept_setSpares | apply kept_farStamp | apply kept_showRoles | apply kept_ite | simp only [kept_mk] | apply keptD_of
      | rfl | apply keptOut_next | split

theorem kept_judge {base : State} {k i n : Nat} {t : Test2} {s : State} (h : Kept base s) :
    Kept base (judge k i n t s).1 := by
  unfold judge
  try dsimp only
  with_reducible
    repeat' first
      | assumption | apply kept_testFailed | apply kept_ite | split

theorem kept_newSpare {base : State} {k i : Nat} {s : State} (h : Kept base s) :
    Kept base (newSpare k i s) := by
  unfold newSpare
  try dsimp only
  with_reducible
    repeat' first
      | assumption | apply kept_showRoles | apply kept_setSpares

theorem kept_slicesDrop {base : State} {s : State} (h : Kept base s) :
    Kept base (slicesDrop s) := by
  unfold slicesDrop
  try dsimp only
  with_reducible
    repeat' first
      | assumption | intro _ | apply kept_forEach | apply kept_newSpare | simp only [kept_mk] | apply keptD_of | rfl

theorem kept_restoreEnds {base : State} {k : Nat} {s0 s : State} (h : Kept base s) :
    Kept base (restoreEnds k s0 s) := by
  unfold restoreEnds
  try dsimp only
  with_reducible
    repeat' first
      | assumption | apply kept_faultEnd | apply kept_recompSync | apply kept_ite | split

theorem kept_unitRestore {base : State} {k i : Nat} {s : State} (h : Kept base s) :
    Kept base (unitRestore k i s) := by
  unfold unitRestore
  try dsimp only
  with_reducible
    repeat' first
      | assumption | intro _ | apply kept_fset | apply kept_fsetb | apply kept_newSpare | apply kept_staged | apply kept_segShow
      | apply kept_setLch | apply kept_faultEnd | apply kept_forEach | apply kept_raise | apply kept_restoreEnds | apply kept_ite
      | simp only [kept_mk] | apply keptD_of | rfl | split

theorem kept_farResult {base : State} {r p : Nat} {s : State} (h : Kept base s) :
    Kept base (farResult r p s) := by
  unfold farResult
  try dsimp only
  with_reducible
    repeat' first
      | assumption | apply kept_fset

theorem kept_retest {base : State} {k i : Nat} {t : Test2} {s : State} (h : Kept base s) :
    Kept base (retest k i t s) := by
  unfold retest
  try dsimp only
  with_reducible
    repeat' first
      | assumption | intro _ | apply kept_judge | apply kept_farResult | apply kept_unitRestore | apply kept_ite | simp only [kept_mk]
      | apply keptD_of | rfl | split

theorem kept_sliceEnd {base : State} {k : Nat} {w : Test2} {s : State} (h : Kept base s) :
    Kept base (sliceEnd k w s) := by
  unfold sliceEnd
  try dsimp only
  with_reducible
    repeat' first
      | assumption | intro _ | apply kept_retest | apply kept_ite | simp only [kept_mk] | apply keptD_of | rfl | split

theorem kept_execLaneSliceResult {base : State} {loop ok : Bool} {sig : Word} {w : Test2} {s : State} (h : Kept base s) :
    KeptOut base (execLaneSliceResult loop ok sig w s) := by
  unfold execLaneSliceResult
  try dsimp only
  with_reducible
    repeat' first
      | assumption | intro _ | apply kept_rotate | apply kept_newSpare | apply kept_sliceEnd | apply kept_testFailed | apply kept_retireTested
      | apply kept_ite | simp only [kept_mk] | apply keptD_of | rfl | apply keptOut_next | split

theorem kept_execNavCoreSlice {base : State} {core : Fin 8} {t : Test2} {s : State} (h : Kept base s) :
    KeptOut base (execNavCoreSlice core t s) := by
  unfold execNavCoreSlice
  try dsimp only
  with_reducible
    repeat' first
      | assumption | apply kept_judge | apply kept_farStamp | apply kept_unitRetire | apply kept_ite | apply keptOut_next | split

theorem kept_execAcqTileSlice {base : State} {tile : Fin 18} {t : Test2} {s : State} (h : Kept base s) :
    KeptOut base (execAcqTileSlice tile t s) := by
  unfold execAcqTileSlice
  try dsimp only
  with_reducible
    repeat' first
      | assumption | apply kept_judge | apply kept_setSpares | apply kept_farStamp | apply kept_newSpare | apply kept_retireTested
      | apply kept_ite | apply keptOut_next | split

theorem kept_bankSwap {base : State} {b : Nat} {s : State} (h : Kept base s) :
    Kept base (bankSwap b s) := by
  unfold bankSwap
  try dsimp only
  with_reducible
    repeat' first
      | assumption | intro _ | apply kept_setSpares | apply kept_bankSwapped | simp only [kept_mk] | apply keptD_of | rfl | split

theorem kept_execTrkBankSlice {base : State} {bank : Fin 12} {t : Test2} {s : State} (h : Kept base s) :
    KeptOut base (execTrkBankSlice bank t s) := by
  unfold execTrkBankSlice
  try dsimp only
  with_reducible
    repeat' first
      | assumption | apply kept_judge | apply kept_bankSwap | apply kept_farStamp | apply kept_newSpare | apply kept_retireTested | apply kept_ite
      | apply keptOut_next | split

theorem kept_sramRowBad {base : State} {m row : Nat} {s : State} (h : Kept base s) :
    Kept base (sramRowBad m row s) := by
  unfold sramRowBad
  try dsimp only
  with_reducible
    repeat' first
      | assumption | intro _ | apply kept_capacityLost | apply kept_fset | apply kept_ite | simp only [kept_mk] | apply keptD_of | rfl | split

theorem kept_dramRowBad {base : State} {bank row page : Nat} {s : State} (h : Kept base s) :
    Kept base (dramRowBad bank row page s) := by
  unfold dramRowBad
  try dsimp only
  with_reducible
    repeat' first
      | assumption | intro _ | apply kept_fincSat | apply kept_fset | apply kept_capacityLost | apply kept_ite | simp only [kept_mk]
      | apply keptD_of | rfl | split

theorem kept_execSramRowTest {base : State} {m : Fin 48} {row : Fin 512} {t : Test2} {s : State} (h : Kept base s) :
    KeptOut base (execSramRowTest m row t s) := by
  unfold execSramRowTest
  try dsimp only
  with_reducible
    repeat' first
      | assumption | apply kept_judge | apply kept_farStamp | apply kept_sramRowBad | apply kept_ite | apply keptOut_next | split

theorem kept_execDramPageTest {base : State} {page bank row : Nat} {t : Test2} {s : State} (h : Kept base s) :
    KeptOut base (execDramPageTest page bank row t s) := by
  unfold execDramPageTest
  try dsimp only
  with_reducible
    repeat' first
      | assumption | apply kept_judge | apply kept_farStamp | apply kept_dramRowBad | apply kept_ite | apply keptOut_next | split

theorem kept_curAdcOut {base : State} {c : Nat} {s : State} (h : Kept base s) :
    Kept base (curAdcOut c s) := by
  unfold curAdcOut
  try dsimp only
  with_reducible
    repeat' first
      | assumption | intro _ | apply kept_mapRetire | apply kept_forEach | apply kept_segShow | apply kept_faultCls | apply kept_capacityLost
      | apply kept_capRetire | apply kept_ite | simp only [kept_mk] | apply keptD_of | rfl | split

theorem kept_ainOut {base : State} {s : State} (h : Kept base s) :
    Kept base (ainOut s) := by
  unfold ainOut
  try dsimp only
  with_reducible
    repeat' first
      | assumption | intro _ | apply kept_fault | apply kept_forN | apply kept_fsetb | apply kept_ite | simp only [kept_mk] | apply keptD_of | rfl
      | split

theorem kept_execCurAdcReference {base : State} {c : Fin 12} {code : BitVec 12} {s : State} (h : Kept base s) :
    KeptOut base (execCurAdcReference c code s) := by
  unfold execCurAdcReference
  try dsimp only
  with_reducible
    repeat' first
      | assumption | intro _ | apply kept_testFailed | apply kept_staged | apply kept_curAdcOut | apply kept_ite | simp only [kept_mk]
      | apply keptD_of | rfl | apply keptOut_next | split

theorem kept_execAinResample {base : State} {n : Fin 16} {code : BitVec 16} {s : State} (h : Kept base s) :
    KeptOut base (execAinResample n code s) := by
  unfold execAinResample
  try dsimp only
  with_reducible
    repeat' first
      | assumption | apply kept_farStamp | apply kept_testFailed | apply kept_fault | apply kept_fsetb | apply kept_faultEnd | apply kept_ainOut
      | apply kept_ite | simp only [kept_mk] | apply keptD_of | rfl | apply keptOut_next | split

theorem kept_execRetest {base : State} {who : Fin 36} {kind : Fin 16} {index : Fin 512} {t : Test2} {s : State} (h : Kept base s) :
    KeptOut base (execRetest who kind index t s) := by
  unfold execRetest
  try dsimp only
  with_reducible
    repeat' first
      | assumption | intro _ | apply kept_rapDo | apply kept_farResult | apply kept_retest | apply kept_ite | simp only [kept_mk] | apply keptD_of
      | rfl | apply keptOut_next | split

theorem kept_execFarrierPause {base : State} {who : Fin 36} {s : State} (h : Kept base s) :
    KeptOut base (execFarrierPause who s) := by
  unfold execFarrierPause
  try dsimp only
  with_reducible
    repeat' first
      | assumption | intro _ | apply kept_rapDo | apply kept_fsetb | apply keptOut_next

theorem kept_execFarrierResume {base : State} {who : Fin 36} {s : State} (h : Kept base s) :
    KeptOut base (execFarrierResume who s) := by
  unfold execFarrierResume
  try dsimp only
  with_reducible
    repeat' first
      | assumption | intro _ | apply kept_rapDo | apply kept_fsetb | apply keptOut_next

theorem kept_farRepair {base : State} {s : State} (h : Kept base s) :
    Kept base (farRepair s) := by
  unfold farRepair
  try dsimp only
  with_reducible
    repeat' first
      | assumption | apply kept_fset | simp only [kept_mk] | apply keptD_of | rfl

theorem kept_mapEmpty {base : State} {s : State} (h : Kept base s) :
    Kept base (mapEmpty s) := by
  unfold mapEmpty
  try dsimp only
  with_reducible
    repeat' first
      | assumption | intro _ | apply kept_rclear | apply kept_forN | apply kept_segShow | apply kept_setLch | apply kept_ite | simp only [kept_mk]
      | apply keptD_of | rfl | split

theorem kept_farMap {base : State} {crc1 crc2 : Bool} {s : State} (h : Kept base s) :
    Kept base (farMap crc1 crc2 s) := by
  unfold farMap
  try dsimp only
  with_reducible
    repeat' first
      | assumption | apply kept_mapEmpty | apply kept_fault | apply kept_fsetb | apply kept_ite | simp only [kept_mk] | apply keptD_of | rfl
      | split

theorem kept_farStartFail {base : State} {k i : Nat} {s : State} (h : Kept base s) :
    Kept base (farStartFail k i s) := by
  unfold farStartFail
  try dsimp only
  with_reducible
    repeat' first
      | assumption | apply kept_segRetire | apply kept_curAdcOut | apply kept_ainOut | apply kept_unitRetire | apply kept_ite | split

theorem kept_farTests {base : State} {p : Nat → Bool} {f : FarRun} {s : State} (h : Kept base s) :
    Kept base (farTests p f s) := by
  unfold farTests
  try dsimp only
  with_reducible
    repeat' first
      | assumption | intro _ | apply kept_forEach | apply kept_judge | apply kept_farStartFail | apply kept_sramRowBad | apply kept_dramRowBad
      | apply kept_ite | split

theorem kept_farStartup {base : State} {p : Nat → Bool} {f : FarRun} {s : State} (h : Kept base s) :
    Kept base (farStartup p f s) := by
  unfold farStartup
  try dsimp only
  with_reducible
    repeat' first
      | assumption | intro _ | apply kept_farTests | apply kept_forN | apply kept_segShow | apply kept_farRepair | apply kept_farMap
      | apply kept_raise | apply kept_showRoles | apply kept_recompSync | apply kept_fsetb | apply kept_fset | apply kept_ite
      | simp only [kept_mk] | apply keptD_of | rfl | split

end Sys2Proof.Laws
end

