-- ==== Sys2Proof/Laws/KeptLoops.lean ====
section
/-!
SUPPORT. Laws/KeptLoops.lean: each operation of Machine/Loops.lean keeps what Laws/Kept.lean lists.
-/

set_option linter.unusedVariables false
set_option linter.unusedTactic false
set_option linter.unreachableTactic false

open Sys2Proof Sys2Proof.Machine

namespace Sys2Proof.Laws

theorem kept_setLoop {base : State} {n : Nat} {l : LoopSt} {s : State} (h : Kept base s) :
    Kept base (setLoop n l s) := by
  unfold setLoop
  try dsimp only
  with_reducible
    repeat' first
      | assumption | simp only [kept_mk] | apply keptD_of | rfl

theorem kept_injCheck {base : State} {n B st : Nat} {d : LoopDef} {s : State} (h : Kept base s) :
    Kept base (injCheck n B st d s) := by
  unfold injCheck
  try dsimp only
  with_reducible
    repeat' first
      | assumption | apply kept_injEnd | apply kept_ite | simp only [kept_mk] | apply keptD_of | rfl | split

theorem kept_showLoop {base : State} {n : Nat} {g : LoopSet} {s : State} (h : Kept base s) :
    Kept base (showLoop n g s) := by
  unfold showLoop
  try dsimp only
  with_reducible
    repeat' first
      | assumption | apply kept_rsetAll

theorem kept_setLState {base : State} {n st : Nat} {s : State} (h : Kept base s) :
    Kept base (setLState n st s) := by
  unfold setLState
  try dsimp only
  with_reducible
    repeat' first
      | assumption | apply kept_fset | apply kept_raise | apply kept_ite | split

theorem kept_loopFault {base : State} {n : Nat} {c : LoopCause} {s : State} (h : Kept base s) :
    Kept base (loopFault n c s) := by
  unfold loopFault
  try dsimp only
  with_reducible
    repeat' first
      | assumption | apply kept_setLoop | apply kept_fault | apply kept_setLState | simp only [kept_mk] | apply keptD_of | rfl | split

theorem kept_actWrite {base : State} {n : Nat} {d : LoopDef} {ls : List Nat} {u : Word} {s : State} (h : Kept base s) :
    Kept base (actWrite n d ls u s) := by
  unfold actWrite
  try dsimp only
  with_reducible
    repeat' first
      | assumption | intro _ | apply kept_forEach | apply kept_shadowSet | apply kept_fincSat | apply kept_ite | simp only [kept_mk]
      | apply keptD_of | rfl | split

theorem kept_ctlLoad {base : State} {B : Nat} {s : State} (h : Kept base s) :
    Kept base (ctlLoad B s) := by
  unfold ctlLoad
  try dsimp only
  with_reducible
    repeat' first
      | assumption | intro _ | apply kept_forEach | apply kept_lgArm | apply kept_ite | simp only [kept_mk] | apply keptD_of | rfl | split

theorem kept_satShow {base : State} {n : Nat} {d : LoopDef} {on slew : Bool} {u : Word} {s : State} (h : Kept base s) :
    Kept base (satShow n d on slew u s) := by
  unfold satShow
  try dsimp only
  with_reducible
    repeat' first
      | assumption | apply kept_fsetb

theorem kept_setUAct {base : State} {m : Nat} {u : Word} {s : State} (h : Kept base s) :
    Kept base (setUAct m u s) := by
  unfold setUAct
  try dsimp only
  with_reducible
    repeat' first
      | assumption | apply kept_rset | apply kept_setLoop | simp only [kept_mk] | apply keptD_of | rfl

theorem kept_injLost {base : State} {ms : List Nat} {win : Option Nat} {s : State} (h : Kept base s) :
    Kept base (injLost ms win s) := by
  unfold injLost
  try dsimp only
  with_reducible
    repeat' first
      | assumption | apply kept_injEnd | apply kept_ite | simp only [kept_mk] | apply keptD_of | rfl | split

theorem kept_curbSelect {base : State} {k : Nat} {s : State} (h : Kept base s) :
    Kept base (curbSelect k s) := by
  unfold curbSelect
  try dsimp only
  with_reducible
    repeat' first
      | assumption | intro _ | apply kept_forEach | apply kept_rsetAll | apply kept_setLoop | apply kept_setUAct | apply kept_satShow
      | apply kept_actWrite | apply kept_fsetb | apply kept_fset | apply kept_fincWrap | apply kept_injLost | apply kept_foldl | apply kept_foldl2
      | apply kept_foldl1 | apply kept_ite | simp only [kept_mk] | apply keptD_of | rfl | split

theorem kept_setTrc {base : State} {c : Nat} {t : TrcCh} {s : State} (h : Kept base s) :
    Kept base (setTrc c t s) := by
  unfold setTrc
  try dsimp only
  with_reducible
    repeat' first
      | assumption | simp only [kept_mk] | apply keptD_of | rfl

theorem kept_trcTrigger {base : State} {B : Nat} {s : State} (h : Kept base s) :
    Kept base (trcTrigger B s) := by
  unfold trcTrigger
  try dsimp only
  with_reducible
    repeat' first
      | assumption | intro _ | apply kept_forN | apply kept_setTrc | apply kept_fset | apply kept_rset64 | apply kept_ite | simp only [kept_mk]
      | apply keptD_of | rfl | split

theorem kept_trcSample {base : State} {c B : Nat} {w : Word} {s : State} (h : Kept base s) :
    Kept base (trcSample c B w s) := by
  unfold trcSample
  try dsimp only
  with_reducible
    repeat' first
      | assumption | apply kept_setTrc | apply kept_fset | apply kept_fincSat | apply kept_rset64 | apply kept_ite | simp only [kept_mk]
      | apply keptD_of | rfl | split

theorem kept_trcStep {base : State} {n B : Nat} {s : State} (h : Kept base s) :
    Kept base (trcStep n B s) := by
  unfold trcStep
  try dsimp only
  with_reducible
    repeat' first
      | assumption | intro _ | apply kept_trcTrigger | apply kept_forN | apply kept_trcSample | apply kept_setTrc | apply kept_fset
      | apply kept_ite | simp only [kept_mk] | apply keptD_of | rfl | split

theorem kept_loopStep {base : State} {n B : Nat} {d : LoopDef} {s : State} (h : Kept base s) :
    Kept base (loopStep n B d s) := by
  unfold loopStep
  try dsimp only
  with_reducible
    repeat' first
      | assumption | intro _ | apply kept_injCheck | apply kept_fault | apply kept_setLoop | apply kept_setLState | apply kept_whenB
      | apply kept_faultEnd | apply kept_fset | apply kept_fincWrap | apply kept_satShow | apply kept_fsetb | apply kept_loopFault
      | apply kept_injEnd | apply kept_showLoop | apply kept_ite | simp only [kept_mk] | apply keptD_of | rfl | exact keptOut_fault _ | split

theorem kept_undoKeep {base : State} {n : Nat} {d : LoopDef} {s : State} (h : Kept base s) :
    Kept base (undoKeep n d s) := by
  unfold undoKeep
  try dsimp only
  with_reducible
    repeat' first
      | assumption | intro _ | simp only [kept_mk] | apply keptD_of | rfl | split

theorem kept_undoStep {base : State} {u : LoopUndo} {s : State} (h : Kept base s) :
    Kept base (undoStep u s) := by
  unfold undoStep
  try dsimp only
  with_reducible
    repeat' first
      | assumption | intro _ | apply kept_rsetAll | apply kept_setLoop | apply kept_ite | simp only [kept_mk] | apply keptD_of | rfl | split

theorem kept_loopMismatch {base : State} {lane B : Nat} {s : State} (h : Kept base s) :
    Kept base (loopMismatch lane B s) := by
  unfold loopMismatch
  try dsimp only
  with_reducible
    repeat' first
      | assumption | intro _ | apply kept_forEach | apply kept_undoStep | apply kept_setLoop | apply kept_fincSat | apply kept_fincWrap
      | apply kept_fault | apply kept_ctlLoad | apply kept_unitRetire | apply kept_ite | simp only [kept_mk] | apply keptD_of | rfl | split

theorem kept_curbFinish {base : State} {k B : Nat} {s : State} (h : Kept base s) :
    Kept base (curbFinish k B s) := by
  unfold curbFinish
  try dsimp only
  with_reducible
    repeat' first
      | assumption | intro _ | apply kept_forEach | apply kept_trcStep | apply kept_curbSelect | apply kept_ite | split

theorem kept_execLoopStep {base : State} {n : Fin 64} {mis : Bool} {s : State} (h : Kept base s) :
    KeptOut base (execLoopStep n mis s) := by
  unfold execLoopStep
  try dsimp only
  with_reducible
    repeat' first
      | assumption | intro _ | apply kept_loopMismatch | apply kept_loopStep | apply kept_whenB | apply kept_undoKeep | apply kept_curbFinish
      | apply kept_trcStep | apply kept_actWrite | apply kept_pressInput | apply kept_ctlLoad | apply kept_send | apply kept_ite
      | simp only [kept_mk] | apply keptD_of | rfl | apply keptOut_next | split

theorem kept_execLoopLate {base : State} {n : Fin 64} {s : State} (h : Kept base s) :
    KeptOut base (execLoopLate n s) := by
  unfold execLoopLate
  try dsimp only
  with_reducible
    repeat' first
      | assumption | apply kept_fsetb | apply kept_setLoop | apply kept_fincWrap | apply kept_fault | apply kept_loopFault | apply kept_ctlLoad
      | apply kept_curbFinish | apply kept_ite | simp only [kept_mk] | apply keptD_of | rfl | apply keptOut_next | split

theorem kept_execLoopHoldTimeout {base : State} {n : Fin 64} {s : State} (h : Kept base s) :
    KeptOut base (execLoopHoldTimeout n s) := by
  unfold execLoopHoldTimeout
  try dsimp only
  with_reducible
    repeat' first
      | assumption | apply kept_loopFault | apply kept_ite | apply keptOut_next | split

theorem kept_execLoopAuto {base : State} {who : Fin 36} {n : Fin 64} {s : State} (h : Kept base s) :
    KeptOut base (execLoopAuto who n s) := by
  unfold execLoopAuto
  try dsimp only
  with_reducible
    repeat' first
      | assumption | intro _ | apply kept_rapDo | apply kept_setLoop | apply kept_ite | simp only [kept_mk] | apply keptD_of | rfl
      | apply keptOut_next | split

theorem kept_execLoopManual {base : State} {who : Fin 36} {n : Fin 64} {s : State} (h : Kept base s) :
    KeptOut base (execLoopManual who n s) := by
  unfold execLoopManual
  try dsimp only
  with_reducible
    repeat' first
      | assumption | intro _ | apply kept_rapDo | apply kept_setLoop | apply kept_ite | simp only [kept_mk] | apply keptD_of | rfl
      | apply keptOut_next | split

theorem kept_execCurbAuto {base : State} {who : Fin 36} {k : Fin 16} {s : State} (h : Kept base s) :
    KeptOut base (execCurbAuto who k s) := by
  unfold execCurbAuto
  try dsimp only
  with_reducible
    repeat' first
      | assumption | intro _ | apply kept_rapDo | apply kept_fsetb | apply keptOut_next

theorem kept_execCurbManual {base : State} {who : Fin 36} {k : Fin 16} {s : State} (h : Kept base s) :
    KeptOut base (execCurbManual who k s) := by
  unfold execCurbManual
  try dsimp only
  with_reducible
    repeat' first
      | assumption | intro _ | apply kept_rapDo | apply kept_fsetb | apply kept_ite | apply keptOut_next | split

theorem kept_execTraceArm {base : State} {who : Fin 36} {s : State} (h : Kept base s) :
    KeptOut base (execTraceArm who s) := by
  unfold execTraceArm
  try dsimp only
  with_reducible
    repeat' first
      | assumption | intro _ | apply kept_rapDo | apply kept_forN | apply kept_rsetN | apply kept_fset | apply kept_ite | simp only [kept_mk]
      | apply keptD_of | rfl | apply keptOut_next | split

theorem kept_trcStop {base : State} {s : State} (h : Kept base s) :
    Kept base (trcStop s) := by
  unfold trcStop
  try dsimp only
  with_reducible
    repeat' first
      | assumption | apply kept_fset | apply kept_ite | simp only [kept_mk] | apply keptD_of | rfl | split

theorem kept_execTraceStop {base : State} {who : Fin 36} {s : State} (h : Kept base s) :
    KeptOut base (execTraceStop who s) := by
  unfold execTraceStop
  try dsimp only
  with_reducible
    repeat' first
      | assumption | intro _ | apply kept_rapDo | apply kept_trcStop | apply keptOut_next

theorem kept_execTraceForce {base : State} {who : Fin 36} {s : State} (h : Kept base s) :
    KeptOut base (execTraceForce who s) := by
  unfold execTraceForce
  try dsimp only
  with_reducible
    repeat' first
      | assumption | intro _ | apply kept_rapDo | simp only [kept_mk] | apply keptD_of | rfl | apply keptOut_next

theorem kept_execInjStart {base : State} {who : Fin 36} {s : State} (h : Kept base s) :
    KeptOut base (execInjStart who s) := by
  unfold execInjStart
  try dsimp only
  with_reducible
    repeat' first
      | assumption | apply kept_rapAnswer | apply kept_fset | apply kept_writeDenied | apply kept_hold | apply kept_injEnd | apply kept_rset64
      | apply kept_raise | apply kept_ite | simp only [kept_mk] | apply keptD_of | rfl | apply keptOut_next | split

theorem kept_execInjStop {base : State} {who : Fin 36} {s : State} (h : Kept base s) :
    KeptOut base (execInjStop who s) := by
  unfold execInjStop
  try dsimp only
  with_reducible
    repeat' first
      | assumption | intro _ | apply kept_rapDo | apply kept_injEnd | apply keptOut_next

theorem kept_execInjDurationEnd {base : State} {s : State} (h : Kept base s) :
    KeptOut base (execInjDurationEnd s) := by
  unfold execInjDurationEnd
  try dsimp only
  with_reducible
    repeat' first
      | assumption | apply kept_injEnd | apply kept_ite | simp only [kept_mk] | apply keptD_of | rfl | apply keptOut_next | split

theorem kept_ctlBoundary {base : State} {B : Nat} {rates : List (Nat × Word)} {v : Int} {s : State} (h : Kept base s) :
    Kept base (ctlBoundary B rates v s) := by
  unfold ctlBoundary
  try dsimp only
  with_reducible
    repeat' first
      | assumption | intro _ | apply kept_faultEnd | apply kept_rotate | apply kept_whenB | apply kept_trcTrigger | apply kept_forN
      | apply kept_fsetb | apply kept_fset | apply kept_foldl | apply kept_foldl2 | apply kept_foldl1 | apply kept_ite | simp only [kept_mk]
      | apply keptD_of | rfl | split

theorem kept_injSessionEnd {base : State} {who : Nat} {s : State} (h : Kept base s) :
    Kept base (injSessionEnd who s) := by
  unfold injSessionEnd
  try dsimp only
  with_reducible
    repeat' first
      | assumption | apply kept_injEnd | apply kept_ite | simp only [kept_mk] | apply keptD_of | rfl | split

end Sys2Proof.Laws
end

