-- ==== Sys2Proof/Laws/KeptSession.lean ====
section
/-!
SUPPORT. Laws/KeptSession.lean: each operation of Machine/Session.lean keeps what Laws/Kept.lean lists.
-/

set_option linter.unusedVariables false
set_option linter.unusedTactic false
set_option linter.unreachableTactic false

open Sys2Proof Sys2Proof.Machine

namespace Sys2Proof.Laws

theorem kept_hwmFollow {base : State} {s : State} (h : Kept base s) :
    Kept base (hwmFollow s) := by
  unfold hwmFollow
  try dsimp only
  with_reducible
    repeat' first
      | assumption | apply kept_fsetb | apply kept_rset64 | apply kept_ite | split

theorem kept_handleDrop {base : State} {h : Handle} {s : State} (hyp : Kept base s) :
    Kept base (handleDrop h s) := by
  unfold handleDrop
  try dsimp only
  with_reducible
    repeat' first
      | assumption | apply kept_fset | apply kept_ite | split

theorem kept_sessCount {base : State} {s : State} (h : Kept base s) :
    Kept base (sessCount s) := by
  unfold sessCount
  try dsimp only
  with_reducible
    repeat' first
      | assumption | intro _ | apply kept_fset

theorem kept_leaseIdle {base : State} {m : Nat} {s : State} (h : Kept base s) :
    Kept base (leaseIdle m s) := by
  unfold leaseIdle
  try dsimp only
  with_reducible
    repeat' first
      | assumption | intro _ | apply kept_fset | apply kept_ite | split

theorem kept_sessClose {base : State} {k cause : Nat} {s : State} (h : Kept base s) :
    Kept base (sessClose k cause s) := by
  unfold sessClose
  try dsimp only
  with_reducible
    repeat' first
      | assumption | intro _ | apply kept_injSessionEnd | apply kept_forceSessionEnd | apply kept_freezeStop | apply kept_forEach
      | apply kept_handleDrop | apply kept_rset | apply kept_leaseIdle | apply kept_raise | apply kept_sessCount | apply kept_ite
      | simp only [kept_mk] | apply keptD_of | rfl | split

theorem kept_sessCloseAll {base : State} {p : Nat → Bool} {cause : Nat} {s : State} (h : Kept base s) :
    Kept base (sessCloseAll p cause s) := by
  unfold sessCloseAll
  try dsimp only
  with_reducible
    repeat' first
      | assumption | intro _ | apply kept_forEach | apply kept_sessClose

theorem kept_canSessEnd {base : State} {ctrl cause : Nat} {s : State} (h : Kept base s) :
    Kept base (canSessEnd ctrl cause s) := by
  unfold canSessEnd
  try dsimp only
  with_reducible
    repeat' first
      | assumption | intro _ | apply kept_sessCloseAll

theorem kept_sessRefused {base : State} {ctrl : Option (Fin 4)} {addr : Nat} {c : Cred} {why : Nat} {s : State} (h : Kept base s) :
    Kept base (sessRefused ctrl addr c why s) := by
  unfold sessRefused
  try dsimp only
  with_reducible
    repeat' first
      | assumption | intro _ | apply kept_raise | apply kept_send

theorem kept_leaseActive {base : State} {m : Nat} {s : State} (h : Kept base s) :
    Kept base (leaseActive m s) := by
  unfold leaseActive
  try dsimp only
  with_reducible
    repeat' first
      | assumption | intro _ | apply kept_fset | apply kept_ite | simp only [kept_mk] | apply keptD_of | rfl | split

theorem kept_sessOpen {base : State} {k ctrl addr sid rekeys : Nat} {c : Cred} {s : State} (h : Kept base s) :
    Kept base (sessOpen k ctrl addr sid rekeys c s) := by
  unfold sessOpen
  try dsimp only
  with_reducible
    repeat' first
      | assumption | apply kept_rset | apply kept_setSess | apply kept_raise | apply kept_sessCount | apply kept_leaseActive | apply kept_ite
      | simp only [kept_mk] | apply keptD_of | rfl | split

theorem kept_execTlsHandshake {base : State} {c : Cred} {s : State} (h : Kept base s) :
    KeptOut base (execTlsHandshake c s) := by
  unfold execTlsHandshake
  try dsimp only
  with_reducible
    repeat' first
      | assumption | intro _ | apply kept_sessOpen | apply kept_sessRefused | apply kept_ite | simp only [kept_mk] | apply keptD_of | rfl
      | apply keptOut_next | split

theorem kept_execTlsIdleTimeout {base : State} {k : Fin 4} {s : State} (h : Kept base s) :
    KeptOut base (execTlsIdleTimeout k s) := by
  unfold execTlsIdleTimeout
  try dsimp only
  with_reducible
    repeat' first
      | assumption | apply kept_sessClose | apply kept_ite | simp only [kept_mk] | apply keptD_of | rfl | apply keptOut_next | split

theorem kept_execTlsLifetimeEnd {base : State} {k : Fin 4} {s : State} (h : Kept base s) :
    KeptOut base (execTlsLifetimeEnd k s) := by
  unfold execTlsLifetimeEnd
  try dsimp only
  with_reducible
    repeat' first
      | assumption | apply kept_sessClose | apply kept_ite | simp only [kept_mk] | apply keptD_of | rfl | apply keptOut_next | split

theorem kept_execTlsError {base : State} {k : Fin 4} {s : State} (h : Kept base s) :
    KeptOut base (execTlsError k s) := by
  unfold execTlsError
  try dsimp only
  with_reducible
    repeat' first
      | assumption | apply kept_sessClose | apply kept_fault | apply kept_ite | apply keptOut_next | split

theorem kept_execTlsKeyUpdate {base : State} {k : Fin 4} {rx : Bool} {s : State} (h : Kept base s) :
    KeptOut base (execTlsKeyUpdate k rx s) := by
  unfold execTlsKeyUpdate
  try dsimp only
  with_reducible
    repeat' first
      | assumption | apply kept_send | apply kept_setSess | apply kept_ite | simp only [kept_mk] | apply keptD_of | rfl | apply keptOut_next
      | split

theorem kept_shakeDrop {base : State} {key : Nat} {s : State} (h : Kept base s) :
    Kept base (shakeDrop key s) := by
  unfold shakeDrop
  try dsimp only
  with_reducible
    repeat' first
      | assumption | simp only [kept_mk] | apply keptD_of | rfl

theorem kept_execRapSession {base : State} {ctrl : Fin 4} {addr : Fin 256} {m : SessMsg} {s0 : State} (h : Kept base s0) :
    KeptOut base (execRapSession ctrl addr m s0) := by
  unfold execRapSession
  try dsimp only
  with_reducible
    repeat' first
      | assumption | intro _ | apply kept_canTake | apply kept_sessRefused | apply kept_send | apply kept_shakeDrop | apply kept_sessOpen
      | apply kept_ite | simp only [kept_mk] | apply keptD_of | rfl | apply keptOut_next | split

theorem kept_execCanSessionRekey {base : State} {who : Fin 36} {s : State} (h : Kept base s) :
    KeptOut base (execCanSessionRekey who s) := by
  unfold execCanSessionRekey
  try dsimp only
  with_reducible
    repeat' first
      | assumption | apply kept_setSess | apply kept_send | apply kept_ite | simp only [kept_mk] | apply keptD_of | rfl | apply keptOut_next
      | split

theorem kept_execRekeyTimeout {base : State} {who : Fin 36} {s : State} (h : Kept base s) :
    KeptOut base (execRekeyTimeout who s) := by
  unfold execRekeyTimeout
  try dsimp only
  with_reducible
    repeat' first
      | assumption | apply kept_sessClose | apply kept_ite | simp only [kept_mk] | apply keptD_of | rfl | apply keptOut_next | split

theorem kept_authCheck {base : State} {k fv : Nat} {tagF : Option Nat} {s : State} (h : Kept base s) :
    Kept base (authCheck k fv tagF s).2 := by
  unfold authCheck
  try dsimp only
  with_reducible
    repeat' first
      | assumption | intro _ | apply kept_setSess | apply kept_fincSat | apply kept_sessClose | apply kept_ite | simp only [kept_mk]
      | apply keptD_of | rfl | split

theorem kept_unauthDrop {base : State} {ctrl addr : Nat} {s : State} (h : Kept base s) :
    Kept base (unauthDrop ctrl addr s) := by
  unfold unauthDrop
  try dsimp only
  with_reducible
    repeat' first
      | assumption | apply kept_fincSat | simp only [kept_mk] | apply keptD_of | rfl | split

theorem kept_hwmStore {base : State} {s : State} (h : Kept base s) :
    Kept base (hwmStore s) := by
  unfold hwmStore
  try dsimp only
  with_reducible
    repeat' first
      | assumption | simp only [kept_mk] | apply keptD_of | rfl

theorem kept_execTtHwmStore {base : State} {s : State} (h : Kept base s) :
    KeptOut base (execTtHwmStore s) := by
  unfold execTtHwmStore
  try dsimp only
  with_reducible
    repeat' first
      | assumption | apply kept_hwmStore | apply kept_ite | apply keptOut_next | split

theorem kept_levelLost {base : State} {s : State} (h : Kept base s) :
    Kept base (levelLost s) := by
  unfold levelLost
  try dsimp only
  with_reducible
    repeat' first
      | assumption | intro _ | apply kept_levelDrop | apply kept_staged | apply kept_l0Open | apply kept_sessCloseAll | apply kept_ite | split

theorem kept_execFeedUv {base : State} {f : Fin 6} {s : State} (h : Kept base s) :
    KeptOut base (execFeedUv f s) := by
  unfold execFeedUv
  try dsimp only
  with_reducible
    repeat' first
      | assumption | intro _ | apply kept_staged | apply kept_fincSat | apply kept_fsetb | apply kept_forEach | apply kept_retrySync
      | apply kept_levelLost | apply kept_fault | apply kept_ite | simp only [kept_mk] | apply keptD_of | rfl | apply keptOut_next | split

end Sys2Proof.Laws
end

