-- ==== Sys2Proof/Laws/KeptCan.lean ====
section
/-!
SUPPORT. Laws/KeptCan.lean: each operation of Machine/Can.lean keeps what Laws/Kept.lean lists.
-/

set_option linter.unusedVariables false
set_option linter.unusedTactic false
set_option linter.unreachableTactic false

open Sys2Proof Sys2Proof.Machine

namespace Sys2Proof.Laws

theorem kept_canPut {base : State} {c : Nat} {e : CanEnt} {s : State} (h : Kept base s) :
    Kept base (canPut c e s) := by
  unfold canPut
  try dsimp only
  with_reducible
    repeat' first
      | assumption | apply kept_setCan | apply kept_fincSat | apply kept_ite | simp only [kept_mk] | apply keptD_of | rfl | split

theorem kept_peerSeen {base : State} {c : Nat} {s : State} (h : Kept base s) :
    Kept base (peerSeen c s) := by
  unfold peerSeen
  try dsimp only
  with_reducible
    repeat' first
      | assumption | apply kept_fset | apply kept_faultEnd | apply kept_fsetb | apply kept_ite | split

theorem kept_canStateSync {base : State} {c : Nat} {s : State} (h : Kept base s) :
    Kept base (canStateSync c s) := by
  unfold canStateSync
  try dsimp only
  with_reducible
    repeat' first
      | assumption | apply kept_fset | apply kept_ite | split

theorem kept_execCanFrame {base : State} {ctrl : Fin 4} {f : CanFr} {sof : Nat} {s : State} (h : Kept base s) :
    KeptOut base (execCanFrame ctrl f sof s) := by
  unfold execCanFrame
  try dsimp only
  with_reducible
    repeat' first
      | assumption | apply kept_canPut | apply kept_peerSeen | apply kept_canStateSync | apply kept_fset | apply kept_ite | apply keptOut_next
      | split

theorem kept_ackError {base : State} {c : Nat} {s : State} (h : Kept base s) :
    Kept base (ackError c s) := by
  unfold ackError
  try dsimp only
  with_reducible
    repeat' first
      | assumption | apply kept_fincSat | apply kept_fault | apply kept_fsetb | apply kept_ite | split

theorem kept_execCanError {base : State} {ctrl : Fin 4} {code : Fin 6} {tx dom : Bool} {step : Fin 9} {s : State} (h : Kept base s) :
    KeptOut base (execCanError ctrl code tx dom step s) := by
  unfold execCanError
  try dsimp only
  with_reducible
    repeat' first
      | assumption | apply kept_fault | apply kept_fset | apply kept_fincSat | apply kept_canStateSync | apply kept_canPut | apply kept_ackError
      | apply kept_canSessEnd | apply kept_setCan | apply kept_ite | simp only [kept_mk] | apply keptD_of | rfl | apply keptOut_next | split

theorem kept_execBusOffRecovery {base : State} {ctrl : Fin 4} {s : State} (h : Kept base s) :
    KeptOut base (execBusOffRecovery ctrl s) := by
  unfold execBusOffRecovery
  try dsimp only
  with_reducible
    repeat' first
      | assumption | apply kept_fset | apply kept_setCan | apply kept_faultEnd | apply kept_canPut | apply kept_ite | simp only [kept_mk]
      | apply keptD_of | rfl | apply keptOut_next | split

theorem kept_execCanRecover {base : State} {who : Fin 36} {ctrl : Fin 4} {s : State} (h : Kept base s) :
    KeptOut base (execCanRecover who ctrl s) := by
  unfold execCanRecover
  try dsimp only
  with_reducible
    repeat' first
      | assumption | intro _ | apply kept_rapDo | apply kept_setCan | apply kept_ite | simp only [kept_mk] | apply keptD_of | rfl
      | apply keptOut_next | split

theorem kept_mapAct {base : State} {c : Nat} {m : MapEnt} {d : List Nat} {s : State} (h : Kept base s) :
    Kept base (mapAct c m d s) := by
  unfold mapAct
  try dsimp only
  with_reducible
    repeat' first
      | assumption | intro _ | apply kept_teamChange | apply kept_rset | apply kept_lgWrite | apply kept_shadowSet | apply kept_lgArm
      | apply kept_ite | simp only [kept_mk] | apply keptD_of | rfl | split

theorem kept_deliver {base : State} {c k rseq : Nat} {s : State} (h : Kept base s) :
    Kept base (deliver c k rseq s).2 := by
  unfold deliver
  try dsimp only
  with_reducible
    repeat' first
      | assumption | apply kept_fincSat | apply kept_setCan | apply kept_ite | simp only [kept_mk] | apply keptD_of | rfl | split

theorem kept_canAuth {base : State} {c : Nat} {e : CanEnt} {tagF : Option Nat} {s : State} (h : Kept base s) :
    Kept base (canAuth c e tagF s).2 := by
  unfold canAuth
  try dsimp only
  with_reducible
    repeat' first
      | assumption | apply kept_unauthDrop | apply kept_authCheck | apply kept_ite | simp only [kept_mk] | apply keptD_of | rfl | split

theorem kept_deliverAll {base : State} {c rseq : Nat} {ks : List Nat} {s : State} (h : Kept base s) :
    Kept base (deliverAll c rseq ks s).2 := by
  unfold deliverAll
  try dsimp only
  with_reducible
    repeat' first
      | assumption | intro _ | apply kept_deliver | apply kept_foldl | apply kept_foldl2 | apply kept_foldl1 | apply kept_ite | split

theorem kept_canDrain {base : State} {c : Nat} {e : CanEnt} {tagF : Option Nat} {s : State} (h : Kept base s) :
    Kept base (canDrain c e tagF s) := by
  unfold canDrain
  try dsimp only
  with_reducible
    repeat' first
      | assumption | intro _ | apply kept_canAuth | apply kept_fincSat | apply kept_deliverAll | apply kept_rsetN | apply kept_setCan
      | apply kept_send | apply kept_forEach | apply kept_mapAct | apply kept_ite | simp only [kept_mk] | apply keptD_of | rfl | split

theorem kept_execCanQueueDrain {base : State} {ctrl : Fin 4} {tagF : Option Nat} {s : State} (h : Kept base s) :
    KeptOut base (execCanQueueDrain ctrl tagF s) := by
  unfold execCanQueueDrain
  try dsimp only
  with_reducible
    repeat' first
      | assumption | apply kept_canDrain | apply kept_setCan | apply kept_ite | simp only [kept_mk] | apply keptD_of | rfl | apply keptOut_next
      | split

theorem kept_slotSet {base : State} {c k : Nat} {f : Fld} {v : Nat} {s : State} (h : Kept base s) :
    Kept base (slotSet c k f v s) := by
  unfold slotSet
  try dsimp only
  with_reducible
    repeat' first
      | assumption | apply kept_fset

theorem kept_slotEnd {base : State} {c k res : Nat} {forGood : Bool} {s : State} (h : Kept base s) :
    Kept base (slotEnd c k res forGood s) := by
  unfold slotEnd
  try dsimp only
  with_reducible
    repeat' first
      | assumption | apply kept_slotSet | apply kept_setCan | apply kept_faddSat | apply kept_ite | simp only [kept_mk] | apply keptD_of | rfl
      | split

theorem kept_slotArm {base : State} {c k : Nat} {a : SlotAct} {s : State} (h : Kept base s) :
    Kept base (slotArm c k a s) := by
  unfold slotArm
  try dsimp only
  with_reducible
    repeat' first
      | assumption | apply kept_setCan | apply kept_rset | apply kept_slotEnd | apply kept_ite | simp only [kept_mk] | apply keptD_of | rfl
      | split

theorem kept_slotWrite {base : State} {who : Option (Fin 36)} {c k reg : Nat} {f : State → State} {s : State} (hf : ∀  t, Kept base t → Kept base (f  t)) (h : Kept base s) :
    Kept base (slotWrite who c k reg f s) := by
  unfold slotWrite
  try dsimp only
  with_reducible
    repeat' first
      | assumption | intro _ | apply hf | apply kept_rapRefuse | apply kept_rapAnswer | apply kept_ite | simp only [kept_mk] | apply keptD_of
      | rfl | split

theorem kept_execSlotArm {base : State} {who : Option (Fin 36)} {ctrl : Fin 4} {slot : Fin 128} {s : State} (h : Kept base s) :
    KeptOut base (execSlotArm who ctrl slot s) := by
  unfold execSlotArm
  try dsimp only
  with_reducible
    repeat' first
      | assumption | intro _ | apply kept_slotWrite | apply kept_slotSet | apply kept_setCan | apply kept_hold | apply kept_slotArm
      | apply kept_ite | simp only [kept_mk] | apply keptD_of | rfl | apply keptOut_next | split

theorem kept_execSlotAbort {base : State} {who : Option (Fin 36)} {ctrl : Fin 4} {slot : Fin 128} {s : State} (h : Kept base s) :
    KeptOut base (execSlotAbort who ctrl slot s) := by
  unfold execSlotAbort
  try dsimp only
  with_reducible
    repeat' first
      | assumption | intro _ | apply kept_slotWrite | apply kept_setCan | apply kept_slotEnd | apply kept_ite | simp only [kept_mk]
      | apply keptD_of | rfl | apply keptOut_next | split

theorem kept_execStartOpportunity {base : State} {ctrl : Fin 4} {q : Nat} {s : State} (h : Kept base s) :
    KeptOut base (execStartOpportunity ctrl q s) := by
  unfold execStartOpportunity
  try dsimp only
  with_reducible
    repeat' first
      | assumption | intro _ | apply kept_forEach | apply kept_slotEnd | apply kept_setCan | apply kept_slotSet | apply kept_fincSat
      | apply kept_ite | simp only [kept_mk] | apply keptD_of | rfl | apply keptOut_next | split

theorem kept_tdcShow {base : State} {c : Nat} {brs : Bool} {tdcv : Option Nat} {s : State} (h : Kept base s) :
    Kept base (tdcShow c brs tdcv s) := by
  unfold tdcShow
  try dsimp only
  with_reducible
    repeat' first
      | assumption | apply kept_fset | apply kept_fsetb | apply kept_ite | simp only [kept_mk] | apply keptD_of | rfl | split

theorem kept_slotFail {base : State} {c k : Nat} {a : SlotAct} {res : TxEnd} {aborting : Bool} {s : State} (h : Kept base s) :
    Kept base (slotFail c k a res aborting s) := by
  unfold slotFail
  try dsimp only
  with_reducible
    repeat' first
      | assumption | apply kept_slotEnd | apply kept_slotSet | apply kept_ite | split

theorem kept_slotHeld {base : State} {c k : Nat} {aborted : Bool} {s : State} (h : Kept base s) :
    Kept base (slotHeld c k aborted s) := by
  unfold slotHeld
  try dsimp only
  with_reducible
    repeat' first
      | assumption | intro _ | apply kept_setCan | apply kept_hold | apply kept_slotSet | apply kept_slotArm | apply kept_ite
      | simp only [kept_mk] | apply keptD_of | rfl | split

theorem kept_execCanTxEnd {base : State} {ctrl : Fin 4} {res : TxEnd} {tdcv : Option Nat} {s : State} (h : Kept base s) :
    KeptOut base (execCanTxEnd ctrl res tdcv s) := by
  unfold execCanTxEnd
  try dsimp only
  with_reducible
    repeat' first
      | assumption | apply kept_tdcShow | apply kept_setCan | apply kept_peerSeen | apply kept_canStateSync | apply kept_fset | apply kept_canPut
      | apply kept_rsetN | apply kept_slotEnd | apply kept_slotFail | apply kept_slotHeld | simp only [kept_mk] | apply keptD_of | rfl
      | apply keptOut_next | split

theorem kept_execLateLimExpiry {base : State} {ctrl : Fin 4} {slot : Fin 128} {s : State} (h : Kept base s) :
    KeptOut base (execLateLimExpiry ctrl slot s) := by
  unfold execLateLimExpiry
  try dsimp only
  with_reducible
    repeat' first
      | assumption | apply kept_slotEnd | apply kept_ite | simp only [kept_mk] | apply keptD_of | rfl | apply keptOut_next | split

theorem kept_execTxTbReached {base : State} {ctrl : Fin 4} {slot : Fin 128} {s : State} (h : Kept base s) :
    KeptOut base (execTxTbReached ctrl slot s) := by
  unfold execTxTbReached
  try dsimp only
  with_reducible
    repeat' first
      | assumption | apply kept_slotEnd | apply kept_ite | simp only [kept_mk] | apply keptD_of | rfl | apply keptOut_next | split

theorem kept_execCanModeWrite {base : State} {who : Fin 36} {ctrl : Fin 4} {mode : Fin 4} {s : State} (h : Kept base s) :
    KeptOut base (execCanModeWrite who ctrl mode s) := by
  unfold execCanModeWrite
  try dsimp only
  with_reducible
    repeat' first
      | assumption | intro _ | apply kept_rapDo | apply kept_fset | apply keptOut_next

theorem kept_canModeSet {base : State} {c m0 : Nat} {s : State} (h : Kept base s) :
    Kept base (canModeSet c m0 s) := by
  unfold canModeSet
  try dsimp only
  with_reducible
    repeat' first
      | assumption | intro _ | apply kept_fset | apply kept_forEach | apply kept_slotEnd | apply kept_canStateSync | apply kept_ite | split

theorem kept_execCanModeApply {base : State} {ctrl : Fin 4} {s : State} (h : Kept base s) :
    KeptOut base (execCanModeApply ctrl s) := by
  unfold execCanModeApply
  try dsimp only
  with_reducible
    repeat' first
      | assumption | apply kept_canModeSet | apply kept_ite | apply keptOut_next | split

theorem kept_isoClaim {base : State} {c addr : Nat} {s : State} (h : Kept base s) :
    Kept base (isoClaim c addr s) := by
  unfold isoClaim
  try dsimp only
  with_reducible
    repeat' first
      | assumption | apply kept_setCan | apply kept_send | apply kept_fset | simp only [kept_mk] | apply keptD_of | rfl

theorem kept_execAddressClaim {base : State} {ctrl : Fin 4} {s : State} (h : Kept base s) :
    KeptOut base (execAddressClaim ctrl s) := by
  unfold execAddressClaim
  try dsimp only
  with_reducible
    repeat' first
      | assumption | apply kept_isoClaim | apply kept_ite | apply keptOut_next | split

theorem kept_execClaimQuietEnd {base : State} {ctrl : Fin 4} {s : State} (h : Kept base s) :
    KeptOut base (execClaimQuietEnd ctrl s) := by
  unfold execClaimQuietEnd
  try dsimp only
  with_reducible
    repeat' first
      | assumption | apply kept_setCan | apply kept_ite | simp only [kept_mk] | apply keptD_of | rfl | apply keptOut_next | split

theorem kept_isoLose {base : State} {c : Nat} {s : State} (h : Kept base s) :
    Kept base (isoLose c s) := by
  unfold isoLose
  cases (if 2 ^ 63 ≤ isoShown s c then isoNext s c else none) with
  | none =>
    extract_lets p s1 s2
    have g1 : Kept base s1 := kept_setCan h
    have g2 : Kept base s2 := kept_fsetb (kept_fset g1)
    exact kept_fault (kept_send g2)
  | some a => exact kept_isoClaim h

theorem kept_execAddressClaimedReceived {base : State} {ctrl : Fin 4} {addr : Fin 256} {name : Nat} {s0 : State} (h : Kept base s0) :
    KeptOut base (execAddressClaimedReceived ctrl addr name s0) := by
  unfold execAddressClaimedReceived
  try dsimp only
  with_reducible
    repeat' first
      | assumption | intro _ | apply kept_canTake | apply kept_setCan | apply kept_forEach | apply kept_sessCloseAll | apply kept_send
      | apply kept_isoLose | apply kept_ite | simp only [kept_mk] | apply keptD_of | rfl | apply keptOut_next | split

theorem kept_execRequestAddressClaimed {base : State} {ctrl : Fin 4} {s0 : State} (h : Kept base s0) :
    KeptOut base (execRequestAddressClaimed ctrl s0) := by
  unfold execRequestAddressClaimed
  try dsimp only
  with_reducible
    repeat' first
      | assumption | apply kept_canTake | apply kept_send | apply kept_ite | simp only [kept_mk] | apply keptD_of | rfl | apply keptOut_next
      | split

theorem kept_execCommandedAddress {base : State} {ctrl : Fin 4} {name : Nat} {addr : Fin 254} {s0 : State} (h : Kept base s0) :
    KeptOut base (execCommandedAddress ctrl name addr s0) := by
  unfold execCommandedAddress
  try dsimp only
  with_reducible
    repeat' first
      | assumption | apply kept_canTake | apply kept_isoClaim | apply kept_ite | apply keptOut_next | split

theorem kept_dmClear {base : State} {c : Nat} {s : State} (h : Kept base s) :
    Kept base (dmClear c s) := by
  unfold dmClear
  try dsimp only
  with_reducible
    repeat' first
      | assumption | apply kept_send | apply kept_ite | simp only [kept_mk] | apply keptD_of | rfl | split

theorem kept_execDm3Clear {base : State} {ctrl : Fin 4} {s : State} (h : Kept base s) :
    KeptOut base (execDm3Clear ctrl s) := by
  unfold execDm3Clear
  try dsimp only
  with_reducible
    repeat' first
      | assumption | apply kept_dmClear | apply kept_canTake | apply keptOut_next

theorem kept_execDm11Clear {base : State} {ctrl : Fin 4} {s : State} (h : Kept base s) :
    KeptOut base (execDm11Clear ctrl s) := by
  unfold execDm11Clear
  try dsimp only
  with_reducible
    repeat' first
      | assumption | apply kept_dmClear | apply kept_canTake | apply keptOut_next

theorem kept_tpPass {base : State} {c peer : Nat} {d : List Nat} {tagF : Option Nat} {s : State} (h : Kept base s) :
    Kept base (tpPass c peer d tagF s) := by
  unfold tpPass
  try dsimp only
  with_reducible
    repeat' first
      | assumption | apply kept_canAuth | apply kept_deliver | apply kept_send | apply kept_fincSat | apply kept_ite | simp only [kept_mk]
      | apply keptD_of | rfl | split

theorem kept_execIsoTransport {base : State} {ctrl : Fin 4} {peer : Fin 256} {out bam : Bool} {pgn : Nat} {part : TpPart} {tagF : Option Nat} {s0 : State} (h : Kept base s0) :
    KeptOut base (execIsoTransport ctrl peer out bam pgn part tagF s0) := by
  unfold execIsoTransport
  try dsimp only
  with_reducible
    repeat' first
      | assumption | intro _ | apply kept_canTake | apply kept_start | apply kept_send | apply kept_setCan | apply kept_tpPass | apply kept_ite
      | simp only [kept_mk] | apply keptD_of | rfl | apply keptOut_next | split

end Sys2Proof.Laws
end

