-- ==== Sys2Proof/Laws/KeptCells.lean ====
section
/-!
SUPPORT. Laws/KeptCells.lean: each operation of Machine/Cells.lean keeps what Laws/Kept.lean lists.
-/

set_option linter.unusedVariables false
set_option linter.unusedTactic false
set_option linter.unreachableTactic false

open Sys2Proof Sys2Proof.Machine

namespace Sys2Proof.Laws

theorem kept_recEnter {base : State} {t : Nat} {s : State} (h : Kept base s) :
    Kept base (recEnter t s) := by
  unfold recEnter
  try dsimp only
  with_reducible
    repeat' first
      | assumption | intro _ | apply kept_fincWrap | apply kept_foldl | apply kept_foldl2 | apply kept_foldl1 | apply kept_ite
      | simp only [kept_mk] | apply keptD_of | rfl | split

theorem kept_stampCell {base : State} {c : Cell2} {t : Nat} {s : State} (h : Kept base s) :
    Kept base (stampCell c t s) := by
  unfold stampCell
  try dsimp only
  with_reducible
    repeat' first
      | assumption | intro _ | apply kept_recEnter | apply kept_ite | simp only [kept_mk] | apply keptD_of | rfl | split

theorem kept_execRecentPlaneSweep {base : State} {s : State} (h : Kept base s) :
    KeptOut base (execRecentPlaneSweep s) := by
  unfold execRecentPlaneSweep
  try dsimp only
  with_reducible
    repeat' first
      | assumption | intro _ | apply kept_foldl | apply kept_foldl2 | apply kept_foldl1 | simp only [kept_mk] | apply keptD_of | rfl
      | apply keptOut_next

end Sys2Proof.Laws
end

