-- ==== Sys2Proof/Laws/KeptEvidence.lean ====
section
/-!
SUPPORT. Laws/KeptEvidence.lean: each operation of Machine/Evidence.lean keeps what Laws/Kept.lean lists.
-/

set_option linter.unusedVariables false
set_option linter.unusedTactic false
set_option linter.unreachableTactic false

open Sys2Proof Sys2Proof.Machine

namespace Sys2Proof.Laws

theorem kept_doseCount {base : State} {n t : Nat} {s : State} (h : Kept base s) :
    Kept base (doseCount n t s) := by
  unfold doseCount
  try dsimp only
  with_reducible
    repeat' first
      | assumption | apply kept_setOut | apply kept_ite | simp only [kept_mk] | apply keptD_of | rfl | split

theorem kept_stallClose {base : State} {n k : Nat} {s : State} (h : Kept base s) :
    Kept base (stallClose n k s) := by
  unfold stallClose
  try dsimp only
  with_reducible
    repeat' first
      | assumption | apply kept_setOut | apply kept_gapLease | apply kept_fincWrap | apply kept_raise | apply kept_fsetb | apply kept_fset
      | apply kept_ite | simp only [kept_mk] | apply keptD_of | rfl | split

theorem kept_stallOpen {base : State} {n : Nat} {s : State} (h : Kept base s) :
    Kept base (stallOpen n s) := by
  unfold stallOpen
  try dsimp only
  with_reducible
    repeat' first
      | assumption | apply kept_setOut | simp only [kept_mk] | apply keptD_of | rfl

theorem kept_platTrack {base : State} {s : State} (h : Kept base s) :
    Kept base (platTrack s) := by
  unfold platTrack
  try dsimp only
  with_reducible
    repeat' first
      | assumption | intro _ | apply kept_forEach | apply kept_doseCount | apply kept_setOut | apply kept_stallClose | apply kept_stallOpen
      | apply kept_ite | simp only [kept_mk] | apply keptD_of | rfl | split

end Sys2Proof.Laws
end

