-- ==== Sys2Proof/Laws/KeptPlan.lean ====
section
/-!
SUPPORT. Laws/KeptPlan.lean: each operation of Machine/Plan.lean keeps what Laws/Kept.lean lists.
-/

set_option linter.unusedVariables false
set_option linter.unusedTactic false
set_option linter.unreachableTactic false

open Sys2Proof Sys2Proof.Machine

namespace Sys2Proof.Laws

theorem kept_writePlan {base : State} {n fence : Nat} {evs : List QEnt} {span : Nat} {lay : Nat → List QEnt → State → State} {s : State} (hlay : ∀ x0 x1 t, Kept base t → Kept base (lay x0 x1 t)) (h : Kept base s) :
    Kept base (writePlan n fence evs span lay s) := by
  unfold writePlan
  try dsimp only
  with_reducible
    repeat' first
      | assumption | intro _ | apply hlay | apply kept_fincWrap | apply kept_fsetb | apply kept_withdraw | apply kept_setOut | apply kept_faddWrap
      | apply kept_nextReg | apply kept_whenB | apply kept_foldl | apply kept_foldl2 | apply kept_foldl1 | apply kept_ite | simp only [kept_mk]
      | apply keptD_of | rfl | split

theorem kept_layMark {base : State} {x : Nat × Nat} {p : List (Nat × Nat) × State} (h : Kept base p.2) : Kept base (layMark x p).2 := by
  unfold layMark
  dsimp only
  split
  · exact kept_fsetb h
  · refine kept_stampCell (kept_provAdd ?_)
    split
    · exact h
    · exact kept_mk.2 (keptD_of h rfl rfl)

theorem kept_layRuns {base : State} {n B : Nat} {r : PoseRec} {runs : List Iv} {span : Nat} {s : State} (h : Kept base s) :
    Kept base (layRuns n B r runs span s) := by
  unfold layRuns
  try dsimp only
  with_reducible
    repeat' first
      | assumption | intro _ | apply kept_forEach | apply kept_layMark | apply kept_setOut | apply kept_foldl | apply kept_foldl2
      | apply kept_foldl1 | apply kept_ite | simp only [kept_mk] | apply keptD_of | rfl | split

theorem kept_provTidy {base : State} {s : State} (h : Kept base s) :
    Kept base (provTidy s) := by
  unfold provTidy
  try dsimp only
  with_reducible
    repeat' first
      | assumption | intro _ | simp only [kept_mk] | apply keptD_of | rfl

theorem kept_provPass {base : State} {n t : Nat} {s : State} (h : Kept base s) :
    Kept base (provPass n t s) := by
  unfold provPass
  try dsimp only
  with_reducible
    repeat' first
      | assumption | intro _ | apply kept_setOut | apply kept_provSub | simp only [kept_mk] | apply keptD_of | rfl

theorem kept_showReason {base : State} {n B : Nat} {w : Sweep} {s : State} (h : Kept base s) :
    Kept base (showReason n B w s) := by
  unfold showReason
  try dsimp only
  with_reducible
    repeat' first
      | assumption | apply kept_fset | simp only [kept_mk] | apply keptD_of | rfl | split

theorem kept_planOut {base : State} {B : Nat} {o : OutEnt} {w : Sweep} {s : State} (h : Kept base s) :
    Kept base (planOut B o w s) := by
  unfold planOut
  try dsimp only
  with_reducible
    repeat' first
      | assumption | intro _ | apply kept_layRuns | apply kept_writePlan | apply kept_showReason | apply kept_ite | simp only [kept_mk]
      | apply keptD_of | rfl | split

theorem kept_dirSection {base : State} {B : Nat} {x : SecEnt} {s : State} (h : Kept base s) :
    Kept base (dirSection B x s) := by
  unfold dirSection
  try dsimp only
  with_reducible
    repeat' first
      | assumption | intro _ | apply kept_foldl | apply kept_foldl2 | apply kept_foldl1 | apply kept_ite | simp only [kept_mk] | apply keptD_of
      | rfl | split

theorem kept_planDirect {base : State} {B : Nat} {o : OutEnt} {s : State} (h : Kept base s) :
    Kept base (planDirect B o s) := by
  unfold planDirect
  try dsimp only
  with_reducible
    repeat' first
      | assumption | intro _ | apply kept_writePlan | apply kept_fset | apply kept_ite | simp only [kept_mk] | apply keptD_of | rfl | split

end Sys2Proof.Laws
end

