-- ==== Sys2Proof/Laws/KeptCommit.lean ====
section
/-!
SUPPORT. Laws/KeptCommit.lean: each operation of Machine/Commit.lean keeps what Laws/Kept.lean lists.
-/

set_option linter.unusedVariables false
set_option linter.unusedTactic false
set_option linter.unreachableTactic false

open Sys2Proof Sys2Proof.Machine

namespace Sys2Proof.Laws

theorem kept_gapEnd {base : State} {n : Nat} {s : State} (h : Kept base s) :
    Kept base (gapEnd n s) := by
  unfold gapEnd
  try dsimp only
  with_reducible
    repeat' first
      | assumption | apply kept_setOut | apply kept_fincWrap | apply kept_raise | apply kept_gapLease | simp only [kept_mk] | apply keptD_of | rfl
      | split

theorem kept_gapAdd {base : State} {n a b c : Nat} {s : State} (h : Kept base s) :
    Kept base (gapAdd n a b c s) := by
  unfold gapAdd
  try dsimp only
  with_reducible
    repeat' first
      | assumption | apply kept_setOut | apply kept_gapEnd | apply kept_ite | simp only [kept_mk] | apply keptD_of | rfl | split

theorem kept_stripOut {base : State} {x : Strip} {s : State} (h : Kept base s) :
    Kept base (stripOut x s) := by
  unfold stripOut
  try dsimp only
  with_reducible
    repeat' first
      | assumption | apply kept_toTeam | simp only [kept_mk] | apply keptD_of | rfl

theorem kept_stripSend {base : State} {x : Strip} {s : State} (h : Kept base s) :
    Kept base (stripSend x s) := by
  unfold stripSend
  try dsimp only
  with_reducible
    repeat' first
      | assumption | apply kept_stripOut | apply kept_gapAdd | apply kept_send | apply kept_ite | simp only [kept_mk] | apply keptD_of | rfl
      | split

theorem kept_commitCells {base : State} {n stamp : Nat} {first : Bool} {cells : List Cell2} {s : State} (h : Kept base s) :
    Kept base (commitCells n stamp first cells s) := by
  unfold commitCells
  try dsimp only
  with_reducible
    repeat' first
      | assumption | intro _ | apply kept_forEach | apply kept_gapAdd | apply kept_fset | apply kept_stripSend | apply kept_ite
      | simp only [kept_mk] | apply keptD_of | rfl | split

theorem kept_commitOut {base : State} {B n : Nat} {s : State} (h : Kept base s) :
    Kept base (commitOut B n s) := by
  unfold commitOut
  try dsimp only
  with_reducible
    repeat' first
      | assumption | intro _ | apply kept_gapEnd | apply kept_setOut | apply kept_gapAdd | apply kept_commitCells | apply kept_ite
      | simp only [kept_mk] | apply keptD_of | rfl | split

theorem kept_commitAll {base : State} {B : Nat} {s : State} (h : Kept base s) :
    Kept base (commitAll B s) := by
  unfold commitAll
  try dsimp only
  with_reducible
    repeat' first
      | assumption | intro _ | apply kept_forEach | apply kept_doseCount | apply kept_commitOut | apply kept_provPass | apply kept_setOut
      | apply kept_ite | simp only [kept_mk] | apply keptD_of | rfl | split

end Sys2Proof.Laws
end

