-- ==== Sys2Proof/Laws/KeptLease.lean ====
section
/-!
SUPPORT. Laws/KeptLease.lean: each operation of Machine/Lease.lean keeps what Laws/Kept.lean lists.
-/

set_option linter.unusedVariables false
set_option linter.unusedTactic false
set_option linter.unreachableTactic false

open Sys2Proof Sys2Proof.Machine

namespace Sys2Proof.Laws

theorem kept_setLease {base : State} {m : Nat} {l : LeaseSt} {s : State} (h : Kept base s) :
    Kept base (setLease m l s) := by
  unfold setLease
  try dsimp only
  with_reducible
    repeat' first
      | assumption | apply kept_rsetN | simp only [kept_mk] | apply keptD_of | rfl

theorem kept_leaseAnew {base : State} {s : State} (h : Kept base s) :
    Kept base (leaseAnew s) := by
  unfold leaseAnew
  try dsimp only
  with_reducible
    repeat' first
      | assumption | intro _ | simp only [kept_mk] | apply keptD_of | rfl

theorem kept_leaseSummary {base : State} {m : Nat} {l : LeaseSt} {st : Nat} {s : State} (h : Kept base s) :
    Kept base (leaseSummary m l st s) := by
  unfold leaseSummary
  try dsimp only
  with_reducible
    repeat' first
      | assumption | intro _ | simp only [kept_mk] | apply keptD_of | rfl

theorem kept_leaseEnd {base : State} {m st : Nat} {s : State} (h : Kept base s) :
    Kept base (leaseEnd m st s) := by
  unfold leaseEnd
  try dsimp only
  with_reducible
    repeat' first
      | assumption | apply kept_leaseSummary | apply kept_fset | apply kept_setLease | apply kept_ite | simp only [kept_mk] | apply keptD_of | rfl
      | split

theorem kept_leaseCount {base : State} {x : Strip} {cells m : Nat} {s : State} (h : Kept base s) :
    Kept base (leaseCount x cells m s) := by
  unfold leaseCount
  try dsimp only
  with_reducible
    repeat' first
      | assumption | apply kept_setLease | apply kept_leaseEnd | apply kept_leaseSummary | apply kept_fsetb | apply kept_ite | simp only [kept_mk]
      | apply keptD_of | rfl | split

theorem kept_leaseMerge {base : State} {x : Strip} {cells : Nat} {s : State} (h : Kept base s) :
    Kept base (leaseMerge x cells s) := by
  unfold leaseMerge
  try dsimp only
  with_reducible
    repeat' first
      | assumption | intro _ | apply kept_forN | apply kept_leaseCount | apply kept_ite | split

end Sys2Proof.Laws
end

