-- ==== Sys2Proof/Laws/KeptCoverage.lean ====
section
/-!
SUPPORT. Laws/KeptCoverage.lean: each operation of Machine/Coverage.lean keeps what Laws/Kept.lean lists.
-/

set_option linter.unusedVariables false
set_option linter.unusedTactic false
set_option linter.unreachableTactic false

open Sys2Proof Sys2Proof.Machine

namespace Sys2Proof.Laws

theorem kept_setJobState {base : State} {n : Nat} {s : State} (h : Kept base s) :
    Kept base (setJobState n s) := by
  unfold setJobState
  try dsimp only
  with_reducible
    repeat' first
      | assumption | apply kept_fset

theorem kept_setJobErr {base : State} {n : Nat} {s : State} (h : Kept base s) :
    Kept base (setJobErr n s) := by
  unfold setJobErr
  try dsimp only
  with_reducible
    repeat' first
      | assumption | apply kept_fset

theorem kept_setSeq {base : State} {k : Nat} {e : SeqEnt} {s : State} (h : Kept base s) :
    Kept base (setSeq k e s) := by
  unfold setSeq
  try dsimp only
  with_reducible
    repeat' first
      | assumption | simp only [kept_mk] | apply keptD_of | rfl

theorem kept_mergeCell {base : State} {stamp : Nat} {c : Cell2} {s : State} (h : Kept base s) :
    Kept base (mergeCell stamp c s) := by
  unfold mergeCell
  try dsimp only
  with_reducible
    repeat' first
      | assumption | apply kept_fincWrap | apply kept_stampCell | apply kept_ite | simp only [kept_mk] | apply keptD_of | rfl | split

theorem kept_holesUpdate {base : State} {k : Nat} {s : State} (h : Kept base s) :
    Kept base (holesUpdate k s) := by
  unfold holesUpdate
  try dsimp only
  with_reducible
    repeat' first
      | assumption | intro _ | simp only [kept_mk] | apply keptD_of | rfl | simp only [id_eq]

theorem kept_mergeIn {base : State} {x : Strip} {s : State} (h : Kept base s) :
    Kept base (mergeIn x s) := by
  unfold mergeIn
  try dsimp only
  with_reducible
    repeat' first
      | assumption | intro _ | apply kept_forEach | apply kept_mergeCell | apply kept_fincWrap | apply kept_leaseMerge | apply kept_setSeq

theorem kept_mergeQueued {base : State} {k : Nat} : ∀ {n : Nat} {s : State} (h : Kept base s), Kept base (mergeQueued k n s)
  | 0, s, h => h
  | n + 1, s, h => by
    unfold mergeQueued
    dsimp only
    split
    · exact h
    · refine kept_mergeQueued (kept_ite (kept_mergeIn ?_) (kept_fincWrap ?_)) <;> exact kept_mk.2 (keptD_of h rfl rfl)

theorem kept_holeGiveUp {base : State} {k q : Nat} {s : State} (h : Kept base s) :
    Kept base (holeGiveUp k q s) := by
  unfold holeGiveUp
  try dsimp only
  with_reducible
    repeat' first
      | assumption | apply kept_setSeq | apply kept_raise | apply kept_fincWrap | apply kept_holesUpdate | apply kept_mergeQueued | apply kept_ite
      | split

theorem kept_makeRoom {base : State} : ∀ {n : Nat} {s : State} (h : Kept base s), Kept base (makeRoom n s)
  | 0, s, h => h
  | n + 1, s, h => by
    unfold makeRoom
    split
    · exact h
    · split
      · exact kept_makeRoom (kept_holeGiveUp h)
      · exact h

theorem kept_mergeStrip {base : State} {x : Strip} {s : State} (h : Kept base s) :
    Kept base (mergeStrip x s) := by
  unfold mergeStrip
  try dsimp only
  with_reducible
    repeat' first
      | assumption | apply kept_fincWrap | apply kept_makeRoom | apply kept_holesUpdate | apply kept_mergeQueued | apply kept_mergeIn
      | apply kept_ite | simp only [kept_mk] | apply keptD_of | rfl | split

theorem kept_mergeSome {base : State} : ∀ {l : List Strip} {n : Nat} {s : State} (h : Kept base s), Kept base (mergeSome l n s).2
  | [], n, s, h => h
  | x :: l, n, s, h => by
    unfold mergeSome
    split
    · exact kept_mergeSome (kept_mergeStrip h)
    · exact h

theorem kept_showLag {base : State} {s : State} (h : Kept base s) :
    Kept base (showLag s) := by
  unfold showLag
  try dsimp only
  with_reducible
    repeat' first
      | assumption | apply kept_fset

theorem kept_mergeBoundary {base : State} {s : State} (h : Kept base s) :
    Kept base (mergeBoundary s) := by
  unfold mergeBoundary
  try dsimp only
  with_reducible
    repeat' first
      | assumption | intro _ | apply kept_showLag | apply kept_mergeSome | apply kept_fsetb | apply kept_ite | simp only [kept_mk]
      | apply keptD_of | rfl | split

theorem kept_execCommitStrip {base : State} {x : Strip} {s : State} (h : Kept base s) :
    KeptOut base (execCommitStrip x s) := by
  unfold execCommitStrip
  try dsimp only
  with_reducible
    repeat' first
      | assumption | apply kept_toLeader | apply kept_showLag | apply kept_ite | simp only [kept_mk] | apply keptD_of | rfl | apply keptOut_next
      | split

theorem kept_execHoleResend {base : State} {pos : Fin 32} {out : Fin 128} {seq : Nat} {s : State} (h : Kept base s) :
    KeptOut base (execHoleResend pos out seq s) := by
  unfold execHoleResend
  try dsimp only
  with_reducible
    repeat' first
      | assumption | intro _ | apply kept_forEach | apply kept_send | apply kept_ite | simp only [kept_mk] | apply keptD_of | rfl
      | apply keptOut_next | split

theorem kept_execResendRequest {base : State} {m : Fin 64} {out : Fin 128} {seq : Nat} {s : State} (h : Kept base s) :
    KeptOut base (execResendRequest m out seq s) := by
  unfold execResendRequest
  try dsimp only
  with_reducible
    repeat' first
      | assumption | intro _ | apply kept_send | simp only [kept_mk] | apply keptD_of | rfl | apply keptOut_next | split

theorem kept_execReplicaHole {base : State} {pos : Fin 32} {out : Fin 128} {seq : Nat} {s : State} (h : Kept base s) :
    KeptOut base (execReplicaHole pos out seq s) := by
  unfold execReplicaHole
  try dsimp only
  with_reducible
    repeat' first
      | assumption | apply kept_holeGiveUp | apply kept_ite | simp only [kept_mk] | apply keptD_of | rfl | apply keptOut_next | split

theorem kept_wantBoundary {base : State} {s : State} (h : Kept base s) :
    Kept base (wantBoundary s) := by
  unfold wantBoundary
  try dsimp only
  with_reducible
    repeat' first
      | assumption | intro _ | apply kept_foldl | apply kept_foldl2 | apply kept_foldl1 | apply kept_ite | simp only [kept_mk] | apply keptD_of
      | rfl | split

theorem kept_execTileFill {base : State} {t : Fin 1048576} {s : State} (h : Kept base s) :
    KeptOut base (execTileFill t s) := by
  unfold execTileFill
  try dsimp only
  with_reducible
    repeat' first
      | assumption | intro _ | apply kept_fset | apply kept_ite | simp only [kept_mk] | apply keptD_of | rfl | apply keptOut_next | split

theorem kept_catchUpFor {base : State} {m : Nat} {s : State} (h : Kept base s) :
    Kept base (catchUpFor m s) := by
  unfold catchUpFor
  try dsimp only
  with_reducible
    repeat' first
      | assumption | intro _ | apply kept_send | apply kept_forEach | simp only [kept_mk] | apply keptD_of | rfl | split

theorem kept_execCatchUpStart {base : State} {m : Fin 64} {s : State} (h : Kept base s) :
    KeptOut base (execCatchUpStart m s) := by
  unfold execCatchUpStart
  try dsimp only
  with_reducible
    repeat' first
      | assumption | apply kept_catchUpFor | apply kept_ite | apply keptOut_next | split

theorem kept_catchUpBegin {base : State} {s : State} (h : Kept base s) :
    Kept base (catchUpBegin s) := by
  unfold catchUpBegin
  try dsimp only
  with_reducible
    repeat' first
      | assumption | apply kept_fsetb | simp only [kept_mk] | apply keptD_of | rfl

theorem kept_ownSeqs {base : State} {s : State} (h : Kept base s) :
    Kept base (ownSeqs s) := by
  unfold ownSeqs
  try dsimp only
  with_reducible
    repeat' first
      | assumption | intro _ | apply kept_forN | apply kept_gapEnd | apply kept_gapAdd | apply kept_fset | simp only [kept_mk] | apply keptD_of
      | rfl | split

theorem kept_execCatchUpSeqTable {base : State} {S : Nat} {start : Option Nat} {tab : List (Nat × SeqEnt)} {s : State} (h : Kept base s) :
    KeptOut base (execCatchUpSeqTable S start tab s) := by
  unfold execCatchUpSeqTable
  try dsimp only
  with_reducible
    repeat' first
      | assumption | intro _ | apply kept_catchUpBegin | apply kept_ownSeqs | apply kept_start | apply kept_foldl | apply kept_foldl2
      | apply kept_foldl1 | apply kept_ite | simp only [kept_mk] | apply keptD_of | rfl | apply keptOut_next | split

theorem kept_putTile {base : State} {t : Nat} {codes : List (Nat × Nat)} {s : State} (h : Kept base s) :
    Kept base (putTile t codes s) := by
  unfold putTile
  try dsimp only
  with_reducible
    repeat' first
      | assumption | intro _ | apply kept_foldl | apply kept_foldl2 | apply kept_foldl1 | apply kept_ite | simp only [kept_mk] | apply keptD_of
      | rfl | split

theorem kept_execCatchUpTile {base : State} {t : Fin 1048576} {codes : List (Nat × Nat)} {last : Bool} {s : State} (h : Kept base s) :
    KeptOut base (execCatchUpTile t codes last s) := by
  unfold execCatchUpTile
  try dsimp only
  with_reducible
    repeat' first
      | assumption | intro _ | apply kept_faultOver | apply kept_putTile | apply kept_forEach | apply kept_mergeStrip | apply kept_showLag
      | apply kept_fsetb | apply kept_ite | simp only [kept_mk] | apply keptD_of | rfl | apply keptOut_next | split

theorem kept_withExtent {base : State} {j : JobDef} {s : State} (h : Kept base s) :
    Kept base (withExtent j s) := by
  unfold withExtent
  try dsimp only
  with_reducible
    repeat' first
      | assumption | simp only [kept_mk] | apply keptD_of | rfl

theorem kept_mapClear {base : State} {s : State} (h : Kept base s) :
    Kept base (mapClear s) := by
  unfold mapClear
  try dsimp only
  with_reducible
    repeat' first
      | assumption | apply kept_fset | simp only [kept_mk] | apply keptD_of | rfl

theorem kept_showJob {base : State} {s : State} (h : Kept base s) :
    Kept base (showJob s) := by
  unfold showJob
  try dsimp only
  with_reducible
    repeat' first
      | assumption | intro _ | apply kept_rsetN | apply kept_fset | apply kept_forN | apply kept_rset | simp only [kept_mk] | apply keptD_of | rfl
      | split

theorem kept_jobNone {base : State} {s : State} (h : Kept base s) :
    Kept base (jobNone s) := by
  unfold jobNone
  try dsimp only
  with_reducible
    repeat' first
      | assumption | intro _ | apply kept_showLag | apply kept_showJob | apply kept_mapClear | apply kept_forN | apply kept_rsetN
      | apply kept_setJobState | apply kept_fsetb | simp only [kept_mk] | apply keptD_of | rfl

theorem kept_badTile {base : State} {t : Nat} {s : State} (h : Kept base s) :
    Kept base (badTile t s) := by
  unfold badTile
  try dsimp only
  with_reducible
    repeat' first
      | assumption | intro _ | apply kept_fsetb | apply kept_fault | apply kept_toLeader | apply kept_ite | simp only [kept_mk] | apply keptD_of
      | rfl | split

theorem kept_jobLoaded {base : State} {j : JobDef} {s : State} (h : Kept base s) :
    Kept base (jobLoaded j s) := by
  unfold jobLoaded
  try dsimp only
  with_reducible
    repeat' first
      | assumption | intro _ | apply kept_mapClear | apply kept_withExtent | apply kept_forEach | apply kept_badTile | apply kept_forN
      | apply kept_fset | apply kept_setJobErr | apply kept_setJobState | apply kept_showJob | apply kept_ite | simp only [kept_mk]
      | apply keptD_of | rfl | split

theorem kept_jobDo {base : State} {who : Option (Fin 36)} {act : Act} {cmd job : Nat} {f : State → State} {s : State} (hf : ∀  t, Kept base t → Kept base (f  t)) (h : Kept base s) :
    Kept base (jobDo who act cmd job f s) := by
  unfold jobDo
  try dsimp only
  with_reducible
    repeat' first
      | assumption | intro _ | apply hf | apply kept_rapAnswer | apply kept_writeDenied | apply kept_rapDo | apply kept_toLeader | apply kept_ite
      | simp only [kept_mk] | apply keptD_of | rfl | split

theorem kept_jobIn {base : State} {states : List Nat} {f : State → State} {s : State} (hf : ∀  t, Kept base t → Kept base (f  t)) (h : Kept base s) :
    Kept base (jobIn states f s) := by
  unfold jobIn
  try dsimp only
  with_reducible
    repeat' first
      | assumption | intro _ | apply hf | apply kept_setJobErr | apply kept_ite | split

theorem kept_jobTeam {base : State} {cmd : Nat} {s : State} (h : Kept base s) :
    Kept base (jobTeam cmd s) := by
  unfold jobTeam
  try dsimp only
  with_reducible
    repeat' first
      | assumption | apply kept_toTeam | apply kept_ite | split

theorem kept_execJobLoad {base : State} {who : Option (Fin 36)} {job : JobDef} {s : State} (h : Kept base s) :
    KeptOut base (execJobLoad who job s) := by
  unfold execJobLoad
  try dsimp only
  with_reducible
    repeat' first
      | assumption | intro _ | apply kept_jobDo | apply kept_jobIn | apply kept_setJobErr | apply kept_setJobState | simp only [kept_mk]
      | apply keptD_of | rfl | apply keptOut_next

theorem kept_distribute {base : State} {j : JobDef} {s : State} (h : Kept base s) :
    Kept base (distribute j s) := by
  unfold distribute
  try dsimp only
  with_reducible
    repeat' first
      | assumption | apply kept_toTeam | apply kept_ite | simp only [kept_mk] | apply keptD_of | rfl | split

theorem kept_execJobLoadDone {base : State} {s : State} (h : Kept base s) :
    KeptOut base (execJobLoadDone s) := by
  unfold execJobLoadDone
  try dsimp only
  with_reducible
    repeat' first
      | assumption | apply kept_setJobErr | apply kept_setJobState | apply kept_distribute | apply kept_jobLoaded | apply kept_ite
      | simp only [kept_mk] | apply keptD_of | rfl | apply keptOut_next | split

theorem kept_execJobDefinition {base : State} {job : JobDef} {s : State} (h : Kept base s) :
    KeptOut base (execJobDefinition job s) := by
  unfold execJobDefinition
  try dsimp only
  with_reducible
    repeat' first
      | assumption | apply kept_toLeader | apply kept_jobLoaded | apply kept_setJobErr | apply kept_setJobState | apply kept_ite
      | simp only [kept_mk] | apply keptD_of | rfl | apply keptOut_next | split

theorem kept_execRasterHash {base : State} {m : Fin 64} {hash : Nat} {s : State} (h : Kept base s) :
    KeptOut base (execRasterHash m hash s) := by
  unfold execRasterHash
  try dsimp only
  with_reducible
    repeat' first
      | assumption | apply kept_faultPast | apply kept_catchUpFor | apply kept_setJobErr | apply kept_fault | apply kept_ite | simp only [kept_mk]
      | apply keptD_of | rfl | apply keptOut_next | split

theorem kept_execRasterHashTimeout {base : State} {m : Fin 64} {s : State} (h : Kept base s) :
    KeptOut base (execRasterHashTimeout m s) := by
  unfold execRasterHashTimeout
  try dsimp only
  with_reducible
    repeat' first
      | assumption | apply kept_ite | simp only [kept_mk] | apply keptD_of | rfl | apply keptOut_next | split

theorem kept_nameRun {base : State} {s : State} (h : Kept base s) :
    Kept base (nameRun s) := by
  unfold nameRun
  try dsimp only
  with_reducible
    repeat' first
      | assumption | apply kept_toTeam | simp only [kept_mk] | apply keptD_of | rfl

theorem kept_execJobStart {base : State} {who : Option (Fin 36)} {s : State} (h : Kept base s) :
    KeptOut base (execJobStart who s) := by
  unfold execJobStart
  try dsimp only
  with_reducible
    repeat' first
      | assumption | intro _ | apply kept_jobDo | apply kept_jobIn | apply kept_nameRun | apply kept_setJobErr | apply kept_ite
      | apply keptOut_next | split

theorem kept_execJobResume {base : State} {who : Option (Fin 36)} {s : State} (h : Kept base s) :
    KeptOut base (execJobResume who s) := by
  unfold execJobResume
  try dsimp only
  with_reducible
    repeat' first
      | assumption | intro _ | apply kept_jobDo | apply kept_jobIn | apply kept_nameRun | apply keptOut_next

theorem kept_execJobRunApply {base : State} {b : Nat} {s : State} (h : Kept base s) :
    KeptOut base (execJobRunApply b s) := by
  unfold execJobRunApply
  try dsimp only
  with_reducible
    repeat' first
      | assumption | intro _ | apply kept_setJobErr | apply kept_setJobState | apply kept_leaseAnew | apply kept_injEnd | apply kept_forEach
      | apply kept_setOut | apply kept_ite | simp only [kept_mk] | apply keptD_of | rfl | apply keptOut_next | split

theorem kept_execJobSuspend {base : State} {who : Option (Fin 36)} {s : State} (h : Kept base s) :
    KeptOut base (execJobSuspend who s) := by
  unfold execJobSuspend
  try dsimp only
  with_reducible
    repeat' first
      | assumption | intro _ | apply kept_jobDo | apply kept_jobIn | apply kept_setJobState | apply kept_jobTeam | apply keptOut_next

theorem kept_jobStore {base : State} {full : Bool} {s : State} (h : Kept base s) :
    Kept base (jobStore full s) := by
  unfold jobStore
  try dsimp only
  with_reducible
    repeat' first
      | assumption | apply kept_fault | apply kept_setJobErr | apply kept_faultEnd | apply kept_ite | simp only [kept_mk] | apply keptD_of | rfl
      | split

theorem kept_execJobStore {base : State} {full : Bool} {s : State} (h : Kept base s) :
    KeptOut base (execJobStore full s) := by
  unfold execJobStore
  try dsimp only
  with_reducible
    repeat' first
      | assumption | apply kept_jobStore | apply kept_ite | apply keptOut_next | split

theorem kept_execJobSuspended {base : State} {full : Bool} {s : State} (h : Kept base s) :
    KeptOut base (execJobSuspended full s) := by
  unfold execJobSuspended
  try dsimp only
  with_reducible
    repeat' first
      | assumption | intro _ | apply kept_setJobState | apply kept_jobStore | apply kept_ite | simp only [kept_mk] | apply keptD_of | rfl
      | apply keptOut_next | split

theorem kept_execJobClose {base : State} {who : Option (Fin 36)} {s : State} (h : Kept base s) :
    KeptOut base (execJobClose who s) := by
  unfold execJobClose
  try dsimp only
  with_reducible
    repeat' first
      | assumption | intro _ | apply kept_jobDo | apply kept_jobIn | apply kept_setJobState | apply kept_jobTeam | apply keptOut_next

theorem kept_execJobCloseDone {base : State} {full : Bool} {s : State} (h : Kept base s) :
    KeptOut base (execJobCloseDone full s) := by
  unfold execJobCloseDone
  try dsimp only
  with_reducible
    repeat' first
      | assumption | apply kept_jobNone | apply kept_jobStore | apply kept_ite | simp only [kept_mk] | apply keptD_of | rfl | apply keptOut_next
      | split

theorem kept_execJobDiscard {base : State} {who : Option (Fin 36)} {s : State} (h : Kept base s) :
    KeptOut base (execJobDiscard who s) := by
  unfold execJobDiscard
  try dsimp only
  with_reducible
    repeat' first
      | assumption | intro _ | apply kept_jobDo | apply kept_jobIn | apply kept_jobNone | apply kept_setJobErr | apply kept_jobTeam
      | simp only [kept_mk] | apply keptD_of | rfl | apply keptOut_next

theorem kept_execJobExport {base : State} {who : Option (Fin 36)} {s : State} (h : Kept base s) :
    KeptOut base (execJobExport who s) := by
  unfold execJobExport
  try dsimp only
  with_reducible
    repeat' first
      | assumption | intro _ | apply kept_fsetb | apply kept_setJobErr | apply kept_rapDo | apply kept_ite | simp only [kept_mk] | apply keptD_of
      | rfl | apply keptOut_next | split

theorem kept_execExportDone {base : State} {s : State} (h : Kept base s) :
    KeptOut base (execExportDone s) := by
  unfold execExportDone
  try dsimp only
  with_reducible
    repeat' first
      | assumption | intro _ | apply kept_fsetb | apply kept_ite | simp only [kept_mk] | apply keptD_of | rfl | apply keptOut_next | split

theorem kept_workReport {base : State} {s : State} (h : Kept base s) :
    Kept base (workReport s) := by
  unfold workReport
  try dsimp only
  with_reducible
    repeat' first
      | assumption | intro _ | apply kept_forEach | apply kept_send | apply kept_ite | simp only [kept_mk] | apply keptD_of | rfl | split

theorem kept_tlogBoundary {base : State} {s : State} (h : Kept base s) :
    Kept base (tlogBoundary s) := by
  unfold tlogBoundary
  try dsimp only
  with_reducible
    repeat' first
      | assumption | intro _ | apply kept_ite | simp only [kept_mk] | apply keptD_of | rfl | split

theorem kept_nameExcl {base : State} {n : Nat} {s : State} (h : Kept base s) :
    Kept base (nameExcl n s) := by
  unfold nameExcl
  try dsimp only
  with_reducible
    repeat' first
      | assumption | intro _ | apply kept_toTeam | simp only [kept_mk] | apply keptD_of | rfl

theorem kept_execAddExcl {base : State} {who : Option (Fin 36)} {n : Nat} {p : Poly} {s : State} (h : Kept base s) :
    KeptOut base (execAddExcl who n p s) := by
  unfold execAddExcl
  try dsimp only
  with_reducible
    repeat' first
      | assumption | intro _ | apply kept_toTeam | apply kept_nameExcl | apply kept_setJobErr | apply kept_jobDo | apply kept_jobIn
      | apply kept_toLeader | apply kept_ite | simp only [kept_mk] | apply keptD_of | rfl | apply keptOut_next | split

theorem kept_execExclAck {base : State} {m : Fin 64} {n : Nat} {s : State} (h : Kept base s) :
    KeptOut base (execExclAck m n s) := by
  unfold execExclAck
  try dsimp only
  with_reducible
    repeat' first
      | assumption | intro _ | apply kept_nameExcl | apply kept_ite | simp only [kept_mk] | apply keptD_of | rfl | apply keptOut_next | split

theorem kept_execExclApply {base : State} {n b : Nat} {s : State} (h : Kept base s) :
    KeptOut base (execExclApply n b s) := by
  unfold execExclApply
  try dsimp only
  with_reducible
    repeat' first
      | assumption | intro _ | apply kept_ite | simp only [kept_mk] | apply keptD_of | rfl | apply keptOut_next | split

end Sys2Proof.Laws
end

