-- ==== Sys2Proof/Laws/KeptFeedback.lean ====
section
/-!
SUPPORT. Laws/KeptFeedback.lean: each operation of Machine/Feedback.lean keeps what Laws/Kept.lean lists.
-/

set_option linter.unusedVariables false
set_option linter.unusedTactic false
set_option linter.unreachableTactic false

open Sys2Proof Sys2Proof.Machine

namespace Sys2Proof.Laws

theorem kept_fbiValid {base : State} {n : Nat} {s : State} (h : Kept base s) :
    Kept base (fbiValid n s) := by
  unfold fbiValid
  try dsimp only
  with_reducible
    repeat' first
      | assumption | apply kept_fsetb

theorem kept_setCount {base : State} {s : State} {n : Nat} {v : Int} (h : Kept base s) :
    Kept base (setCount s n v) := by
  unfold setCount
  try dsimp only
  with_reducible
    repeat' first
      | assumption | apply kept_rset64

theorem kept_chFaultSet {base : State} {n : Nat} {s : State} (h : Kept base s) :
    Kept base (chFaultSet n s) := by
  unfold chFaultSet
  try dsimp only
  with_reducible
    repeat' first
      | assumption | apply kept_fbiValid | apply kept_raise | apply kept_fsetb | apply kept_ite | split

theorem kept_chFaultClear {base : State} {n : Nat} {s : State} (h : Kept base s) :
    Kept base (chFaultClear n s) := by
  unfold chFaultClear
  try dsimp only
  with_reducible
    repeat' first
      | assumption | intro _ | apply kept_whenB | apply kept_faultOver | apply kept_setCh | apply kept_fbiValid | apply kept_raise
      | apply kept_fsetb | apply kept_ite | simp only [kept_mk] | apply keptD_of | rfl | split

theorem kept_histMark {base : State} {n : Nat} {s : State} (h : Kept base s) :
    Kept base (histMark n s) := by
  unfold histMark
  try dsimp only
  with_reducible
    repeat' first
      | assumption | intro _ | apply kept_setCh | apply kept_ite | simp only [kept_mk] | apply keptD_of | rfl | split

theorem kept_baseMark {base : State} {n : Nat} {s : State} (h : Kept base s) :
    Kept base (baseMark n s) := by
  unfold baseMark
  try dsimp only
  with_reducible
    repeat' first
      | assumption | apply kept_setCh | apply kept_ite | simp only [kept_mk] | apply keptD_of | rfl | split

theorem kept_cmpHit {base : State} {k n : Nat} {cnt d : Int} {stamp : Nat} {s : State} (h : Kept base s) :
    Kept base (cmpHit k n cnt d stamp s) := by
  unfold cmpHit
  try dsimp only
  with_reducible
    repeat' first
      | assumption | intro _ | apply kept_fincWrap | apply kept_whenB | apply kept_fsetb | apply kept_raise | apply kept_ite | simp only [kept_mk]
      | apply keptD_of | rfl | split

theorem kept_applyCount {base : State} {n : Nat} {d : Int} {stamp : Nat} {s : State} (h : Kept base s) :
    Kept base (applyCount n d stamp s) := by
  unfold applyCount
  try dsimp only
  with_reducible
    repeat' first
      | assumption | intro _ | apply kept_setCount | apply kept_raise | apply kept_fsetb | apply kept_whenB | apply kept_fincWrap
      | apply kept_setCh | apply kept_forN | apply kept_cmpHit | apply kept_ite | simp only [kept_mk] | apply keptD_of | rfl | split

theorem kept_checkMissing {base : State} {n : Nat} {s : State} (h : Kept base s) :
    Kept base (checkMissing n s) := by
  unfold checkMissing
  try dsimp only
  with_reducible
    repeat' first
      | assumption | apply kept_raise | apply kept_fsetb | apply kept_setCh | apply kept_ite | simp only [kept_mk] | apply keptD_of | rfl | split

theorem kept_lineCheck {base : State} {n stamp : Nat} {s : State} (h : Kept base s) :
    Kept base (lineCheck n stamp s) := by
  unfold lineCheck
  try dsimp only
  with_reducible
    repeat' first
      | assumption | intro _ | apply kept_fincSat | apply kept_fset | apply kept_whenB | apply kept_faultOnce | apply kept_fsetb | apply kept_ite
      | split

theorem kept_applyIndex {base : State} {n stamp : Nat} {s : State} (h : Kept base s) :
    Kept base (applyIndex n stamp s) := by
  unfold applyIndex
  try dsimp only
  with_reducible
    repeat' first
      | assumption | apply kept_lineCheck | apply kept_platIndex | apply kept_setCh | apply kept_setCount | apply kept_fsetb | apply kept_ite
      | simp only [kept_mk] | apply keptD_of | rfl | split

theorem kept_magOnset {base : State} {n stamp : Nat} {s : State} (h : Kept base s) :
    Kept base (magOnset n stamp s) := by
  unfold magOnset
  try dsimp only
  with_reducible
    repeat' first
      | assumption | apply kept_fsetb | apply kept_applyCount | apply kept_setCh | apply kept_raise | apply kept_ite | simp only [kept_mk]
      | apply keptD_of | rfl | split

theorem kept_magEnd {base : State} {n stamp : Nat} {s : State} (h : Kept base s) :
    Kept base (magEnd n stamp s) := by
  unfold magEnd
  try dsimp only
  with_reducible
    repeat' first
      | assumption | apply kept_raise | apply kept_fsetb | apply kept_setCh | apply kept_rset64 | apply kept_alleyMagnet | simp only [kept_mk]
      | apply keptD_of | rfl | split

theorem kept_illegal {base : State} {n stamp : Nat} {s : State} (h : Kept base s) :
    Kept base (illegal n stamp s) := by
  unfold illegal
  try dsimp only
  with_reducible
    repeat' first
      | assumption | apply kept_fincSat | apply kept_setCh | apply kept_chFaultSet | apply kept_fault | apply kept_ite | simp only [kept_mk]
      | apply keptD_of | rfl | split

theorem kept_unstick {base : State} {n i : Nat} {s : State} (h : Kept base s) :
    Kept base (unstick n i s) := by
  unfold unstick
  try dsimp only
  with_reducible
    repeat' first
      | assumption | intro _ | apply kept_fsetb | apply kept_setCh | apply kept_chFaultClear | apply kept_faultEnd | apply kept_ite
      | simp only [kept_mk] | apply keptD_of | rfl | split

theorem kept_activeMark {base : State} {n : Nat} {s : State} (h : Kept base s) :
    Kept base (activeMark n s) := by
  unfold activeMark
  try dsimp only
  with_reducible
    repeat' first
      | assumption | intro _ | apply kept_setCh | apply kept_ite | simp only [kept_mk] | apply keptD_of | rfl | split

theorem kept_edgeCore {base : State} {n : Nat} {na nb nz : Option Bool} {s : State} (h : Kept base s) :
    Kept base (edgeCore n na nb nz s) := by
  unfold edgeCore
  try dsimp only
  with_reducible
    repeat' first
      | assumption | intro _ | apply kept_baseMark | apply kept_histMark | apply kept_setCh | apply kept_whenB | apply kept_fsetb
      | apply kept_magOnset | apply kept_magEnd | apply kept_unstick | apply kept_illegal | apply kept_applyCount | apply kept_activeMark
      | apply kept_applyIndex | apply kept_checkMissing | apply kept_ite | simp only [kept_mk] | apply keptD_of | rfl | split

theorem kept_fbiLoad {base : State} {n : Nat} {s : State} (h : Kept base s) :
    Kept base (fbiLoad n s) := by
  unfold fbiLoad
  try dsimp only
  with_reducible
    repeat' first
      | assumption | apply kept_histMark | apply kept_setCount | apply kept_setCh | simp only [kept_mk] | apply keptD_of | rfl

theorem kept_unload {base : State} {n : Nat} {p : PreLoad} {s : State} (h : Kept base s) :
    Kept base (unload n p s) := by
  unfold unload
  try dsimp only
  with_reducible
    repeat' first
      | assumption | apply kept_setCount | apply kept_setCh | simp only [kept_mk] | apply keptD_of | rfl

theorem kept_inputEdge {base : State} {n : Nat} {na nb nz : Option Bool} {s : State} (h : Kept base s) :
    Kept base (inputEdge n na nb nz s) := by
  unfold inputEdge
  try dsimp only
  with_reducible
    repeat' first
      | assumption | apply kept_fbiLoad | apply kept_edgeCore | apply kept_unload | apply kept_ite | simp only [kept_mk] | apply keptD_of | rfl
      | split

theorem kept_loadTick {base : State} {s : State} (h : Kept base s) :
    Kept base (loadTick s) := by
  unfold loadTick
  try dsimp only
  with_reducible
    repeat' first
      | assumption | intro _ | apply kept_forEach | apply kept_fbiLoad | simp only [kept_mk] | apply keptD_of | rfl | split

theorem kept_execInputEdgeAccepted {base : State} {ch : Fin 16} {a b z : Option Bool} {s : State} (h : Kept base s) :
    KeptOut base (execInputEdgeAccepted ch a b z s) := by
  unfold execInputEdgeAccepted
  try dsimp only
  with_reducible
    repeat' first
      | assumption | apply kept_inputEdge | apply kept_ite | apply keptOut_next | split

theorem kept_execFastEdge {base : State} {ch : Fin 16} {s : State} (h : Kept base s) :
    KeptOut base (execFastEdge ch s) := by
  unfold execFastEdge
  try dsimp only
  with_reducible
    repeat' first
      | assumption | apply kept_baseMark | apply kept_fincSat | apply kept_setCh | apply kept_chFaultSet | apply kept_fault | apply kept_ite
      | simp only [kept_mk] | apply keptD_of | rfl | apply keptOut_next | split

theorem kept_execChFaultClear {base : State} {ch : Fin 16} {s : State} (h : Kept base s) :
    KeptOut base (execChFaultClear ch s) := by
  unfold execChFaultClear
  try dsimp only
  with_reducible
    repeat' first
      | assumption | apply kept_chFaultClear | apply keptOut_next

theorem kept_execWireBreak {base : State} {ch : Fin 16} {inp : Fin 3} {s : State} (h : Kept base s) :
    KeptOut base (execWireBreak ch inp s) := by
  unfold execWireBreak
  try dsimp only
  with_reducible
    repeat' first
      | assumption | apply kept_setCh | apply kept_chFaultSet | apply kept_fault | apply kept_fsetb | apply kept_ite | simp only [kept_mk]
      | apply keptD_of | rfl | apply keptOut_next | split

theorem kept_execWireBreakEnd {base : State} {ch : Fin 16} {inp : Fin 3} {s : State} (h : Kept base s) :
    KeptOut base (execWireBreakEnd ch inp s) := by
  unfold execWireBreakEnd
  try dsimp only
  with_reducible
    repeat' first
      | assumption | intro _ | apply kept_setCh | apply kept_faultEnd | apply kept_fsetb | apply kept_ite | simp only [kept_mk] | apply keptD_of
      | rfl | apply keptOut_next | split

theorem kept_execIndexTimeout {base : State} {ch : Fin 16} {inp : Fin 3} {s : State} (h : Kept base s) :
    KeptOut base (execIndexTimeout ch inp s) := by
  unfold execIndexTimeout
  try dsimp only
  with_reducible
    repeat' first
      | assumption | apply kept_setCh | apply kept_chFaultSet | apply kept_fault | apply kept_fsetb | apply kept_ite | simp only [kept_mk]
      | apply keptD_of | rfl | apply keptOut_next | split

theorem kept_execFbiLoad {base : State} {who : Fin 36} {ch : Fin 16} {s : State} (h : Kept base s) :
    KeptOut base (execFbiLoad who ch s) := by
  unfold execFbiLoad
  try dsimp only
  with_reducible
    repeat' first
      | assumption | intro _ | apply kept_rapDo | apply kept_setCh | simp only [kept_mk] | apply keptD_of | rfl | apply keptOut_next

theorem kept_execFbiArm {base : State} {who : Fin 36} {ch : Fin 16} {s : State} (h : Kept base s) :
    KeptOut base (execFbiArm who ch s) := by
  unfold execFbiArm
  try dsimp only
  with_reducible
    repeat' first
      | assumption | intro _ | apply kept_rapDo | apply kept_fsetb | apply kept_setCh | simp only [kept_mk] | apply keptD_of | rfl
      | apply keptOut_next

theorem kept_fbiClear {base : State} {n : Nat} {s : State} (h : Kept base s) :
    Kept base (fbiClear n s) := by
  unfold fbiClear
  try dsimp only
  with_reducible
    repeat' first
      | assumption | apply kept_fset | apply kept_setCh | apply kept_ite | simp only [kept_mk] | apply keptD_of | rfl | split

theorem kept_execFbiClear {base : State} {who : Fin 36} {ch : Fin 16} {s : State} (h : Kept base s) :
    KeptOut base (execFbiClear who ch s) := by
  unfold execFbiClear
  try dsimp only
  with_reducible
    repeat' first
      | assumption | intro _ | apply kept_rapDo | apply kept_fbiClear | apply keptOut_next

theorem kept_cmpCommit {base : State} {k : Nat} {hi : Word} {s : State} (h : Kept base s) :
    Kept base (cmpCommit k hi s) := by
  unfold cmpCommit
  try dsimp only
  with_reducible
    repeat' first
      | assumption | apply kept_fset | apply kept_fsetb | apply kept_ite | simp only [kept_mk] | apply keptD_of | rfl | split

theorem kept_execCmpValHiWrite {base : State} {who : Fin 36} {k : Fin 4} {hi : Word} {s : State} (h : Kept base s) :
    KeptOut base (execCmpValHiWrite who k hi s) := by
  unfold execCmpValHiWrite
  try dsimp only
  with_reducible
    repeat' first
      | assumption | intro _ | apply kept_rapDo | apply kept_cmpCommit | apply keptOut_next

theorem kept_execCmpPulseEnd {base : State} {k : Fin 4} {s : State} (h : Kept base s) :
    KeptOut base (execCmpPulseEnd k s) := by
  unfold execCmpPulseEnd
  try dsimp only
  with_reducible
    repeat' first
      | assumption | intro _ | simp only [kept_mk] | apply keptD_of | rfl | apply keptOut_next

theorem kept_chSnap {base : State} {B n : Nat} {s : State} (h : Kept base s) :
    Kept base (chSnap B n s) := by
  unfold chSnap
  try dsimp only
  with_reducible
    repeat' first
      | assumption | apply kept_rset64 | apply kept_rsetN | apply kept_fsetb | apply kept_setCh | simp only [kept_mk] | apply keptD_of | rfl

theorem kept_counterSnapshot {base : State} {B : Nat} {s : State} (h : Kept base s) :
    Kept base (counterSnapshot B s) := by
  unfold counterSnapshot
  try dsimp only
  with_reducible
    repeat' first
      | assumption | intro _ | apply kept_forN | apply kept_chSnap | apply kept_ite | simp only [kept_mk] | apply keptD_of | rfl | split

theorem kept_execSsiRead {base : State} {k : Fin 4} {data : Word} {status : Nat} {check : Nat} {wireLow : Bool} {s : State} (h : Kept base s) :
    KeptOut base (execSsiRead k data status check wireLow s) := by
  unfold execSsiRead
  try dsimp only
  with_reducible
    repeat' first
      | assumption | intro _ | apply kept_fsetb | apply kept_fincSat | apply kept_fault | apply kept_jointSample | apply kept_whenB
      | apply kept_rsetN | apply kept_rset64 | apply kept_ite | simp only [kept_mk] | apply keptD_of | rfl | apply keptOut_next | split

theorem kept_execAinSample {base : State} {n : Fin 16} {code : BitVec 16} {above : Bool} {s : State} (h : Kept base s) :
    KeptOut base (execAinSample n code above s) := by
  unfold execAinSample
  try dsimp only
  with_reducible
    repeat' first
      | assumption | apply kept_fset | apply kept_fsetb | apply kept_jointSample | apply kept_pressInput | apply kept_ite | simp only [kept_mk]
      | apply keptD_of | rfl | apply keptOut_next | split

theorem kept_shuntOpen {base : State} {n : Nat} {s : State} (h : Kept base s) :
    Kept base (shuntOpen n s) := by
  unfold shuntOpen
  try dsimp only
  with_reducible
    repeat' first
      | assumption | apply kept_fsetb | apply kept_raise | simp only [kept_mk] | apply keptD_of | rfl

theorem kept_execShuntOpen {base : State} {n : Fin 16} {s : State} (h : Kept base s) :
    KeptOut base (execShuntOpen n s) := by
  unfold execShuntOpen
  try dsimp only
  with_reducible
    repeat' first
      | assumption | apply kept_shuntOpen | apply kept_ite | apply keptOut_next | split

theorem kept_execShuntClose {base : State} {n : Fin 16} {high : Bool} {s : State} (h : Kept base s) :
    KeptOut base (execShuntClose n high s) := by
  unfold execShuntClose
  try dsimp only
  with_reducible
    repeat' first
      | assumption | apply kept_fsetb | apply kept_shuntOpen | apply kept_ite | apply keptOut_next | split

theorem kept_supplyFault {base : State} {b fault : Bool} {s : State} (h : Kept base s) :
    Kept base (supplyFault b fault s) := by
  unfold supplyFault
  try dsimp only
  with_reducible
    repeat' first
      | assumption | intro _ | apply kept_forN | apply kept_fsetb | apply kept_fault | apply kept_fbiValid | apply kept_whenB | apply kept_ite
      | split

theorem kept_execSupplyLimitOff {base : State} {b : Bool} {s : State} (h : Kept base s) :
    KeptOut base (execSupplyLimitOff b s) := by
  unfold execSupplyLimitOff
  try dsimp only
  with_reducible
    repeat' first
      | assumption | apply kept_fault | apply kept_supplyFault | apply kept_fincSat | apply kept_fsetb | apply kept_ite | simp only [kept_mk]
      | apply keptD_of | rfl | apply keptOut_next | split

theorem kept_execSupplyRetry {base : State} {b : Bool} {s : State} (h : Kept base s) :
    KeptOut base (execSupplyRetry b s) := by
  unfold execSupplyRetry
  try dsimp only
  with_reducible
    repeat' first
      | assumption | apply kept_faultEnd | apply kept_supplyFault | apply kept_fsetb | apply kept_ite | apply keptOut_next | split

end Sys2Proof.Laws
end

