-- ==== Sys2Proof/Laws/KeptStride.lean ====
section
/-!
SUPPORT. Laws/KeptStride.lean: each operation of Machine/Stride.lean keeps what Laws/Kept.lean lists.
-/

set_option linter.unusedVariables false
set_option linter.unusedTactic false
set_option linter.unreachableTactic false

open Sys2Proof Sys2Proof.Machine

namespace Sys2Proof.Laws

theorem kept_dealLanes {base : State} {e : Nat} {s : State} (h : Kept base s) :
    Kept base (dealLanes e s) := by
  unfold dealLanes
  try dsimp only
  with_reducible
    repeat' first
      | assumption | intro _ | apply kept_forN | apply kept_fsetb | apply kept_fset | apply kept_ite | split

theorem kept_footBoundary {base : State} {s : State} (h : Kept base s) :
    Kept base (footBoundary s) := by
  unfold footBoundary
  try dsimp only
  with_reducible
    repeat' first
      | assumption | intro _ | apply kept_forEach | apply kept_fsetb | apply kept_foldl | apply kept_foldl2 | apply kept_foldl1
      | simp only [kept_mk] | apply keptD_of | rfl

theorem kept_rateOut {base : State} {B : Nat} {o : OutEnt} {s : State} (h : Kept base s) :
    Kept base (rateOut B o s) := by
  unfold rateOut
  try dsimp only
  with_reducible
    repeat' first
      | assumption | apply kept_fsetb | apply kept_fset | apply kept_rset | apply kept_ite | simp only [kept_mk] | apply keptD_of | rfl | split

theorem kept_horizonsBoundary {base : State} {s : State} (h : Kept base s) :
    Kept base (horizonsBoundary s) := by
  unfold horizonsBoundary
  try dsimp only
  with_reducible
    repeat' first
      | assumption | apply kept_fset | apply kept_fault | apply kept_fsetb | apply kept_ite | split

theorem kept_stallGaps {base : State} {s : State} (h : Kept base s) :
    Kept base (stallGaps s) := by
  unfold stallGaps
  try dsimp only
  with_reducible
    repeat' first
      | assumption | intro _ | apply kept_forEach | apply kept_setOut | apply kept_ite | simp only [kept_mk] | apply keptD_of | rfl | split

theorem kept_decideBoundary {base : State} {B : Nat} {s : State} (h : Kept base s) :
    Kept base (decideBoundary B s) := by
  unfold decideBoundary
  try dsimp only
  with_reducible
    repeat' first
      | assumption | intro _ | apply kept_horizonsBoundary | apply kept_fsetb | apply kept_forEach | apply kept_setOut | apply kept_dealLanes
      | apply kept_ite | simp only [kept_mk] | apply keptD_of | rfl | split

theorem kept_directBoundary {base : State} {B : Nat} {s : State} (h : Kept base s) :
    Kept base (directBoundary B s) := by
  unfold directBoundary
  try dsimp only
  with_reducible
    repeat' first
      | assumption | intro _ | apply kept_fsetb | apply kept_dealLanes | apply kept_forEach | apply kept_dirSection

theorem kept_engineBoundary {base : State} {B : Nat} {s : State} (h : Kept base s) :
    Kept base (engineBoundary B s) := by
  unfold engineBoundary
  try dsimp only
  with_reducible
    repeat' first
      | assumption | intro _ | apply kept_forEach | apply kept_setOut | apply kept_decideBoundary | apply kept_directBoundary
      | apply kept_dealLanes | apply kept_fsetb | apply kept_engineStop | apply kept_ite | simp only [kept_mk] | apply keptD_of | rfl | split

theorem kept_suspendDue {base : State} {B : Nat} {s : State} (h : Kept base s) :
    Kept base (suspendDue B s) := by
  unfold suspendDue
  try dsimp only
  with_reducible
    repeat' first
      | assumption | apply kept_setJobState | apply kept_jobTeam | apply kept_ite | simp only [kept_mk] | apply keptD_of | rfl | split

theorem kept_coreBoundary {base : State} {B : Nat} {s' : State} (h : Kept base s') :
    Kept base (coreBoundary B s') := by
  unfold coreBoundary
  try dsimp only
  with_reducible
    repeat' first
      | assumption | intro _ | apply kept_suspendDue | apply kept_spoofSync | apply kept_platTrack | apply kept_poseBoundary | apply kept_staged
      | apply kept_delayLatch | apply kept_jointSnapshot | apply kept_wantBoundary | apply kept_footBoundary | apply kept_levelUp
      | apply kept_secEnLatch | apply kept_modeEval | apply kept_workBoundary | apply kept_schedBoundary | apply kept_stallGaps
      | apply kept_engineBoundary | apply kept_fsetb | apply kept_workReport | apply kept_tlogBoundary | apply kept_mergeBoundary
      | apply kept_forEach | apply kept_nextReg | apply kept_ctlBoundary | apply kept_slewBoundary | apply kept_ttMissed | simp only [kept_mk]
      | apply keptD_of | rfl

theorem kept_execStrideBoundary {base : State} {s : State} (h : Kept base s) :
    KeptOut base (execStrideBoundary s) := by
  unfold execStrideBoundary
  try dsimp only
  with_reducible
    repeat' first
      | assumption | apply kept_counterSnapshot | apply kept_coreBoundary | apply kept_rset64 | apply kept_ite | simp only [kept_mk]
      | apply keptD_of | rfl | apply keptOut_next | split

theorem kept_lateRecord {base : State} {first : Bool} {n low : Nat} {s : State} (h : Kept base s) :
    Kept base (lateRecord first n low s) := by
  unfold lateRecord
  try dsimp only
  with_reducible
    repeat' first
      | assumption | apply kept_fault | apply kept_raise | apply kept_ite | simp only [kept_mk] | apply keptD_of | rfl | split

theorem kept_execStrideCutoff {base : State} {cuts : List (Fin 96 × Fin 8)} {s : State} (h : Kept base s) :
    KeptOut base (execStrideCutoff cuts s) := by
  unfold execStrideCutoff
  try dsimp only
  with_reducible
    repeat' first
      | assumption | intro _ | apply kept_forEach | apply kept_setOut | apply kept_fset | apply kept_fincSat | apply kept_lateRecord
      | apply kept_fsetb | apply kept_foldl | apply kept_foldl2 | apply kept_foldl1 | apply kept_ite | simp only [kept_mk] | apply keptD_of | rfl
      | apply keptOut_next | split

theorem kept_execStrideFullRestore {base : State} {s : State} (h : Kept base s) :
    KeptOut base (execStrideFullRestore s) := by
  unfold execStrideFullRestore
  try dsimp only
  with_reducible
    repeat' first
      | assumption | intro _ | apply kept_faultEnd | apply kept_fset | apply kept_fsetb | apply kept_ite | apply keptOut_next | split

theorem kept_laneMismatch {base : State} {lane : Nat} {s : State} (h : Kept base s) :
    Kept base (laneMismatch lane s) := by
  unfold laneMismatch
  try dsimp only
  with_reducible
    repeat' first
      | assumption | apply kept_fincSat | apply kept_fincWrap | apply kept_faultOnce | apply kept_unitRetire | apply kept_fault | apply kept_ite
      | simp only [kept_mk] | apply keptD_of | rfl | split

theorem kept_horizon0 {base : State} {n : Nat} {s : State} (h : Kept base s) :
    Kept base (horizon0 n s) := by
  unfold horizon0
  try dsimp only
  with_reducible
    repeat' first
      | assumption | apply kept_setOut | apply kept_stopOut | apply kept_fault | apply kept_fsetb | apply kept_faultEnd | apply kept_ite
      | simp only [kept_mk] | apply keptD_of | rfl | split

theorem kept_planAll {base : State} {B : Nat} {skip : List Nat} {s : State} (h : Kept base s) :
    Kept base (planAll B skip s) := by
  unfold planAll
  try dsimp only
  with_reducible
    repeat' first
      | assumption | intro _ | apply kept_forEach | apply kept_horizon0 | apply kept_planOut | apply kept_ite | simp only [kept_mk]
      | apply keptD_of | rfl | split

theorem kept_shadowPlans {base : State} {s : State} (h : Kept base s) :
    Kept base (shadowPlans s) := by
  unfold shadowPlans
  try dsimp only
  with_reducible
    repeat' first
      | assumption | intro _ | apply kept_forEach | apply kept_send | apply kept_ite | simp only [kept_mk] | apply keptD_of | rfl | split

theorem kept_cleanCycle {base : State} {s : State} (h : Kept base s) :
    Kept base (cleanCycle s) := by
  unfold cleanCycle
  try dsimp only
  with_reducible
    repeat' first
      | assumption | apply kept_fset | apply kept_faultOver | apply kept_ite | simp only [kept_mk] | apply keptD_of | rfl | split

theorem kept_execStrideWriteback {base : State} {mis : Bool} {s : State} (h : Kept base s) :
    KeptOut base (execStrideWriteback mis s) := by
  unfold execStrideWriteback
  try dsimp only
  with_reducible
    repeat' first
      | assumption | intro _ | apply kept_staged | apply kept_laneMismatch | apply kept_rotate | apply kept_forEach | apply kept_planDirect
      | apply kept_planAll | apply kept_rateOut | apply kept_provTidy | apply kept_commitAll | apply kept_shadowPlans | apply kept_cleanCycle
      | apply kept_ite | simp only [kept_mk] | apply keptD_of | rfl | apply keptOut_next | split

theorem kept_gateTake {base : State} {n : Nat} {on : Bool} {ground : Nat} {s : State} (h : Kept base s) :
    Kept base (gateTake n on ground s) := by
  unfold gateTake
  try dsimp only
  with_reducible
    repeat' first
      | assumption | apply kept_setGate | apply kept_setOut | apply kept_ite | simp only [kept_mk] | apply keptD_of | rfl | split

theorem kept_execEventCommit {base : State} {out : Fin 96} {s : State} (h : Kept base s) :
    KeptOut base (execEventCommit out s) := by
  unfold execEventCommit
  try dsimp only
  with_reducible
    repeat' first
      | assumption | intro _ | apply kept_staged | apply kept_nextReg | apply kept_gateTake | apply kept_setOut | apply kept_ite
      | simp only [kept_mk] | apply keptD_of | rfl | apply keptOut_next | split

theorem kept_queueCatchUp {base : State} {T : Nat} {s : State} (h : Kept base s) :
    Kept base (queueCatchUp T s) := by
  unfold queueCatchUp
  try dsimp only
  with_reducible
    repeat' first
      | assumption | intro _ | apply kept_forEach | apply kept_setOut | apply kept_nextReg | apply kept_gateTake | apply kept_ite
      | simp only [kept_mk] | apply keptD_of | rfl | split

theorem kept_haltUndo {base : State} {s : State} (h : Kept base s) :
    Kept base (haltUndo s) := by
  unfold haltUndo
  try dsimp only
  with_reducible
    repeat' first
      | assumption | intro _ | apply kept_forN | apply kept_nextReg | apply kept_setOut | apply kept_setGate | apply kept_ite
      | simp only [kept_mk] | apply keptD_of | rfl | split

theorem kept_execDebugHalt {base : State} {who : Fin 36} {s : State} (h : Kept base s) :
    KeptOut base (execDebugHalt who s) := by
  unfold execDebugHalt
  try dsimp only
  with_reducible
    repeat' first
      | assumption | intro _ | apply kept_rapDo | apply kept_staged | apply kept_halterCheck | apply kept_wdStart | apply kept_freeze
      | apply kept_slicesDrop | apply kept_haltUndo | apply kept_ite | simp only [kept_mk] | apply keptD_of | rfl | apply keptOut_next | split

theorem kept_execDebugResume {base : State} {who : Fin 36} {s : State} (h : Kept base s) :
    KeptOut base (execDebugResume who s) := by
  unfold execDebugResume
  try dsimp only
  with_reducible
    repeat' first
      | assumption | intro _ | apply kept_rapDo | apply kept_staged | apply kept_queueCatchUp | apply kept_unfreeze | apply kept_ite
      | simp only [kept_mk] | apply keptD_of | rfl | apply keptOut_next | split

end Sys2Proof.Laws
end

