-- ==== Sys2Proof/Laws/KeptLinks.lean ====
section
/-!
SUPPORT. Laws/KeptLinks.lean: each operation of Machine/Links.lean keeps what Laws/Kept.lean lists.
-/

set_option linter.unusedVariables false
set_option linter.unusedTactic false
set_option linter.unreachableTactic false

open Sys2Proof Sys2Proof.Machine

namespace Sys2Proof.Laws

theorem kept_tskNew {base : State} {s : State} (h : Kept base s) :
    Kept base (tskNew s) := by
  unfold tskNew
  try dsimp only
  with_reducible
    repeat' first
      | assumption | apply kept_freeNext | simp only [kept_mk] | apply keptD_of | rfl

theorem kept_setTl {base : State} {n : Nat} {x : LinkTx} {s : State} (h : Kept base s) :
    Kept base (setTl n x s) := by
  unfold setTl
  try dsimp only
  with_reducible
    repeat' first
      | assumption | simp only [kept_mk] | apply keptD_of | rfl

theorem kept_lcSend {base : State} {n : Nat} {kind cls v : Nat} {s : State} (h : Kept base s) :
    Kept base (lcSend n kind cls v s) := by
  unfold lcSend
  try dsimp only
  with_reducible
    repeat' first
      | assumption | apply kept_send

theorem kept_linkOne {base : State} {n : Nat} {s : State} (h : Kept base s) :
    Kept base (linkOne n s) := by
  unfold linkOne
  try dsimp only
  with_reducible
    repeat' first
      | assumption | intro _ | apply kept_send | apply kept_setTl | simp only [kept_mk] | apply keptD_of | rfl | split

theorem kept_linkPump {base : State} {n : Nat} {s : State} (h : Kept base s) :
    Kept base (linkPump n s) := by
  unfold linkPump
  try dsimp only
  with_reducible
    repeat' first
      | assumption | intro _ | apply kept_forN | apply kept_linkOne | apply kept_ite | split

theorem kept_linkPut {base : State} {f : LFrame} {n : Nat} {s : State} (h : Kept base s) :
    Kept base (linkPut f n s) := by
  unfold linkPut
  try dsimp only
  with_reducible
    repeat' first
      | assumption | apply kept_linkPump | apply kept_setTl | simp only [kept_mk] | apply keptD_of | rfl

theorem kept_frameOut {base : State} {f : LFrame} {from_ : Nat} {s : State} (h : Kept base s) :
    Kept base (frameOut f from_ s) := by
  unfold frameOut
  try dsimp only
  with_reducible
    repeat' first
      | assumption | intro _ | apply kept_forEach | apply kept_linkPut | apply kept_ite | simp only [kept_mk] | apply keptD_of | rfl | split

theorem kept_linkFeed {base : State} {s : State} (h : Kept base s) :
    Kept base (linkFeed s) := by
  unfold linkFeed
  try dsimp only
  with_reducible
    repeat' first
      | assumption | intro _ | apply kept_forEach | apply kept_forN | apply kept_frameOut | apply kept_ite | simp only [kept_mk] | apply keptD_of
      | rfl | simp only [id_eq] | split

theorem kept_linkEnter {base : State} {n st : Nat} {s : State} (h : Kept base s) :
    Kept base (linkEnter n st s) := by
  unfold linkEnter
  try dsimp only
  with_reducible
    repeat' first
      | assumption | apply kept_raise | apply kept_setTl | apply kept_fset | simp only [kept_mk] | apply keptD_of | rfl

theorem kept_reroute {base : State} {n : Nat} {s : State} (h : Kept base s) :
    Kept base (reroute n s) := by
  unfold reroute
  try dsimp only
  with_reducible
    repeat' first
      | assumption | intro _ | apply kept_setTl | apply kept_forEach | apply kept_fsetb | apply kept_linkPut | apply kept_ite
      | simp only [kept_mk] | apply keptD_of | rfl | split

theorem kept_backupUse {base : State} {s : State} (h : Kept base s) :
    Kept base (backupUse s) := by
  unfold backupUse
  try dsimp only
  with_reducible
    repeat' first
      | assumption | intro _ | apply kept_forEach | apply kept_fsetb | apply kept_ite | simp only [kept_mk] | apply keptD_of | rfl | split

theorem kept_linkDown {base : State} {n : Nat} {s0 : State} (h : Kept base s0) :
    Kept base (linkDown n s0) := by
  unfold linkDown
  try dsimp only
  with_reducible
    repeat' first
      | assumption | apply kept_report | apply kept_fincSat | apply kept_linkEnter | apply kept_backupUse | apply kept_reroute | apply kept_fsetb
      | apply kept_ite | split

theorem kept_linkResend {base : State} {n c : Nat} {s : State} (h : Kept base s) :
    Kept base (linkResend n c s) := by
  unfold linkResend
  try dsimp only
  with_reducible
    repeat' first
      | assumption | intro _ | apply kept_fincSat | apply kept_setTl | apply kept_linkDown | apply kept_forEach | apply kept_send | apply kept_ite
      | simp only [kept_mk] | apply keptD_of | rfl | split

theorem kept_linkAcked {base : State} {n c lseq : Nat} {s : State} (h : Kept base s) :
    Kept base (linkAcked n c lseq s) := by
  unfold linkAcked
  try dsimp only
  with_reducible
    repeat' first
      | assumption | intro _ | apply kept_linkPump | apply kept_setTl | apply kept_ite | simp only [kept_mk] | apply keptD_of | rfl | split

theorem kept_seenTc4 {base : State} {f : LFrame} {s : State} (h : Kept base s) :
    Kept base (seenTc4 f s) := by
  unfold seenTc4
  try dsimp only
  with_reducible
    repeat' first
      | assumption | apply kept_ite | simp only [kept_mk] | apply keptD_of | rfl | split

theorem kept_execLinkFrame {base : State} {n : Fin 5} {f : LFrame} {crcOk : Bool} {s : State} (h : Kept base s) :
    KeptOut base (execLinkFrame n f crcOk s) := by
  unfold execLinkFrame
  try dsimp only
  with_reducible
    repeat' first
      | assumption | apply kept_lcSend | apply kept_fault | apply kept_fincSat | apply kept_setTl | apply kept_seenTc4 | apply kept_frameOut
      | apply kept_ite | simp only [kept_mk] | apply keptD_of | rfl | apply keptOut_next | split

theorem kept_execLcFrame {base : State} {n : Fin 5} {m : LcMsg} {s : State} (h : Kept base s) :
    KeptOut base (execLcFrame n m s) := by
  unfold execLcFrame
  try dsimp only
  with_reducible
    repeat' first
      | assumption | apply kept_linkAcked | apply kept_linkResend | apply kept_linkPump | apply kept_setTl | apply kept_ite | simp only [kept_mk]
      | apply keptD_of | rfl | apply keptOut_next | split

theorem kept_execLinkAckTimeout {base : State} {n : Fin 5} {cls : Fin 6} {s : State} (h : Kept base s) :
    KeptOut base (execLinkAckTimeout n cls s) := by
  unfold execLinkAckTimeout
  try dsimp only
  with_reducible
    repeat' first
      | assumption | intro _ | apply kept_linkResend | apply kept_ite | simp only [kept_mk] | apply keptD_of | rfl | apply keptOut_next | split

theorem kept_execLinkTraining {base : State} {n : Fin 5} {s : State} (h : Kept base s) :
    KeptOut base (execLinkTraining n s) := by
  unfold execLinkTraining
  try dsimp only
  with_reducible
    repeat' first
      | assumption | apply kept_linkEnter | apply kept_ite | apply keptOut_next | split

end Sys2Proof.Laws
end

