-- ==== Sys2Proof/Laws/KeptTeam.lean ====
section
/-!
SUPPORT. Laws/KeptTeam.lean: each operation of Machine/Team.lean keeps what Laws/Kept.lean lists.
-/

set_option linter.unusedVariables false
set_option linter.unusedTactic false
set_option linter.unreachableTactic false

open Sys2Proof Sys2Proof.Machine

namespace Sys2Proof.Laws

theorem kept_setLeader {base : State} {m : Option Nat} {s : State} (h : Kept base s) :
    Kept base (setLeader m s) := by
  unfold setLeader
  try dsimp only
  with_reducible
    repeat' first
      | assumption | apply kept_fsetb | apply kept_fset | simp only [kept_mk] | apply keptD_of | rfl | split

theorem kept_setTeamState {base : State} {n : Nat} {s : State} (h : Kept base s) :
    Kept base (setTeamState n s) := by
  unfold setTeamState
  try dsimp only
  with_reducible
    repeat' first
      | assumption | apply kept_fset

theorem kept_setMembers {base : State} {l : List Nat} {s : State} (h : Kept base s) :
    Kept base (setMembers l s) := by
  unfold setMembers
  try dsimp only
  with_reducible
    repeat' first
      | assumption | intro _ | apply kept_rsetN | apply kept_foldl | apply kept_foldl2 | apply kept_foldl1 | simp only [kept_mk] | apply keptD_of
      | rfl

theorem kept_coverageLost {base : State} {s : State} (h : Kept base s) :
    Kept base (coverageLost s) := by
  unfold coverageLost
  try dsimp only
  with_reducible
    repeat' first
      | assumption | apply kept_raise | apply kept_ite | simp only [kept_mk] | apply keptD_of | rfl | split

theorem kept_isobusRole {base : State} {on : Bool} {s : State} (h : Kept base s) :
    Kept base (isobusRole on s) := by
  unfold isobusRole
  try dsimp only
  with_reducible
    repeat' first
      | assumption | apply kept_canModeSet | apply kept_fset | apply kept_fsetb | apply kept_isoClaim | apply kept_setCan | apply kept_ite
      | simp only [kept_mk] | apply keptD_of | rfl | split

theorem kept_rolesSync {base : State} {s : State} (h : Kept base s) :
    Kept base (rolesSync s) := by
  unfold rolesSync
  try dsimp only
  with_reducible
    repeat' first
      | assumption | apply kept_fsetb | apply kept_tellTt | apply kept_isobusRole | apply kept_ite | simp only [kept_mk] | apply keptD_of | rfl
      | split

theorem kept_setRole {base : State} {r p : Nat} {s : State} (h : Kept base s) :
    Kept base (setRole r p s) := by
  unfold setRole
  try dsimp only
  with_reducible
    repeat' first
      | assumption | intro _ | simp only [kept_mk] | apply keptD_of | rfl

theorem kept_rolesForm {base : State} {s : State} (h : Kept base s) :
    Kept base (rolesForm s) := by
  unfold rolesForm
  try dsimp only
  with_reducible
    repeat' first
      | assumption | intro _ | apply kept_rolesSync | apply kept_forN | apply kept_setRole | simp only [kept_mk] | apply keptD_of | rfl | split

theorem kept_rolesMove {base : State} {s : State} (h : Kept base s) :
    Kept base (rolesMove s) := by
  unfold rolesMove
  try dsimp only
  with_reducible
    repeat' first
      | assumption | intro _ | apply kept_forN | apply kept_toTeam | apply kept_ite | simp only [kept_mk] | apply keptD_of | rfl | split

theorem kept_rolesTell {base : State} {m : Nat} {s : State} (h : Kept base s) :
    Kept base (rolesTell m s) := by
  unfold rolesTell
  try dsimp only
  with_reducible
    repeat' first
      | assumption | intro _ | apply kept_forEach | apply kept_send

theorem kept_execRoleMoveApply {base : State} {role : Fin 3} {pos : Fin 32} {s : State} (h : Kept base s) :
    KeptOut base (execRoleMoveApply role pos s) := by
  unfold execRoleMoveApply
  try dsimp only
  with_reducible
    repeat' first
      | assumption | intro _ | apply kept_rolesSync | apply kept_setRole | apply kept_ite | simp only [kept_mk] | apply keptD_of | rfl
      | apply keptOut_next | split

theorem kept_tableApply {base : State} {t : RouteTab} {s : State} (h : Kept base s) :
    Kept base (tableApply t s) := by
  unfold tableApply
  try dsimp only
  with_reducible
    repeat' first
      | assumption | intro _ | apply kept_forN | apply kept_fsetb | apply kept_fset | apply kept_forEach | apply kept_faultEnd
      | apply kept_backupUse | apply kept_fault | simp only [kept_mk] | apply keptD_of | rfl

theorem kept_newTables {base : State} {s : State} (h : Kept base s) :
    Kept base (newTables s) := by
  unfold newTables
  try dsimp only
  with_reducible
    repeat' first
      | assumption | intro _ | apply kept_forEach | apply kept_send | simp only [kept_mk] | apply keptD_of | rfl

theorem kept_execRoutingTable {base : State} {t : RouteTab} {s : State} (h : Kept base s) :
    KeptOut base (execRoutingTable t s) := by
  unfold execRoutingTable
  try dsimp only
  with_reducible
    repeat' first
      | assumption | apply kept_ite | simp only [kept_mk] | apply keptD_of | rfl | apply keptOut_next | split

theorem kept_execRoutingTableApply {base : State} {s : State} (h : Kept base s) :
    KeptOut base (execRoutingTableApply s) := by
  unfold execRoutingTableApply
  try dsimp only
  with_reducible
    repeat' first
      | assumption | apply kept_tableApply | apply kept_ite | simp only [kept_mk] | apply keptD_of | rfl | apply keptOut_next | split

theorem kept_resolvedPair {base : State} {s : State} (h : Kept base s) :
    Kept base (resolvedPair s) := by
  unfold resolvedPair
  try dsimp only
  with_reducible
    repeat' first
      | assumption | apply kept_faultEnd | apply kept_fsetb | apply kept_ite | split

theorem kept_partnerAlone {base : State} {s : State} (h : Kept base s) :
    Kept base (partnerAlone s) := by
  unfold partnerAlone
  try dsimp only
  with_reducible
    repeat' first
      | assumption | intro _ | apply kept_fset | apply kept_raise | apply kept_resolvedPair | apply kept_forEach | apply kept_stripOut
      | apply kept_ite | simp only [kept_mk] | apply keptD_of | rfl | split

theorem kept_leaderRefresh {base : State} {s : State} (h : Kept base s) :
    Kept base (leaderRefresh s) := by
  unfold leaderRefresh
  try dsimp only
  with_reducible
    repeat' first
      | assumption | intro _ | apply kept_setMembers | apply kept_newTables | apply kept_rolesMove | apply kept_forEach | apply kept_partnerAlone
      | apply kept_send | apply kept_ite | split

theorem kept_execLinkDown {base : State} {n : Fin 5} {s : State} (h : Kept base s) :
    KeptOut base (execLinkDown n s) := by
  unfold execLinkDown
  try dsimp only
  with_reducible
    repeat' first
      | assumption | apply kept_leaderRefresh | apply kept_linkDown | apply kept_ite | apply keptOut_next | split

theorem kept_execLinkUp {base : State} {n : Fin 5} {peer : Fin 64} {s : State} (h : Kept base s) :
    KeptOut base (execLinkUp n peer s) := by
  unfold execLinkUp
  try dsimp only
  with_reducible
    repeat' first
      | assumption | apply kept_leaderRefresh | apply kept_faultPast | apply kept_linkEnter | apply kept_fset | apply kept_setTl | apply kept_ite
      | apply keptOut_next | split

theorem kept_execHelloSend {base : State} {s : State} (h : Kept base s) :
    KeptOut base (execHelloSend s) := by
  unfold execHelloSend
  try dsimp only
  with_reducible
    repeat' first
      | assumption | intro _ | apply kept_forEach | apply kept_send | apply kept_ite | simp only [kept_mk] | apply keptD_of | rfl
      | apply keptOut_next | split

theorem kept_refuse {base : State} {m : Nat} {e : Ev} {s : State} (h : Kept base s) :
    Kept base (refuse m e s) := by
  unfold refuse
  try dsimp only
  with_reducible
    repeat' first
      | assumption | apply kept_fault | apply kept_setMembers | apply kept_rolesSync | apply kept_setTeamState | apply kept_ite
      | simp only [kept_mk] | apply keptD_of | rfl | exact keptOut_refused _ | split

theorem kept_helloCheck {base : State} {h : Hello} {s : State} (hyp : Kept base s) :
    Kept base (helloCheck h s) := by
  unfold helloCheck
  try dsimp only
  with_reducible
    repeat' first
      | assumption | intro _ | apply kept_refuse | apply kept_fault | apply kept_ite | simp only [kept_mk] | apply keptD_of | rfl | split

theorem kept_hear {base : State} {h : Hello} {s : State} (hyp : Kept base s) :
    Kept base (hear h s) := by
  unfold hear
  try dsimp only
  with_reducible
    repeat' first
      | assumption | intro _ | apply kept_ite | simp only [kept_mk] | apply keptD_of | rfl | split

theorem kept_wiringCheck {base : State} {h : Hello} {s : State} (hyp : Kept base s) :
    Kept base (wiringCheck h s) := by
  unfold wiringCheck
  try dsimp only
  with_reducible
    repeat' first
      | assumption | intro _ | apply kept_faultEnd | apply kept_fault | apply kept_ite | simp only [kept_mk] | apply keptD_of | rfl | split

theorem kept_planBadSet {base : State} {bad : Bool} {s : State} (h : Kept base s) :
    Kept base (planBadSet bad s) := by
  unfold planBadSet
  try dsimp only
  with_reducible
    repeat' first
      | assumption | apply kept_fault | apply kept_faultEnd | apply kept_ite | simp only [kept_mk] | apply keptD_of | rfl | split

theorem kept_partCheck {base : State} {s : State} (h : Kept base s) :
    Kept base (partCheck s) := by
  unfold partCheck
  try dsimp only
  with_reducible
    repeat' first
      | assumption | apply kept_planBadSet | apply kept_ite | simp only [kept_mk] | apply keptD_of | rfl | split

theorem kept_missingEnd {base : State} {s : State} (h : Kept base s) :
    Kept base (missingEnd s) := by
  unfold missingEnd
  try dsimp only
  with_reducible
    repeat' first
      | assumption | intro _ | apply kept_forEach | apply kept_faultEnd | simp only [kept_mk] | apply keptD_of | rfl

theorem kept_pairForm {base : State} {joining : Bool} {s : State} (h : Kept base s) :
    Kept base (pairForm joining s) := by
  unfold pairForm
  try dsimp only
  with_reducible
    repeat' first
      | assumption | apply kept_fsetb | apply kept_fset | apply kept_ite | split

theorem kept_tbStep {base : State} {T : Nat} {s : State} (h : Kept base s) :
    Kept base (tbStep T s) := by
  unfold tbStep
  try dsimp only
  with_reducible
    repeat' first
      | assumption | intro _ | apply kept_staged | apply kept_queueCatchUp | apply kept_raise | apply kept_fsetb | apply kept_ite
      | simp only [kept_mk] | apply keptD_of | rfl | split

theorem kept_teamAdmit {base : State} {leader term : Nat} {members : List Nat} {s : State} (h : Kept base s) :
    Kept base (teamAdmit leader term members s) := by
  unfold teamAdmit
  try dsimp only
  with_reducible
    repeat' first
      | assumption | apply kept_setLeader | apply kept_fset | apply kept_setTeamState | apply kept_setMembers | apply kept_rolesSync
      | apply kept_pairForm | apply kept_partCheck | apply kept_missingEnd | apply kept_ite | simp only [kept_mk] | apply keptD_of | rfl | split

theorem kept_joinTeam {base : State} {leader term : Nat} {members : List Nat} {s : State} (h : Kept base s) :
    Kept base (joinTeam leader term members s) := by
  unfold joinTeam
  try dsimp only
  with_reducible
    repeat' first
      | assumption | apply kept_teamAdmit | apply kept_tbStep | apply kept_raise | apply kept_fsetb | apply kept_setTeamState | apply kept_ite
      | simp only [kept_mk] | apply keptD_of | rfl | split

theorem kept_imageResend {base : State} {m : Nat} {s : State} (h : Kept base s) :
    Kept base (imageResend m s) := by
  unfold imageResend
  try dsimp only
  with_reducible
    repeat' first
      | assumption | apply kept_prepare | apply kept_send | apply kept_ite | simp only [kept_mk] | apply keptD_of | rfl | split

theorem kept_leaderAdmit {base : State} {m : Nat} {s : State} (h : Kept base s) :
    Kept base (leaderAdmit m s) := by
  unfold leaderAdmit
  try dsimp only
  with_reducible
    repeat' first
      | assumption | apply kept_fault | apply kept_newTables | apply kept_rolesMove | apply kept_rolesTell | apply kept_missingEnd
      | apply kept_setMembers | apply kept_imageResend | apply kept_catchUpFor | apply kept_send | apply kept_ite | simp only [kept_mk]
      | apply keptD_of | rfl | exact keptOut_refused _ | split

theorem kept_partnerBack {base : State} {s : State} (h : Kept base s) :
    Kept base (partnerBack s) := by
  unfold partnerBack
  try dsimp only
  with_reducible
    repeat' first
      | assumption | apply kept_fset | apply kept_ite | simp only [kept_mk] | apply keptD_of | rfl | split

theorem kept_execHello {base : State} {n : Fin 5} {h : Hello} {s : State} (hyp : Kept base s) :
    KeptOut base (execHello n h s) := by
  unfold execHello
  try dsimp only
  with_reducible
    repeat' first
      | assumption | intro _ | apply kept_forEach | apply kept_send | apply kept_wiringCheck | apply kept_hear | apply kept_helloCheck
      | apply kept_partCheck | apply kept_partnerBack | apply kept_leaderRefresh | apply kept_leaderAdmit | apply kept_imageResend
      | apply kept_ite | simp only [kept_mk] | apply keptD_of | rfl | apply keptOut_next | split

theorem kept_formTeam {base : State} {s : State} (h : Kept base s) :
    Kept base (formTeam s) := by
  unfold formTeam
  try dsimp only
  with_reducible
    repeat' first
      | assumption | intro _ | apply kept_forEach | apply kept_fault | apply kept_fsetb | apply kept_faultPast | apply kept_tbStep
      | apply kept_setMembers | apply kept_fset | apply kept_fincSat | apply kept_setLeader | apply kept_setTeamState | apply kept_rolesForm
      | apply kept_pairForm | apply kept_partCheck | apply kept_tableApply | apply kept_coverageLost | apply kept_newTables | apply kept_tskNew
      | apply kept_foldl | apply kept_foldl2 | apply kept_foldl1 | apply kept_ite | simp only [kept_mk] | apply keptD_of | rfl | split

theorem kept_execDiscoveryEnd {base : State} {s : State} (h : Kept base s) :
    KeptOut base (execDiscoveryEnd s) := by
  unfold execDiscoveryEnd
  try dsimp only
  with_reducible
    repeat' first
      | assumption | intro _ | apply kept_refuse | apply kept_forEach | apply kept_fault | apply kept_joinTeam | apply kept_formTeam
      | apply kept_ite | simp only [kept_mk] | apply keptD_of | rfl | apply keptOut_next | split

theorem kept_execTbSlewDone {base : State} {s : State} (h : Kept base s) :
    KeptOut base (execTbSlewDone s) := by
  unfold execTbSlewDone
  try dsimp only
  with_reducible
    repeat' first
      | assumption | apply kept_fsetb | apply kept_teamAdmit | apply kept_ite | simp only [kept_mk] | apply keptD_of | rfl | apply keptOut_next
      | split

theorem kept_execLeaderBeatSend {base : State} {s : State} (h : Kept base s) :
    KeptOut base (execLeaderBeatSend s) := by
  unfold execLeaderBeatSend
  try dsimp only
  with_reducible
    repeat' first
      | assumption | apply kept_toTeam | apply kept_ite | simp only [kept_mk] | apply keptD_of | rfl | apply keptOut_next | split

theorem kept_execLeaderBeat {base : State} {m : Fin 64} {term : Fin 65536} {members : List (Fin 64)} {s : State} (h : Kept base s) :
    KeptOut base (execLeaderBeat m term members s) := by
  unfold execLeaderBeat
  try dsimp only
  with_reducible
    repeat' first
      | assumption | apply kept_setMembers | apply kept_partnerBack | apply kept_missingEnd | apply kept_setTeamState | apply kept_setLeader
      | apply kept_fset | apply kept_askAgain | apply kept_partCheck | apply kept_joinTeam | apply kept_ite | simp only [kept_mk] | apply keptD_of
      | rfl | apply keptOut_next | split

theorem kept_execLeaderLost {base : State} {s : State} (h : Kept base s) :
    KeptOut base (execLeaderLost s) := by
  unfold execLeaderLost
  try dsimp only
  with_reducible
    repeat' first
      | assumption | intro _ | apply kept_setTeamState | apply kept_setLeader | apply kept_setMembers | apply kept_fincSat | apply kept_fset
      | apply kept_askAgain | apply kept_newTables | apply kept_rolesMove | apply kept_tskNew | apply kept_ite | simp only [kept_mk]
      | apply keptD_of | rfl | apply keptOut_next | split

theorem kept_execTimeSyncRequest {base : State} {n : Fin 5} {frac : Fin 32} {s : State} (h : Kept base s) :
    KeptOut base (execTimeSyncRequest n frac s) := by
  unfold execTimeSyncRequest
  try dsimp only
  with_reducible
    repeat' first
      | assumption | apply kept_send | apply kept_setTl | apply kept_ite | simp only [kept_mk] | apply keptD_of | rfl | apply keptOut_next | split

theorem kept_execTimeSyncRequestRx {base : State} {n : Fin 5} {frac : Fin 32} {turn : Nat} {s : State} (h : Kept base s) :
    KeptOut base (execTimeSyncRequestRx n frac turn s) := by
  unfold execTimeSyncRequestRx
  try dsimp only
  with_reducible
    repeat' first
      | assumption | apply kept_send | apply kept_ite | apply keptOut_next | split

theorem kept_alignCheck {base : State} {s : State} (h : Kept base s) :
    Kept base (alignCheck s) := by
  unfold alignCheck
  try dsimp only
  with_reducible
    repeat' first
      | assumption | intro _ | apply kept_fsetb | apply kept_faultEnd | apply kept_fault | apply kept_ite | simp only [kept_mk] | apply keptD_of
      | rfl | split

theorem kept_execTimeSyncReply {base : State} {n : Fin 5} {frac : Fin 32} {t2 t3 : Nat} {ofs : Int} {s : State} (h : Kept base s) :
    KeptOut base (execTimeSyncReply n frac t2 t3 ofs s) := by
  unfold execTimeSyncReply
  try dsimp only
  with_reducible
    repeat' first
      | assumption | apply kept_setTl | apply kept_fset | apply kept_alignCheck | apply kept_foldl | apply kept_foldl2 | apply kept_foldl1
      | simp only [kept_mk] | apply keptD_of | rfl | apply keptOut_next | split

theorem kept_execStrapChanged {base : State} {v : BitVec 6} {s : State} (h : Kept base s) :
    KeptOut base (execStrapChanged v s) := by
  unfold execStrapChanged
  try dsimp only
  with_reducible
    repeat' first
      | assumption | apply kept_fault | apply kept_ite | simp only [kept_mk] | apply keptD_of | rfl | apply keptOut_next | split

end Sys2Proof.Laws
end

