-- ==== Sys2Proof/Laws/KeptPair.lean ====
section
/-!
SUPPORT. Laws/KeptPair.lean: each operation of Machine/Pair.lean keeps what Laws/Kept.lean lists.
-/

set_option linter.unusedVariables false
set_option linter.unusedTactic false
set_option linter.unreachableTactic false

open Sys2Proof Sys2Proof.Machine

namespace Sys2Proof.Laws

theorem kept_setPair {base : State} {n : Nat} {s : State} (h : Kept base s) :
    Kept base (setPair n s) := by
  unfold setPair
  try dsimp only
  with_reducible
    repeat' first
      | assumption | apply kept_fset

theorem kept_execShadowState {base : State} {sh : Shadow} {ok : Bool} {s : State} (h : Kept base s) :
    KeptOut base (execShadowState sh ok s) := by
  unfold execShadowState
  try dsimp only
  with_reducible
    repeat' first
      | assumption | apply kept_fault | apply kept_fsetb | apply kept_faultPast | apply kept_setPair | apply kept_send | apply kept_ite
      | simp only [kept_mk] | apply keptD_of | rfl | apply keptOut_next | split

theorem kept_execPartnerAck {base : State} {strip : Option (Fin 96 × Nat)} {shadow : Bool} {s : State} (h : Kept base s) :
    KeptOut base (execPartnerAck strip shadow s) := by
  unfold execPartnerAck
  try dsimp only
  with_reducible
    repeat' first
      | assumption | intro _ | apply kept_stripOut | apply kept_ite | simp only [kept_mk] | apply keptD_of | rfl | apply keptOut_next | split

theorem kept_loadOut {base : State} {x : ShOut} {s : State} (h : Kept base s) :
    Kept base (loadOut x s) := by
  unfold loadOut
  try dsimp only
  with_reducible
    repeat' first
      | assumption | apply kept_fset | apply kept_setGate | apply kept_nextReg | apply kept_setOut | simp only [kept_mk] | apply keptD_of | rfl

theorem kept_loadSolver {base : State} {x : SolverSt} {s : State} (h : Kept base s) :
    Kept base (loadSolver x s) := by
  unfold loadSolver
  try dsimp only
  with_reducible
    repeat' first
      | assumption | intro _ | apply kept_forEach | apply kept_keepRecord | apply kept_fsetb | simp only [kept_mk] | apply keptD_of | rfl

theorem kept_loadTime {base : State} {x : TimeSt} {s : State} (h : Kept base s) :
    Kept base (loadTime x s) := by
  unfold loadTime
  try dsimp only
  with_reducible
    repeat' first
      | assumption | apply kept_fsetb | apply kept_setTt | apply kept_rset64 | simp only [kept_mk] | apply keptD_of | rfl

theorem kept_loadCurb {base : State} {k : Nat} {s : State} (h : Kept base s) :
    Kept base (loadCurb k s) := by
  unfold loadCurb
  try dsimp only
  with_reducible
    repeat' first
      | assumption | intro _ | apply kept_fsetb | apply kept_fset | simp only [kept_mk] | apply keptD_of | rfl | split

theorem kept_loadShadow {base : State} {sh : Shadow} {s : State} (h : Kept base s) :
    Kept base (loadShadow sh s) := by
  unfold loadShadow
  try dsimp only
  repeat' first
  | exact Eq.refl _
  | with_reducible
    first
      | assumption | intro _ | apply kept_forEach | apply kept_rset | apply kept_setLoop | apply kept_loadOut | apply kept_forN
      | apply kept_loadCurb | apply kept_setCan | apply kept_fset | apply kept_loadSolver | apply kept_loadTime | apply kept_setSess
      | simp only [kept_mk] | apply keptD_of | rfl | split

theorem kept_takeoverFault {base : State} {s : State} (h : Kept base s) :
    Kept base (takeoverFault s) := by
  unfold takeoverFault
  try dsimp only
  with_reducible
    repeat' first
      | assumption | intro _ | apply kept_staged | apply kept_forEach | apply kept_nextReg | apply kept_cutMarks | apply kept_squash
      | apply kept_setPair | apply kept_fsetb | apply kept_forN | apply kept_setLState | apply kept_gapEnd | apply kept_gapAdd
      | apply kept_rolesSync | apply kept_toTeam | simp only [kept_mk] | apply keptD_of | rfl

theorem kept_partnerLost {base : State} {s : State} (h : Kept base s) :
    Kept base (partnerLost s) := by
  unfold partnerLost
  try dsimp only
  with_reducible
    repeat' first
      | assumption | apply kept_fsetb | apply kept_setPair | apply kept_takeoverFault | apply kept_partnerAlone | apply kept_ite
      | simp only [kept_mk] | apply keptD_of | rfl | split

theorem kept_execPartnerLost {base : State} {s : State} (h : Kept base s) :
    KeptOut base (execPartnerLost s) := by
  unfold execPartnerLost
  try dsimp only
  with_reducible
    repeat' first
      | assumption | apply kept_partnerLost | apply kept_ite | simp only [kept_mk] | apply keptD_of | rfl | apply keptOut_next | split

theorem kept_takeOver {base : State} {T : Nat} {s : State} (h : Kept base s) :
    Kept base (takeOver T s) := by
  unfold takeOver
  try dsimp only
  with_reducible
    repeat' first
      | assumption | intro _ | apply kept_loadShadow | apply kept_staged | apply kept_queueCatchUp | apply kept_setPair | apply kept_rset64
      | apply kept_fincSat | apply kept_trcStop | apply kept_injEnd | apply kept_askAgain | apply kept_setTeamState | apply kept_setLeader
      | apply kept_toTeam | apply kept_raise | apply kept_rolesSync | apply kept_newTables | apply kept_ite | simp only [kept_mk] | apply keptD_of
      | rfl | split

theorem kept_execTakeoverComplete {base : State} {s : State} (h : Kept base s) :
    KeptOut base (execTakeoverComplete s) := by
  unfold execTakeoverComplete
  try dsimp only
  with_reducible
    repeat' first
      | assumption | apply kept_takeOver | apply kept_ite | apply keptOut_next | split

theorem kept_yieldPosition {base : State} {s : State} (h : Kept base s) :
    Kept base (yieldPosition s) := by
  unfold yieldPosition
  try dsimp only
  with_reducible
    repeat' first
      | assumption | intro _ | apply kept_trcStop | apply kept_injEnd | apply kept_forN | apply kept_setLState | apply kept_engineStop
      | apply kept_forEach | apply kept_gapEnd | apply kept_gapAdd | apply kept_resolvedPair | apply kept_staged | apply kept_setPair
      | apply kept_raise | apply kept_rolesSync | simp only [kept_mk] | apply keptD_of | rfl

theorem kept_execDriveClaim {base : State} {m : Fin 64} {_T : Nat} {s : State} (h : Kept base s) :
    KeptOut base (execDriveClaim m _T s) := by
  unfold execDriveClaim
  try dsimp only
  with_reducible
    repeat' first
      | assumption | apply kept_setLeader | apply kept_askAgain | apply kept_setTeamState | apply kept_newTables | apply kept_yieldPosition
      | apply kept_ite | simp only [kept_mk] | apply keptD_of | rfl | apply keptOut_next | split

theorem kept_execPositionSafe {base : State} {pos : Fin 32} {s : State} (h : Kept base s) :
    KeptOut base (execPositionSafe pos s) := by
  unfold execPositionSafe
  try dsimp only
  with_reducible
    repeat' first
      | assumption | intro _ | apply kept_setMembers | apply kept_newTables | apply kept_rolesMove | apply kept_ite | simp only [kept_mk]
      | apply keptD_of | rfl | apply keptOut_next | split

theorem kept_execPartnerAbsentReport {base : State} {s : State} (h : Kept base s) :
    KeptOut base (execPartnerAbsentReport s) := by
  unfold execPartnerAbsentReport
  try dsimp only
  with_reducible
    repeat' first
      | assumption | apply kept_partnerAlone | apply keptOut_next

theorem kept_execPairUnresolved {base : State} {s : State} (h : Kept base s) :
    KeptOut base (execPairUnresolved s) := by
  unfold execPairUnresolved
  try dsimp only
  with_reducible
    repeat' first
      | assumption | apply kept_fault | apply kept_fsetb | apply kept_ite | simp only [kept_mk] | apply keptD_of | rfl | apply keptOut_next
      | split

theorem kept_execPlHeartbeatSend {base : State} {s : State} (h : Kept base s) :
    KeptOut base (execPlHeartbeatSend s) := by
  unfold execPlHeartbeatSend
  try dsimp only
  with_reducible
    repeat' first
      | assumption | apply kept_send | apply kept_ite | simp only [kept_mk] | apply keptD_of | rfl | apply keptOut_next | split

theorem kept_splitEnd {base : State} {driving : Bool} {s : State} (h : Kept base s) :
    Kept base (splitEnd driving s) := by
  unfold splitEnd
  try dsimp only
  with_reducible
    repeat' first
      | assumption | apply kept_yieldPosition | apply kept_resolvedPair | apply kept_ite | simp only [kept_mk] | apply keptD_of | rfl | split

theorem kept_execPlHeartbeat {base : State} {cnt : Fin 16} {driving healthy : Bool} {handover : Option Nat} {s : State} (h : Kept base s) :
    KeptOut base (execPlHeartbeat cnt driving healthy handover s) := by
  unfold execPlHeartbeat
  try dsimp only
  with_reducible
    repeat' first
      | assumption | apply kept_faddSat | apply kept_fsetb | apply kept_takeoverFault | apply kept_partnerLost | apply kept_splitEnd
      | apply kept_setPair | apply kept_ite | simp only [kept_mk] | apply keptD_of | rfl | apply keptOut_next | split

theorem kept_execHandover {base : State} {who : Fin 36} {s : State} (h : Kept base s) :
    KeptOut base (execHandover who s) := by
  unfold execHandover
  try dsimp only
  with_reducible
    repeat' first
      | assumption | intro _ | apply kept_rapDo | apply kept_ite | simp only [kept_mk] | apply keptD_of | rfl | apply keptOut_next | split

theorem kept_handOff {base : State} {s : State} (h : Kept base s) :
    Kept base (handOff s) := by
  unfold handOff
  try dsimp only
  with_reducible
    repeat' first
      | assumption | intro _ | apply kept_forEach | apply kept_nextReg | apply kept_setOut | apply kept_setGate | apply kept_forN
      | apply kept_setLState | apply kept_fsetb | apply kept_trcStop | apply kept_injEnd | apply kept_setPair | simp only [kept_mk]
      | apply keptD_of | rfl

theorem kept_execHandoverApply {base : State} {s : State} (h : Kept base s) :
    KeptOut base (execHandoverApply s) := by
  unfold execHandoverApply
  try dsimp only
  with_reducible
    repeat' first
      | assumption | intro _ | apply kept_rolesSync | apply kept_staged | apply kept_handOff | apply kept_takeOver | apply kept_ite
      | simp only [kept_mk] | apply keptD_of | rfl | apply keptOut_next | split

end Sys2Proof.Laws
end

