-- ==== Sys2Proof/Laws/KeptIsland.lean ====
section
/-!
SUPPORT. Laws/KeptIsland.lean: each operation of Machine/Island.lean keeps what Laws/Kept.lean lists.
-/

set_option linter.unusedVariables false
set_option linter.unusedTactic false
set_option linter.unreachableTactic false

open Sys2Proof Sys2Proof.Machine

namespace Sys2Proof.Laws

theorem kept_setSi {base : State} {x : Nat} {i : SafIn} {s : State} (h : Kept base s) :
    Kept base (setSi x i s) := by
  unfold setSi
  try dsimp only
  with_reducible
    repeat' first
      | assumption | simp only [kept_mk] | apply keptD_of | rfl

theorem kept_setConn {base : State} {n : Nat} {c : SafConn} {s : State} (h : Kept base s) :
    Kept base (setConn n c s) := by
  unfold setConn
  try dsimp only
  with_reducible
    repeat' first
      | assumption | simp only [kept_mk] | apply keptD_of | rfl

theorem kept_siSync {base : State} {x : Nat} {s : State} (h : Kept base s) :
    Kept base (siSync x s) := by
  unfold siSync
  try dsimp only
  with_reducible
    repeat' first
      | assumption | intro _ | apply kept_fsetb | apply kept_fincSat | apply kept_fset | apply kept_foldl | apply kept_foldl2 | apply kept_foldl1
      | apply kept_ite | split

theorem kept_soClose {base : State} {x : Nat} {s : State} (h : Kept base s) :
    Kept base (soClose x s) := by
  unfold soClose
  try dsimp only
  with_reducible
    repeat' first
      | assumption | apply kept_fsetb | apply kept_soShow | apply kept_setSo | simp only [kept_mk] | apply keptD_of | rfl

theorem kept_outFault {base : State} {x : Nat} {e : Ev} {s : State} (h : Kept base s) :
    Kept base (outFault x e s) := by
  unfold outFault
  try dsimp only
  with_reducible
    repeat' first
      | assumption | apply kept_fault | apply kept_soOpen | apply kept_fsetb | apply kept_ite | split

theorem kept_connEnter {base : State} {n st : Nat} {s : State} (h : Kept base s) :
    Kept base (connEnter n st s) := by
  unfold connEnter
  try dsimp only
  with_reducible
    repeat' first
      | assumption | apply kept_raise | apply kept_setConn | apply kept_fset | apply kept_faultOver | apply kept_ite | simp only [kept_mk]
      | apply keptD_of | rfl | split

theorem kept_siUnfault {base : State} {x : Nat} {f : Fld} {e : Ev} {s : State} (h : Kept base s) :
    Kept base (siUnfault x f e s) := by
  unfold siUnfault
  try dsimp only
  with_reducible
    repeat' first
      | assumption | apply kept_faultEnd | apply kept_fsetb | apply kept_ite | split

theorem kept_siNew {base : State} {x : Nat} {s : State} (h : Kept base s) :
    Kept base (siNew x s) := by
  unfold siNew
  try dsimp only
  with_reducible
    repeat' first
      | assumption | apply kept_siUnfault

theorem kept_islandStart {base : State} {edge : Bool} {s : State} (h : Kept base s) :
    Kept base (islandStart edge s) := by
  unfold islandStart
  try dsimp only
  with_reducible
    repeat' first
      | assumption | intro _ | apply kept_start | apply kept_forN | apply kept_siNew | apply kept_rset | apply kept_setSo | apply kept_setConn
      | apply kept_connEnter | apply kept_fset | simp only [kept_mk] | apply keptD_of | rfl

theorem kept_islandReset {base : State} {cause : Nat} {s : State} (h : Kept base s) :
    Kept base (islandReset cause s) := by
  unfold islandReset
  try dsimp only
  with_reducible
    repeat' first
      | assumption | intro _ | apply kept_forN | apply kept_soOpen | apply kept_fincSat | apply kept_fsetb | apply kept_fault
      | apply kept_islandStart | apply kept_ite | simp only [kept_mk] | apply keptD_of | rfl | split

theorem kept_mirrorLoad {base : State} {m : Option Safmir} {s : State} (h : Kept base s) :
    Kept base (mirrorLoad m s) := by
  unfold mirrorLoad
  try dsimp only
  with_reducible
    repeat' first
      | assumption | intro _ | apply kept_fsetb | apply kept_forN | apply kept_rset | apply kept_setConn | apply kept_connEnter
      | apply kept_forEach | apply kept_ite | simp only [kept_mk] | apply keptD_of | rfl | split

theorem kept_islandCheck {base : State} {no nc : BitVec 16} {bad : Bool} {s : State} (h : Kept base s) :
    Kept base (islandCheck no nc bad s) := by
  unfold islandCheck
  try dsimp only
  with_reducible
    repeat' first
      | assumption | apply kept_fset | apply kept_recRaise | apply kept_fsetb | apply kept_islandReset | apply kept_ite | split

theorem kept_soEval {base : State} {rbH rbL short : BitVec 4} {x : Nat} {s : State} (h : Kept base s) :
    Kept base (soEval rbH rbL short x s) := by
  unfold soEval
  try dsimp only
  with_reducible
    repeat' first
      | assumption | apply kept_fsetb | apply kept_setSo | apply kept_outFault | apply kept_soOpen | apply kept_ite | simp only [kept_mk]
      | apply keptD_of | rfl | split

theorem kept_safTick {base : State} {s : State} (h : Kept base s) :
    Kept base (safTick s) := by
  unfold safTick
  try dsimp only
  with_reducible
    repeat' first
      | assumption | simp only [kept_mk] | apply keptD_of | rfl

theorem kept_execSafetyEvaluation {base : State} {no nc : BitVec 16} {rbH rbL short : BitVec 4} {srst selfBad : Bool} {mv temp : Int} {s : State} (h : Kept base s) :
    KeptOut base (execSafetyEvaluation no nc rbH rbL short srst selfBad mv temp s) := by
  unfold execSafetyEvaluation
  try dsimp only
  with_reducible
    repeat' first
      | assumption | intro _ | apply kept_staged | apply kept_safTick | apply kept_raise | apply kept_fsetb | apply kept_forN | apply kept_soEval
      | apply kept_islandCheck | apply kept_ite | simp only [kept_mk] | apply keptD_of | rfl | apply keptOut_next | split

theorem kept_execIslandHeartbeatLoss {base : State} {s : State} (h : Kept base s) :
    KeptOut base (execIslandHeartbeatLoss s) := by
  unfold execIslandHeartbeatLoss
  try dsimp only
  with_reducible
    repeat' first
      | assumption | intro _ | apply kept_staged | apply kept_islandReset | apply kept_ite | apply keptOut_next | split

theorem kept_siFaulted {base : State} {x : Nat} {f : Fld} {e : Ev} {s : State} (h : Kept base s) :
    Kept base (siFaulted x f e s) := by
  unfold siFaulted
  try dsimp only
  with_reducible
    repeat' first
      | assumption | apply kept_setSi | apply kept_fsetb | apply kept_fault | apply kept_siSync | apply kept_ite | simp only [kept_mk]
      | apply keptD_of | rfl | split

theorem kept_siClear {base : State} {x : Nat} {s : State} (h : Kept base s) :
    Kept base (siClear x s) := by
  unfold siClear
  try dsimp only
  with_reducible
    repeat' first
      | assumption | apply kept_siUnfault | apply kept_siSync | apply kept_ite | split

theorem kept_drvClear {base : State} {s : State} (h : Kept base s) :
    Kept base (drvClear s) := by
  unfold drvClear
  try dsimp only
  with_reducible
    repeat' first
      | assumption | intro _ | apply kept_forN | apply kept_siSync | apply kept_siUnfault | apply kept_ite | simp only [kept_mk] | apply keptD_of
      | rfl | split

theorem kept_chAccept {base : State} {x : Nat} {b high : Bool} {s : State} (h : Kept base s) :
    Kept base (chAccept x b high s) := by
  unfold chAccept
  try dsimp only
  with_reducible
    repeat' first
      | assumption | apply kept_setSi | apply kept_fsetb | apply kept_siSync | apply kept_drvClear | apply kept_siClear | apply kept_siFaulted
      | apply kept_ite | simp only [kept_mk] | apply keptD_of | rfl | split

theorem kept_srstAccept {base : State} {active : Bool} {s : State} (h : Kept base s) :
    Kept base (srstAccept active s) := by
  unfold srstAccept
  try dsimp only
  with_reducible
    repeat' first
      | assumption | apply kept_fsetb | apply kept_ite | simp only [kept_mk] | apply keptD_of | rfl | split

theorem kept_execSiChannelAccepted {base : State} {ch : Fin 9} {high : Bool} {s : State} (h : Kept base s) :
    KeptOut base (execSiChannelAccepted ch high s) := by
  unfold execSiChannelAccepted
  try dsimp only
  with_reducible
    repeat' first
      | assumption | apply kept_srstAccept | apply kept_chAccept | apply kept_ite | apply keptOut_next | split

theorem kept_execDiscrepancy {base : State} {x : Fin 4} {s : State} (h : Kept base s) :
    KeptOut base (execDiscrepancy x s) := by
  unfold execDiscrepancy
  try dsimp only
  with_reducible
    repeat' first
      | assumption | apply kept_siFaulted | apply kept_ite | simp only [kept_mk] | apply keptD_of | rfl | apply keptOut_next | split

theorem kept_pulseInput {base : State} {b : Bool} {own cross : BitVec 4} {x : Nat} {s : State} (h : Kept base s) :
    Kept base (pulseInput b own cross x s) := by
  unfold pulseInput
  try dsimp only
  with_reducible
    repeat' first
      | assumption | apply kept_setSi | apply kept_siFaulted | apply kept_siClear | apply kept_ite | simp only [kept_mk] | apply keptD_of | rfl
      | split

theorem kept_pulseSeen {base : State} {b : Bool} {s : State} (h : Kept base s) :
    Kept base (pulseSeen b s) := by
  unfold pulseSeen
  try dsimp only
  with_reducible
    repeat' first
      | assumption | apply kept_ite | simp only [kept_mk] | apply keptD_of | rfl | split

theorem kept_execTestPulse {base : State} {b stuck : Bool} {own cross : BitVec 4} {s : State} (h : Kept base s) :
    KeptOut base (execTestPulse b stuck own cross s) := by
  unfold execTestPulse
  try dsimp only
  with_reducible
    repeat' first
      | assumption | intro _ | apply kept_forN | apply kept_pulseInput | apply kept_own | apply kept_pulseSeen | apply kept_siFaulted
      | apply kept_drvClear | apply kept_ite | simp only [kept_mk] | apply keptD_of | rfl | apply keptOut_next | split

theorem kept_execSoOffPulseTest {base : State} {x : Fin 4} {low ok : Bool} {s : State} (h : Kept base s) :
    KeptOut base (execSoOffPulseTest x low ok s) := by
  unfold execSoOffPulseTest
  try dsimp only
  with_reducible
    repeat' first
      | assumption | intro _ | apply kept_fincWrap | apply kept_setSo | apply kept_staged | apply kept_outFault | apply kept_ite
      | simp only [kept_mk] | apply keptD_of | rfl | apply keptOut_next | split

theorem kept_execSoPrecloseTest {base : State} {x : Fin 4} {ok : Bool} {s : State} (h : Kept base s) :
    KeptOut base (execSoPrecloseTest x ok s) := by
  unfold execSoPrecloseTest
  try dsimp only
  with_reducible
    repeat' first
      | assumption | apply kept_setSo | apply kept_outFault | apply kept_ite | simp only [kept_mk] | apply keptD_of | rfl | apply keptOut_next
      | split

theorem kept_execSoStuck {base : State} {x : Fin 4} {s : State} (h : Kept base s) :
    KeptOut base (execSoStuck x s) := by
  unfold execSoStuck
  try dsimp only
  with_reducible
    repeat' first
      | assumption | apply kept_outFault | apply kept_ite | apply keptOut_next | split

theorem kept_execSoOpenFail {base : State} {x : Fin 4} {s : State} (h : Kept base s) :
    KeptOut base (execSoOpenFail x s) := by
  unfold execSoOpenFail
  try dsimp only
  with_reducible
    repeat' first
      | assumption | intro _ | apply kept_staged | apply kept_outFault | apply kept_ite | apply keptOut_next | split

theorem kept_execSrstEdge {base : State} {s : State} (h : Kept base s) :
    KeptOut base (execSrstEdge s) := by
  unfold execSrstEdge
  try dsimp only
  with_reducible
    repeat' first
      | assumption | intro _ | apply kept_staged | apply kept_forN | apply kept_soClose | apply kept_ite | simp only [kept_mk] | apply keptD_of
      | rfl | apply keptOut_next | split

theorem kept_execSrstStuck {base : State} {s : State} (h : Kept base s) :
    KeptOut base (execSrstStuck s) := by
  unfold execSrstStuck
  try dsimp only
  with_reducible
    repeat' first
      | assumption | apply kept_raise | apply kept_fsetb | apply kept_ite | simp only [kept_mk] | apply keptD_of | rfl | apply keptOut_next
      | split

theorem kept_execSoAutoRestart {base : State} {x : Fin 4} {s : State} (h : Kept base s) :
    KeptOut base (execSoAutoRestart x s) := by
  unfold execSoAutoRestart
  try dsimp only
  with_reducible
    repeat' first
      | assumption | intro _ | apply kept_staged | apply kept_soClose | apply kept_ite | simp only [kept_mk] | apply keptD_of | rfl
      | apply keptOut_next | split

theorem kept_execSafetyPduSend {base : State} {n : Fin 64} {s : State} (h : Kept base s) :
    KeptOut base (execSafetyPduSend n s) := by
  unfold execSafetyPduSend
  try dsimp only
  with_reducible
    repeat' first
      | assumption | apply kept_fset | apply kept_setConn | apply kept_send | apply kept_ite | simp only [kept_mk] | apply keptD_of | rfl
      | apply keptOut_next | split

theorem kept_connBad {base : State} {n : Nat} {f : Fld} {s : State} (h : Kept base s) :
    Kept base (connBad n f s) := by
  unfold connBad
  try dsimp only
  with_reducible
    repeat' first
      | assumption | apply kept_fincSat | apply kept_setConn | apply kept_fault | apply kept_connEnter | apply kept_ite | simp only [kept_mk]
      | apply keptD_of | rfl | simp only [id_eq] | split

theorem kept_connGood {base : State} {n seq sig : Nat} {flt : Bool} {s : State} (h : Kept base s) :
    Kept base (connGood n seq sig flt s) := by
  unfold connGood
  try dsimp only
  with_reducible
    repeat' first
      | assumption | apply kept_fset | apply kept_setConn | apply kept_connEnter | apply kept_ite | simp only [kept_mk] | apply keptD_of | rfl
      | split

theorem kept_pduTake {base : State} {d : ConnDef} {ver : Fin 256} {seq : Fin 65536} {sig stat : BitVec 8} {chk : BitVec 32} {s : State} (h : Kept base s) :
    Kept base (pduTake d ver seq sig stat chk s) := by
  unfold pduTake
  try dsimp only
  with_reducible
    repeat' first
      | assumption | apply kept_connBad | apply kept_raise | apply kept_fset | apply kept_setConn | apply kept_connGood | apply kept_ite
      | simp only [kept_mk] | apply keptD_of | rfl | split

theorem kept_execSafetyPdu {base : State} {ctrl : Option (Fin 4)} {src : Nat} {conn ver : Fin 256} {seq : Fin 65536} {sig stat : BitVec 8} {chk : BitVec 32} {s : State} (h : Kept base s) :
    KeptOut base (execSafetyPdu ctrl src conn ver seq sig stat chk s) := by
  unfold execSafetyPdu
  try dsimp only
  with_reducible
    repeat' first
      | assumption | apply kept_canTake | apply kept_pduTake | apply kept_ite | simp only [kept_mk] | apply keptD_of | rfl | apply keptOut_next
      | split

theorem kept_execConnTimeout {base : State} {n : Fin 64} {s : State} (h : Kept base s) :
    KeptOut base (execConnTimeout n s) := by
  unfold execConnTimeout
  try dsimp only
  with_reducible
    repeat' first
      | assumption | apply kept_fault | apply kept_connEnter | apply kept_ite | simp only [kept_mk] | apply keptD_of | rfl | apply keptOut_next
      | split

end Sys2Proof.Laws
end

