-- ==== Sys2Proof/Laws/KeptBridle.lean ====
section
/-!
SUPPORT. Laws/KeptBridle.lean: each operation of Machine/Bridle.lean keeps what Laws/Kept.lean lists.
-/

set_option linter.unusedVariables false
set_option linter.unusedTactic false
set_option linter.unreachableTactic false

open Sys2Proof Sys2Proof.Machine

namespace Sys2Proof.Laws

theorem kept_livSync {base : State} {s : State} (h : Kept base s) :
    Kept base (livSync s) := by
  unfold livSync
  try dsimp only
  with_reducible
    repeat' first
      | assumption | intro _ | apply kept_forN | apply kept_rset | apply kept_fsetb | apply kept_fault | apply kept_faultEnd | apply kept_ite
      | simp only [kept_mk] | apply keptD_of | rfl | split

theorem kept_setLiv {base : State} {n : Nat} {l : Livery} {s : State} (h : Kept base s) :
    Kept base (setLiv n l s) := by
  unfold setLiv
  try dsimp only
  with_reducible
    repeat' first
      | assumption | simp only [kept_mk] | apply keptD_of | rfl

theorem kept_newLmk {base : State} {s : State} (h : Kept base s) :
    Kept base (newLmk s).2 := by
  unfold newLmk
  try dsimp only
  with_reducible
    repeat' first
      | assumption | apply kept_freeNext

theorem kept_brdResult {base : State} {cmd res : Nat} {s : State} (h : Kept base s) :
    Kept base (brdResult cmd res s) := by
  unfold brdResult
  try dsimp only
  with_reducible
    repeat' first
      | assumption | apply kept_fset

theorem kept_brdDo {base : State} {who cmd : Nat} {roles : List Role} {f : State → Nat × State} {s : State} (hf : ∀ t, Kept base t → Kept base (f t).2) (h : Kept base s) :
    Kept base (brdDo who cmd roles f s) := by
  unfold brdDo
  try dsimp only
  with_reducible
    repeat' first
      | assumption | intro _ | apply hf | apply kept_rapDo | apply kept_brdResult | apply kept_ite | simp only [kept_mk] | apply keptD_of | rfl
      | split

theorem kept_wrapLmk {base : State} {n : Nat} {l : Livery} {s : State} (h : Kept base s) :
    Kept base (wrapLmk n l s) := by
  unfold wrapLmk
  try dsimp only
  with_reducible
    repeat' first
      | assumption | intro _ | apply kept_forEach | apply kept_send

theorem kept_execEnrollOwner {base : State} {who : Fin 36} {s : State} (h : Kept base s) :
    KeptOut base (execEnrollOwner who s) := by
  unfold execEnrollOwner
  try dsimp only
  with_reducible
    repeat' first
      | assumption | intro _ | apply kept_brdDo | apply kept_newLmk | apply kept_wrapLmk | apply kept_setLiv | apply kept_livSync
      | apply kept_fset | apply kept_ite | simp only [kept_mk] | apply keptD_of | rfl | apply keptOut_next | split

theorem kept_execBindLivery {base : State} {who : Fin 36} {s : State} (h : Kept base s) :
    KeptOut base (execBindLivery who s) := by
  unfold execBindLivery
  try dsimp only
  with_reducible
    repeat' first
      | assumption | intro _ | apply kept_brdDo | apply kept_newLmk | apply kept_livSync | apply kept_fset | apply kept_wrapLmk
      | apply kept_setLiv | apply kept_catchUpFor | apply kept_ite | simp only [kept_mk] | apply keptD_of | rfl | apply keptOut_next | split

theorem kept_execSelectLivery {base : State} {who : Fin 36} {s : State} (h : Kept base s) :
    KeptOut base (execSelectLivery who s) := by
  unfold execSelectLivery
  try dsimp only
  with_reducible
    repeat' first
      | assumption | intro _ | apply kept_brdDo | apply kept_livSync | apply kept_fset | apply kept_ite | simp only [kept_mk] | apply keptD_of
      | rfl | apply keptOut_next | split

theorem kept_execInstallLease {base : State} {who : Fin 36} {s : State} (h : Kept base s) :
    KeptOut base (execInstallLease who s) := by
  unfold execInstallLease
  try dsimp only
  with_reducible
    repeat' first
      | assumption | intro _ | apply kept_brdDo | apply kept_setLease | apply kept_rset | apply kept_ite | simp only [kept_mk] | apply keptD_of
      | rfl | apply keptOut_next | split

theorem kept_execRevokeLease {base : State} {who : Fin 36} {s : State} (h : Kept base s) :
    KeptOut base (execRevokeLease who s) := by
  unfold execRevokeLease
  try dsimp only
  with_reducible
    repeat' first
      | assumption | intro _ | apply kept_brdDo | apply kept_leaseEnd | apply kept_ite | simp only [kept_mk] | apply keptD_of | rfl
      | apply keptOut_next | simp only [id_eq] | split

theorem kept_execCloseLease {base : State} {who : Fin 36} {s : State} (h : Kept base s) :
    KeptOut base (execCloseLease who s) := by
  unfold execCloseLease
  try dsimp only
  with_reducible
    repeat' first
      | assumption | intro _ | apply kept_brdDo | apply kept_leaseEnd | simp only [kept_mk] | apply keptD_of | rfl | apply keptOut_next
      | simp only [id_eq] | split

theorem kept_execLeaseExpiry {base : State} {m : Fin 8} {s : State} (h : Kept base s) :
    KeptOut base (execLeaseExpiry m s) := by
  unfold execLeaseExpiry
  try dsimp only
  with_reducible
    repeat' first
      | assumption | apply kept_leaseEnd | apply kept_ite | simp only [kept_mk] | apply keptD_of | rfl | apply keptOut_next | split

theorem kept_execLeaseFrom {base : State} {m : Fin 8} {s : State} (h : Kept base s) :
    KeptOut base (execLeaseFrom m s) := by
  unfold execLeaseFrom
  try dsimp only
  with_reducible
    repeat' first
      | assumption | intro _ | apply kept_leaseActive | apply kept_ite | apply keptOut_next | split

theorem kept_revokeAll {base : State} {liv : Nat} {s : State} (h : Kept base s) :
    Kept base (revokeAll liv s) := by
  unfold revokeAll
  try dsimp only
  with_reducible
    repeat' first
      | assumption | intro _ | apply kept_forN | apply kept_leaseEnd | apply kept_ite | simp only [kept_mk] | apply keptD_of | rfl | split

theorem kept_transferDo {base : State} {liv : Nat} {keep : Bool} {newRoot : Nat} {s : State} (h : Kept base s) :
    Kept base (transferDo liv keep newRoot s) := by
  unfold transferDo
  try dsimp only
  with_reducible
    repeat' first
      | assumption | apply kept_revokeAll | apply kept_setLiv | apply kept_fset | apply kept_livSync | apply kept_raise | apply kept_ite
      | simp only [kept_mk] | apply keptD_of | rfl | split

theorem kept_transferName {base : State} {liv : Nat} {keep : Bool} {newRoot : Nat} {s : State} (h : Kept base s) :
    Kept base (transferName liv keep newRoot s) := by
  unfold transferName
  try dsimp only
  with_reducible
    repeat' first
      | assumption | apply kept_toTeam | simp only [kept_mk] | apply keptD_of | rfl

theorem kept_execTransfer {base : State} {who : Fin 36} {s : State} (h : Kept base s) :
    KeptOut base (execTransfer who s) := by
  unfold execTransfer
  try dsimp only
  with_reducible
    repeat' first
      | assumption | intro _ | apply kept_brdDo | apply kept_transferName | apply kept_ite | simp only [kept_mk] | apply keptD_of | rfl
      | apply keptOut_next | split

theorem kept_execTransferApply {base : State} {s : State} (h : Kept base s) :
    KeptOut base (execTransferApply s) := by
  unfold execTransferApply
  try dsimp only
  with_reducible
    repeat' first
      | assumption | intro _ | apply kept_transferDo | apply kept_forN | apply kept_ite | simp only [kept_mk] | apply keptD_of | rfl
      | apply keptOut_next | split

theorem kept_execReclaim {base : State} {who : Fin 36} {s : State} (h : Kept base s) :
    KeptOut base (execReclaim who s) := by
  unfold execReclaim
  try dsimp only
  with_reducible
    repeat' first
      | assumption | intro _ | apply kept_brdDo | apply kept_transferName | apply kept_ite | simp only [kept_mk] | apply keptD_of | rfl
      | apply keptOut_next | split

theorem kept_newChal {base : State} {s : State} (h : Kept base s) :
    Kept base (newChal s) := by
  unfold newChal
  try dsimp only
  with_reducible
    repeat' first
      | assumption | apply kept_rset | apply kept_freeNext | simp only [kept_mk] | apply keptD_of | rfl

theorem kept_unlockDo {base : State} {who : Nat} {s : State} (h : Kept base s) :
    Kept base (unlockDo who s) := by
  unfold unlockDo
  try dsimp only
  with_reducible
    repeat' first
      | assumption | intro _ | apply kept_fset | apply kept_fincSat | apply kept_raise | apply kept_livSync | apply kept_newChal
      | apply kept_rolesSync | apply kept_setTeamState | apply kept_setMembers | apply kept_ite | simp only [kept_mk] | apply keptD_of | rfl
      | split

theorem kept_execUnlock {base : State} {who : Fin 36} {s : State} (h : Kept base s) :
    KeptOut base (execUnlock who s) := by
  unfold execUnlock
  try dsimp only
  with_reducible
    repeat' first
      | assumption | intro _ | apply kept_brdDo | apply kept_unlockDo | apply kept_ite | simp only [kept_mk] | apply keptD_of | rfl
      | apply keptOut_next | split

theorem kept_execRelock {base : State} {who : Fin 36} {s : State} (h : Kept base s) :
    KeptOut base (execRelock who s) := by
  unfold execRelock
  try dsimp only
  with_reducible
    repeat' first
      | assumption | intro _ | apply kept_brdDo | apply kept_fset | apply kept_ite | apply keptOut_next | split

theorem kept_execUnlockExpiry {base : State} {s : State} (h : Kept base s) :
    KeptOut base (execUnlockExpiry s) := by
  unfold execUnlockExpiry
  try dsimp only
  with_reducible
    repeat' first
      | assumption | apply kept_fset | apply kept_ite | simp only [kept_mk] | apply keptD_of | rfl | apply keptOut_next | split

theorem kept_execTskRotation {base : State} {s : State} (h : Kept base s) :
    KeptOut base (execTskRotation s) := by
  unfold execTskRotation
  try dsimp only
  with_reducible
    repeat' first
      | assumption | apply kept_toTeam | apply kept_tskNew | apply kept_ite | apply keptOut_next | split

theorem kept_execBrdChalRead {base : State} {who : Fin 36} {s : State} (h : Kept base s) :
    KeptOut base (execBrdChalRead who s) := by
  unfold execBrdChalRead
  try dsimp only
  with_reducible
    repeat' first
      | assumption | apply kept_rapAnswer | apply kept_newChal | apply kept_ite | simp only [kept_mk] | apply keptD_of | rfl | apply keptOut_next
      | split

end Sys2Proof.Laws
end

