-- ==== Sys2Proof/Laws/KeptReset.lean ====
section
/-!
SUPPORT. Laws/KeptReset.lean: each operation of Machine/Reset.lean keeps what Laws/Kept.lean lists.
-/

set_option linter.unusedVariables false
set_option linter.unusedTactic false
set_option linter.unreachableTactic false

open Sys2Proof Sys2Proof.Machine

namespace Sys2Proof.Laws

theorem kept_imgWord {base : State} {x : Nat × Word} {s : State} (h : Kept base s) :
    Kept base (imgWord x s) := by
  unfold imgWord
  try dsimp only
  with_reducible
    repeat' first
      | assumption | apply kept_rset

theorem kept_imgWords {base : State} {p : Nat → Bool} {s : State} (h : Kept base s) :
    Kept base (imgWords p s) := by
  unfold imgWords
  try dsimp only
  with_reducible
    repeat' first
      | assumption | intro _ | apply kept_forEach | apply kept_imgWord

theorem kept_blkReset {base : State} {d : Nat} {s : State} (h : Kept base s) :
    Kept base (blkReset d s) := by
  unfold blkReset
  try dsimp only
  with_reducible
    repeat' first
      | assumption | intro _ | apply kept_imgWords | apply kept_rclear

theorem kept_teamClear {base : State} {links : Bool} {s : State} (h : Kept base s) :
    Kept base (teamClear links s) := by
  unfold teamClear
  try dsimp only
  with_reducible
    repeat' first
      | assumption | apply kept_setMembers | apply kept_setLeader | apply kept_setTeamState | apply kept_fsetb | apply kept_fset
      | apply kept_rolesSync | apply kept_ite | simp only [kept_mk] | apply keptD_of | rfl | split

theorem kept_navRoles {base : State} {s : State} (h : Kept base s) :
    Kept base (navRoles s) := by
  unfold navRoles
  try dsimp only
  with_reducible
    repeat' first
      | assumption | intro _ | apply kept_rolesSync | apply kept_rolesMove | apply kept_ite | simp only [kept_mk] | apply keptD_of | rfl | split

theorem kept_navOff {base : State} {s : State} (h : Kept base s) :
    Kept base (navOff s) := by
  unfold navOff
  try dsimp only
  with_reducible
    repeat' first
      | assumption | apply kept_navRoles | apply kept_domSet | apply kept_blkReset | apply kept_fsetb | simp only [kept_mk] | apply keptD_of | rfl

theorem kept_gnssOff {base : State} {s : State} (h : Kept base s) :
    Kept base (gnssOff s) := by
  unfold gnssOff
  try dsimp only
  with_reducible
    repeat' first
      | assumption | apply kept_domSet | apply kept_blkReset | apply kept_fsetb | simp only [kept_mk] | apply keptD_of | rfl

theorem kept_linkOff {base : State} {s : State} (h : Kept base s) :
    Kept base (linkOff s) := by
  unfold linkOff
  try dsimp only
  with_reducible
    repeat' first
      | assumption | apply kept_blkReset | apply kept_domSet | apply kept_teamClear | apply kept_fset

theorem kept_busOff {base : State} {s : State} (h : Kept base s) :
    Kept base (busOff s) := by
  unfold busOff
  try dsimp only
  with_reducible
    repeat' first
      | assumption | intro _ | apply kept_sessCloseAll | apply kept_blkReset | apply kept_domSet | apply kept_forEach | apply kept_setCan
      | apply kept_fsetb | apply kept_fset | simp only [kept_mk] | apply keptD_of | rfl

theorem kept_memOff {base : State} {s : State} (h : Kept base s) :
    Kept base (memOff s) := by
  unfold memOff
  try dsimp only
  with_reducible
    repeat' first
      | assumption | apply kept_blkReset | apply kept_jobNone | apply kept_domSet

theorem kept_chanOff {base : State} {n : Nat} {s : State} (h : Kept base s) :
    Kept base (chanOff n s) := by
  unfold chanOff
  try dsimp only
  with_reducible
    repeat' first
      | assumption | intro _ | apply kept_setLch | apply kept_fsetb | apply kept_rset | simp only [kept_mk] | apply keptD_of | rfl

theorem kept_driverOff {base : State} {s : State} (h : Kept base s) :
    Kept base (driverOff s) := by
  unfold driverOff
  try dsimp only
  with_reducible
    repeat' first
      | assumption | intro _ | apply kept_staged | apply kept_forceRelease | apply kept_wdStart | apply kept_domSet | apply kept_forEach
      | apply kept_gapEnd | apply kept_gapAdd | apply kept_setOut | apply kept_halterCheck | apply kept_forN | apply kept_chanOff
      | apply kept_blkReset | simp only [kept_mk] | apply keptD_of | rfl

theorem kept_senseOff {base : State} {s : State} (h : Kept base s) :
    Kept base (senseOff s) := by
  unfold senseOff
  try dsimp only
  with_reducible
    repeat' first
      | assumption | apply kept_blkReset | apply kept_domSet | apply kept_fsetb | apply kept_ite | simp only [kept_mk] | apply keptD_of | rfl
      | split

theorem kept_coreClear {base : State} {gaps : List (Nat × Nat)} {s0 : State} (h : Kept base s0) :
    Kept base (coreClear gaps s0) := by
  unfold coreClear
  try dsimp only
  with_reducible
    repeat' first
      | assumption | intro _ | apply kept_jobNone | apply kept_slicesDrop | apply kept_teamClear | apply kept_forEach | apply kept_setOut
      | apply kept_fset | apply kept_blkReset | apply kept_fsetb | apply kept_rset64 | apply kept_sessCount | simp only [kept_mk] | apply keptD_of
      | rfl

theorem kept_coreOff {base : State} {s : State} (h : Kept base s) :
    Kept base (coreOff s) := by
  unfold coreOff
  try dsimp only
  with_reducible
    repeat' first
      | assumption | intro _ | apply kept_staged | apply kept_domSet | apply kept_hold | apply kept_levelLost | apply kept_sessCloseAll
      | apply kept_halterCheck | apply kept_coreClear

theorem kept_domainOff {base : State} {d : Nat} {s : State} (h : Kept base s) :
    Kept base (domainOff d s) := by
  unfold domainOff
  try dsimp only
  with_reducible
    repeat' first
      | assumption | apply kept_coreOff | apply kept_navOff | apply kept_gnssOff | apply kept_linkOff | apply kept_busOff | apply kept_memOff
      | apply kept_domSet | apply kept_driverOff | apply kept_senseOff | simp only [kept_mk] | apply keptD_of | rfl | split

theorem kept_moduleOff {base : State} {s : State} (h : Kept base s) :
    Kept base (moduleOff s) := by
  unfold moduleOff
  try dsimp only
  with_reducible
    repeat' first
      | assumption | intro _ | apply kept_coreOff | apply kept_domainOff | apply kept_domSet | apply kept_foldl | apply kept_foldl2
      | apply kept_foldl1 | apply kept_ite | split

theorem kept_bootWrite {base : State} {preferred : Nat} {trial : Bool} {s : State} (h : Kept base s) :
    Kept base (bootWrite preferred trial s) := by
  unfold bootWrite
  try dsimp only
  with_reducible
    repeat' first
      | assumption | apply kept_fsetb | simp only [kept_mk] | apply keptD_of | rfl

theorem kept_fwSelect {base : State} {s : State} (h : Kept base s) :
    Kept base (fwSelect s) := by
  unfold fwSelect
  try dsimp only
  with_reducible
    repeat' first
      | assumption | intro _ | apply kept_fsetb | apply kept_fset | apply kept_rsetN | apply kept_fault | apply kept_ite | simp only [kept_mk]
      | apply keptD_of | rfl | split

theorem kept_imgChecked {base : State} {c : Container} {code seg : Nat} {s : State} (h : Kept base s) :
    Kept base (imgChecked c code seg s) := by
  unfold imgChecked
  try dsimp only
  with_reducible
    repeat' first
      | assumption | apply kept_fset | apply kept_raise

theorem kept_startCheck {base : State} {o : Option Container} {s : State} (h : Kept base s) :
    Kept base (startCheck o s).1 := by
  unfold startCheck
  try dsimp only
  with_reducible
    repeat' first
      | assumption | apply kept_imgChecked | simp only [kept_mk] | apply keptD_of | rfl | split

theorem kept_showImage {base : State} {c : Container} {s : State} (h : Kept base s) :
    Kept base (showImage c s) := by
  unfold showImage
  try dsimp only
  with_reducible
    repeat' first
      | assumption | intro _ | apply kept_forN | apply kept_rsetN | apply kept_fsetb | apply kept_fset | simp only [kept_mk] | apply keptD_of
      | rfl

theorem kept_install {base : State} {c : Container} {s : State} (h : Kept base s) :
    Kept base (install c s) := by
  unfold install
  try dsimp only
  with_reducible
    repeat' first
      | assumption | intro _ | apply kept_showImage | apply kept_forN | apply kept_segShow | apply kept_imgWords | apply kept_mirrorLoad
      | apply kept_fset | simp only [kept_mk] | apply keptD_of | rfl

theorem kept_imgSelect {base : State} {s : State} (h : Kept base s) :
    Kept base (imgSelect s) := by
  unfold imgSelect
  try dsimp only
  with_reducible
    repeat' first
      | assumption | apply kept_fset | apply kept_fsetb | apply kept_startCheck | apply kept_install | apply kept_fault | simp only [kept_mk]
      | apply keptD_of | rfl | split

theorem kept_norCopies {base : State} {s : State} (h : Kept base s) :
    Kept base (norCopies s) := by
  unfold norCopies
  try dsimp only
  with_reducible
    repeat' first
      | assumption | intro _ | apply kept_mirrorLoad | apply kept_forEach | apply kept_imgWord

theorem kept_pwmStart {base : State} {s : State} (h : Kept base s) :
    Kept base (pwmStart s) := by
  unfold pwmStart
  try dsimp only
  with_reducible
    repeat' first
      | assumption | intro _ | apply kept_forEach | apply kept_setWav | apply kept_fset | simp only [kept_mk] | apply keptD_of | rfl

theorem kept_driverOn {base : State} {s : State} (h : Kept base s) :
    Kept base (driverOn s) := by
  unfold driverOn
  try dsimp only
  with_reducible
    repeat' first
      | assumption | intro _ | apply kept_staged | apply kept_pwmStart | apply kept_domSet | apply kept_forN | apply kept_rsetN
      | apply kept_forEach | apply kept_gapEnd | apply kept_gapAdd | apply kept_tick | apply kept_setOut | apply kept_own
      | apply kept_queueCatchUp | apply kept_foldl | apply kept_foldl2 | apply kept_foldl1 | apply kept_ite | simp only [kept_mk] | apply keptD_of
      | rfl | split

theorem kept_busOn {base : State} {s : State} (h : Kept base s) :
    Kept base (busOn s) := by
  unfold busOn
  try dsimp only
  with_reducible
    repeat' first
      | assumption | intro _ | apply kept_forN | apply kept_canModeSet | apply kept_domSet | apply kept_rolesSync

theorem kept_gnssOn {base : State} {s : State} (h : Kept base s) :
    Kept base (gnssOn s) := by
  unfold gnssOn
  try dsimp only
  with_reducible
    repeat' first
      | assumption | apply kept_fset | apply kept_domSet | apply kept_antShow | apply kept_searchAll | apply kept_showRoles | apply kept_ite
      | simp only [kept_mk] | apply keptD_of | rfl | split

theorem kept_senseOn {base : State} {s : State} (h : Kept base s) :
    Kept base (senseOn s) := by
  unfold senseOn
  try dsimp only
  with_reducible
    repeat' first
      | assumption | intro _ | apply kept_fsetb | apply kept_domSet | apply kept_forN | apply kept_fbiValid | apply kept_supplyFault

theorem kept_domainOn {base : State} {d : Nat} {s : State} (h : Kept base s) :
    Kept base (domainOn d s) := by
  unfold domainOn
  try dsimp only
  with_reducible
    repeat' first
      | assumption | apply kept_gnssOn | apply kept_domSet | apply kept_busOn | apply kept_driverOn | apply kept_senseOn | apply kept_ite
      | simp only [kept_mk] | apply keptD_of | rfl | split

theorem kept_soloTeam {base : State} {s : State} (h : Kept base s) :
    Kept base (soloTeam s) := by
  unfold soloTeam
  try dsimp only
  with_reducible
    repeat' first
      | assumption | apply kept_formTeam | apply kept_refuse | apply kept_ite | split

theorem kept_restoreJob {base : State} {s : State} (h : Kept base s) :
    Kept base (restoreJob s) := by
  unfold restoreJob
  try dsimp only
  with_reducible
    repeat' first
      | assumption | apply kept_setJobErr | apply kept_setJobState | apply kept_jobLoaded | apply kept_ite | simp only [kept_mk] | apply keptD_of
      | rfl | split

theorem kept_powerRecord {base : State} {cause : Nat} {unclean : Bool} {s : State} (h : Kept base s) :
    Kept base (powerRecord cause unclean s) := by
  unfold powerRecord
  try dsimp only
  with_reducible
    repeat' first
      | assumption | apply kept_raise

theorem kept_levelStart {base : State} {s : State} (h : Kept base s) :
    Kept base (levelStart s) := by
  unfold levelStart
  try dsimp only
  with_reducible
    repeat' first
      | assumption | apply kept_levelUp

theorem kept_bringUp {base : State} {cause : Nat} {unclean : Bool} {f : FarRun} {s : State} (h : Kept base s) :
    Kept base (bringUp cause unclean f s) := by
  unfold bringUp
  try dsimp only
  with_reducible
    repeat' first
      | assumption | intro _ | apply kept_fwSelect | apply kept_farStartup | apply kept_domSet | apply kept_levelStart | apply kept_norCopies
      | apply kept_imgSelect | apply kept_powerRecord | apply kept_busOn | apply kept_fset | apply kept_gnssOn | apply kept_domainOn
      | apply kept_senseOn | apply kept_driverOn | apply kept_soloTeam | apply kept_restoreJob | apply kept_ite | simp only [kept_mk]
      | apply keptD_of | rfl | split

theorem kept_gapsClose {base : State} {s : State} (h : Kept base s) :
    Kept base (gapsClose s) := by
  unfold gapsClose
  try dsimp only
  with_reducible
    repeat' first
      | assumption | intro _ | apply kept_forEach | apply kept_setOut | apply kept_gapEnd | apply kept_gapAdd | apply kept_ite
      | simp only [kept_mk] | apply keptD_of | rfl | split

theorem kept_coreOn {base : State} {f : FarRun} {s : State} (h : Kept base s) :
    Kept base (coreOn f s) := by
  unfold coreOn
  try dsimp only
  with_reducible
    repeat' first
      | assumption | intro _ | apply kept_farStartup | apply kept_domSet | apply kept_fset | apply kept_forEach | apply kept_setOut
      | apply kept_gapsClose | apply kept_staged | apply kept_own | apply kept_forN | apply kept_rsetN | apply kept_canModeSet
      | apply kept_soloTeam | apply kept_restoreJob | apply kept_powerRecord | apply kept_ite | simp only [kept_mk] | apply keptD_of | rfl | split

theorem kept_fresh {base : State} {pd0 : Bool} {s : State} (h : Kept base s) :
    Kept base (fresh pd0 s) := by
  unfold fresh
  dsimp only
  refine kept_sessCount (kept_fsetb (kept_rset64 (kept_fsetb (kept_fsetb ?_))))
  have h1 : ∀ t : State, t.pending = s.pending → t.sent = s.sent → t.freeCnt = s.freeCnt →
      t.regs = s.regs.filter (fun x => nvReg x.1 || (pd0 && aoReg x.1)) → t.img.otpSvn = s.img.otpSvn → t.pwr.otpFwSvn = s.pwr.otpFwSvn →
      Kept base t := by
    intro t a b c d e f
    exact ⟨a.trans h.pending, b ▸ h.sent, c ▸ h.free, fun r => d ▸ smWf_filter _ (h.regs r), e ▸ h.svn, f ▸ h.fwSvn⟩
  split
  · exact kept_rsetAll _ (h1 _ rfl rfl rfl rfl rfl rfl)
  · exact h1 _ rfl rfl rfl rfl rfl rfl

theorem kept_shipped {base : State} {x : Shipped} {s : State} (h : Kept base s) :
    Kept base (shipped x s) := by
  unfold shipped
  refine kept_rset64 (kept_fset (kept_fsetb (kept_mk.2 ?_)))
  exact ⟨h.pending, h.sent, h.free, h.regs, Nat.le_trans h.svn (Nat.le_max_left _ _), Nat.le_trans h.fwSvn (Nat.le_max_left _ _)⟩

theorem kept_stbStart {base : State} {unclean : Bool} {s : State} (h : Kept base s) :
    Kept base (stbStart unclean s) := by
  unfold stbStart
  try dsimp only
  with_reducible
    repeat' first
      | assumption | apply kept_fsetb | apply kept_ite | simp only [kept_mk] | apply keptD_of | rfl | split

theorem kept_strapsRead {base : State} {b : Boot} {s : State} (h : Kept base s) :
    Kept base (strapsRead b s) := by
  unfold strapsRead
  try dsimp only
  with_reducible
    repeat' first
      | assumption | apply kept_fault | apply kept_ite | simp only [kept_mk] | apply keptD_of | rfl | split

theorem kept_islandUp {base : State} {b : Boot} {s : State} (h : Kept base s) :
    Kept base (islandUp b s) := by
  unfold islandUp
  try dsimp only
  with_reducible
    repeat' first
      | assumption | intro _ | apply kept_rclear | apply kept_fset | apply kept_mirrorLoad | apply kept_islandStart | apply kept_fsetb
      | simp only [kept_mk] | apply keptD_of | rfl

theorem kept_vlogStart {base : State} {v : Nat} {s : State} (h : Kept base s) :
    Kept base (vlogStart v s) := by
  unfold vlogStart
  try dsimp only
  with_reducible
    repeat' first
      | assumption | apply kept_fault | apply kept_fsetb | apply kept_ite | split

theorem kept_start {base : State} {b : Boot} {s : State} (h : Kept base s) :
    Kept base (start b s) := by
  unfold start
  try dsimp only
  with_reducible
    repeat' first
      | assumption | intro _ | apply kept_wake | apply kept_fresh | apply kept_stbStart | apply kept_shipped | apply kept_fset | apply kept_fsetb
      | apply kept_vlogStart | apply kept_islandUp | apply kept_forN | apply kept_send | apply kept_staged | apply kept_bringUp
      | apply kept_halterCheck | apply kept_livSync | apply kept_leaseIdle | apply kept_strapsRead | apply kept_ite | simp only [kept_mk]
      | apply keptD_of | rfl | split

end Sys2Proof.Laws
end

