-- ==== Sys2Proof/Laws/KeptFaults.lean ====
section
/-!
SUPPORT. Laws/KeptFaults.lean: each operation of Machine/Faults.lean keeps what Laws/Kept.lean lists.
-/

set_option linter.unusedVariables false
set_option linter.unusedTactic false
set_option linter.unreachableTactic false

open Sys2Proof Sys2Proof.Machine

namespace Sys2Proof.Laws

theorem kept_fltShow {base : State} {s : State} (h : Kept base s) :
    Kept base (fltShow s) := by
  unfold fltShow
  try dsimp only
  with_reducible
    repeat' first
      | assumption | intro _ | apply kept_forN | apply kept_rset | apply kept_fset | apply kept_fsetb | apply kept_foldl | apply kept_foldl2
      | apply kept_foldl1 | simp only [kept_mk] | apply keptD_of | rfl | split

theorem kept_setRecent {base : State} {r : Report} {cls : Nat} {s : State} (h : Kept base s) :
    Kept base (setRecent r cls s) := by
  unfold setRecent
  try dsimp only
  with_reducible
    repeat' first
      | assumption | intro _ | apply kept_ite | simp only [kept_mk] | apply keptD_of | rfl | split

theorem kept_fltEnter {base : State} {r : Report} {s : State} (h : Kept base s) :
    Kept base (fltEnter r s) := by
  unfold fltEnter
  try dsimp only
  with_reducible
    repeat' first
      | assumption | intro _ | apply kept_fincSat | apply kept_ite | simp only [kept_mk] | apply keptD_of | rfl | split

theorem kept_admitReport {base : State} {r0 : Report} {s : State} (h : Kept base s) :
    Kept base (admitReport r0 s) := by
  unfold admitReport
  try dsimp only
  with_reducible
    repeat' first
      | assumption | apply kept_raise | apply kept_fincSat | apply kept_setRecent | apply kept_fltEnter | simp only [kept_mk] | apply keptD_of
      | rfl | split

theorem kept_admitAll {base : State} {s : State} (h : Kept base s) :
    Kept base (admitAll s) := by
  unfold admitAll
  try dsimp only
  with_reducible
    repeat' first
      | assumption | intro _ | apply kept_forEach | apply kept_admitReport | simp only [kept_mk] | apply keptD_of | rfl

theorem kept_faultOn {base : State} {r : Report} {s : State} (h : Kept base s) :
    Kept base (faultOn r s) := by
  unfold faultOn
  try dsimp only
  with_reducible
    repeat' first
      | assumption | intro _ | apply kept_ite | simp only [kept_mk] | apply keptD_of | rfl | split

theorem kept_faultOff {base : State} {r : Report} {s : State} (h : Kept base s) :
    Kept base (faultOff r s) := by
  unfold faultOff
  try dsimp only
  with_reducible
    repeat' first
      | assumption | intro _ | simp only [kept_mk] | apply keptD_of | rfl

theorem kept_subsume {base : State} {cls d : Nat} {s : State} (h : Kept base s) :
    Kept base (subsume cls d s) := by
  unfold subsume
  try dsimp only
  with_reducible
    repeat' first
      | assumption | intro _ | apply kept_forEach | apply kept_fincSat | apply kept_raise | simp only [kept_mk] | apply keptD_of | rfl

theorem kept_resetCount {base : State} {s : State} (h : Kept base s) :
    Kept base (resetCount s) := by
  unfold resetCount
  try dsimp only
  with_reducible
    repeat' first
      | assumption | intro _ | apply kept_levelLost | apply kept_fsetb | apply kept_ite | simp only [kept_mk] | apply keptD_of | rfl | split

theorem kept_downAdd {base : State} {k : Nat} {s : State} (h : Kept base s) :
    Kept base (downAdd k s) := by
  unfold downAdd
  try dsimp only
  with_reducible
    repeat' first
      | assumption | intro _ | simp only [kept_mk] | apply keptD_of | rfl

theorem kept_moduleReset {base : State} {cause : Nat} {s : State} (h : Kept base s) :
    Kept base (moduleReset cause s) := by
  unfold moduleReset
  try dsimp only
  with_reducible
    repeat' first
      | assumption | apply kept_moduleOff | apply kept_downAdd | simp only [kept_mk] | apply keptD_of | rfl

theorem kept_coreReset {base : State} {s : State} (h : Kept base s) :
    Kept base (coreReset s) := by
  unfold coreReset
  try dsimp only
  with_reducible
    repeat' first
      | assumption | apply kept_downAdd | apply kept_coreOff | apply kept_subsume | apply kept_resetCount

theorem kept_domainReset {base : State} {d : Nat} {s : State} (h : Kept base s) :
    Kept base (domainReset d s) := by
  unfold domainReset
  try dsimp only
  with_reducible
    repeat' first
      | assumption | apply kept_downAdd | apply kept_domainOff | apply kept_subsume | apply kept_ite | split

theorem kept_fltAction {base : State} {r : Report} {s : State} (h : Kept base s) :
    Kept base (fltAction r s) := by
  unfold fltAction
  try dsimp only
  with_reducible
    repeat' first
      | assumption | apply kept_levelLost | apply kept_domainReset | apply kept_coreReset | apply kept_moduleReset | apply kept_subsume
      | apply kept_resetCount | simp only [kept_mk] | apply keptD_of | rfl | split

theorem kept_handle {base : State} {r : Report} {s : State} (h : Kept base s) :
    Kept base (handle r s) := by
  unfold handle
  try dsimp only
  with_reducible
    repeat' first
      | assumption | apply kept_faultOff | apply kept_fltAction | apply kept_takeoverFault | apply kept_setRecent | apply kept_faultOn
      | apply kept_ite | split

theorem kept_dm1Tell {base : State} {was : List Active} {s : State} (h : Kept base s) :
    Kept base (dm1Tell was s) := by
  unfold dm1Tell
  try dsimp only
  with_reducible
    repeat' first
      | assumption | intro _ | apply kept_forN | apply kept_send | apply kept_ite | split

theorem kept_execFaultReport {base : State} {s : State} (h : Kept base s) :
    KeptOut base (execFaultReport s) := by
  unfold execFaultReport
  try dsimp only
  with_reducible
    repeat' first
      | assumption | apply kept_admitAll | apply kept_dm1Tell | apply kept_fltShow | apply kept_handle | apply kept_ite | simp only [kept_mk]
      | apply keptD_of | rfl | apply keptOut_next | split

theorem kept_execFmHeartbeatLoss {base : State} {s : State} (h : Kept base s) :
    KeptOut base (execFmHeartbeatLoss s) := by
  unfold execFmHeartbeatLoss
  try dsimp only
  with_reducible
    repeat' first
      | assumption | apply kept_coreReset | apply kept_faultCls | apply kept_ite | simp only [kept_mk] | apply keptD_of | rfl | apply keptOut_next
      | split

theorem kept_downEnd {base : State} {k : Nat} {s : State} (h : Kept base s) :
    Kept base (downEnd k s) := by
  unfold downEnd
  try dsimp only
  with_reducible
    repeat' first
      | assumption | intro _ | apply kept_ite | simp only [kept_mk] | apply keptD_of | rfl | split

theorem kept_execDomainBack {base : State} {k : Fin 14} {f : FarRun} {s : State} (h : Kept base s) :
    KeptOut base (execDomainBack k f s) := by
  unfold execDomainBack
  try dsimp only
  with_reducible
    repeat' first
      | assumption | intro _ | apply kept_fltShow | apply kept_coreOn | apply kept_downEnd | apply kept_bringUp | apply kept_fset
      | apply kept_gapsClose | apply kept_domainOn | apply kept_farTests | apply kept_faultPast | apply kept_ite | apply keptOut_next | split

theorem kept_execDomainLost {base : State} {k : Fin 12} {s : State} (h : Kept base s) :
    KeptOut base (execDomainLost k s) := by
  unfold execDomainLost
  try dsimp only
  with_reducible
    repeat' first
      | assumption | intro _ | apply kept_levelLost | apply kept_faultCls | apply kept_domainOff | apply kept_ite | simp only [kept_mk]
      | apply keptD_of | rfl | apply keptOut_next | split

theorem kept_execLevelRise {base : State} {s : State} (h : Kept base s) :
    KeptOut base (execLevelRise s) := by
  unfold execLevelRise
  try dsimp only
  with_reducible
    repeat' first
      | assumption | apply kept_levelUp | apply kept_ite | apply keptOut_next | split

theorem kept_corrected {base : State} {m a : Nat} {s : State} (h : Kept base s) :
    Kept base (corrected m a s) := by
  unfold corrected
  try dsimp only
  with_reducible
    repeat' first
      | assumption | intro _ | apply kept_fincWrap | apply kept_faultCls | apply kept_foldl | apply kept_foldl2 | apply kept_foldl1
      | apply kept_ite | simp only [kept_mk] | apply keptD_of | rfl | split

theorem kept_parityErr {base : State} {where_ : Int} {s : State} (h : Kept base s) :
    Kept base (parityErr where_ s) := by
  unfold parityErr
  try dsimp only
  with_reducible
    repeat' first
      | assumption | apply kept_faultOnce | apply kept_fincWrap

theorem kept_evqDrop {base : State} {n : Nat} {places : List Nat} {s : State} (h : Kept base s) :
    Kept base (evqDrop n places s) := by
  unfold evqDrop
  try dsimp only
  with_reducible
    repeat' first
      | assumption | intro _ | apply kept_nextReg | apply kept_setOut | simp only [kept_mk] | apply keptD_of | rfl

theorem kept_memErr {base : State} {e : MemErr} {s : State} (h : Kept base s) :
    Kept base (memErr e s) := by
  unfold memErr
  try dsimp only
  with_reducible
    repeat' first
      | assumption | intro _ | apply kept_corrected | apply kept_sramRowBad | apply kept_faultOnce | apply kept_fincSat | apply kept_dramRowBad
      | apply kept_parityErr | apply kept_forN | apply kept_toIdle | apply kept_unitRetire | apply kept_forEach | apply kept_evqDrop
      | apply kept_fincWrap | apply kept_faultCls | apply kept_setCan | apply kept_fsetb | apply kept_badTile | apply kept_ite
      | simp only [kept_mk] | apply keptD_of | rfl | split

theorem kept_execMemoryErrorDetected {base : State} {e : MemErr} {s : State} (h : Kept base s) :
    KeptOut base (execMemoryErrorDetected e s) := by
  unfold execMemoryErrorDetected
  try dsimp only
  with_reducible
    repeat' first
      | assumption | apply kept_memErr | apply kept_ite | apply keptOut_next | split

theorem kept_execDramScrub {base : State} {found : List MemErr} {s : State} (h : Kept base s) :
    KeptOut base (execDramScrub found s) := by
  unfold execDramScrub
  try dsimp only
  with_reducible
    repeat' first
      | assumption | intro _ | apply kept_forEach | apply kept_memErr | apply kept_ite | simp only [kept_mk] | apply keptD_of | rfl
      | apply keptOut_next | split

theorem kept_isobusDrop {base : State} {c : Nat} {s : State} (h : Kept base s) :
    Kept base (isobusDrop c s) := by
  unfold isobusDrop
  try dsimp only
  with_reducible
    repeat' first
      | assumption | intro _ | apply kept_rolesSync | apply kept_rolesMove | apply kept_ite | simp only [kept_mk] | apply keptD_of | rfl | split

theorem kept_spareSteps {base : State} {i : Nat} {s : State} (h : Kept base s) :
    Kept base (spareSteps i s) := by
  unfold spareSteps
  try dsimp only
  with_reducible
    repeat' first
      | assumption | intro _ | apply kept_ite | simp only [kept_mk] | apply keptD_of | rfl | split

theorem kept_execDualRailError {base : State} {unit : Fin 31} {s : State} (h : Kept base s) :
    KeptOut base (execDualRailError unit s) := by
  unfold execDualRailError
  try dsimp only
  with_reducible
    repeat' first
      | assumption | apply kept_unitRetire | apply kept_faultCls | apply kept_spareSteps | apply kept_isobusDrop | apply kept_canModeSet
      | apply kept_coreReset | apply kept_ite | simp only [kept_mk] | apply keptD_of | rfl | apply keptOut_next | split

theorem kept_execEmmcLifeCheck {base : State} {a b : Fin 16} {eol : Fin 4} {s0 : State} (h : Kept base s0) :
    KeptOut base (execEmmcLifeCheck a b eol s0) := by
  unfold execEmmcLifeCheck
  try dsimp only
  with_reducible
    repeat' first
      | assumption | apply kept_fset | apply kept_faultCls | apply kept_fsetb | apply kept_ite | simp only [kept_mk] | apply keptD_of | rfl
      | apply keptOut_next | split

end Sys2Proof.Laws
end

