-- ==== Sys2Proof/Laws/KeptPower.lean ====
section
/-!
SUPPORT. Laws/KeptPower.lean: each operation of Machine/Power.lean keeps what Laws/Kept.lean lists.
-/

set_option linter.unusedVariables false
set_option linter.unusedTactic false
set_option linter.unreachableTactic false

open Sys2Proof Sys2Proof.Machine

namespace Sys2Proof.Laws

theorem kept_execPowerUp {base : State} {b : Boot} {s : State} (h : Kept base s) :
    KeptOut base (execPowerUp b s) := by
  unfold execPowerUp
  try dsimp only
  with_reducible
    repeat' first
      | assumption | apply kept_fault | apply kept_fresh | apply kept_domSet | apply kept_start | apply kept_ite | simp only [kept_mk]
      | apply keptD_of | rfl | apply keptOut_next | exact keptOut_fault _ | split

theorem kept_vlogShow {base : State} {v : Nat} {s : State} (h : Kept base s) :
    Kept base (vlogShow v s) := by
  unfold vlogShow
  try dsimp only
  with_reducible
    repeat' first
      | assumption | apply kept_fset

theorem kept_execVlogLow {base : State} {vlog : BitVec 10} {s : State} (h : Kept base s) :
    KeptOut base (execVlogLow vlog s) := by
  unfold execVlogLow
  try dsimp only
  with_reducible
    repeat' first
      | assumption | apply kept_vlogShow | apply kept_fault | apply kept_fsetb | apply kept_faultEnd | apply kept_ite | apply keptOut_next | split

theorem kept_execVlogHigh {base : State} {vlog : BitVec 10} {s : State} (h : Kept base s) :
    KeptOut base (execVlogHigh vlog s) := by
  unfold execVlogHigh
  try dsimp only
  with_reducible
    repeat' first
      | assumption | apply kept_vlogShow | apply kept_fault | apply kept_fsetb | apply kept_faultEnd | apply kept_ite | apply keptOut_next | split

theorem kept_execVlogOvervoltage {base : State} {vlog : BitVec 10} {s : State} (h : Kept base s) :
    KeptOut base (execVlogOvervoltage vlog s) := by
  unfold execVlogOvervoltage
  try dsimp only
  with_reducible
    repeat' first
      | assumption | intro _ | apply kept_fault | apply kept_vlogShow | apply kept_levelLost | apply kept_staged | apply kept_moduleReset
      | apply kept_subsume | apply kept_resetCount | apply kept_ite | simp only [kept_mk] | apply keptD_of | rfl | apply keptOut_next
      | exact keptOut_fault _ | split

theorem kept_execVlogOvRecover {base : State} {vlog : BitVec 10} {s : State} (h : Kept base s) :
    KeptOut base (execVlogOvRecover vlog s) := by
  unfold execVlogOvRecover
  exact keptOut_next (kept_ite (kept_faultEnd (kept_mk.2 (keptD_of (kept_vlogShow (v := vlog.toNat) h) rfl rfl))) h)

theorem kept_flush {base : State} {s : State} (h : Kept base s) :
    Kept base (flush s) := by
  unfold flush
  try dsimp only
  with_reducible
    repeat' first
      | assumption | apply kept_optSave | apply kept_hwmStore | apply kept_ite | simp only [kept_mk] | apply keptD_of | rfl | split

theorem kept_execBrownout {base : State} {vlog : BitVec 10} {flushed : Bool} {s : State} (h : Kept base s) :
    KeptOut base (execBrownout vlog flushed s) := by
  unfold execBrownout
  try dsimp only
  with_reducible
    repeat' first
      | assumption | intro _ | apply kept_fault | apply kept_fincSat | apply kept_vlogShow | apply kept_flush | apply kept_levelLost
      | apply kept_staged | apply kept_moduleOff | apply kept_ite | simp only [kept_mk] | apply keptD_of | rfl | apply keptOut_next | split

theorem kept_execBrownoutRestart {base : State} {vlog : BitVec 10} {s : State} (h : Kept base s) :
    KeptOut base (execBrownoutRestart vlog s) := by
  unfold execBrownoutRestart
  exact keptOut_next (kept_ite (kept_mk.2 (keptD_of (kept_vlogShow (v := vlog.toNat) h) rfl rfl)) h)

theorem kept_execVlogLoss {base : State} {s : State} (h : Kept base s) :
    KeptOut base (execVlogLoss s) := by
  unfold execVlogLoss
  try dsimp only
  with_reducible
    repeat' first
      | assumption | apply kept_fresh | apply kept_domSet | apply kept_ite | simp only [kept_mk] | apply keptD_of | rfl | apply keptOut_next
      | split

theorem kept_execActivateFw {base : State} {who : Fin 36} {s : State} (h : Kept base s) :
    KeptOut base (execActivateFw who s) := by
  unfold execActivateFw
  try dsimp only
  with_reducible
    repeat' first
      | assumption | intro _ | apply kept_rapDo | apply kept_bootWrite | simp only [kept_mk] | apply keptD_of | rfl | apply keptOut_next | split

theorem kept_execFwCancel {base : State} {who : Fin 36} {s : State} (h : Kept base s) :
    KeptOut base (execFwCancel who s) := by
  unfold execFwCancel
  try dsimp only
  with_reducible
    repeat' first
      | assumption | intro _ | apply kept_rapDo | apply kept_bootWrite | apply kept_ite | simp only [kept_mk] | apply keptD_of | rfl
      | apply keptOut_next | split

theorem kept_execFwTrialConfirm {base : State} {s : State} (h : Kept base s) :
    KeptOut base (execFwTrialConfirm s) := by
  unfold execFwTrialConfirm
  refine keptOut_next ?_
  split
  · refine kept_ite h ?_
    refine kept_raise (kept_fset (kept_bootWrite (kept_mk.2 ?_)))
    exact ⟨h.pending, h.sent, h.free, h.regs, h.svn, Nat.le_trans h.fwSvn (Nat.le_max_left _ _)⟩
  · exact h

theorem kept_execFwTrialFail {base : State} {s : State} (h : Kept base s) :
    KeptOut base (execFwTrialFail s) := by
  unfold execFwTrialFail
  try dsimp only
  with_reducible
    repeat' first
      | assumption | intro _ | apply kept_bootWrite | apply kept_levelLost | apply kept_staged | apply kept_moduleReset | apply kept_fault
      | apply kept_ite | simp only [kept_mk] | apply keptD_of | rfl | apply keptOut_next | split

theorem kept_wake {base : State} {cause : Nat} {f : State → State} {s : State} (hf : ∀  t, Kept base t → Kept base (f  t)) (h : Kept base s) :
    Kept base (wake cause f s) := by
  unfold wake
  try dsimp only
  with_reducible
    repeat' first
      | assumption | intro _ | apply hf | apply kept_fset | apply kept_ite | simp only [kept_mk] | apply keptD_of | rfl | split

theorem kept_execWakeCan {base : State} {ctrl : Fin 4} {w : CanWake} {s : State} (h : Kept base s) :
    KeptOut base (execWakeCan ctrl w s) := by
  unfold execWakeCan
  try dsimp only
  with_reducible
    repeat' first
      | assumption | intro _ | apply kept_wake | apply kept_raise | apply kept_fset | apply kept_fsetb | apply kept_ite | apply keptOut_next
      | split

theorem kept_execWakeLink {base : State} {n : Fin 5} {s : State} (h : Kept base s) :
    KeptOut base (execWakeLink n s) := by
  unfold execWakeLink
  try dsimp only
  with_reducible
    repeat' first
      | assumption | intro _ | apply kept_wake | apply kept_fset | apply kept_ite | apply keptOut_next | split

theorem kept_execWakeHalter {base : State} {s : State} (h : Kept base s) :
    KeptOut base (execWakeHalter s) := by
  unfold execWakeHalter
  try dsimp only
  with_reducible
    repeat' first
      | assumption | intro _ | apply kept_fsetb | apply kept_wake | apply kept_ite | apply keptOut_next | simp only [id_eq] | split

theorem kept_execWakeTimer {base : State} {s : State} (h : Kept base s) :
    KeptOut base (execWakeTimer s) := by
  unfold execWakeTimer
  try dsimp only
  with_reducible
    repeat' first
      | assumption | intro _ | apply kept_wake | apply kept_ite | apply keptOut_next | simp only [id_eq] | split

theorem kept_execAttnNActive {base : State} {s : State} (h : Kept base s) :
    KeptOut base (execAttnNActive s) := by
  unfold execAttnNActive
  try dsimp only
  with_reducible
    repeat' first
      | assumption | intro _ | apply kept_fsetb | apply kept_wake | apply kept_ite | simp only [kept_mk] | apply keptD_of | rfl
      | apply keptOut_next | simp only [id_eq] | split

theorem kept_execAttnNInactive {base : State} {s : State} (h : Kept base s) :
    KeptOut base (execAttnNInactive s) := by
  unfold execAttnNInactive
  try dsimp only
  with_reducible
    repeat' first
      | assumption | apply kept_fsetb | apply kept_ite | simp only [kept_mk] | apply keptD_of | rfl | apply keptOut_next | split

theorem kept_keyoffAsk {base : State} {s : State} (h : Kept base s) :
    Kept base (keyoffAsk s) := by
  unfold keyoffAsk
  try dsimp only
  with_reducible
    repeat' first
      | assumption | apply kept_toTeam | apply kept_toLeader | apply kept_ite | simp only [kept_mk] | apply keptD_of | rfl | split

theorem kept_execKeyoffCondition {base : State} {s : State} (h : Kept base s) :
    KeptOut base (execKeyoffCondition s) := by
  unfold execKeyoffCondition
  try dsimp only
  with_reducible
    repeat' first
      | assumption | apply kept_keyoffAsk | apply kept_ite | apply keptOut_next | split

theorem kept_execSleep {base : State} {who : Fin 36} {s : State} (h : Kept base s) :
    KeptOut base (execSleep who s) := by
  unfold execSleep
  try dsimp only
  with_reducible
    repeat' first
      | assumption | intro _ | apply kept_rapDo | apply kept_keyoffAsk | apply keptOut_next

theorem kept_execStay {base : State} {who : Fin 36} {s : State} (h : Kept base s) :
    KeptOut base (execStay who s) := by
  unfold execStay
  try dsimp only
  with_reducible
    repeat' first
      | assumption | intro _ | apply kept_rapDo | simp only [kept_mk] | apply keptD_of | rfl | apply keptOut_next

theorem kept_execKeyoffReport {base : State} {_m : Fin 64} {s : State} (h : Kept base s) :
    KeptOut base (execKeyoffReport _m s) := by
  unfold execKeyoffReport
  try dsimp only
  with_reducible
    repeat' first
      | assumption | apply keptOut_next

theorem kept_execStayAwakeExpiry {base : State} {s : State} (h : Kept base s) :
    KeptOut base (execStayAwakeExpiry s) := by
  unfold execStayAwakeExpiry
  try dsimp only
  with_reducible
    repeat' first
      | assumption | apply kept_keyoffAsk | apply kept_ite | apply keptOut_next | split

theorem kept_keyoffBegin {base : State} {s : State} (h : Kept base s) :
    Kept base (keyoffBegin s) := by
  unfold keyoffBegin
  try dsimp only
  with_reducible
    repeat' first
      | assumption | intro _ | apply kept_fsetb | apply kept_setJobState | apply kept_injEnd | apply kept_staged | apply kept_forceRelease
      | apply kept_ite | simp only [kept_mk] | apply keptD_of | rfl | split

theorem kept_asleepSet {base : State} {s : State} (h : Kept base s) :
    Kept base (asleepSet s) := by
  unfold asleepSet
  try dsimp only
  with_reducible
    repeat' first
      | assumption | simp only [kept_mk] | apply keptD_of | rfl

theorem kept_sleepEnter {base : State} {s : State} (h : Kept base s) :
    Kept base (sleepEnter s) := by
  unfold sleepEnter
  try dsimp only
  with_reducible
    repeat' first
      | assumption | intro _ | apply kept_staged | apply kept_forN | apply kept_soOpen | apply kept_moduleOff | apply kept_fsetb
      | apply kept_asleepSet

theorem kept_canSleep {base : State} {s : State} (h : Kept base s) :
    Kept base (canSleep s) := by
  unfold canSleep
  try dsimp only
  with_reducible
    repeat' first
      | assumption | intro _ | apply kept_forN | apply kept_canModeSet | apply kept_ite | split

theorem kept_keyoffEnd {base : State} {full : Bool} {s : State} (h : Kept base s) :
    Kept base (keyoffEnd full s) := by
  unfold keyoffEnd
  extract_lets s1 s2 p3 s3 s4 s5 b p5 b1 p6 s6
  have h1 : Kept base s1 := kept_staged (fun t g => kept_engineStop (kept_forN (fun n u k => kept_setLState k) g)) h
  have h2 : Kept base s2 := kept_ite (kept_jobStore h1) h1
  have h3 : Kept base s3 := kept_ite (kept_mk.2 (keptD_of h2 rfl rfl)) h2
  have h4 : Kept base s4 := kept_optSave (kept_ite (kept_hwmStore h3) h3)
  have h5 : Kept base s5 := kept_freezeStop h4
  clear_value s5
  have h6 : ∀ t, Kept base t → ∀ b : Stb, Kept base { t with stb := b, pwr := { t.pwr with unclean := false } } :=
    fun t h b => kept_mk.2 (keptD_of h rfl rfl)
  exact kept_sleepEnter (kept_canSleep (h6 s5 h5 _))

theorem kept_execKeyoffStart {base : State} {full : Bool} {s : State} (h : Kept base s) :
    KeptOut base (execKeyoffStart full s) := by
  unfold execKeyoffStart
  try dsimp only
  with_reducible
    repeat' first
      | assumption | apply kept_keyoffBegin | apply kept_keyoffEnd | apply kept_ite | simp only [kept_mk] | apply keptD_of | rfl
      | apply keptOut_next | split

theorem kept_execKeyoffForce {base : State} {s : State} (h : Kept base s) :
    KeptOut base (execKeyoffForce s) := by
  unfold execKeyoffForce
  try dsimp only
  with_reducible
    repeat' first
      | assumption | apply kept_flush | apply kept_sleepEnter | apply kept_ite | simp only [kept_mk] | apply keptD_of | rfl | apply keptOut_next
      | split

end Sys2Proof.Laws
end

