-- ==== Sys2Proof/Laws/KeptClock.lean ====
section
/-!
SUPPORT. Laws/KeptClock.lean: each operation of Machine/Clock.lean keeps what Laws/Kept.lean lists.
-/

set_option linter.unusedVariables false
set_option linter.unusedTactic false
set_option linter.unreachableTactic false

open Sys2Proof Sys2Proof.Machine

namespace Sys2Proof.Laws

theorem kept_gaitOne {base : State} {g : Gait} {s : State} (h : Kept base s) :
    Kept base (gaitOne g s) := by
  unfold gaitOne
  try dsimp only
  with_reducible
    repeat' first
      | assumption | apply kept_fset | apply kept_fsetb | apply kept_fault | apply kept_faultEnd | apply kept_ite | simp only [kept_mk]
      | apply keptD_of | rfl | split

theorem kept_execGaitWindow {base : State} {l : List Gait} {s : State} (h : Kept base s) :
    KeptOut base (execGaitWindow l s) := by
  unfold execGaitWindow
  try dsimp only
  with_reducible
    repeat' first
      | assumption | intro _ | apply kept_forEach | apply kept_gaitOne | apply kept_ite | apply keptOut_next | split

theorem kept_refLoss {base : State} {s : State} (h : Kept base s) :
    Kept base (refLoss s) := by
  unfold refLoss
  try dsimp only
  with_reducible
    repeat' first
      | assumption | intro _ | apply kept_staged | apply kept_freeze | apply kept_fault | apply kept_slicesDrop | apply kept_ite
      | simp only [kept_mk] | apply keptD_of | rfl | split

theorem kept_aoLoss {base : State} {s : State} (h : Kept base s) :
    Kept base (aoLoss s) := by
  unfold aoLoss
  try dsimp only
  with_reducible
    repeat' first
      | assumption | intro _ | apply kept_staged | apply kept_forN | apply kept_soOpen | apply kept_fsetb | apply kept_fault | apply kept_ite
      | simp only [kept_mk] | apply keptD_of | rfl | split

theorem kept_safeLoss {base : State} {s : State} (h : Kept base s) :
    Kept base (safeLoss s) := by
  unfold safeLoss
  try dsimp only
  with_reducible
    repeat' first
      | assumption | intro _ | apply kept_fault | apply kept_staged | apply kept_islandReset | apply kept_ite | simp only [kept_mk]
      | apply keptD_of | rfl | split

theorem kept_execClockMonitorWindow {base : State} {ao ref safe : Int} {s : State} (h : Kept base s) :
    KeptOut base (execClockMonitorWindow ao ref safe s) := by
  unfold execClockMonitorWindow
  try dsimp only
  with_reducible
    repeat' first
      | assumption | apply kept_aoLoss | apply kept_faultEnd | apply kept_safeLoss | apply kept_refLoss | apply kept_ite | simp only [kept_mk]
      | apply keptD_of | rfl | apply keptOut_next | split

theorem kept_execClkRefLoss {base : State} {s : State} (h : Kept base s) :
    KeptOut base (execClkRefLoss s) := by
  unfold execClkRefLoss
  try dsimp only
  with_reducible
    repeat' first
      | assumption | apply kept_refLoss | apply kept_ite | apply keptOut_next | split

theorem kept_aoStamps {base : State} {s : State} (h : Kept base s) :
    Kept base (aoStamps s) := by
  unfold aoStamps
  try dsimp only
  with_reducible
    repeat' first
      | assumption | intro _ | simp only [kept_mk] | apply keptD_of | rfl

theorem kept_execRefReturn {base : State} {s : State} (h : Kept base s) :
    KeptOut base (execRefReturn s) := by
  unfold execRefReturn
  try dsimp only
  with_reducible
    repeat' first
      | assumption | intro _ | apply kept_faultEnd | apply kept_aoStamps | apply kept_staged | apply kept_moduleReset | apply kept_unfreeze
      | apply kept_ite | simp only [kept_mk] | apply keptD_of | rfl | apply keptOut_next | split

end Sys2Proof.Laws
end

