-- ==== Sys2Proof/Laws/KeptImageOps.lean ====
section
/-!
SUPPORT. Laws/KeptImageOps.lean: each operation of Machine/ImageOps.lean keeps what Laws/Kept.lean lists.
-/

set_option linter.unusedVariables false
set_option linter.unusedTactic false
set_option linter.unreachableTactic false

open Sys2Proof Sys2Proof.Machine

namespace Sys2Proof.Laws

theorem kept_checkPending {base : State} {s : State} (h : Kept base s) :
    Kept base (checkPending s) := by
  unfold checkPending
  try dsimp only
  with_reducible
    repeat' first
      | assumption | apply kept_imgChecked | apply kept_setImgState | simp only [kept_mk] | apply keptD_of | rfl | split

theorem kept_imgRefuse {base : State} {code : Nat} {s : State} (h : Kept base s) :
    Kept base (imgRefuse code s) := by
  unfold imgRefuse
  try dsimp only
  with_reducible
    repeat' first
      | assumption | apply kept_imgChecked | apply kept_setImgErr | simp only [kept_mk] | apply keptD_of | rfl | split

theorem kept_execImgCheck {base : State} {who : Fin 36} {s : State} (h : Kept base s) :
    KeptOut base (execImgCheck who s) := by
  unfold execImgCheck
  try dsimp only
  with_reducible
    repeat' first
      | assumption | intro _ | apply kept_rapDo | apply kept_checkPending | apply kept_ite | apply keptOut_next | split

theorem kept_swapDrop {base : State} {s : State} (h : Kept base s) :
    Kept base (swapDrop s) := by
  unfold swapDrop
  try dsimp only
  with_reducible
    repeat' first
      | assumption | apply kept_rset64 | apply kept_fincSat | apply kept_setImgState | apply kept_ite | simp only [kept_mk] | apply keptD_of | rfl
      | split

theorem kept_leaderAbort {base : State} {s : State} (h : Kept base s) :
    Kept base (leaderAbort s) := by
  unfold leaderAbort
  try dsimp only
  with_reducible
    repeat' first
      | assumption | apply kept_swapDrop | apply kept_toTeam

theorem kept_distributeImage {base : State} {s : State} (h : Kept base s) :
    Kept base (distributeImage s) := by
  unfold distributeImage
  try dsimp only
  with_reducible
    repeat' first
      | assumption | apply kept_toTeam | simp only [kept_mk] | apply keptD_of | rfl

theorem kept_activate {base : State} {s : State} (h : Kept base s) :
    Kept base (activate s) := by
  unfold activate
  try dsimp only
  with_reducible
    repeat' first
      | assumption | apply kept_imgRefuse | apply kept_distributeImage | apply kept_toLeader | apply kept_prepare | apply kept_ite | split

theorem kept_execImgActivate {base : State} {who : Fin 36} {s : State} (h : Kept base s) :
    KeptOut base (execImgActivate who s) := by
  unfold execImgActivate
  try dsimp only
  with_reducible
    repeat' first
      | assumption | intro _ | apply kept_rapDo | apply kept_activate | apply keptOut_next

theorem kept_execImgAbort {base : State} {who : Fin 36} {s : State} (h : Kept base s) :
    KeptOut base (execImgAbort who s) := by
  unfold execImgAbort
  try dsimp only
  with_reducible
    repeat' first
      | assumption | intro _ | apply kept_rapDo | apply kept_leaderAbort | apply kept_toLeader | apply kept_ite | simp only [kept_mk]
      | apply keptD_of | rfl | apply keptOut_next | split

theorem kept_execTeamImage {base : State} {c : Container} {s : State} (h : Kept base s) :
    KeptOut base (execTeamImage c s) := by
  unfold execTeamImage
  try dsimp only
  with_reducible
    repeat' first
      | assumption | apply kept_toLeader | apply kept_checkPending | apply kept_distributeImage | apply kept_ite | simp only [kept_mk]
      | apply keptD_of | rfl | apply keptOut_next | split

theorem kept_execStagedOk {base : State} {m : Fin 64} {code : Fin 256} {s : State} (h : Kept base s) :
    KeptOut base (execStagedOk m code s) := by
  unfold execStagedOk
  try dsimp only
  with_reducible
    repeat' first
      | assumption | apply kept_leaderAbort | apply kept_setImgErr | apply kept_setImgState | apply kept_toTeam | apply kept_prepare
      | apply kept_ite | simp only [kept_mk] | apply keptD_of | rfl | apply keptOut_next | split

theorem kept_execStagingTimeout {base : State} {s : State} (h : Kept base s) :
    KeptOut base (execStagingTimeout s) := by
  unfold execStagingTimeout
  try dsimp only
  with_reducible
    repeat' first
      | assumption | apply kept_leaderAbort | apply kept_ite | apply keptOut_next | split

theorem kept_execPrepare {base : State} {C : Nat} {s : State} (h : Kept base s) :
    KeptOut base (execPrepare C s) := by
  unfold execPrepare
  try dsimp only
  with_reducible
    repeat' first
      | assumption | apply kept_toLeader | apply kept_prepare | apply kept_ite | apply keptOut_next | split

theorem kept_execSwapAbort {base : State} {s : State} (h : Kept base s) :
    KeptOut base (execSwapAbort s) := by
  unfold execSwapAbort
  try dsimp only
  with_reducible
    repeat' first
      | assumption | apply kept_leaderAbort | apply kept_swapDrop | apply kept_ite | simp only [kept_mk] | apply keptD_of | rfl
      | apply keptOut_next | split

theorem kept_execSwapQuiesceStart {base : State} {s : State} (h : Kept base s) :
    KeptOut base (execSwapQuiesceStart s) := by
  unfold execSwapQuiesceStart
  try dsimp only
  with_reducible
    repeat' first
      | assumption | intro _ | apply kept_whenB | apply kept_injEnd | apply kept_setImgState | apply kept_ite | simp only [kept_mk]
      | apply keptD_of | rfl | apply keptOut_next | split

theorem kept_swapWord {base : State} {x : Nat × Word} {s : State} (h : Kept base s) :
    Kept base (swapWord x s) := by
  unfold swapWord
  try dsimp only
  with_reducible
    repeat' first
      | assumption | apply kept_rset

theorem kept_swapWords {base : State} {old new : List (Nat × Word)} {s : State} (h : Kept base s) :
    Kept base (swapWords old new s) := by
  unfold swapWords
  try dsimp only
  with_reducible
    repeat' first
      | assumption | intro _ | apply kept_forEach | apply kept_swapWord

theorem kept_swapChains {base : State} {old : State} {s : State} (h : Kept base s) :
    Kept base (swapChains old s) := by
  unfold swapChains
  try dsimp only
  with_reducible
    repeat' first
      | assumption | intro _ | apply kept_forEach | apply kept_whenB | apply kept_faultEnd | apply kept_chainBit | apply kept_linkReg
      | apply kept_forN | apply kept_rset | apply kept_ite | split

theorem kept_swapOuts {base : State} {C : Nat} {was : List OutEnt} {scope : List Nat} {s : State} (h : Kept base s) :
    Kept base (swapOuts C was scope s) := by
  unfold swapOuts
  try dsimp only
  with_reducible
    repeat' first
      | assumption | intro _ | apply kept_forEach | apply kept_nextReg | apply kept_squash | apply kept_setOut | apply kept_ite
      | simp only [kept_mk] | apply keptD_of | rfl | split

theorem kept_actRelease {base : State} {d : LoopDef} {s : State} (h : Kept base s) :
    Kept base (actRelease d s) := by
  unfold actRelease
  try dsimp only
  with_reducible
    repeat' first
      | assumption | intro _ | apply kept_forEach | apply kept_waveFold | apply kept_fset | apply kept_setWav | apply kept_ite | split

theorem kept_swapLoops {base : State} {was : List LoopDef} {s : State} (h : Kept base s) :
    Kept base (swapLoops was s) := by
  unfold swapLoops
  try dsimp only
  with_reducible
    repeat' first
      | assumption | intro _ | apply kept_forEach | apply kept_actRelease | apply kept_rset | simp only [kept_mk] | apply keptD_of | rfl

theorem kept_swapCommit {base : State} {C : Nat} {c : Container} {s : State} (h : Kept base s) :
    Kept base (swapCommit C c s) := by
  unfold swapCommit
  try dsimp only
  with_reducible
    repeat' first
      | assumption | intro _ | apply kept_swapLoops | apply kept_forEach | apply kept_setCan | apply kept_swapWords | apply kept_swapOuts
      | apply kept_swapChains | apply kept_showImage | apply kept_fsetb | apply kept_setImgState | apply kept_otpRaise | apply kept_fincSat
      | apply kept_raise | apply kept_ite | simp only [kept_mk] | apply keptD_of | rfl | split

theorem kept_execSwapCommit {base : State} {s : State} (h : Kept base s) :
    KeptOut base (execSwapCommit s) := by
  unfold execSwapCommit
  try dsimp only
  with_reducible
    repeat' first
      | assumption | intro _ | apply kept_staged | apply kept_swapCommit | apply kept_ite | simp only [kept_mk] | apply keptD_of | rfl
      | apply keptOut_next | split

theorem kept_restartInto {base : State} {s : State} (h : Kept base s) :
    Kept base (restartInto s) := by
  unfold restartInto
  try dsimp only
  with_reducible
    repeat' first
      | assumption | intro _ | apply kept_levelLost | apply kept_staged | apply kept_moduleReset | apply kept_setImgState | simp only [kept_mk]
      | apply keptD_of | rfl | split

theorem kept_restartActivate {base : State} {s : State} (h : Kept base s) :
    Kept base (restartActivate s) := by
  unfold restartActivate
  try dsimp only
  with_reducible
    repeat' first
      | assumption | apply kept_imgRefuse | apply kept_toTeam | apply kept_toLeader | apply kept_send | apply kept_restartInto | apply kept_ite
      | simp only [kept_mk] | apply keptD_of | rfl | split

theorem kept_execRestartActivate {base : State} {who : Fin 36} {s : State} (h : Kept base s) :
    KeptOut base (execRestartActivate who s) := by
  unfold execRestartActivate
  try dsimp only
  with_reducible
    repeat' first
      | assumption | intro _ | apply kept_rapDo | apply kept_restartActivate | apply keptOut_next

theorem kept_execTeamRestart {base : State} {s : State} (h : Kept base s) :
    KeptOut base (execTeamRestart s) := by
  unfold execTeamRestart
  try dsimp only
  with_reducible
    repeat' first
      | assumption | apply kept_restartInto | apply kept_restartActivate | apply kept_ite | simp only [kept_mk] | apply keptD_of | rfl
      | apply keptOut_next | split

theorem kept_revert {base : State} {s : State} (h : Kept base s) :
    Kept base (revert s) := by
  unfold revert
  try dsimp only
  with_reducible
    repeat' first
      | assumption | apply kept_imgChecked | apply kept_setImgState | apply kept_ite | simp only [kept_mk] | apply keptD_of | rfl | split

theorem kept_execImgRevert {base : State} {who : Fin 36} {s : State} (h : Kept base s) :
    KeptOut base (execImgRevert who s) := by
  unfold execImgRevert
  try dsimp only
  with_reducible
    repeat' first
      | assumption | intro _ | apply kept_rapDo | apply kept_imgRefuse | apply kept_revert | apply kept_ite | apply keptOut_next | split

end Sys2Proof.Laws
end

