-- ==== Sys2Proof/Laws/KeptRap.lean ====
section
/-!
SUPPORT. Laws/KeptRap.lean: each operation of Machine/Rap.lean keeps what Laws/Kept.lean lists.
-/

set_option linter.unusedVariables false
set_option linter.unusedTactic false
set_option linter.unreachableTactic false

open Sys2Proof Sys2Proof.Machine

namespace Sys2Proof.Laws

theorem kept_rqAnswer {base : State} {q : Rq} {st : RapStatus} {data : List Int} {s : State} (h : Kept base s) :
    Kept base (rqAnswer q st data s) := by
  unfold rqAnswer
  try dsimp only
  with_reducible
    repeat' first
      | assumption | apply kept_rapAnswer | apply kept_send | apply kept_ite | simp only [kept_mk] | apply keptD_of | rfl
      | exact keptOut_refused _ | split

theorem kept_readEffect {base : State} {a : Nat} {s : State} (h : Kept base s) :
    Kept base (readEffect a s) := by
  unfold readEffect
  try dsimp only
  with_reducible
    repeat' first
      | assumption | apply kept_rsetN | apply kept_freeNext | apply kept_newChal | apply kept_waveFold | apply kept_ite | simp only [kept_mk]
      | apply keptD_of | rfl | split

theorem kept_readReg {base : State} {key a : Nat} {s : State} (h : Kept base s) : Kept base (readReg key a s).1 := by
  unfold readReg
  dsimp only
  split
  · exact h
  split
  · exact kept_mk.2 (keptD_of (kept_readEffect h) rfl rfl)
  · split <;> exact kept_readEffect h

theorem kept_readRegs {base : State} {q : Rq} : ∀ {n a : Nat} {s : State} (h : Kept base s), Kept base (readRegs q n a s).1
  | 0, a, s, h => h
  | n + 1, a, s, h => by
    unfold readRegs
    split
    · exact h
    · split
      · exact h
      · exact kept_readRegs (kept_readReg h)

theorem kept_rapRead {base : State} {q : Rq} {a n : Nat} {s : State} (h : Kept base s) :
    Kept base (rapRead q a n s) := by
  unfold rapRead
  try dsimp only
  with_reducible
    repeat' first
      | assumption | apply kept_rqAnswer | apply kept_readRegs | apply kept_domainOff | apply kept_ite | split

theorem kept_writeReg {base : State} {d : RegDesc} {a : Nat} {w : Word} {s : State} (h : Kept base s) :
    Kept base (writeReg d a w s) := by
  unfold writeReg
  try dsimp only
  with_reducible
    repeat' first
      | assumption | apply kept_readEffect | apply kept_rset | apply kept_ite | simp only [kept_mk] | apply keptD_of | rfl | split

theorem kept_writeRegs {base : State} {q : Rq} : ∀ {ws : List Word} {a : Nat} {s : State} (h : Kept base s),
    Kept base (writeRegs q ws a s).1
  | [], a, s, h => h
  | w :: ws, a, s, h => by
    unfold writeRegs
    split
    · exact kept_ite (kept_writeDenied h) h
    · dsimp only
      refine kept_writeRegs ?_
      split
      · exact kept_writeReg h
      · exact h

theorem kept_rapWrite {base : State} {q : Rq} {a : Nat} {ws : List Word} {s : State} (h : Kept base s) :
    Kept base (rapWrite q a ws s) := by
  unfold rapWrite
  try dsimp only
  with_reducible
    repeat' first
      | assumption | apply kept_rqAnswer | apply kept_writeRegs | apply kept_ite | split

theorem kept_blkOpen {base : State} {q : Rq} {obj : Nat} {write : Bool} {param len : Nat} {s : State} (h : Kept base s) :
    Kept base (blkOpen q obj write param len s) := by
  unfold blkOpen
  try dsimp only
  with_reducible
    repeat' first
      | assumption | intro _ | apply kept_rqAnswer | apply kept_writeDenied | apply kept_domainOff | apply kept_freeNext | apply kept_setImgState
      | apply kept_ite | simp only [kept_mk] | apply keptD_of | rfl | split

theorem kept_blkData {base : State} {q : Rq} {h off len : Nat} {bytes : List Byte} {s : State} (hyp : Kept base s) :
    Kept base (blkData q h off len bytes s) := by
  unfold blkData
  try dsimp only
  with_reducible
    repeat' first
      | assumption | intro _ | apply kept_rqAnswer | apply kept_domainOff | apply kept_foldl | apply kept_foldl2 | apply kept_foldl1
      | apply kept_ite | simp only [kept_mk] | apply keptD_of | rfl | apply keptD_free | split

theorem kept_blkTake {base : State} {x : Handle} {body : BlkBody} {s : State} (h : Kept base s) :
    Kept base (blkTake x body s).1 := by
  unfold blkTake
  try dsimp only
  with_reducible
    repeat' first
      | assumption | apply kept_setImgState | apply kept_handleDrop | apply kept_rsetN | apply kept_ite | simp only [kept_mk] | apply keptD_of
      | rfl | split

theorem kept_blkClose {base : State} {q : Rq} {h : Nat} {body : BlkBody} {s : State} (hyp : Kept base s) :
    Kept base (blkClose q h body s) := by
  unfold blkClose
  try dsimp only
  with_reducible
    repeat' first
      | assumption | apply kept_rqAnswer | apply kept_domainOff | apply kept_handleDrop | apply kept_blkTake | apply kept_ite
      | simp only [kept_mk] | apply keptD_of | rfl | split

theorem kept_rapHandle {base : State} {q : Rq} {x : RapReq} {s : State} (h : Kept base s) :
    Kept base (rapHandle q x s) := by
  unfold rapHandle
  try dsimp only
  with_reducible
    repeat' first
      | assumption | apply kept_rapRead | apply kept_rapWrite | apply kept_blkOpen | apply kept_blkData | apply kept_blkClose
      | simp only [kept_mk] | apply keptD_of | rfl | split

theorem kept_rapRequest {base : State} {who : Nat} {peer : Option (Fin 64)} {tag : Nat} {x : RapReq} {s : State} (h : Kept base s) :
    Kept base (rapRequest who peer tag x s) := by
  unfold rapRequest
  try dsimp only
  with_reducible
    repeat' first
      | assumption | intro _ | apply kept_rapAnswer | apply kept_rapHandle | apply kept_setSess | apply kept_canTake | apply kept_send
      | apply kept_ite | simp only [kept_mk] | apply keptD_of | rfl | split

theorem kept_execRapRead {base : State} {who : Fin 36} {peer : Option (Fin 64)} {tag : Fin 256} {addr : Nat} {n : Fin 64} {s : State} (h : Kept base s) :
    KeptOut base (execRapRead who peer tag addr n s) := by
  unfold execRapRead
  try dsimp only
  with_reducible
    repeat' first
      | assumption | apply kept_rapRequest | apply keptOut_next

theorem kept_execRapWrite {base : State} {who : Fin 36} {peer : Option (Fin 64)} {tag : Fin 256} {addr : Nat} {ws : List Word} {s : State} (h : Kept base s) :
    KeptOut base (execRapWrite who peer tag addr ws s) := by
  unfold execRapWrite
  try dsimp only
  with_reducible
    repeat' first
      | assumption | apply kept_rapRequest | apply keptOut_next

theorem kept_execReadLoLatch {base : State} {who : Fin 36} {addr : Nat} {s : State} (h : Kept base s) :
    KeptOut base (execReadLoLatch who addr s) := by
  unfold execReadLoLatch
  try dsimp only
  with_reducible
    repeat' first
      | assumption | apply kept_rapRequest | apply kept_ite | apply keptOut_next | split

theorem kept_execBlkOpen {base : State} {who : Fin 36} {peer : Option (Fin 64)} {tag : Fin 256} {obj : Fin 256} {write : Bool} {param len : Nat} {s : State} (h : Kept base s) :
    KeptOut base (execBlkOpen who peer tag obj write param len s) := by
  unfold execBlkOpen
  try dsimp only
  with_reducible
    repeat' first
      | assumption | apply kept_rapRequest | apply kept_blkOpen | apply keptOut_next

theorem kept_execBlkData {base : State} {who : Fin 36} {peer : Option (Fin 64)} {tag : Fin 256} {h : Fin 256} {off : Nat} {len : Fin 1024} {bytes : List Byte} {s : State} (hyp : Kept base s) :
    KeptOut base (execBlkData who peer tag h off len bytes s) := by
  unfold execBlkData
  try dsimp only
  with_reducible
    repeat' first
      | assumption | apply kept_rapRequest | apply kept_blkData | apply keptOut_next

theorem kept_execBlkClose {base : State} {who : Fin 36} {peer : Option (Fin 64)} {tag : Fin 256} {h : Fin 256} {body : BlkBody} {s : State} (hyp : Kept base s) :
    KeptOut base (execBlkClose who peer tag h body s) := by
  unfold execBlkClose
  try dsimp only
  with_reducible
    repeat' first
      | assumption | apply kept_rapRequest | apply kept_blkClose | apply keptOut_next

theorem kept_execRapRelayRequest {base : State} {src : Fin 64} {sess : Fin 36} {tag : Fin 256} {role : Role} {lease : Option (Fin 8)} {q : RapReq} {s : State} (h : Kept base s) :
    KeptOut base (execRapRelayRequest src sess tag role lease q s) := by
  unfold execRapRelayRequest
  try dsimp only
  with_reducible
    repeat' first
      | assumption | apply kept_rapHandle | apply kept_ite | apply keptOut_next | split

theorem kept_relayDone {base : State} {who tag : Nat} {s : State} (h : Kept base s) :
    Kept base (relayDone who tag s) := by
  unfold relayDone
  try dsimp only
  with_reducible
    repeat' first
      | assumption | intro _ | simp only [kept_mk] | apply keptD_of | rfl

theorem kept_execRapRelayResponse {base : State} {src : Fin 64} {who : Fin 36} {tag : Fin 256} {st : RapStatus} {data : List Int} {s : State} (h : Kept base s) :
    KeptOut base (execRapRelayResponse src who tag st data s) := by
  unfold execRapRelayResponse
  try dsimp only
  with_reducible
    repeat' first
      | assumption | apply kept_rapAnswer | apply kept_relayDone | apply kept_ite | simp only [kept_mk] | apply keptD_of | rfl
      | apply keptOut_next | split

theorem kept_execRelayTimeout {base : State} {who : Fin 36} {tag : Fin 256} {s : State} (h : Kept base s) :
    KeptOut base (execRelayTimeout who tag s) := by
  unfold execRelayTimeout
  try dsimp only
  with_reducible
    repeat' first
      | assumption | apply kept_rapAnswer | apply kept_relayDone | apply kept_ite | simp only [kept_mk] | apply keptD_of | rfl
      | apply keptOut_next | split

end Sys2Proof.Laws
end

