-- ==== Sys2Proof/Laws/KeptTick.lean ====
section
/-!
SUPPORT. Laws/KeptTick.lean: each operation of Machine/Tick.lean keeps what Laws/Kept.lean lists.
-/

set_option linter.unusedVariables false
set_option linter.unusedTactic false
set_option linter.unreachableTactic false

open Sys2Proof Sys2Proof.Machine

namespace Sys2Proof.Laws

theorem kept_tbAdvance {base : State} {s : State} (h : Kept base s) :
    Kept base (tbAdvance s) := by
  unfold tbAdvance
  try dsimp only
  with_reducible
    repeat' first
      | assumption | apply kept_ite | simp only [kept_mk] | apply keptD_of | rfl | split

theorem kept_optAdvance {base : State} {s : State} (h : Kept base s) :
    Kept base (optAdvance s) := by
  unfold optAdvance
  try dsimp only
  with_reducible
    repeat' first
      | assumption | apply kept_ite | simp only [kept_mk] | apply keptD_of | rfl | split

theorem kept_tick {base : State} {s : State} (h : Kept base s) :
    Kept base (tick s) := by
  unfold tick
  try dsimp only
  with_reducible
    repeat' first
      | assumption | apply kept_hwmFollow | apply kept_linkFeed | apply kept_retryTick | apply kept_pairTick | apply kept_forceTick
      | apply kept_loadTick | apply kept_optAdvance | apply kept_tbAdvance | apply kept_ite | split

end Sys2Proof.Laws
end

