-- ==== Sys2Proof/Laws/KeptExec.lean ====
section
/-!
SUPPORT. Laws/KeptExec.lean: every command keeps what Laws/Kept.lean lists.
-/

open Sys2Proof Sys2Proof.Machine

namespace Sys2Proof.Laws

theorem kept_exec (c : Instr) (s : State) : KeptOut s (exec c s) := by
  cases c with
  | powerUp _ => exact kept_execPowerUp (kept_refl s)
  | strapChanged _ => exact kept_execStrapChanged (kept_refl s)
  | levelRise => exact kept_execLevelRise (kept_refl s)
  | vlogOvervoltage _ => exact kept_execVlogOvervoltage (kept_refl s)
  | vlogOvRecover _ => exact kept_execVlogOvRecover (kept_refl s)
  | brownout _ _ => exact kept_execBrownout (kept_refl s)
  | brownoutRestart _ => exact kept_execBrownoutRestart (kept_refl s)
  | vlogLoss => exact kept_execVlogLoss (kept_refl s)
  | activateFw _ => exact kept_execActivateFw (kept_refl s)
  | fwCancel _ => exact kept_execFwCancel (kept_refl s)
  | fwTrialConfirm => exact kept_execFwTrialConfirm (kept_refl s)
  | fwTrialFail => exact kept_execFwTrialFail (kept_refl s)
  | attnNActive => exact kept_execAttnNActive (kept_refl s)
  | attnNInactive => exact kept_execAttnNInactive (kept_refl s)
  | keyoffCondition => exact kept_execKeyoffCondition (kept_refl s)
  | sleep _ => exact kept_execSleep (kept_refl s)
  | stay _ => exact kept_execStay (kept_refl s)
  | keyoffReport x0 => exact kept_execKeyoffReport (_m := x0) (kept_refl s)
  | keyoffStart _ => exact kept_execKeyoffStart (kept_refl s)
  | keyoffForce => exact kept_execKeyoffForce (kept_refl s)
  | wakeCan _ _ => exact kept_execWakeCan (kept_refl s)
  | wakeLink _ => exact kept_execWakeLink (kept_refl s)
  | wakeHalter => exact kept_execWakeHalter (kept_refl s)
  | wakeTimer => exact kept_execWakeTimer (kept_refl s)
  | stayAwakeExpiry => exact kept_execStayAwakeExpiry (kept_refl s)
  | gaitWindow _ => exact kept_execGaitWindow (kept_refl s)
  | clockMonitorWindow _ _ _ => exact kept_execClockMonitorWindow (kept_refl s)
  | clkRefLoss => exact kept_execClkRefLoss (kept_refl s)
  | refReturn => exact kept_execRefReturn (kept_refl s)
  | memoryErrorDetected _ => exact kept_execMemoryErrorDetected (kept_refl s)
  | dualRailError _ => exact kept_execDualRailError (kept_refl s)
  | dramScrub _ => exact kept_execDramScrub (kept_refl s)
  | imgCheck _ => exact kept_execImgCheck (kept_refl s)
  | imgActivate _ => exact kept_execImgActivate (kept_refl s)
  | imgAbort _ => exact kept_execImgAbort (kept_refl s)
  | restartActivate _ => exact kept_execRestartActivate (kept_refl s)
  | imgRevert _ => exact kept_execImgRevert (kept_refl s)
  | teamImage _ => exact kept_execTeamImage (kept_refl s)
  | stagedOk _ _ => exact kept_execStagedOk (kept_refl s)
  | stagingTimeout => exact kept_execStagingTimeout (kept_refl s)
  | prepare _ => exact kept_execPrepare (kept_refl s)
  | swapAbort => exact kept_execSwapAbort (kept_refl s)
  | swapQuiesceStart => exact kept_execSwapQuiesceStart (kept_refl s)
  | swapCommit => exact kept_execSwapCommit (kept_refl s)
  | jointSourceFail _ _ _ => exact kept_execJointSourceFail (kept_refl s)
  | jointSrc1Return _ _ => exact kept_execJointSrc1Return (kept_refl s)
  | jointHoldExpiry _ _ => exact kept_execJointHoldExpiry (kept_refl s)
  | geomPairDiff _ _ _ => exact kept_execGeomPairDiff (kept_refl s)
  | inputEdgeAccepted _ _ _ _ => exact kept_execInputEdgeAccepted (kept_refl s)
  | fastEdge _ => exact kept_execFastEdge (kept_refl s)
  | chFaultClear _ => exact kept_execChFaultClear (kept_refl s)
  | wireBreak _ _ => exact kept_execWireBreak (kept_refl s)
  | indexTimeout _ _ => exact kept_execIndexTimeout (kept_refl s)
  | fbiLoad _ _ => exact kept_execFbiLoad (kept_refl s)
  | fbiArm _ _ => exact kept_execFbiArm (kept_refl s)
  | fbiClear _ _ => exact kept_execFbiClear (kept_refl s)
  | cmpValHiWrite _ _ _ => exact kept_execCmpValHiWrite (kept_refl s)
  | cmpPulseEnd _ => exact kept_execCmpPulseEnd (kept_refl s)
  | ssiRead _ _ _ _ _ => exact kept_execSsiRead (kept_refl s)
  | ainSample _ _ _ => exact kept_execAinSample (kept_refl s)
  | shuntOpen _ => exact kept_execShuntOpen (kept_refl s)
  | shuntClose _ _ => exact kept_execShuntClose (kept_refl s)
  | supplyLimitOff _ => exact kept_execSupplyLimitOff (kept_refl s)
  | supplyRetry _ => exact kept_execSupplyRetry (kept_refl s)
  | antBiasCheck _ => exact kept_execAntBiasCheck (kept_refl s)
  | antShort => exact kept_execAntShort (kept_refl s)
  | antBiasRetry => exact kept_execAntBiasRetry (kept_refl s)
  | availabilityEval _ => exact kept_execAvailabilityEval (kept_refl s)
  | acqRound _ => exact kept_execAcqRound (kept_refl s)
  | pullInTimeout _ => exact kept_execPullInTimeout (kept_refl s)
  | acqPowerOff => exact kept_execAcqPowerOff (kept_refl s)
  | trackingDump _ _ => exact kept_execTrackingDump (kept_refl s)
  | cn0Loss _ => exact kept_execCn0Loss (kept_refl s)
  | epochStrobe _ => exact kept_execEpochStrobe (kept_refl s)
  | gnssRecord _ _ _ => exact kept_execGnssRecord (kept_refl s)
  | exclusionEnd _ _ => exact kept_execExclusionEnd (kept_refl s)
  | suspectClear _ => exact kept_execSuspectClear (kept_refl s)
  | spoofClear => exact kept_execSpoofClear (kept_refl s)
  | interferenceFft _ _ _ => exact kept_execInterferenceFft (kept_refl s)
  | nomGainUpdate => exact kept_execNomGainUpdate (kept_refl s)
  | poseRecordPublish _ => exact kept_execPoseRecordPublish (kept_refl s)
  | poseRecord _ => exact kept_execPoseRecord (kept_refl s)
  | drLimitExpiry => exact kept_execDrLimitExpiry (kept_refl s)
  | rtcmMessage _ _ _ _ _ => exact kept_execRtcmMessage (kept_refl s)
  | externalPosePgn _ _ _ _ _ => exact kept_execExternalPosePgn (kept_refl s)
  | speedMessage _ _ _ => exact kept_execSpeedMessage (kept_refl s)
  | insSample _ => exact kept_execInsSample (kept_refl s)
  | ttOfsAnnounce _ _ _ => exact kept_execTtOfsAnnounce (kept_refl s)
  | ttOfsApply => exact kept_execTtOfsApply (kept_refl s)
  | holdoverLimit => exact kept_execHoldoverLimit (kept_refl s)
  | tpoPulse _ => exact kept_execTpoPulse (kept_refl s)
  | tpoPulseEnd => exact kept_execTpoPulseEnd (kept_refl s)
  | slewEnd => exact kept_execSlewEnd (kept_refl s)
  | strideBoundary => exact kept_execStrideBoundary (kept_refl s)
  | strideCutoff _ => exact kept_execStrideCutoff (kept_refl s)
  | strideFullRestore => exact kept_execStrideFullRestore (kept_refl s)
  | strideWriteback _ => exact kept_execStrideWriteback (kept_refl s)
  | eventCommit _ => exact kept_execEventCommit (kept_refl s)
  | recentPlaneSweep => exact kept_execRecentPlaneSweep (kept_refl s)
  | debugHalt _ => exact kept_execDebugHalt (kept_refl s)
  | debugResume _ => exact kept_execDebugResume (kept_refl s)
  | tileFill _ => exact kept_execTileFill (kept_refl s)
  | commitStrip _ => exact kept_execCommitStrip (kept_refl s)
  | holeResend _ _ _ => exact kept_execHoleResend (kept_refl s)
  | resendRequest _ _ _ => exact kept_execResendRequest (kept_refl s)
  | replicaHole _ _ _ => exact kept_execReplicaHole (kept_refl s)
  | catchUpStart _ => exact kept_execCatchUpStart (kept_refl s)
  | catchUpSeqTable _ _ _ => exact kept_execCatchUpSeqTable (kept_refl s)
  | catchUpTile _ _ _ => exact kept_execCatchUpTile (kept_refl s)
  | jobLoad _ _ => exact kept_execJobLoad (kept_refl s)
  | jobLoadDone => exact kept_execJobLoadDone (kept_refl s)
  | jobDefinition _ => exact kept_execJobDefinition (kept_refl s)
  | rasterHash _ _ => exact kept_execRasterHash (kept_refl s)
  | rasterHashTimeout _ => exact kept_execRasterHashTimeout (kept_refl s)
  | jobStart _ => exact kept_execJobStart (kept_refl s)
  | jobSuspend _ => exact kept_execJobSuspend (kept_refl s)
  | jobResume _ => exact kept_execJobResume (kept_refl s)
  | jobRunApply _ => exact kept_execJobRunApply (kept_refl s)
  | jobSuspended _ => exact kept_execJobSuspended (kept_refl s)
  | jobClose _ => exact kept_execJobClose (kept_refl s)
  | jobCloseDone _ => exact kept_execJobCloseDone (kept_refl s)
  | jobDiscard _ => exact kept_execJobDiscard (kept_refl s)
  | jobExport _ => exact kept_execJobExport (kept_refl s)
  | exportDone => exact kept_execExportDone (kept_refl s)
  | addExcl _ _ _ => exact kept_execAddExcl (kept_refl s)
  | exclAck _ _ => exact kept_execExclAck (kept_refl s)
  | exclApply _ _ => exact kept_execExclApply (kept_refl s)
  | jobStore _ => exact kept_execJobStore (kept_refl s)
  | masterWrite _ _ => exact kept_execMasterWrite (kept_refl s)
  | secswWrite _ _ _ => exact kept_execSecswWrite (kept_refl s)
  | stallWrite _ _ _ => exact kept_execStallWrite (kept_refl s)
  | teamStateChange x0 _ => exact kept_execTeamStateChange (_m := x0) (kept_refl s)
  | sectionStateApply _ _ => exact kept_execSectionStateApply (kept_refl s)
  | modeReqWrite _ _ => exact kept_execModeReqWrite (kept_refl s)
  | tcSetpoint _ _ _ => exact kept_execTcSetpoint (kept_refl s)
  | tcStatus _ _ => exact kept_execTcStatus (kept_refl s)
  | tcLoss => exact kept_execTcLoss (kept_refl s)
  | modeChangeApply _ _ => exact kept_execModeChangeApply (kept_refl s)
  | alleySet _ => exact kept_execAlleySet (kept_refl s)
  | alleyOrient _ _ => exact kept_execAlleyOrient (kept_refl s)
  | shadowWrite _ _ _ _ => exact kept_execShadowWrite (kept_refl s)
  | loadAll _ _ _ => exact kept_execLoadAll (kept_refl s)
  | lgCancel _ _ => exact kept_execLgCancel (kept_refl s)
  | lgTransfer _ => exact kept_execLgTransfer (kept_refl s)
  | forceCommit _ _ => exact kept_execForceCommit (kept_refl s)
  | forceClearAll _ => exact kept_execForceClearAll (kept_refl s)
  | forceTimeout => exact kept_execForceTimeout (kept_refl s)
  | tripActive _ => exact kept_execTripActive (kept_refl s)
  | tripInactive _ => exact kept_execTripInactive (kept_refl s)
  | tripClear _ _ => exact kept_execTripClear (kept_refl s)
  | tripAutoRelease _ => exact kept_execTripAutoRelease (kept_refl s)
  | tripSafeSample _ => exact kept_execTripSafeSample (kept_refl s)
  | ownWrite _ => exact kept_execOwnWrite (kept_refl s)
  | wdExpired => exact kept_execWdExpired (kept_refl s)
  | wdSuspendWrite _ _ => exact kept_execWdSuspendWrite (kept_refl s)
  | currentSample _ _ _ _ _ => exact kept_execCurrentSample (kept_refl s)
  | olUnknown _ => exact kept_execOlUnknown (kept_refl s)
  | shortTrip _ => exact kept_execShortTrip (kept_refl s)
  | retry _ => exact kept_execRetry (kept_refl s)
  | retryWindowEnd _ => exact kept_execRetryWindowEnd (kept_refl s)
  | thermalOff _ => exact kept_execThermalOff (kept_refl s)
  | thermalOn _ => exact kept_execThermalOn (kept_refl s)
  | clusterWarn _ _ => exact kept_execClusterWarn (kept_refl s)
  | clusterWarnClear _ _ => exact kept_execClusterWarnClear (kept_refl s)
  | clampEvent _ _ _ _ => exact kept_execClampEvent (kept_refl s)
  | channelClear _ _ => exact kept_execChannelClear (kept_refl s)
  | latchAutoClear _ => exact kept_execLatchAutoClear (kept_refl s)
  | feedUv _ => exact kept_execFeedUv (kept_refl s)
  | feedRestart _ => exact kept_execFeedRestart (kept_refl s)
  | feedRestartSecond _ => exact kept_execFeedRestartSecond (kept_refl s)
  | feedOverload _ => exact kept_execFeedOverload (kept_refl s)
  | segmentStuckCheck _ _ => exact kept_execSegmentStuckCheck (kept_refl s)
  | pairWiredUpdate _ _ _ _ _ _ => exact kept_execPairWiredUpdate (kept_refl s)
  | hbDesat _ => exact kept_execHbDesat (kept_refl s)
  | hbDrvUv _ => exact kept_execHbDrvUv (kept_refl s)
  | hbDrvUvRelease _ => exact kept_execHbDrvUvRelease (kept_refl s)
  | hbClear _ _ => exact kept_execHbClear (kept_refl s)
  | halterInput _ _ => exact kept_execHalterInput (kept_refl s)
  | halterEnActive => exact kept_execHalterEnActive (kept_refl s)
  | coreNotAlive => exact kept_execCoreNotAlive (kept_refl s)
  | halterEnInactive => exact kept_execHalterEnInactive (kept_refl s)
  | halterPulse _ => exact kept_execHalterPulse (kept_refl s)
  | halterStuck _ => exact kept_execHalterStuck (kept_refl s)
  | loopStep _ _ => exact kept_execLoopStep (kept_refl s)
  | loopLate _ => exact kept_execLoopLate (kept_refl s)
  | loopHoldTimeout _ => exact kept_execLoopHoldTimeout (kept_refl s)
  | loopAuto _ _ => exact kept_execLoopAuto (kept_refl s)
  | loopManual _ _ => exact kept_execLoopManual (kept_refl s)
  | curbAuto _ _ => exact kept_execCurbAuto (kept_refl s)
  | curbManual _ _ => exact kept_execCurbManual (kept_refl s)
  | traceArm _ => exact kept_execTraceArm (kept_refl s)
  | traceStop _ => exact kept_execTraceStop (kept_refl s)
  | traceForce _ => exact kept_execTraceForce (kept_refl s)
  | injStart _ => exact kept_execInjStart (kept_refl s)
  | injStop _ => exact kept_execInjStop (kept_refl s)
  | injDurationEnd => exact kept_execInjDurationEnd (kept_refl s)
  | canFrame _ _ _ => exact kept_execCanFrame (kept_refl s)
  | canQueueDrain _ _ => exact kept_execCanQueueDrain (kept_refl s)
  | canError _ _ _ _ _ => exact kept_execCanError (kept_refl s)
  | busOffRecovery _ => exact kept_execBusOffRecovery (kept_refl s)
  | canRecover _ _ => exact kept_execCanRecover (kept_refl s)
  | canModeWrite _ _ _ => exact kept_execCanModeWrite (kept_refl s)
  | canModeApply _ => exact kept_execCanModeApply (kept_refl s)
  | slotArm _ _ _ => exact kept_execSlotArm (kept_refl s)
  | slotAbort _ _ _ => exact kept_execSlotAbort (kept_refl s)
  | startOpportunity _ _ => exact kept_execStartOpportunity (kept_refl s)
  | canTxEnd _ _ _ => exact kept_execCanTxEnd (kept_refl s)
  | addressClaim _ => exact kept_execAddressClaim (kept_refl s)
  | claimQuietEnd _ => exact kept_execClaimQuietEnd (kept_refl s)
  | addressClaimedReceived _ _ _ => exact kept_execAddressClaimedReceived (kept_refl s)
  | requestAddressClaimed _ => exact kept_execRequestAddressClaimed (kept_refl s)
  | commandedAddress _ _ _ => exact kept_execCommandedAddress (kept_refl s)
  | dm3Clear _ => exact kept_execDm3Clear (kept_refl s)
  | dm11Clear _ => exact kept_execDm11Clear (kept_refl s)
  | isoTransport _ _ _ _ _ _ _ => exact kept_execIsoTransport (kept_refl s)
  | linkFrame _ _ _ => exact kept_execLinkFrame (kept_refl s)
  | lcFrame _ _ => exact kept_execLcFrame (kept_refl s)
  | linkAckTimeout _ _ => exact kept_execLinkAckTimeout (kept_refl s)
  | linkDown _ => exact kept_execLinkDown (kept_refl s)
  | linkTraining _ => exact kept_execLinkTraining (kept_refl s)
  | linkUp _ _ => exact kept_execLinkUp (kept_refl s)
  | helloSend => exact kept_execHelloSend (kept_refl s)
  | hello _ _ => exact kept_execHello (kept_refl s)
  | discoveryEnd => exact kept_execDiscoveryEnd (kept_refl s)
  | leaderBeatSend => exact kept_execLeaderBeatSend (kept_refl s)
  | leaderBeat _ _ _ => exact kept_execLeaderBeat (kept_refl s)
  | leaderLost => exact kept_execLeaderLost (kept_refl s)
  | roleMoveApply _ _ => exact kept_execRoleMoveApply (kept_refl s)
  | routingTable _ => exact kept_execRoutingTable (kept_refl s)
  | routingTableApply => exact kept_execRoutingTableApply (kept_refl s)
  | timeSyncRequest _ _ => exact kept_execTimeSyncRequest (kept_refl s)
  | timeSyncRequestRx _ _ _ => exact kept_execTimeSyncRequestRx (kept_refl s)
  | timeSyncReply _ _ _ _ _ => exact kept_execTimeSyncReply (kept_refl s)
  | tbSlewDone => exact kept_execTbSlewDone (kept_refl s)
  | shadowState _ _ => exact kept_execShadowState (kept_refl s)
  | plHeartbeatSend => exact kept_execPlHeartbeatSend (kept_refl s)
  | plHeartbeat _ _ _ _ => exact kept_execPlHeartbeat (kept_refl s)
  | partnerLost => exact kept_execPartnerLost (kept_refl s)
  | takeoverComplete => exact kept_execTakeoverComplete (kept_refl s)
  | driveClaim _ x1 => exact kept_execDriveClaim (_T := x1) (kept_refl s)
  | positionSafe _ => exact kept_execPositionSafe (kept_refl s)
  | partnerAbsentReport => exact kept_execPartnerAbsentReport (kept_refl s)
  | pairUnresolved => exact kept_execPairUnresolved (kept_refl s)
  | handover _ => exact kept_execHandover (kept_refl s)
  | handoverApply => exact kept_execHandoverApply (kept_refl s)
  | safetyEvaluation _ _ _ _ _ _ _ _ _ => exact kept_execSafetyEvaluation (kept_refl s)
  | islandHeartbeatLoss => exact kept_execIslandHeartbeatLoss (kept_refl s)
  | siChannelAccepted _ _ => exact kept_execSiChannelAccepted (kept_refl s)
  | testPulse _ _ _ _ => exact kept_execTestPulse (kept_refl s)
  | discrepancy _ => exact kept_execDiscrepancy (kept_refl s)
  | soOffPulseTest _ _ _ => exact kept_execSoOffPulseTest (kept_refl s)
  | soPrecloseTest _ _ => exact kept_execSoPrecloseTest (kept_refl s)
  | soStuck _ => exact kept_execSoStuck (kept_refl s)
  | soOpenFail _ => exact kept_execSoOpenFail (kept_refl s)
  | srstEdge => exact kept_execSrstEdge (kept_refl s)
  | srstStuck => exact kept_execSrstStuck (kept_refl s)
  | soAutoRestart _ => exact kept_execSoAutoRestart (kept_refl s)
  | safetyPduSend _ => exact kept_execSafetyPduSend (kept_refl s)
  | safetyPdu _ _ _ _ _ _ _ _ => exact kept_execSafetyPdu (kept_refl s)
  | connTimeout _ => exact kept_execConnTimeout (kept_refl s)
  | tlsHandshake _ => exact kept_execTlsHandshake (kept_refl s)
  | tlsIdleTimeout _ => exact kept_execTlsIdleTimeout (kept_refl s)
  | tlsLifetimeEnd _ => exact kept_execTlsLifetimeEnd (kept_refl s)
  | tlsKeyUpdate _ _ => exact kept_execTlsKeyUpdate (kept_refl s)
  | rapSession _ _ _ => exact kept_execRapSession (kept_refl s)
  | canSessionRekey _ => exact kept_execCanSessionRekey (kept_refl s)
  | ttHwmStore => exact kept_execTtHwmStore (kept_refl s)
  | enrollOwner _ => exact kept_execEnrollOwner (kept_refl s)
  | bindLivery _ => exact kept_execBindLivery (kept_refl s)
  | selectLivery _ => exact kept_execSelectLivery (kept_refl s)
  | installLease _ => exact kept_execInstallLease (kept_refl s)
  | revokeLease _ => exact kept_execRevokeLease (kept_refl s)
  | closeLease _ => exact kept_execCloseLease (kept_refl s)
  | leaseExpiry _ => exact kept_execLeaseExpiry (kept_refl s)
  | transfer _ => exact kept_execTransfer (kept_refl s)
  | transferApply => exact kept_execTransferApply (kept_refl s)
  | reclaim _ => exact kept_execReclaim (kept_refl s)
  | unlock _ => exact kept_execUnlock (kept_refl s)
  | relock _ => exact kept_execRelock (kept_refl s)
  | unlockExpiry => exact kept_execUnlockExpiry (kept_refl s)
  | tskRotation => exact kept_execTskRotation (kept_refl s)
  | brdChalRead _ => exact kept_execBrdChalRead (kept_refl s)
  | stbChalRead _ => exact kept_execStbChalRead (kept_refl s)
  | laneSlice _ => exact kept_execLaneSlice (kept_refl s)
  | laneSliceResult _ _ _ _ => exact kept_execLaneSliceResult (kept_refl s)
  | navCoreSlice _ _ => exact kept_execNavCoreSlice (kept_refl s)
  | acqTileSlice _ _ => exact kept_execAcqTileSlice (kept_refl s)
  | trkBankSlice _ _ => exact kept_execTrkBankSlice (kept_refl s)
  | sramRowTest _ _ _ => exact kept_execSramRowTest (kept_refl s)
  | dramPageTest _ _ _ _ => exact kept_execDramPageTest (kept_refl s)
  | curAdcReference _ _ => exact kept_execCurAdcReference (kept_refl s)
  | ainResample _ _ => exact kept_execAinResample (kept_refl s)
  | retest _ _ _ _ => exact kept_execRetest (kept_refl s)
  | farrierPause _ => exact kept_execFarrierPause (kept_refl s)
  | farrierResume _ => exact kept_execFarrierResume (kept_refl s)
  | recordWrite => exact kept_execRecordWrite (kept_refl s)
  | droppedRecord => exact kept_execDroppedRecord (kept_refl s)
  | tbMark => exact kept_execTbMark (kept_refl s)
  | optSave => exact kept_execOptSave (kept_refl s)
  | freeze _ => exact kept_execFreeze (kept_refl s)
  | unfreeze _ => exact kept_execUnfreeze (kept_refl s)
  | freezeTimeout => exact kept_execFreezeTimeout (kept_refl s)
  | stbClear _ _ _ => exact kept_execStbClear (kept_refl s)
  | stbExport _ _ => exact kept_execStbExport (kept_refl s)
  | collect _ _ => exact kept_execCollect (kept_refl s)
  | collectAnswer _ _ _ _ _ => exact kept_execCollectAnswer (kept_refl s)
  | collectTimeout _ => exact kept_execCollectTimeout (kept_refl s)
  | faultReport => exact kept_execFaultReport (kept_refl s)
  | fmHeartbeatLoss => exact kept_execFmHeartbeatLoss (kept_refl s)
  | domainBack _ _ => exact kept_execDomainBack (kept_refl s)
  | domainLost _ => exact kept_execDomainLost (kept_refl s)
  | emmcLifeCheck _ _ _ => exact kept_execEmmcLifeCheck (kept_refl s)
  | rapRead _ _ _ _ _ => exact kept_execRapRead (kept_refl s)
  | rapWrite _ _ _ _ _ => exact kept_execRapWrite (kept_refl s)
  | readLoLatch _ _ => exact kept_execReadLoLatch (kept_refl s)
  | blkOpen _ _ _ _ _ _ _ => exact kept_execBlkOpen (kept_refl s)
  | blkData _ _ _ _ _ _ _ => exact kept_execBlkData (kept_refl s)
  | blkClose _ _ _ _ _ => exact kept_execBlkClose (kept_refl s)
  | rapRelayRequest _ _ _ _ _ _ => exact kept_execRapRelayRequest (kept_refl s)
  | rapRelayResponse _ _ _ _ _ => exact kept_execRapRelayResponse (kept_refl s)
  | relayTimeout _ _ => exact kept_execRelayTimeout (kept_refl s)
  | vlogLow _ => exact kept_execVlogLow (kept_refl s)
  | vlogHigh _ => exact kept_execVlogHigh (kept_refl s)
  | wireBreakEnd _ _ => exact kept_execWireBreakEnd (kept_refl s)
  | inertialSilence => exact kept_execInertialSilence (kept_refl s)
  | lateLimExpiry _ _ => exact kept_execLateLimExpiry (kept_refl s)
  | txTbReached _ _ => exact kept_execTxTbReached (kept_refl s)
  | rekeyTimeout _ => exact kept_execRekeyTimeout (kept_refl s)
  | partnerAck _ _ => exact kept_execPartnerAck (kept_refl s)
  | leaseFrom _ => exact kept_execLeaseFrom (kept_refl s)
  | teamRestart => exact kept_execTeamRestart (kept_refl s)
  | tlsError _ => exact kept_execTlsError (kept_refl s)

end Sys2Proof.Laws
end

