-- ==== Sys2Proof/Laws/State.lean ====
section
/-!
SUPPORT. Laws/State.lean: the fields that each named update leaves alone, one lemma per field per update.
-/

set_option linter.unusedVariables false

open Sys2Proof Sys2Proof.Machine

namespace Sys2Proof.Laws

section rset
variable (s : State) (a : Nat) (w : Word)
@[simp] theorem rset_pending : (rset s a w).pending = s.pending := rfl
@[simp] theorem rset_tb : (rset s a w).tb = s.tb := rfl
@[simp] theorem rset_pwr : (rset s a w).pwr = s.pwr := rfl
@[simp] theorem rset_img : (rset s a w).img = s.img := rfl
@[simp] theorem rset_cfg : (rset s a w).cfg = s.cfg := rfl
@[simp] theorem rset_geo : (rset s a w).geo = s.geo := rfl
@[simp] theorem rset_fbi : (rset s a w).fbi = s.fbi := rfl
@[simp] theorem rset_gns : (rset s a w).gns = s.gns := rfl
@[simp] theorem rset_pos : (rset s a w).pos = s.pos := rfl
@[simp] theorem rset_str : (rset s a w).str = s.str := rfl
@[simp] theorem rset_saf : (rset s a w).saf = s.saf := rfl
@[simp] theorem rset_cov : (rset s a w).cov = s.cov := rfl
@[simp] theorem rset_pwm : (rset s a w).pwm = s.pwm := rfl
@[simp] theorem rset_lsw : (rset s a w).lsw = s.lsw := rfl
@[simp] theorem rset_ctl : (rset s a w).ctl = s.ctl := rfl
@[simp] theorem rset_can : (rset s a w).can = s.can := rfl
@[simp] theorem rset_team : (rset s a w).team = s.team := rfl
@[simp] theorem rset_brd : (rset s a w).brd = s.brd := rfl
@[simp] theorem rset_far : (rset s a w).far = s.far := rfl
@[simp] theorem rset_stb : (rset s a w).stb = s.stb := rfl
@[simp] theorem rset_flt : (rset s a w).flt = s.flt := rfl
@[simp] theorem rset_rap : (rset s a w).rap = s.rap := rfl
@[simp] theorem rset_sent : (rset s a w).sent = s.sent := rfl
@[simp] theorem rset_freeCnt : (rset s a w).freeCnt = s.freeCnt := rfl
end rset

section rclear
variable (s : State) (p : Nat → Bool)
@[simp] theorem rclear_pending : (rclear s p).pending = s.pending := rfl
@[simp] theorem rclear_tb : (rclear s p).tb = s.tb := rfl
@[simp] theorem rclear_pwr : (rclear s p).pwr = s.pwr := rfl
@[simp] theorem rclear_img : (rclear s p).img = s.img := rfl
@[simp] theorem rclear_cfg : (rclear s p).cfg = s.cfg := rfl
@[simp] theorem rclear_geo : (rclear s p).geo = s.geo := rfl
@[simp] theorem rclear_fbi : (rclear s p).fbi = s.fbi := rfl
@[simp] theorem rclear_gns : (rclear s p).gns = s.gns := rfl
@[simp] theorem rclear_pos : (rclear s p).pos = s.pos := rfl
@[simp] theorem rclear_str : (rclear s p).str = s.str := rfl
@[simp] theorem rclear_saf : (rclear s p).saf = s.saf := rfl
@[simp] theorem rclear_cov : (rclear s p).cov = s.cov := rfl
@[simp] theorem rclear_pwm : (rclear s p).pwm = s.pwm := rfl
@[simp] theorem rclear_lsw : (rclear s p).lsw = s.lsw := rfl
@[simp] theorem rclear_ctl : (rclear s p).ctl = s.ctl := rfl
@[simp] theorem rclear_can : (rclear s p).can = s.can := rfl
@[simp] theorem rclear_team : (rclear s p).team = s.team := rfl
@[simp] theorem rclear_brd : (rclear s p).brd = s.brd := rfl
@[simp] theorem rclear_far : (rclear s p).far = s.far := rfl
@[simp] theorem rclear_stb : (rclear s p).stb = s.stb := rfl
@[simp] theorem rclear_flt : (rclear s p).flt = s.flt := rfl
@[simp] theorem rclear_rap : (rclear s p).rap = s.rap := rfl
@[simp] theorem rclear_sent : (rclear s p).sent = s.sent := rfl
@[simp] theorem rclear_freeCnt : (rclear s p).freeCnt = s.freeCnt := rfl
end rclear

section fset
variable (s : State) (a : Nat) (f : Fld) (v : Nat)
@[simp] theorem fset_pending : (fset s a f v).pending = s.pending := rset_pending s a _
@[simp] theorem fset_tb : (fset s a f v).tb = s.tb := rset_tb s a _
@[simp] theorem fset_pwr : (fset s a f v).pwr = s.pwr := rset_pwr s a _
@[simp] theorem fset_img : (fset s a f v).img = s.img := rset_img s a _
@[simp] theorem fset_cfg : (fset s a f v).cfg = s.cfg := rset_cfg s a _
@[simp] theorem fset_geo : (fset s a f v).geo = s.geo := rset_geo s a _
@[simp] theorem fset_fbi : (fset s a f v).fbi = s.fbi := rset_fbi s a _
@[simp] theorem fset_gns : (fset s a f v).gns = s.gns := rset_gns s a _
@[simp] theorem fset_pos : (fset s a f v).pos = s.pos := rset_pos s a _
@[simp] theorem fset_str : (fset s a f v).str = s.str := rset_str s a _
@[simp] theorem fset_saf : (fset s a f v).saf = s.saf := rset_saf s a _
@[simp] theorem fset_cov : (fset s a f v).cov = s.cov := rset_cov s a _
@[simp] theorem fset_pwm : (fset s a f v).pwm = s.pwm := rset_pwm s a _
@[simp] theorem fset_lsw : (fset s a f v).lsw = s.lsw := rset_lsw s a _
@[simp] theorem fset_ctl : (fset s a f v).ctl = s.ctl := rset_ctl s a _
@[simp] theorem fset_can : (fset s a f v).can = s.can := rset_can s a _
@[simp] theorem fset_team : (fset s a f v).team = s.team := rset_team s a _
@[simp] theorem fset_brd : (fset s a f v).brd = s.brd := rset_brd s a _
@[simp] theorem fset_far : (fset s a f v).far = s.far := rset_far s a _
@[simp] theorem fset_stb : (fset s a f v).stb = s.stb := rset_stb s a _
@[simp] theorem fset_flt : (fset s a f v).flt = s.flt := rset_flt s a _
@[simp] theorem fset_rap : (fset s a f v).rap = s.rap := rset_rap s a _
@[simp] theorem fset_sent : (fset s a f v).sent = s.sent := rset_sent s a _
@[simp] theorem fset_freeCnt : (fset s a f v).freeCnt = s.freeCnt := rset_freeCnt s a _
end fset

section fsetb
variable (s : State) (a : Nat) (f : Fld) (b : Bool)
@[simp] theorem fsetb_pending : (fsetb s a f b).pending = s.pending := fset_pending s a f _
@[simp] theorem fsetb_tb : (fsetb s a f b).tb = s.tb := fset_tb s a f _
@[simp] theorem fsetb_pwr : (fsetb s a f b).pwr = s.pwr := fset_pwr s a f _
@[simp] theorem fsetb_img : (fsetb s a f b).img = s.img := fset_img s a f _
@[simp] theorem fsetb_cfg : (fsetb s a f b).cfg = s.cfg := fset_cfg s a f _
@[simp] theorem fsetb_geo : (fsetb s a f b).geo = s.geo := fset_geo s a f _
@[simp] theorem fsetb_fbi : (fsetb s a f b).fbi = s.fbi := fset_fbi s a f _
@[simp] theorem fsetb_gns : (fsetb s a f b).gns = s.gns := fset_gns s a f _
@[simp] theorem fsetb_pos : (fsetb s a f b).pos = s.pos := fset_pos s a f _
@[simp] theorem fsetb_str : (fsetb s a f b).str = s.str := fset_str s a f _
@[simp] theorem fsetb_saf : (fsetb s a f b).saf = s.saf := fset_saf s a f _
@[simp] theorem fsetb_cov : (fsetb s a f b).cov = s.cov := fset_cov s a f _
@[simp] theorem fsetb_pwm : (fsetb s a f b).pwm = s.pwm := fset_pwm s a f _
@[simp] theorem fsetb_lsw : (fsetb s a f b).lsw = s.lsw := fset_lsw s a f _
@[simp] theorem fsetb_ctl : (fsetb s a f b).ctl = s.ctl := fset_ctl s a f _
@[simp] theorem fsetb_can : (fsetb s a f b).can = s.can := fset_can s a f _
@[simp] theorem fsetb_team : (fsetb s a f b).team = s.team := fset_team s a f _
@[simp] theorem fsetb_brd : (fsetb s a f b).brd = s.brd := fset_brd s a f _
@[simp] theorem fsetb_far : (fsetb s a f b).far = s.far := fset_far s a f _
@[simp] theorem fsetb_stb : (fsetb s a f b).stb = s.stb := fset_stb s a f _
@[simp] theorem fsetb_flt : (fsetb s a f b).flt = s.flt := fset_flt s a f _
@[simp] theorem fsetb_rap : (fsetb s a f b).rap = s.rap := fset_rap s a f _
@[simp] theorem fsetb_sent : (fsetb s a f b).sent = s.sent := fset_sent s a f _
@[simp] theorem fsetb_freeCnt : (fsetb s a f b).freeCnt = s.freeCnt := fset_freeCnt s a f _
end fsetb

section fincSat
variable (s : State) (a : Nat) (f : Fld)
@[simp] theorem fincSat_pending : (fincSat s a f).pending = s.pending := fset_pending s a f _
@[simp] theorem fincSat_tb : (fincSat s a f).tb = s.tb := fset_tb s a f _
@[simp] theorem fincSat_pwr : (fincSat s a f).pwr = s.pwr := fset_pwr s a f _
@[simp] theorem fincSat_img : (fincSat s a f).img = s.img := fset_img s a f _
@[simp] theorem fincSat_cfg : (fincSat s a f).cfg = s.cfg := fset_cfg s a f _
@[simp] theorem fincSat_geo : (fincSat s a f).geo = s.geo := fset_geo s a f _
@[simp] theorem fincSat_fbi : (fincSat s a f).fbi = s.fbi := fset_fbi s a f _
@[simp] theorem fincSat_gns : (fincSat s a f).gns = s.gns := fset_gns s a f _
@[simp] theorem fincSat_pos : (fincSat s a f).pos = s.pos := fset_pos s a f _
@[simp] theorem fincSat_str : (fincSat s a f).str = s.str := fset_str s a f _
@[simp] theorem fincSat_saf : (fincSat s a f).saf = s.saf := fset_saf s a f _
@[simp] theorem fincSat_cov : (fincSat s a f).cov = s.cov := fset_cov s a f _
@[simp] theorem fincSat_pwm : (fincSat s a f).pwm = s.pwm := fset_pwm s a f _
@[simp] theorem fincSat_lsw : (fincSat s a f).lsw = s.lsw := fset_lsw s a f _
@[simp] theorem fincSat_ctl : (fincSat s a f).ctl = s.ctl := fset_ctl s a f _
@[simp] theorem fincSat_can : (fincSat s a f).can = s.can := fset_can s a f _
@[simp] theorem fincSat_team : (fincSat s a f).team = s.team := fset_team s a f _
@[simp] theorem fincSat_brd : (fincSat s a f).brd = s.brd := fset_brd s a f _
@[simp] theorem fincSat_far : (fincSat s a f).far = s.far := fset_far s a f _
@[simp] theorem fincSat_stb : (fincSat s a f).stb = s.stb := fset_stb s a f _
@[simp] theorem fincSat_flt : (fincSat s a f).flt = s.flt := fset_flt s a f _
@[simp] theorem fincSat_rap : (fincSat s a f).rap = s.rap := fset_rap s a f _
@[simp] theorem fincSat_sent : (fincSat s a f).sent = s.sent := fset_sent s a f _
@[simp] theorem fincSat_freeCnt : (fincSat s a f).freeCnt = s.freeCnt := fset_freeCnt s a f _
end fincSat

section faddSat
variable (s : State) (a : Nat) (f : Fld) (n : Nat)
@[simp] theorem faddSat_pending : (faddSat s a f n).pending = s.pending := fset_pending s a f _
@[simp] theorem faddSat_tb : (faddSat s a f n).tb = s.tb := fset_tb s a f _
@[simp] theorem faddSat_pwr : (faddSat s a f n).pwr = s.pwr := fset_pwr s a f _
@[simp] theorem faddSat_img : (faddSat s a f n).img = s.img := fset_img s a f _
@[simp] theorem faddSat_cfg : (faddSat s a f n).cfg = s.cfg := fset_cfg s a f _
@[simp] theorem faddSat_geo : (faddSat s a f n).geo = s.geo := fset_geo s a f _
@[simp] theorem faddSat_fbi : (faddSat s a f n).fbi = s.fbi := fset_fbi s a f _
@[simp] theorem faddSat_gns : (faddSat s a f n).gns = s.gns := fset_gns s a f _
@[simp] theorem faddSat_pos : (faddSat s a f n).pos = s.pos := fset_pos s a f _
@[simp] theorem faddSat_str : (faddSat s a f n).str = s.str := fset_str s a f _
@[simp] theorem faddSat_saf : (faddSat s a f n).saf = s.saf := fset_saf s a f _
@[simp] theorem faddSat_cov : (faddSat s a f n).cov = s.cov := fset_cov s a f _
@[simp] theorem faddSat_pwm : (faddSat s a f n).pwm = s.pwm := fset_pwm s a f _
@[simp] theorem faddSat_lsw : (faddSat s a f n).lsw = s.lsw := fset_lsw s a f _
@[simp] theorem faddSat_ctl : (faddSat s a f n).ctl = s.ctl := fset_ctl s a f _
@[simp] theorem faddSat_can : (faddSat s a f n).can = s.can := fset_can s a f _
@[simp] theorem faddSat_team : (faddSat s a f n).team = s.team := fset_team s a f _
@[simp] theorem faddSat_brd : (faddSat s a f n).brd = s.brd := fset_brd s a f _
@[simp] theorem faddSat_far : (faddSat s a f n).far = s.far := fset_far s a f _
@[simp] theorem faddSat_stb : (faddSat s a f n).stb = s.stb := fset_stb s a f _
@[simp] theorem faddSat_flt : (faddSat s a f n).flt = s.flt := fset_flt s a f _
@[simp] theorem faddSat_rap : (faddSat s a f n).rap = s.rap := fset_rap s a f _
@[simp] theorem faddSat_sent : (faddSat s a f n).sent = s.sent := fset_sent s a f _
@[simp] theorem faddSat_freeCnt : (faddSat s a f n).freeCnt = s.freeCnt := fset_freeCnt s a f _
end faddSat

section fincWrap
variable (s : State) (a : Nat) (f : Fld)
@[simp] theorem fincWrap_pending : (fincWrap s a f).pending = s.pending := fset_pending s a f _
@[simp] theorem fincWrap_tb : (fincWrap s a f).tb = s.tb := fset_tb s a f _
@[simp] theorem fincWrap_pwr : (fincWrap s a f).pwr = s.pwr := fset_pwr s a f _
@[simp] theorem fincWrap_img : (fincWrap s a f).img = s.img := fset_img s a f _
@[simp] theorem fincWrap_cfg : (fincWrap s a f).cfg = s.cfg := fset_cfg s a f _
@[simp] theorem fincWrap_geo : (fincWrap s a f).geo = s.geo := fset_geo s a f _
@[simp] theorem fincWrap_fbi : (fincWrap s a f).fbi = s.fbi := fset_fbi s a f _
@[simp] theorem fincWrap_gns : (fincWrap s a f).gns = s.gns := fset_gns s a f _
@[simp] theorem fincWrap_pos : (fincWrap s a f).pos = s.pos := fset_pos s a f _
@[simp] theorem fincWrap_str : (fincWrap s a f).str = s.str := fset_str s a f _
@[simp] theorem fincWrap_saf : (fincWrap s a f).saf = s.saf := fset_saf s a f _
@[simp] theorem fincWrap_cov : (fincWrap s a f).cov = s.cov := fset_cov s a f _
@[simp] theorem fincWrap_pwm : (fincWrap s a f).pwm = s.pwm := fset_pwm s a f _
@[simp] theorem fincWrap_lsw : (fincWrap s a f).lsw = s.lsw := fset_lsw s a f _
@[simp] theorem fincWrap_ctl : (fincWrap s a f).ctl = s.ctl := fset_ctl s a f _
@[simp] theorem fincWrap_can : (fincWrap s a f).can = s.can := fset_can s a f _
@[simp] theorem fincWrap_team : (fincWrap s a f).team = s.team := fset_team s a f _
@[simp] theorem fincWrap_brd : (fincWrap s a f).brd = s.brd := fset_brd s a f _
@[simp] theorem fincWrap_far : (fincWrap s a f).far = s.far := fset_far s a f _
@[simp] theorem fincWrap_stb : (fincWrap s a f).stb = s.stb := fset_stb s a f _
@[simp] theorem fincWrap_flt : (fincWrap s a f).flt = s.flt := fset_flt s a f _
@[simp] theorem fincWrap_rap : (fincWrap s a f).rap = s.rap := fset_rap s a f _
@[simp] theorem fincWrap_sent : (fincWrap s a f).sent = s.sent := fset_sent s a f _
@[simp] theorem fincWrap_freeCnt : (fincWrap s a f).freeCnt = s.freeCnt := fset_freeCnt s a f _
end fincWrap

section faddWrap
variable (s : State) (a : Nat) (f : Fld) (n : Nat)
@[simp] theorem faddWrap_pending : (faddWrap s a f n).pending = s.pending := fset_pending s a f _
@[simp] theorem faddWrap_tb : (faddWrap s a f n).tb = s.tb := fset_tb s a f _
@[simp] theorem faddWrap_pwr : (faddWrap s a f n).pwr = s.pwr := fset_pwr s a f _
@[simp] theorem faddWrap_img : (faddWrap s a f n).img = s.img := fset_img s a f _
@[simp] theorem faddWrap_cfg : (faddWrap s a f n).cfg = s.cfg := fset_cfg s a f _
@[simp] theorem faddWrap_geo : (faddWrap s a f n).geo = s.geo := fset_geo s a f _
@[simp] theorem faddWrap_fbi : (faddWrap s a f n).fbi = s.fbi := fset_fbi s a f _
@[simp] theorem faddWrap_gns : (faddWrap s a f n).gns = s.gns := fset_gns s a f _
@[simp] theorem faddWrap_pos : (faddWrap s a f n).pos = s.pos := fset_pos s a f _
@[simp] theorem faddWrap_str : (faddWrap s a f n).str = s.str := fset_str s a f _
@[simp] theorem faddWrap_saf : (faddWrap s a f n).saf = s.saf := fset_saf s a f _
@[simp] theorem faddWrap_cov : (faddWrap s a f n).cov = s.cov := fset_cov s a f _
@[simp] theorem faddWrap_pwm : (faddWrap s a f n).pwm = s.pwm := fset_pwm s a f _
@[simp] theorem faddWrap_lsw : (faddWrap s a f n).lsw = s.lsw := fset_lsw s a f _
@[simp] theorem faddWrap_ctl : (faddWrap s a f n).ctl = s.ctl := fset_ctl s a f _
@[simp] theorem faddWrap_can : (faddWrap s a f n).can = s.can := fset_can s a f _
@[simp] theorem faddWrap_team : (faddWrap s a f n).team = s.team := fset_team s a f _
@[simp] theorem faddWrap_brd : (faddWrap s a f n).brd = s.brd := fset_brd s a f _
@[simp] theorem faddWrap_far : (faddWrap s a f n).far = s.far := fset_far s a f _
@[simp] theorem faddWrap_stb : (faddWrap s a f n).stb = s.stb := fset_stb s a f _
@[simp] theorem faddWrap_flt : (faddWrap s a f n).flt = s.flt := fset_flt s a f _
@[simp] theorem faddWrap_rap : (faddWrap s a f n).rap = s.rap := fset_rap s a f _
@[simp] theorem faddWrap_sent : (faddWrap s a f n).sent = s.sent := fset_sent s a f _
@[simp] theorem faddWrap_freeCnt : (faddWrap s a f n).freeCnt = s.freeCnt := fset_freeCnt s a f _
end faddWrap

section rsetN
variable (s : State) (a : Nat) (v : Nat)
@[simp] theorem rsetN_pending : (rsetN s a v).pending = s.pending := rset_pending s a _
@[simp] theorem rsetN_tb : (rsetN s a v).tb = s.tb := rset_tb s a _
@[simp] theorem rsetN_pwr : (rsetN s a v).pwr = s.pwr := rset_pwr s a _
@[simp] theorem rsetN_img : (rsetN s a v).img = s.img := rset_img s a _
@[simp] theorem rsetN_cfg : (rsetN s a v).cfg = s.cfg := rset_cfg s a _
@[simp] theorem rsetN_geo : (rsetN s a v).geo = s.geo := rset_geo s a _
@[simp] theorem rsetN_fbi : (rsetN s a v).fbi = s.fbi := rset_fbi s a _
@[simp] theorem rsetN_gns : (rsetN s a v).gns = s.gns := rset_gns s a _
@[simp] theorem rsetN_pos : (rsetN s a v).pos = s.pos := rset_pos s a _
@[simp] theorem rsetN_str : (rsetN s a v).str = s.str := rset_str s a _
@[simp] theorem rsetN_saf : (rsetN s a v).saf = s.saf := rset_saf s a _
@[simp] theorem rsetN_cov : (rsetN s a v).cov = s.cov := rset_cov s a _
@[simp] theorem rsetN_pwm : (rsetN s a v).pwm = s.pwm := rset_pwm s a _
@[simp] theorem rsetN_lsw : (rsetN s a v).lsw = s.lsw := rset_lsw s a _
@[simp] theorem rsetN_ctl : (rsetN s a v).ctl = s.ctl := rset_ctl s a _
@[simp] theorem rsetN_can : (rsetN s a v).can = s.can := rset_can s a _
@[simp] theorem rsetN_team : (rsetN s a v).team = s.team := rset_team s a _
@[simp] theorem rsetN_brd : (rsetN s a v).brd = s.brd := rset_brd s a _
@[simp] theorem rsetN_far : (rsetN s a v).far = s.far := rset_far s a _
@[simp] theorem rsetN_stb : (rsetN s a v).stb = s.stb := rset_stb s a _
@[simp] theorem rsetN_flt : (rsetN s a v).flt = s.flt := rset_flt s a _
@[simp] theorem rsetN_rap : (rsetN s a v).rap = s.rap := rset_rap s a _
@[simp] theorem rsetN_sent : (rsetN s a v).sent = s.sent := rset_sent s a _
@[simp] theorem rsetN_freeCnt : (rsetN s a v).freeCnt = s.freeCnt := rset_freeCnt s a _
end rsetN

section rset64
variable (s : State) (lo hi : Nat) (v : Nat)
@[simp] theorem rset64_pending : (rset64 s lo hi v).pending = s.pending := (rsetN_pending _ hi _).trans (rsetN_pending s lo _)
@[simp] theorem rset64_tb : (rset64 s lo hi v).tb = s.tb := (rsetN_tb _ hi _).trans (rsetN_tb s lo _)
@[simp] theorem rset64_pwr : (rset64 s lo hi v).pwr = s.pwr := (rsetN_pwr _ hi _).trans (rsetN_pwr s lo _)
@[simp] theorem rset64_img : (rset64 s lo hi v).img = s.img := (rsetN_img _ hi _).trans (rsetN_img s lo _)
@[simp] theorem rset64_cfg : (rset64 s lo hi v).cfg = s.cfg := (rsetN_cfg _ hi _).trans (rsetN_cfg s lo _)
@[simp] theorem rset64_geo : (rset64 s lo hi v).geo = s.geo := (rsetN_geo _ hi _).trans (rsetN_geo s lo _)
@[simp] theorem rset64_fbi : (rset64 s lo hi v).fbi = s.fbi := (rsetN_fbi _ hi _).trans (rsetN_fbi s lo _)
@[simp] theorem rset64_gns : (rset64 s lo hi v).gns = s.gns := (rsetN_gns _ hi _).trans (rsetN_gns s lo _)
@[simp] theorem rset64_pos : (rset64 s lo hi v).pos = s.pos := (rsetN_pos _ hi _).trans (rsetN_pos s lo _)
@[simp] theorem rset64_str : (rset64 s lo hi v).str = s.str := (rsetN_str _ hi _).trans (rsetN_str s lo _)
@[simp] theorem rset64_saf : (rset64 s lo hi v).saf = s.saf := (rsetN_saf _ hi _).trans (rsetN_saf s lo _)
@[simp] theorem rset64_cov : (rset64 s lo hi v).cov = s.cov := (rsetN_cov _ hi _).trans (rsetN_cov s lo _)
@[simp] theorem rset64_pwm : (rset64 s lo hi v).pwm = s.pwm := (rsetN_pwm _ hi _).trans (rsetN_pwm s lo _)
@[simp] theorem rset64_lsw : (rset64 s lo hi v).lsw = s.lsw := (rsetN_lsw _ hi _).trans (rsetN_lsw s lo _)
@[simp] theorem rset64_ctl : (rset64 s lo hi v).ctl = s.ctl := (rsetN_ctl _ hi _).trans (rsetN_ctl s lo _)
@[simp] theorem rset64_can : (rset64 s lo hi v).can = s.can := (rsetN_can _ hi _).trans (rsetN_can s lo _)
@[simp] theorem rset64_team : (rset64 s lo hi v).team = s.team := (rsetN_team _ hi _).trans (rsetN_team s lo _)
@[simp] theorem rset64_brd : (rset64 s lo hi v).brd = s.brd := (rsetN_brd _ hi _).trans (rsetN_brd s lo _)
@[simp] theorem rset64_far : (rset64 s lo hi v).far = s.far := (rsetN_far _ hi _).trans (rsetN_far s lo _)
@[simp] theorem rset64_stb : (rset64 s lo hi v).stb = s.stb := (rsetN_stb _ hi _).trans (rsetN_stb s lo _)
@[simp] theorem rset64_flt : (rset64 s lo hi v).flt = s.flt := (rsetN_flt _ hi _).trans (rsetN_flt s lo _)
@[simp] theorem rset64_rap : (rset64 s lo hi v).rap = s.rap := (rsetN_rap _ hi _).trans (rsetN_rap s lo _)
@[simp] theorem rset64_sent : (rset64 s lo hi v).sent = s.sent := (rsetN_sent _ hi _).trans (rsetN_sent s lo _)
@[simp] theorem rset64_freeCnt : (rset64 s lo hi v).freeCnt = s.freeCnt := (rsetN_freeCnt _ hi _).trans (rsetN_freeCnt s lo _)
end rset64

section domSet
variable (s : State) (d : Nat) (b : Bool)
@[simp] theorem domSet_pending : (domSet s d b).pending = s.pending := fset_pending s _ _ _
@[simp] theorem domSet_tb : (domSet s d b).tb = s.tb := fset_tb s _ _ _
@[simp] theorem domSet_pwr : (domSet s d b).pwr = s.pwr := fset_pwr s _ _ _
@[simp] theorem domSet_img : (domSet s d b).img = s.img := fset_img s _ _ _
@[simp] theorem domSet_cfg : (domSet s d b).cfg = s.cfg := fset_cfg s _ _ _
@[simp] theorem domSet_geo : (domSet s d b).geo = s.geo := fset_geo s _ _ _
@[simp] theorem domSet_fbi : (domSet s d b).fbi = s.fbi := fset_fbi s _ _ _
@[simp] theorem domSet_gns : (domSet s d b).gns = s.gns := fset_gns s _ _ _
@[simp] theorem domSet_pos : (domSet s d b).pos = s.pos := fset_pos s _ _ _
@[simp] theorem domSet_str : (domSet s d b).str = s.str := fset_str s _ _ _
@[simp] theorem domSet_saf : (domSet s d b).saf = s.saf := fset_saf s _ _ _
@[simp] theorem domSet_cov : (domSet s d b).cov = s.cov := fset_cov s _ _ _
@[simp] theorem domSet_pwm : (domSet s d b).pwm = s.pwm := fset_pwm s _ _ _
@[simp] theorem domSet_lsw : (domSet s d b).lsw = s.lsw := fset_lsw s _ _ _
@[simp] theorem domSet_ctl : (domSet s d b).ctl = s.ctl := fset_ctl s _ _ _
@[simp] theorem domSet_can : (domSet s d b).can = s.can := fset_can s _ _ _
@[simp] theorem domSet_team : (domSet s d b).team = s.team := fset_team s _ _ _
@[simp] theorem domSet_brd : (domSet s d b).brd = s.brd := fset_brd s _ _ _
@[simp] theorem domSet_far : (domSet s d b).far = s.far := fset_far s _ _ _
@[simp] theorem domSet_stb : (domSet s d b).stb = s.stb := fset_stb s _ _ _
@[simp] theorem domSet_flt : (domSet s d b).flt = s.flt := fset_flt s _ _ _
@[simp] theorem domSet_rap : (domSet s d b).rap = s.rap := fset_rap s _ _ _
@[simp] theorem domSet_sent : (domSet s d b).sent = s.sent := fset_sent s _ _ _
@[simp] theorem domSet_freeCnt : (domSet s d b).freeCnt = s.freeCnt := fset_freeCnt s _ _ _
end domSet

section setLiv
variable (n : Nat) (l : Livery) (s : State)
@[simp] theorem setLiv_pending : (setLiv n l s).pending = s.pending := rfl
@[simp] theorem setLiv_regs : (setLiv n l s).regs = s.regs := rfl
@[simp] theorem setLiv_tb : (setLiv n l s).tb = s.tb := rfl
@[simp] theorem setLiv_pwr : (setLiv n l s).pwr = s.pwr := rfl
@[simp] theorem setLiv_img : (setLiv n l s).img = s.img := rfl
@[simp] theorem setLiv_cfg : (setLiv n l s).cfg = s.cfg := rfl
@[simp] theorem setLiv_geo : (setLiv n l s).geo = s.geo := rfl
@[simp] theorem setLiv_fbi : (setLiv n l s).fbi = s.fbi := rfl
@[simp] theorem setLiv_gns : (setLiv n l s).gns = s.gns := rfl
@[simp] theorem setLiv_pos : (setLiv n l s).pos = s.pos := rfl
@[simp] theorem setLiv_str : (setLiv n l s).str = s.str := rfl
@[simp] theorem setLiv_saf : (setLiv n l s).saf = s.saf := rfl
@[simp] theorem setLiv_cov : (setLiv n l s).cov = s.cov := rfl
@[simp] theorem setLiv_pwm : (setLiv n l s).pwm = s.pwm := rfl
@[simp] theorem setLiv_lsw : (setLiv n l s).lsw = s.lsw := rfl
@[simp] theorem setLiv_ctl : (setLiv n l s).ctl = s.ctl := rfl
@[simp] theorem setLiv_can : (setLiv n l s).can = s.can := rfl
@[simp] theorem setLiv_team : (setLiv n l s).team = s.team := rfl
@[simp] theorem setLiv_far : (setLiv n l s).far = s.far := rfl
@[simp] theorem setLiv_stb : (setLiv n l s).stb = s.stb := rfl
@[simp] theorem setLiv_flt : (setLiv n l s).flt = s.flt := rfl
@[simp] theorem setLiv_rap : (setLiv n l s).rap = s.rap := rfl
@[simp] theorem setLiv_sent : (setLiv n l s).sent = s.sent := rfl
@[simp] theorem setLiv_freeCnt : (setLiv n l s).freeCnt = s.freeCnt := rfl
end setLiv

section setTl
variable (n : Nat) (x : LinkTx) (s : State)
@[simp] theorem setTl_pending : (setTl n x s).pending = s.pending := rfl
@[simp] theorem setTl_regs : (setTl n x s).regs = s.regs := rfl
@[simp] theorem setTl_tb : (setTl n x s).tb = s.tb := rfl
@[simp] theorem setTl_pwr : (setTl n x s).pwr = s.pwr := rfl
@[simp] theorem setTl_img : (setTl n x s).img = s.img := rfl
@[simp] theorem setTl_cfg : (setTl n x s).cfg = s.cfg := rfl
@[simp] theorem setTl_geo : (setTl n x s).geo = s.geo := rfl
@[simp] theorem setTl_fbi : (setTl n x s).fbi = s.fbi := rfl
@[simp] theorem setTl_gns : (setTl n x s).gns = s.gns := rfl
@[simp] theorem setTl_pos : (setTl n x s).pos = s.pos := rfl
@[simp] theorem setTl_str : (setTl n x s).str = s.str := rfl
@[simp] theorem setTl_saf : (setTl n x s).saf = s.saf := rfl
@[simp] theorem setTl_cov : (setTl n x s).cov = s.cov := rfl
@[simp] theorem setTl_pwm : (setTl n x s).pwm = s.pwm := rfl
@[simp] theorem setTl_lsw : (setTl n x s).lsw = s.lsw := rfl
@[simp] theorem setTl_ctl : (setTl n x s).ctl = s.ctl := rfl
@[simp] theorem setTl_can : (setTl n x s).can = s.can := rfl
@[simp] theorem setTl_brd : (setTl n x s).brd = s.brd := rfl
@[simp] theorem setTl_far : (setTl n x s).far = s.far := rfl
@[simp] theorem setTl_stb : (setTl n x s).stb = s.stb := rfl
@[simp] theorem setTl_flt : (setTl n x s).flt = s.flt := rfl
@[simp] theorem setTl_rap : (setTl n x s).rap = s.rap := rfl
@[simp] theorem setTl_sent : (setTl n x s).sent = s.sent := rfl
@[simp] theorem setTl_freeCnt : (setTl n x s).freeCnt = s.freeCnt := rfl
end setTl

section setLink
variable (s : State) (n : Nat) (l : LinkSt)
@[simp] theorem setLink_pending : (setLink s n l).pending = s.pending := rfl
@[simp] theorem setLink_regs : (setLink s n l).regs = s.regs := rfl
@[simp] theorem setLink_tb : (setLink s n l).tb = s.tb := rfl
@[simp] theorem setLink_pwr : (setLink s n l).pwr = s.pwr := rfl
@[simp] theorem setLink_img : (setLink s n l).img = s.img := rfl
@[simp] theorem setLink_cfg : (setLink s n l).cfg = s.cfg := rfl
@[simp] theorem setLink_fbi : (setLink s n l).fbi = s.fbi := rfl
@[simp] theorem setLink_gns : (setLink s n l).gns = s.gns := rfl
@[simp] theorem setLink_pos : (setLink s n l).pos = s.pos := rfl
@[simp] theorem setLink_str : (setLink s n l).str = s.str := rfl
@[simp] theorem setLink_saf : (setLink s n l).saf = s.saf := rfl
@[simp] theorem setLink_cov : (setLink s n l).cov = s.cov := rfl
@[simp] theorem setLink_pwm : (setLink s n l).pwm = s.pwm := rfl
@[simp] theorem setLink_lsw : (setLink s n l).lsw = s.lsw := rfl
@[simp] theorem setLink_ctl : (setLink s n l).ctl = s.ctl := rfl
@[simp] theorem setLink_can : (setLink s n l).can = s.can := rfl
@[simp] theorem setLink_team : (setLink s n l).team = s.team := rfl
@[simp] theorem setLink_brd : (setLink s n l).brd = s.brd := rfl
@[simp] theorem setLink_far : (setLink s n l).far = s.far := rfl
@[simp] theorem setLink_stb : (setLink s n l).stb = s.stb := rfl
@[simp] theorem setLink_flt : (setLink s n l).flt = s.flt := rfl
@[simp] theorem setLink_rap : (setLink s n l).rap = s.rap := rfl
@[simp] theorem setLink_sent : (setLink s n l).sent = s.sent := rfl
@[simp] theorem setLink_freeCnt : (setLink s n l).freeCnt = s.freeCnt := rfl
end setLink

section setOut
variable (s : State) (n : Nat) (o : OutSt)
@[simp] theorem setOut_pending : (setOut s n o).pending = s.pending := rfl
@[simp] theorem setOut_regs : (setOut s n o).regs = s.regs := rfl
@[simp] theorem setOut_tb : (setOut s n o).tb = s.tb := rfl
@[simp] theorem setOut_pwr : (setOut s n o).pwr = s.pwr := rfl
@[simp] theorem setOut_img : (setOut s n o).img = s.img := rfl
@[simp] theorem setOut_cfg : (setOut s n o).cfg = s.cfg := rfl
@[simp] theorem setOut_geo : (setOut s n o).geo = s.geo := rfl
@[simp] theorem setOut_fbi : (setOut s n o).fbi = s.fbi := rfl
@[simp] theorem setOut_gns : (setOut s n o).gns = s.gns := rfl
@[simp] theorem setOut_pos : (setOut s n o).pos = s.pos := rfl
@[simp] theorem setOut_saf : (setOut s n o).saf = s.saf := rfl
@[simp] theorem setOut_cov : (setOut s n o).cov = s.cov := rfl
@[simp] theorem setOut_pwm : (setOut s n o).pwm = s.pwm := rfl
@[simp] theorem setOut_lsw : (setOut s n o).lsw = s.lsw := rfl
@[simp] theorem setOut_ctl : (setOut s n o).ctl = s.ctl := rfl
@[simp] theorem setOut_can : (setOut s n o).can = s.can := rfl
@[simp] theorem setOut_team : (setOut s n o).team = s.team := rfl
@[simp] theorem setOut_brd : (setOut s n o).brd = s.brd := rfl
@[simp] theorem setOut_far : (setOut s n o).far = s.far := rfl
@[simp] theorem setOut_stb : (setOut s n o).stb = s.stb := rfl
@[simp] theorem setOut_flt : (setOut s n o).flt = s.flt := rfl
@[simp] theorem setOut_rap : (setOut s n o).rap = s.rap := rfl
@[simp] theorem setOut_sent : (setOut s n o).sent = s.sent := rfl
@[simp] theorem setOut_freeCnt : (setOut s n o).freeCnt = s.freeCnt := rfl
end setOut

section send
variable (s : State) (k : MsgKind) (dst : Nat) (args : List Int)
@[simp] theorem send_pending : (send s k dst args).pending = s.pending := rfl
@[simp] theorem send_regs : (send s k dst args).regs = s.regs := rfl
@[simp] theorem send_tb : (send s k dst args).tb = s.tb := rfl
@[simp] theorem send_pwr : (send s k dst args).pwr = s.pwr := rfl
@[simp] theorem send_img : (send s k dst args).img = s.img := rfl
@[simp] theorem send_cfg : (send s k dst args).cfg = s.cfg := rfl
@[simp] theorem send_geo : (send s k dst args).geo = s.geo := rfl
@[simp] theorem send_fbi : (send s k dst args).fbi = s.fbi := rfl
@[simp] theorem send_gns : (send s k dst args).gns = s.gns := rfl
@[simp] theorem send_pos : (send s k dst args).pos = s.pos := rfl
@[simp] theorem send_str : (send s k dst args).str = s.str := rfl
@[simp] theorem send_saf : (send s k dst args).saf = s.saf := rfl
@[simp] theorem send_cov : (send s k dst args).cov = s.cov := rfl
@[simp] theorem send_pwm : (send s k dst args).pwm = s.pwm := rfl
@[simp] theorem send_lsw : (send s k dst args).lsw = s.lsw := rfl
@[simp] theorem send_ctl : (send s k dst args).ctl = s.ctl := rfl
@[simp] theorem send_can : (send s k dst args).can = s.can := rfl
@[simp] theorem send_team : (send s k dst args).team = s.team := rfl
@[simp] theorem send_brd : (send s k dst args).brd = s.brd := rfl
@[simp] theorem send_far : (send s k dst args).far = s.far := rfl
@[simp] theorem send_stb : (send s k dst args).stb = s.stb := rfl
@[simp] theorem send_flt : (send s k dst args).flt = s.flt := rfl
@[simp] theorem send_rap : (send s k dst args).rap = s.rap := rfl
@[simp] theorem send_freeCnt : (send s k dst args).freeCnt = s.freeCnt := rfl
end send

section freeNext
variable (s : State)
@[simp] theorem freeNext_pending : (freeNext s).pending = s.pending := rfl
@[simp] theorem freeNext_regs : (freeNext s).regs = s.regs := rfl
@[simp] theorem freeNext_tb : (freeNext s).tb = s.tb := rfl
@[simp] theorem freeNext_pwr : (freeNext s).pwr = s.pwr := rfl
@[simp] theorem freeNext_img : (freeNext s).img = s.img := rfl
@[simp] theorem freeNext_cfg : (freeNext s).cfg = s.cfg := rfl
@[simp] theorem freeNext_geo : (freeNext s).geo = s.geo := rfl
@[simp] theorem freeNext_fbi : (freeNext s).fbi = s.fbi := rfl
@[simp] theorem freeNext_gns : (freeNext s).gns = s.gns := rfl
@[simp] theorem freeNext_pos : (freeNext s).pos = s.pos := rfl
@[simp] theorem freeNext_str : (freeNext s).str = s.str := rfl
@[simp] theorem freeNext_saf : (freeNext s).saf = s.saf := rfl
@[simp] theorem freeNext_cov : (freeNext s).cov = s.cov := rfl
@[simp] theorem freeNext_pwm : (freeNext s).pwm = s.pwm := rfl
@[simp] theorem freeNext_lsw : (freeNext s).lsw = s.lsw := rfl
@[simp] theorem freeNext_ctl : (freeNext s).ctl = s.ctl := rfl
@[simp] theorem freeNext_can : (freeNext s).can = s.can := rfl
@[simp] theorem freeNext_team : (freeNext s).team = s.team := rfl
@[simp] theorem freeNext_brd : (freeNext s).brd = s.brd := rfl
@[simp] theorem freeNext_far : (freeNext s).far = s.far := rfl
@[simp] theorem freeNext_stb : (freeNext s).stb = s.stb := rfl
@[simp] theorem freeNext_flt : (freeNext s).flt = s.flt := rfl
@[simp] theorem freeNext_rap : (freeNext s).rap = s.rap := rfl
@[simp] theorem freeNext_sent : (freeNext s).sent = s.sent := rfl
end freeNext

section setRole
variable (r p : Nat) (s : State)
@[simp] theorem setRole_pending : (setRole r p s).pending = s.pending := rfl
@[simp] theorem setRole_regs : (setRole r p s).regs = s.regs := rfl
@[simp] theorem setRole_tb : (setRole r p s).tb = s.tb := rfl
@[simp] theorem setRole_pwr : (setRole r p s).pwr = s.pwr := rfl
@[simp] theorem setRole_img : (setRole r p s).img = s.img := rfl
@[simp] theorem setRole_cfg : (setRole r p s).cfg = s.cfg := rfl
@[simp] theorem setRole_geo : (setRole r p s).geo = s.geo := rfl
@[simp] theorem setRole_fbi : (setRole r p s).fbi = s.fbi := rfl
@[simp] theorem setRole_gns : (setRole r p s).gns = s.gns := rfl
@[simp] theorem setRole_pos : (setRole r p s).pos = s.pos := rfl
@[simp] theorem setRole_str : (setRole r p s).str = s.str := rfl
@[simp] theorem setRole_saf : (setRole r p s).saf = s.saf := rfl
@[simp] theorem setRole_cov : (setRole r p s).cov = s.cov := rfl
@[simp] theorem setRole_pwm : (setRole r p s).pwm = s.pwm := rfl
@[simp] theorem setRole_lsw : (setRole r p s).lsw = s.lsw := rfl
@[simp] theorem setRole_ctl : (setRole r p s).ctl = s.ctl := rfl
@[simp] theorem setRole_can : (setRole r p s).can = s.can := rfl
@[simp] theorem setRole_brd : (setRole r p s).brd = s.brd := rfl
@[simp] theorem setRole_far : (setRole r p s).far = s.far := rfl
@[simp] theorem setRole_stb : (setRole r p s).stb = s.stb := rfl
@[simp] theorem setRole_flt : (setRole r p s).flt = s.flt := rfl
@[simp] theorem setRole_rap : (setRole r p s).rap = s.rap := rfl
@[simp] theorem setRole_sent : (setRole r p s).sent = s.sent := rfl
@[simp] theorem setRole_freeCnt : (setRole r p s).freeCnt = s.freeCnt := rfl
end setRole

section setSess
variable (k : Nat) (x : Sess) (s : State)
@[simp] theorem setSess_pending : (setSess k x s).pending = s.pending := rfl
@[simp] theorem setSess_regs : (setSess k x s).regs = s.regs := rfl
@[simp] theorem setSess_tb : (setSess k x s).tb = s.tb := rfl
@[simp] theorem setSess_pwr : (setSess k x s).pwr = s.pwr := rfl
@[simp] theorem setSess_img : (setSess k x s).img = s.img := rfl
@[simp] theorem setSess_cfg : (setSess k x s).cfg = s.cfg := rfl
@[simp] theorem setSess_geo : (setSess k x s).geo = s.geo := rfl
@[simp] theorem setSess_fbi : (setSess k x s).fbi = s.fbi := rfl
@[simp] theorem setSess_gns : (setSess k x s).gns = s.gns := rfl
@[simp] theorem setSess_pos : (setSess k x s).pos = s.pos := rfl
@[simp] theorem setSess_str : (setSess k x s).str = s.str := rfl
@[simp] theorem setSess_saf : (setSess k x s).saf = s.saf := rfl
@[simp] theorem setSess_cov : (setSess k x s).cov = s.cov := rfl
@[simp] theorem setSess_pwm : (setSess k x s).pwm = s.pwm := rfl
@[simp] theorem setSess_lsw : (setSess k x s).lsw = s.lsw := rfl
@[simp] theorem setSess_ctl : (setSess k x s).ctl = s.ctl := rfl
@[simp] theorem setSess_can : (setSess k x s).can = s.can := rfl
@[simp] theorem setSess_team : (setSess k x s).team = s.team := rfl
@[simp] theorem setSess_far : (setSess k x s).far = s.far := rfl
@[simp] theorem setSess_stb : (setSess k x s).stb = s.stb := rfl
@[simp] theorem setSess_flt : (setSess k x s).flt = s.flt := rfl
@[simp] theorem setSess_rap : (setSess k x s).rap = s.rap := rfl
@[simp] theorem setSess_sent : (setSess k x s).sent = s.sent := rfl
@[simp] theorem setSess_freeCnt : (setSess k x s).freeCnt = s.freeCnt := rfl
end setSess

section setCan
variable (c : Nat) (x : CanCtl) (s : State)
@[simp] theorem setCan_pending : (setCan c x s).pending = s.pending := rfl
@[simp] theorem setCan_regs : (setCan c x s).regs = s.regs := rfl
@[simp] theorem setCan_tb : (setCan c x s).tb = s.tb := rfl
@[simp] theorem setCan_pwr : (setCan c x s).pwr = s.pwr := rfl
@[simp] theorem setCan_img : (setCan c x s).img = s.img := rfl
@[simp] theorem setCan_cfg : (setCan c x s).cfg = s.cfg := rfl
@[simp] theorem setCan_geo : (setCan c x s).geo = s.geo := rfl
@[simp] theorem setCan_fbi : (setCan c x s).fbi = s.fbi := rfl
@[simp] theorem setCan_gns : (setCan c x s).gns = s.gns := rfl
@[simp] theorem setCan_pos : (setCan c x s).pos = s.pos := rfl
@[simp] theorem setCan_str : (setCan c x s).str = s.str := rfl
@[simp] theorem setCan_saf : (setCan c x s).saf = s.saf := rfl
@[simp] theorem setCan_cov : (setCan c x s).cov = s.cov := rfl
@[simp] theorem setCan_pwm : (setCan c x s).pwm = s.pwm := rfl
@[simp] theorem setCan_lsw : (setCan c x s).lsw = s.lsw := rfl
@[simp] theorem setCan_ctl : (setCan c x s).ctl = s.ctl := rfl
@[simp] theorem setCan_team : (setCan c x s).team = s.team := rfl
@[simp] theorem setCan_brd : (setCan c x s).brd = s.brd := rfl
@[simp] theorem setCan_far : (setCan c x s).far = s.far := rfl
@[simp] theorem setCan_stb : (setCan c x s).stb = s.stb := rfl
@[simp] theorem setCan_flt : (setCan c x s).flt = s.flt := rfl
@[simp] theorem setCan_rap : (setCan c x s).rap = s.rap := rfl
@[simp] theorem setCan_sent : (setCan c x s).sent = s.sent := rfl
@[simp] theorem setCan_freeCnt : (setCan c x s).freeCnt = s.freeCnt := rfl
end setCan

section setLoop
variable (n : Nat) (l : LoopSt) (s : State)
@[simp] theorem setLoop_pending : (setLoop n l s).pending = s.pending := rfl
@[simp] theorem setLoop_regs : (setLoop n l s).regs = s.regs := rfl
@[simp] theorem setLoop_tb : (setLoop n l s).tb = s.tb := rfl
@[simp] theorem setLoop_pwr : (setLoop n l s).pwr = s.pwr := rfl
@[simp] theorem setLoop_img : (setLoop n l s).img = s.img := rfl
@[simp] theorem setLoop_cfg : (setLoop n l s).cfg = s.cfg := rfl
@[simp] theorem setLoop_geo : (setLoop n l s).geo = s.geo := rfl
@[simp] theorem setLoop_fbi : (setLoop n l s).fbi = s.fbi := rfl
@[simp] theorem setLoop_gns : (setLoop n l s).gns = s.gns := rfl
@[simp] theorem setLoop_pos : (setLoop n l s).pos = s.pos := rfl
@[simp] theorem setLoop_str : (setLoop n l s).str = s.str := rfl
@[simp] theorem setLoop_saf : (setLoop n l s).saf = s.saf := rfl
@[simp] theorem setLoop_cov : (setLoop n l s).cov = s.cov := rfl
@[simp] theorem setLoop_pwm : (setLoop n l s).pwm = s.pwm := rfl
@[simp] theorem setLoop_lsw : (setLoop n l s).lsw = s.lsw := rfl
@[simp] theorem setLoop_can : (setLoop n l s).can = s.can := rfl
@[simp] theorem setLoop_team : (setLoop n l s).team = s.team := rfl
@[simp] theorem setLoop_brd : (setLoop n l s).brd = s.brd := rfl
@[simp] theorem setLoop_far : (setLoop n l s).far = s.far := rfl
@[simp] theorem setLoop_stb : (setLoop n l s).stb = s.stb := rfl
@[simp] theorem setLoop_flt : (setLoop n l s).flt = s.flt := rfl
@[simp] theorem setLoop_rap : (setLoop n l s).rap = s.rap := rfl
@[simp] theorem setLoop_sent : (setLoop n l s).sent = s.sent := rfl
@[simp] theorem setLoop_freeCnt : (setLoop n l s).freeCnt = s.freeCnt := rfl
end setLoop

section setConn
variable (n : Nat) (c : SafConn) (s : State)
@[simp] theorem setConn_pending : (setConn n c s).pending = s.pending := rfl
@[simp] theorem setConn_regs : (setConn n c s).regs = s.regs := rfl
@[simp] theorem setConn_tb : (setConn n c s).tb = s.tb := rfl
@[simp] theorem setConn_pwr : (setConn n c s).pwr = s.pwr := rfl
@[simp] theorem setConn_img : (setConn n c s).img = s.img := rfl
@[simp] theorem setConn_cfg : (setConn n c s).cfg = s.cfg := rfl
@[simp] theorem setConn_geo : (setConn n c s).geo = s.geo := rfl
@[simp] theorem setConn_fbi : (setConn n c s).fbi = s.fbi := rfl
@[simp] theorem setConn_gns : (setConn n c s).gns = s.gns := rfl
@[simp] theorem setConn_pos : (setConn n c s).pos = s.pos := rfl
@[simp] theorem setConn_str : (setConn n c s).str = s.str := rfl
@[simp] theorem setConn_cov : (setConn n c s).cov = s.cov := rfl
@[simp] theorem setConn_pwm : (setConn n c s).pwm = s.pwm := rfl
@[simp] theorem setConn_lsw : (setConn n c s).lsw = s.lsw := rfl
@[simp] theorem setConn_ctl : (setConn n c s).ctl = s.ctl := rfl
@[simp] theorem setConn_can : (setConn n c s).can = s.can := rfl
@[simp] theorem setConn_team : (setConn n c s).team = s.team := rfl
@[simp] theorem setConn_brd : (setConn n c s).brd = s.brd := rfl
@[simp] theorem setConn_far : (setConn n c s).far = s.far := rfl
@[simp] theorem setConn_stb : (setConn n c s).stb = s.stb := rfl
@[simp] theorem setConn_flt : (setConn n c s).flt = s.flt := rfl
@[simp] theorem setConn_rap : (setConn n c s).rap = s.rap := rfl
@[simp] theorem setConn_sent : (setConn n c s).sent = s.sent := rfl
@[simp] theorem setConn_freeCnt : (setConn n c s).freeCnt = s.freeCnt := rfl
end setConn

section setCh
variable (s : State) (n : Nat) (c : ChSt)
@[simp] theorem setCh_pending : (setCh s n c).pending = s.pending := rfl
@[simp] theorem setCh_regs : (setCh s n c).regs = s.regs := rfl
@[simp] theorem setCh_tb : (setCh s n c).tb = s.tb := rfl
@[simp] theorem setCh_pwr : (setCh s n c).pwr = s.pwr := rfl
@[simp] theorem setCh_img : (setCh s n c).img = s.img := rfl
@[simp] theorem setCh_cfg : (setCh s n c).cfg = s.cfg := rfl
@[simp] theorem setCh_geo : (setCh s n c).geo = s.geo := rfl
@[simp] theorem setCh_gns : (setCh s n c).gns = s.gns := rfl
@[simp] theorem setCh_pos : (setCh s n c).pos = s.pos := rfl
@[simp] theorem setCh_str : (setCh s n c).str = s.str := rfl
@[simp] theorem setCh_saf : (setCh s n c).saf = s.saf := rfl
@[simp] theorem setCh_cov : (setCh s n c).cov = s.cov := rfl
@[simp] theorem setCh_pwm : (setCh s n c).pwm = s.pwm := rfl
@[simp] theorem setCh_lsw : (setCh s n c).lsw = s.lsw := rfl
@[simp] theorem setCh_ctl : (setCh s n c).ctl = s.ctl := rfl
@[simp] theorem setCh_can : (setCh s n c).can = s.can := rfl
@[simp] theorem setCh_team : (setCh s n c).team = s.team := rfl
@[simp] theorem setCh_brd : (setCh s n c).brd = s.brd := rfl
@[simp] theorem setCh_far : (setCh s n c).far = s.far := rfl
@[simp] theorem setCh_stb : (setCh s n c).stb = s.stb := rfl
@[simp] theorem setCh_flt : (setCh s n c).flt = s.flt := rfl
@[simp] theorem setCh_rap : (setCh s n c).rap = s.rap := rfl
@[simp] theorem setCh_sent : (setCh s n c).sent = s.sent := rfl
@[simp] theorem setCh_freeCnt : (setCh s n c).freeCnt = s.freeCnt := rfl
end setCh

section setWav
variable (n : Nat) (w : Wav) (s : State)
@[simp] theorem setWav_pending : (setWav n w s).pending = s.pending := rfl
@[simp] theorem setWav_regs : (setWav n w s).regs = s.regs := rfl
@[simp] theorem setWav_tb : (setWav n w s).tb = s.tb := rfl
@[simp] theorem setWav_pwr : (setWav n w s).pwr = s.pwr := rfl
@[simp] theorem setWav_img : (setWav n w s).img = s.img := rfl
@[simp] theorem setWav_cfg : (setWav n w s).cfg = s.cfg := rfl
@[simp] theorem setWav_geo : (setWav n w s).geo = s.geo := rfl
@[simp] theorem setWav_fbi : (setWav n w s).fbi = s.fbi := rfl
@[simp] theorem setWav_gns : (setWav n w s).gns = s.gns := rfl
@[simp] theorem setWav_pos : (setWav n w s).pos = s.pos := rfl
@[simp] theorem setWav_str : (setWav n w s).str = s.str := rfl
@[simp] theorem setWav_saf : (setWav n w s).saf = s.saf := rfl
@[simp] theorem setWav_cov : (setWav n w s).cov = s.cov := rfl
@[simp] theorem setWav_lsw : (setWav n w s).lsw = s.lsw := rfl
@[simp] theorem setWav_ctl : (setWav n w s).ctl = s.ctl := rfl
@[simp] theorem setWav_can : (setWav n w s).can = s.can := rfl
@[simp] theorem setWav_team : (setWav n w s).team = s.team := rfl
@[simp] theorem setWav_brd : (setWav n w s).brd = s.brd := rfl
@[simp] theorem setWav_far : (setWav n w s).far = s.far := rfl
@[simp] theorem setWav_stb : (setWav n w s).stb = s.stb := rfl
@[simp] theorem setWav_flt : (setWav n w s).flt = s.flt := rfl
@[simp] theorem setWav_rap : (setWav n w s).rap = s.rap := rfl
@[simp] theorem setWav_sent : (setWav n w s).sent = s.sent := rfl
@[simp] theorem setWav_freeCnt : (setWav n w s).freeCnt = s.freeCnt := rfl
end setWav

section setLch
variable (n : Nat) (f : LswCh → LswCh) (s : State)
@[simp] theorem setLch_pending : (setLch n f s).pending = s.pending := rfl
@[simp] theorem setLch_regs : (setLch n f s).regs = s.regs := rfl
@[simp] theorem setLch_tb : (setLch n f s).tb = s.tb := rfl
@[simp] theorem setLch_pwr : (setLch n f s).pwr = s.pwr := rfl
@[simp] theorem setLch_img : (setLch n f s).img = s.img := rfl
@[simp] theorem setLch_cfg : (setLch n f s).cfg = s.cfg := rfl
@[simp] theorem setLch_geo : (setLch n f s).geo = s.geo := rfl
@[simp] theorem setLch_fbi : (setLch n f s).fbi = s.fbi := rfl
@[simp] theorem setLch_gns : (setLch n f s).gns = s.gns := rfl
@[simp] theorem setLch_pos : (setLch n f s).pos = s.pos := rfl
@[simp] theorem setLch_str : (setLch n f s).str = s.str := rfl
@[simp] theorem setLch_saf : (setLch n f s).saf = s.saf := rfl
@[simp] theorem setLch_cov : (setLch n f s).cov = s.cov := rfl
@[simp] theorem setLch_pwm : (setLch n f s).pwm = s.pwm := rfl
@[simp] theorem setLch_ctl : (setLch n f s).ctl = s.ctl := rfl
@[simp] theorem setLch_can : (setLch n f s).can = s.can := rfl
@[simp] theorem setLch_team : (setLch n f s).team = s.team := rfl
@[simp] theorem setLch_brd : (setLch n f s).brd = s.brd := rfl
@[simp] theorem setLch_far : (setLch n f s).far = s.far := rfl
@[simp] theorem setLch_stb : (setLch n f s).stb = s.stb := rfl
@[simp] theorem setLch_flt : (setLch n f s).flt = s.flt := rfl
@[simp] theorem setLch_rap : (setLch n f s).rap = s.rap := rfl
@[simp] theorem setLch_sent : (setLch n f s).sent = s.sent := rfl
@[simp] theorem setLch_freeCnt : (setLch n f s).freeCnt = s.freeCnt := rfl
end setLch

end Sys2Proof.Laws
end

