-- ==== Sys2Proof/Laws/Records.lean ====
section
/-!
SUPPORT. Laws/Records.lean: what raising a record, reporting a fault and answering a request change, and the fields they leave alone.
-/

set_option linter.unusedVariables false

open Sys2Proof Sys2Proof.Machine

namespace Sys2Proof.Laws

/-- Raising changes nothing but the stud book (R431, R436). -/
theorem recRaise_eq (s : State) (f : Bool) (e : Ev) (args : List Int) : ∃ b : Stb, recRaise s f e args = { s with stb := b } := by
  unfold recRaise; dsimp only
  split
  · exact ⟨s.stb, rfl⟩
  · split
    · repeat' first | exact ⟨_, rfl⟩ | split
    · exact ⟨_, rfl⟩

theorem raise_eq (s : State) (e : Ev) (args : List Int) : ∃ b : Stb, raise s e args = { s with stb := b } := recRaise_eq s false e args

theorem writeDenied_eq (s : State) (r : Role) (reg : Nat) : ∃ b : Stb, writeDenied s r reg = { s with stb := b } := raise_eq ..

/-- A fault's onset adds its report to the inbox besides (R448). -/
theorem faultCls_eq (s : State) (e : Ev) (args : List Int) (c : Nat) : ∃ b : Stb,
    faultCls s e args c = { s with stb := b, flt := { s.flt with inbox := s.flt.inbox ++ [⟨e, args, c, true, s.tb⟩] } } := by
  obtain ⟨b, h⟩ := recRaise_eq s true e args
  exact ⟨b, by unfold faultCls; rw [h]; rfl⟩

theorem fault_eq (s : State) (e : Ev) (args : List Int) : ∃ b : Stb,
    fault s e args = { s with stb := b, flt := { s.flt with inbox := s.flt.inbox ++ [⟨e, args, evClass e, true, s.tb⟩] } } := faultCls_eq ..

theorem faultEnd_eq (s : State) (e : Ev) (args : List Int) : ∃ b : Stb,
    faultEnd s e args = { s with stb := b, flt := { s.flt with inbox := s.flt.inbox ++ [⟨e, args, evClass e, false, s.tb⟩] } } := by
  obtain ⟨b, h⟩ := recRaise_eq s true e args
  exact ⟨b, by unfold faultEnd; rw [h]; rfl⟩

/-- A consumer's take changes nothing but the CAN controllers. -/
theorem canTake_eq (c k : Nat) (s : State) : ∃ x : Can, canTake c k s = { s with can := x } := by
  unfold canTake; dsimp only
  split
  · exact ⟨s.can, rfl⟩
  · exact ⟨_, rfl⟩

theorem sessTouch_eq (s : State) (who : Nat) : ∃ l : List (Nat × Sess),
    sessTouch s who = { s with pwr := { s.pwr with stayFrom := s.tb }, brd := { s.brd with sess := l } } := by
  unfold sessTouch; dsimp only
  split
  · exact ⟨_, rfl⟩
  · exact ⟨s.brd.sess, rfl⟩

/-- An answer changes the session, the controller's consumer and the counts, and sends at most the answer (R391, R393, R473, R486). -/
theorem rapAnswer_eq (s : State) (who : Nat) (st : RapStatus) (data : List Int) :
    ∃ (se : List (Nat × Sess)) (c : Can) (m : List Msg) (r : Rap),
    rapAnswer s who st data =
      { s with pwr := { s.pwr with stayFrom := s.tb }, brd := { s.brd with sess := se }, can := c, sent := s.sent ++ m, rap := r } ∧
    m.length ≤ 1 ∧ (who < 4 → c = s.can) ∧ r.requests = (s.rap.requests + 1) % 65536 ∧
    r.refused = (if st = .ok then s.rap.refused else satInc 65535 s.rap.refused) ∧ r.handles = s.rap.handles ∧ r.latch = s.rap.latch := by
  have h0 : ∃ (l : List (Nat × Sess)) (x : Can), (if who < 4 then id else
      canTake (fget s (R.BRD_SESS_STAT who) F.BRD_SESS_STAT_CTRL) 1) (sessTouch s who) =
        { s with pwr := { s.pwr with stayFrom := s.tb }, brd := { s.brd with sess := l }, can := x } ∧ (who < 4 → x = s.can) := by
    obtain ⟨l, hl⟩ := sessTouch_eq s who
    rw [hl]
    by_cases hw : who < 4
    · rw [if_pos hw]; exact ⟨l, s.can, rfl, fun _ => rfl⟩
    · rw [if_neg hw]
      obtain ⟨x, hx⟩ := canTake_eq (fget s (R.BRD_SESS_STAT who) F.BRD_SESS_STAT_CTRL) 1
        { s with pwr := { s.pwr with stayFrom := s.tb }, brd := { s.brd with sess := l } }
      exact ⟨l, x, hx, fun h => absurd h hw⟩
  obtain ⟨l, x, h, hx⟩ := h0
  unfold rapAnswer
  rw [h]
  by_cases hs : sessSends s who = true
  · refine ⟨l, x, [⟨MsgKind.RAP_ANSWER, who, (rapCode st : Int) :: data⟩], { s.rap with
      requests := (s.rap.requests + 1) % 65536
      refused := if st = .ok then s.rap.refused else satInc 65535 s.rap.refused }, ?_, by simp, hx, rfl, rfl, rfl, rfl⟩
    simp only [hs, if_true]; rfl
  · refine ⟨l, x, [], { s.rap with
      requests := (s.rap.requests + 1) % 65536
      refused := if st = .ok then s.rap.refused else satInc 65535 s.rap.refused }, ?_, by simp, hx, rfl, rfl, rfl, rfl⟩
    simp only [hs, List.append_nil]; rfl

section recRaise
variable (s : State) (f : Bool) (e : Ev) (args : List Int)
@[simp] theorem recRaise_pending : (recRaise s f e args).pending = s.pending := by
  obtain ⟨_, h⟩ := recRaise_eq s f e args; rw [h]
@[simp] theorem recRaise_regs : (recRaise s f e args).regs = s.regs := by
  obtain ⟨_, h⟩ := recRaise_eq s f e args; rw [h]
@[simp] theorem recRaise_tb : (recRaise s f e args).tb = s.tb := by
  obtain ⟨_, h⟩ := recRaise_eq s f e args; rw [h]
@[simp] theorem recRaise_pwr : (recRaise s f e args).pwr = s.pwr := by
  obtain ⟨_, h⟩ := recRaise_eq s f e args; rw [h]
@[simp] theorem recRaise_img : (recRaise s f e args).img = s.img := by
  obtain ⟨_, h⟩ := recRaise_eq s f e args; rw [h]
@[simp] theorem recRaise_cfg : (recRaise s f e args).cfg = s.cfg := by
  obtain ⟨_, h⟩ := recRaise_eq s f e args; rw [h]
@[simp] theorem recRaise_geo : (recRaise s f e args).geo = s.geo := by
  obtain ⟨_, h⟩ := recRaise_eq s f e args; rw [h]
@[simp] theorem recRaise_fbi : (recRaise s f e args).fbi = s.fbi := by
  obtain ⟨_, h⟩ := recRaise_eq s f e args; rw [h]
@[simp] theorem recRaise_gns : (recRaise s f e args).gns = s.gns := by
  obtain ⟨_, h⟩ := recRaise_eq s f e args; rw [h]
@[simp] theorem recRaise_pos : (recRaise s f e args).pos = s.pos := by
  obtain ⟨_, h⟩ := recRaise_eq s f e args; rw [h]
@[simp] theorem recRaise_str : (recRaise s f e args).str = s.str := by
  obtain ⟨_, h⟩ := recRaise_eq s f e args; rw [h]
@[simp] theorem recRaise_saf : (recRaise s f e args).saf = s.saf := by
  obtain ⟨_, h⟩ := recRaise_eq s f e args; rw [h]
@[simp] theorem recRaise_cov : (recRaise s f e args).cov = s.cov := by
  obtain ⟨_, h⟩ := recRaise_eq s f e args; rw [h]
@[simp] theorem recRaise_pwm : (recRaise s f e args).pwm = s.pwm := by
  obtain ⟨_, h⟩ := recRaise_eq s f e args; rw [h]
@[simp] theorem recRaise_lsw : (recRaise s f e args).lsw = s.lsw := by
  obtain ⟨_, h⟩ := recRaise_eq s f e args; rw [h]
@[simp] theorem recRaise_ctl : (recRaise s f e args).ctl = s.ctl := by
  obtain ⟨_, h⟩ := recRaise_eq s f e args; rw [h]
@[simp] theorem recRaise_can : (recRaise s f e args).can = s.can := by
  obtain ⟨_, h⟩ := recRaise_eq s f e args; rw [h]
@[simp] theorem recRaise_team : (recRaise s f e args).team = s.team := by
  obtain ⟨_, h⟩ := recRaise_eq s f e args; rw [h]
@[simp] theorem recRaise_brd : (recRaise s f e args).brd = s.brd := by
  obtain ⟨_, h⟩ := recRaise_eq s f e args; rw [h]
@[simp] theorem recRaise_far : (recRaise s f e args).far = s.far := by
  obtain ⟨_, h⟩ := recRaise_eq s f e args; rw [h]
@[simp] theorem recRaise_flt : (recRaise s f e args).flt = s.flt := by
  obtain ⟨_, h⟩ := recRaise_eq s f e args; rw [h]
@[simp] theorem recRaise_rap : (recRaise s f e args).rap = s.rap := by
  obtain ⟨_, h⟩ := recRaise_eq s f e args; rw [h]
@[simp] theorem recRaise_sent : (recRaise s f e args).sent = s.sent := by
  obtain ⟨_, h⟩ := recRaise_eq s f e args; rw [h]
@[simp] theorem recRaise_freeCnt : (recRaise s f e args).freeCnt = s.freeCnt := by
  obtain ⟨_, h⟩ := recRaise_eq s f e args; rw [h]
end recRaise

section raise
variable (s : State) (e : Ev) (args : List Int)
@[simp] theorem raise_pending : (raise s e args).pending = s.pending := by
  obtain ⟨_, h⟩ := raise_eq s e args; rw [h]
@[simp] theorem raise_regs : (raise s e args).regs = s.regs := by
  obtain ⟨_, h⟩ := raise_eq s e args; rw [h]
@[simp] theorem raise_tb : (raise s e args).tb = s.tb := by
  obtain ⟨_, h⟩ := raise_eq s e args; rw [h]
@[simp] theorem raise_pwr : (raise s e args).pwr = s.pwr := by
  obtain ⟨_, h⟩ := raise_eq s e args; rw [h]
@[simp] theorem raise_img : (raise s e args).img = s.img := by
  obtain ⟨_, h⟩ := raise_eq s e args; rw [h]
@[simp] theorem raise_cfg : (raise s e args).cfg = s.cfg := by
  obtain ⟨_, h⟩ := raise_eq s e args; rw [h]
@[simp] theorem raise_geo : (raise s e args).geo = s.geo := by
  obtain ⟨_, h⟩ := raise_eq s e args; rw [h]
@[simp] theorem raise_fbi : (raise s e args).fbi = s.fbi := by
  obtain ⟨_, h⟩ := raise_eq s e args; rw [h]
@[simp] theorem raise_gns : (raise s e args).gns = s.gns := by
  obtain ⟨_, h⟩ := raise_eq s e args; rw [h]
@[simp] theorem raise_pos : (raise s e args).pos = s.pos := by
  obtain ⟨_, h⟩ := raise_eq s e args; rw [h]
@[simp] theorem raise_str : (raise s e args).str = s.str := by
  obtain ⟨_, h⟩ := raise_eq s e args; rw [h]
@[simp] theorem raise_saf : (raise s e args).saf = s.saf := by
  obtain ⟨_, h⟩ := raise_eq s e args; rw [h]
@[simp] theorem raise_cov : (raise s e args).cov = s.cov := by
  obtain ⟨_, h⟩ := raise_eq s e args; rw [h]
@[simp] theorem raise_pwm : (raise s e args).pwm = s.pwm := by
  obtain ⟨_, h⟩ := raise_eq s e args; rw [h]
@[simp] theorem raise_lsw : (raise s e args).lsw = s.lsw := by
  obtain ⟨_, h⟩ := raise_eq s e args; rw [h]
@[simp] theorem raise_ctl : (raise s e args).ctl = s.ctl := by
  obtain ⟨_, h⟩ := raise_eq s e args; rw [h]
@[simp] theorem raise_can : (raise s e args).can = s.can := by
  obtain ⟨_, h⟩ := raise_eq s e args; rw [h]
@[simp] theorem raise_team : (raise s e args).team = s.team := by
  obtain ⟨_, h⟩ := raise_eq s e args; rw [h]
@[simp] theorem raise_brd : (raise s e args).brd = s.brd := by
  obtain ⟨_, h⟩ := raise_eq s e args; rw [h]
@[simp] theorem raise_far : (raise s e args).far = s.far := by
  obtain ⟨_, h⟩ := raise_eq s e args; rw [h]
@[simp] theorem raise_flt : (raise s e args).flt = s.flt := by
  obtain ⟨_, h⟩ := raise_eq s e args; rw [h]
@[simp] theorem raise_rap : (raise s e args).rap = s.rap := by
  obtain ⟨_, h⟩ := raise_eq s e args; rw [h]
@[simp] theorem raise_sent : (raise s e args).sent = s.sent := by
  obtain ⟨_, h⟩ := raise_eq s e args; rw [h]
@[simp] theorem raise_freeCnt : (raise s e args).freeCnt = s.freeCnt := by
  obtain ⟨_, h⟩ := raise_eq s e args; rw [h]
end raise

section writeDenied
variable (s : State) (r : Role) (reg : Nat)
@[simp] theorem writeDenied_pending : (writeDenied s r reg).pending = s.pending := by
  obtain ⟨_, h⟩ := writeDenied_eq s r reg; rw [h]
@[simp] theorem writeDenied_regs : (writeDenied s r reg).regs = s.regs := by
  obtain ⟨_, h⟩ := writeDenied_eq s r reg; rw [h]
@[simp] theorem writeDenied_tb : (writeDenied s r reg).tb = s.tb := by
  obtain ⟨_, h⟩ := writeDenied_eq s r reg; rw [h]
@[simp] theorem writeDenied_pwr : (writeDenied s r reg).pwr = s.pwr := by
  obtain ⟨_, h⟩ := writeDenied_eq s r reg; rw [h]
@[simp] theorem writeDenied_img : (writeDenied s r reg).img = s.img := by
  obtain ⟨_, h⟩ := writeDenied_eq s r reg; rw [h]
@[simp] theorem writeDenied_cfg : (writeDenied s r reg).cfg = s.cfg := by
  obtain ⟨_, h⟩ := writeDenied_eq s r reg; rw [h]
@[simp] theorem writeDenied_geo : (writeDenied s r reg).geo = s.geo := by
  obtain ⟨_, h⟩ := writeDenied_eq s r reg; rw [h]
@[simp] theorem writeDenied_fbi : (writeDenied s r reg).fbi = s.fbi := by
  obtain ⟨_, h⟩ := writeDenied_eq s r reg; rw [h]
@[simp] theorem writeDenied_gns : (writeDenied s r reg).gns = s.gns := by
  obtain ⟨_, h⟩ := writeDenied_eq s r reg; rw [h]
@[simp] theorem writeDenied_pos : (writeDenied s r reg).pos = s.pos := by
  obtain ⟨_, h⟩ := writeDenied_eq s r reg; rw [h]
@[simp] theorem writeDenied_str : (writeDenied s r reg).str = s.str := by
  obtain ⟨_, h⟩ := writeDenied_eq s r reg; rw [h]
@[simp] theorem writeDenied_saf : (writeDenied s r reg).saf = s.saf := by
  obtain ⟨_, h⟩ := writeDenied_eq s r reg; rw [h]
@[simp] theorem writeDenied_cov : (writeDenied s r reg).cov = s.cov := by
  obtain ⟨_, h⟩ := writeDenied_eq s r reg; rw [h]
@[simp] theorem writeDenied_pwm : (writeDenied s r reg).pwm = s.pwm := by
  obtain ⟨_, h⟩ := writeDenied_eq s r reg; rw [h]
@[simp] theorem writeDenied_lsw : (writeDenied s r reg).lsw = s.lsw := by
  obtain ⟨_, h⟩ := writeDenied_eq s r reg; rw [h]
@[simp] theorem writeDenied_ctl : (writeDenied s r reg).ctl = s.ctl := by
  obtain ⟨_, h⟩ := writeDenied_eq s r reg; rw [h]
@[simp] theorem writeDenied_can : (writeDenied s r reg).can = s.can := by
  obtain ⟨_, h⟩ := writeDenied_eq s r reg; rw [h]
@[simp] theorem writeDenied_team : (writeDenied s r reg).team = s.team := by
  obtain ⟨_, h⟩ := writeDenied_eq s r reg; rw [h]
@[simp] theorem writeDenied_brd : (writeDenied s r reg).brd = s.brd := by
  obtain ⟨_, h⟩ := writeDenied_eq s r reg; rw [h]
@[simp] theorem writeDenied_far : (writeDenied s r reg).far = s.far := by
  obtain ⟨_, h⟩ := writeDenied_eq s r reg; rw [h]
@[simp] theorem writeDenied_flt : (writeDenied s r reg).flt = s.flt := by
  obtain ⟨_, h⟩ := writeDenied_eq s r reg; rw [h]
@[simp] theorem writeDenied_rap : (writeDenied s r reg).rap = s.rap := by
  obtain ⟨_, h⟩ := writeDenied_eq s r reg; rw [h]
@[simp] theorem writeDenied_sent : (writeDenied s r reg).sent = s.sent := by
  obtain ⟨_, h⟩ := writeDenied_eq s r reg; rw [h]
@[simp] theorem writeDenied_freeCnt : (writeDenied s r reg).freeCnt = s.freeCnt := by
  obtain ⟨_, h⟩ := writeDenied_eq s r reg; rw [h]
end writeDenied

section faultCls
variable (s : State) (e : Ev) (args : List Int) (c : Nat)
@[simp] theorem faultCls_pending : (faultCls s e args c).pending = s.pending := by
  obtain ⟨_, h⟩ := faultCls_eq s e args c; rw [h]
@[simp] theorem faultCls_regs : (faultCls s e args c).regs = s.regs := by
  obtain ⟨_, h⟩ := faultCls_eq s e args c; rw [h]
@[simp] theorem faultCls_tb : (faultCls s e args c).tb = s.tb := by
  obtain ⟨_, h⟩ := faultCls_eq s e args c; rw [h]
@[simp] theorem faultCls_pwr : (faultCls s e args c).pwr = s.pwr := by
  obtain ⟨_, h⟩ := faultCls_eq s e args c; rw [h]
@[simp] theorem faultCls_img : (faultCls s e args c).img = s.img := by
  obtain ⟨_, h⟩ := faultCls_eq s e args c; rw [h]
@[simp] theorem faultCls_cfg : (faultCls s e args c).cfg = s.cfg := by
  obtain ⟨_, h⟩ := faultCls_eq s e args c; rw [h]
@[simp] theorem faultCls_geo : (faultCls s e args c).geo = s.geo := by
  obtain ⟨_, h⟩ := faultCls_eq s e args c; rw [h]
@[simp] theorem faultCls_fbi : (faultCls s e args c).fbi = s.fbi := by
  obtain ⟨_, h⟩ := faultCls_eq s e args c; rw [h]
@[simp] theorem faultCls_gns : (faultCls s e args c).gns = s.gns := by
  obtain ⟨_, h⟩ := faultCls_eq s e args c; rw [h]
@[simp] theorem faultCls_pos : (faultCls s e args c).pos = s.pos := by
  obtain ⟨_, h⟩ := faultCls_eq s e args c; rw [h]
@[simp] theorem faultCls_str : (faultCls s e args c).str = s.str := by
  obtain ⟨_, h⟩ := faultCls_eq s e args c; rw [h]
@[simp] theorem faultCls_saf : (faultCls s e args c).saf = s.saf := by
  obtain ⟨_, h⟩ := faultCls_eq s e args c; rw [h]
@[simp] theorem faultCls_cov : (faultCls s e args c).cov = s.cov := by
  obtain ⟨_, h⟩ := faultCls_eq s e args c; rw [h]
@[simp] theorem faultCls_pwm : (faultCls s e args c).pwm = s.pwm := by
  obtain ⟨_, h⟩ := faultCls_eq s e args c; rw [h]
@[simp] theorem faultCls_lsw : (faultCls s e args c).lsw = s.lsw := by
  obtain ⟨_, h⟩ := faultCls_eq s e args c; rw [h]
@[simp] theorem faultCls_ctl : (faultCls s e args c).ctl = s.ctl := by
  obtain ⟨_, h⟩ := faultCls_eq s e args c; rw [h]
@[simp] theorem faultCls_can : (faultCls s e args c).can = s.can := by
  obtain ⟨_, h⟩ := faultCls_eq s e args c; rw [h]
@[simp] theorem faultCls_team : (faultCls s e args c).team = s.team := by
  obtain ⟨_, h⟩ := faultCls_eq s e args c; rw [h]
@[simp] theorem faultCls_brd : (faultCls s e args c).brd = s.brd := by
  obtain ⟨_, h⟩ := faultCls_eq s e args c; rw [h]
@[simp] theorem faultCls_far : (faultCls s e args c).far = s.far := by
  obtain ⟨_, h⟩ := faultCls_eq s e args c; rw [h]
@[simp] theorem faultCls_rap : (faultCls s e args c).rap = s.rap := by
  obtain ⟨_, h⟩ := faultCls_eq s e args c; rw [h]
@[simp] theorem faultCls_sent : (faultCls s e args c).sent = s.sent := by
  obtain ⟨_, h⟩ := faultCls_eq s e args c; rw [h]
@[simp] theorem faultCls_freeCnt : (faultCls s e args c).freeCnt = s.freeCnt := by
  obtain ⟨_, h⟩ := faultCls_eq s e args c; rw [h]
end faultCls

section fault
variable (s : State) (e : Ev) (args : List Int)
@[simp] theorem fault_pending : (fault s e args).pending = s.pending := by
  obtain ⟨_, h⟩ := fault_eq s e args; rw [h]
@[simp] theorem fault_regs : (fault s e args).regs = s.regs := by
  obtain ⟨_, h⟩ := fault_eq s e args; rw [h]
@[simp] theorem fault_tb : (fault s e args).tb = s.tb := by
  obtain ⟨_, h⟩ := fault_eq s e args; rw [h]
@[simp] theorem fault_pwr : (fault s e args).pwr = s.pwr := by
  obtain ⟨_, h⟩ := fault_eq s e args; rw [h]
@[simp] theorem fault_img : (fault s e args).img = s.img := by
  obtain ⟨_, h⟩ := fault_eq s e args; rw [h]
@[simp] theorem fault_cfg : (fault s e args).cfg = s.cfg := by
  obtain ⟨_, h⟩ := fault_eq s e args; rw [h]
@[simp] theorem fault_geo : (fault s e args).geo = s.geo := by
  obtain ⟨_, h⟩ := fault_eq s e args; rw [h]
@[simp] theorem fault_fbi : (fault s e args).fbi = s.fbi := by
  obtain ⟨_, h⟩ := fault_eq s e args; rw [h]
@[simp] theorem fault_gns : (fault s e args).gns = s.gns := by
  obtain ⟨_, h⟩ := fault_eq s e args; rw [h]
@[simp] theorem fault_pos : (fault s e args).pos = s.pos := by
  obtain ⟨_, h⟩ := fault_eq s e args; rw [h]
@[simp] theorem fault_str : (fault s e args).str = s.str := by
  obtain ⟨_, h⟩ := fault_eq s e args; rw [h]
@[simp] theorem fault_saf : (fault s e args).saf = s.saf := by
  obtain ⟨_, h⟩ := fault_eq s e args; rw [h]
@[simp] theorem fault_cov : (fault s e args).cov = s.cov := by
  obtain ⟨_, h⟩ := fault_eq s e args; rw [h]
@[simp] theorem fault_pwm : (fault s e args).pwm = s.pwm := by
  obtain ⟨_, h⟩ := fault_eq s e args; rw [h]
@[simp] theorem fault_lsw : (fault s e args).lsw = s.lsw := by
  obtain ⟨_, h⟩ := fault_eq s e args; rw [h]
@[simp] theorem fault_ctl : (fault s e args).ctl = s.ctl := by
  obtain ⟨_, h⟩ := fault_eq s e args; rw [h]
@[simp] theorem fault_can : (fault s e args).can = s.can := by
  obtain ⟨_, h⟩ := fault_eq s e args; rw [h]
@[simp] theorem fault_team : (fault s e args).team = s.team := by
  obtain ⟨_, h⟩ := fault_eq s e args; rw [h]
@[simp] theorem fault_brd : (fault s e args).brd = s.brd := by
  obtain ⟨_, h⟩ := fault_eq s e args; rw [h]
@[simp] theorem fault_far : (fault s e args).far = s.far := by
  obtain ⟨_, h⟩ := fault_eq s e args; rw [h]
@[simp] theorem fault_rap : (fault s e args).rap = s.rap := by
  obtain ⟨_, h⟩ := fault_eq s e args; rw [h]
@[simp] theorem fault_sent : (fault s e args).sent = s.sent := by
  obtain ⟨_, h⟩ := fault_eq s e args; rw [h]
@[simp] theorem fault_freeCnt : (fault s e args).freeCnt = s.freeCnt := by
  obtain ⟨_, h⟩ := fault_eq s e args; rw [h]
end fault

section faultEnd
variable (s : State) (e : Ev) (args : List Int)
@[simp] theorem faultEnd_pending : (faultEnd s e args).pending = s.pending := by
  obtain ⟨_, h⟩ := faultEnd_eq s e args; rw [h]
@[simp] theorem faultEnd_regs : (faultEnd s e args).regs = s.regs := by
  obtain ⟨_, h⟩ := faultEnd_eq s e args; rw [h]
@[simp] theorem faultEnd_tb : (faultEnd s e args).tb = s.tb := by
  obtain ⟨_, h⟩ := faultEnd_eq s e args; rw [h]
@[simp] theorem faultEnd_pwr : (faultEnd s e args).pwr = s.pwr := by
  obtain ⟨_, h⟩ := faultEnd_eq s e args; rw [h]
@[simp] theorem faultEnd_img : (faultEnd s e args).img = s.img := by
  obtain ⟨_, h⟩ := faultEnd_eq s e args; rw [h]
@[simp] theorem faultEnd_cfg : (faultEnd s e args).cfg = s.cfg := by
  obtain ⟨_, h⟩ := faultEnd_eq s e args; rw [h]
@[simp] theorem faultEnd_geo : (faultEnd s e args).geo = s.geo := by
  obtain ⟨_, h⟩ := faultEnd_eq s e args; rw [h]
@[simp] theorem faultEnd_fbi : (faultEnd s e args).fbi = s.fbi := by
  obtain ⟨_, h⟩ := faultEnd_eq s e args; rw [h]
@[simp] theorem faultEnd_gns : (faultEnd s e args).gns = s.gns := by
  obtain ⟨_, h⟩ := faultEnd_eq s e args; rw [h]
@[simp] theorem faultEnd_pos : (faultEnd s e args).pos = s.pos := by
  obtain ⟨_, h⟩ := faultEnd_eq s e args; rw [h]
@[simp] theorem faultEnd_str : (faultEnd s e args).str = s.str := by
  obtain ⟨_, h⟩ := faultEnd_eq s e args; rw [h]
@[simp] theorem faultEnd_saf : (faultEnd s e args).saf = s.saf := by
  obtain ⟨_, h⟩ := faultEnd_eq s e args; rw [h]
@[simp] theorem faultEnd_cov : (faultEnd s e args).cov = s.cov := by
  obtain ⟨_, h⟩ := faultEnd_eq s e args; rw [h]
@[simp] theorem faultEnd_pwm : (faultEnd s e args).pwm = s.pwm := by
  obtain ⟨_, h⟩ := faultEnd_eq s e args; rw [h]
@[simp] theorem faultEnd_lsw : (faultEnd s e args).lsw = s.lsw := by
  obtain ⟨_, h⟩ := faultEnd_eq s e args; rw [h]
@[simp] theorem faultEnd_ctl : (faultEnd s e args).ctl = s.ctl := by
  obtain ⟨_, h⟩ := faultEnd_eq s e args; rw [h]
@[simp] theorem faultEnd_can : (faultEnd s e args).can = s.can := by
  obtain ⟨_, h⟩ := faultEnd_eq s e args; rw [h]
@[simp] theorem faultEnd_team : (faultEnd s e args).team = s.team := by
  obtain ⟨_, h⟩ := faultEnd_eq s e args; rw [h]
@[simp] theorem faultEnd_brd : (faultEnd s e args).brd = s.brd := by
  obtain ⟨_, h⟩ := faultEnd_eq s e args; rw [h]
@[simp] theorem faultEnd_far : (faultEnd s e args).far = s.far := by
  obtain ⟨_, h⟩ := faultEnd_eq s e args; rw [h]
@[simp] theorem faultEnd_rap : (faultEnd s e args).rap = s.rap := by
  obtain ⟨_, h⟩ := faultEnd_eq s e args; rw [h]
@[simp] theorem faultEnd_sent : (faultEnd s e args).sent = s.sent := by
  obtain ⟨_, h⟩ := faultEnd_eq s e args; rw [h]
@[simp] theorem faultEnd_freeCnt : (faultEnd s e args).freeCnt = s.freeCnt := by
  obtain ⟨_, h⟩ := faultEnd_eq s e args; rw [h]
end faultEnd

section rapAnswer
variable (s : State) (who : Nat) (st : RapStatus) (data : List Int)
@[simp] theorem rapAnswer_pending : (rapAnswer s who st data).pending = s.pending := by
  obtain ⟨_, _, _, _, h, -⟩ := rapAnswer_eq s who st data; rw [h]
@[simp] theorem rapAnswer_regs : (rapAnswer s who st data).regs = s.regs := by
  obtain ⟨_, _, _, _, h, -⟩ := rapAnswer_eq s who st data; rw [h]
@[simp] theorem rapAnswer_tb : (rapAnswer s who st data).tb = s.tb := by
  obtain ⟨_, _, _, _, h, -⟩ := rapAnswer_eq s who st data; rw [h]
@[simp] theorem rapAnswer_img : (rapAnswer s who st data).img = s.img := by
  obtain ⟨_, _, _, _, h, -⟩ := rapAnswer_eq s who st data; rw [h]
@[simp] theorem rapAnswer_cfg : (rapAnswer s who st data).cfg = s.cfg := by
  obtain ⟨_, _, _, _, h, -⟩ := rapAnswer_eq s who st data; rw [h]
@[simp] theorem rapAnswer_geo : (rapAnswer s who st data).geo = s.geo := by
  obtain ⟨_, _, _, _, h, -⟩ := rapAnswer_eq s who st data; rw [h]
@[simp] theorem rapAnswer_fbi : (rapAnswer s who st data).fbi = s.fbi := by
  obtain ⟨_, _, _, _, h, -⟩ := rapAnswer_eq s who st data; rw [h]
@[simp] theorem rapAnswer_gns : (rapAnswer s who st data).gns = s.gns := by
  obtain ⟨_, _, _, _, h, -⟩ := rapAnswer_eq s who st data; rw [h]
@[simp] theorem rapAnswer_pos : (rapAnswer s who st data).pos = s.pos := by
  obtain ⟨_, _, _, _, h, -⟩ := rapAnswer_eq s who st data; rw [h]
@[simp] theorem rapAnswer_str : (rapAnswer s who st data).str = s.str := by
  obtain ⟨_, _, _, _, h, -⟩ := rapAnswer_eq s who st data; rw [h]
@[simp] theorem rapAnswer_saf : (rapAnswer s who st data).saf = s.saf := by
  obtain ⟨_, _, _, _, h, -⟩ := rapAnswer_eq s who st data; rw [h]
@[simp] theorem rapAnswer_cov : (rapAnswer s who st data).cov = s.cov := by
  obtain ⟨_, _, _, _, h, -⟩ := rapAnswer_eq s who st data; rw [h]
@[simp] theorem rapAnswer_pwm : (rapAnswer s who st data).pwm = s.pwm := by
  obtain ⟨_, _, _, _, h, -⟩ := rapAnswer_eq s who st data; rw [h]
@[simp] theorem rapAnswer_lsw : (rapAnswer s who st data).lsw = s.lsw := by
  obtain ⟨_, _, _, _, h, -⟩ := rapAnswer_eq s who st data; rw [h]
@[simp] theorem rapAnswer_ctl : (rapAnswer s who st data).ctl = s.ctl := by
  obtain ⟨_, _, _, _, h, -⟩ := rapAnswer_eq s who st data; rw [h]
@[simp] theorem rapAnswer_team : (rapAnswer s who st data).team = s.team := by
  obtain ⟨_, _, _, _, h, -⟩ := rapAnswer_eq s who st data; rw [h]
@[simp] theorem rapAnswer_far : (rapAnswer s who st data).far = s.far := by
  obtain ⟨_, _, _, _, h, -⟩ := rapAnswer_eq s who st data; rw [h]
@[simp] theorem rapAnswer_stb : (rapAnswer s who st data).stb = s.stb := by
  obtain ⟨_, _, _, _, h, -⟩ := rapAnswer_eq s who st data; rw [h]
@[simp] theorem rapAnswer_flt : (rapAnswer s who st data).flt = s.flt := by
  obtain ⟨_, _, _, _, h, -⟩ := rapAnswer_eq s who st data; rw [h]
@[simp] theorem rapAnswer_freeCnt : (rapAnswer s who st data).freeCnt = s.freeCnt := by
  obtain ⟨_, _, _, _, h, -⟩ := rapAnswer_eq s who st data; rw [h]
end rapAnswer

end Sys2Proof.Laws
end

