-- ==== Sys2Proof/Laws/Regs.lean ====
section
/-!
SUPPORT. Laws/Regs.lean: reading registers and fields after a write (R16, R477), and the canonical form of the register file.
-/

open Sys2Proof Sys2Proof.Machine

namespace Sys2Proof.Laws

@[simp] theorem rget_rset_same (s : State) (a : Nat) (w : Word) : rget (rset s a w) a = w := smGet_smSet_same _

theorem rget_rset_ne {s : State} {a b : Nat} {w : Word} (h : b ≠ a) : rget (rset s a w) b = rget s b := smGet_smSet_ne h _

theorem rget_fset_ne {s : State} {a b : Nat} {f : Fld} {v : Nat} (h : b ≠ a) : rget (fset s a f v) b = rget s b := rget_rset_ne h

theorem fget_rset_ne {s : State} {a b : Nat} {w : Word} {g : Fld} (h : b ≠ a) : fget (rset s a w) b g = fget s b g := by
  rw [fget, rget_rset_ne h, fget]

theorem fget_fset_ne {s : State} {a b : Nat} {f g : Fld} {v : Nat} (h : b ≠ a) : fget (fset s a f v) b g = fget s b g := fget_rset_ne h

theorem fbit_fset_ne {s : State} {a b : Nat} {f g : Fld} {v : Nat} (h : b ≠ a) : fbit (fset s a f v) b g = fbit s b g := by
  rw [fbit, fget_fset_ne h, fbit]

/-- A field lies inside the word. -/
abbrev inWord (f : Fld) : Prop := f.lo + f.w ≤ 32

theorem field_split (x v a k : Nat) (ha : 0 < a) (hk : 0 < k) :
    (x % a + v % k * a + x / (a * k) * (a * k)) / a % k = v % k ∧
      (x % a + v % k * a + x / (a * k) * (a * k)) % a = x % a ∧
      (x % a + v % k * a + x / (a * k) * (a * k)) / (a * k) = x / (a * k) := by
  have e : x % a + v % k * a + x / (a * k) * (a * k) = x % a + a * (v % k + k * (x / (a * k))) := by ring
  have h1 : (x % a + v % k * a + x / (a * k) * (a * k)) / a = v % k + k * (x / (a * k)) := by
    rw [e, Nat.add_mul_div_left _ _ ha, Nat.div_eq_of_lt (Nat.mod_lt _ ha), Nat.zero_add]
  refine ⟨?_, ?_, ?_⟩
  · rw [h1, Nat.add_mul_mod_self_left, Nat.mod_mod]
  · rw [e, Nat.add_mul_mod_self_left, Nat.mod_mod]
  · rw [← Nat.div_div_eq_div_mul, h1, Nat.add_mul_div_left _ _ hk, Nat.div_eq_of_lt (Nat.mod_lt _ hk), Nat.zero_add]

theorem fsetW_toNat {w : Word} {f : Fld} {v : Nat} (hf : inWord f) :
    (fsetW w f v).toNat = w.toNat % 2 ^ f.lo + v % 2 ^ f.w * 2 ^ f.lo + w.toNat / (2 ^ f.lo * 2 ^ f.w) * (2 ^ f.lo * 2 ^ f.w) := by
  have hw : w.toNat < 2 ^ 32 := w.isLt
  have s := field_split w.toNat v (2 ^ f.lo) (2 ^ f.w) (by positivity) (by positivity)
  have e : (2 : Nat) ^ 32 = 2 ^ f.lo * 2 ^ f.w * 2 ^ (32 - (f.lo + f.w)) := by
    rw [← pow_add, ← pow_add]; congr 1; unfold inWord at hf; omega
  have lt : w.toNat % 2 ^ f.lo + v % 2 ^ f.w * 2 ^ f.lo + w.toNat / (2 ^ f.lo * 2 ^ f.w) * (2 ^ f.lo * 2 ^ f.w) < 2 ^ 32 := by
    have h3 : w.toNat / (2 ^ f.lo * 2 ^ f.w) < 2 ^ (32 - (f.lo + f.w)) := by
      apply Nat.div_lt_of_lt_mul; rw [← e]; exact hw
    rw [← s.2.2, Nat.div_lt_iff_lt_mul (by positivity)] at h3
    rw [e, Nat.mul_comm (2 ^ f.lo * 2 ^ f.w) (2 ^ (32 - (f.lo + f.w)))]; exact h3
  rw [fsetW, BitVec.toNat_ofNat, pow_add, Nat.mod_eq_of_lt lt]

/-- A field written is read back, its low bits. -/
theorem fgetW_fsetW_same {w : Word} {f : Fld} {v : Nat} (hf : inWord f) : fgetW (fsetW w f v) f = v % 2 ^ f.w := by
  rw [fgetW, fsetW_toNat hf]
  exact (field_split w.toNat v (2 ^ f.lo) (2 ^ f.w) (by positivity) (by positivity)).1

/-- A field written leaves every other field of the register alone. -/
theorem fgetW_fsetW_ne {w : Word} {f g : Fld} {v : Nat} (hf : inWord f) (h : g.lo + g.w ≤ f.lo ∨ f.lo + f.w ≤ g.lo) :
    fgetW (fsetW w f v) g = fgetW w g := by
  have s := field_split w.toNat v (2 ^ f.lo) (2 ^ f.w) (by positivity) (by positivity)
  rw [fgetW, fgetW, fsetW_toNat hf]
  rcases h with h | h
  · have low : ∀ x : Nat, x / 2 ^ g.lo % 2 ^ g.w = x % 2 ^ f.lo / 2 ^ g.lo % 2 ^ g.w := by
      intro x
      have e : (2 : Nat) ^ f.lo = 2 ^ g.lo * 2 ^ g.w * 2 ^ (f.lo - (g.lo + g.w)) := by
        rw [← pow_add, ← pow_add]; congr 1; omega
      rw [e, Nat.mul_assoc, Nat.mod_mul_right_div_self, Nat.mod_mul_right_mod]
    rw [low, s.2.1, ← low]
  · have high : ∀ x : Nat, x / 2 ^ g.lo = x / (2 ^ f.lo * 2 ^ f.w) / 2 ^ (g.lo - (f.lo + f.w)) := by
      intro x
      rw [Nat.div_div_eq_div_mul, ← pow_add, ← pow_add]; congr 2; omega
    rw [high, s.2.2, ← high]

theorem fget_fset_same {s : State} {a : Nat} {f : Fld} {v : Nat} (hf : inWord f) : fget (fset s a f v) a f = v % 2 ^ f.w := by
  rw [fget, fset, rget_rset_same, fgetW_fsetW_same hf]

theorem fget_fset_other {s : State} {a : Nat} {f g : Fld} {v : Nat} (hf : inWord f) (h : g.lo + g.w ≤ f.lo ∨ f.lo + f.w ≤ g.lo) :
    fget (fset s a f v) a g = fget s a g := by
  rw [fget, fset, rget_rset_same, fgetW_fsetW_ne hf h, fget]

theorem regsWf_rset {s : State} {a : Nat} {w : Word} (h : smWf resetWord s.regs = true) : smWf resetWord (rset s a w).regs = true :=
  smWf_smSet h

end Sys2Proof.Laws
end

