-- ==== Sys2Proof/Tests/Slice0.lean ====
section
/-!
SUPPORT. Tests/Slice0.lean: terms that WellFormed refuses, concrete states that meet the hypotheses of the statements, and small tests of one
command each, with expected results taken from spec/.
-/

set_option linter.unusedVariables false
set_option maxRecDepth 8000
set_option Elab.async false

open Sys2Proof Sys2Proof.Machine

namespace Sys2Proof.Tests

/-! ### Small states -/

/-- Change PWR's plain state. -/
def wPwr (f : Pwr → Pwr) (s : State) : State := { s with pwr := f s.pwr }

/-- An open session of a role. -/
def wSess (k role : Nat) (lease : Option Nat) (s : State) : State :=
  setSess k ⟨k, 0, 0, [], 0, 0, 0, 0, none, 0, lease⟩
    (fset (fsetb s (R.BRD_SESS_STAT k) F.BRD_SESS_STAT_OPEN true) (R.BRD_SESS_STAT k) F.BRD_SESS_STAT_ROLE role)

/-- A module that runs, every domain on, leading a team of its own, in no pair. -/
def wOn : State :=
  fset (fset (fsetb (fset (fsetb (wPwr (fun p => { p with tbRun := true, startDue := false, running := some 0, mid := some 0, serial := 1 }) State.reset)
    R.SYS_ID F.SYS_ID_CODE_G true) R.PWR_STATUS F.PWR_STATUS_DOMAINS 4095) R.TLK_STATUS F.TLK_STATUS_LEADER_VALID true)
    R.TLK_STATUS F.TLK_STATUS_STATE 2) R.SYS_LEVEL F.SYS_LEVEL_LEVEL 2

/-- With an OEM session 0, an OWNER session 1, a DEBUG session 2 and a VENDOR session 3. -/
def up : State := wSess 3 1 none (wSess 2 9 none (wSess 1 3 none (wSess 0 2 none wOn)))

/-- With chain 0 of one link in a state. -/
def wLink (k : Link) (x : LinkSt) (s : State) : State :=
  setLink { s with cfg := { s.cfg with chains := [{ (default : Chain) with inst := 0, links := [k] }] } } 0 x

/-- A square job of 100 m without exclusions or layers. -/
def jobW : JobDef :=
  { num := 1, origin := default, jobId := 7, found := true, keyOk := true, closed := false, cell := 500,
    boundary := ⟨[(0, 0), (100000, 0), (100000, 100000), (0, 100000)], [], 0⟩, excl := [], layers := [], secRx := [], badTiles := [] }

/-- Load group 0 owned by a kind of owner, its instance 0. -/
def lgTo (o : Nat) (s : State) : State := fset (fset s (R.PWM_LG_CFG 0) F.PWM_LG_CFG_OWNER o) (R.PWM_LG_CFG 0) F.PWM_LG_CFG_INST 0

/-- A loop 0 that steps at every boundary, of no curb. -/
def loopW : LoopDef := { (default : LoopDef) with loop := 0 }

/-- With it, its steps dealt to four lanes. -/
def loopOn (s : State) : State :=
  fset (fset { s with cfg := { s.cfg with loops := [loopW] }, ctl := { s.ctl with lanes := [0, 1, 2, 3] } } (R.CTL_LOOP_CFG 0) F.CTL_LOOP_CFG_DIV 1) (R.CTL_LOOP_CFG 0) F.CTL_LOOP_CFG_CURB 16

/-- Loop 0 runs, and a step injection of 1.0 for 100 ms at point 1 is configured. -/
def injOk (s : State) : State :=
  fset (rset (fset (fset (loopOn s) (R.CTL_LOOP_STAT 0) F.CTL_LOOP_STAT_STATE 1) R.CTL_INJ_CFG F.CTL_INJ_CFG_POINT 1) R.CTL_INJ_AMP 0x3F800000)
    R.CTL_INJ_DUR F.CTL_INJ_DUR_DUR 100

/-- Slot 0 of controller 0 in a state, with a frame. -/
def canSlotW (st : Nat) (s : State) : State :=
  setCan 0 { canOf s 0 with act := [(0, default)] } (fset s (R.CAN_SLOT_STAT 0 0) F.CAN_SLOT_STAT_STATE st)

/-- Controller 0 carries the ISOBUS role. -/
def isoW (s : State) : State := fsetb s (R.CAN_ISO 0) F.CAN_ISO_ROLE true

/-- The plan has one paired position, this module's. -/
def pairW (s : State) : State :=
  { s with cfg := { s.cfg with plan := { s.cfg.plan with positions := [{ (default : PlanPos) with paired := true }] } } }

/-- The island's configuration: SO 0 is released by SI 0 alone. -/
def mirW (s : State) : State :=
  { s with saf := { s.saf with mir := some { (default : Safmir) with sos := [{ (default : SafSrc) with local_ := 1 }] } } }

/-- A consumed connection with module 1. -/
def connD : ConnDef := { (default : ConnDef) with peer := 1, period := 4, wdt := 10, win := 4 }

/-- A connection of the island. -/
def connW (d : ConnDef) (s : State) : State := { s with saf := { s.saf with mir := some { (default : Safmir) with conns := [d] } } }

/-- A certificate that the OTP root issued. -/
def certW : Cert := { (default : Cert) with form := true, sigOk := true, issuer := wOn.img.otpRoot, toT := 10 ^ 30 }

/-- An OEM credential that counts. -/
def credW : Cred := { (default : Cred) with role := .oem, chain := [certW], sigOk := true, oemId := wOn.img.oemId }

/-- An OEM permit for this module alone. -/
def permitW : OemPermit := { (default : OemPermit) with sigOk := true, chain := [certW], oemId := wOn.img.oemId, serials := [1], toT := 10 ^ 9 }

/-- Livery 0, bound here, of root 0. -/
def livW (s : State) : State :=
  fset { s with brd := { s.brd with livs := [(0, { (default : Livery) with serials := [1], wrap := true })] } } (R.BRD_LIV 0) F.BRD_LIV_STATE 1

/-- A lease of livery 0. -/
def leaseW : Lease := { (default : Lease) with sigOk := true, toT := 10 ^ 15, areaMax := 1 }

/-- It is in force at place 0. -/
def leaseIn (s : State) : State :=
  fset { s with brd := { s.brd with leases := [(0, { (default : LeaseSt) with lease := leaseW })] } } (R.BRD_HIRE_STAT 0) F.BRD_HIRE_STAT_STATE 2

/-- Slices run, and the units of a kind have a spare. -/
def sliceW (k : Nat) (s : State) : State :=
  fsetb { s with far := { s.far with spares := [(k, 5)] } } R.FAR_STATUS F.FAR_STATUS_SLICES_RUN true

/-- An outcome that completes is a next state. -/
theorem next_of_completes (o : Host.Outcome State Fault Refusal) (h : completes o = true) : ∃ t, o = .next t := by
  cases o with
  | next t => exact ⟨t, rfl⟩
  | fault f => cases h
  | refused r => cases h

/-- What is there is some value. -/
theorem some_of_isSome {α : Type} (o : Option α) (h : o.isSome = true) : ∃ x, o = some x := by
  cases o with
  | some x => exact ⟨x, rfl⟩
  | none => cases h

/-- The square job with an exclusion over the first cells of its extent. -/
def jobX : JobDef := { jobW with excl := [⟨[(-2000, -2000), (2000, -2000), (2000, 2000), (-2000, 2000)], [], 0⟩] }

/-! ### Terms that WellFormed refuses, one for each check -/

theorem test_illformed_prepare_C : (Instr.prepare (2 ^ 64)).wellFormed = false := by decide +kernel
theorem test_illformed_ssiRead_check : (Instr.ssiRead 0 0 0 (64) false).wellFormed = false := by decide +kernel
theorem test_illformed_rtcmMessage_typ : (Instr.rtcmMessage default (4096) 0 0 false).wellFormed = false := by decide +kernel
theorem test_illformed_rtcmMessage_station : (Instr.rtcmMessage default 0 (4096) 0 false).wellFormed = false := by decide +kernel
theorem test_illformed_externalPosePgn_pgn : (Instr.externalPosePgn 0 (2 ^ 18) 0 false none).wellFormed = false := by decide +kernel
theorem test_illformed_ttOfsAnnounce_b : (Instr.ttOfsAnnounce 0 (2 ^ 64) 0).wellFormed = false := by decide +kernel
theorem test_illformed_holeResend_seq : (Instr.holeResend 0 0 (2 ^ 32)).wellFormed = false := by decide +kernel
theorem test_illformed_resendRequest_seq : (Instr.resendRequest 0 0 (2 ^ 32)).wellFormed = false := by decide +kernel
theorem test_illformed_replicaHole_seq : (Instr.replicaHole 0 0 (2 ^ 32)).wellFormed = false := by decide +kernel
theorem test_illformed_catchUpSeqTable_S : (Instr.catchUpSeqTable (2 ^ 64) none []).wellFormed = false := by decide +kernel
theorem test_illformed_rasterHash_hash : (Instr.rasterHash 0 (2 ^ 256)).wellFormed = false := by decide +kernel
theorem test_illformed_jobRunApply_b : (Instr.jobRunApply (2 ^ 64)).wellFormed = false := by decide +kernel
theorem test_illformed_exclApply_b : (Instr.exclApply 0 (2 ^ 64)).wellFormed = false := by decide +kernel
theorem test_illformed_sectionStateApply_b : (Instr.sectionStateApply (2 ^ 64) default).wellFormed = false := by decide +kernel
theorem test_illformed_modeChangeApply_M : (Instr.modeChangeApply (2 ^ 64) default).wellFormed = false := by decide +kernel
theorem test_illformed_pairWiredUpdate_duty : (Instr.pairWiredUpdate 0 false 0 (65536 + 1) 0 0).wellFormed = false := by decide +kernel
theorem test_illformed_pairWiredUpdate_phase : (Instr.pairWiredUpdate 0 false 0 0 (65536) 0).wellFormed = false := by decide +kernel
theorem test_illformed_pairWiredUpdate_tick : (Instr.pairWiredUpdate 0 false 0 0 0 (2 ^ 64)).wellFormed = false := by decide +kernel
theorem test_illformed_canFrame_sof : (Instr.canFrame 0 default (2 ^ 64)).wellFormed = false := by decide +kernel
theorem test_illformed_startOpportunity_q : (Instr.startOpportunity 0 (2 ^ 64)).wellFormed = false := by decide +kernel
theorem test_illformed_addressClaimedReceived_name : (Instr.addressClaimedReceived 0 0 (2 ^ 64)).wellFormed = false := by decide +kernel
theorem test_illformed_commandedAddress_name : (Instr.commandedAddress 0 (2 ^ 64) 0).wellFormed = false := by decide +kernel
theorem test_illformed_isoTransport_pgn : (Instr.isoTransport 0 0 false false (2 ^ 18) default none).wellFormed = false := by decide +kernel
theorem test_illformed_driveClaim_T : (Instr.driveClaim 0 (2 ^ 64)).wellFormed = false := by decide +kernel
theorem test_illformed_safetyPdu_src : (Instr.safetyPdu none (256) 0 0 0 0 0 0).wellFormed = false := by decide +kernel
theorem test_illformed_stbClear_mask : (Instr.stbClear 0 (16) default).wellFormed = false := by decide +kernel
theorem test_illformed_stbExport_mask : (Instr.stbExport 0 (16)).wellFormed = false := by decide +kernel
theorem test_illformed_collect_mask : (Instr.collect 0 (16)).wellFormed = false := by decide +kernel
theorem test_illformed_collectAnswer_serial : (Instr.collectAnswer 0 (2 ^ 64) 0 0 0).wellFormed = false := by decide +kernel
theorem test_illformed_collectAnswer_first : (Instr.collectAnswer 0 0 (2 ^ 32) 0 0).wellFormed = false := by decide +kernel
theorem test_illformed_collectAnswer_last : (Instr.collectAnswer 0 0 0 (2 ^ 32) 0).wellFormed = false := by decide +kernel
theorem test_illformed_collectAnswer_bytes : (Instr.collectAnswer 0 0 0 0 (2 ^ 32)).wellFormed = false := by decide +kernel
theorem test_illformed_rapRead_addr : (Instr.rapRead 0 none 0 (2 ^ 32) 0).wellFormed = false := by decide +kernel
theorem test_illformed_rapWrite_addr : (Instr.rapWrite 0 none 0 (2 ^ 32) []).wellFormed = false := by decide +kernel
theorem test_illformed_rapWrite_ws : (Instr.rapWrite 0 none 0 0 (List.replicate (64 + 1) 0)).wellFormed = false := by decide +kernel
theorem test_illformed_readLoLatch_addr : (Instr.readLoLatch 0 (2 ^ 32)).wellFormed = false := by decide +kernel
theorem test_illformed_blkOpen_param : (Instr.blkOpen 0 none 0 0 false (2 ^ 64) 0).wellFormed = false := by decide +kernel
theorem test_illformed_blkOpen_len : (Instr.blkOpen 0 none 0 0 false 0 (2 ^ 32)).wellFormed = false := by decide +kernel
theorem test_illformed_blkData_off : (Instr.blkData 0 none 0 0 (2 ^ 32) 0 []).wellFormed = false := by decide +kernel
theorem test_illformed_blkData_bytes : (Instr.blkData 0 none 0 0 0 0 (List.replicate (1024 + 1) 0)).wellFormed = false := by decide +kernel

/-! ### Small tests: the manual's worked examples -/

/-- R230, R231 (interleaved nozzles): 60 % of a 20,000,000-tick carrier, and the phase point of nozzle 3. -/
theorem test_duty_and_phase : rnd (39322 * 20000000) 65536 = 12000122 ∧ rnd (24576 * 20000000) 65536 = 7500000 := by decide

/-- R11: 30 degrees. -/
theorem test_heading : rnd (30 * 65536) 360 = 5461 := by decide

/-- The planter under a task controller: the first boundary after r. -/
theorem test_first_boundary : nextBoundary 5000012000 = 5000040000 := by decide

/-- The edges of an encoder at 125 counts/s, one every 1,600,000 ticks. -/
def edgesW : List Edge := (List.range 8).map (fun k => ⟨100000000 - k * 1600000, 100000000 - k * 1600000, 1000 - k⟩)

/-- It in a running module: VEL_WIN 50 ms, ZERO_TMO 200 ms, 57,600 lines within 8. -/
def encW (s : State) : State :=
  fset (fset (fset (fset (setCh s 0 { chSt s 0 with edges := edgesW }) (R.FBI_TMO 0) F.FBI_TMO_VEL_WIN 50) (R.FBI_TMO 0) F.FBI_TMO_ZERO_TMO 20)
    (R.FBI_IDX 0) F.FBI_IDX_LINES 57600) (R.FBI_IDX 0) F.FBI_IDX_LINE_TOL 8

/-- R86: 125 counts/s in units of 1/16 at a boundary, 50 counts/s 20 ms after the last edge, and STILL beyond ZERO_TMO, 200 ms. -/
theorem test_velocity : velAt (encW up) 0 100000000 = (2000, false) := by decide +kernel
theorem test_velocity_cap : velAt (encW up) 0 104000000 = (800, false) := by decide +kernel
theorem test_velocity_still : velAt (encW up) 0 140000001 = (0, true) := by decide +kernel

/-- R89: two indexes on a running platform. -/
theorem test_line_in_tolerance :
    (let t := applyIndex 0 0 (setCh (encW up) 0 { chSt (encW up) 0 with idxSeen := true, idxPos := true, idxAcc := 57597 })
     (fget t (R.FBI_LINE 0) F.FBI_LINE_LINE_DEV, fget t (R.FBI_LINE 0) F.FBI_LINE_IN_TOL_CNT, fbit t (R.FBI_STAT 0) F.FBI_STAT_LINE_FAULT)) =
      (65533, 1, false) := by decide +kernel

theorem test_line_fault :
    (let t := applyIndex 0 0 (setCh (encW up) 0 { chSt (encW up) 0 with idxSeen := true, idxPos := true, idxAcc := 57585 })
     (fget t (R.FBI_LINE 0) F.FBI_LINE_LINE_DEV, fbit t (R.FBI_STAT 0) F.FBI_STAT_LINE_FAULT)) = (65521, true) := by decide +kernel

/-- R94: the last hit of a revolution, at 57,120, is followed by VAL 480. -/
theorem test_compare_wraps :
    (smGet cmpInit (cmpHit 0 0 57120 1 0 { rset (rset (fsetb up (R.FBI_CMP_STAT 0) F.FBI_CMP_STAT_ARMED true) (R.FBI_CMP_STEP 0) 960)
      (R.FBI_CMP_MOD 0) 57600 with fbi := { up.fbi with cmp := [(0, ⟨57120, false, [], none⟩)] } }).fbi.cmp 0).val = 480 := by decide +kernel

/-- The alley's image: SCALE 20,480, magnets every 3,000 mm, ADAPT. -/
def alleyW (s : State) : State :=
  { s with
    cfg := { s.cfg with geom0 := { s.cfg.geom0 with family := .alley, scale := 20480, m0 := 0, mPitch := 3000, nM := 41, mCapture := 300, adapt := true, mag := 0 } }
    str := { s.str with sRef := 30000, cRef := 0, lastMatch := some (10, 0) } }

/-- R223: magnet 11 at 9,649 counts after magnet 10 is matched at 33,000 mm. -/
theorem test_magnet :
    (let t := alleyMagnet 0 9649 0 (alleyW up)
     (t.str.sRef, t.str.cRef, t.str.lastMatch)) = (33000, 9649, some (11, 9649)) := by decide +kernel

/-- R222: s at magnet 11 before the correction is 30,000 + 9,649 × 20,480 / 65536 mm. -/
theorem test_alley_distance : alleyQ16 (alleyW up) 9649 = 30000 * 65536 + 9649 * 20480 ∧ magnetNear (alleyW up).cfg.geom0 (alleyQ16 (alleyW up) 9649) = some 11 := by
  decide +kernel

/-- R215: an edge received at r = 5,000,012,000 with LAT_TC 400 ms lies at ground tick 5,080,012,000. -/
theorem test_tc_edge :
    (match exec (.tcSetpoint 23 false (some 5000012000)) { up with
        tb := 5000012000
        cfg := { up.cfg with geom0 := { up.cfg.geom0 with family := .field, directedOk := true, latTc := 4000 }, secs := [{ (default : SecEnt) with team := 23, sect := 1 }] } } with
      | .next t => (schedOf t 1).map (·.2) | _ => none) = some [(5080012000, false)] := by decide +kernel

/-- R281 rests on IEEE 754: 1/3 rounds to 3EAAAAABh, and 1.5 + 2.25 is 3.75. -/
theorem test_float : fDiv 0x3F800000 0x40400000 = 0x3EAAAAAB ∧ fAdd 0x3FC00000 0x40100000 = 0x40700000 := by decide +kernel

/-- R188: a tile has 256 by 256 cells, 1,024 tiles a row. -/
theorem test_tiles : tileOf (256, 0) = 1 ∧ tileOf (255, 256) = 1024 := by decide

/-- R32: the command at the front runs first and leaves the queue. -/
theorem test_step_takes_front :
    (match step { State.reset with pending := [.wakeTimer, .keyoffForce] } with | .next t => t.pending | _ => []) = [.keyoffForce] := by decide +kernel

/-- R14: an idle tick of a running module moves TB by one. -/
theorem test_idle_tick : (match step up with | .next t => t.tb | _ => 0) = up.tb + 1 := by decide +kernel


/-! ### States and operands that meet the hypotheses of the statements, clause by clause -/

/-! StepRunsFrontCommand -/

theorem witness_StepRunsFrontCommand_0 : ∃ (c : Instr) (q : List Instr) (s : State), s.pending = c :: q :=
  ⟨.wakeTimer, [], ({ State.reset with pending := [.wakeTimer] }), by decide +kernel⟩

theorem witness_StepRunsFrontCommand_2 : ∃ (s : State), s.pending = [] :=
  ⟨(up |> (fun s => { s with pending := [] })), by decide +kernel⟩

theorem witness_StepRunsFrontCommand_3 : ∃ (s : State), s.pwr.powered = false :=
  ⟨(up |> (fun s => { s with pwr := { s.pwr with powered := false } })), by decide +kernel⟩

/-! ResetLeavesTheStatedValues -/

theorem witness_ResetLeavesTheStatedValues_5 : ∃ (b : Boot), 90 ≤ b.vlog.toNat ∧ b.vlog.toNat ≤ 360 :=
  ⟨({ (default : Boot) with vlog := 120 }), by and_intros <;> decide +kernel⟩

/-! SupplyCommandsComplete -/

theorem witness_SupplyCommandsComplete_0 : ∃ (b : Boot) (s : State), (s.pwr.powered = false ∨ s.pwr.startDue = true) ∧ b.vlog.toNat ≤ 360 ∧ ((s.pwr.powered = true → s.pwr.ovOff = false ∧ s.pwr.brown = false)) ∧ (90 ≤ b.vlog.toNat ∨ (s.pwr.powered = true ∧ s.pwr.asleep = true)) :=
  ⟨({ (default : Boot) with vlog := 90 }), State.reset, by and_intros <;> decide +kernel⟩

theorem witness_SupplyCommandsComplete_1 : ∃ (b : Boot) (s : State), s.pwr.powered = false ∧ 360 < b.vlog.toNat ∧ b.vlog.toNat ≤ 580 :=
  ⟨({ (default : Boot) with vlog := 361 }), (up |> (fun s => { s with pwr := { s.pwr with powered := false } }) |> wPwr (fun p => { p with powered := false })), by and_intros <;> decide +kernel⟩

theorem witness_SupplyCommandsComplete_2 : ∃ (b : Boot) (s : State), s.pwr.powered = false ∧ 580 < b.vlog.toNat :=
  ⟨({ (default : Boot) with vlog := 581 }), (up |> (fun s => { s with pwr := { s.pwr with powered := false } }) |> wPwr (fun p => { p with powered := false })), by and_intros <;> decide +kernel⟩

theorem witness_SupplyCommandsComplete_3 : ∃ (v : BitVec 6) (s : State), s.pwr.powered = true ∧ s.pwr.strapNow ≠ v.toNat :=
  ⟨1, up, by and_intros <;> decide +kernel⟩

theorem witness_SupplyCommandsComplete_4 : ∃ (v : BitVec 10) (s : State), s.pwr.powered = true ∧ s.pwr.ovOff = false ∧ s.pwr.asleep = false ∧ s.pwr.startDue = false ∧ 360 < v.toNat ∧ v.toNat ≤ 580 :=
  ⟨361, up, by and_intros <;> decide +kernel⟩

theorem witness_SupplyCommandsComplete_5 : ∃ (v : BitVec 10) (s : State), s.pwr.ovOff = true ∧ v.toNat < 340 ∧ supplyHeld s = true :=
  ⟨0, (up |> (fun s => { s with pwr := { s.pwr with ovOff := true } }) |> (fun s => { s with tb := 10 ^ 15 })), by and_intros <;> decide +kernel⟩

theorem witness_SupplyCommandsComplete_6 : ∃ (v : BitVec 10) (s : State), s.pwr.powered = true ∧ s.pwr.brown = false ∧ v.toNat < 75 :=
  ⟨0, up, by and_intros <;> decide +kernel⟩

theorem witness_SupplyCommandsComplete_7 : ∃ (v : BitVec 10) (s : State), s.pwr.brown = true ∧ 90 ≤ v.toNat ∧ supplyHeld s = true :=
  ⟨90, (up |> (fun s => { s with pwr := { s.pwr with brown := true } }) |> (fun s => { s with tb := 10 ^ 15 })), by and_intros <;> decide +kernel⟩

theorem witness_SupplyCommandsComplete_8 : ∃ (s : State), s.pwr.supplyAt + msTicks 100 ≤ s.tb :=
  ⟨(up |> (fun s => { s with tb := 10 ^ 15 })), by decide +kernel⟩

theorem witness_SupplyCommandsComplete_9 : ∃ (s : State), s.pwr.powered = true ∧ s.pwr.asleep = false ∧ s.pwr.brown = false :=
  ⟨up, by and_intros <;> decide +kernel⟩

/-! SupplyWarningsShow -/

theorem witness_SupplyWarningsShow_0 : ∃ (v : BitVec 10) (s : State), s.pwr.powered = true ∧ fbit s R.PWR_STATUS F.PWR_STATUS_VLOG_LOW = false ∧ v.toNat < 90 :=
  ⟨0, (up |> (fun s => fsetb s R.PWR_STATUS F.PWR_STATUS_VLOG_LOW false)), by and_intros <;> decide +kernel⟩

theorem witness_SupplyWarningsShow_1 : ∃ (v : BitVec 10) (s : State), s.pwr.powered = true ∧ fbit s R.PWR_STATUS F.PWR_STATUS_VLOG_LOW = true ∧ 93 ≤ v.toNat :=
  ⟨93, (up |> (fun s => fsetb s R.PWR_STATUS F.PWR_STATUS_VLOG_LOW true)), by and_intros <;> decide +kernel⟩

theorem witness_SupplyWarningsShow_2 : ∃ (v : BitVec 10) (s : State), s.pwr.powered = true ∧ ((fbit s R.PWR_STATUS F.PWR_STATUS_VLOG_LOW = true ↔ v.toNat < 93)) ∧ (90 ≤ v.toNat ∨ fbit s R.PWR_STATUS F.PWR_STATUS_VLOG_LOW = true) :=
  ⟨93, up, by and_intros <;> decide +kernel⟩

theorem witness_SupplyWarningsShow_3 : ∃ (v : BitVec 10) (s : State), s.pwr.powered = true ∧ fbit s R.PWR_STATUS F.PWR_STATUS_VLOG_HIGH = false ∧ 320 < v.toNat :=
  ⟨321, (up |> (fun s => fsetb s R.PWR_STATUS F.PWR_STATUS_VLOG_HIGH false)), by and_intros <;> decide +kernel⟩

theorem witness_SupplyWarningsShow_4 : ∃ (v : BitVec 10) (s : State), s.pwr.powered = true ∧ fbit s R.PWR_STATUS F.PWR_STATUS_VLOG_HIGH = true ∧ v.toNat ≤ 317 :=
  ⟨0, (up |> (fun s => fsetb s R.PWR_STATUS F.PWR_STATUS_VLOG_HIGH true)), by and_intros <;> decide +kernel⟩

theorem witness_SupplyWarningsShow_5 : ∃ (v : BitVec 10) (s : State), s.pwr.powered = true ∧ fbit s R.PWR_STATUS F.PWR_STATUS_VLOG_HIGH = true ∧ 317 < v.toNat :=
  ⟨318, (up |> (fun s => fsetb s R.PWR_STATUS F.PWR_STATUS_VLOG_HIGH true)), by and_intros <;> decide +kernel⟩

/-! FirmwareSlotCommandsComplete -/

theorem witness_FirmwareSlotCommandsComplete_0 : ∃ (who : Fin 36) (s : State) (r : Nat), rapMay s who.val .image 0 = true ∧ s.pwr.running = some r :=
  ⟨0, (up |> (fun s => { s with pwr := { s.pwr with running := some (0) } })), 0, by and_intros <;> decide +kernel⟩

theorem witness_FirmwareSlotCommandsComplete_1 : ∃ (who : Fin 36) (s : State) (r : Nat), rapMay s who.val .image 0 = true ∧ s.pwr.running = some r ∧ (bootRec s).trial = true ∧ s.pwr.trialRun = false :=
  ⟨0, (up |> (fun s => { s with pwr := { s.pwr with running := some (0) } }) |> wPwr (fun p => { p with boot1 := ⟨true, 0, true, 1⟩ })), 0, by and_intros <;> decide +kernel⟩

theorem witness_FirmwareSlotCommandsComplete_2 : ∃ (s : State) (t : Nat) (r : Nat), s.pwr.trialAt = some t ∧ s.pwr.running = some r ∧ s.pwr.trialRun = true ∧ s.pwr.trialBad = false ∧ level s ≠ 0 ∧ t + 60 * secTicks ≤ s.tb :=
  ⟨(up |> (fun s => { s with pwr := { s.pwr with trialAt := some (0) } }) |> (fun s => { s with pwr := { s.pwr with running := some (0) } }) |> (fun s => { s with pwr := { s.pwr with trialRun := true } }) |> (fun s => { s with tb := 10 ^ 15 })), 0, 0, by and_intros <;> decide +kernel⟩

theorem witness_FirmwareSlotCommandsComplete_3 : ∃ (s : State) (r : Nat), s.pwr.running = some r ∧ s.pwr.trialRun = true ∧ s.pwr.powered = true ∧ s.pwr.asleep = false ∧ s.pwr.startDue = false ∧ s.pwr.trialBad = true :=
  ⟨(up |> (fun s => { s with pwr := { s.pwr with running := some (0) } }) |> (fun s => { s with pwr := { s.pwr with trialRun := true } }) |> (fun s => { s with pwr := { s.pwr with trialBad := true } })), 0, by and_intros <;> decide +kernel⟩

theorem witness_FirmwareSlotCommandsComplete_4 : ∃ (s : State) (r : Nat), s.pwr.running = some r ∧ s.pwr.trialRun = true ∧ s.pwr.powered = true ∧ s.pwr.asleep = false ∧ s.pwr.startDue = false ∧ s.pwr.trialAt = none ∧ msTicks 2500 ≤ s.tb :=
  ⟨(up |> (fun s => { s with pwr := { s.pwr with running := some (0) } }) |> (fun s => { s with pwr := { s.pwr with trialRun := true } }) |> (fun s => { s with tb := 10 ^ 15 })), 0, by and_intros <;> decide +kernel⟩

/-! WakeAndKeyoffComplete -/

theorem witness_WakeAndKeyoffComplete_0 : ∃ (s : State), s.pwr.powered = true ∧ s.pwr.asleep = true :=
  ⟨(up |> (fun s => { s with pwr := { s.pwr with asleep := true } })), by and_intros <;> decide +kernel⟩

theorem witness_WakeAndKeyoffComplete_1 : ∃ (s : State), s.pwr.powered = true ∧ s.pwr.asleep = false :=
  ⟨up, by and_intros <;> decide +kernel⟩

theorem witness_WakeAndKeyoffComplete_2 : ∃ (s : State), s.pwr.powered = true :=
  ⟨up, by decide +kernel⟩

theorem witness_WakeAndKeyoffComplete_3 : ∃ (s : State), s.pwr.powered = true ∧ s.pwr.asleep = true ∧ s.pwr.ovOff = false ∧ s.pwr.brown = false ∧ s.pwr.startDue = false ∧ fbit s R.PWR_CFG F.PWR_CFG_LINK_WAKE = true :=
  ⟨(up |> (fun s => { s with pwr := { s.pwr with asleep := true } }) |> (fun s => fsetb s R.PWR_CFG F.PWR_CFG_LINK_WAKE true)), by and_intros <;> decide +kernel⟩

theorem witness_WakeAndKeyoffComplete_4 : ∃ (s : State), s.pwr.powered = true ∧ s.pwr.asleep = true ∧ s.pwr.ovOff = false ∧ s.pwr.brown = false ∧ s.pwr.startDue = false ∧ fget s R.PWR_CFG F.PWR_CFG_WAKE_TMR ≠ 0 :=
  ⟨(up |> (fun s => { s with pwr := { s.pwr with asleep := true } }) |> (fun s => fset s R.PWR_CFG F.PWR_CFG_WAKE_TMR 1) |> (fun s => fset s R.PWR_CFG F.PWR_CFG_WAKE_TMR 1)), by and_intros <;> decide +kernel⟩

theorem witness_WakeAndKeyoffComplete_5 : ∃ (s : State), s.pwr.powered = true ∧ s.pwr.asleep = true ∧ fbit s R.PWR_CFG F.PWR_CFG_HALTER_WAKE = true :=
  ⟨(up |> (fun s => { s with pwr := { s.pwr with asleep := true } }) |> (fun s => fsetb s R.PWR_CFG F.PWR_CFG_HALTER_WAKE true)), by and_intros <;> decide +kernel⟩

theorem witness_WakeAndKeyoffComplete_6 : ∃ (c : Fin 4) (w : CanWake) (s : State), wakeSeen s c.val w ≠ 0 ∧ s.pwr.asleep = true ∧ s.pwr.startDue = false :=
  ⟨0, .errors, (up |> (fun s => { s with pwr := { s.pwr with asleep := true } }) |> (fun s => fset s (R.CAN_CTRL 0) F.CAN_CTRL_WAKE_MODE 2)), by and_intros <;> decide +kernel⟩

theorem witness_WakeAndKeyoffComplete_7 : ∃ (s : State), s.pwr.powered = true ∧ s.pwr.attn = false ∧ s.pwr.woken = false ∧ s.pwr.keyCond = false ∧ s.pwr.attnOff + msTicks (fget s R.PWR_CFG F.PWR_CFG_KEYOFF_DEB) ≤ s.tb :=
  ⟨(up |> (fun s => { s with tb := 10 ^ 15 })), by and_intros <;> decide +kernel⟩

theorem witness_WakeAndKeyoffComplete_8 : ∃ (who : Fin 36) (s : State), rapMay s who.val .sleep 0 = true :=
  ⟨1, up, by decide +kernel⟩

theorem witness_WakeAndKeyoffComplete_9 : ∃ (s : State), s.pwr.woken = true ∧ s.pwr.attn = false ∧ s.brd.sess = [] ∧ s.pwr.stayFrom + 60 * secTicks * fget s R.PWR_CFG F.PWR_CFG_STAY_AWAKE ≤ s.tb :=
  ⟨(up |> (fun s => { s with pwr := { s.pwr with woken := true } }) |> (fun s => { s with brd := { s.brd with sess := [] } }) |> (fun s => { s with tb := 10 ^ 15 })), by and_intros <;> decide +kernel⟩

theorem witness_WakeAndKeyoffComplete_10 : ∃ (s : State), s.pwr.keyoffK = none ∧ s.pwr.asleep = false ∧ domOn s 1 = true ∧ isLeader s = false ∧ teamState s ≠ 1 :=
  ⟨(up |> (fun s => fset s R.TLK_STATUS F.TLK_STATUS_LEADER 5)), by and_intros <;> decide +kernel⟩

theorem witness_WakeAndKeyoffComplete_11 : ∃ (who : Fin 36) (s : State), rapMay s who.val .other 0 = true :=
  ⟨0, up, by decide +kernel⟩

theorem witness_WakeAndKeyoffComplete_13 : ∃ (s : State) (K : Nat), s.pwr.keyoffK = some K ∧ K ≤ s.tb ∧ mayRun s = true ∧ domOn s 1 = true ∧ s.pwr.keyRun = true ∧ jobState s ≠ 3 ∧ jobState s ≠ 4 :=
  ⟨(up |> (fun s => { s with pwr := { s.pwr with keyoffK := some (0) } }) |> (fun s => { s with pwr := { s.pwr with keyRun := true } }) |> (fun s => { s with tb := 10 ^ 15 })), 0, by and_intros <;> decide +kernel⟩

theorem witness_WakeAndKeyoffComplete_14 : ∃ (s : State) (K : Nat), s.pwr.keyoffK = some K ∧ s.pwr.keyRun = true ∧ s.pwr.asleep = false ∧ K + 10 * secTicks ≤ s.tb ∧ mayFlush s = false :=
  ⟨(up |> (fun s => { s with pwr := { s.pwr with keyoffK := some (0) } }) |> (fun s => { s with pwr := { s.pwr with keyRun := true } }) |> (fun s => { s with tb := 10 ^ 15 }) |> (fun s => domSet s 9 false)), 0, by and_intros <;> decide +kernel⟩

/-! ClockAndErrorCommandsComplete -/

theorem witness_ClockAndErrorCommandsComplete_0 : ∃ (s : State), s.tb % cycleTicks = 0 ∧ level s < (levelHave s).1 :=
  ⟨(up |> (fun s => fset s R.SYS_LEVEL F.SYS_LEVEL_LEVEL 0) |> (fun s => { s with img := { s.img with active := some default } })), by and_intros <;> decide +kernel⟩

theorem witness_ClockAndErrorCommandsComplete_1 : ∃ (s : State), s.pwr.tbRun = true ∧ domOn s 1 = true ∧ s.tb % msTicks 1 = 0 :=
  ⟨up, by and_intros <;> decide +kernel⟩

theorem witness_ClockAndErrorCommandsComplete_2 : ∃ (ao : Int) (ref : Int) (safe : Int) (s : State), s.pwr.powered = true ∧ s.pwr.asleep = false ∧ s.pwr.startDue = false ∧ clkBad ao = false ∧ clkBad ref = false ∧ clkBad safe = false ∧ s.pwr.aoOk = true ∧ s.pwr.safeOk = true :=
  ⟨0, 0, 0, up, by and_intros <;> decide +kernel⟩

theorem witness_ClockAndErrorCommandsComplete_3 : ∃ (ao : Int) (ref : Int) (safe : Int) (s : State), s.pwr.powered = true ∧ s.pwr.asleep = false ∧ s.pwr.startDue = false ∧ clkBad ao = false ∧ clkBad ref = true ∧ clkBad safe = false ∧ s.pwr.aoOk = true ∧ s.pwr.safeOk = true :=
  ⟨0, 51, 0, up, by and_intros <;> decide +kernel⟩

theorem witness_ClockAndErrorCommandsComplete_4 : ∃ (s : State), s.pwr.powered = true ∧ s.pwr.asleep = false ∧ s.pwr.startDue = false :=
  ⟨up, by and_intros <;> decide +kernel⟩

theorem witness_ClockAndErrorCommandsComplete_5 : ∃ (s : State), s.pwr.refOk = false :=
  ⟨(up |> (fun s => { s with pwr := { s.pwr with refOk := false } })), by decide +kernel⟩

theorem witness_ClockAndErrorCommandsComplete_6 : ∃ (e : MemErr) (s : State), memHere s e = true :=
  ⟨default, up, by decide +kernel⟩

theorem witness_ClockAndErrorCommandsComplete_7 : ∃ (u : Fin 31) (s : State), u.val ≤ 8 ∧ domOn s 1 = true ∧ isRetired s 0 u.val = false :=
  ⟨0, up, by and_intros <;> decide +kernel⟩

theorem witness_ClockAndErrorCommandsComplete_8 : ∃ (s : State), domOn s 8 = true ∧ s.far.scrubAt + 86400 * secTicks ≤ s.stb.optTicks :=
  ⟨(up |> (fun s => { s with stb := { s.stb with optTicks := 86400 * secTicks } })), by and_intros <;> decide +kernel⟩

/-! ImageStoreCommandsComplete -/

theorem witness_ImageStoreCommandsComplete_0 : ∃ (who : Fin 36) (s : State) (c : Container), rapMay s who.val .image 9 = true ∧ swapBusy s = false ∧ s.img.slotPending = some c :=
  ⟨0, (up |> (fun s => { s with img := { s.img with slotPending := some (default) } })), default, by and_intros <;> decide +kernel⟩

theorem witness_ImageStoreCommandsComplete_1 : ∃ (who : Fin 36) (s : State), rapMay s who.val .image 9 = true ∧ swapBusy s = false ∧ imgState s = 3 ∧ otherMembers s = [] :=
  ⟨0, (up |> (fun s => fset s R.IMG_STATUS F.IMG_STATUS_STATE 3)), by and_intros <;> decide +kernel⟩

theorem witness_ImageStoreCommandsComplete_2 : ∃ (who : Fin 36) (s : State) (c : Container), rapMay s who.val .image 9 = true ∧ swapBusy s = true ∧ s.img.slotPending = some c :=
  ⟨0, (up |> (fun s => { s with img := { s.img with slotPending := some (default) } }) |> (fun s => fset s R.IMG_STATUS F.IMG_STATUS_STATE 5)), default, by and_intros <;> decide +kernel⟩

theorem witness_ImageStoreCommandsComplete_3 : ∃ (who : Fin 36) (s : State), rapMay s who.val .image 9 = true ∧ swapBusy s = true ∧ s.img.slotPending = none :=
  ⟨0, (up |> (fun s => { s with img := { s.img with slotPending := none } }) |> (fun s => fset s R.IMG_STATUS F.IMG_STATUS_STATE 5)), by and_intros <;> decide +kernel⟩

theorem witness_ImageStoreCommandsComplete_4 : ∃ (who : Fin 36) (s : State) (C : Nat), rapMay s who.val .image 9 = true ∧ s.img.swapC = some C ∧ s.tb + cycleTicks < C ∧ imgState s ≠ 6 ∧ otherMembers s = [] :=
  ⟨0, (up |> (fun s => { s with img := { s.img with swapC := some (40001) } })), 40001, by and_intros <;> decide +kernel⟩

theorem witness_ImageStoreCommandsComplete_5 : ∃ (who : Fin 36) (s : State), rapMay s who.val .image 9 = true :=
  ⟨0, up, by decide +kernel⟩

theorem witness_ImageStoreCommandsComplete_6 : ∃ (who : Fin 36) (s : State), rapMay s who.val .image 9 = true ∧ swapBusy s = false :=
  ⟨0, up, by and_intros <;> decide +kernel⟩

theorem witness_ImageStoreCommandsComplete_7 : ∃ (s : State), domOn s 9 = true ∧ domOn s 1 = true ∧ swapBusy s = false ∧ isLeader s = false :=
  ⟨(up |> (fun s => fset s R.TLK_STATUS F.TLK_STATUS_LEADER 5) |> (fun s => { s with img := { s.img with acks := [0] } })), by and_intros <;> decide +kernel⟩

theorem witness_ImageStoreCommandsComplete_8 : ∃ (m : Fin 64) (code : Fin 256) (s : State), isLeader s = true ∧ s.img.sending = true ∧ m.val ∈ s.img.acks ∧ code.val ≠ 0 ∧ code.val ≠ 10 ∧ code.val ≠ 11 ∧ s.tb ≤ s.img.sentAt + 2 * secTicks :=
  ⟨0, 1, (up |> (fun s => { s with img := { s.img with sending := true } }) |> (fun s => { s with img := { s.img with acks := [0, 1] } })), by and_intros <;> decide +kernel⟩

theorem witness_ImageStoreCommandsComplete_9 : ∃ (m : Fin 64) (s : State), isLeader s = true ∧ s.img.sending = true ∧ m.val ∈ s.img.acks ∧ s.img.acks.filter (· != m.val) ≠ [] ∧ s.tb ≤ s.img.sentAt + 2 * secTicks :=
  ⟨0, (up |> (fun s => { s with img := { s.img with sending := true } }) |> (fun s => { s with tb := 2 * secTicks }) |> (fun s => { s with img := { s.img with acks := [0, 1] } })), by and_intros <;> decide +kernel⟩

theorem witness_ImageStoreCommandsComplete_10 : ∃ (m : Fin 64) (s : State), isLeader s = true ∧ s.img.sending = true ∧ m.val ∈ s.img.acks ∧ s.img.sentAt + 2 * secTicks < s.tb :=
  ⟨0, (up |> (fun s => { s with img := { s.img with sending := true } }) |> (fun s => { s with tb := 2 * secTicks + 1 }) |> (fun s => { s with img := { s.img with acks := [0] } })), by and_intros <;> decide +kernel⟩

theorem witness_ImageStoreCommandsComplete_11 : ∃ (s : State), isLeader s = true ∧ s.img.sending = true ∧ s.img.acks ≠ [] ∧ s.img.sentAt + 2 * secTicks ≤ s.tb :=
  ⟨(up |> (fun s => { s with img := { s.img with sending := true } }) |> (fun s => { s with tb := 10 ^ 15 }) |> (fun s => { s with img := { s.img with acks := [0] } })), by and_intros <;> decide +kernel⟩

theorem witness_ImageStoreCommandsComplete_12 : ∃ (C : Nat) (s : State), isLeader s = false ∧ imgState s = 3 ∧ C % cycleTicks = 0 ∧ s.tb + cycleTicks < C :=
  ⟨80000, (up |> (fun s => fset s R.TLK_STATUS F.TLK_STATUS_LEADER 5) |> (fun s => fset s R.IMG_STATUS F.IMG_STATUS_STATE 3)), by and_intros <;> decide +kernel⟩

theorem witness_ImageStoreCommandsComplete_13 : ∃ (s : State) (C : Nat), isLeader s = false ∧ s.img.swapC = some C ∧ s.tb + cycleTicks < C ∧ imgState s = 5 :=
  ⟨(up |> (fun s => fset s R.TLK_STATUS F.TLK_STATUS_LEADER 5) |> (fun s => { s with img := { s.img with swapC := some (40001) } }) |> (fun s => fset s R.IMG_STATUS F.IMG_STATUS_STATE 5)), 40001, by and_intros <;> decide +kernel⟩

theorem witness_ImageStoreCommandsComplete_14 : ∃ (s : State) (C : Nat), s.img.swapC = some C ∧ imgState s = 5 ∧ C ≤ s.tb + cycleTicks ∧ domOn s 1 = true ∧ s.img.loopSwap = false :=
  ⟨(up |> (fun s => { s with img := { s.img with swapC := some (0) } }) |> (fun s => fset s R.IMG_STATUS F.IMG_STATUS_STATE 5) |> (fun s => { s with tb := 10 ^ 15 })), 0, by and_intros <;> decide +kernel⟩

theorem witness_ImageStoreCommandsComplete_15 : ∃ (s : State) (C : Nat) (c : Container), s.img.swapC = some C ∧ s.img.slotPending = some c ∧ imgState s = 6 ∧ C ≤ s.tb ∧ domOn s 1 = true :=
  ⟨(up |> (fun s => { s with img := { s.img with swapC := some (0) } }) |> (fun s => { s with img := { s.img with slotPending := some (default) } }) |> (fun s => fset s R.IMG_STATUS F.IMG_STATUS_STATE 6) |> (fun s => { s with tb := 10 ^ 15 })), 0, default, by and_intros <;> decide +kernel⟩

theorem witness_ImageStoreCommandsComplete_16 : ∃ (s : State) (b : Nat), s.img.restartAt = some b ∧ b ≤ s.tb :=
  ⟨(up |> (fun s => { s with img := { s.img with restartAt := some (0) } }) |> (fun s => { s with tb := 10 ^ 15 })), 0, by and_intros <;> decide +kernel⟩

/-! JointCommandsComplete -/

theorem witness_JointCommandsComplete_0 : ∃ (c : Fin 32) (l : Fin 8) (s : State) (k : Link), linkOf s c.val l.val = some k ∧ k.src1 ≠ .fixed ∧ ((∀ p, k.src1 ≠ .ssi p)) ∧ (linkSt s (linkNo s c.val l.val)).s2Fail = false ∧ (linkSt s (linkNo s c.val l.val)).at1 + 3 * jointPeriod s k.src1 ≤ s.tb :=
  ⟨0, 0, ({ wLink { (default : Link) with src1 := .ain 0 } default up with tb := 10 ^ 15 }), ({ (default : Link) with src1 := .ain 0 }), by and_intros <;> decide +kernel⟩

theorem witness_JointCommandsComplete_1 : ∃ (c : Fin 32) (l : Fin 8) (s : State) (k : Link), linkOf s c.val l.val = some k ∧ k.src2 ≠ .fixed ∧ ((∀ p, k.src2 ≠ .ssi p)) ∧ (linkSt s (linkNo s c.val l.val)).s1Fail = true ∧ (linkSt s (linkNo s c.val l.val)).fall = false ∧ (linkSt s (linkNo s c.val l.val)).dead = false ∧ (linkSt s (linkNo s c.val l.val)).held = false ∧ (linkSt s (linkNo s c.val l.val)).at2 + 3 * jointPeriod s k.src2 ≤ s.tb :=
  ⟨0, 0, ({ wLink { (default : Link) with src2 := .ain 0 } { (default : LinkSt) with s1Fail := true } up with tb := 10 ^ 15 }), ({ (default : Link) with src2 := .ain 0 }), by and_intros <;> decide +kernel⟩

theorem witness_JointCommandsComplete_2 : ∃ (c : Fin 32) (l : Fin 8) (s : State) (k : Link), linkOf s c.val l.val = some k ∧ k.src1 = .fixed :=
  ⟨0, 0, (wLink { (default : Link) with src1 := .fixed } default up), ({ (default : Link) with src1 := .fixed }), by and_intros <;> decide +kernel⟩

theorem witness_JointCommandsComplete_3 : ∃ (c : Fin 32) (l : Fin 8) (s : State) (k : Link), linkOf s c.val l.val = some k ∧ s.tb < (linkSt s (linkNo s c.val l.val)).at1 + 3 * jointPeriod s k.src1 :=
  ⟨0, 0, (wLink default { (default : LinkSt) with at1 := 1 } up), default, by and_intros <;> decide +kernel⟩

theorem witness_JointCommandsComplete_4 : ∃ (c : Fin 32) (l : Fin 8) (s : State) (k : Link), linkOf s c.val l.val = some k ∧ (linkSt s (linkNo s c.val l.val)).s1Fail = true ∧ 10 ≤ (linkSt s (linkNo s c.val l.val)).good ∧ (linkSt s (linkNo s c.val l.val)).onSec = true :=
  ⟨0, 0, (wLink default { (default : LinkSt) with s1Fail := true, good := 10, onSec := true } up), default, by and_intros <;> decide +kernel⟩

theorem witness_JointCommandsComplete_5 : ∃ (c : Fin 32) (l : Fin 8) (s : State) (k : Link), linkOf s c.val l.val = some k ∧ (linkSt s (linkNo s c.val l.val)).held = true ∧ k.fixed = true ∧ (linkSt s (linkNo s c.val l.val)).heldAt + msTicks k.hold ≤ s.tb :=
  ⟨0, 0, (wLink { (default : Link) with fixed := true } { (default : LinkSt) with held := true } up), ({ (default : Link) with fixed := true }), by and_intros <;> decide +kernel⟩

theorem witness_JointCommandsComplete_6 : ∃ (c : Fin 32) (l : Fin 8) (s : State) (k : Link), linkOf s c.val l.val = some k ∧ (linkSt s (linkNo s c.val l.val)).held = true ∧ k.fixed = false ∧ (linkSt s (linkNo s c.val l.val)).heldAt + msTicks k.hold ≤ s.tb :=
  ⟨0, 0, (wLink default { (default : LinkSt) with held := true } up), default, by and_intros <;> decide +kernel⟩

theorem witness_JointCommandsComplete_7 : ∃ (c : Fin 32) (l : Fin 8) (v : BitVec 16) (s : State) (k : Link), s.pwr.paired = true ∧ linkOf s c.val l.val = some k ∧ pairDiffers k (linkSt s (linkNo s c.val l.val)).value v.toInt = true ∧ (linkSt s (linkNo s c.val l.val)).diff = 49 ∧ (linkSt s (linkNo s c.val l.val)).diffB + cycleTicks = boundaryAt s.tb :=
  ⟨0, 0, 0, (wPwr (fun p => { p with paired := true }) { wLink default { (default : LinkSt) with value := 1, diff := 49 } up with tb := cycleTicks }), default, by and_intros <;> decide +kernel⟩

theorem witness_JointCommandsComplete_8 : ∃ (c : Fin 32) (l : Fin 8) (v : BitVec 16) (s : State) (k : Link), s.pwr.paired = true ∧ linkOf s c.val l.val = some k ∧ pairDiffers k (linkSt s (linkNo s c.val l.val)).value v.toInt = true ∧ (linkSt s (linkNo s c.val l.val)).diff < 49 ∧ (linkSt s (linkNo s c.val l.val)).diffB + cycleTicks = boundaryAt s.tb :=
  ⟨0, 0, 0, (wPwr (fun p => { p with paired := true }) { wLink default { (default : LinkSt) with value := 1 } up with tb := cycleTicks }), default, by and_intros <;> decide +kernel⟩

theorem witness_JointCommandsComplete_9 : ∃ (c : Fin 32) (l : Fin 8) (v : BitVec 16) (s : State) (k : Link), s.pwr.paired = true ∧ linkOf s c.val l.val = some k ∧ pairDiffers k (linkSt s (linkNo s c.val l.val)).value v.toInt = false ∧ (linkSt s (linkNo s c.val l.val)).diff < 50 ∧ (linkSt s (linkNo s c.val l.val)).diffB < boundaryAt s.tb :=
  ⟨0, 0, 0, (wPwr (fun p => { p with paired := true }) { wLink default default up with tb := cycleTicks }), default, by and_intros <;> decide +kernel⟩

/-! CounterCommandsComplete -/

theorem witness_CounterCommandsComplete_0 : ∃ (ch : Fin 16) (s : State), domOn s 11 = true ∧ chMode s ch.val = 7 ∧ (chSt s ch.val).a = none ∧ (chSt s ch.val).pre = none :=
  ⟨0, (up |> (fun s => setCh s (0 : Fin 16).val ({ chSt s (0 : Fin 16).val with a := none })) |> (fun s => setCh s (0 : Fin 16).val ({ chSt s (0 : Fin 16).val with pre := none })) |> (fun s => fset s (R.FBI_CFG 0) F.FBI_CFG_MODE 7)), by and_intros <;> decide +kernel⟩

theorem witness_CounterCommandsComplete_1 : ∃ (ch : Fin 16) (s : State), domOn s 11 = true ∧ chMode s ch.val = 7 ∧ (chSt s ch.val).a = some false ∧ (chSt s ch.val).pre = none :=
  ⟨0, (up |> (fun s => setCh s (0 : Fin 16).val ({ chSt s (0 : Fin 16).val with a := some false })) |> (fun s => setCh s (0 : Fin 16).val ({ chSt s (0 : Fin 16).val with pre := none })) |> (fun s => setCh (fset s (R.FBI_CFG 0) F.FBI_CFG_MODE 7) 0 { chSt s 0 with a := some false })), by and_intros <;> decide +kernel⟩

theorem witness_CounterCommandsComplete_2 : ∃ (ch : Fin 16) (s : State), domOn s 11 = true ∧ (chSt s ch.val).base.at_ = s.tb ∧ (inWin s ch.val (s.tb :: (chSt s ch.val).fastT)).length < fget s (R.FBI_LIM ch.val) F.FBI_LIM_FAST_LIMIT :=
  ⟨0, up, by and_intros <;> decide +kernel⟩

theorem witness_CounterCommandsComplete_3 : ∃ (ch : Fin 16) (s : State), domOn s 11 = true ∧ (chSt s ch.val).base.at_ = s.tb ∧ (chSt s ch.val).fastRaised = false ∧ fget s (R.FBI_LIM ch.val) F.FBI_LIM_FAST_LIMIT ≤ (inWin s ch.val (s.tb :: (chSt s ch.val).fastT)).length :=
  ⟨0, (up |> (fun s => setCh s (0 : Fin 16).val ({ chSt s (0 : Fin 16).val with fastRaised := false })) |> (fun s => fset s (R.FBI_LIM 0) F.FBI_LIM_FAST_LIMIT 0)), by and_intros <;> decide +kernel⟩

theorem witness_CounterCommandsComplete_4 : ∃ (ch : Fin 16) (s : State), fbit s (R.FBI_STAT ch.val) F.FBI_STAT_CH_FAULT = true ∧ chFaultMayClear s ch.val = true ∧ (chSt s ch.val).fastRaised = false ∧ (chSt s ch.val).illRaised = false :=
  ⟨0, (up |> (fun s => fsetb s (R.FBI_STAT (0 : Fin 16).val) F.FBI_STAT_CH_FAULT true) |> (fun s => setCh s (0 : Fin 16).val ({ chSt s (0 : Fin 16).val with fastRaised := false })) |> (fun s => setCh s (0 : Fin 16).val ({ chSt s (0 : Fin 16).val with illRaised := false })) |> (fun s => fset s (R.FBI_CFG 0) F.FBI_CFG_MODE 7)), by and_intros <;> decide +kernel⟩

theorem witness_CounterCommandsComplete_5 : ∃ (ch : Fin 16) (i : Fin 3) (s : State), domOn s 11 = true ∧ fbit s (R.FBI_INCFG ch.val) F.FBI_INCFG_DIFF = true ∧ usesInput s ch.val i.val = true ∧ i.val ∉ (chSt s ch.val).broken :=
  ⟨0, 0, (up |> (fun s => fsetb s (R.FBI_INCFG (0 : Fin 16).val) F.FBI_INCFG_DIFF true) |> (fun s => fset s (R.FBI_CFG 0) F.FBI_CFG_MODE 7)), by and_intros <;> decide +kernel⟩

theorem witness_CounterCommandsComplete_6 : ∃ (ch : Fin 16) (i : Fin 3) (s : State), (chSt s ch.val).broken = [i.val] :=
  ⟨0, 0, (setCh up 0 { chSt up 0 with broken := [0] }), by decide +kernel⟩

theorem witness_CounterCommandsComplete_7 : ∃ (ch : Fin 16) (i : Fin 3) (s : State), heldActive s ch.val i.val = true ∧ heldBeyond s ch.val i.val = true ∧ i.val ∉ (chSt s ch.val).stuck :=
  ⟨0, 0, ({ setCh (fset up (R.FBI_CFG 0) F.FBI_CFG_MODE 7) 0 { chSt up 0 with a := some true, act := [(0, 0, 0)] } with tb := 10 ^ 15 }), by and_intros <;> decide +kernel⟩

theorem witness_CounterCommandsComplete_8 : ∃ (ch : Fin 16) (i : Fin 3) (s : State), heldBeyond s ch.val i.val = false :=
  ⟨0, 0, up, by decide +kernel⟩

theorem witness_CounterCommandsComplete_9 : ∃ (who : Fin 36) (s : State), rapMay s who.val .other 11 = true :=
  ⟨0, up, by decide +kernel⟩

theorem witness_CounterCommandsComplete_10 : ∃ (ch : Fin 16) (s : State), s.pwr.powered = true ∧ (chSt s ch.val).hist.head?.map (·.1) = some s.tb :=
  ⟨0, (setCh up 0 { chSt up 0 with hist := [(0, 0, false)] }), by and_intros <;> decide +kernel⟩

theorem witness_CounterCommandsComplete_11 : ∃ (who : Fin 36) (s : State), rapMay s who.val .other 11 = true :=
  ⟨0, up, by decide +kernel⟩

theorem witness_CounterCommandsComplete_12 : ∃ (who : Fin 36) (ch : Fin 16) (s : State), rapMay s who.val .other 11 = true ∧ (chSt s ch.val).base.at_ ≠ s.tb :=
  ⟨0, 0, (up |> (fun s => { s with tb := 1 })), by and_intros <;> decide +kernel⟩

/-! SensorCommandsComplete -/

theorem witness_SensorCommandsComplete_0 : ∃ (who : Fin 36) (s : State), rapMay s who.val .other 11 = true :=
  ⟨0, up, by decide +kernel⟩

theorem witness_SensorCommandsComplete_2 : ∃ (k : Fin 4) (d : Word) (chk : Nat) (s : State) (c : SsiCfg), s.cfg.pinfn.ssi.getD k.val none = some c ∧ domOn s 11 = true ∧ ssiDue s k.val c = true ∧ ssiPass c (d.toNat % 2 ^ c.dataBits) 0 chk = true ∧ c.gray = false ∧ ssiJoint s k = false :=
  ⟨0, 0, 0, ({ up with tb := 400, cfg := { up.cfg with pinfn := { up.cfg.pinfn with ssi := [some ⟨8, 0, false, .none, 50, 10, 1⟩] } } }), (⟨8, 0, false, .none, 50, 10, 1⟩), by and_intros <;> decide +kernel⟩

theorem witness_SensorCommandsComplete_3 : ∃ (k : Fin 4) (s : State) (c : SsiCfg), s.cfg.pinfn.ssi.getD k.val none = some c ∧ domOn s 11 = true ∧ ssiDue s k.val c = true ∧ smGet zero s.fbi.ssiBad k.val < 2 :=
  ⟨0, ({ up with tb := 400, cfg := { up.cfg with pinfn := { up.cfg.pinfn with ssi := [some ⟨8, 0, false, .none, 50, 10, 1⟩] } } }), (⟨8, 0, false, .none, 50, 10, 1⟩), by and_intros <;> decide +kernel⟩

theorem witness_SensorCommandsComplete_4 : ∃ (n : Fin 16) (s : State), domOn s 10 = true ∧ fbit s (R.FBI_AIN n.val) F.FBI_AIN_SHUNT_OPEN = false ∧ s.tb % 20000 = n.val * 1250 :=
  ⟨0, (up |> (fun s => fsetb s (R.FBI_AIN (0 : Fin 16).val) F.FBI_AIN_SHUNT_OPEN false)), by and_intros <;> decide +kernel⟩

theorem witness_SensorCommandsComplete_5 : ∃ (n : Fin 16) (s : State), s.cfg.pinfn.ma.contains n.val = true ∧ fbit s (R.FBI_AIN n.val) F.FBI_AIN_SHUNT_OPEN = false :=
  ⟨0, ({ up with cfg := { up.cfg with pinfn := { up.cfg.pinfn with ma := [0] } } }), by and_intros <;> decide +kernel⟩

theorem witness_SensorCommandsComplete_6 : ∃ (n : Fin 16) (s : State), fbit s (R.FBI_AIN n.val) F.FBI_AIN_SHUNT_OPEN = true ∧ smGet zero s.fbi.shuntAt n.val + msTicks 100 ≤ s.tb :=
  ⟨0, (up |> (fun s => fsetb s (R.FBI_AIN (0 : Fin 16).val) F.FBI_AIN_SHUNT_OPEN true) |> (fun s => { s with tb := 10 ^ 15 })), by and_intros <;> decide +kernel⟩

theorem witness_SensorCommandsComplete_7 : ∃ (s : State), fbit s R.FBI_SUP F.FBI_SUP_SUP5A_OK = true :=
  ⟨(up |> (fun s => fsetb s R.FBI_SUP F.FBI_SUP_SUP5A_OK true)), by decide +kernel⟩

theorem witness_SensorCommandsComplete_8 : ∃ (s : State), fbit s R.FBI_SUP F.FBI_SUP_SUP5A_OK = false ∧ smGet zero s.fbi.supAt 0 + secTicks ≤ s.tb :=
  ⟨(up |> (fun s => fsetb s R.FBI_SUP F.FBI_SUP_SUP5A_OK false) |> (fun s => { s with tb := 10 ^ 15 })), by and_intros <;> decide +kernel⟩

theorem witness_SensorCommandsComplete_9 : ∃ (s : State), fbit s R.FBI_SUP F.FBI_SUP_SUP5B_OK = true :=
  ⟨(up |> (fun s => fsetb s R.FBI_SUP F.FBI_SUP_SUP5B_OK true)), by decide +kernel⟩

theorem witness_SensorCommandsComplete_10 : ∃ (s : State), fbit s R.FBI_SUP F.FBI_SUP_SUP5B_OK = false ∧ smGet zero s.fbi.supAt 1 + secTicks ≤ s.tb :=
  ⟨(up |> (fun s => fsetb s R.FBI_SUP F.FBI_SUP_SUP5B_OK false) |> (fun s => { s with tb := 10 ^ 15 })), by and_intros <;> decide +kernel⟩

/-! GnssBasebandCommandsComplete -/

theorem witness_GnssBasebandCommandsComplete_0 : ∃ (ua : Nat) (s : State), isG s = true ∧ domOn s 5 = true ∧ biasOn s = true ∧ s.gns.biasOff = false ∧ s.gns.antAt + msTicks 100 ≤ s.tb ∧ ua < 2000 ∧ s.gns.openF = false :=
  ⟨0, (up |> (fun s => { s with gns := { s.gns with biasOff := false } }) |> (fun s => { s with gns := { s.gns with openF := false } }) |> (fun s => { s with tb := 10 ^ 15 })), by and_intros <;> decide +kernel⟩

theorem witness_GnssBasebandCommandsComplete_1 : ∃ (ua : Nat) (s : State), isG s = true ∧ domOn s 5 = true ∧ biasOn s = true ∧ s.gns.biasOff = false ∧ s.gns.antAt + msTicks 100 ≤ s.tb ∧ 2000 ≤ ua ∧ ua ≤ 55000 ∧ s.gns.openF = true ∧ s.gns.shortF = false :=
  ⟨2000, (up |> (fun s => { s with gns := { s.gns with biasOff := false } }) |> (fun s => { s with gns := { s.gns with openF := true } }) |> (fun s => { s with gns := { s.gns with shortF := false } }) |> (fun s => { s with tb := 10 ^ 15 }) |> (fun s => fsetb s R.GNS_CFG2 F.GNS_CFG2_ANT_BIAS_EN true)), by and_intros <;> decide +kernel⟩

theorem witness_GnssBasebandCommandsComplete_2 : ∃ (ua : Nat) (s : State), isG s = true ∧ domOn s 5 = true ∧ biasOn s = true ∧ s.gns.biasOff = false ∧ s.gns.antAt + msTicks 100 ≤ s.tb ∧ 2000 ≤ ua ∧ ua ≤ 55000 ∧ s.gns.openF = false ∧ s.gns.shortF = true :=
  ⟨2000, (up |> (fun s => { s with gns := { s.gns with biasOff := false } }) |> (fun s => { s with gns := { s.gns with openF := false } }) |> (fun s => { s with gns := { s.gns with shortF := true } }) |> (fun s => { s with tb := 10 ^ 15 })), by and_intros <;> decide +kernel⟩

theorem witness_GnssBasebandCommandsComplete_3 : ∃ (s : State), biasOn s = true ∧ s.gns.biasOff = false ∧ s.gns.shortF = false :=
  ⟨(up |> (fun s => { s with gns := { s.gns with biasOff := false } }) |> (fun s => { s with gns := { s.gns with shortF := false } })), by and_intros <;> decide +kernel⟩

theorem witness_GnssBasebandCommandsComplete_4 : ∃ (s : State), s.gns.biasOff = true ∧ s.gns.shortAt + secTicks ≤ s.tb :=
  ⟨(up |> (fun s => { s with gns := { s.gns with biasOff := true } }) |> (fun s => { s with tb := 10 ^ 15 })), by and_intros <;> decide +kernel⟩

theorem witness_GnssBasebandCommandsComplete_5 : ∃ (s : State), s.gns.search = [] :=
  ⟨(up |> (fun s => { s with gns := { s.gns with search := [] } })), by decide +kernel⟩

theorem witness_GnssBasebandCommandsComplete_6 : ∃ (s : State) (q : Search), isG s = true ∧ domOn s 3 = true ∧ s.gns.search = [q] ∧ 0 < fget s R.GNS_ACQ F.GNS_ACQ_TILES_IN ∧ q.left ≤ fget s R.GNS_ACQ F.GNS_ACQ_TILES_IN ∧ s.gns.roundAt + dwellTicks q.sat.1 ≤ s.tb :=
  ⟨(up |> (fun s => { s with gns := { s.gns with search := [(default)] } }) |> (fun s => { s with tb := 10 ^ 15 })), default, by and_intros <;> decide +kernel⟩

theorem witness_GnssBasebandCommandsComplete_7 : ∃ (s : State) (q : Search) (c : Cand), isG s = true ∧ domOn s 3 = true ∧ trkOn s = true ∧ s.gns.search = [q] ∧ q.covers c.sat = true ∧ c.sat = q.sat ∧ 0 < fget s R.GNS_ACQ F.GNS_ACQ_TILES_IN ∧ q.left ≤ fget s R.GNS_ACQ F.GNS_ACQ_TILES_IN ∧ s.gns.roundAt + dwellTicks q.sat.1 ≤ s.tb :=
  ⟨(up |> (fun s => { s with gns := { s.gns with search := [(default)] } }) |> (fun s => { s with tb := 10 ^ 15 })), default, default, by and_intros <;> decide +kernel⟩

theorem witness_GnssBasebandCommandsComplete_8 : ∃ (n : Fin 96) (s : State), (chan s n.val).state = 1 ∧ (chan s n.val).since + msTicks 500 ≤ s.tb :=
  ⟨0, (up |> (fun s => setChan (0 : Fin 96).val ({ chan s (0 : Fin 96).val with state := 1 }) s) |> (fun s => { s with tb := 10 ^ 15 }) |> id), by and_intros <;> decide +kernel⟩

theorem witness_GnssBasebandCommandsComplete_9 : ∃ (s : State), fbit s R.GNS_ACQ F.GNS_ACQ_SEARCHING = false ∧ s.gns.searchAt + 60 * secTicks ≤ s.tb :=
  ⟨(up |> (fun s => fsetb s R.GNS_ACQ F.GNS_ACQ_SEARCHING false) |> (fun s => { s with tb := 10 ^ 15 }) |> (fun s => setChan 0 { chan s 0 with state := 2 } s)), by and_intros <;> decide +kernel⟩

theorem witness_GnssBasebandCommandsComplete_10 : ∃ (n : Fin 96) (d : Dump) (s : State), trkOn s = true ∧ (chan s n.val).state ≠ 0 ∧ n.val / 8 ∉ s.gns.outBanks ∧ (chan s n.val).dumpAt + cohTicks s (chan s n.val) ≤ s.tb ∧ s.tb % epochTicks s ≠ 0 ∧ dumpState s.tb (chan s n.val) d = none :=
  ⟨0, (⟨0, false, 0, false, false, false, 0⟩), ({ setChan 0 { chan up 0 with state := 2 } up with tb := 10 ^ 15 + 7 }), by and_intros <;> decide +kernel⟩

theorem witness_GnssBasebandCommandsComplete_11 : ∃ (n : Fin 96) (d : Dump) (s : State) (c : Chan), trkOn s = true ∧ (chan s n.val).state ≠ 0 ∧ n.val / 8 ∉ s.gns.outBanks ∧ (chan s n.val).dumpAt + cohTicks s (chan s n.val) ≤ s.tb ∧ dumpState s.tb (chan s n.val) d = some c ∧ (symState s.tb c d.sym).symEx = (chan s n.val).symEx ∧ (chan s n.val).state ≤ (symState s.tb c d.sym).state :=
  ⟨0, (⟨0, true, 0, false, false, false, 0⟩), ({ setChan 0 { chan up 0 with state := 2 } up with tb := 10 ^ 15 + 7 }), ({ chan up 0 with state := 2, low := 1, weak := some (10 ^ 15 + 7), dumpAt := 10 ^ 15 + 7 }), by and_intros <;> decide +kernel⟩

theorem witness_GnssBasebandCommandsComplete_12 : ∃ (n : Fin 96) (s : State) (t : Nat), (chan s n.val).weak = some t ∧ t + secTicks ≤ s.tb ∧ (chan s n.val).state ≠ 0 ∧ s.tb % epochTicks s ≠ 0 :=
  ⟨0, (up |> (fun s => setChan (0 : Fin 96).val ({ chan s (0 : Fin 96).val with weak := some (0) }) s) |> (fun s => setChan (0 : Fin 96).val ({ chan s (0 : Fin 96).val with state := (1) }) s) |> (fun s => { s with tb := 10 ^ 15 + 7 })), 0, by and_intros <;> decide +kernel⟩

theorem witness_GnssBasebandCommandsComplete_13 : ∃ (s : State), trkOn s = true ∧ s.tb % epochTicks s = 0 ∧ s.gns.ring = [] :=
  ⟨(up |> (fun s => { s with gns := { s.gns with ring := [] } })), by and_intros <;> decide +kernel⟩

/-! GnssIntegrityCommandsComplete -/

theorem witness_GnssIntegrityCommandsComplete_0 : ∃ (s : State), poseRole s = true ∧ inSpoof s = false ∧ s.gns.pathNext = none ∧ fbit s R.GNS_STATUS F.GNS_STATUS_FALLBACK = false ∧ s.tb / secTicks * secTicks + msTicks 2 ≤ s.tb ∧ s.gns.evalAt ≠ some (s.tb / secTicks * secTicks) ∧ usableOf (usableSats s (s.tb / secTicks * secTicks)) (mainSys s) < 4 :=
  ⟨(up |> (fun s => fsetb s R.TLK_STATUS F.TLK_STATUS_POSE_ROLE true) |> (fun s => { s with gns := { s.gns with pathNext := none } }) |> (fun s => fsetb s R.GNS_STATUS F.GNS_STATUS_FALLBACK false) |> (fun s => { s with tb := 10 ^ 15 + msTicks 2 })), by and_intros <;> decide +kernel⟩

theorem witness_GnssIntegrityCommandsComplete_1 : ∃ (s : State), s.pwr.powered = true :=
  ⟨up, by decide +kernel⟩

theorem witness_GnssIntegrityCommandsComplete_2 : ∃ (s : State), poseRole s = true :=
  ⟨(up |> (fun s => fsetb s R.TLK_STATUS F.TLK_STATUS_POSE_ROLE true) |> (fun s => { s with gns := { s.gns with excl := [⟨some 0, (0, 1), .ccd, 5⟩] } })), by decide +kernel⟩

theorem witness_GnssIntegrityCommandsComplete_3 : ∃ (a : Fin 64) (sat : Sat) (s : State) (e : Excl), s.gns.excl.find? (fun e => e.ant == some a.val && e.sat == sat && e.cause == .ccd) = some e ∧ e.at_ + 60 * secTicks ≤ s.tb :=
  ⟨7, default, (up |> (fun s => { s with tb := 10 ^ 15 }) |> (fun s => { s with gns := { s.gns with excl := [⟨some 7, default, .ccd, 0⟩] } })), (⟨some 7, default, .ccd, 0⟩), by and_intros <;> decide +kernel⟩

theorem witness_GnssIntegrityCommandsComplete_4 : ∃ (a : Fin 64) (s : State), (antSt s a.val).suspect = true ∧ (antSt s a.val).badAt + 60 * secTicks ≤ s.tb ∧ a.val ≠ midOf s :=
  ⟨7, ({ up with tb := 10 ^ 15, gns := { up.gns with ants := [(7, { antSt up 7 with suspect := true })] } }), by and_intros <;> decide +kernel⟩

theorem witness_GnssIntegrityCommandsComplete_5 : ∃ (a : Fin 64) (s : State), (antSt s a.val).suspect = true ∧ (antSt s a.val).badAt + 60 * secTicks ≤ s.tb ∧ a.val = midOf s :=
  ⟨0, (up |> (fun s => { s with gns := { s.gns with ants := smIns (0 : Fin 64).val ({ antSt s (0 : Fin 64).val with suspect := true }) s.gns.ants } }) |> (fun s => { s with tb := 10 ^ 15 }) |> id), by and_intros <;> decide +kernel⟩

theorem witness_GnssIntegrityCommandsComplete_6 : ∃ (s : State), inSpoof s = true ∧ poseRole s = true ∧ 2 ≤ (s.gns.ants.filter (fun x => antNew s x.2 && x.2.coh)).length ∧ s.gns.spoofBad + 60 * secTicks ≤ s.tb :=
  ⟨(fsetb (fsetb { up with tb := 10 ^ 15, gns := { up.gns with ants := [(0, { antSt up 0 with coh := true, freshAt := some 0 }), (1, { antSt up 1 with coh := true, freshAt := some 0 })] } } R.TLK_STATUS F.TLK_STATUS_POSE_ROLE true) R.GNS_STATUS F.GNS_STATUS_SPOOF true), by and_intros <;> decide +kernel⟩

theorem witness_GnssIntegrityCommandsComplete_7 : ∃ (gain : Nat) (s : State), isG s = true ∧ domOn s 5 = true ∧ notchLow s 0 [] s.gns.lowA = none ∧ notchLow s 1 [] s.gns.lowB = none ∧ fget s R.GNS_AGC F.GNS_AGC_NOM_GAIN < gain + 12 :=
  ⟨0, up, by and_intros <;> decide +kernel⟩

theorem witness_GnssIntegrityCommandsComplete_8 : ∃ (m : Nat) (s : State), median s.gns.gains = some m ∧ isG s = true ∧ domOn s 5 = true ∧ fbit s R.GNS_STATUS F.GNS_STATUS_JAM = false ∧ s.gns.nomAt + 3600 * secTicks ≤ s.tb :=
  ⟨5, (up |> (fun s => fsetb s R.GNS_STATUS F.GNS_STATUS_JAM false) |> (fun s => { s with tb := 10 ^ 15 }) |> (fun s => { s with gns := { s.gns with gains := [(5, 1)] } })), by and_intros <;> decide +kernel⟩

/-! PoseCommandsComplete -/

theorem witness_PoseCommandsComplete_0 : ∃ (s : State), poseRole s = true ∧ solverFamily s = true ∧ s.pos.next.any (fun x => x.b == nextBoundary s.tb) = false :=
  ⟨(up |> (fun s => fsetb s R.TLK_STATUS F.TLK_STATUS_POSE_ROLE true)), by and_intros <;> decide +kernel⟩

theorem witness_PoseCommandsComplete_1 : ∃ (s : State), s.pos.next.any (fun x => x.b == nextBoundary s.tb) = true :=
  ⟨({ up with pos := { up.pos with next := [{ (default : PoseRec) with b := 40000 }] } }), by decide +kernel⟩

theorem witness_PoseCommandsComplete_2 : ∃ (r : PoseRec) (s : State), r.b ≤ s.str.cycle :=
  ⟨({ (default : PoseRec) with b := 0 }), up, by decide +kernel⟩

theorem witness_PoseCommandsComplete_3 : ∃ (r : PoseRec) (s : State), s.str.cycle < r.b :=
  ⟨({ (default : PoseRec) with b := 40000 }), up, by decide +kernel⟩

theorem witness_PoseCommandsComplete_4 : ∃ (s : State) (t : Nat), s.pos.source = 3 ∧ s.pos.drSince = some t ∧ t + drLimit s ≤ s.tb ∧ poseRole s = true :=
  ⟨(up |> (fun s => { s with pos := { s.pos with source := 3 } }) |> (fun s => { s with pos := { s.pos with drSince := some (0) } }) |> (fun s => fsetb s R.TLK_STATUS F.TLK_STATUS_POSE_ROLE true) |> (fun s => { s with tb := 10 ^ 15 })), 0, by and_intros <;> decide +kernel⟩

theorem witness_PoseCommandsComplete_5 : ∃ (k : Fin 36) (s : State), k.val < 4 ∧ sessRole s k.val = none :=
  ⟨0, wOn, by and_intros <;> decide +kernel⟩

theorem witness_PoseCommandsComplete_6 : ∃ (k : Fin 36) (s : State) (r : Role), k.val < 4 ∧ sessRole s k.val = some r ∧ mayAct .rtcm r = false :=
  ⟨2, up, .debug, by and_intros <;> decide +kernel⟩

theorem witness_PoseCommandsComplete_7 : ∃ (k : Fin 36) (s : State) (r : Role), k.val < 4 ∧ sessRole s k.val = some r ∧ mayAct .rtcm r = true :=
  ⟨0, up, .oem, by and_intros <;> decide +kernel⟩

theorem witness_PoseCommandsComplete_8 : ∃ (k : Fin 36) (s : State) (r : Role), k.val < 4 ∧ sessRole s k.val = some r ∧ mayAct .rtcm r = true :=
  ⟨0, up, .oem, by and_intros <;> decide +kernel⟩

theorem witness_PoseCommandsComplete_9 : ∃ (k : Fin 36) (typ : Nat) (s : State) (r : Role), k.val < 4 ∧ sessRole s k.val = some r ∧ mayAct .rtcm r = true ∧ typ ≠ 1230 ∧ typ ∈ rtcmTypes ∧ poseRole s = true :=
  ⟨0, 1005, (fsetb up R.TLK_STATUS F.TLK_STATUS_POSE_ROLE true), .oem, by and_intros <;> decide +kernel⟩

theorem witness_PoseCommandsComplete_10 : ∃ (k : Fin 36) (typ : Nat) (s : State) (r : Role), k.val < 4 ∧ sessRole s k.val = some r ∧ mayAct .rtcm r = true ∧ typ ≠ 1230 ∧ typ ∈ rtcmTypes ∧ poseRole s = false :=
  ⟨0, 1005, up, .oem, by and_intros <;> decide +kernel⟩

theorem witness_PoseCommandsComplete_11 : ∃ (typ : Nat) (s : State), typ ≠ 1230 ∧ typ ∈ rtcmTypes ∧ poseRole s = true :=
  ⟨1005, (up |> (fun s => fsetb s R.TLK_STATUS F.TLK_STATUS_POSE_ROLE true)), by and_intros <;> decide +kernel⟩

theorem witness_PoseCommandsComplete_12 : ∃ (c : Fin 4) (typ : Nat) (s : State), typ ≠ 1230 ∧ typ ∈ rtcmTypes ∧ poseRole (canTake c.val 2 s) = true :=
  ⟨0, 1005, (up |> (fun s => fsetb s R.TLK_STATUS F.TLK_STATUS_POSE_ROLE true)), by and_intros <;> decide +kernel⟩

theorem witness_PoseCommandsComplete_13 : ∃ (c : Fin 4) (s : State), c.val = (canTake c.val 3 s).cfg.gnss.poseCan :=
  ⟨0, up, by decide +kernel⟩

theorem witness_PoseCommandsComplete_14 : ∃ (c : Fin 4) (s : State), (canTake c.val 4 s).cfg.gnss.speed = .iso ∧ c.val = (canTake c.val 4 s).cfg.gnss.poseCan :=
  ⟨0, ({ up with cfg := { up.cfg with gnss := { up.cfg.gnss with speed := .iso, poseCan := 0 } } }), by and_intros <;> decide +kernel⟩

theorem witness_PoseCommandsComplete_15 : ∃ (s : State), domOn s 11 = true ∧ s.pos.insSilent = false :=
  ⟨(up |> (fun s => { s with pos := { s.pos with insSilent := false } })), by and_intros <;> decide +kernel⟩

theorem witness_PoseCommandsComplete_16 : ∃ (s : State), domOn s 11 = true :=
  ⟨up, by decide +kernel⟩

theorem witness_PoseCommandsComplete_17 : ∃ (s : State) (t : Nat), s.pos.insTb = some t ∧ t + msTicks 100 ≤ s.tb ∧ s.pos.insSilent = false :=
  ⟨(up |> (fun s => { s with pos := { s.pos with insTb := some (0) } }) |> (fun s => { s with pos := { s.pos with insSilent := false } }) |> (fun s => { s with tb := 10 ^ 15 })), 0, by and_intros <;> decide +kernel⟩

/-! TimeCommandsComplete -/

theorem witness_TimeCommandsComplete_0 : ∃ (s : State), timeRole s = false :=
  ⟨up, by decide +kernel⟩

theorem witness_TimeCommandsComplete_1 : ∃ (s : State) (b : Nat) (o : Int), s.pos.ofsNamed = [(b, o)] ∧ b ≤ s.tb :=
  ⟨(up |> (fun s => { s with pos := { s.pos with ofsNamed := [((0), (0))] } }) |> (fun s => { s with tb := 10 ^ 15 })), 0, 0, by and_intros <;> decide +kernel⟩

theorem witness_TimeCommandsComplete_2 : ∃ (s : State) (b : Nat) (o : Int), s.pos.ofsNamed = [(b, o)] ∧ s.tb < b :=
  ⟨(up |> (fun s => { s with pos := { s.pos with ofsNamed := [((80000), (5))] } })), 80000, 5, by and_intros <;> decide +kernel⟩

theorem witness_TimeCommandsComplete_3 : ∃ (s : State) (t : Nat), s.pos.holdAt = some t ∧ ttState s = 2 ∧ t + fget s R.POS_HOLD F.POS_HOLD_HOLD_S * secTicks ≤ s.tb ∧ timeRole s = false :=
  ⟨(up |> (fun s => { s with pos := { s.pos with holdAt := some (0) } }) |> (fun s => fset s R.POS_TT_STATUS F.POS_TT_STATUS_TT_STATE 2) |> (fun s => { s with tb := 10 ^ 15 })), 0, by and_intros <;> decide +kernel⟩

theorem witness_TimeCommandsComplete_4 : ∃ (s : State) (t : Nat), s.pos.holdAt = some t ∧ ttState s = 2 ∧ t + fget s R.POS_HOLD F.POS_HOLD_HOLD_S * secTicks ≤ s.tb ∧ timeRole s = true :=
  ⟨(up |> (fun s => { s with pos := { s.pos with holdAt := some (0) } }) |> (fun s => fset s R.POS_TT_STATUS F.POS_TT_STATUS_TT_STATE 2) |> (fun s => { s with tb := 10 ^ 15 }) |> (fun s => fsetb (fset s R.POS_HOLD F.POS_HOLD_HOLD_S 1) R.TLK_STATUS F.TLK_STATUS_TIME_ROLE true)), 0, by and_intros <;> decide +kernel⟩

theorem witness_TimeCommandsComplete_5 : ∃ (sec : Nat) (s : State), tpoOn s = true ∧ pulseDue s sec = true ∧ pulseAllowed s sec = true ∧ s.pos.stepPend = none :=
  ⟨0, (up |> (fun s => { s with pos := { s.pos with stepPend := none } }) |> (fun s => fset (fsetb s R.POS_TPO_CFG F.POS_TPO_CFG_EN true) R.POS_TT_STATUS F.POS_TT_STATUS_TT_STATE 1)), by and_intros <;> decide +kernel⟩

theorem witness_TimeCommandsComplete_6 : ∃ (s : State) (t : Nat), s.pos.lastPulse = some t ∧ t + fget s R.POS_TPO_CFG F.POS_TPO_CFG_WIDTH * msTicks 10 ≤ s.tb :=
  ⟨(up |> (fun s => { s with pos := { s.pos with lastPulse := some (0) } }) |> (fun s => { s with tb := 10 ^ 15 })), 0, by and_intros <;> decide +kernel⟩

theorem witness_TimeCommandsComplete_7 : ∃ (s : State) (e : Int), s.pos.slew = some e ∧ e.natAbs < 32 :=
  ⟨(up |> (fun s => { s with pos := { s.pos with slew := some (0) } })), 0, by and_intros <;> decide +kernel⟩

/-! StrideCommandsComplete -/

theorem witness_StrideCommandsComplete_0 : ∃ (s : State), s.pwr.tbRun = true ∧ s.tb % cycleTicks = 0 ∧ s.str.cycle ≠ s.tb ∧ domOn s 1 = false :=
  ⟨(up |> (fun s => domSet s 1 false) |> (fun s => { s with tb := 80000 })), by and_intros <;> decide +kernel⟩

theorem witness_StrideCommandsComplete_1 : ∃ (s : State), s.pwr.tbRun = true ∧ s.tb % cycleTicks = 0 ∧ s.str.cycle ≠ s.tb ∧ domOn s 1 = true ∧ s.pwm.halted = false :=
  ⟨(up |> (fun s => { s with tb := 80000 })), by and_intros <;> decide +kernel⟩

theorem witness_StrideCommandsComplete_2 : ∃ (o : Fin 96) (h : Fin 8) (s : State), s.str.written = false ∧ s.str.late = false ∧ s.str.cycle + 38000 ≤ s.tb ∧ s.tb < s.str.cycle + cycleTicks ∧ (outSt s o.val).sweep.isSome = true ∧ h.val < fget s R.STR_STATUS F.STR_STATUS_N_EFF :=
  ⟨0, 0, (up |> (fun s => { s with str := { s.str with written := false } }) |> (fun s => { s with str := { s.str with late := false } }) |> (fun s => setOut s (0 : Fin 96).val ({ outSt s (0 : Fin 96).val with sweep := some default })) |> (fun s => { s with tb := 39000 }) |> (fun s => fset s R.STR_STATUS F.STR_STATUS_N_EFF 2)), by and_intros <;> decide +kernel⟩

theorem witness_StrideCommandsComplete_3 : ∃ (s : State), fbit s R.STR_STATUS F.STR_STATUS_REDUCED = true ∧ 5000 ≤ s.str.cleanRun ∧ s.tb % cycleTicks = 0 ∧ ((∀ i ∈ strLanes s, fget s R.SYS_GAIT_CFG F.SYS_GAIT_CFG_WARN_PCT ≤ fget s (R.SYS_GAIT_PACE i) F.SYS_GAIT_PACE_MARGIN)) :=
  ⟨(up |> (fun s => fsetb s R.STR_STATUS F.STR_STATUS_REDUCED true) |> (fun s => { fset (fset s R.SYS_GAIT_CFG F.SYS_GAIT_CFG_WARN_PCT 0) R.POS_TT_STATUS F.POS_TT_STATUS_TT_STATE 0 with str := { s.str with cleanRun := 5000 } })), by and_intros <;> decide +kernel⟩

theorem witness_StrideCommandsComplete_4 : ∃ (s : State), s.str.written = false ∧ s.pwr.tbRun = true ∧ domOn s 1 = true ∧ s.pwm.halted = false ∧ s.str.cycle ≤ s.tb ∧ s.tb < s.str.cycle + cycleTicks ∧ engineRuns s = false :=
  ⟨(up |> (fun s => { s with str := { s.str with written := false } }) |> (fun s => { s with tb := 30000 })), by and_intros <;> decide +kernel⟩

theorem witness_StrideCommandsComplete_5 : ∃ (o : Fin 96) (s : State) (e : QEnt) (q : List QEnt), (outSt s o.val).queue = e :: q ∧ e.tick ≤ s.tb ∧ s.pwr.tbRun = true ∧ s.pwm.frozen = none ∧ domOn s 10 = true ∧ gateLive s = true :=
  ⟨0, (up |> (fun s => { s with tb := 80000 }) |> (fun s => setOut s 0 { outSt s 0 with queue := [default] })), default, [], by and_intros <;> decide +kernel⟩

theorem witness_StrideCommandsComplete_6 : ∃ (b : Nat) (n : Nat) (s : State), s.str.stamp = [(b, n)] ∧ s.cov.code = [] ∧ s.str.prov = [] :=
  ⟨0, 0, (up |> (fun s => { s with str := { s.str with stamp := [((0), (0))] } }) |> (fun s => { s with str := { s.str with prov := [] } })), by and_intros <;> decide +kernel⟩

theorem witness_StrideCommandsComplete_7 : ∃ (who : Fin 36) (s : State), rapMay s who.val .debug 0 = true ∧ domOn s 1 = true ∧ s.pwm.halted = false :=
  ⟨2, up, by and_intros <;> decide +kernel⟩

theorem witness_StrideCommandsComplete_8 : ∃ (who : Fin 36) (s : State), rapMay s who.val .debug 0 = true ∧ s.pwm.halted = true :=
  ⟨2, (up |> (fun s => { s with pwm := { s.pwm with halted := true } })), by and_intros <;> decide +kernel⟩

/-! CoverageMergeCommandsComplete -/

theorem witness_CoverageMergeCommandsComplete_0 : ∃ (t : Fin 1048576) (s : State) (p : Nat), tilesMissing s = [(t.val, p)] ∧ s.str.cache.length < cacheRoom s :=
  ⟨0, (up |> (fun s => { withExtent jobW s with str := { s.str with want := [(0, default)] } })), 0, by and_intros <;> decide +kernel⟩

theorem witness_CoverageMergeCommandsComplete_1 : ∃ (s : State), s.cov.held.length < 65536 :=
  ⟨up, by decide +kernel⟩

theorem witness_CoverageMergeCommandsComplete_2 : ∃ (p : Fin 32) (o : Fin 128) (n : Nat) (t : Nat) (s : State), holeSince s p.val o.val n = some t ∧ t + msTicks 500 ≤ s.tb :=
  ⟨0, 0, 0, 5, (up |> (fun s => { s with tb := 10 ^ 15 }) |> (fun s => { s with cov := { s.cov with holes := [(0, 5)] } })), by and_intros <;> decide +kernel⟩

theorem witness_CoverageMergeCommandsComplete_3 : ∃ (p : Fin 32) (o : Fin 128) (n : Nat) (t : Nat) (s : State), holeSince s p.val o.val n = some t ∧ t + 10 * secTicks ≤ s.tb ∧ n ≤ (seqOf s (seqKey p.val o.val)).last + 64 :=
  ⟨0, 0, 0, 5, (up |> (fun s => { s with tb := 10 ^ 15 }) |> (fun s => { s with cov := { s.cov with holes := [(0, 5)] } })), by and_intros <;> decide +kernel⟩

theorem witness_CoverageMergeCommandsComplete_4 : ∃ (p : Fin 32) (o : Fin 128) (n : Nat) (t : Nat) (s : State), holeSince s p.val o.val n = some t ∧ s.tb < t + 10 * secTicks :=
  ⟨0, 0, 0, 5, (up |> (fun s => { s with cov := { s.cov with holes := [(0, 5)] } })), by and_intros <;> decide +kernel⟩

theorem witness_CoverageMergeCommandsComplete_5 : ∃ (o : Fin 128) (n : Nat) (at_ : Nat) (s : State) (x : Strip), s.cov.ring.find? (fun x => x.2.out == o.val && x.2.seq == n && decide (s.tb ≤ x.1 + 10 * secTicks)) = some (at_, x) :=
  ⟨0, 0, 0, (up |> (fun s => { s with cov := { s.cov with ring := [default] } })), default, by decide +kernel⟩

theorem witness_CoverageMergeCommandsComplete_6 : ∃ (m : Fin 64) (s : State), isLeader s = true ∧ s.cov.job.isSome = true ∧ m.val ∈ otherMembers s :=
  ⟨3, (up |> (fun s => { s with cov := { s.cov with job := some default } }) |> (fun s => { s with team := { s.team with members := [0, 3] } })), by and_intros <;> decide +kernel⟩

theorem witness_CoverageMergeCommandsComplete_7 : ∃ (s : State), s.cov.job.isSome = true ∧ isLeader s = false :=
  ⟨(up |> (fun s => { s with cov := { s.cov with job := some default } }) |> (fun s => fset s R.TLK_STATUS F.TLK_STATUS_LEADER 5)), by and_intros <;> decide +kernel⟩

theorem witness_CoverageMergeCommandsComplete_8 : ∃ (t : Fin 1048576) (s : State), s.cov.fetch.contains t.val = true :=
  ⟨0, (up |> (fun s => { s with cov := { s.cov with fetch := [0] } })), by decide +kernel⟩

theorem witness_CoverageMergeCommandsComplete_9 : ∃ (t : Fin 1048576) (s : State), s.cov.fetch.contains t.val = false ∧ catching s = true :=
  ⟨0, (up |> (fun s => fsetb s R.COV_JOB_STATUS F.COV_JOB_STATUS_CATCHING_UP true)), by and_intros <;> decide +kernel⟩

/-! JobLoadCommandsComplete -/

theorem witness_JobLoadCommandsComplete_0 : ∃ (k : Fin 36) (j : JobDef) (s : State), rapMay s k.val .job 8 = true ∧ sessJob s k.val j.jobId = true ∧ isLeader s = true ∧ jobState s = 0 :=
  ⟨1, default, (up |> setJobState 0), by and_intros <;> decide +kernel⟩

theorem witness_JobLoadCommandsComplete_1 : ∃ (k : Fin 36) (j : JobDef) (s : State), rapMay s k.val .job 8 = true ∧ sessJob s k.val j.jobId = true ∧ isLeader s = true ∧ jobState s ≠ 0 :=
  ⟨1, default, (up |> setJobState 1), by and_intros <;> decide +kernel⟩

theorem witness_JobLoadCommandsComplete_2 : ∃ (s : State) (j : JobDef), jobState s = 1 ∧ s.cov.job = some j ∧ loadError s j = 0 :=
  ⟨(up |> setJobState 1 |> (fun s => { s with cov := { s.cov with job := some (jobW) } }) |> (fun s => { s with cov := { s.cov with job := some jobW } })), jobW, by and_intros <;> decide +kernel⟩

theorem witness_JobLoadCommandsComplete_3 : ∃ (s : State) (j : JobDef), jobState s = 1 ∧ s.cov.job = some j ∧ loadError s j ≠ 0 :=
  ⟨(up |> setJobState 1 |> (fun s => { s with cov := { s.cov with job := some (default) } })), default, by and_intros <;> decide +kernel⟩

theorem witness_JobLoadCommandsComplete_4 : ∃ (j : JobDef) (s : State), isLeader s = false ∧ jobState s = 0 ∧ loadError s j = 0 :=
  ⟨jobW, (up |> (fun s => fset s R.TLK_STATUS F.TLK_STATUS_LEADER 5) |> setJobState 0), by and_intros <;> decide +kernel⟩

theorem witness_JobLoadCommandsComplete_5 : ∃ (m : Fin 64) (s : State) (j : JobDef), s.cov.job = some j ∧ isLeader s = true ∧ s.cov.hashOk.contains m.val = false ∧ fltHeld s Ev.JOB_MISMATCH [(m.val : Int)] = false :=
  ⟨0, (up |> (fun s => { s with cov := { s.cov with job := some (default) } })), default, by and_intros <;> decide +kernel⟩

theorem witness_JobLoadCommandsComplete_6 : ∃ (m : Fin 64) (h : Nat) (s : State) (j : JobDef), s.cov.job = some j ∧ isLeader s = true ∧ s.cov.hashOk.contains m.val = false ∧ h ≠ Config.rasterHash j :=
  ⟨0, (Config.rasterHash default + 1), (up |> (fun s => { s with cov := { s.cov with job := some (default) } })), default, by decide +kernel, by decide +kernel, by decide +kernel, by omega⟩

theorem witness_JobLoadCommandsComplete_7 : ∃ (m : Fin 64) (s : State), isLeader s = true ∧ s.cov.job.isSome = true ∧ s.cov.hashSent + 60 * secTicks ≤ s.tb ∧ m.val ∈ otherMembers s ∧ m.val ∉ s.cov.hashOk ∧ m.val ∉ s.cov.hashBad :=
  ⟨3, (up |> (fun s => { s with cov := { s.cov with job := some default } }) |> (fun s => { s with tb := 10 ^ 15 }) |> (fun s => { s with team := { s.team with members := [0, 3] } })), by and_intros <;> decide +kernel⟩

theorem witness_JobLoadCommandsComplete_8 : ∃ (k : Fin 36) (s : State), rapMay s k.val .job 8 = true ∧ sessJob s k.val (jobNow s) = true ∧ isLeader s = true ∧ hashesIn s = true ∧ jobState s = 2 :=
  ⟨1, (up |> setJobState 2), by and_intros <;> decide +kernel⟩

theorem witness_JobLoadCommandsComplete_9 : ∃ (k : Fin 36) (s : State), rapMay s k.val .job 8 = true ∧ sessJob s k.val (jobNow s) = true ∧ isLeader s = true ∧ jobState s = 5 :=
  ⟨1, (up |> setJobState 5), by and_intros <;> decide +kernel⟩

theorem witness_JobLoadCommandsComplete_10 : ∃ (s : State) (b : Nat), isLeader s = true ∧ s.cov.runAt = some b ∧ b ≤ s.tb ∧ jobState s = 2 ∧ s.cov.storedJob = none ∧ s.cov.job.isSome = true ∧ strideOuts s = [] :=
  ⟨(up |> (fun s => { s with cov := { s.cov with runAt := some (0) } }) |> setJobState 2 |> (fun s => { s with cov := { s.cov with storedJob := none } }) |> (fun s => { s with cov := { s.cov with job := some default } }) |> (fun s => { s with tb := 10 ^ 15 })), 0, by and_intros <;> decide +kernel⟩

/-! JobEndCommandsComplete -/

theorem witness_JobEndCommandsComplete_0 : ∃ (k : Fin 36) (s : State), rapMay s k.val .job 8 = true ∧ sessJob s k.val (jobNow s) = true ∧ isLeader s = true ∧ jobState s = 3 :=
  ⟨1, (up |> setJobState 3), by and_intros <;> decide +kernel⟩

theorem witness_JobEndCommandsComplete_1 : ∃ (s : State), jobState s = 4 ∧ s.cov.toAck = [] ∧ strideOuts s = [] :=
  ⟨(up |> setJobState 4 |> (fun s => { s with cov := { s.cov with toAck := [] } })), by and_intros <;> decide +kernel⟩

theorem witness_JobEndCommandsComplete_2 : ∃ (k : Fin 36) (s : State), rapMay s k.val .job 8 = true ∧ sessJob s k.val (jobNow s) = true ∧ isLeader s = true ∧ jobState s = 5 :=
  ⟨1, (up |> setJobState 5), by and_intros <;> decide +kernel⟩

theorem witness_JobEndCommandsComplete_3 : ∃ (s : State) (j : JobDef), jobState s = 6 ∧ s.cov.job = some j :=
  ⟨(up |> setJobState 6 |> (fun s => { s with cov := { s.cov with job := some (default) } })), default, by and_intros <;> decide +kernel⟩

theorem witness_JobEndCommandsComplete_4 : ∃ (k : Fin 36) (s : State), rapMay s k.val .discard 8 = true ∧ sessJob s k.val (jobNow s) = true ∧ isLeader s = true ∧ jobState s = 5 :=
  ⟨1, (up |> setJobState 5), by and_intros <;> decide +kernel⟩

theorem witness_JobEndCommandsComplete_5 : ∃ (k : Fin 36) (s : State), rapMay s k.val .discard 8 = true ∧ jobState s = 5 :=
  ⟨1, (up |> setJobState 5), by and_intros <;> decide +kernel⟩

theorem witness_JobEndCommandsComplete_6 : ∃ (s : State), s.cov.exporting = true :=
  ⟨(up |> (fun s => { s with cov := { s.cov with exporting := true } })), by decide +kernel⟩

theorem witness_JobEndCommandsComplete_7 : ∃ (s : State), isLeader s = false ∧ jobState s = 3 :=
  ⟨(up |> (fun s => fset s R.TLK_STATUS F.TLK_STATUS_LEADER 5) |> setJobState 3), by and_intros <;> decide +kernel⟩

theorem witness_JobEndCommandsComplete_8 : ∃ (m : Fin 64) (n : Nat) (ms : List Nat) (s : State), s.cov.acks.find? (fun a => a.1 == n) = some (n, ms) ∧ ms.filter (· != m.val) ≠ [] :=
  ⟨3, 4, ([3, 5]), (up |> (fun s => { s with cov := { s.cov with acks := [(4, [3, 5])] } })), by and_intros <;> decide +kernel⟩

theorem witness_JobEndCommandsComplete_9 : ∃ (n : Nat) (b : Nat) (p : Poly) (s : State), isLeader s = false ∧ b ≤ s.tb ∧ s.cov.polys.find? (fun x => x.1 == n) = some (n, p) ∧ s.cov.job.isSome = true ∧ s.cov.code = [] :=
  ⟨4, 0, default, (up |> (fun s => fset s R.TLK_STATUS F.TLK_STATUS_LEADER 5) |> (fun s => { s with cov := { s.cov with job := some default } }) |> (fun s => { s with tb := 10 ^ 15 }) |> (fun s => { s with cov := { s.cov with polys := [(4, default)] } })), by and_intros <;> decide +kernel⟩

theorem witness_JobEndCommandsComplete_10 : ∃ (s : State), jobState s = 3 ∧ s.cov.storedAt + 10 * secTicks ≤ s.tb :=
  ⟨(up |> setJobState 3 |> (fun s => { s with tb := 10 ^ 15 })), by and_intros <;> decide +kernel⟩

/-! ModeCommandsComplete -/

theorem witness_ModeCommandsComplete_0 : ∃ (who : Fin 36) (s : State), rapMay s who.val .operate 1 = true :=
  ⟨1, up, by decide +kernel⟩

theorem witness_ModeCommandsComplete_1 : ∃ (who : Fin 36) (s : State), rapMay s who.val .operate 1 = true :=
  ⟨1, up, by decide +kernel⟩

theorem witness_ModeCommandsComplete_2 : ∃ (who : Fin 36) (s : State), rapMay s who.val .operate 1 = true :=
  ⟨1, up, by decide +kernel⟩

theorem witness_ModeCommandsComplete_3 : ∃ (s : State), isLeader s = true :=
  ⟨up, by decide +kernel⟩

theorem witness_ModeCommandsComplete_4 : ∃ (b : Nat) (s : State), isLeader s = false ∧ b ≤ s.tb :=
  ⟨0, (up |> (fun s => fset s R.TLK_STATUS F.TLK_STATUS_LEADER 5) |> (fun s => { s with tb := 10 ^ 15 })), by and_intros <;> decide +kernel⟩

theorem witness_ModeCommandsComplete_5 : ∃ (b : Nat) (c : TeamChg) (s : State), isLeader s = true ∧ b ≤ s.tb ∧ s.str.chgs.contains (b, c) = true :=
  ⟨0, default, (up |> (fun s => { s with tb := 10 ^ 15 }) |> (fun s => { s with str := { s.str with chgs := [(0, default)] } })), by and_intros <;> decide +kernel⟩

theorem witness_ModeCommandsComplete_6 : ∃ (b : Nat) (s : State), s.tb < b :=
  ⟨1, up, by decide +kernel⟩

theorem witness_ModeCommandsComplete_7 : ∃ (who : Fin 36) (s : State), rapMay s who.val .operate 1 = true :=
  ⟨1, (up |> (fun s => { s with cfg := { s.cfg with geom0 := { s.cfg.geom0 with family := .field, directedOk := true }, secs := [{ (default : SecEnt) with team := 0 }] } })), by decide +kernel⟩

theorem witness_ModeCommandsComplete_8 : ∃ (sect : Fin 1024) (s : State) (x : SecEnt), schedOpen s = true ∧ s.cfg.secs.filter (fun x => x.team == sect.val) = [x] :=
  ⟨0, (fset { up with cfg := { up.cfg with secs := [{ (default : SecEnt) with team := 0 }], geom0 := { up.cfg.geom0 with family := .field } } } R.STR_MODE F.STR_MODE_MODE 1), ({ (default : SecEnt) with team := 0 }), by and_intros <;> decide +kernel⟩

theorem witness_ModeCommandsComplete_10 : ∃ (s : State) (c : Nat), (List.range 4).find? (fun c => fbit s (R.CAN_ISO c) F.CAN_ISO_ROLE && domOn s 7) = some c :=
  ⟨(isoW up), 0, by decide +kernel⟩

theorem witness_ModeCommandsComplete_11 : ∃ (s : State) (c : Nat), (List.range 4).find? (fun c => fbit s (R.CAN_ISO c) F.CAN_ISO_ROLE && domOn s 7) = some c :=
  ⟨(isoW { up with cfg := { up.cfg with geom0 := { up.cfg.geom0 with family := .alley } } }), 0, by decide +kernel⟩

theorem witness_ModeCommandsComplete_12 : ∃ (s : State) (t : Nat), s.str.tcAt = some t ∧ t + 6 * secTicks ≤ s.tb :=
  ⟨(up |> (fun s => { s with str := { s.str with tcAt := some (0) } }) |> (fun s => { s with tb := 10 ^ 15 })), 0, by and_intros <;> decide +kernel⟩

theorem witness_ModeCommandsComplete_13 : ∃ (M : Nat) (s : State), s.cfg.geom0.family = .field ∧ isLeader s = false ∧ M ≤ s.tb :=
  ⟨0, (up |> (fun s => fset s R.TLK_STATUS F.TLK_STATUS_LEADER 5) |> (fun s => { s with tb := 10 ^ 15 })), by and_intros <;> decide +kernel⟩

theorem witness_ModeCommandsComplete_14 : ∃ (who : Fin 36) (s : State), rapMay s who.val .other 1 = true ∧ s.cfg.geom0.family = .alley :=
  ⟨0, ({ up with cfg := { up.cfg with geom0 := { up.cfg.geom0 with family := .alley } } }), by and_intros <;> decide +kernel⟩

theorem witness_ModeCommandsComplete_15 : ∃ (who : Fin 36) (s : State), rapMay s who.val .other 1 = true :=
  ⟨0, up, by decide +kernel⟩

/-! WaveformCommandsComplete -/

theorem witness_WaveformCommandsComplete_0 : ∃ (g : Fin 16) (ch : Fin 104) (s : State), domOn s 10 = true ∧ lgOwner s (lgOf s ch.val) (.ctl g) = true ∧ lgArmed s (lgOf s ch.val) = false :=
  ⟨0, 0, (up |> lgTo 2), by and_intros <;> decide +kernel⟩

theorem witness_WaveformCommandsComplete_1 : ∃ (g : Fin 16) (ch : Fin 104) (s : State), domOn s 10 = true ∧ lgOwner s (lgOf s ch.val) (.ctl g) = true ∧ lgArmed s (lgOf s ch.val) = false :=
  ⟨0, 0, (up |> lgTo 2), by and_intros <;> decide +kernel⟩

theorem witness_WaveformCommandsComplete_2 : ∃ (g : Fin 16) (ch : Fin 104) (s : State), domOn s 10 = true ∧ lgOwner s (lgOf s ch.val) (.ctl g) = true ∧ lgArmed s (lgOf s ch.val) = true :=
  ⟨0, 0, (up |> (fun s => fsetb (lgTo 2 s) (R.PWM_LG_STAT 0) F.PWM_LG_STAT_ARMED true)), by and_intros <;> decide +kernel⟩

theorem witness_WaveformCommandsComplete_3 : ∃ (c : Fin 4) (ch : Fin 104) (s : State), domOn s 10 = true ∧ lgOwner s (lgOf s ch.val) (.can c) = true ∧ lgArmed s (lgOf s ch.val) = false :=
  ⟨0, 0, (up |> lgTo 3), by and_intros <;> decide +kernel⟩

theorem witness_WaveformCommandsComplete_4 : ∃ (c : Fin 4) (ch : Fin 104) (s : State), domOn s 10 = true ∧ lgOwner s (lgOf s ch.val) (.can c) = false :=
  ⟨0, 0, (up |> lgTo 1), by and_intros <;> decide +kernel⟩

theorem witness_WaveformCommandsComplete_5 : ∃ (who : Fin 36) (ch : Fin 104) (s : State), rapMay s who.val .duty 10 = true ∧ lgOwner s (lgOf s ch.val) (.rap who) = true ∧ lgArmed s (lgOf s ch.val) = false :=
  ⟨0, 0, (up |> lgTo 1), by and_intros <;> decide +kernel⟩

theorem witness_WaveformCommandsComplete_6 : ∃ (who : Fin 36) (ch : Fin 104) (s : State), rapMay s who.val .duty 10 = true ∧ lgOwner s (lgOf s ch.val) (.rap who) = true ∧ lgArmed s (lgOf s ch.val) = false :=
  ⟨0, 0, (up |> lgTo 1), by and_intros <;> decide +kernel⟩

theorem witness_WaveformCommandsComplete_7 : ∃ (who : Fin 36) (ch : Fin 104) (s : State), rapMay s who.val .duty 10 = true ∧ lgOwner s (lgOf s ch.val) (.rap who) = false :=
  ⟨0, 0, up, by and_intros <;> decide +kernel⟩

theorem witness_WaveformCommandsComplete_8 : ∃ (g : Fin 16) (k : Fin 8) (s : State), domOn s 10 = true ∧ lgOwner s k.val (.ctl g) = true ∧ lgArmed s k.val = false :=
  ⟨0, 0, (up |> (fun s => fset (fset s (R.PWM_LG_CFG (0 : Fin 8).val) F.PWM_LG_CFG_OWNER 2) (R.PWM_LG_CFG (0 : Fin 8).val) F.PWM_LG_CFG_INST (0)) |> (fun s => { s with tb := 80000 }) |> (fun s => fsetb s (R.PWM_LG_CFG 0) F.PWM_LG_CFG_XFER true)), by and_intros <;> decide +kernel⟩

theorem witness_WaveformCommandsComplete_9 : ∃ (g : Fin 16) (k : Fin 8) (s : State), domOn s 10 = true ∧ lgOwner s k.val (.ctl g) = true :=
  ⟨0, 0, (up |> (fun s => fset (fset s (R.PWM_LG_CFG (0 : Fin 8).val) F.PWM_LG_CFG_OWNER 2) (R.PWM_LG_CFG (0 : Fin 8).val) F.PWM_LG_CFG_INST (0))), by and_intros <;> decide +kernel⟩

theorem witness_WaveformCommandsComplete_10 : ∃ (who : Fin 36) (k : Fin 8) (s : State), rapMay s who.val .duty 10 = true ∧ lgOwner s k.val (.rap who) = true ∧ lgArmed s k.val = false :=
  ⟨0, 0, (up |> (fun s => fset s (R.PWM_LG_CFG (0 : Fin 8).val) F.PWM_LG_CFG_OWNER 1)), by and_intros <;> decide +kernel⟩

theorem witness_WaveformCommandsComplete_11 : ∃ (g : Fin 16) (k : Fin 8) (s : State), domOn s 10 = true ∧ lgOwner s k.val (.ctl g) = true ∧ lgDue s k.val = false :=
  ⟨0, 0, (up |> (fun s => fset (fset s (R.PWM_LG_CFG (0 : Fin 8).val) F.PWM_LG_CFG_OWNER 2) (R.PWM_LG_CFG (0 : Fin 8).val) F.PWM_LG_CFG_INST (0)) |> (fun s => fset s R.PWM_FORCE_ONE_ACT F.PWM_FORCE_ONE_ACT_VAL 1)), by and_intros <;> decide +kernel⟩

theorem witness_WaveformCommandsComplete_12 : ∃ (who : Fin 36) (k : Fin 8) (s : State), rapMay s who.val .duty 10 = true ∧ lgOwner s k.val (.rap who) = true ∧ lgDue s k.val = false :=
  ⟨0, 0, (up |> (fun s => fset s (R.PWM_LG_CFG (0 : Fin 8).val) F.PWM_LG_CFG_OWNER 1)), by and_intros <;> decide +kernel⟩

theorem witness_WaveformCommandsComplete_13 : ∃ (g : Fin 16) (k : Fin 8) (s : State), domOn s 10 = true ∧ lgOwner s k.val (.ctl g) = true ∧ lgDue s k.val = true :=
  ⟨0, 0, (up |> (fun s => fset (fset s (R.PWM_LG_CFG (0 : Fin 8).val) F.PWM_LG_CFG_OWNER 2) (R.PWM_LG_CFG (0 : Fin 8).val) F.PWM_LG_CFG_INST (0)) |> (fun s => { s with tb := 80000 }) |> (fun s => fsetb (fsetb (lgTo 2 s) (R.PWM_LG_CFG 0) F.PWM_LG_CFG_XFER true) (R.PWM_LG_STAT 0) F.PWM_LG_STAT_ARMED true)), by and_intros <;> decide +kernel⟩

theorem witness_WaveformCommandsComplete_14 : ∃ (k : Fin 8) (s : State), fbit s (R.PWM_LG_STAT k.val) F.PWM_LG_STAT_ARMED = true ∧ smGet zero s.pwm.armAt k.val < s.tb ∧ lgBoundary s k.val = true ∧ s.pwm.frozen = none ∧ domOn s 10 = true :=
  ⟨0, (up |> (fun s => fsetb s (R.PWM_LG_STAT (0 : Fin 8).val) F.PWM_LG_STAT_ARMED true) |> (fun s => { s with tb := 80000 }) |> (fun s => fsetb s (R.PWM_LG_CFG 0) F.PWM_LG_CFG_XFER true)), by and_intros <;> decide +kernel⟩

theorem witness_WaveformCommandsComplete_15 : ∃ (who : Fin 36) (s : State), rapMay s who.val (.force true) 10 = true :=
  ⟨0, up, by decide +kernel⟩

theorem witness_WaveformCommandsComplete_16 : ∃ (who : Fin 36) (s : State), rapMay s who.val (.force (offOnly (rget s R.PWM_FORCE_SH).toNat (rget s R.PWM_FORCE_ONE).toNat)) 10 = true :=
  ⟨0, up, by decide +kernel⟩

theorem witness_WaveformCommandsComplete_17 : ∃ (who : Fin 36) (s : State), rapMay s who.val (.force true) 10 = true :=
  ⟨0, up, by decide +kernel⟩

theorem witness_WaveformCommandsComplete_18 : ∃ (s : State), forcing s = true ∧ s.pwm.commitAt + fget s R.PWM_HOLD F.PWM_HOLD_FORCE_TMO * secTicks ≤ s.tb :=
  ⟨(up |> (fun s => { s with tb := 10 ^ 15 }) |> (fun s => fset s R.PWM_FORCE_ONE_ACT F.PWM_FORCE_ONE_ACT_VAL 1)), by and_intros <;> decide +kernel⟩

/-! StageCommandsComplete -/

theorem witness_StageCommandsComplete_0 : ∃ (k : Fin 8) (s : State), fbit s (R.PWM_TRIP_STAT k.val) F.PWM_TRIP_STAT_LEVEL = false ∧ s.pwr.tbRun = true ∧ (tripSt s k.val).clr = none :=
  ⟨0, (up |> (fun s => fsetb s (R.PWM_TRIP_STAT (0 : Fin 8).val) F.PWM_TRIP_STAT_LEVEL false)), by and_intros <;> decide +kernel⟩

theorem witness_StageCommandsComplete_1 : ∃ (k : Fin 8) (s : State), fbit s (R.PWM_TRIP_STAT k.val) F.PWM_TRIP_STAT_LEVEL = true ∧ s.pwr.tbRun = true ∧ (tripSt s k.val).clr = none :=
  ⟨0, (up |> (fun s => fsetb s (R.PWM_TRIP_STAT (0 : Fin 8).val) F.PWM_TRIP_STAT_LEVEL true)), by and_intros <;> decide +kernel⟩

theorem witness_StageCommandsComplete_2 : ∃ (who : Fin 36) (k : Fin 8) (s : State), rapMay s who.val .other 0 = true ∧ tripMask s k.val ≠ 0 ∧ fbit s (R.PWM_TRIP_STAT k.val) F.PWM_TRIP_STAT_LEVEL = false ∧ fbit s (R.PWM_TRIP_STAT k.val) F.PWM_TRIP_STAT_LATCH = true :=
  ⟨0, 0, (up |> (fun s => fsetb s (R.PWM_TRIP_STAT (0 : Fin 8).val) F.PWM_TRIP_STAT_LEVEL false) |> (fun s => fsetb s (R.PWM_TRIP_STAT (0 : Fin 8).val) F.PWM_TRIP_STAT_LATCH true) |> (fun s => fset s (R.PWM_TRIP_MASK 0) F.PWM_TRIP_MASK_MASK 1)), by and_intros <;> decide +kernel⟩

theorem witness_StageCommandsComplete_3 : ∃ (k : Fin 8) (s : State), fbit s (R.PWM_TRIP_STAT k.val) F.PWM_TRIP_STAT_LATCH = true :=
  ⟨0, (up |> (fun s => fsetb s (R.PWM_TRIP_STAT (0 : Fin 8).val) F.PWM_TRIP_STAT_LATCH true) |> (fun s => fset s (R.PWM_TRIP_MASK 0) F.PWM_TRIP_MASK_MASK 1)), by decide +kernel⟩

theorem witness_StageCommandsComplete_4 : ∃ (who : Fin 36) (k : Fin 8) (s : State), rapMay s who.val .other 0 = true ∧ tripMask s k.val ≠ 0 ∧ fbit s (R.PWM_TRIP_STAT k.val) F.PWM_TRIP_STAT_LEVEL = true :=
  ⟨0, 0, (up |> (fun s => fsetb s (R.PWM_TRIP_STAT (0 : Fin 8).val) F.PWM_TRIP_STAT_LEVEL true) |> (fun s => fset s (R.PWM_TRIP_MASK 0) F.PWM_TRIP_MASK_MASK 1)), by and_intros <;> decide +kernel⟩

theorem witness_StageCommandsComplete_5 : ∃ (who : Fin 36) (k : Fin 8) (s : State), rapMay s who.val .other 0 = true ∧ tripMask s k.val = 0 :=
  ⟨0, 0, up, by and_intros <;> decide +kernel⟩

theorem witness_StageCommandsComplete_6 : ∃ (k : Fin 8) (s : State), fbit s (R.PWM_TRIP_CFG k.val) F.PWM_TRIP_CFG_MODE = true ∧ fbit s (R.PWM_TRIP_STAT k.val) F.PWM_TRIP_STAT_LEVEL = false ∧ (tripSt s k.val).quiet + msTicks (fget s (R.PWM_TRIP_MASK k.val) F.PWM_TRIP_MASK_RELEASE) ≤ s.tb ∧ fbit s (R.PWM_TRIP_STAT k.val) F.PWM_TRIP_STAT_LATCH = true :=
  ⟨0, (up |> (fun s => fsetb s (R.PWM_TRIP_CFG (0 : Fin 8).val) F.PWM_TRIP_CFG_MODE true) |> (fun s => fsetb s (R.PWM_TRIP_STAT (0 : Fin 8).val) F.PWM_TRIP_STAT_LEVEL false) |> (fun s => fsetb s (R.PWM_TRIP_STAT (0 : Fin 8).val) F.PWM_TRIP_STAT_LATCH true) |> (fun s => { s with tb := 10 ^ 15 })), by and_intros <;> decide +kernel⟩

theorem witness_StageCommandsComplete_7 : ∃ (s : State), s.pwr.tbRun = false :=
  ⟨(up |> (fun s => { s with pwr := { s.pwr with tbRun := false } })), by decide +kernel⟩

theorem witness_StageCommandsComplete_8 : ∃ (s : State), domOn s 1 = true ∧ domOn s 10 = true ∧ s.pwm.halted = false ∧ s.pwm.frozen = none :=
  ⟨up, by and_intros <;> decide +kernel⟩

theorem witness_StageCommandsComplete_9 : ∃ (s : State), s.pwm.held = none ∧ fltHeld s Ev.WD_EXPIRED [] = false :=
  ⟨(up |> (fun s => { s with tb := 10 ^ 15, pwm := { s.pwm with wd := some 5 } })), by and_intros <;> decide +kernel⟩

theorem witness_StageCommandsComplete_10 : ∃ (s : State), domOn s 1 = true ∧ domOn s 10 = true ∧ s.pwm.halted = false ∧ s.pwm.frozen = none ∧ s.pwm.wd.isSome = true ∧ fbit s R.PWM_CTRL F.PWM_CTRL_WD_SUSPEND = false :=
  ⟨(up |> (fun s => { s with pwm := { s.pwm with wd := some default } }) |> (fun s => fsetb s R.PWM_CTRL F.PWM_CTRL_WD_SUSPEND false)), by and_intros <;> decide +kernel⟩

theorem witness_StageCommandsComplete_11 : ∃ (s : State), wdDue s = true ∧ fbit s R.PWM_CTRL F.PWM_CTRL_WD_SUSPEND = false :=
  ⟨(up |> (fun s => fsetb s R.PWM_CTRL F.PWM_CTRL_WD_SUSPEND false) |> (fun s => { s with tb := 10 ^ 15, pwm := { s.pwm with wd := some 5 } })), by and_intros <;> decide +kernel⟩

theorem witness_StageCommandsComplete_12 : ∃ (who : Fin 36) (s : State), rapMay s who.val .debug 10 = true ∧ fbit s R.PWM_CTRL F.PWM_CTRL_WD_SUSPEND = false :=
  ⟨2, (up |> (fun s => fsetb s R.PWM_CTRL F.PWM_CTRL_WD_SUSPEND false) |> id), by and_intros <;> decide +kernel⟩

theorem witness_StageCommandsComplete_13 : ∃ (ch : Fin 96) (t : Nat) (s : State), drives s = false ∧ fbit s (R.LSW_CH_CFG1 ch.val) F.LSW_CH_CFG1_PAIR_WIRED = true ∧ t ≤ s.tb :=
  ⟨0, 0, (up |> (fun s => fsetb s (R.LSW_CH_CFG1 (0 : Fin 96).val) F.LSW_CH_CFG1_PAIR_WIRED true) |> (fun s => { s with tb := 10 ^ 15 }) |> (fun s => fset s R.TLK_PAIR_STAT F.TLK_PAIR_STAT_STATE 3)), by and_intros <;> decide +kernel⟩

theorem witness_StageCommandsComplete_14 : ∃ (ch : Fin 96) (t : Nat) (s : State), drives s = false ∧ fbit s (R.LSW_CH_CFG1 ch.val) F.LSW_CH_CFG1_PAIR_WIRED = true ∧ s.tb < t :=
  ⟨0, 5, (up |> (fun s => fsetb s (R.LSW_CH_CFG1 (0 : Fin 96).val) F.LSW_CH_CFG1_PAIR_WIRED true) |> (fun s => fset s R.TLK_PAIR_STAT F.TLK_PAIR_STAT_STATE 3)), by and_intros <;> decide +kernel⟩

theorem witness_StageCommandsComplete_15 : ∃ (s : State), coreAlive s = false :=
  ⟨up, by decide +kernel⟩

/-! LoadProtectionCommandsComplete -/

theorem witness_LoadProtectionCommandsComplete_0 : ∃ (ch : Fin 96) (s : State), domOn s 10 = true ∧ s.tb % 50000 = 6250 * (ch.val % 8) ∧ ch.val / 8 ∉ s.far.adcFail ∧ qualifies s ch.val = false ∧ fbit s (R.LSW_CH_CFG1 ch.val) F.LSW_CH_CFG1_PAIR_WIRED = false :=
  ⟨0, (up |> (fun s => fsetb s (R.LSW_CH_CFG1 (0 : Fin 96).val) F.LSW_CH_CFG1_PAIR_WIRED false)), by and_intros <;> decide +kernel⟩

theorem witness_LoadProtectionCommandsComplete_1 : ∃ (ch : Fin 96) (s : State), domOn s 10 = true ∧ s.tb % 50000 = 6250 * (ch.val % 8) ∧ ch.val / 8 ∉ s.far.adcFail ∧ qualifies s ch.val = false ∧ fbit s (R.LSW_CH_CFG1 ch.val) F.LSW_CH_CFG1_PAIR_WIRED = true ∧ outEnt s ch.val = none ∧ s.pwr.paired = true :=
  ⟨0, (up |> (fun s => fsetb s (R.LSW_CH_CFG1 (0 : Fin 96).val) F.LSW_CH_CFG1_PAIR_WIRED true) |> (fun s => { s with pwr := { s.pwr with paired := true } })), by and_intros <;> decide +kernel⟩

theorem witness_LoadProtectionCommandsComplete_2 : ∃ (ch : Fin 96) (s : State), domOn s 10 = true ∧ fget s (R.LSW_CH_CFG1 ch.val) F.LSW_CH_CFG1_OL_THR ≠ 0 ∧ (swOf s ch.val).st ≠ 0 ∧ max (lch s ch.val).qualAt (lch s ch.val).driveAt + msTicks 100 ≤ s.tb :=
  ⟨0, (up |> (fun s => fset s (R.LSW_CH_CFG1 (0 : Fin 96).val) F.LSW_CH_CFG1_OL_THR 1) |> (fun s => { s with tb := 10 ^ 15 }) |> (fun s => { s with pwm := { s.pwm with sw := [(0, { segInit 0 with st := 1 })] } })), by and_intros <;> decide +kernel⟩

theorem witness_LoadProtectionCommandsComplete_3 : ∃ (ch : Fin 96) (s : State), domPow s 0 = true ∧ protOff s ch.val = false ∧ domPow s 10 = true :=
  ⟨0, up, by and_intros <;> decide +kernel⟩

theorem witness_LoadProtectionCommandsComplete_4 : ∃ (ch : Fin 96) (s : State), domPow s 0 = true ∧ protOff s ch.val = false ∧ domPow s 10 = false :=
  ⟨0, (up |> (fun s => domSet s 10 false)), by and_intros <;> decide +kernel⟩

theorem witness_LoadProtectionCommandsComplete_5 : ∃ (ch : Fin 96) (t : Nat) (s : State), (lch s ch.val).due = some t ∧ t ≤ s.tb ∧ chBit s ch.val F.LSW_CH_STAT_RETRYING = true ∧ domOn s 10 = true ∧ clusterWarn s ch.val = false ∧ chBit s ch.val F.LSW_CH_STAT_FEED_UV = false :=
  ⟨0, 0, (up |> (fun s => setLch (0 : Fin 96).val (fun _ => { lch s (0 : Fin 96).val with due := some (0) }) s) |> (fun s => fsetb s (R.LSW_CH_STAT (0 : Fin 96).val) F.LSW_CH_STAT_RETRYING true) |> (fun s => fsetb s (R.LSW_CH_STAT (0 : Fin 96).val) F.LSW_CH_STAT_FEED_UV false) |> (fun s => { s with tb := 10 ^ 15 })), by and_intros <;> decide +kernel⟩

theorem witness_LoadProtectionCommandsComplete_6 : ∃ (ch : Fin 96) (t : Nat) (s : State), (lch s ch.val).due = some t ∧ t ≤ s.tb ∧ chBit s ch.val F.LSW_CH_STAT_RETRYING = true ∧ domOn s 10 = true ∧ clusterWarn s ch.val = false ∧ chBit s ch.val F.LSW_CH_STAT_FEED_UV = true :=
  ⟨0, 0, (up |> (fun s => setLch (0 : Fin 96).val (fun _ => { lch s (0 : Fin 96).val with due := some (0) }) s) |> (fun s => fsetb s (R.LSW_CH_STAT (0 : Fin 96).val) F.LSW_CH_STAT_RETRYING true) |> (fun s => fsetb s (R.LSW_CH_STAT (0 : Fin 96).val) F.LSW_CH_STAT_FEED_UV true) |> (fun s => { s with tb := 10 ^ 15 })), by and_intros <;> decide +kernel⟩

theorem witness_LoadProtectionCommandsComplete_7 : ∃ (ch : Fin 96) (t : Nat) (s : State), (lch s ch.val).winEnd = some t ∧ t ≤ s.tb :=
  ⟨0, 0, (up |> (fun s => setLch (0 : Fin 96).val (fun _ => { lch s (0 : Fin 96).val with winEnd := some (0) }) s) |> (fun s => { s with tb := 10 ^ 15 })), by and_intros <;> decide +kernel⟩

theorem witness_LoadProtectionCommandsComplete_8 : ∃ (ch : Fin 96) (s : State), domOn s 0 = true ∧ chBit s ch.val F.LSW_CH_STAT_THERMAL = false ∧ ((lch s ch.val).therm.filter (fun t => decide (s.tb < t + 10 * secTicks))).length < 7 :=
  ⟨0, (up |> (fun s => fsetb s (R.LSW_CH_STAT (0 : Fin 96).val) F.LSW_CH_STAT_THERMAL false)), by and_intros <;> decide +kernel⟩

theorem witness_LoadProtectionCommandsComplete_9 : ∃ (ch : Fin 96) (s : State), chBit s ch.val F.LSW_CH_STAT_THERMAL = true :=
  ⟨0, (up |> (fun s => fsetb s (R.LSW_CH_STAT (0 : Fin 96).val) F.LSW_CH_STAT_THERMAL true)), by decide +kernel⟩

theorem witness_LoadProtectionCommandsComplete_10 : ∃ (t : BitVec 9) (s : State), domOn s 10 = true ∧ 140 ≤ t.toInt :=
  ⟨140, up, by and_intros <;> decide +kernel⟩

theorem witness_LoadProtectionCommandsComplete_11 : ∃ (t : BitVec 9) (s : State), domOn s 10 = true ∧ t.toInt < 137 :=
  ⟨0, up, by and_intros <;> decide +kernel⟩

theorem witness_LoadProtectionCommandsComplete_12 : ∃ (ch : Fin 96) (s : State), domOn s 10 = true ∧ chBit s ch.val F.LSW_CH_STAT_CLAMP_LOCK = true :=
  ⟨0, (up |> (fun s => fsetb s (R.LSW_CH_STAT (0 : Fin 96).val) F.LSW_CH_STAT_CLAMP_LOCK true)), by and_intros <;> decide +kernel⟩

theorem witness_LoadProtectionCommandsComplete_13 : ∃ (who : Fin 36) (ch : Fin 96) (s : State), rapMay s who.val .other 10 = true ∧ (latched s ch.val).all (fun x => causeGone s ch.val x.1) = true :=
  ⟨0, 0, (up |> id), by and_intros <;> decide +kernel⟩

theorem witness_LoadProtectionCommandsComplete_14 : ∃ (who : Fin 36) (ch : Fin 96) (s : State), rapMay s who.val .other 10 = true ∧ (latched s ch.val).all (fun x => causeGone s ch.val x.1) = false :=
  ⟨0, 0, (fsetb (fsetb up (R.LSW_CH_STAT 0) F.LSW_CH_STAT_THERM_LATCH true) (R.LSW_CH_STAT 0) F.LSW_CH_STAT_THERMAL true), by and_intros <;> decide +kernel⟩

theorem witness_LoadProtectionCommandsComplete_15 : ∃ (ch : Fin 96) (t : Nat) (s : State), cmdOffSince s ch.val = some t ∧ domOn s 10 = true ∧ fbit s (R.LSW_CH_CFG1 ch.val) F.LSW_CH_CFG1_LATCH_CLR = true ∧ t + msTicks 100 ≤ s.tb :=
  ⟨0, 0, (up |> (fun s => fsetb s (R.LSW_CH_CFG1 (0 : Fin 96).val) F.LSW_CH_CFG1_LATCH_CLR true) |> (fun s => { s with tb := 10 ^ 15 })), by and_intros <;> decide +kernel⟩

/-! FeedAndHalterCommandsComplete -/

theorem witness_FeedAndHalterCommandsComplete_0 : ∃ (f : Fin 6) (s : State), domOn s 0 = true ∧ fbit s (R.LSW_FEED_STAT f.val) F.LSW_FEED_STAT_UV = false :=
  ⟨0, (up |> (fun s => fsetb s (R.LSW_FEED_STAT (0 : Fin 6).val) F.LSW_FEED_STAT_UV false)), by and_intros <;> decide +kernel⟩

theorem witness_FeedAndHalterCommandsComplete_1 : ∃ (f : Fin 6) (s : State), domOn s 0 = true ∧ fbit s (R.LSW_FEED_STAT f.val) F.LSW_FEED_STAT_UV = true ∧ smGet zero s.lsw.uvAt f.val + msTicks (fget s (R.LSW_FEED_CFG f.val) F.LSW_FEED_CFG_RESTART_T) ≤ s.tb :=
  ⟨0, (up |> (fun s => fsetb s (R.LSW_FEED_STAT (0 : Fin 6).val) F.LSW_FEED_STAT_UV true) |> (fun s => { s with tb := 10 ^ 15 })), by and_intros <;> decide +kernel⟩

theorem witness_FeedAndHalterCommandsComplete_2 : ∃ (f : Fin 6) (t : Nat) (s : State), s.lsw.second = [(f.val, t)] ∧ t ≤ s.tb :=
  ⟨0, 0, (up |> (fun s => { s with lsw := { s.lsw with second := [((0 : Fin 6).val, (0))] } }) |> (fun s => { s with tb := 10 ^ 15 })), by and_intros <;> decide +kernel⟩

theorem witness_FeedAndHalterCommandsComplete_3 : ∃ (f : Fin 6) (s : State), domOn s 10 = true ∧ 25000 * 8000 < loadSum s f.val * 5 ∧ fbit s (R.LSW_FEED_STAT f.val) F.LSW_FEED_STAT_OVERLOAD = false :=
  ⟨0, (up |> (fun s => fsetb s (R.LSW_FEED_STAT (0 : Fin 6).val) F.LSW_FEED_STAT_OVERLOAD false) |> (fun s => { s with tb := msTicks 10 * 10, lsw := { s.lsw with load := [(0, [(0, 10 ^ 9)])] } })), by and_intros <;> decide +kernel⟩

theorem witness_FeedAndHalterCommandsComplete_4 : ∃ (f : Fin 6) (s : State), domOn s 10 = true ∧ loadSum s f.val * 5 ≤ 25000 * 8000 ∧ fbit s (R.LSW_FEED_STAT f.val) F.LSW_FEED_STAT_OVERLOAD = true :=
  ⟨0, (up |> (fun s => fsetb s (R.LSW_FEED_STAT (0 : Fin 6).val) F.LSW_FEED_STAT_OVERLOAD true)), by and_intros <;> decide +kernel⟩

theorem witness_FeedAndHalterCommandsComplete_5 : ∃ (s : State), domOn s 10 = true ∧ 120000 * 8000 < (((List.range 6).map (loadSum s)).foldl (· + ·) 0) * 5 ∧ fbit s R.LSW_TOTAL F.LSW_TOTAL_OVERLOAD = false :=
  ⟨(up |> (fun s => fsetb s R.LSW_TOTAL F.LSW_TOTAL_OVERLOAD false) |> (fun s => { s with tb := msTicks 10 * 10, lsw := { s.lsw with load := [(0, [(0, 10 ^ 9)])] } })), by and_intros <;> decide +kernel⟩

theorem witness_FeedAndHalterCommandsComplete_6 : ∃ (ch : Fin 96) (s : State), domOn s 10 = true ∧ actualOn s ch.val = false ∧ farDue s 11 ch.val (msTicks 100) = true ∧ chBit (farStamp 11 ch.val s) ch.val F.LSW_CH_STAT_STUCK_ON = false :=
  ⟨0, up, by and_intros <;> decide +kernel⟩

theorem witness_FeedAndHalterCommandsComplete_7 : ∃ (ch : Fin 96) (s : State), domOn s 10 = true ∧ actualOn s ch.val = false ∧ farDue s 11 ch.val (msTicks 100) = true :=
  ⟨0, up, by and_intros <;> decide +kernel⟩

theorem witness_FeedAndHalterCommandsComplete_8 : ∃ (m : Fin 4) (s : State), domOn s 0 = true ∧ fbit s (R.LSW_HB_STAT m.val) F.LSW_HB_STAT_DESAT = false :=
  ⟨0, (up |> (fun s => fsetb s (R.LSW_HB_STAT (0 : Fin 4).val) F.LSW_HB_STAT_DESAT false)), by and_intros <;> decide +kernel⟩

theorem witness_FeedAndHalterCommandsComplete_9 : ∃ (m : Fin 4) (s : State), domOn s 0 = true ∧ fbit s (R.LSW_HB_STAT m.val) F.LSW_HB_STAT_DRV_UV = false :=
  ⟨0, (up |> (fun s => fsetb s (R.LSW_HB_STAT (0 : Fin 4).val) F.LSW_HB_STAT_DRV_UV false)), by and_intros <;> decide +kernel⟩

theorem witness_FeedAndHalterCommandsComplete_10 : ∃ (m : Fin 4) (s : State), fbit s (R.LSW_HB_STAT m.val) F.LSW_HB_STAT_DRV_UV = true :=
  ⟨0, (up |> (fun s => fsetb s (R.LSW_HB_STAT (0 : Fin 4).val) F.LSW_HB_STAT_DRV_UV true)), by decide +kernel⟩

theorem witness_FeedAndHalterCommandsComplete_11 : ∃ (who : Fin 36) (m : Fin 4) (s : State), rapMay s who.val .other 10 = true ∧ fbit s (R.LSW_HB_STAT m.val) F.LSW_HB_STAT_DESAT = true :=
  ⟨0, 0, (up |> (fun s => fsetb s (R.LSW_HB_STAT (0 : Fin 4).val) F.LSW_HB_STAT_DESAT true)), by and_intros <;> decide +kernel⟩

theorem witness_FeedAndHalterCommandsComplete_12 : ∃ (i : Fin 8) (s : State), domOn s 0 = true ∧ bitOf (fget s R.LSW_HALTER_STAT F.LSW_HALTER_STAT_IN) i.val = false ∧ halterActive s = false ∧ s.lsw.pulseOn = [] :=
  ⟨0, (up |> (fun s => { s with lsw := { s.lsw with pulseOn := [] } })), by and_intros <;> decide +kernel⟩

theorem witness_FeedAndHalterCommandsComplete_13 : ∃ (s : State), domOn s 0 = true ∧ fbit s R.LSW_HALTER_STAT F.LSW_HALTER_STAT_EN = false :=
  ⟨(up |> (fun s => fsetb s R.LSW_HALTER_STAT F.LSW_HALTER_STAT_EN false) |> id), by and_intros <;> decide +kernel⟩

theorem witness_FeedAndHalterCommandsComplete_14 : ∃ (s : State), fbit s R.LSW_HALTER_STAT F.LSW_HALTER_STAT_EN = true ∧ halterActive s = true :=
  ⟨(up |> (fun s => fsetb s R.LSW_HALTER_STAT F.LSW_HALTER_STAT_EN true) |> (fun s => fsetb s R.LSW_HALTER_STAT F.LSW_HALTER_STAT_ACTIVE true)), by and_intros <;> decide +kernel⟩

theorem witness_FeedAndHalterCommandsComplete_15 : ∃ (ch : Fin 96) (i : Nat) (s : State), halterActive s = true ∧ halterIn s ch.val = some i ∧ fbit s (R.LSW_HALTER_MAP ch.val) F.LSW_HALTER_MAP_MODE = true ∧ fget s (R.LSW_HALTER_MAP ch.val) F.LSW_HALTER_MAP_DUTY16 < 16 ∧ bitOf (fget s R.LSW_HALTER_STAT F.LSW_HALTER_STAT_IN) i = true ∧ bitOf (fget s R.LSW_HALTER_STAT F.LSW_HALTER_STAT_ARMED) i = true ∧ ch.val ∉ s.lsw.pulseOn ∧ aoPast s (smFind s.lsw.pulseAt ch.val) (aoTicks (pulsePeriod s ch.val - pulseOnTime s ch.val)) = true :=
  ⟨0, 0, (up |> (fun s => fsetb s (R.LSW_HALTER_MAP (0 : Fin 96).val) F.LSW_HALTER_MAP_MODE true) |> (fun s => fset s R.LSW_HALTER_STAT F.LSW_HALTER_STAT_IN (2 ^ (0))) |> (fun s => fset s R.LSW_HALTER_STAT F.LSW_HALTER_STAT_ARMED (2 ^ (0))) |> (fun s => fset (fsetb s R.LSW_HALTER_STAT F.LSW_HALTER_STAT_ACTIVE true) (R.LSW_HALTER_MAP 0) F.LSW_HALTER_MAP_IN 1 |> (fun s => fset s (R.LSW_HALTER_MAP 0) F.LSW_HALTER_MAP_DUTY16 8))), by and_intros <;> decide +kernel⟩

theorem witness_FeedAndHalterCommandsComplete_16 : ∃ (ch : Fin 96) (i : Nat) (s : State), halterActive s = true ∧ halterIn s ch.val = some i ∧ fbit s (R.LSW_HALTER_MAP ch.val) F.LSW_HALTER_MAP_MODE = true ∧ fget s (R.LSW_HALTER_MAP ch.val) F.LSW_HALTER_MAP_DUTY16 < 16 ∧ bitOf (fget s R.LSW_HALTER_STAT F.LSW_HALTER_STAT_IN) i = true ∧ bitOf (fget s R.LSW_HALTER_STAT F.LSW_HALTER_STAT_ARMED) i = true ∧ ch.val ∈ s.lsw.pulseOn ∧ aoPast s (smFind s.lsw.pulseAt ch.val) (aoTicks (pulseOnTime s ch.val)) = true :=
  ⟨0, 0, (up |> (fun s => fsetb s (R.LSW_HALTER_MAP (0 : Fin 96).val) F.LSW_HALTER_MAP_MODE true) |> (fun s => fset s R.LSW_HALTER_STAT F.LSW_HALTER_STAT_IN (2 ^ (0))) |> (fun s => fset s R.LSW_HALTER_STAT F.LSW_HALTER_STAT_ARMED (2 ^ (0))) |> (fun s => fset (fsetb { s with lsw := { s.lsw with pulseOn := [0] } } R.LSW_HALTER_STAT F.LSW_HALTER_STAT_ACTIVE true) (R.LSW_HALTER_MAP 0) F.LSW_HALTER_MAP_IN 1 |> (fun s => fset s (R.LSW_HALTER_MAP 0) F.LSW_HALTER_MAP_DUTY16 8))), by and_intros <;> decide +kernel⟩

theorem witness_FeedAndHalterCommandsComplete_17 : ∃ (i : Fin 8) (s : State), aoPast s (smFind s.lsw.inAt i.val) (fget s (R.LSW_HALTER_IN i.val) F.LSW_HALTER_IN_STUCK_LIM * secTicks) = true ∧ fget s (R.LSW_HALTER_IN i.val) F.LSW_HALTER_IN_STUCK_LIM ≠ 0 ∧ bitOf (fget s R.LSW_HALTER_STAT F.LSW_HALTER_STAT_IN) i.val = true ∧ bitOf (fget s R.LSW_HALTER_STAT F.LSW_HALTER_STAT_STUCK) i.val = false :=
  ⟨0, (up |> (fun s => fset s (R.LSW_HALTER_IN (0 : Fin 8).val) F.LSW_HALTER_IN_STUCK_LIM 1) |> (fun s => fset s R.LSW_HALTER_STAT F.LSW_HALTER_STAT_IN (2 ^ (0 : Fin 8).val))), by and_intros <;> decide +kernel⟩

/-! LoopCommandsComplete -/

theorem witness_LoopCommandsComplete_0 : ∃ (n : Fin 64) (s : State) (d : LoopDef) (lane : Nat), loopDef s n.val = some d ∧ loopsRun s = true ∧ loopDue s (boundaryAt s.tb) n.val = true ∧ s.tb ≤ boundaryAt s.tb + 30000 ∧ (loopSt s n.val).stepAt ≠ some (boundaryAt s.tb) ∧ loopHeld s n.val = false ∧ loopLane s (boundaryAt s.tb) n.val = some lane ∧ s.pwr.paired = false ∧ curbOf s n.val = none ∧ sparesOf s 1 = [] :=
  ⟨0, (up |> (fun s => { s with tb := 40005 }) |> (fun s => loopOn { s with far := { s.far with spares := [] } })), loopW, 0, by and_intros <;> decide +kernel⟩

theorem witness_LoopCommandsComplete_1 : ∃ (n : Fin 64) (s : State) (d : LoopDef) (lane : Nat) (k : Nat), loopDef s n.val = some d ∧ loopsRun s = true ∧ loopDue s (boundaryAt s.tb) n.val = true ∧ s.tb ≤ boundaryAt s.tb + 30000 ∧ (loopSt s n.val).stepAt ≠ some (boundaryAt s.tb) ∧ loopHeld s n.val = false ∧ loopLane s (boundaryAt s.tb) n.val = some lane ∧ s.pwr.paired = false ∧ curbOf s n.val = some k ∧ sparesOf s 1 = [] :=
  ⟨0, (up |> (fun s => { s with tb := 40005 }) |> (fun s => fset (loopOn { s with far := { s.far with spares := [] } }) (R.CTL_LOOP_CFG 0) F.CTL_LOOP_CFG_CURB 0)), loopW, 0, 0, by and_intros <;> decide +kernel⟩

theorem witness_LoopCommandsComplete_2 : ∃ (n : Fin 64) (s : State) (d : LoopDef) (lane : Nat), loopDef s n.val = some d ∧ loopsRun s = true ∧ loopDue s (boundaryAt s.tb) n.val = true ∧ s.tb ≤ boundaryAt s.tb + 30000 ∧ (loopSt s n.val).stepAt ≠ some (boundaryAt s.tb) ∧ loopHeld s n.val = false ∧ loopLane s (boundaryAt s.tb) n.val = some lane ∧ sparesOf s 1 ≠ [] ∧ lane = laneDue s 1 :=
  ⟨0, (up |> (fun s => { s with tb := 40005 }) |> (fun s => loopOn { s with far := { s.far with spares := [(1, 4)] }, ctl := { s.ctl with chkLane := 0 } })), loopW, 0, by and_intros <;> decide +kernel⟩

theorem witness_LoopCommandsComplete_3 : ∃ (n : Fin 64) (s : State), loopsRun s = true ∧ loopDue s (boundaryAt s.tb) n.val = true ∧ boundaryAt s.tb + 30000 ≤ s.tb ∧ (loopSt s n.val).stepAt ≠ some (boundaryAt s.tb) ∧ loopHeld s n.val = false ∧ (loopSt s n.val).lateRun < 9 ∧ curbOf s n.val = none :=
  ⟨0, (up |> (fun s => { s with tb := 75000 }) |> loopOn), by and_intros <;> decide +kernel⟩

theorem witness_LoopCommandsComplete_4 : ∃ (n : Fin 64) (s : State), lstate s n.val = 3 ∧ (loopSt s n.val).holdAt + msTicks (lcfg1 s n.val F.CTL_LOOP_CFG1_FB_TMO) ≤ s.tb :=
  ⟨0, (up |> (fun s => { s with tb := 10 ^ 15 }) |> (fun s => fset s (R.CTL_LOOP_STAT 0) F.CTL_LOOP_STAT_STATE 3)), by and_intros <;> decide +kernel⟩

theorem witness_LoopCommandsComplete_5 : ∃ (who : Fin 36) (n : Fin 64) (s : State), rapMay s who.val .other 1 = true ∧ lstate s n.val ≠ 5 :=
  ⟨0, 0, (up |> id), by and_intros <;> decide +kernel⟩

theorem witness_LoopCommandsComplete_6 : ∃ (who : Fin 36) (n : Fin 64) (s : State), rapMay s who.val .other 1 = true ∧ curbOf s n.val = none :=
  ⟨0, 0, up, by and_intros <;> decide +kernel⟩

theorem witness_LoopCommandsComplete_7 : ∃ (who : Fin 36) (n : Fin 64) (s : State), rapMay s who.val .other 1 = true ∧ (curbOf s n.val).isSome = true :=
  ⟨0, 0, (up |> (fun s => fset s (R.CTL_LOOP_CFG 0) F.CTL_LOOP_CFG_CURB 0)), by and_intros <;> decide +kernel⟩

theorem witness_LoopCommandsComplete_8 : ∃ (who : Fin 36) (s : State), rapMay s who.val .other 1 = true :=
  ⟨0, up, by decide +kernel⟩

theorem witness_LoopCommandsComplete_9 : ∃ (who : Fin 36) (k : Fin 16) (s : State), rapMay s who.val .other 1 = true ∧ curbMembers s k.val ≠ [] :=
  ⟨0, 0, (up |> (fun s => fset (loopOn s) (R.CTL_LOOP_CFG 0) F.CTL_LOOP_CFG_CURB 0)), by and_intros <;> decide +kernel⟩

theorem witness_LoopCommandsComplete_10 : ∃ (who : Fin 36) (s : State), rapMay s who.val .test 1 = true :=
  ⟨0, up, by decide +kernel⟩

theorem witness_LoopCommandsComplete_11 : ∃ (who : Fin 36) (s : State), rapMay s who.val .test 1 = true :=
  ⟨0, (up |> id), by decide +kernel⟩

theorem witness_LoopCommandsComplete_12 : ∃ (who : Fin 36) (s : State), rapMay s who.val .test 1 = true :=
  ⟨0, (up |> id), by decide +kernel⟩

theorem witness_LoopCommandsComplete_13 : ∃ (who : Fin 36) (r : Role) (s : State), sessRole s who.val = some r ∧ rapPath s = true ∧ injRefused s who.val = none :=
  ⟨0, .oem, (up |> injOk), by and_intros <;> decide +kernel⟩

theorem witness_LoopCommandsComplete_14 : ∃ (who : Fin 36) (r : Role) (c : Nat) (s : State), sessRole s who.val = some r ∧ rapPath s = true ∧ injRefused s who.val = some c ∧ c ≠ 3 :=
  ⟨0, .oem, 4, (up |> (fun s => setJobState 3 s)), by and_intros <;> decide +kernel⟩

theorem witness_LoopCommandsComplete_15 : ∃ (who : Fin 36) (s : State), rapMay s who.val .test 1 = true :=
  ⟨0, up, by decide +kernel⟩

theorem witness_LoopCommandsComplete_16 : ∃ (s : State) (j : Inj) (t : Nat), s.ctl.inj = some j ∧ j.first = some t ∧ t + msTicks j.dur ≤ s.tb :=
  ⟨(up |> (fun s => { s with ctl := { s.ctl with inj := some ({ (default : Inj) with first := some 0 }) } }) |> (fun s => { s with tb := 10 ^ 15 }) |> (fun s => { s with ctl := { s.ctl with inj := some { (default : Inj) with first := some 0 } } })), ({ (default : Inj) with first := some 0 }), 0, by and_intros <;> decide +kernel⟩

/-! CanBusCommandsComplete -/

theorem witness_CanBusCommandsComplete_0 : ∃ (c : Fin 4) (t : Nat) (s : State), canOn s c.val = true ∧ canState s c.val ≠ 2 ∧ canMode s c.val = 1 ∧ t ≤ s.tb :=
  ⟨0, 0, (up |> (fun s => fset s (R.CAN_STATUS (0 : Fin 4).val) F.CAN_STATUS_MODE_ACT 1) |> (fun s => { s with tb := 10 ^ 15 })), by and_intros <;> decide +kernel⟩

theorem witness_CanBusCommandsComplete_1 : ∃ (c : Fin 4) (t : Nat) (s : State), canOn s c.val = true ∧ canState s c.val ≠ 2 ∧ canMode s c.val ≠ 1 ∧ t ≤ s.tb :=
  ⟨0, 0, (up |> (fun s => { s with tb := 10 ^ 15 })), by and_intros <;> decide +kernel⟩

theorem witness_CanBusCommandsComplete_2 : ∃ (c : Fin 4) (s : State) (e : CanEnt) (q : List CanEnt), (canOf s c.val).queue = e :: q ∧ (canOf s c.val).lost = none ∧ domOn s 7 = true ∧ domOn s 8 = true :=
  ⟨0, (up |> (fun s => setCan (0 : Fin 4).val ({ canOf s (0 : Fin 4).val with lost := none }) s) |> (fun s => setCan 0 { canOf s 0 with queue := [default] } s)), default, [], by and_intros <;> decide +kernel⟩

theorem witness_CanBusCommandsComplete_3 : ∃ (c : Fin 4) (e : Fin 6) (s : State), canOn s c.val = true ∧ e.val ≠ 0 ∧ canState s c.val ≠ 2 ∧ canMode s c.val ≠ 1 :=
  ⟨0, 1, up, by and_intros <;> decide +kernel⟩

theorem witness_CanBusCommandsComplete_4 : ∃ (c : Fin 4) (s : State), canState s c.val = 2 ∧ recovered s c.val = true ∧ domOn s 7 = true :=
  ⟨0, (up |> (fun s => fset s (R.CAN_STATUS (0 : Fin 4).val) F.CAN_STATUS_STATE 2) |> (fun s => { s with tb := 10 ^ 15 }) |> (fun s => setCan 0 { canOf s 0 with recover := some 0 } s)), by and_intros <;> decide +kernel⟩

theorem witness_CanBusCommandsComplete_5 : ∃ (who : Fin 36) (c : Fin 4) (s : State), rapMay s who.val .other 7 = true ∧ canState s c.val = 2 ∧ (canOf s c.val).recover = none :=
  ⟨0, 0, (up |> (fun s => fset s (R.CAN_STATUS (0 : Fin 4).val) F.CAN_STATUS_STATE 2) |> (fun s => setCan (0 : Fin 4).val ({ canOf s (0 : Fin 4).val with recover := none }) s)), by and_intros <;> decide +kernel⟩

theorem witness_CanBusCommandsComplete_6 : ∃ (c : Fin 4) (s : State), recovered s c.val = false :=
  ⟨0, up, by decide +kernel⟩

theorem witness_CanBusCommandsComplete_7 : ∃ (who : Fin 36) (s : State), rapMay s who.val .can 7 = true :=
  ⟨0, (up |> id), by decide +kernel⟩

theorem witness_CanBusCommandsComplete_8 : ∃ (c : Fin 4) (s : State), domOn s 7 = true ∧ (canOf s c.val).cur = none ∧ canMode s c.val ≠ fget s (R.CAN_CTRL c.val) F.CAN_CTRL_MODE :=
  ⟨0, (up |> (fun s => setCan (0 : Fin 4).val ({ canOf s (0 : Fin 4).val with cur := none }) s) |> (fun s => fset s (R.CAN_STATUS 0) F.CAN_STATUS_MODE_ACT 2)), by and_intros <;> decide +kernel⟩

theorem witness_CanBusCommandsComplete_9 : ∃ (who : Fin 36) (c : Fin 4) (k : Fin 128) (s : State), rapMay s who.val .can 7 = true ∧ fbit s (R.CAN_SLOT_CTRL c.val k.val) F.CAN_SLOT_CTRL_OWNER = true ∧ slotState s c.val k.val ≠ 2 :=
  ⟨0, 0, 0, (up |> (fun s => fsetb s (R.CAN_SLOT_CTRL (0 : Fin 4).val (0 : Fin 128).val) F.CAN_SLOT_CTRL_OWNER true)), by and_intros <;> decide +kernel⟩

theorem witness_CanBusCommandsComplete_10 : ∃ (who : Fin 36) (c : Fin 4) (k : Fin 128) (s : State), rapMay s who.val .can 7 = true ∧ fbit s (R.CAN_SLOT_CTRL c.val k.val) F.CAN_SLOT_CTRL_OWNER = false :=
  ⟨0, 0, 0, (up |> (fun s => fsetb s (R.CAN_SLOT_CTRL (0 : Fin 4).val (0 : Fin 128).val) F.CAN_SLOT_CTRL_OWNER false) |> canSlotW 1), by and_intros <;> decide +kernel⟩

theorem witness_CanBusCommandsComplete_11 : ∃ (c : Fin 4) (k : Fin 128) (s : State), domOn s 7 = true ∧ domOn s 1 = true ∧ fbit s (R.CAN_SLOT_CTRL c.val k.val) F.CAN_SLOT_CTRL_OWNER = false ∧ slotState s c.val k.val = 2 :=
  ⟨0, 0, (up |> (fun s => fsetb s (R.CAN_SLOT_CTRL (0 : Fin 4).val (0 : Fin 128).val) F.CAN_SLOT_CTRL_OWNER false) |> canSlotW 2), by and_intros <;> decide +kernel⟩

theorem witness_CanBusCommandsComplete_12 : ∃ (c : Fin 4) (k : Fin 128) (s : State), domOn s 7 = true ∧ domOn s 1 = true ∧ fbit s (R.CAN_SLOT_CTRL c.val k.val) F.CAN_SLOT_CTRL_OWNER = false ∧ slotState s c.val k.val = 1 :=
  ⟨0, 0, (canSlotW 1 (fset (fset up (R.CAN_STATUS 0) F.CAN_STATUS_MODE_ACT 0) (R.CAN_STATUS 0) F.CAN_STATUS_STATE 0)), by and_intros <;> decide +kernel⟩

theorem witness_CanBusCommandsComplete_13 : ∃ (c : Fin 4) (q : Nat) (s : State) (k : Nat) (a : SlotAct), domOn s 7 = true ∧ canMode s c.val = 0 ∧ canState s c.val < 2 ∧ (canOf s c.val).cur = none ∧ quantumPast s c.val q = false ∧ (slotsDue s c.val).filter (fun x => slotLate x.2 s.tb) = [] ∧ slotWinner ((slotsDue s c.val).filter (fun x => !slotLate x.2 s.tb)) = some (k, a) :=
  ⟨0, 0, (canSlotW 1 (fset (fset up (R.CAN_STATUS 0) F.CAN_STATUS_MODE_ACT 0) (R.CAN_STATUS 0) F.CAN_STATUS_STATE 0)), 0, default, by and_intros <;> decide +kernel⟩

theorem witness_CanBusCommandsComplete_14 : ∃ (c : Fin 4) (s : State) (k : Nat) (t : Nat) (a : SlotAct), (canOf s c.val).cur = some (k, t) ∧ slotAct s c.val k = some a :=
  ⟨0, (up |> (fun s => setCan (0 : Fin 4).val ({ canOf s (0 : Fin 4).val with cur := some ((0), (0)) }) s) |> (fun s => { s with tb := 10 ^ 6 }) |> (fun s => setCan 0 { canOf s 0 with act := [(0, { (default : SlotAct) with late := 1 })] } (canSlotW 1 s))), 0, 0, ({ (default : SlotAct) with late := 1 }), by and_intros <;> decide +kernel⟩

theorem witness_CanBusCommandsComplete_15 : ∃ (c : Fin 4) (k : Fin 128) (s : State) (a : SlotAct), slotAct s c.val k.val = some a ∧ domOn s 7 = true ∧ slotState s c.val k.val = 1 ∧ slotLate a s.tb = true :=
  ⟨0, 0, (up |> (fun s => { s with tb := 10 ^ 6 }) |> (fun s => { setCan 0 { canOf s 0 with act := [(0, { (default : SlotAct) with late := 1 })] } (canSlotW 1 s) with tb := 10 ^ 6 })), ({ (default : SlotAct) with late := 1 }), by and_intros <;> decide +kernel⟩

theorem witness_CanBusCommandsComplete_16 : ∃ (c : Fin 4) (k : Fin 128) (s : State) (a : SlotAct), slotAct s c.val k.val = some a ∧ domOn s 7 = true ∧ canState s c.val = 2 ∧ slotState s c.val k.val = 1 ∧ a.single = true ∧ a.txTb ≤ s.tb :=
  ⟨0, 0, (up |> (fun s => fset s (R.CAN_STATUS (0 : Fin 4).val) F.CAN_STATUS_STATE 2) |> (fun s => { s with tb := 10 ^ 15 }) |> (fun s => setCan 0 { canOf s 0 with act := [(0, { (default : SlotAct) with single := true })] } (canSlotW 1 s))), ({ (default : SlotAct) with single := true }), by and_intros <;> decide +kernel⟩

/-! IsoCommandsComplete -/

theorem witness_IsoCommandsComplete_0 : ∃ (c : Fin 4) (s : State), isoOn s c.val = true ∧ (canOf s c.val).claim = 0 :=
  ⟨0, (up |> (fun s => setCan (0 : Fin 4).val ({ canOf s (0 : Fin 4).val with claim := 0 }) s) |> (fun s => setCan 0 { canOf s 0 with claim := 0 } (isoW s))), by and_intros <;> decide +kernel⟩

theorem witness_IsoCommandsComplete_1 : ∃ (c : Fin 4) (s : State), (canOf s c.val).claim = 1 ∧ (canOf s c.val).claimAt + msTicks 250 ≤ s.tb :=
  ⟨0, (up |> (fun s => setCan (0 : Fin 4).val ({ canOf s (0 : Fin 4).val with claim := 1 }) s) |> (fun s => { s with tb := 10 ^ 15 })), by and_intros <;> decide +kernel⟩

theorem witness_IsoCommandsComplete_2 : ∃ (c : Fin 4) (a : Fin 256) (s : State), canOn (canTake c.val 0 s) c.val = true ∧ (canOf (canTake c.val 0 s) c.val).used = [] ∧ (canOf (canTake c.val 0 s) c.val).claim = 0 ∧ a.val ≤ 253 :=
  ⟨0, 0, up, by and_intros <;> decide +kernel⟩

theorem witness_IsoCommandsComplete_3 : ∃ (c : Fin 4) (s : State), isoOn (canTake c.val 0 s) c.val = true ∧ (canOf (canTake c.val 0 s) c.val).claim = 2 :=
  ⟨0, (up |> (fun s => setCan 0 { canOf s 0 with claim := 2 } (isoW s))), by and_intros <;> decide +kernel⟩

theorem witness_IsoCommandsComplete_4 : ∃ (c : Fin 4) (s : State), isoOn (canTake c.val 0 s) c.val = true ∧ (canOf (canTake c.val 0 s) c.val).claim = 3 :=
  ⟨0, (up |> (fun s => setCan 0 { canOf s 0 with claim := 3 } (isoW s))), by and_intros <;> decide +kernel⟩

theorem witness_IsoCommandsComplete_5 : ∃ (c : Fin 4) (s : State), isoOn (canTake c.val 0 s) c.val = true ∧ (canOf (canTake c.val 0 s) c.val).claim = 2 :=
  ⟨0, (up |> (fun s => setCan 0 { canOf s 0 with claim := 2 } (isoW s))), by and_intros <;> decide +kernel⟩

theorem witness_IsoCommandsComplete_8 : ∃ (c : Fin 4) (n : Nat) (s : State), canOn (canTake c.val 0 s) c.val = true ∧ (canOf (canTake c.val 0 s) c.val).tp = [] ∧ n ≤ 117440505 :=
  ⟨0, 0, up, by and_intros <;> decide +kernel⟩

theorem witness_IsoCommandsComplete_9 : ∃ (c : Fin 4) (p : Fin 256) (s : State), canOn (canTake c.val 0 s) c.val = true ∧ 16 ≤ ((canOf (canTake c.val 0 s) c.val).tp.filter (fun t => !tpIs p.val false false t)).length :=
  ⟨0, 0, (up |> (fun s => setCan 0 { canOf s 0 with tp := (List.range 16).map (fun k => { (default : TpSess) with peer := k + 1 }) } (isoW s))), by and_intros <;> decide +kernel⟩

theorem witness_IsoCommandsComplete_10 : ∃ (c : Fin 4) (s : State), canOn (canTake c.val 0 s) c.val = true :=
  ⟨0, up, by decide +kernel⟩

/-! LinkCommandsComplete -/

theorem witness_LinkCommandsComplete_0 : ∃ (n : Fin 5) (s : State), linkUp s n.val = true ∧ domOn s 6 = true :=
  ⟨0, (up |> (fun s => fset s (R.TLK_LINK_STAT (0 : Fin 5).val) F.TLK_LINK_STAT_STATE 2)), by and_intros <;> decide +kernel⟩

theorem witness_LinkCommandsComplete_1 : ∃ (n : Fin 5) (f : LFrame) (s : State), linkUp s n.val = true ∧ domOn s 6 = true ∧ f.cls ≤ 5 ∧ f.len ≤ 492 ∧ f.lseq ≠ smGet zero (tlOf s n.val).rxExp f.cls :=
  ⟨0, ({ (default : LFrame) with lseq := 9 }), (up |> (fun s => fset s (R.TLK_LINK_STAT (0 : Fin 5).val) F.TLK_LINK_STAT_STATE 2)), by and_intros <;> decide +kernel⟩

theorem witness_LinkCommandsComplete_2 : ∃ (n : Fin 5) (f : LFrame) (s : State), linkUp s n.val = true ∧ domOn s 6 = true ∧ f.cls ≤ 5 ∧ f.len ≤ 492 ∧ f.lseq = smGet zero (tlOf s n.val).rxExp f.cls ∧ f.dst = midOf s :=
  ⟨0, default, (up |> (fun s => fset s (R.TLK_LINK_STAT (0 : Fin 5).val) F.TLK_LINK_STAT_STATE 2)), by and_intros <;> decide +kernel⟩

theorem witness_LinkCommandsComplete_3 : ∃ (n : Fin 5) (s : State), linkUp s n.val = true :=
  ⟨0, (up |> (fun s => fset s (R.TLK_LINK_STAT (0 : Fin 5).val) F.TLK_LINK_STAT_STATE 2)), by decide +kernel⟩

theorem witness_LinkCommandsComplete_4 : ∃ (n : Fin 5) (s : State), linkUp s n.val = true :=
  ⟨0, (up |> (fun s => fset s (R.TLK_LINK_STAT (0 : Fin 5).val) F.TLK_LINK_STAT_STATE 2)), by decide +kernel⟩

theorem witness_LinkCommandsComplete_5 : ∃ (n : Fin 5) (c : Fin 6) (s : State) (u : LFrame × Nat), (tlOf s n.val).unacked.find? (fun u => u.1.cls == c.val) = some u ∧ linkUp s n.val = true ∧ u.2 + frameTicks u.1 + usTicks 10 ≤ s.tb :=
  ⟨0, 0, (up |> (fun s => fset s (R.TLK_LINK_STAT (0 : Fin 5).val) F.TLK_LINK_STAT_STATE 2) |> (fun s => { s with tb := 10 ^ 15 }) |> (fun s => setTl 0 { tlOf s 0 with unacked := [({ (default : LFrame) with cls := 0 }, 0)] } s)), (({ (default : LFrame) with cls := 0 }, 0)), by and_intros <;> decide +kernel⟩

theorem witness_LinkCommandsComplete_6 : ∃ (n : Fin 5) (s : State), linkState s n.val ≠ 0 :=
  ⟨0, (up |> (fun s => fset s (R.TLK_LINK_STAT 0) F.TLK_LINK_STAT_STATE 1)), by decide +kernel⟩

theorem witness_LinkCommandsComplete_7 : ∃ (n : Fin 5) (s : State), domOn s 6 = true ∧ linkState s n.val = 0 ∧ (tlOf s n.val).since + msTicks 1 ≤ s.tb :=
  ⟨0, (up |> (fun s => fset s (R.TLK_LINK_STAT (0 : Fin 5).val) F.TLK_LINK_STAT_STATE 0) |> (fun s => { s with tb := 10 ^ 15 })), by and_intros <;> decide +kernel⟩

theorem witness_LinkCommandsComplete_8 : ∃ (n : Fin 5) (s : State), domOn s 6 = true ∧ linkState s n.val = 1 ∧ (tlOf s n.val).since + msTicks 1 ≤ s.tb :=
  ⟨0, (up |> (fun s => fset s (R.TLK_LINK_STAT (0 : Fin 5).val) F.TLK_LINK_STAT_STATE 1) |> (fun s => { s with tb := 10 ^ 15 })), by and_intros <;> decide +kernel⟩

theorem witness_LinkCommandsComplete_9 : ∃ (n : Fin 5) (s : State), linkUp s n.val = true ∧ fbit s (R.TLK_LINK_STAT n.val) F.TLK_LINK_STAT_PARENT = true ∧ (tlOf s n.val).syncAt = none :=
  ⟨0, (up |> (fun s => fset s (R.TLK_LINK_STAT (0 : Fin 5).val) F.TLK_LINK_STAT_STATE 2) |> (fun s => fsetb s (R.TLK_LINK_STAT (0 : Fin 5).val) F.TLK_LINK_STAT_PARENT true) |> (fun s => setTl (0 : Fin 5).val ({ tlOf s (0 : Fin 5).val with syncAt := none }) s)), by and_intros <;> decide +kernel⟩

theorem witness_LinkCommandsComplete_10 : ∃ (n : Fin 5) (s : State), linkUp s n.val = true :=
  ⟨0, (up |> (fun s => fset s (R.TLK_LINK_STAT (0 : Fin 5).val) F.TLK_LINK_STAT_STATE 2)), by decide +kernel⟩

theorem witness_LinkCommandsComplete_11 : ∃ (n : Fin 5) (t1 : Nat) (s : State), (tlOf s n.val).t1 = some t1 ∧ (tlOf s n.val).offs = [] :=
  ⟨0, 0, (up |> (fun s => setTl (0 : Fin 5).val ({ tlOf s (0 : Fin 5).val with t1 := some (0) }) s) |> (fun s => setTl (0 : Fin 5).val ({ tlOf s (0 : Fin 5).val with offs := [] }) s)), by and_intros <;> decide +kernel⟩

/-! TeamCommandsComplete -/

theorem witness_TeamCommandsComplete_0 : ∃ (s : State) (m : Nat), domOn s 6 = true ∧ s.pwr.mid = some m ∧ s.team.helloTx = none :=
  ⟨(up |> (fun s => { s with pwr := { s.pwr with mid := some (0) } }) |> (fun s => { s with team := { s.team with helloTx := none } })), 0, by and_intros <;> decide +kernel⟩

theorem witness_TeamCommandsComplete_1 : ∃ (n : Fin 5) (h : Hello) (s : State) (m : Nat), domOn s 6 = true ∧ s.pwr.mid = some m ∧ heardOf s h.mid = none ∧ h.mid ≠ midOf s ∧ (partCheck (wiringCheck h (hear h (helloCheck h (forEach ((upLinks s).filter (fun p => p.1 != n.val)) (fun p t => send t MsgKind.HELLO p.1 (helloArgs h)) s))))).team.formed = false :=
  ⟨0, ({ (default : Hello) with mid := 2 }), (up |> (fun s => { s with pwr := { s.pwr with mid := some (0) } })), 0, by and_intros <;> decide +kernel⟩

theorem witness_TeamCommandsComplete_2 : ∃ (s : State) (p : PlanPos), s.team.formed = false ∧ mayJoin s = true ∧ (planMids s).filter (fun m => !(present s).contains m) = [] ∧ planPos s (posOf s) = some p ∧ p.paired = true ∧ teamState s ≠ 4 ∧ s.team.beat = none :=
  ⟨(up |> (fun s => { s with team := { s.team with beat := none } }) |> (fun s => { pairW s with team := { s.team with heard := [⟨{ (default : Hello) with mid := 1 }, 0⟩] } })), ({ (default : PlanPos) with paired := true }), by and_intros <;> decide +kernel⟩

theorem witness_TeamCommandsComplete_3 : ∃ (s : State), isLeader s = true ∧ domOn s 6 = true ∧ s.team.beatTx = none :=
  ⟨(up |> (fun s => { s with team := { s.team with beatTx := none } })), by and_intros <;> decide +kernel⟩

theorem witness_TeamCommandsComplete_4 : ∃ (m : Fin 64) (s : State) (i : Nat), domOn s 6 = true ∧ m.val ≠ midOf s ∧ s.pwr.mid = some i ∧ teamState s ≠ 4 ∧ s.team.formed = false :=
  ⟨3, (up |> (fun s => { s with pwr := { s.pwr with mid := some (0) } })), 0, by and_intros <;> decide +kernel⟩

theorem witness_TeamCommandsComplete_5 : ∃ (s : State) (t : Nat), s.team.beatAt = some t ∧ t + msTicks 5 ≤ s.tb ∧ teamState s = 1 ∧ ((reachFrom (neighboursOf s s.team.members) (midOf s)).map (·.mid)).filter (fun m => leaderOf s != some m) = [] :=
  ⟨(up |> (fun s => { s with team := { s.team with beatAt := some (0) } }) |> (fun s => fset s R.TLK_STATUS F.TLK_STATUS_STATE 1) |> (fun s => { s with tb := 10 ^ 15 })), 0, by and_intros <;> decide +kernel⟩

theorem witness_TeamCommandsComplete_6 : ∃ (s : State), isLeader s = false :=
  ⟨(up |> (fun s => fset s R.TLK_STATUS F.TLK_STATUS_LEADER 5)), by decide +kernel⟩

theorem witness_TeamCommandsComplete_7 : ∃ (s : State), isLeader s = false ∧ domOn s 6 = true :=
  ⟨(up |> (fun s => fset s R.TLK_STATUS F.TLK_STATUS_LEADER 5)), by and_intros <;> decide +kernel⟩

theorem witness_TeamCommandsComplete_8 : ∃ (t : RouteTab) (s : State), s.team.routeNext = some t ∧ t.b ≤ s.tb :=
  ⟨default, (up |> (fun s => { s with team := { s.team with routeNext := some (default) } }) |> (fun s => { s with tb := 10 ^ 15 })), by and_intros <;> decide +kernel⟩

theorem witness_TeamCommandsComplete_9 : ∃ (s : State) (l : Nat) (t : Nat) (ms : List Nat), fbit s R.TLK_CLK F.TLK_CLK_TB_SLEW = true ∧ s.team.slewLeft = 0 ∧ s.team.beat = some (l, t, ms) :=
  ⟨(up |> (fun s => fsetb s R.TLK_CLK F.TLK_CLK_TB_SLEW true) |> (fun s => { s with team := { s.team with slewLeft := 0 } }) |> (fun s => { s with team := { s.team with beat := some ((0), (0), ([])) } })), 0, 0, [], by and_intros <;> decide +kernel⟩

/-! PairCommandsComplete -/

theorem witness_PairCommandsComplete_0 : ∃ (s : State), domOn s 6 = true ∧ pairState s = 2 :=
  ⟨(up |> (fun s => fset s R.TLK_PAIR_STAT F.TLK_PAIR_STAT_STATE 2)), by and_intros <;> decide +kernel⟩

theorem witness_PairCommandsComplete_1 : ∃ (s : State), domOn s 6 = true ∧ pairState s = 2 ∧ fltHeld s Ev.SHADOW_BAD [] = false :=
  ⟨(up |> (fun s => fset s R.TLK_PAIR_STAT F.TLK_PAIR_STAT_STATE 2)), by and_intros <;> decide +kernel⟩

theorem witness_PairCommandsComplete_2 : ∃ (s : State), pairPlanned s = true ∧ domOn s 6 = true ∧ s.team.hbTx = none :=
  ⟨(up |> (fun s => { s with team := { s.team with hbTx := none } }) |> pairW), by and_intros <;> decide +kernel⟩

theorem witness_PairCommandsComplete_3 : ∃ (s : State), pairPlanned s = true ∧ domOn s 6 = true ∧ fbit s R.TLK_PAIR_STAT F.TLK_PAIR_STAT_PARTNER_HB = false ∧ pairState s = 0 :=
  ⟨(up |> (fun s => fsetb s R.TLK_PAIR_STAT F.TLK_PAIR_STAT_PARTNER_HB false) |> (fun s => fset s R.TLK_PAIR_STAT F.TLK_PAIR_STAT_STATE 0) |> pairW), by and_intros <;> decide +kernel⟩

theorem witness_PairCommandsComplete_4 : ∃ (s : State) (t : Nat), s.team.hbAt = some t ∧ fbit s R.TLK_PAIR_STAT F.TLK_PAIR_STAT_PARTNER_HB = true ∧ t + 1300 ≤ s.tb :=
  ⟨(up |> (fun s => { s with team := { s.team with hbAt := some (0) } }) |> (fun s => fsetb s R.TLK_PAIR_STAT F.TLK_PAIR_STAT_PARTNER_HB true) |> (fun s => { s with tb := 10 ^ 15 })), 0, by and_intros <;> decide +kernel⟩

theorem witness_PairCommandsComplete_5 : ∃ (s : State), pairState s = 4 :=
  ⟨(up |> (fun s => fset s R.TLK_PAIR_STAT F.TLK_PAIR_STAT_STATE 4)), by decide +kernel⟩

theorem witness_PairCommandsComplete_6 : ∃ (m : Fin 64) (s : State), m.val ≠ midOf s ∧ domOn s 6 = true ∧ leaderOf s ≠ some (partnerOf m.val) ∧ isLeader s = false ∧ m.val ≠ partnerOf (midOf s) :=
  ⟨6, (up |> (fun s => fset s R.TLK_STATUS F.TLK_STATUS_LEADER 5)), by and_intros <;> decide +kernel⟩

theorem witness_PairCommandsComplete_7 : ∃ (m : Fin 64) (s : State), m.val ≠ midOf s ∧ domOn s 6 = true ∧ leaderOf s ≠ some (partnerOf m.val) ∧ isLeader s = false ∧ m.val = partnerOf (midOf s) ∧ pairState s = 1 :=
  ⟨1, (up |> (fun s => fset s R.TLK_STATUS F.TLK_STATUS_LEADER 5) |> (fun s => fset s R.TLK_PAIR_STAT F.TLK_PAIR_STAT_STATE 1)), by and_intros <;> decide +kernel⟩

theorem witness_PairCommandsComplete_8 : ∃ (p : Fin 32) (s : State), p.val ≠ posOf s ∧ s.team.members.filter (fun m => m / 2 == p.val) ≠ [] ∧ isLeader (setMembers (s.team.members.filter (fun m => m / 2 != p.val)) s) = false :=
  ⟨3, (up |> (fun s => fset { s with team := { s.team with members := [0, 6] } } R.TLK_STATUS F.TLK_STATUS_LEADER 6)), by and_intros <;> decide +kernel⟩

theorem witness_PairCommandsComplete_9 : ∃ (s : State), pairState s = 1 ∧ fbit s R.TLK_PAIR_STAT F.TLK_PAIR_STAT_PARTNER_HB = false :=
  ⟨(up |> (fun s => fset s R.TLK_PAIR_STAT F.TLK_PAIR_STAT_STATE 1) |> (fun s => fsetb s R.TLK_PAIR_STAT F.TLK_PAIR_STAT_PARTNER_HB false)), by and_intros <;> decide +kernel⟩

theorem witness_PairCommandsComplete_10 : ∃ (s : State), fbit s R.TLK_PAIR_STAT F.TLK_PAIR_STAT_PAIR_UNRESOLVED = true :=
  ⟨(up |> (fun s => fsetb s R.TLK_PAIR_STAT F.TLK_PAIR_STAT_PAIR_UNRESOLVED true)), by decide +kernel⟩

theorem witness_PairCommandsComplete_11 : ∃ (s : State) (t : Nat), s.team.lostAt = some t ∧ pairState s = 1 ∧ t + msTicks 100 ≤ s.tb ∧ fbit s R.TLK_PAIR_STAT F.TLK_PAIR_STAT_PAIR_UNRESOLVED = false :=
  ⟨(up |> (fun s => { s with team := { s.team with lostAt := some (0) } }) |> (fun s => fset s R.TLK_PAIR_STAT F.TLK_PAIR_STAT_STATE 1) |> (fun s => fsetb s R.TLK_PAIR_STAT F.TLK_PAIR_STAT_PAIR_UNRESOLVED false) |> (fun s => { s with tb := 10 ^ 15 })), 0, by and_intros <;> decide +kernel⟩

theorem witness_PairCommandsComplete_12 : ∃ (who : Fin 36) (s : State), rapMay s who.val .handover 6 = true ∧ pairState s = 1 ∧ s.team.partnerSh = true ∧ fbit s R.TLK_PAIR_STAT F.TLK_PAIR_STAT_PARTNER_HB = true :=
  ⟨1, (up |> (fun s => fset s R.TLK_PAIR_STAT F.TLK_PAIR_STAT_STATE 1) |> (fun s => { s with team := { s.team with partnerSh := true } }) |> (fun s => fsetb s R.TLK_PAIR_STAT F.TLK_PAIR_STAT_PARTNER_HB true)), by and_intros <;> decide +kernel⟩

theorem witness_PairCommandsComplete_13 : ∃ (s : State) (H : Nat), s.team.handover = some H ∧ H ≤ s.tb ∧ pairState s = 2 :=
  ⟨(up |> (fun s => { s with team := { s.team with handover := some (0) } }) |> (fun s => fset s R.TLK_PAIR_STAT F.TLK_PAIR_STAT_STATE 2) |> (fun s => { s with tb := 10 ^ 15 })), 0, by and_intros <;> decide +kernel⟩

theorem witness_PairCommandsComplete_14 : ∃ (s : State) (H : Nat), s.team.handover = some H ∧ H ≤ s.tb ∧ pairState s = 1 :=
  ⟨(up |> (fun s => { s with team := { s.team with handover := some (0) } }) |> (fun s => fset s R.TLK_PAIR_STAT F.TLK_PAIR_STAT_STATE 1) |> (fun s => { s with tb := 10 ^ 15 }) |> id), 0, by and_intros <;> decide +kernel⟩

theorem witness_PairCommandsComplete_15 : ∃ (o : Fin 96) (q : Nat) (s : State) (x : Strip), s.cov.toAck.find? (fun x => x.out == o.val + 1 && x.seq == q) = some x :=
  ⟨0, 0, (up |> (fun s => { s with cov := { s.cov with toAck := [{ (default : Strip) with out := 1 }] } })), ({ (default : Strip) with out := 1 }), by decide +kernel⟩

theorem witness_PairCommandsComplete_16 : ∃ (s : State), pairState s = 1 :=
  ⟨(up |> (fun s => fset s R.TLK_PAIR_STAT F.TLK_PAIR_STAT_STATE 1)), by decide +kernel⟩

/-! IslandCommandsComplete -/

theorem witness_IslandCommandsComplete_0 : ∃ (s : State), s.pwr.powered = true ∧ s.pwr.asleep = false :=
  ⟨(up |> (fun s => { s with saf := { s.saf with ms := 1 } })), by and_intros <;> decide +kernel⟩

theorem witness_IslandCommandsComplete_1 : ∃ (s : State), s.pwr.powered = true ∧ s.pwr.asleep = false :=
  ⟨up, by and_intros <;> decide +kernel⟩

theorem witness_IslandCommandsComplete_2 : ∃ (s : State), s.pwr.powered = true ∧ s.pwr.asleep = false :=
  ⟨up, by and_intros <;> decide +kernel⟩

theorem witness_IslandCommandsComplete_3 : ∃ (c : Fin 9) (s : State), s.pwr.powered = true ∧ s.pwr.asleep = false ∧ c.val ≠ 8 :=
  ⟨0, up, by and_intros <;> decide +kernel⟩

theorem witness_IslandCommandsComplete_4 : ∃ (s : State), s.pwr.powered = true ∧ s.pwr.asleep = false ∧ pulseEnd false s = true :=
  ⟨(up |> (fun s => { s with saf := { s.saf with ms := 1001, start := 0 } })), by and_intros <;> decide +kernel⟩

theorem witness_IslandCommandsComplete_5 : ∃ (x : Fin 4) (t : Nat) (s : State), (siOf s x.val).firstAt = some t ∧ t + discMs s < s.saf.ms :=
  ⟨0, 0, (up |> (fun s => { s with saf := { s.saf with ms := 3000, ins := [(0, { siInit 0 with firstAt := some 0 })] } })), by and_intros <;> decide +kernel⟩

theorem witness_IslandCommandsComplete_6 : ∃ (x : Fin 4) (s : State), fbit s (R.SAF_SO x.val) F.SAF_SO_CLOSED = true ∧ (soOf s x.val).dueH ≤ s.saf.ms :=
  ⟨0, (up |> (fun s => fsetb s (R.SAF_SO (0 : Fin 4).val) F.SAF_SO_CLOSED true)), by and_intros <;> decide +kernel⟩

theorem witness_IslandCommandsComplete_7 : ∃ (x : Fin 4) (s : State), fbit s (R.SAF_SO x.val) F.SAF_SO_CLOSED = true ∧ (soOf s x.val).dueH ≤ s.saf.ms :=
  ⟨0, (up |> (fun s => fsetb s (R.SAF_SO (0 : Fin 4).val) F.SAF_SO_CLOSED true)), by and_intros <;> decide +kernel⟩

theorem witness_IslandCommandsComplete_8 : ∃ (x : Fin 4) (s : State), s.pwr.powered = true ∧ s.pwr.asleep = false ∧ fbit s (R.SAF_SO x.val) F.SAF_SO_CLOSED = false ∧ (soOf s x.val).shut = false ∧ soUsed s x.val = true ∧ fbit s (R.SAF_SO x.val) F.SAF_SO_OUT_FAULT = false ∧ (soOf s x.val).preAt = none :=
  ⟨0, (up |> (fun s => fsetb s (R.SAF_SO (0 : Fin 4).val) F.SAF_SO_CLOSED false) |> (fun s => setSo (0 : Fin 4).val ({ soOf s (0 : Fin 4).val with shut := false }) s) |> (fun s => fsetb s (R.SAF_SO (0 : Fin 4).val) F.SAF_SO_OUT_FAULT false) |> (fun s => setSo (0 : Fin 4).val ({ soOf s (0 : Fin 4).val with preAt := none }) s) |> mirW), by and_intros <;> decide +kernel⟩

theorem witness_IslandCommandsComplete_9 : ∃ (x : Fin 4) (s : State), s.pwr.powered = true ∧ s.pwr.asleep = false ∧ fbit s (R.SAF_SO x.val) F.SAF_SO_CLOSED = false ∧ (soOf s x.val).shut = false ∧ soUsed s x.val = true ∧ fbit s (R.SAF_SO x.val) F.SAF_SO_OUT_FAULT = false ∧ (soOf s x.val).preAt = none :=
  ⟨0, (up |> (fun s => fsetb s (R.SAF_SO (0 : Fin 4).val) F.SAF_SO_CLOSED false) |> (fun s => setSo (0 : Fin 4).val ({ soOf s (0 : Fin 4).val with shut := false }) s) |> (fun s => fsetb s (R.SAF_SO (0 : Fin 4).val) F.SAF_SO_OUT_FAULT false) |> (fun s => setSo (0 : Fin 4).val ({ soOf s (0 : Fin 4).val with preAt := none }) s) |> mirW), by and_intros <;> decide +kernel⟩

theorem witness_IslandCommandsComplete_10 : ∃ (x : Fin 4) (s : State), fbit s (R.SAF_SO x.val) F.SAF_SO_CLOSED = false ∧ rbBad s x.val = true :=
  ⟨0, (up |> (fun s => fsetb s (R.SAF_SO (0 : Fin 4).val) F.SAF_SO_CLOSED false) |> (fun s => setSo 0 { soOf s 0 with rbAt := some 0 } { s with saf := { s.saf with ms := 10 } })), by and_intros <;> decide +kernel⟩

theorem witness_IslandCommandsComplete_11 : ∃ (x : Fin 4) (s : State), fbit s (R.SAF_SO x.val) F.SAF_SO_CLOSED = true ∧ rbBad s x.val = true :=
  ⟨0, (up |> (fun s => fsetb s (R.SAF_SO (0 : Fin 4).val) F.SAF_SO_CLOSED true) |> (fun s => setSo 0 { soOf s 0 with rbAt := some 0 } { s with saf := { s.saf with ms := 10 } })), by and_intros <;> decide +kernel⟩

theorem witness_IslandCommandsComplete_12 : ∃ (s : State), s.saf.edge = true :=
  ⟨(up |> (fun s => { s with saf := { s.saf with edge := true } })), by decide +kernel⟩

theorem witness_IslandCommandsComplete_13 : ∃ (t : Nat) (s : State), s.saf.srstAt = some t ∧ s.saf.srst = true ∧ t + 5000 < s.saf.ms ∧ fbit s R.SAF_STATUS F.SAF_STATUS_SRST_STUCK = false :=
  ⟨0, (up |> (fun s => { s with saf := { s.saf with srstAt := some (0) } }) |> (fun s => { s with saf := { s.saf with srst := true } }) |> (fun s => fsetb s R.SAF_STATUS F.SAF_STATUS_SRST_STUCK false) |> (fun s => { s with saf := { s.saf with ms := 6000 } })), by and_intros <;> decide +kernel⟩

theorem witness_IslandCommandsComplete_14 : ∃ (x : Fin 4) (t : Nat) (s : State), (soOf s x.val).since = some t ∧ fbit s (R.SAF_SO x.val) F.SAF_SO_CLOSED = false ∧ soAuto s x.val = true ∧ (soOf s x.val).tested = true ∧ soHolds s x.val = true ∧ t + 500 ≤ s.saf.ms :=
  ⟨0, 0, (up |> (fun s => setSo (0 : Fin 4).val ({ soOf s (0 : Fin 4).val with since := some (0) }) s) |> (fun s => fsetb s (R.SAF_SO (0 : Fin 4).val) F.SAF_SO_CLOSED false) |> (fun s => setSo (0 : Fin 4).val ({ soOf s (0 : Fin 4).val with tested := true }) s) |> (fun s => fsetb (fsetb (fsetb { mirW s with saf := { (mirW s).saf with ms := 600 } } (R.SAF_SO 0) F.SAF_SO_AUTO true) R.SAF_STATUS F.SAF_STATUS_MIRROR_OK true) (R.SAF_IN 0) F.SAF_IN_RELEASED true)), by and_intros <;> decide +kernel⟩

theorem witness_IslandCommandsComplete_15 : ∃ (n : Fin 64) (d : ConnDef) (s : State), connDef s n.val = some d ∧ d.producer = true ∧ (connOf s n.val).seen = false ∧ d.ctrl = none ∧ s.pwr.powered = true ∧ s.pwr.asleep = false :=
  ⟨0, ({ connD with producer := true }), (up |> (fun s => setConn (0 : Fin 64).val ({ connOf s (0 : Fin 64).val with seen := false }) s) |> connW { connD with producer := true }), by and_intros <;> decide +kernel⟩

theorem witness_IslandCommandsComplete_16 : ∃ (src : Nat) (n : Fin 256) (v : Fin 256) (q : Fin 65536) (g : BitVec 8) (st : BitVec 8) (k : BitVec 32) (d : ConnDef) (s : State), connFor s none src n = some d ∧ s.pwr.powered = true ∧ s.pwr.asleep = false ∧ ((v.val ≠ 1 ∨ k.toNat ≠ safetyChk d.hid q.val g.toNat st.toNat)) :=
  ⟨1, 0, 0, 0, 0, 0, 0, connD, (up |> connW connD), by and_intros <;> decide +kernel⟩

theorem witness_IslandCommandsComplete_17 : ∃ (src : Nat) (n : Fin 256) (q : Fin 65536) (g : BitVec 8) (st : BitVec 8) (k : BitVec 32) (d : ConnDef) (s : State), connFor s none src n = some d ∧ s.pwr.powered = true ∧ s.pwr.asleep = false ∧ k.toNat = safetyChk d.hid q.val g.toNat st.toNat ∧ (connOf s d.idx.val).seen = true ∧ (q.val + 65536 - fget s (R.SAF_CONN_STAT d.idx.val) F.SAF_CONN_STAT_LAST) % 65536 ≠ 0 ∧ (q.val + 65536 - fget s (R.SAF_CONN_STAT d.idx.val) F.SAF_CONN_STAT_LAST) % 65536 ≤ d.win :=
  ⟨1, 0, 1, 0, 0, (BitVec.ofNat 32 (safetyChk 0 1 0 0)), connD, (up |> (fun s => setConn (connD).idx.val ({ connOf s (connD).idx.val with seen := true }) s) |> connW connD), by and_intros <;> (first | decide +kernel | exact (BitVec.toNat_ofNat _ _).trans (Nat.mod_eq_of_lt (BitVec.isLt _)))⟩

theorem witness_IslandCommandsComplete_18 : ∃ (c : Fin 4) (src : Nat) (n : Fin 256) (d : ConnDef) (s : State), connFor s (some c) src n = some d ∧ s.pwr.powered = true ∧ s.pwr.asleep = false :=
  ⟨0, 0, 0, ({ connD with ctrl := some 0 }), (up |> (fun s => { connW { connD with ctrl := some 0 } s with saf := { (connW { connD with ctrl := some 0 } s).saf with ms := 20 } })), by and_intros <;> decide +kernel⟩

theorem witness_IslandCommandsComplete_19 : ∃ (n : Fin 64) (d : ConnDef) (s : State), connDef s n.val = some d ∧ d.producer = false ∧ fget s (R.SAF_CONN_STAT n.val) F.SAF_CONN_STAT_STATE = 1 ∧ (connOf s n.val).at_ + d.wdt ≤ s.saf.ms :=
  ⟨0, connD, (up |> (fun s => fset s (R.SAF_CONN_STAT (0 : Fin 64).val) F.SAF_CONN_STAT_STATE 1) |> (fun s => { connW connD s with saf := { (connW connD s).saf with ms := 2000 } })), by and_intros <;> decide +kernel⟩

/-! SessionCommandsComplete -/

theorem witness_SessionCommandsComplete_0 : ∃ (c : Cred) (s : State), rapPath s = true ∧ s.pwm.halted = false ∧ sessOf s 0 = none ∧ credCheck s c = 0 :=
  ⟨credW, wOn, by and_intros <;> decide +kernel⟩

theorem witness_SessionCommandsComplete_1 : ∃ (c : Cred) (s : State), rapPath s = true ∧ s.pwm.halted = false ∧ sessOf s 0 = none ∧ credCheck s c ≠ 0 :=
  ⟨default, wOn, by and_intros <;> decide +kernel⟩

theorem witness_SessionCommandsComplete_2 : ∃ (k : Fin 4) (x : Sess) (s : State), sessOf s k.val = some x ∧ x.lastAt + 300 * secTicks ≤ s.tb :=
  ⟨0, default, (up |> (fun s => { s with tb := 10 ^ 15 })), by and_intros <;> decide +kernel⟩

theorem witness_SessionCommandsComplete_3 : ∃ (k : Fin 4) (x : Sess) (s : State), sessOf s k.val = some x ∧ x.opened + 86400 * secTicks ≤ s.tb :=
  ⟨0, default, (up |> (fun s => { s with tb := 10 ^ 15 })), by and_intros <;> decide +kernel⟩

theorem witness_SessionCommandsComplete_4 : ∃ (k : Fin 4) (x : Sess) (s : State), sessOf s k.val = some x :=
  ⟨0, default, up, by decide +kernel⟩

theorem witness_SessionCommandsComplete_5 : ∃ (k : Fin 4) (x : Sess) (s : State), sessOf s k.val = some x :=
  ⟨0, default, up, by decide +kernel⟩

theorem witness_SessionCommandsComplete_6 : ∃ (k : Fin 4) (x : Sess) (s : State), sessOf s k.val = some x :=
  ⟨0, default, up, by decide +kernel⟩

theorem witness_SessionCommandsComplete_7 : ∃ (c : Fin 4) (x : Cred) (s : State), domOn s 1 = true ∧ domOn s 7 = true ∧ s.pwm.halted = false ∧ credCheck (canTake c.val 1 s) { x with sigOk := true } = 0 ∧ (canPlace (canTake c.val 1 s) c.val).isSome = true :=
  ⟨0, credW, up, by and_intros <;> decide +kernel⟩

theorem witness_SessionCommandsComplete_8 : ∃ (c : Fin 4) (a : Fin 256) (ok : Bool) (x : Cred) (s : State), domOn s 1 = true ∧ domOn s 7 = true ∧ s.pwm.halted = false ∧ (canTake c.val 1 s).brd.shakes = [(c.val * 256 + a.val, x)] ∧ credCheck (canTake c.val 1 s) { x with sigOk := ok } ≠ 0 :=
  ⟨0, 0, false, default, (up |> (fun s => { s with brd := { s.brd with shakes := [(0, default)] } })), by and_intros <;> decide +kernel⟩

theorem witness_SessionCommandsComplete_9 : ∃ (who : Fin 36) (x : Sess) (s : State), sessOf s who.val = some x ∧ 4 ≤ who.val ∧ x.rekey = none ∧ x.fTx < 2 ^ 31 ∧ 2 ^ 31 ≤ x.fRx :=
  ⟨4, (⟨4, 2 ^ 31, 0, [], 0, 0, 0, 0, none, 0, none⟩), (up |> setSess 4 ⟨4, 2 ^ 31, 0, [], 0, 0, 0, 0, none, 0, none⟩), by and_intros <;> decide +kernel⟩

theorem witness_SessionCommandsComplete_10 : ∃ (who : Fin 36) (x : Sess) (t : Nat) (s : State), sessOf s who.val = some x ∧ x.rekey = some t ∧ t + 10 * secTicks ≤ s.tb :=
  ⟨4, (⟨4, 0, 0, [], 0, 0, 0, 0, some 0, 0, none⟩), 0, (up |> (fun s => { s with tb := 10 ^ 15 }) |> setSess 4 ⟨4, 0, 0, [], 0, 0, 0, 0, some 0, 0, none⟩), by and_intros <;> decide +kernel⟩

theorem witness_SessionCommandsComplete_11 : ∃ (s : State), domOn s 9 = true ∧ fbit s R.BRD_STATUS F.BRD_STATUS_TT_HWM_VALID = true ∧ s.brd.hwmAt + 60 * secTicks ≤ s.tb :=
  ⟨(up |> (fun s => fsetb s R.BRD_STATUS F.BRD_STATUS_TT_HWM_VALID true) |> (fun s => { s with tb := 10 ^ 15 })), by and_intros <;> decide +kernel⟩

/-! OwnershipCommandsComplete -/

theorem witness_OwnershipCommandsComplete_0 : ∃ (who : Fin 36) (p : OemPermit) (s : State), rapMay s who.val .brd 1 = true ∧ sessRole s who.val = some .oem ∧ s.brd.object = some (.claim p) ∧ fbit s R.BRD_STATUS F.BRD_STATUS_OWNER = false ∧ permitCheck s true p = 0 ∧ (teamSerials s).all p.serials.contains = true ∧ p.serials.all (teamSerials s).contains = true :=
  ⟨0, permitW, (up |> (fun s => { s with brd := { s.brd with object := some (.claim (permitW)) } }) |> (fun s => fsetb s R.BRD_STATUS F.BRD_STATUS_OWNER false) |> (fun s => { s with brd := { s.brd with object := some (.claim permitW) } })), by and_intros <;> decide +kernel⟩

theorem witness_OwnershipCommandsComplete_1 : ∃ (who : Fin 36) (b : Binding) (s : State), rapMay s who.val .brd 1 = true ∧ sessRole s who.val = some .owner ∧ s.brd.object = some (.binding b) ∧ b.livery ≤ 3 ∧ b.serials.length ≤ 64 ∧ b.sigOk = true ∧ livery s b.livery = none ∧ ownerElsewhere s b.livery b.root = false :=
  ⟨1, ({ (default : Binding) with sigOk := true }), (up |> (fun s => { s with brd := { s.brd with object := some (.binding ({ (default : Binding) with sigOk := true })) } }) |> (fun s => { s with brd := { s.brd with object := some (.binding { (default : Binding) with sigOk := true }) } })), by and_intros <;> decide +kernel⟩

theorem witness_OwnershipCommandsComplete_2 : ∃ (who : Fin 36) (n : Nat) (s : State), rapMay s who.val .brd 1 = true ∧ sessRole s who.val = some .owner ∧ s.brd.object = some (.select n) ∧ livState s n = 1 :=
  ⟨1, 0, (up |> (fun s => { s with brd := { s.brd with object := some (.select (0)) } }) |> livW), by and_intros <;> decide +kernel⟩

theorem witness_OwnershipCommandsComplete_3 : ∃ (who : Fin 36) (s : State), rapMay s who.val .brd 1 = true ∧ sessRole s who.val = some .vendor :=
  ⟨3, up, by and_intros <;> decide +kernel⟩

theorem witness_OwnershipCommandsComplete_4 : ∃ (who : Fin 36) (liv : Nat) (root : Nat) (new : Nat) (ok : Bool) (keep : Bool) (s : State), rapMay s who.val .brd 1 = true ∧ sessRole s who.val = some .owner ∧ s.brd.object = some (.transfer liv root ok keep new) ∧ jobRun s = false ∧ ownerSigned s liv root ok = 0 :=
  ⟨1, 0, 0, 0, true, false, (up |> (fun s => { s with brd := { s.brd with object := some (.transfer (0) (0) (true) (false) (0)) } }) |> livW), by and_intros <;> decide +kernel⟩

theorem witness_OwnershipCommandsComplete_5 : ∃ (b : Nat) (liv : Nat) (new : Nat) (keep : Bool) (s : State), s.brd.transfer = some (b, liv, keep, new) ∧ b ≤ s.tb ∧ liv < 4 :=
  ⟨0, 0, 0, false, (up |> (fun s => { s with brd := { s.brd with transfer := some ((0), (0), (false), (0)) } }) |> (fun s => { s with tb := 10 ^ 15 })), by and_intros <;> decide +kernel⟩

theorem witness_OwnershipCommandsComplete_6 : ∃ (who : Fin 36) (p : OemPermit) (s : State), rapMay s who.val .brd 1 = true ∧ sessRole s who.val = some .oem ∧ s.brd.object = some (.reclaim p) ∧ jobRun s = false ∧ permitCheck s false p = 0 :=
  ⟨0, permitW, (up |> (fun s => { s with brd := { s.brd with object := some (.reclaim (permitW)) } }) |> (fun s => { s with brd := { s.brd with object := some (.reclaim permitW) } })), by and_intros <;> decide +kernel⟩

theorem witness_OwnershipCommandsComplete_7 : ∃ (who : Fin 36) (ser : Nat) (chal : Nat) (toT : Int) (ch : List Cert) (l : List (Option Nat × Bool × Nat)) (s : State), rapMay s who.val .brd 1 = true ∧ sessRole s who.val = some .vendor ∧ s.brd.object = some (.unlock true ch ser chal toT l) ∧ chainHolds s s.img.otpRoot ch = true ∧ who.val < 4 ∧ jobRun s = false ∧ locked s = true ∧ ser = s.pwr.serial ∧ chal = s.brd.chal ∧ checkTime s ≤ toT ∧ toT ≤ checkTime s + 86400 * 6400000000 ∧ consented s l = true ∧ fget s R.BRD_STATUS F.BRD_STATUS_UNLOCKS < 16 :=
  ⟨3, 1, 0, 0, [certW], ([(none, true, 0)]), (up |> (fun s => { s with brd := { s.brd with object := some (.unlock true ([certW]) (1) (0) (0) ([(none, true, 0)])) } }) |> id), by and_intros <;> decide +kernel⟩

theorem witness_OwnershipCommandsComplete_8 : ∃ (who : Fin 36) (s : State), rapMay s who.val .brd 1 = true ∧ sessRole s who.val = some .debug ∧ fget s R.BRD_STATUS F.BRD_STATUS_LOCK = 1 :=
  ⟨2, (up |> (fun s => fset s R.BRD_STATUS F.BRD_STATUS_LOCK 1)), by and_intros <;> decide +kernel⟩

theorem witness_OwnershipCommandsComplete_9 : ∃ (t : Nat) (s : State), s.brd.unlockAt = some t ∧ t + 86400 * secTicks ≤ s.stb.optTicks ∧ fget s R.BRD_STATUS F.BRD_STATUS_LOCK = 1 :=
  ⟨0, (up |> (fun s => { s with brd := { s.brd with unlockAt := some (0) } }) |> (fun s => fset s R.BRD_STATUS F.BRD_STATUS_LOCK 1) |> (fun s => { s with stb := { s.stb with optTicks := 86400 * secTicks } })), by and_intros <;> decide +kernel⟩

theorem witness_OwnershipCommandsComplete_10 : ∃ (s : State), isLeader s = true ∧ s.brd.tskAt + 86400 * secTicks ≤ s.tb :=
  ⟨(up |> (fun s => { s with tb := 10 ^ 15 })), by and_intros <;> decide +kernel⟩

theorem witness_OwnershipCommandsComplete_11 : ∃ (who : Fin 36) (r : Role) (s : State), sessRole s who.val = some r ∧ rapPath s = true :=
  ⟨0, .oem, up, by and_intros <;> decide +kernel⟩

/-! LeaseCommandsComplete -/

theorem witness_LeaseCommandsComplete_0 : ∃ (who : Fin 36) (l : Lease) (m : Nat) (s : State), rapMay s who.val .brd 1 = true ∧ sessRole s who.val = some .owner ∧ s.brd.object = some (.lease l) ∧ ownerSigned s l.livery l.root l.sigOk = 0 ∧ leaseOk l = true ∧ checkTime s < l.toT ∧ l.devices = [] ∧ s.brd.leases = [] ∧ leasePlace s = some m :=
  ⟨1, leaseW, 0, (up |> (fun s => { s with brd := { s.brd with object := some (.lease (leaseW)) } }) |> (fun s => { s with brd := { s.brd with leases := [] } }) |> (fun s => { livW s with brd := { (livW s).brd with object := some (.lease leaseW) } })), by and_intros <;> decide +kernel⟩

theorem witness_LeaseCommandsComplete_1 : ∃ (who : Fin 36) (liv : Nat) (id : Nat) (root : Nat) (m : Nat) (ok : Bool) (s : State), rapMay s who.val .brd 1 = true ∧ sessRole s who.val = some .owner ∧ s.brd.object = some (.revoke liv id root ok) ∧ ownerSigned s liv root ok = 0 ∧ leaseFind s liv id = some m ∧ leaseState s m = 2 :=
  ⟨1, 0, 0, 0, 0, true, (up |> (fun s => { s with brd := { s.brd with object := some (.revoke (0) (0) (0) (true)) } }) |> (fun s => leaseIn (livW s))), by and_intros <;> decide +kernel⟩

theorem witness_LeaseCommandsComplete_2 : ∃ (who : Fin 36) (liv : Nat) (id : Nat) (m : Nat) (s : State), rapMay s who.val .brd 1 = true ∧ sessRole s who.val = some .owner ∧ s.brd.object = some (.close liv id) ∧ leaseFind s liv id = some m :=
  ⟨1, 0, 0, 0, (up |> (fun s => { s with brd := { s.brd with object := some (.close (0) (0)) } }) |> leaseIn), by and_intros <;> decide +kernel⟩

theorem witness_LeaseCommandsComplete_3 : ∃ (m : Fin 8) (l : LeaseSt) (s : State), leaseAt s m.val = some l ∧ leaseState s m.val = 2 ∧ l.lease.toT ≤ checkTime s :=
  ⟨0, ({ (default : LeaseSt) with lease := leaseW }), (up |> (fun s => { s with tb := 10 ^ 15 }) |> leaseIn), by and_intros <;> decide +kernel⟩

theorem witness_LeaseCommandsComplete_4 : ∃ (m : Fin 8) (s : State), s.brd.sess.any (fun x => x.2.lease == some m.val) = true :=
  ⟨0, (up |> wSess 5 8 (some 0)), by decide +kernel⟩

/-! FarrierCommandsComplete -/

theorem witness_FarrierCommandsComplete_0 : ∃ (lp : Bool) (s : State), s.tb % cycleTicks = 0 ∧ servesScope s (b2n lp) 0 = false ∧ farDue s (b2n lp) 0 secTicks = true ∧ sliceMay s (b2n lp) true = true :=
  ⟨false, (up |> sliceW 0), by and_intros <;> decide +kernel⟩

theorem witness_FarrierCommandsComplete_1 : ∃ (lp : Bool) (s : State) (x : Slice), sliceOf s (b2n lp) = some x ∧ x.from_ + cycleTicks ≤ s.tb ∧ s.pwm.halted = false :=
  ⟨false, (up |> (fun s => { s with tb := 10 ^ 15 }) |> (fun s => { s with far := { s.far with slices := [⟨0, 1, 0, 0⟩] } })), (⟨0, 1, 0, 0⟩), by and_intros <;> decide +kernel⟩

theorem witness_FarrierCommandsComplete_2 : ∃ (lp : Bool) (s : State) (x : Slice), sliceOf s (b2n lp) = some x ∧ x.from_ + cycleTicks ≤ s.tb ∧ s.pwm.halted = false ∧ x.fails = 0 :=
  ⟨false, (up |> (fun s => { s with tb := 10 ^ 15 }) |> (fun s => { s with far := { s.far with slices := [⟨0, 1, 0, 0⟩] } })), (⟨0, 1, 0, 0⟩), by and_intros <;> decide +kernel⟩

theorem witness_FarrierCommandsComplete_3 : ∃ (c : Fin 8) (t : Test2) (s : State), sliceMay s 2 false = true ∧ domOn s 2 = true ∧ 8 ≤ fget s (R.FAR_CAP 2) F.FAR_CAP_IN_SERVICE ∧ farDue s 2 c.val (10 * secTicks) = true ∧ t.ok = true :=
  ⟨0, ({ (default : Test2) with ok := true }), (up |> (fun s => fset (sliceW 2 s) (R.FAR_CAP 2) F.FAR_CAP_IN_SERVICE 8)), by and_intros <;> decide +kernel⟩

theorem witness_FarrierCommandsComplete_4 : ∃ (c : Fin 8) (t : Test2) (s : State), sliceMay s 2 false = true ∧ domOn s 2 = true ∧ 8 ≤ fget s (R.FAR_CAP 2) F.FAR_CAP_IN_SERVICE ∧ farDue s 2 c.val (10 * secTicks) = true ∧ t.ok = false ∧ t.ok2 = false :=
  ⟨0, ({ (default : Test2) with ok := false }), (up |> (fun s => fset (sliceW 2 s) (R.FAR_CAP 2) F.FAR_CAP_IN_SERVICE 8)), by and_intros <;> decide +kernel⟩

theorem witness_FarrierCommandsComplete_5 : ∃ (c : Fin 18) (t : Test2) (s : State), sliceMay s 7 true = true ∧ isG s = true ∧ domOn s 3 = true ∧ isRetired s 7 c.val = false ∧ c.val ∉ sparesOf s 7 ∧ farDue s 7 0 (10 * secTicks) = true ∧ t.ok = true :=
  ⟨0, ({ (default : Test2) with ok := true }), (up |> sliceW 7), by and_intros <;> decide +kernel⟩

theorem witness_FarrierCommandsComplete_6 : ∃ (b : Fin 12) (t : Test2) (s : State), sliceMay s 8 true = true ∧ isG s = true ∧ domOn s 4 = true ∧ b.val ∉ s.gns.outBanks ∧ farDue s 8 0 (60 * secTicks) = true ∧ t.ok = true :=
  ⟨0, ({ (default : Test2) with ok := true }), (up |> sliceW 8), by and_intros <;> decide +kernel⟩

theorem witness_FarrierCommandsComplete_7 : ∃ (m : Fin 48) (t : Test2) (s : State), sliceMay s 9 false = true ∧ servesScope s 9 m.val = false ∧ rowWindow s m.val = true ∧ farDue s 9 m.val (msTicks 1) = true ∧ t.ok = false ∧ t.ok2 = false :=
  ⟨0, ({ (default : Test2) with ok := false }), (up |> (fun s => { sliceW 9 s with tb := 39000, str := { s.str with written := true } })), by and_intros <;> (first | decide +kernel | (unfold rowWindow; rw [Bool.or_eq_true]; exact Or.inr (by decide +kernel)))⟩

theorem witness_FarrierCommandsComplete_8 : ∃ (p : Nat) (t : Test2) (s : State), sliceMay s 10 false = true ∧ domOn s 8 = true ∧ p < 524288 ∧ p ∉ s.far.pages ∧ farDue s 10 0 (usTicks 400) = true ∧ t.ok = false ∧ t.ok2 = false :=
  ⟨0, ({ (default : Test2) with ok := false }), (up |> sliceW 10), by and_intros <;> decide +kernel⟩

theorem witness_FarrierCommandsComplete_9 : ∃ (c : Fin 12) (v : BitVec 12) (s : State), domOn s 10 = true ∧ s.tb % 50000 = 3125 ∧ c.val ∉ s.far.adcFail ∧ servesScope s 12 c.val = false ∧ 2040 ≤ v.toNat ∧ v.toNat ≤ 2056 :=
  ⟨0, 2048, (up |> (fun s => { s with tb := 3125 })), by and_intros <;> decide +kernel⟩

theorem witness_FarrierCommandsComplete_10 : ∃ (c : Fin 12) (v : BitVec 12) (s : State), domOn s 10 = true ∧ s.tb % 50000 = 3125 ∧ c.val ∉ s.far.adcFail ∧ servesScope s 12 c.val = false ∧ v.toNat < 2040 ∧ smGet zero s.far.adcBad c.val = 0 :=
  ⟨0, 0, (up |> (fun s => { s with tb := 3125 })), by and_intros <;> decide +kernel⟩

theorem witness_FarrierCommandsComplete_11 : ∃ (n : Fin 16) (v : BitVec 16) (s : State), domOn s 10 = true ∧ fbit s R.FAR_STATUS F.FAR_STATUS_SLICES_RUN = true ∧ s.far.ainFail = true ∧ s.far.ainNext = n.val ∧ servesScope s 13 0 = false ∧ farDue s 13 0 (cycleTicks - s.tb % cycleTicks) = true ∧ smGet zero s.far.ainBad n.val = 0 ∧ v.toNat ≤ fget s (R.FBI_AIN n.val) F.FBI_AIN_CODE + 131 ∧ fget s (R.FBI_AIN n.val) F.FBI_AIN_CODE ≤ v.toNat + 131 :=
  ⟨0, 0, (up |> (fun s => fsetb s R.FAR_STATUS F.FAR_STATUS_SLICES_RUN true) |> (fun s => { s with far := { s.far with ainFail := true } }) |> (fun s => { s with far := { s.far with ainNext := (0 : Fin 16).val } })), by and_intros <;> decide +kernel⟩

theorem witness_FarrierCommandsComplete_12 : ∃ (who : Fin 36) (k : Fin 16) (i : Fin 512) (s : State), rapMay s who.val .farrier 1 = true ∧ isRetired s k.val i.val = false :=
  ⟨0, 0, 0, up, by and_intros <;> decide +kernel⟩

theorem witness_FarrierCommandsComplete_13 : ∃ (who : Fin 36) (k : Fin 16) (i : Fin 512) (s : State), rapMay s who.val .farrier 1 = true ∧ jobRun s = false ∧ isRetired s k.val i.val = true ∧ s.far.waiting = none ∧ sliceOf s k.val = none :=
  ⟨0, 0, 0, (up |> (fun s => { s with far := { s.far with waiting := none } }) |> (fun s => { s with far := { s.far with retired := [(0, 0)] } })), by and_intros <;> decide +kernel⟩

theorem witness_FarrierCommandsComplete_14 : ∃ (who : Fin 36) (s : State), rapMay s who.val .farrier 1 = true :=
  ⟨0, up, by decide +kernel⟩

theorem witness_FarrierCommandsComplete_15 : ∃ (who : Fin 36) (s : State), rapMay s who.val .farrier 1 = true :=
  ⟨0, up, by decide +kernel⟩

/-! StudBookCommandsComplete -/

theorem witness_StudBookCommandsComplete_0 : ∃ (s : State), domOn s 9 = true ∧ s.stb.frozenAt.isSome = true :=
  ⟨(up |> (fun s => { s with stb := { s.stb with frozenAt := some default } })), by and_intros <;> decide +kernel⟩

theorem witness_StudBookCommandsComplete_1 : ∃ (s : State), domOn s 9 = true ∧ s.stb.frozenAt = none ∧ level s = 0 :=
  ⟨(up |> (fun s => fset s R.SYS_LEVEL F.SYS_LEVEL_LEVEL 0)), by and_intros <;> decide +kernel⟩

theorem witness_StudBookCommandsComplete_2 : ∃ (a : Nat) (b : Nat) (c : Nat) (d : Nat) (s : State), s.stb.dropSec = [a, b, c, d] ∧ 0 < a + b + c + d ∧ s.stb.dropAt + 1000 ≤ optMs s :=
  ⟨3, 0, 0, 0, (up |> (fun s => { s with stb := { s.stb with dropSec := [(3), (0), (0), (0)] } }) |> (fun s => { s with stb := { s.stb with optTicks := 10 ^ 12 } })), by and_intros <;> decide +kernel⟩

theorem witness_StudBookCommandsComplete_3 : ∃ (s : State), s.stb.markAt + 60000 ≤ optMs s :=
  ⟨(up |> (fun s => { s with stb := { s.stb with optTicks := 10 ^ 12 } })), by decide +kernel⟩

theorem witness_StudBookCommandsComplete_4 : ∃ (s : State), s.stb.optSaved + 10000 ≤ optMs s :=
  ⟨(up |> (fun s => { s with stb := { s.stb with optTicks := 10 ^ 12 } })), by decide +kernel⟩

theorem witness_StudBookCommandsComplete_5 : ∃ (who : Fin 36) (s : State), rapMay s who.val .farrier 9 = true ∧ s.stb.frozenAt = none ∧ s.stb.freezeEnd = none :=
  ⟨0, (up |> (fun s => { s with stb := { s.stb with freezeEnd := none } })), by and_intros <;> decide +kernel⟩

theorem witness_StudBookCommandsComplete_6 : ∃ (who : Fin 36) (s : State), rapMay s who.val .farrier 9 = true ∧ s.stb.frozenAt.isSome = true :=
  ⟨0, (up |> (fun s => { s with stb := { s.stb with frozenAt := some default } })), by and_intros <;> decide +kernel⟩

theorem witness_StudBookCommandsComplete_7 : ∃ (who : Fin 36) (t : Nat) (s : State), rapMay s who.val .farrier 9 = true ∧ s.stb.frozenAt = none ∧ s.stb.freezeEnd = some t ∧ s.tb < t + 10 * secTicks :=
  ⟨0, 0, (up |> (fun s => { s with stb := { s.stb with freezeEnd := some (0) } })), by and_intros <;> decide +kernel⟩

theorem witness_StudBookCommandsComplete_8 : ∃ (who : Fin 36) (s : State), rapMay s who.val .farrier 9 = true :=
  ⟨0, up, by decide +kernel⟩

theorem witness_StudBookCommandsComplete_9 : ∃ (t : Nat) (s : State), s.stb.frozenAt = some t ∧ t + 10 * secTicks ≤ s.tb :=
  ⟨0, (up |> (fun s => { s with stb := { s.stb with frozenAt := some (0) } }) |> (fun s => { s with tb := 10 ^ 15 })), by and_intros <;> decide +kernel⟩

theorem witness_StudBookCommandsComplete_10 : ∃ (who : Fin 36) (m : Nat) (p : ClearPermit) (r : Role) (s : State), rapPath s = true ∧ sessRole s who.val = some r ∧ domOn s 9 = true ∧ clearResult s who.val (m % 16) p ≠ 0 :=
  ⟨0, 0, default, .oem, up, by and_intros <;> decide +kernel⟩

theorem witness_StudBookCommandsComplete_11 : ∃ (who : Fin 36) (m : Nat) (p : ClearPermit) (r : Role) (s : State), rapPath s = true ∧ sessRole s who.val = some r ∧ domOn s 9 = true ∧ clearResult s who.val (m % 16) p = 0 :=
  ⟨3, 8, ({ (default : ClearPermit) with sigOk := true, factory := true, serial := 1, mask := 8, chal := 5, chain := [certW] }), .vendor, (up |> (fun s => { s with stb := { s.stb with chal := some 5 } })), by and_intros <;> decide +kernel⟩

theorem witness_StudBookCommandsComplete_12 : ∃ (who : Fin 36) (s : State), rapMay s who.val .stbRead 9 = true :=
  ⟨1, up, by decide +kernel⟩

theorem witness_StudBookCommandsComplete_13 : ∃ (who : Fin 36) (s : State), rapMay s who.val .stbRead 9 = true ∧ isLeader s = false :=
  ⟨1, (up |> (fun s => fset s R.TLK_STATUS F.TLK_STATUS_LEADER 5)), by and_intros <;> decide +kernel⟩

theorem witness_StudBookCommandsComplete_14 : ∃ (who : Fin 36) (s : State), rapMay s who.val .stbRead 9 = true ∧ isLeader s = true ∧ s.stb.collect = [] ∧ otherMembers s = [] :=
  ⟨1, (up |> (fun s => { s with stb := { s.stb with collect := [] } })), by and_intros <;> decide +kernel⟩

theorem witness_StudBookCommandsComplete_15 : ∃ (m : Fin 64) (n : Nat) (s : State), s.stb.collect = [m.val] ∧ joinedBytes s.stb + n ≤ fileBytes :=
  ⟨0, 0, (up |> (fun s => { s with stb := { s.stb with collect := [(0 : Fin 64).val] } })), by and_intros <;> decide +kernel⟩

theorem witness_StudBookCommandsComplete_16 : ∃ (m : Fin 64) (s : State), s.stb.collect = [m.val] ∧ s.stb.collectAt + 10 * secTicks ≤ s.tb :=
  ⟨0, (up |> (fun s => { s with stb := { s.stb with collect := [(0 : Fin 64).val] } }) |> (fun s => { s with tb := 10 ^ 15 })), by and_intros <;> decide +kernel⟩

theorem witness_StudBookCommandsComplete_17 : ∃ (who : Fin 36) (r : Role) (s : State), rapPath s = true ∧ sessRole s who.val = some r ∧ mayAct .stbRead r = true ∧ domOn s 9 = true :=
  ⟨0, .oem, up, by and_intros <;> decide +kernel⟩

/-! FaultManagerCommandsComplete -/

theorem witness_FaultManagerCommandsComplete_0 : ∃ (s : State), domOn s 1 = true ∧ s.pwm.halted = false ∧ nextReport (admitAll s).flt.queue = none :=
  ⟨up, by and_intros <;> decide +kernel⟩

theorem witness_FaultManagerCommandsComplete_1 : ∃ (s : State) (i : Nat) (r : Report), domOn s 1 = true ∧ s.pwm.halted = false ∧ nextReport (admitAll s).flt.queue = some i ∧ (admitAll s).flt.queue[i]? = some r ∧ r.cls < 4 :=
  ⟨(up |> (fun s => { s with flt := { s.flt with queue := [{ (default : Report) with cls := 2, ev := Ev.ANT_OPEN }] } })), 0, ({ (default : Report) with cls := 2, ev := Ev.ANT_OPEN }), by and_intros <;> decide +kernel⟩

theorem witness_FaultManagerCommandsComplete_2 : ∃ (s : State), domOn s 1 = true ∧ s.pwm.halted = false ∧ yieldFirst s = false :=
  ⟨up, by and_intros <;> decide +kernel⟩

theorem witness_FaultManagerCommandsComplete_3 : ∃ (s : State), domOn s 1 = true ∧ s.pwm.halted = false ∧ yieldFirst s = true ∧ s.team.healthy = true :=
  ⟨(up |> (fun s => { s with team := { s.team with healthy := true } }) |> (fun s => fsetb (fset { s with team := { s.team with partnerSh := true } } R.TLK_PAIR_STAT F.TLK_PAIR_STAT_STATE 1) R.TLK_PAIR_STAT F.TLK_PAIR_STAT_PARTNER_HB true)), by and_intros <;> decide +kernel⟩

theorem witness_FaultManagerCommandsComplete_4 : ∃ (s : State), mayRun s = true ∧ domPow s 1 = false ∧ s.flt.down.any (fun x => x.1 == 12) = true :=
  ⟨(up |> (fun s => domSet s 1 false) |> (fun s => { s with flt := { s.flt with down := [(12, 0)] } })), by and_intros <;> decide +kernel⟩

theorem witness_FaultManagerCommandsComplete_5 : ∃ (k : Fin 14) (s : State), mayRun s = true ∧ 2 ≤ k.val ∧ k.val < 12 ∧ domPow s k.val = false ∧ s.img.active.isSome = true ∧ s.flt.down.any (fun x => x.1 == 12 || x.1 == 13) = false :=
  ⟨4, (up |> (fun s => { s with img := { s.img with active := some default } }) |> (fun s => domSet s 4 false)), by and_intros <;> decide +kernel⟩

theorem witness_FaultManagerCommandsComplete_6 : ∃ (k : Fin 12) (x : Nat × Nat) (s : State), s.flt.down.find? (fun x => x.1 == k.val) = some x ∧ x.2 + backTime k.val < s.tb :=
  ⟨4, ((4, 0)), (up |> (fun s => { s with tb := 10 ^ 15 }) |> (fun s => { s with flt := { s.flt with down := [(4, 0)] } })), by and_intros <;> decide +kernel⟩

theorem witness_FaultManagerCommandsComplete_7 : ∃ (a : Fin 16) (b : Fin 16) (e : Fin 4) (s : State), domOn s 1 = true ∧ domOn s 9 = true ∧ lifeDue s = true ∧ wearClass a.val b.val e.val ≤ wearClass (fget s R.FLT_EMMC F.FLT_EMMC_LIFE_A) (fget s R.FLT_EMMC F.FLT_EMMC_LIFE_B) (fget s R.FLT_EMMC F.FLT_EMMC_PRE_EOL) :=
  ⟨0, 0, 0, up, by and_intros <;> decide +kernel⟩

theorem witness_FaultManagerCommandsComplete_8 : ∃ (a : Fin 16) (b : Fin 16) (e : Fin 4) (s : State), domOn s 1 = true ∧ domOn s 9 = true ∧ lifeDue s = true ∧ wearClass (fget s R.FLT_EMMC F.FLT_EMMC_LIFE_A) (fget s R.FLT_EMMC F.FLT_EMMC_LIFE_B) (fget s R.FLT_EMMC F.FLT_EMMC_PRE_EOL) < wearClass a.val b.val e.val :=
  ⟨10, 0, 0, up, by and_intros <;> decide +kernel⟩

/-! RapCommandsComplete -/

theorem witness_RapCommandsComplete_0 : ∃ (who : Fin 36) (a : Nat) (s : State) (q : Rq), rapPath s = true ∧ rqOf s who.val = some q ∧ spanOk a 1 = true ∧ rqReads s q a = true ∧ addrOn s a = true ∧ readEffect a s = s ∧ (regDesc a).isSome = true ∧ isLo a = false ∧ isHi a = false :=
  ⟨0, 0, up, (⟨.oem, none, 0, none, false⟩), by and_intros <;> decide +kernel⟩

theorem witness_RapCommandsComplete_1 : ∃ (who : Fin 36) (a : Nat) (n : Fin 64) (s : State) (q : Rq), rapPath s = true ∧ rqOf s who.val = some q ∧ spanOk a (n.val + 1) = true ∧ rqReads s q a = false :=
  ⟨2, R.STB_CHAL, 0, up, (⟨.debug, none, 2, none, false⟩), by and_intros <;> decide +kernel⟩

theorem witness_RapCommandsComplete_2 : ∃ (who : Fin 36) (a : Nat) (s : State) (q : Rq), rapPath s = true ∧ rqOf s who.val = some q ∧ spanOk a 1 = true ∧ rqReads s q a = true ∧ addrOn s a = true ∧ readEffect a s = s ∧ (regDesc a).isSome = true ∧ isLo a = true :=
  ⟨0, R.SYS_TB_LO, up, (⟨.oem, none, 0, none, false⟩), by and_intros <;> decide +kernel⟩

theorem witness_RapCommandsComplete_3 : ∃ (who : Fin 36) (a : Nat) (w : Word) (s : State) (q : Rq) (d : RegDesc), rapPath s = true ∧ rqOf s who.val = some q ∧ spanOk a 1 = true ∧ writeCheck s q a w = none ∧ regDesc a = some d :=
  ⟨0, R.PWM_FORCE_SH, 0, up, (⟨.oem, none, 0, none, false⟩), ((regDesc R.PWM_FORCE_SH).getD default), by and_intros <;> decide +kernel⟩

theorem witness_RapCommandsComplete_4 : ∃ (a : Nat) (s : State), readEffect a s = s ∧ a ≠ R.STB_STATUS ∧ ixOf (R.CTL_LOOP_SP 0) 64 64 a = none :=
  ⟨R.PWR_CFG, up, by and_intros <;> decide +kernel⟩

theorem witness_RapCommandsComplete_5 : ∃ (who : Fin 36) (a : Nat) (w : Word) (s : State) (q : Rq), rapPath s = true ∧ rqOf s who.val = some q ∧ spanOk a 1 = true ∧ rqMay s q (writeAct s a w) = false :=
  ⟨2, R.PWR_CFG, 0, up, (⟨.debug, none, 2, none, false⟩), by and_intros <;> decide +kernel⟩

theorem witness_RapCommandsComplete_6 : ∃ (who : Fin 36) (s : State), rapPath s = true ∧ rqOf s who.val = none :=
  ⟨20, up, by and_intros <;> decide +kernel⟩

theorem witness_RapCommandsComplete_7 : ∃ (who : Fin 36) (m : Fin 64) (s : State) (q : Rq), rapPath s = true ∧ rqOf s who.val = some q ∧ m.val ≠ midOf s ∧ m.val ∉ s.team.members :=
  ⟨0, 3, up, (⟨.oem, none, 0, none, false⟩), by and_intros <;> decide +kernel⟩

theorem witness_RapCommandsComplete_8 : ∃ (who : Fin 36) (m : Fin 64) (s : State) (q : Rq), rapPath s = true ∧ rqOf s who.val = some q ∧ m.val ≠ midOf s ∧ m.val ∈ s.team.members ∧ 8 ≤ (s.rap.relays.filter (fun r => r.who == who.val)).length :=
  ⟨0, 3, (up |> (fun s => { s with team := { s.team with members := [0, 3] }, rap := { s.rap with relays := (List.range 8).map (fun t => ⟨0, t, 3, 0⟩) } })), (⟨.oem, none, 0, none, false⟩), by and_intros <;> decide +kernel⟩

theorem witness_RapCommandsComplete_9 : ∃ (who : Fin 36) (m : Fin 64) (s : State) (q : Rq) (x : Sess), rapPath s = true ∧ rqOf s who.val = some q ∧ m.val ≠ midOf s ∧ m.val ∈ s.team.members ∧ (s.rap.relays.filter (fun r => r.who == who.val)).length < 8 ∧ sessOf s who.val = some x ∧ who.val < 4 :=
  ⟨0, 3, (up |> (fun s => { s with team := { s.team with members := [0, 3] } })), (⟨.oem, none, 0, none, false⟩), (⟨0, 0, 0, [], 0, 0, 0, 0, none, 0, none⟩), by and_intros <;> decide +kernel⟩

theorem witness_RapCommandsComplete_10 : ∃ (who : Fin 36) (p : Nat) (s : State) (q : Rq), rapPath s = true ∧ rqOf s who.val = some q ∧ objMay s q 0x50 p = true ∧ domOn s 1 = true ∧ s.rap.handles = [] :=
  ⟨0, 0, (up |> (fun s => { s with rap := { s.rap with handles := [] } }) |> id), (⟨.oem, none, 0, none, false⟩), by and_intros <;> decide +kernel⟩

theorem witness_RapCommandsComplete_11 : ∃ (who : Fin 36) (h : Fin 256) (s : State) (q : Rq) (x : Handle), rapPath s = true ∧ rqOf s who.val = some q ∧ handleOf s q h.val = some x ∧ x.write = true ∧ 1 ≤ x.len ∧ domOn s (objDom x.obj) = true :=
  ⟨0, 0, (up |> (fun s => { s with rap := { s.rap with handles := [(0, ⟨0x50, 0, true, 0, 8, []⟩)] } })), (⟨.oem, none, 0, none, false⟩), (⟨0x50, 0, true, 0, 8, []⟩), by and_intros <;> decide +kernel⟩

theorem witness_RapCommandsComplete_12 : ∃ (who : Fin 36) (h : Fin 256) (s : State) (q : Rq) (x : Handle), rapPath s = true ∧ rqOf s who.val = some q ∧ handleOf s q h.val = some x ∧ x.write = true ∧ x.obj = 0x50 ∧ domOn s 1 = true :=
  ⟨0, 0, (up |> (fun s => { s with rap := { s.rap with handles := [(0, ⟨0x50, 0, true, 0, 8, []⟩)] } })), (⟨.oem, none, 0, none, false⟩), (⟨0x50, 0, true, 0, 8, []⟩), by and_intros <;> decide +kernel⟩

theorem witness_RapCommandsComplete_13 : ∃ (m : Fin 64) (s : State), m.val ∈ otherMembers s ∧ domOn s 1 = true ∧ domOn s 6 = true :=
  ⟨3, (up |> (fun s => { s with team := { s.team with members := [0, 3] } })), by and_intros <;> decide +kernel⟩

theorem witness_RapCommandsComplete_14 : ∃ (m : Fin 64) (who : Fin 36) (tag : Fin 256) (s : State) (r : Relay), relayOf s who.val tag.val = some r ∧ r.mid = m.val :=
  ⟨0, 0, 0, (up |> (fun s => { s with rap := { s.rap with relays := [⟨0, 0, 0, 0⟩] } })), (⟨0, 0, 0, 0⟩), by and_intros <;> decide +kernel⟩

theorem witness_RapCommandsComplete_15 : ∃ (who : Fin 36) (tag : Fin 256) (s : State) (r : Relay), relayOf s who.val tag.val = some r ∧ r.at_ + secTicks ≤ s.tb :=
  ⟨0, 0, (up |> (fun s => { s with tb := 10 ^ 15 }) |> (fun s => { s with rap := { s.rap with relays := [⟨0, 0, 0, 0⟩] } })), (⟨0, 0, 0, 0⟩), by and_intros <;> decide +kernel⟩

/-! StepKeepsRegisterFile -/

theorem witness_StepKeepsRegisterFile_0 : ∃ (s : State) (t : State), regsWf s = true ∧ step s = .next t :=
  (next_of_completes (step { up with pending := [.wakeTimer] }) (by decide +kernel)).elim fun t h => ⟨_, t, by decide +kernel, h⟩

/-! OtpCountsNeverFall -/

theorem witness_OtpCountsNeverFall_0 : ∃ (s : State) (t : State), step s = .next t :=
  (next_of_completes (step { up with pending := [.wakeTimer] }) (by decide +kernel)).elim fun t h => ⟨_, t, h⟩

/-! CommandsKeepQueueAndMessages -/

theorem witness_CommandsKeepQueueAndMessages_0 : ∃ (c : Instr) (s : State) (t : State), exec c s = .next t :=
  (next_of_completes (exec .wakeTimer up) (by decide +kernel)).elim fun t h => ⟨.wakeTimer, up, t, h⟩

/-! OnlyRatingsEndARun -/

theorem witness_OnlyRatingsEndARun_1 : ∃ (c : Instr) (s : State) (f : Fault), exec c s = .fault f :=
  ⟨.vlogOvervoltage 581, up, .beyondRatings, by with_unfolding_all rfl⟩

theorem witness_OnlyRatingsEndARun_2 : ∃ (s : State), ((∀ b : Boot, s.pending.head? = some (.powerUp b) → b.vlog.toNat ≤ 580)) ∧ ((∀ v : BitVec 10, s.pending.head? = some (.vlogOvervoltage v) → v.toNat ≤ 580)) :=
  ⟨{ up with pending := [.powerUp { (default : Boot) with vlog := 120 }] }, by intro b h; cases h; decide, by intro v h; cases h⟩

/-! RegistersAreCheckedInOrder -/

theorem witness_RegistersAreCheckedInOrder_0 : ∃ (who : Fin 36) (a : Nat) (s : State) (q : Rq), rapPath s = true ∧ rqOf s who.val = some q ∧ spanOk a 1 = true :=
  ⟨0, 0, up, (⟨.oem, none, 0, none, false⟩), by and_intros <;> decide +kernel⟩

theorem witness_RegistersAreCheckedInOrder_1 : ∃ (who : Fin 36) (a : Nat) (s : State) (q : Rq), rapPath s = true ∧ rqOf s who.val = some q ∧ spanOk a 1 = true :=
  ⟨0, 0, up, (⟨.oem, none, 0, none, false⟩), by and_intros <;> decide +kernel⟩

theorem witness_RegistersAreCheckedInOrder_2 : ∃ (i : Nat), i < 32 :=
  ⟨0, by decide +kernel⟩

/-! IndexMissingOnce -/

theorem witness_IndexMissingOnce_0 : ∃ (n : Nat) (s : State), fget s (R.FBI_IDX n) F.FBI_IDX_LINES ≠ 0 ∧ (chSt s n).missing = false ∧ fget s (R.FBI_IDX n) F.FBI_IDX_LINES + fget s (R.FBI_IDX n) F.FBI_IDX_LINE_TOL < (chSt s n).idxAcc.natAbs :=
  ⟨0, (up |> (fun s => fset s (R.FBI_IDX (0)) F.FBI_IDX_LINES 1) |> (fun s => setCh s (0) ({ chSt s (0) with missing := false })) |> (fun s => setCh s 0 { chSt s 0 with idxAcc := -300 })), by and_intros <;> decide +kernel⟩

theorem witness_IndexMissingOnce_1 : ∃ (n : Nat) (s : State), (chSt s n).missing = true :=
  ⟨0, (up |> (fun s => setCh s (0) ({ chSt s (0) with missing := true }))), by decide +kernel⟩

theorem witness_IndexMissingOnce_2 : ∃ (n : Nat) (s : State), (chSt s n).idxAcc.natAbs ≤ fget s (R.FBI_IDX n) F.FBI_IDX_LINES + fget s (R.FBI_IDX n) F.FBI_IDX_LINE_TOL :=
  ⟨0, up, by decide +kernel⟩

/-! CompareUnitHits -/

theorem witness_CompareUnitHits_0 : ∃ (who : Fin 36) (s : State), rapMay s who.val .other 11 = true :=
  ⟨0, up, by decide +kernel⟩

theorem witness_CompareUnitHits_2 : ∃ (k : Fin 4) (n : Nat) (cnt : Int) (d : Int) (s : State) (c : CmpSt), c = smGet cmpInit s.fbi.cmp k.val ∧ ((∀ p : Nat × Nat × Bool, c.pre = some p → p.1 ≠ s.tb)) ∧ (¬(fbit s (R.FBI_CMP_STAT k.val) F.FBI_CMP_STAT_ARMED = true ∧ fget s (R.FBI_CMP_CFG k.val) F.FBI_CMP_CFG_SRC = n ∧ (0 ≤ sext 32 (rget s (R.FBI_CMP_STEP k.val)).toNat ↔ 0 < d) ∧ bitsOf 48 cnt = c.val)) :=
  ⟨0, 0, 0, 0, up, default, by and_intros <;> decide +kernel⟩

theorem witness_CompareUnitHits_3 : ∃ (k : Fin 4) (n : Nat) (cnt d step : Int) (s : State) (c : CmpSt), step = sext 32 (rget s (R.FBI_CMP_STEP k.val)).toNat ∧ c = smGet cmpInit s.fbi.cmp k.val ∧ fbit s (R.FBI_CMP_STAT k.val) F.FBI_CMP_STAT_ARMED = true ∧ fget s (R.FBI_CMP_CFG k.val) F.FBI_CMP_CFG_SRC = n ∧ (0 ≤ step ↔ 0 < d) ∧ bitsOf 48 cnt = c.val :=
  ⟨0, 0, 0, 1, 1, rset (fsetb up (R.FBI_CMP_STAT 0) F.FBI_CMP_STAT_ARMED true) (R.FBI_CMP_STEP 0) 1, ⟨0, false, [], none⟩, by decide +kernel⟩

theorem witness_CompareUnitHits_4 : ∃ (k : Fin 4) (s : State) (v0 : Nat) (a0 : Bool) (c : CmpSt), c = smGet cmpInit s.fbi.cmp k.val ∧ c.pre = some (s.tb, v0, a0) :=
  ⟨0, (up |> (fun s => { s with fbi := { s.fbi with cmp := [(0, ⟨0, false, [], some (0, 0, false)⟩)] } })), 0, false, (⟨0, false, [], some (0, 0, false)⟩), by and_intros <;> decide +kernel⟩

/-! RolesOfActions -/

theorem witness_RolesOfActions_1 : ∃ (s : State) (who : Nat), leaseLive s who = false :=
  ⟨up, 0, by decide +kernel⟩

theorem witness_RolesOfActions_2 : ∃ (r : Role), r ≠ .contractor :=
  ⟨.oem, by decide +kernel⟩

/-! PrecedenceChain -/

theorem witness_PrecedenceChain_0 : ∃ (s : State) (n : Nat), cutOff s n = true :=
  ⟨(rset (fsetb up (R.SAF_SO 0) F.SAF_SO_CLOSED false) (R.SAF_CUT 0 0) 1), 0, by decide +kernel⟩

theorem witness_PrecedenceChain_1 : ∃ (s : State) (n : Nat), cutOff s n = false :=
  ⟨up, 0, by decide +kernel⟩

theorem witness_PrecedenceChain_2 : ∃ (s : State) (n : Nat), s.pwr.asleep = false ∧ s.pwr.powered = true ∧ domPow s 10 = true ∧ s.pwm.pairBad.contains n = false ∧ sidelined s = false ∧ s.pwm.held = none ∧ fbit s R.PWM_STATUS F.PWM_STATUS_OWNED = true ∧ gateLive s = true :=
  ⟨(up |> (fun s => fsetb s R.PWM_STATUS F.PWM_STATUS_OWNED true)), 0, by and_intros <;> decide +kernel⟩

/-! NeverBothGates -/

theorem witness_NeverBothGates_0 : ∃ (s : State) (m : Nat), ((∀ h : List Bool, s.pwm.held = some h → (h.getD (96 + 2 * m) false && h.getD (97 + 2 * m) false) = false)) :=
  ⟨up, 0, by decide +kernel⟩

theorem witness_NeverBothGates_1 : ∃ (s : State) (m : Fin 4) (h : List Bool), (∀ h : List Bool, s.pwm.held = some h → (h.getD (96 + 2 * m.val) false && h.getD (97 + 2 * m.val) false) = false) ∧ (freeze s).pwm.held = some h :=
  (some_of_isSome (freeze (fsetb up R.PWM_STATUS F.PWM_STATUS_OWNED true)).pwm.held (by decide +kernel)).elim fun h e => ⟨fsetb up R.PWM_STATUS F.PWM_STATUS_OWNED true, 0, h, (fun h e => by rw [show (fsetb up R.PWM_STATUS F.PWM_STATUS_OWNED true).pwm.held = none by decide +kernel] at e; cases e), e⟩

/-! PulsesLieWhereStated -/

theorem witness_PulsesLieWhereStated_0 : ∃ (s : State) (n : Nat) (w : Wav) (t : Nat) (T : Nat) (h : Nat), T = perOf s n ∧ 0 < T ∧ fget s (R.PWM_CH_CFG n) F.PWM_CH_CFG_MINP ≤ T ∧ ((96 ≤ n ∨ fget s (R.LSW_CH_CFG1 n) F.LSW_CH_CFG1_COMP = 0)) ∧ w.tail = 0 ∧ w.from_ + T ≤ t ∧ h = (minPulse T (rnd (min w.duty 65536 * T) 65536) (fget s (R.PWM_CH_CFG n) F.PWM_CH_CFG_MINP) (stretchOf s n)).1 :=
  ⟨(rset (fset up (R.LSW_CH_CFG1 0) F.LSW_CH_CFG1_COMP 0) (R.PWM_CG_PER 0) 20000), 0, ({ (default : Wav) with duty := 32768 }), 40000, 20000, 10000, by and_intros <;> decide +kernel⟩

theorem witness_PulsesLieWhereStated_1 : ∃ (T : Nat), 0 < T :=
  ⟨5, by decide +kernel⟩

theorem witness_PulsesLieWhereStated_2 : ∃ (T : Nat) (d : Nat), 0 < T ∧ 65536 ≤ d :=
  ⟨5, 65536, by decide⟩

/-! CommitOfACell -/

theorem witness_CommitOfACell_0 : ∃ (c : Cell2) (s : State), inExtent s c = false :=
  ⟨default, up, by decide +kernel⟩

theorem witness_CommitOfACell_1 : ∃ (c : Cell2) (s : State), inExtent s c = true ∧ excluded s c = true ∧ tileAlloc s (tileOf c) = true :=
  ⟨((0, 0)), (up |> (fun s => { withExtent jobX s with regs := s.regs })), by and_intros <;> decide +kernel⟩

theorem witness_CommitOfACell_2 : ∃ (c : Cell2) (s : State) (k : Nat), inExtent s c = true ∧ excluded s c = false ∧ k ≠ cellKey c :=
  ⟨(5, 5), withExtent jobW up, 0, by decide +kernel⟩

/-! DelaysByPressure -/

theorem witness_DelaysByPressure_0 : ∃ (s : State) (o : OutEnt) (d : DelayPt) (ds : List DelayPt), o.delays = d :: ds ∧ (o.press.bind (pressOf s) = none ∨ ds = []) :=
  ⟨up, ({ (default : OutEnt) with pressCode := 255, npts := 1, points := [⟨100, 5, 6⟩] }), (⟨100, 5, 6⟩), [], by and_intros <;> decide +kernel⟩

theorem witness_DelaysByPressure_1 : ∃ (s : State) (o : OutEnt) (k : PressSrc) (d0 : DelayPt) (d1 : DelayPt) (ds : List DelayPt), o.delays = d0 :: d1 :: ds ∧ o.press.bind (pressOf s) = some k ∧ pressNow s k ≤ d0.p :=
  ⟨({ up with cfg := { up.cfg with geom0 := { up.cfg.geom0 with press := [default] } } }), ({ (default : OutEnt) with pressCode := 0, npts := 2, points := [⟨100, 5, 6⟩, ⟨200, 7, 8⟩] }), default, (⟨100, 5, 6⟩), (⟨200, 7, 8⟩), [], by and_intros <;> decide +kernel⟩

theorem witness_DelaysByPressure_2 : ∃ (s : State) (o : OutEnt) (k : PressSrc) (ds : List DelayPt) (l : DelayPt), o.delays = ds ++ [l] ∧ ds ≠ [] ∧ (o.delays.map (·.p)).Pairwise (· < ·) ∧ o.press.bind (pressOf s) = some k ∧ (l.p : Int) ≤ pressNow s k :=
  ⟨({ up with cfg := { up.cfg with geom0 := { up.cfg.geom0 with press := [{ (default : PressSrc) with pref := 200 }] } } }), ({ (default : OutEnt) with pressCode := 0, npts := 2, points := [⟨100, 5, 6⟩, ⟨200, 7, 8⟩] }), ({ (default : PressSrc) with pref := 200 }), ([⟨100, 5, 6⟩]), (⟨200, 7, 8⟩), by and_intros <;> decide +kernel⟩

theorem witness_DelaysByPressure_3 : ∃ (s : State) (o : OutEnt) (k : PressSrc) (pre : List DelayPt) (post : List DelayPt) (a : DelayPt) (b : DelayPt) (p : Int) (den : Int), o.delays = pre ++ a :: b :: post ∧ (o.delays.map (·.p)).Pairwise (· < ·) ∧ o.press.bind (pressOf s) = some k ∧ p = pressNow s k ∧ den = (b.p : Int) - a.p ∧ (a.p : Int) ≤ p ∧ p < b.p :=
  ⟨({ up with cfg := { up.cfg with geom0 := { up.cfg.geom0 with press := [{ (default : PressSrc) with pref := 150 }] } } }), ({ (default : OutEnt) with pressCode := 0, npts := 2, points := [⟨100, 5, 6⟩, ⟨200, 7, 8⟩] }), ({ (default : PressSrc) with pref := 150 }), [], [], (⟨100, 5, 6⟩), (⟨200, 7, 8⟩), 150, 100, by and_intros <;> decide +kernel⟩

theorem witness_DelaysByPressure_4 : ∃ (s : State) (k : PressSrc), (pressSt s k.idx).ok = false :=
  ⟨up, default, by decide +kernel⟩

/-! RecordsGetTheNextSeq -/

theorem witness_RecordsGetTheNextSeq_3 : ∃ (e : Ev), 2 ≤ evSev false e :=
  ⟨Ev.DEBUG_UNLOCK, by decide +kernel⟩

theorem witness_RecordsGetTheNextSeq_5 : ∃ (cap : Nat) (q : List Rec), q.length ≤ cap :=
  ⟨0, [], by decide +kernel⟩

theorem witness_RecordsGetTheNextSeq_6 : ∃ (cap : Nat) (q : List Rec), q.length < cap :=
  ⟨1, [], by decide +kernel⟩

theorem witness_RecordsGetTheNextSeq_7 : ∃ (cap : Nat) (q : List Rec) (r : Rec), cap ≤ q.length ∧ r.ev ≠ Ev.DROPPED ∧ ((∀ x ∈ q, r.sev < x.sev)) :=
  ⟨0, [], default, by and_intros <;> decide +kernel⟩

theorem witness_RecordsGetTheNextSeq_8 : ∃ (cap : Nat) (q1 : List Rec) (q2 : List Rec) (x : Rec) (r : Rec), cap ≤ (q1 ++ x :: q2).length ∧ r.ev ≠ Ev.DROPPED ∧ ((∀ y ∈ q1, r.sev < y.sev)) ∧ x.sev ≤ r.sev :=
  ⟨0, [], [], default, default, by and_intros <;> decide +kernel⟩

/-! AnswersTouchNoRegister -/

theorem witness_AnswersTouchNoRegister_2 : ∃ (who : Fin 36) (tag : Fin 256) (a : Nat) (n : Fin 64) (s t : State) (x : Nat), exec (.rapRead who none tag a n) s = .next t ∧ x / 0x10000 ≠ 0x15 ∧ x / 0x10000 ≠ 0x16 ∧ x / 0x10000 ≠ 0x1B ∧ x / 0x10000 ≠ 0x1D :=
  (next_of_completes (exec (.rapRead 0 none 0 R.SYS_ID 0) up) (by decide +kernel)).elim fun t h => ⟨0, 0, R.SYS_ID, 0, up, t, 0, h, by decide, by decide, by decide, by decide⟩

/-! LatchesAreApart -/

theorem witness_LatchesAreApart_0 : ∃ (k1 : Nat) (k2 : Nat) (a : Nat) (lo : Nat), k1 ≠ k2 ∧ a < 2 ^ 32 ∧ lo < 2 ^ 32 :=
  ⟨1, 0, 0, 0, by and_intros <;> decide +kernel⟩

theorem witness_LatchesAreApart_1 : ∃ (a : Nat), isLo a = true :=
  ⟨R.SYS_TB_LO, by decide +kernel⟩

/-! CounterCommandsFrame -/

theorem witness_CounterCommandsFrame_1 : ∃ (who : Fin 36) (ch : Fin 16) (k : Fin 4) (hi : Word) (s : State), ∀ c ∈ [Instr.fbiLoad who ch, .fbiArm who ch, .fbiClear who ch, .cmpValHiWrite who k hi], ∃ t, exec c s = .next t :=
  ⟨0, 0, 0, 0, up, fun c hc => next_of_completes _ (by fin_cases hc <;> decide +kernel)⟩

/-! ForceAndShadowFrame -/

theorem witness_ForceAndShadowFrame_0 : ∃ (who : Fin 36) (b : Bool) (s : State), ∀ c ∈ [Instr.forceCommit who b, .forceClearAll who], ∃ t, exec c s = .next t :=
  ⟨0, false, up, fun c hc => next_of_completes _ (by fin_cases hc <;> decide +kernel)⟩

theorem witness_ForceAndShadowFrame_1 : ∃ (who : Fin 36) (n : Fin 104) (ph : Bool) (v : Word) (s : State) (t : State), exec (.shadowWrite (.rap who) n ph v) s = .next t :=
  (next_of_completes (exec (.shadowWrite (.rap 0) 0 false 0) up) (by decide +kernel)).elim fun t h => ⟨0, 0, false, 0, up, t, h⟩

theorem witness_ForceAndShadowFrame_2 : ∃ (who : Fin 36) (b ph : Bool) (n : Fin 104) (v : Word) (s : State), ∀ c ∈ [Instr.forceCommit who b, .forceClearAll who, .shadowWrite (.rap who) n ph v], ∃ t, exec c s = .next t :=
  ⟨0, false, false, 0, 0, up, fun c hc => next_of_completes _ (by fin_cases hc <;> decide +kernel)⟩

/-! RegisterFields -/

theorem witness_RegisterFields_0 : ∃ (f : Fld), f.lo + f.w ≤ 32 :=
  ⟨default, by decide +kernel⟩

theorem witness_RegisterFields_1 : ∃ (a : Nat) (b : Nat), b ≠ a :=
  ⟨0, 4, by decide +kernel⟩

theorem witness_RegisterFields_2 : ∃ (f : Fld) (g : Fld), f.lo + f.w ≤ 32 ∧ (g.lo + g.w ≤ f.lo ∨ f.lo + f.w ≤ g.lo) :=
  ⟨default, default, by and_intros <;> decide +kernel⟩

theorem witness_RegisterFields_3 : ∃ (f : Fld), f.lo + f.w ≤ 32 :=
  ⟨default, by decide +kernel⟩

theorem witness_RegisterFields_4 : ∃ (f : Fld), f.lo + f.w ≤ 32 :=
  ⟨default, by decide +kernel⟩

theorem witness_RegisterFields_5 : ∃ (lo : Nat) (hi : Nat) (v : Nat), lo ≠ hi ∧ v < 2 ^ 64 :=
  ⟨0, 4, 0, by and_intros <;> decide +kernel⟩

/-! LoadGroupAndForceCommandsRun -/

theorem witness_LoadGroupAndForceCommandsRun_0 : ∃ (src : Writer) (ch : Fin 104) (s : State), (∀ who : Fin 36, src ≠ .rap who) ∧ domOn s 10 = true ∧ lgOwner s (lgOf s ch.val) src = true ∧ lgArmed s (lgOf s ch.val) = false :=
  ⟨.ctl 0, 0, lgTo 2 up, by and_intros <;> decide +kernel⟩

theorem witness_LoadGroupAndForceCommandsRun_1 : ∃ (who : Fin 36) (ch : Fin 104) (s : State), rapMay s who.val .duty 10 = true ∧ lgOwner s (lgOf s ch.val) (.rap who) = true ∧ lgArmed s (lgOf s ch.val) = false :=
  ⟨0, 0, lgTo 1 up, by and_intros <;> decide +kernel⟩

theorem witness_LoadGroupAndForceCommandsRun_2 : ∃ (src : Writer) (k : Fin 8) (s : State), (∀ who : Fin 36, src ≠ .rap who) ∧ domOn s 10 = true ∧ lgOwner s k.val src = true ∧ lgDue s k.val = false :=
  ⟨.ctl 0, 0, lgTo 2 up, by and_intros <;> decide +kernel⟩

theorem witness_LoadGroupAndForceCommandsRun_3 : ∃ (k : Fin 8) (s : State), lgDue s k.val = true :=
  ⟨0, (fsetb (fsetb { up with tb := 80000 } (R.PWM_LG_CFG 0) F.PWM_LG_CFG_XFER true) (R.PWM_LG_STAT 0) F.PWM_LG_STAT_ARMED true), by decide +kernel⟩

theorem witness_LoadGroupAndForceCommandsRun_4 : ∃ (who : Fin 36) (s : State), rapMay s who.val (.force true) 10 = true :=
  ⟨0, up, by decide +kernel⟩

theorem witness_LoadGroupAndForceCommandsRun_5 : ∃ (who : Fin 36) (s : State), rapMay s who.val (.force (offOnly (rget s R.PWM_FORCE_SH).toNat (rget s R.PWM_FORCE_ONE).toNat)) 10 = true :=
  ⟨0, up, by decide +kernel⟩

theorem witness_LoadGroupAndForceCommandsRun_6 : ∃ (s : State), forcing s = true ∧ s.pwm.commitAt + fget s R.PWM_HOLD F.PWM_HOLD_FORCE_TMO * secTicks ≤ s.tb :=
  ⟨(up |> (fun s => { s with tb := 10 ^ 15 }) |> (fun s => fset s R.PWM_FORCE_ONE_ACT F.PWM_FORCE_ONE_ACT_VAL 1)), by and_intros <;> decide +kernel⟩

/-! ControlEngineCommandsRun -/

theorem witness_ControlEngineCommandsRun_0 : ∃ (n : Fin 64) (s : State) (d : LoopDef) (lane : Nat), loopDef s n.val = some d ∧ loopsRun s = true ∧ loopDue s (boundaryAt s.tb) n.val = true ∧ s.tb ≤ boundaryAt s.tb + 30000 ∧ (loopSt s n.val).stepAt ≠ some (boundaryAt s.tb) ∧ loopHeld s n.val = false ∧ loopLane s (boundaryAt s.tb) n.val = some lane ∧ curbOf s n.val = none :=
  ⟨0, (loopOn { up with tb := 40005 }), loopW, 0, by and_intros <;> decide +kernel⟩

theorem witness_ControlEngineCommandsRun_1 : ∃ (n : Fin 64) (s : State), loopsRun s = true ∧ loopDue s (boundaryAt s.tb) n.val = true ∧ boundaryAt s.tb + 30000 ≤ s.tb ∧ (loopSt s n.val).stepAt ≠ some (boundaryAt s.tb) ∧ loopHeld s n.val = false ∧ curbOf s n.val = none :=
  ⟨0, (loopOn { up with tb := 75000 }), by and_intros <;> decide +kernel⟩

theorem witness_ControlEngineCommandsRun_2 : ∃ (n : Fin 64) (s : State) (d : LoopDef), loopDef s n.val = some d ∧ lstate s n.val = 3 ∧ (loopSt s n.val).holdAt + msTicks (lcfg1 s n.val F.CTL_LOOP_CFG1_FB_TMO) ≤ s.tb :=
  ⟨0, (fset (loopOn { up with tb := 10 ^ 15 }) (R.CTL_LOOP_STAT 0) F.CTL_LOOP_STAT_STATE 3), loopW, by and_intros <;> decide +kernel⟩

theorem witness_ControlEngineCommandsRun_3 : ∃ (who : Fin 36) (s : State), rapMay s who.val .other 1 = true :=
  ⟨0, up, by decide +kernel⟩

theorem witness_ControlEngineCommandsRun_4 : ∃ (who : Fin 36) (s : State), rapMay s who.val .other 1 = true :=
  ⟨0, up, by decide +kernel⟩

theorem witness_ControlEngineCommandsRun_5 : ∃ (who : Fin 36) (s : State), rapMay s who.val .test 1 = true :=
  ⟨0, up, by decide +kernel⟩

theorem witness_ControlEngineCommandsRun_6 : ∃ (who : Fin 36) (r : Role) (s : State), sessRole s who.val = some r ∧ rapPath s = true ∧ injRefused s who.val = none :=
  ⟨0, .oem, (injOk up), by and_intros <;> decide +kernel⟩

theorem witness_ControlEngineCommandsRun_7 : ∃ (s : State) (j : Inj) (f : Nat), s.ctl.inj = some j ∧ j.first = some f ∧ f + msTicks j.dur ≤ s.tb :=
  ⟨({ up with tb := 10 ^ 15, ctl := { up.ctl with inj := some { (default : Inj) with first := some 0 } } }), ({ (default : Inj) with first := some 0 }), 0, by and_intros <;> decide +kernel⟩

/-! SessionsActOnlyInTheirRole: a requester without a session, one whose role may not, and a domain that is off. -/

theorem witness_SessionsActOnlyInTheirRole_none : ∃ (who : Fin 36) (s : State), sessRole s who.val = none := ⟨0, State.reset, by decide +kernel⟩

theorem witness_SessionsActOnlyInTheirRole_role : ∃ (who : Fin 36) (s : State) (r : Role), sessRole s who.val = some r ∧ sessMay s who.val .image r = false :=
  ⟨2, up, .debug, by decide +kernel⟩

theorem witness_SessionsActOnlyInTheirRole_off :
    ∃ (who : Fin 36) (s : State) (r : Role), sessRole s who.val = some r ∧ sessMay s who.val .image r = true ∧ domOn s 9 = false :=
  ⟨0, domSet up 9 false, .oem, by decide +kernel⟩

theorem witness_SessionsActOnlyInTheirRole_may : ∃ (who : Fin 36) (s : State), rapMay s who.val .image 9 = true := ⟨0, up, by decide +kernel⟩


end Sys2Proof.Tests
end

section
/-!
PROOFS. The statements about the module as a whole: what a step runs and keeps, reset, register fields, and the commands of clocks, memories and
units in error. Each statement is assembled from lemmas about the model's operations, one part per operation.
-/

open Sys2Proof Sys2Proof.Machine Sys2Proof.Laws

namespace Sys2Proof.Proofs

/-! ### A step -/

theorem step_of_pending_nil {s : State} (h : s.pending = []) : step s = .next (tick s) := by
  rw [step, h]

theorem step_of_pending_cons {c : Instr} {q : List Instr} {s : State} (h : s.pending = c :: q) :
    step s = exec c { s with pending := q } := by
  rw [step, h]

theorem tick_of_unpowered {s : State} (h : s.pwr.powered = false) : tick s = s := by
  rw [tick, if_pos h]

theorem withFetchWord_eq (s : State) (nbits w : Nat) : s.withFetchWord nbits w = s := rfl

/-- A step takes a command off the queue, or finds none, and keeps from there what every operation keeps. -/
theorem step_kept {s t : State} (h : step s = .next t) : ∃ q : List Instr, Kept { s with pending := q } t := by
  cases hq : s.pending with
  | nil =>
    rw [step_of_pending_nil hq] at h
    cases h
    exact ⟨s.pending, kept_tick (kept_refl s)⟩
  | cons c q =>
    rw [step_of_pending_cons hq] at h
    exact ⟨q, (kept_exec c _).next t h⟩

/-- Settles O39: the register file is among what `Kept` lists, and taking a command off the queue does not touch it. -/
theorem stepKeepsRegisterFile : Obligations.StepKeepsRegisterFile := by
  intro s t hwf hstep
  obtain ⟨q, hkept⟩ := step_kept hstep
  exact hkept.regs hwf

/-- Settles O41 by what `Kept` says of every command and of a tick. -/
theorem commandsKeepQueueAndMessages : Obligations.CommandsKeepQueueAndMessages := by
  refine ⟨fun c s t h => ?_, fun s => ?_⟩
  · have k : Kept s t := (kept_exec c s).next t h
    exact ⟨k.pending, k.sent, k.free⟩
  · have k : Kept s (tick s) := kept_tick (kept_refl s)
    exact ⟨k.pending, k.sent, k.free⟩

/-- Settles O1. -/
theorem stepRunsFrontCommand : Obligations.StepRunsFrontCommand :=
  ⟨fun _ _ _ => step_of_pending_cons, fun _ _ => step_of_pending_cons rfl, fun _ => step_of_pending_nil, fun _ => tick_of_unpowered,
    withFetchWord_eq⟩

/-! ### Registers and fields -/

theorem fget_lt (s : State) (a : Nat) (f : Fld) : fget s a f < 2 ^ f.w := Nat.mod_lt _ (Nat.two_pow_pos _)

/-- A count that does not exceed its limit rises to the next number or stays at the limit. -/
theorem satInc_eq_min {lim v : Nat} (h : v ≤ lim) : satInc lim v = min (v + 1) lim := by
  unfold satInc
  split <;> omega

theorem fget_fincSat {s : State} {a : Nat} {f : Fld} (hf : inWord f) :
    fget (fincSat s a f) a f = min (fget s a f + 1) (2 ^ f.w - 1) := by
  have hlt := fget_lt s a f
  rw [fincSat, fget_fset_same hf, satInc_eq_min (by omega), Nat.mod_eq_of_lt (by omega)]

theorem fget_fincWrap {s : State} {a : Nat} {f : Fld} (hf : inWord f) :
    fget (fincWrap s a f) a f = (fget s a f + 1) % 2 ^ f.w := fget_fset_same hf

theorem rget64_rset64 {s : State} {lo hi v : Nat} (hne : lo ≠ hi) (hv : v < 2 ^ 64) : rget64 (rset64 s lo hi v) lo hi = v := by
  rw [rget64, rset64, rsetN, rget_rset_ne hne, rget_rset_same, rsetN, rget_rset_same, BitVec.toNat_ofNat, BitVec.toNat_ofNat]
  omega

/-- Settles O58: a write of a field is a write of its register whose other bits are those of before. -/
theorem registerFields : Obligations.RegisterFields :=
  ⟨fun _ _ _ _ hf => fget_fset_same hf, fun _ _ _ _ _ hne => rget_fset_ne hne, fun _ _ _ _ _ hf hfg => fget_fset_other hf hfg,
    fun _ _ _ hf => fget_fincSat hf, fun _ _ _ hf => fget_fincWrap hf, fun _ _ _ _ hne hv => rget64_rset64 hne hv⟩

/-! ### Reset and the first start -/

theorem rget_reset (a : Nat) : rget State.reset a = resetWord a := rfl

/-- A start that is due runs: nothing keeps PD0 alone on, and VLOG lies from 9.0 V, which a wake does not wait for, to 36.0 V (R460, R463). -/
theorem exec_powerUp_starts {b : Boot} {s : State} (hdue : s.pwr.powered = false ∨ s.pwr.startDue = true) (hhigh : b.vlog.toNat ≤ 360)
    (hfree : s.pwr.powered = true → s.pwr.ovOff = false ∧ s.pwr.brown = false)
    (hlow : 90 ≤ b.vlog.toNat ∨ (s.pwr.powered = true ∧ s.pwr.asleep = true)) :
    exec (.powerUp b) s = .next (start b (domSet s 0 true)) := by
  have hran : ¬(s.pwr.powered = true ∧ s.pwr.startDue = false) := by
    rcases hdue with h | h <;> simp [h]
  have hheld : ¬(s.pwr.powered = true ∧ (s.pwr.ovOff = true ∨ s.pwr.brown = true)) := by
    rintro ⟨hp, h⟩
    simp [hfree hp] at h
  have hunder : ¬(b.vlog.toNat < 90 ∧ (s.pwr.powered = false ∨ s.pwr.asleep = false)) := by
    rcases hlow with h | ⟨hp, ha⟩
    · omega
    · simp [hp, ha]
  rw [exec_powerUp, execPowerUp]
  simp only [hran, hheld, hunder, if_false]
  rw [if_neg (by omega), if_neg (by omega)]

/-- Settles O2: reset lists no register, so each reads its reset word; a start is due. -/
theorem resetLeavesTheStatedValues : Obligations.ResetLeavesTheStatedValues := by
  refine ⟨rget_reset, ⟨rfl, rfl, rfl, rfl, rfl⟩, ⟨rfl, rfl, rfl, rfl⟩, ⟨rfl, rfl, rfl, rfl, rfl, rfl⟩, ⟨rfl, rfl⟩, fun b hlow hhigh => ?_⟩
  rw [step_of_pending_cons rfl]
  exact exec_powerUp_starts (.inr rfl) hhigh (fun _ => ⟨rfl, rfl⟩) (.inl hlow)

/-! ### Level and gait -/

theorem exec_levelRise_rises {s : State} (hb : s.tb % cycleTicks = 0) (hlt : level s < (levelHave s).1) :
    exec .levelRise s = .next (setLevel (levelHave s).1 (fset s R.SYS_LEVEL F.SYS_LEVEL_LIMIT (levelHave s).2)) := by
  rw [exec_levelRise, execLevelRise, if_pos hb, levelUp, if_pos hlt]

theorem exec_gaitWindow_at_end {l : List Gait} {s : State} (hrun : s.pwr.tbRun = true) (hon : domOn s 1 = true)
    (hend : s.tb % msTicks 1 = 0) : exec (.gaitWindow l) s = .next (forEach l gaitOne s) := by
  rw [exec_gaitWindow, execGaitWindow, if_neg (by simp [hrun, hon, hend])]

/-! ### Clocks -/

/-- The module is up: powered, awake, and no start is due. -/
def isUp (s : State) : Prop := s.pwr.powered = true ∧ s.pwr.asleep = false ∧ s.pwr.startDue = false

theorem not_down_of_isUp {s : State} (h : isUp s) :
    ¬(s.pwr.powered = false ∨ s.pwr.asleep = true ∨ s.pwr.startDue = true) := by
  obtain ⟨hp, ha, hd⟩ := h
  simp [hp, ha, hd]

/-- With AO and SAFE in order before and within bounds now, the measurement of REF alone decides (R23). -/
theorem exec_clockMonitorWindow_of_ao_safe {ao ref safe : Int} {s : State} (hup : isUp s) (hao : clkBad ao = false)
    (hsafe : clkBad safe = false) (haoOk : s.pwr.aoOk = true) (hsafeOk : s.pwr.safeOk = true) :
    exec (.clockMonitorWindow ao ref safe) s = .next (if clkBad ref then refLoss s else s) := by
  rw [exec_clockMonitorWindow, execClockMonitorWindow, if_neg (not_down_of_isUp hup)]
  simp [hao, hsafe, haoOk, hsafeOk]

theorem exec_clkRefLoss_of_isUp {s : State} (hup : isUp s) : exec .clkRefLoss s = .next (refLoss s) := by
  rw [exec_clkRefLoss, execClkRefLoss, if_neg (not_down_of_isUp hup)]

theorem exec_refReturn_of_lost {s : State} (hlost : s.pwr.refOk = false) :
    exec .refReturn s = .next (staged (fun x => moduleReset 8 (unfreeze x))
      (faultEnd { aoStamps s with pwr := { (aoStamps s).pwr with refOk := true, tbRun := true } } Ev.CLK_REF_LOSS [])) := by
  rw [exec_refReturn, execRefReturn, if_neg (by simp [hlost])]

/-! ### Memories and units in error -/

theorem exec_memoryErrorDetected_here {e : MemErr} {s : State} (h : memHere s e = true) :
    exec (.memoryErrorDetected e) s = .next (memErr e s) := by
  rw [exec_memoryErrorDetected, execMemoryErrorDetected, if_pos h]

theorem exec_dualRailError_lane {u : Fin 31} {s : State} (hlane : u.val ≤ 8) (hon : domOn s 1 = true) (hin : isRetired s 0 u.val = false) :
    exec (.dualRailError u) s = .next (unitRetire 0 u.val (faultCls s Ev.LANE_RETIRED [0, (u.val : Int)] 1)) := by
  rw [exec_dualRailError, execDualRailError]
  simp [hlane, hon, hin]

theorem exec_dramScrub_due {l : List MemErr} {s : State} (hon : domOn s 8 = true)
    (hdue : s.far.scrubAt + 86400 * secTicks ≤ s.stb.optTicks) :
    exec (.dramScrub l) s =
      .next (forEach (l.filter memInDram) memErr { s with far := { s.far with scrubAt := s.stb.optTicks } }) := by
  rw [exec_dramScrub, execDramScrub, if_neg (by simp [hon, hdue])]

/-- Settles O7, one command after another: under the conditions of a clause the command's guards are met. -/
theorem clockAndErrorCommandsComplete : Obligations.ClockAndErrorCommandsComplete := by
  refine ⟨fun _ hb hlt => exec_levelRise_rises hb hlt, fun _ _ hrun hon hend => exec_gaitWindow_at_end hrun hon hend, ?_, ?_,
    fun _ hp ha hd => exec_clkRefLoss_of_isUp ⟨hp, ha, hd⟩, fun _ hlost => exec_refReturn_of_lost hlost,
    fun _ _ h => exec_memoryErrorDetected_here h, fun _ _ hlane hon hin => exec_dualRailError_lane hlane hon hin,
    fun _ _ hon hdue => exec_dramScrub_due hon hdue⟩
  · intro ao ref safe s hp ha hd hao href hsafe haoOk hsafeOk
    rw [exec_clockMonitorWindow_of_ao_safe ⟨hp, ha, hd⟩ hao hsafe haoOk hsafeOk, href]
    rfl
  · intro ao ref safe s hp ha hd hao href hsafe haoOk hsafeOk
    rw [exec_clockMonitorWindow_of_ao_safe ⟨hp, ha, hd⟩ hao hsafe haoOk hsafeOk, href]
    rfl

end Sys2Proof.Proofs
end

section
/-!
PROOFS. The module's architecture: what a session needs before a command that it gives has an effect (R388 to R390, R478), and the precedence
chain of an output (R31). Each command of a session goes through one of the model's gates (`rapDo`, `jobDo`, `lgWrite`, `slotWrite`, `brdDo`).
What a gate does with a request that is not let through is proved once for each gate.
-/

open Sys2Proof Sys2Proof.Machine Sys2Proof.Laws

namespace Sys2Proof.Proofs

/-! ### What R478 refuses -/

theorem rapMay_of_no_path {s : State} (who : Nat) (act : Act) (dom : Nat) (hpath : rapPath s = false) : rapMay s who act dom = false := by
  rw [rapMay, hpath, Bool.false_and]

theorem rapMay_of_no_session {s : State} {who : Nat} (act : Act) (dom : Nat) (hsess : sessRole s who = none) : rapMay s who act dom = false := by
  rw [rapMay, hsess, Bool.and_false]

theorem rapMay_of_role {s : State} {who : Nat} {r : Role} (act : Act) (dom : Nat) (hpath : rapPath s = true) (hsess : sessRole s who = some r) :
    rapMay s who act dom = (sessMay s who act r && domOn s dom) := by
  rw [rapMay, hpath, hsess, Bool.true_and]

theorem rapRefuse_of_no_path {s : State} (who dom reg : Nat) (act : Act) (hpath : rapPath s = false) : rapRefuse s who dom reg act = s := by
  rw [rapRefuse, if_pos hpath]

theorem rapRefuse_of_no_session {s : State} {who : Nat} (dom reg : Nat) (act : Act) (hpath : rapPath s = true) (hsess : sessRole s who = none) :
    rapRefuse s who dom reg act = rapAnswer s who .noSession [] := by
  rw [rapRefuse, if_neg (by simp [hpath]), hsess]

theorem rapRefuse_of_denied {s : State} {who : Nat} {act : Act} {r : Role} (dom reg : Nat) (hpath : rapPath s = true)
    (hsess : sessRole s who = some r) (hmay : sessMay s who act r = false) :
    rapRefuse s who dom reg act = rapAnswer (writeDenied s r reg) who .denied [] := by
  simp only [rapRefuse, hpath, hsess, hmay, if_true, Bool.true_eq_false, if_false]

theorem rapRefuse_of_domain_off {s : State} {who dom : Nat} {act : Act} {r : Role} (reg : Nat) (hpath : rapPath s = true)
    (hsess : sessRole s who = some r) (hmay : sessMay s who act r = true) (hoff : domOn s dom = false) :
    rapRefuse s who dom reg act = rapAnswer s who .domainOff [] := by
  simp only [rapRefuse, hpath, hsess, hmay, hoff, if_true, Bool.true_eq_false, if_false]

/-! ### The gates a session's command goes through -/

theorem rapDo_refused {s : State} {who dom : Nat} {act : Act} (reg : Nat) (f : State → State) (hmay : rapMay s who act dom = false) :
    rapDo s who act dom reg f = rapRefuse s who dom reg act := by
  rw [rapDo, if_neg (by simp [hmay])]

theorem brdDo_refused {s : State} {who : Nat} (cmd : Nat) (roles : List Role) (f : State → Nat × State) (hmay : rapMay s who .brd 1 = false) :
    brdDo who cmd roles f s = rapRefuse s who 1 R.BRD_CMD .brd := rapDo_refused _ _ hmay

/-- The check of the contractor's jobs comes after those of R478. -/
theorem jobDo_refused {s : State} {who : Fin 36} {act : Act} (cmd job : Nat) (f : State → State) (hmay : rapMay s who.val act 8 = false) :
    jobDo (some who) act cmd job f s = rapRefuse s who.val 8 R.COV_JOB_CTRL act := by
  simp only [jobDo, hmay, Bool.false_and, Bool.false_eq_true, if_false]
  exact rapDo_refused _ _ hmay

/-- The check of the load group's owner comes after those of R478. -/
theorem lgWrite_refused {s : State} {who : Fin 36} (k reg : Nat) (f : State → State) (hmay : rapMay s who.val .duty 10 = false) :
    lgWrite (.rap who) k reg f s = rapRefuse s who.val 10 reg .duty := if_pos hmay

/-- The check of the slot's owner comes after those of R478. -/
theorem slotWrite_refused {s : State} {who : Fin 36} (c k reg : Nat) (f : State → State) (hmay : rapMay s who.val .can 7 = false) :
    slotWrite (some who) c k reg f s = rapRefuse s who.val 7 reg .can := if_pos hmay

/-- A command, listed with its action, its domain and its register, is gated for a session: where R478 does not let the request through, the
command leaves what `rapRefuse` says, and nothing else. -/
def Gated (who : Fin 36) (s : State) (x : Instr × Act × Nat × Nat) : Prop :=
  rapMay s who.val x.2.1 x.2.2.1 = false → exec x.1 s = .next (rapRefuse s who.val x.2.2.1 x.2.2.2 x.2.1)

section
variable {who : Fin 36} {s : State} {x : Instr × Act × Nat × Nat}

theorem gated_of_rapDo {f : State → State} (h : exec x.1 s = .next (rapDo s who.val x.2.1 x.2.2.1 x.2.2.2 f)) : Gated who s x :=
  fun hmay => by rw [h, rapDo_refused _ _ hmay]

theorem gated_of_brdDo {c : Instr} {cmd : Nat} {roles : List Role} {f : State → Nat × State}
    (h : exec c s = .next (brdDo who.val cmd roles f s)) : Gated who s (c, .brd, 1, R.BRD_CMD) :=
  fun hmay => by rw [h, brdDo_refused _ _ _ hmay]

theorem gated_of_jobDo {c : Instr} {act : Act} {cmd job : Nat} {f : State → State} (h : exec c s = .next (jobDo (some who) act cmd job f s)) :
    Gated who s (c, act, 8, R.COV_JOB_CTRL) :=
  fun hmay => by rw [h, jobDo_refused _ _ _ hmay]

theorem gated_of_lgWrite {c : Instr} {k reg : Nat} {f : State → State} (h : exec c s = .next (lgWrite (.rap who) k reg f s)) :
    Gated who s (c, .duty, 10, reg) :=
  fun hmay => by rw [h, lgWrite_refused _ _ _ hmay]

theorem gated_of_slotWrite {c : Instr} {ctrl k reg : Nat} {f : State → State} (h : exec c s = .next (slotWrite (some who) ctrl k reg f s)) :
    Gated who s (c, .can, 7, reg) :=
  fun hmay => by rw [h, slotWrite_refused _ _ _ _ hmay]

/-- A gated command has no effect without the path, an open session, its role's permission and its domain. -/
theorem Gated.refusals (h : Gated who s x) :
    (rapPath s = false → exec x.1 s = .next s) ∧
    (rapPath s = true → sessRole s who.val = none → exec x.1 s = .next (rapAnswer s who.val .noSession [])) ∧
    (∀ r : Role, rapPath s = true → sessRole s who.val = some r → sessMay s who.val x.2.1 r = false →
      exec x.1 s = .next (rapAnswer (writeDenied s r x.2.2.2) who.val .denied [])) ∧
    (∀ r : Role, rapPath s = true → sessRole s who.val = some r → sessMay s who.val x.2.1 r = true → domOn s x.2.2.1 = false →
      exec x.1 s = .next (rapAnswer s who.val .domainOff [])) := by
  refine ⟨fun hpath => ?_, fun hpath hsess => ?_, fun r hpath hsess hmay => ?_, fun r hpath hsess hmay hoff => ?_⟩
  · rw [h (rapMay_of_no_path _ _ _ hpath), rapRefuse_of_no_path _ _ _ _ hpath]
  · rw [h (rapMay_of_no_session _ _ hsess), rapRefuse_of_no_session _ _ _ hpath hsess]
  · rw [h (by rw [rapMay_of_role _ _ hpath hsess, hmay, Bool.false_and]), rapRefuse_of_denied _ _ hpath hsess hmay]
  · rw [h (by rw [rapMay_of_role _ _ hpath hsess, hoff, Bool.and_false]), rapRefuse_of_domain_off _ hpath hsess hmay hoff]

end

/-- Settles O46: each of the 66 commands goes through one of the gates, under the action, the domain and the register of its row. -/
theorem sessionsActOnlyInTheirRole : Obligations.SessionsActOnlyInTheirRole := by
  refine ⟨fun who s ch q w z job p x hx => Gated.refusals (List.forall_iff_forall_mem.1 ?_ x hx),
    fun who s ch q k o t l g w b ph x hx => Gated.refusals (List.forall_iff_forall_mem.1 ?_ x hx),
    fun who s q m sl z kd ix tst x hx => Gated.refusals (List.forall_iff_forall_mem.1 ?_ x hx)⟩
  · exact ⟨gated_of_rapDo (exec_activateFw ..), gated_of_rapDo (exec_fwCancel ..), gated_of_rapDo (exec_sleep ..), gated_of_rapDo (exec_stay ..),
      gated_of_rapDo (exec_imgCheck ..), gated_of_rapDo (exec_imgActivate ..), gated_of_rapDo (exec_imgAbort ..),
      gated_of_rapDo (exec_restartActivate ..), gated_of_rapDo (exec_imgRevert ..), gated_of_rapDo (exec_fbiLoad ..),
      gated_of_rapDo (exec_fbiArm ..), gated_of_rapDo (exec_fbiClear ..), gated_of_rapDo (exec_cmpValHiWrite ..), gated_of_rapDo (exec_debugHalt ..),
      gated_of_rapDo (exec_debugResume ..), gated_of_jobDo (exec_jobLoad ..), gated_of_jobDo (exec_jobStart ..), gated_of_jobDo (exec_jobSuspend ..),
      gated_of_jobDo (exec_jobResume ..), gated_of_jobDo (exec_jobClose ..), gated_of_jobDo (exec_jobDiscard ..), gated_of_rapDo (exec_jobExport ..),
      gated_of_jobDo (exec_addExcl ..)⟩
  · exact ⟨gated_of_rapDo (exec_masterWrite ..), gated_of_rapDo (exec_secswWrite ..), gated_of_rapDo (exec_stallWrite ..),
      gated_of_rapDo (exec_modeReqWrite ..), gated_of_rapDo (exec_alleySet ..), gated_of_rapDo (exec_alleyOrient ..),
      gated_of_lgWrite (exec_shadowWrite ..), gated_of_rapDo (exec_forceCommit ..), gated_of_rapDo (exec_forceClearAll ..),
      gated_of_rapDo (exec_tripClear ..), gated_of_rapDo (exec_wdSuspendWrite ..), gated_of_rapDo (exec_channelClear ..),
      gated_of_rapDo (exec_hbClear ..), gated_of_rapDo (exec_loopAuto ..), gated_of_rapDo (exec_loopManual ..), gated_of_rapDo (exec_curbAuto ..),
      gated_of_rapDo (exec_curbManual ..), gated_of_rapDo (exec_traceArm ..), gated_of_rapDo (exec_traceStop ..),
      gated_of_rapDo (exec_traceForce ..), gated_of_rapDo (exec_injStop ..)⟩
  · exact ⟨gated_of_rapDo (exec_canRecover ..), gated_of_rapDo (exec_canModeWrite ..), gated_of_slotWrite (exec_slotArm ..),
      gated_of_slotWrite (exec_slotAbort ..), gated_of_rapDo (exec_handover ..), gated_of_brdDo (exec_enrollOwner ..),
      gated_of_brdDo (exec_bindLivery ..), gated_of_brdDo (exec_selectLivery ..), gated_of_brdDo (exec_installLease ..),
      gated_of_brdDo (exec_revokeLease ..), gated_of_brdDo (exec_closeLease ..), gated_of_brdDo (exec_transfer ..), gated_of_brdDo (exec_reclaim ..),
      gated_of_brdDo (exec_unlock ..), gated_of_brdDo (exec_relock ..), gated_of_rapDo (exec_retest ..), gated_of_rapDo (exec_farrierPause ..),
      gated_of_rapDo (exec_farrierResume ..), gated_of_rapDo (exec_freeze ..), gated_of_rapDo (exec_unfreeze ..), gated_of_rapDo (exec_stbExport ..),
      gated_of_rapDo (exec_collect ..)⟩

/-! ### The precedence chain (R31) -/

section
variable {s : State} {n : Nat}

/-- A channel that a level sets off or on is at that value now. -/
theorem chain_sets {k : Nat} {d : Drive} {b : Bool} (h : chain s n = (k, d)) (hd : d = driveOf b) : chain s n = (k, d) ∧ actualOn s n = b := by
  refine ⟨h, ?_⟩
  rw [actualOn, h, hd]
  cases b <;> rfl

theorem chain_of_cutOff (hcut : cutOff s n = true) : chain s n = (1, .off) := by
  rw [chain, if_pos hcut]

theorem chain_of_stuckOn (hcut : cutOff s n = false) (hstuck : fbit s (R.LSW_CH_STAT n) F.LSW_CH_STAT_STUCK_ON = true) :
    chain s n = (0, .on) := by
  simp only [chain, hcut, hstuck, Bool.false_eq_true, if_false, if_true]

theorem chain_of_protOff (hcut : cutOff s n = false) (hstuck : fbit s (R.LSW_CH_STAT n) F.LSW_CH_STAT_STUCK_ON = false)
    (hprot : protOff s n = true) : chain s n = (2, .off) := by
  simp only [chain, hcut, hstuck, hprot, Bool.false_eq_true, if_false, if_true]

theorem chain_eq_cmdDrive (hcut : cutOff s n = false) (hstuck : fbit s (R.LSW_CH_STAT n) F.LSW_CH_STAT_STUCK_ON = false)
    (hprot : protOff s n = false) : chain s n = cmdDrive s n := by
  simp only [chain, hcut, hstuck, hprot, Bool.false_eq_true, if_false]

/-- AO is lost, or L0 is lost while awake: every output is in its safe state (R8, R23). -/
def safeForced (s : State) : Prop := s.pwr.aoOk = false ∨ (l0Ok s = false ∧ s.pwr.asleep = false)

theorem not_safeForced (hao : s.pwr.aoOk = true) (hl0 : l0Ok s = true ∨ s.pwr.asleep = true) : ¬safeForced s := by
  rcases hl0 with h | h <;> simp [safeForced, hao, h]

theorem cmdDrive_of_safeForced (hsafe : safeForced s) : cmdDrive s n = (5, driveOf (safeOn s n)) := if_pos hsafe

theorem cmdDrive_of_tripOff (hsafe : ¬safeForced s) (htrip : tripOff s (groupOf s n) = true) : cmdDrive s n = (3, .off) :=
  (if_neg hsafe).trans (if_pos htrip)

theorem cmdDrive_of_halter {i : Nat} (hsafe : ¬safeForced s) (htrip : tripOff s (groupOf s n) = false) (hact : halterActive s = true)
    (hin : halterIn s n = some i) : cmdDrive s n = (4, driveOf (halterOn s n i)) := by
  rw [cmdDrive, if_neg (by exact hsafe), htrip, hact, hin]
  rfl

theorem cmdDrive_of_no_halter (hsafe : ¬safeForced s) (htrip : tripOff s (groupOf s n) = false)
    (hhalter : halterActive s = false ∨ halterIn s n = none) : cmdDrive s n = (5, lowDrive s n) := by
  have hnone : (if halterActive s then halterIn s n else none) = none := by
    rcases hhalter with h | h <;> simp [h]
  rw [cmdDrive, if_neg (by exact hsafe), htrip, hnone]
  rfl

/-- A channel that is powered, owned and driven by its gate takes the generator's value (R33, R247, R349). -/
theorem lowDrive_eq_genDrive (hawake : s.pwr.asleep = false) (hpow : s.pwr.powered = true) (hdom : domPow s 10 = true)
    (hpair : s.pwm.pairBad.contains n = false) (hside : sidelined s = false) (hheld : s.pwm.held = none)
    (howned : fbit s R.PWM_STATUS F.PWM_STATUS_OWNED = true) (hlive : gateLive s = true) : lowDrive s n = genDrive s n := by
  simp only [lowDrive, hawake, hpow, hdom, hpair, hside, hheld, howned, hlive, Bool.true_eq_false, Bool.false_eq_true, or_self, if_false, if_true]

theorem genDrive_of_unused (hrole : roleOf s n = .unused) : genDrive s n = .off := if_pos hrole

theorem genDrive_of_force (hrole : roleOf s n ≠ .unused) :
    (forceOf s n (groupOf s n) = 1 → genDrive s n = .off) ∧ (forceOf s n (groupOf s n) = 2 → genDrive s n = .on) ∧
    (forceOf s n (groupOf s n) = 3 → genDrive s n = .wave) := by
  refine ⟨fun h => ?_, fun h => ?_, fun h => ?_⟩ <;> simp only [genDrive, if_neg hrole, h]

theorem genDrive_of_no_force (hrole : roleOf s n ≠ .unused) (hforce : forceOf s n (groupOf s n) = 0) :
    genDrive s n = if (outEnt s n).isSome && !gateOn s n then .off else .wave := by
  simp only [genDrive, if_neg hrole, hforce]

end

/-- Settles O48, level by level down the chain; below the halter the generator decides. -/
theorem precedenceChain : Obligations.PrecedenceChain := by
  refine ⟨fun s n hcut => chain_sets (chain_of_cutOff hcut) rfl,
    fun s n hcut => ⟨fun hstuck => chain_sets (chain_of_stuckOn hcut hstuck) rfl, fun hstuck => ?_⟩,
    fun s n hawake hpow hdom hpair hside hheld howned hlive => ?_⟩
  · refine ⟨fun hprot => chain_sets (chain_of_protOff hcut hstuck hprot) rfl, fun hprot hlost => ?_, fun hprot hao hl0 => ?_⟩
    all_goals have hcmd := chain_eq_cmdDrive hcut hstuck hprot
    · exact chain_sets (hcmd.trans (cmdDrive_of_safeForced hlost)) rfl
    · have hsafe := not_safeForced hao hl0
      refine ⟨fun htrip => ?_, fun htrip => ⟨fun i hact hin => ?_, fun hhalter => ?_⟩⟩
      · exact chain_sets (hcmd.trans (cmdDrive_of_tripOff hsafe htrip)) rfl
      · exact chain_sets (hcmd.trans (cmdDrive_of_halter hsafe htrip hact hin)) rfl
      · exact hcmd.trans (cmdDrive_of_no_halter hsafe htrip hhalter)
  · rw [lowDrive_eq_genDrive hawake hpow hdom hpair hside hheld howned hlive]
    refine ⟨genDrive_of_unused, fun hrole => ?_⟩
    obtain ⟨hoff, hon, hwave⟩ := genDrive_of_force hrole
    refine ⟨hoff, hon, hwave, fun hforce hent hgate => ?_, fun hforce hgate => ?_⟩
    · rw [genDrive_of_no_force hrole hforce, hent, hgate]
      rfl
    · rw [genDrive_of_no_force hrole hforce, hgate, Bool.not_true, Bool.and_false]
      rfl

end Sys2Proof.Proofs
end

section
/-!
PROOFS. The harness image: the anti-rollback counts of OTP (R46, R468) and the image store's commands (R47, R50, R54 to R56, R60, R297). A command
of a session that is let through runs its operation and answers OK. What the operation comes to under each of its guards is a lemma of its own.
-/

open Sys2Proof Sys2Proof.Machine Sys2Proof.Laws

namespace Sys2Proof.Proofs

/-! ### The anti-rollback counts -/

/-- Settles O40: neither count falls under what `Kept` lists, and taking a command off the queue touches neither. -/
theorem otpCountsNeverFall : Obligations.OtpCountsNeverFall := by
  intro s t hstep
  obtain ⟨q, hkept⟩ := step_kept hstep
  exact ⟨hkept.svn, hkept.fwSvn⟩

/-! ### A session's command that is let through -/

theorem rapDo_allowed {s : State} {who dom : Nat} {act : Act} (reg : Nat) (f : State → State) (hmay : rapMay s who act dom = true) :
    rapDo s who act dom reg f = rapAnswer (f s) who .ok [] := by
  rw [rapDo, if_pos hmay]

section
variable {s : State} {c : Container} {C : Nat}

/-! ### Validation (R47) -/

theorem checkPending_of_pending (hc : s.img.slotPending = some c) :
    checkPending s =
      imgChecked c (imageStage s c (posOf s)).1 (imageStage s c (posOf s)).2.1 (setImgState (imageStage s c (posOf s)).2.2
        { s with img := { s.img with teamWide := (imageStage s c (posOf s)).1 == 10 || teamClass s c (posOf s) } }) := by
  rw [checkPending, hc]

theorem imgRefuse_of_pending (code : Nat) (hc : s.img.slotPending = some c) : imgRefuse code s = imgChecked c code 255 s := by
  rw [imgRefuse, hc]

theorem imgRefuse_of_no_pending (code : Nat) (hc : s.img.slotPending = none) : imgRefuse code s = setImgErr code 255 s := by
  rw [imgRefuse, hc]

theorem exec_imgCheck_idle {who : Fin 36} (hmay : rapMay s who.val .image 9 = true) (hidle : swapBusy s = false) :
    exec (.imgCheck who) s = .next (rapAnswer (checkPending s) who.val .ok []) := by
  rw [exec_imgCheck, execImgCheck, rapDo_allowed _ _ hmay, hidle, if_neg Bool.false_ne_true]

/-! ### Activation, abort, restart and revert (R50, R54, R55, R60) -/

theorem activate_of_busy (hbusy : swapBusy s = true) : activate s = imgRefuse 14 s := by
  rw [activate, if_pos hbusy]

/-- A module alone prepares its swap for the first boundary that is at least 250 cycles ahead. -/
theorem activate_alone (hidle : swapBusy s = false) (hstaged : imgState s = 3) (halone : otherMembers s = []) :
    activate s = prepare (boundaryFrom (s.tb + 250 * cycleTicks)) s := by
  simp only [activate, hidle, hstaged, halone, Bool.false_eq_true, ne_eq, not_true_eq_false, false_and, if_false, if_true]

theorem exec_imgActivate_allowed {who : Fin 36} (hmay : rapMay s who.val .image 9 = true) :
    exec (.imgActivate who) s = .next (rapAnswer (activate s) who.val .ok []) := by
  rw [exec_imgActivate, execImgActivate, rapDo_allowed _ _ hmay]

theorem exec_imgAbort_early {who : Fin 36} (hmay : rapMay s who.val .image 9 = true) (hC : s.img.swapC = some C)
    (hearly : s.tb + cycleTicks < C) (hstate : imgState s ≠ 6) (halone : otherMembers s = []) :
    exec (.imgAbort who) s = .next (rapAnswer (leaderAbort s) who.val .ok []) := by
  rw [exec_imgAbort, execImgAbort, rapDo_allowed _ _ hmay]
  simp [hC, hearly, hstate, halone]

theorem exec_restartActivate_allowed {who : Fin 36} (hmay : rapMay s who.val .image 9 = true) :
    exec (.restartActivate who) s = .next (rapAnswer (restartActivate s) who.val .ok []) := by
  rw [exec_restartActivate, execRestartActivate, rapDo_allowed _ _ hmay]

theorem exec_imgRevert_idle {who : Fin 36} (hmay : rapMay s who.val .image 9 = true) (hidle : swapBusy s = false) :
    exec (.imgRevert who) s = .next (rapAnswer (revert s) who.val .ok []) := by
  rw [exec_imgRevert, execImgRevert, rapDo_allowed _ _ hmay, hidle, if_neg Bool.false_ne_true]

/-! ### Distribution in the team (R55, R56) -/

/-- A member takes the image into PENDING, validates it there and tells the leader what came of it. -/
theorem exec_teamImage_member (hstore : domOn s 9 = true) (hcore : domOn s 1 = true) (hidle : swapBusy s = false)
    (hmember : isLeader s = false) :
    exec (.teamImage c) s = .next (
      let t := checkPending { s with img := { s.img with slotPending := some c, uploaded := true } }
      toLeader t MsgKind.STAGED_OK [(midOf s : Int), (fget t R.IMG_STATUS F.IMG_STATUS_ERR : Int)]) := by
  rw [exec_teamImage, execTeamImage, if_neg (by simp [hstore, hcore]), hidle, if_neg Bool.false_ne_true]
  simp only [hmember, if_true]

/-- The leader has sent the image and member `m` has still to acknowledge it. -/
def awaits (s : State) (m : Fin 64) : Prop := isLeader s = true ∧ s.img.sending = true ∧ m.val ∈ s.img.acks

theorem not_unawaited_of_awaits {m : Fin 64} (h : awaits s m) :
    ¬(isLeader s = false ∨ s.img.sending = false ∨ m.val ∉ s.img.acks) := by
  obtain ⟨hlead, hsending, hack⟩ := h
  simp [hlead, hsending, hack]

theorem exec_stagedOk_late {m : Fin 64} {code : Fin 256} (h : awaits s m) (hlate : s.img.sentAt + 2 * secTicks < s.tb) :
    exec (.stagedOk m code) s = .next (leaderAbort s) := by
  rw [exec_stagedOk, execStagedOk, if_neg (not_unawaited_of_awaits h), if_pos hlate]

theorem exec_stagedOk_error {m : Fin 64} {code : Fin 256} (h : awaits s m) (hintime : s.tb ≤ s.img.sentAt + 2 * secTicks)
    (herr : code.val ≠ 0 ∧ code.val ≠ 10 ∧ code.val ≠ 11) :
    exec (.stagedOk m code) s = .next (leaderAbort (setImgErr code.val 255 s)) := by
  rw [exec_stagedOk, execStagedOk, if_neg (not_unawaited_of_awaits h), if_neg (Nat.not_lt.2 hintime), if_pos herr]

theorem exec_stagedOk_more {m : Fin 64} (h : awaits s m) (hintime : s.tb ≤ s.img.sentAt + 2 * secTicks)
    (hmore : s.img.acks.filter (· != m.val) ≠ []) :
    exec (.stagedOk m 0) s = .next { s with img := { s.img with acks := s.img.acks.filter (· != m.val), ackAt := s.tb } } := by
  have hcode : ((0 : Fin 256).val == 10) = false := rfl
  rw [exec_stagedOk, execStagedOk, if_neg (not_unawaited_of_awaits h), if_neg (Nat.not_lt.2 hintime), if_neg (by simp)]
  simp only [if_pos hmore, hcode, Bool.or_false]
  rfl

theorem exec_stagingTimeout_due (hlead : isLeader s = true) (hsending : s.img.sending = true) (hacks : s.img.acks ≠ [])
    (hdue : s.img.sentAt + 2 * secTicks ≤ s.tb) : exec .stagingTimeout s = .next (leaderAbort s) := by
  rw [exec_stagingTimeout, execStagingTimeout, if_pos ⟨hlead, hsending, hacks, hdue⟩]

theorem exec_prepare_member (hmember : isLeader s = false) (hstaged : imgState s = 3) (hboundary : C % cycleTicks = 0)
    (hahead : s.tb + cycleTicks < C) :
    exec (.prepare C) s = .next (toLeader (prepare C s) MsgKind.PREPARE_ACK [(midOf s : Int)]) := by
  rw [exec_prepare, execPrepare, if_neg (by simp [hmember, hstaged, hboundary, hahead])]

theorem exec_swapAbort_member (hmember : isLeader s = false) (hC : s.img.swapC = some C) (hearly : s.tb + cycleTicks < C)
    (hprepared : imgState s = 5) : exec .swapAbort s = .next (swapDrop s) := by
  rw [exec_swapAbort, execSwapAbort]
  simp [hmember, hC, hearly, hprepared]

/-! ### The swap and the restart of the team (R50 to R52, R54, R297) -/

/-- In a swap that takes in no loop group the quiesce cycle's start shows STATE 6, and no injection ends. -/
theorem exec_swapQuiesceStart_no_loops (hC : s.img.swapC = some C) (hprepared : imgState s = 5) (hdue : C ≤ s.tb + cycleTicks)
    (hcore : domOn s 1 = true) (hloops : s.img.loopSwap = false) :
    exec .swapQuiesceStart s = .next (fset s R.IMG_STATUS F.IMG_STATUS_STATE 6) := by
  rw [exec_swapQuiesceStart, execSwapQuiesceStart, hC]
  simp [hprepared, Nat.not_lt.2 hdue, hcore, hloops, whenB, setImgState]

theorem exec_swapCommit_due (hC : s.img.swapC = some C) (hc : s.img.slotPending = some c) (hquiesced : imgState s = 6) (hdue : C ≤ s.tb)
    (hcore : domOn s 1 = true) : exec .swapCommit s = .next (staged (swapCommit C c) s) := by
  rw [exec_swapCommit, execSwapCommit, hC, hc]
  simp [hquiesced, Nat.not_lt.2 hdue, hcore]

theorem exec_teamRestart_due {b : Nat} (hb : s.img.restartAt = some b) (hdue : b ≤ s.tb) :
    exec .teamRestart s = .next (restartInto s) := by
  rw [exec_teamRestart, execTeamRestart, hb]
  simp [Nat.not_lt.2 hdue]

end

/-- Settles O8, one command after another: under the conditions of a clause the command's guards are met. -/
theorem imageStoreCommandsComplete : Obligations.ImageStoreCommandsComplete := by
  refine ⟨fun who s c hmay hidle hc => ?_, fun who s hmay hidle hstaged halone => ?_, fun who s c hmay hbusy hc => ?_,
    fun who s hmay hbusy hc => ?_, fun _ _ _ hmay hC hearly hstate halone => exec_imgAbort_early hmay hC hearly hstate halone,
    fun _ _ hmay => exec_restartActivate_allowed hmay, fun _ _ hmay hidle => exec_imgRevert_idle hmay hidle,
    fun _ _ hstore hcore hidle hmember => exec_teamImage_member hstore hcore hidle hmember,
    fun _ _ _ hlead hsending hack h0 h10 h11 hintime => exec_stagedOk_error ⟨hlead, hsending, hack⟩ hintime ⟨h0, h10, h11⟩,
    fun _ _ hlead hsending hack hmore hintime => exec_stagedOk_more ⟨hlead, hsending, hack⟩ hintime hmore,
    fun _ _ _ hlead hsending hack hlate => exec_stagedOk_late ⟨hlead, hsending, hack⟩ hlate,
    fun _ hlead hsending hacks hdue => exec_stagingTimeout_due hlead hsending hacks hdue,
    fun _ _ hmember hstaged hboundary hahead => exec_prepare_member hmember hstaged hboundary hahead,
    fun _ _ hmember hC hearly hprepared => exec_swapAbort_member hmember hC hearly hprepared,
    fun _ _ hC hprepared hdue hcore hloops => exec_swapQuiesceStart_no_loops hC hprepared hdue hcore hloops,
    fun _ _ _ hC hc hquiesced hdue hcore => exec_swapCommit_due hC hc hquiesced hdue hcore,
    fun _ _ hb hdue => exec_teamRestart_due hb hdue⟩
  · rw [exec_imgCheck_idle hmay hidle, checkPending_of_pending hc]
  · rw [exec_imgActivate_allowed hmay, activate_alone hidle hstaged halone]
  · rw [exec_imgActivate_allowed hmay, activate_of_busy hbusy, imgRefuse_of_pending _ hc]
  · rw [exec_imgActivate_allowed hmay, activate_of_busy hbusy, imgRefuse_of_no_pending _ hc]

end Sys2Proof.Proofs
end

section
/-!
PROOFS. The model of the machine: the commands of joints (R63 to R65, R74, R75), the delays of an output by its pressure (R71, R72), and the
commands of pose records, corrections, external pose, speed and inertial samples (R129 to R137, R456).
-/

open Sys2Proof Sys2Proof.Machine Sys2Proof.Laws

namespace Sys2Proof.Proofs

/-! ### The points of a delay table -/

theorem delayAt_of_le_first {p : Int} {d0 d1 : DelayPt} (ds : List DelayPt) (hp : p ≤ d0.p) :
    delayAt p (d0 :: d1 :: ds) = (d0.on, d0.off, decide (p < d0.p)) := by
  rw [delayAt, if_pos hp]

theorem delayAt_of_past_second {p : Int} {d0 d1 : DelayPt} (ds : List DelayPt) (h0 : d0.p < d1.p) (h1 : (d1.p : Int) ≤ p) :
    delayAt p (d0 :: d1 :: ds) = delayAt p (d1 :: ds) := by
  rw [delayAt, if_neg (by omega), if_neg (by omega)]

theorem delayAt_single_of_ge {p : Int} {d : DelayPt} (hp : (d.p : Int) ≤ p) : delayAt p [d] = (d.on, d.off, decide ((d.p : Int) < p)) := by
  have hclamp : p ≠ d.p ↔ (d.p : Int) < p := by omega
  simp only [delayAt, hclamp]

/-- Rising points whose successor lies at or below the pressure are passed over. -/
theorem delayAt_append {p : Int} {a : DelayPt} (ds : List DelayPt) (hp : (a.p : Int) ≤ p) :
    ∀ pre : List DelayPt, ((pre ++ a :: ds).map (·.p)).Pairwise (· < ·) → delayAt p (pre ++ a :: ds) = delayAt p (a :: ds)
  | [], _ => rfl
  | [d], hrise => by
    have hlt : d.p < a.p := List.rel_of_pairwise_cons hrise (by simp)
    exact delayAt_of_past_second ds hlt hp
  | d :: e :: pre, hrise => by
    have hde : d.p < e.p := List.rel_of_pairwise_cons hrise (by simp)
    have hea : e.p < a.p := List.rel_of_pairwise_cons hrise.of_cons (by simp)
    exact (delayAt_of_past_second _ hde (by omega)).trans (delayAt_append ds hp (e :: pre) hrise.of_cons)

/-! ### The rounded line between two points (R71) -/

/-- `den` times the value at pressure `p` of the straight line from `x0` at `p0` on, that rises by `x1 - x0` in `den`. -/
def lineAt (p p0 den : Int) (x0 x1 : Nat) : Int := x0 * den + (p - p0) * ((x1 : Int) - x0)

/-- `q` is the integer nearest to `n / den`, of two equally near the greater. -/
def IsNearest (den n : Int) (q : Nat) : Prop := 2 * den * q ≤ 2 * n + den ∧ 2 * n + den < 2 * den * (q + 1)

theorem lineAt_start (p den : Int) (x0 x1 : Nat) : lineAt p p den x0 x1 = x0 * den := by
  rw [lineAt, Int.sub_self, Int.zero_mul, Int.add_zero]

/-- The line lies between its end values, of which neither is negative. -/
theorem lineAt_nonneg {p p0 den : Int} (x0 x1 : Nat) (h0 : p0 ≤ p) (h1 : p ≤ p0 + den) : 0 ≤ lineAt p p0 den x0 x1 := by
  have hmean : lineAt p p0 den x0 x1 = x0 * (p0 + den - p) + x1 * (p - p0) := by
    rw [lineAt]
    ring
  have hleft : 0 ≤ p0 + den - p := by omega
  have hright : 0 ≤ p - p0 := by omega
  rw [hmean]
  positivity

theorem isNearest_div {den n : Int} (hden : 0 < den) (hn : 0 ≤ n) : IsNearest den n ((2 * n + den) / (2 * den)).toNat := by
  have hq : 0 ≤ (2 * n + den) / (2 * den) := Int.ediv_nonneg (by omega) (by omega)
  rw [IsNearest, Int.toNat_of_nonneg hq]
  rw [mul_add_one]
  exact ⟨Int.mul_ediv_self_le (by omega), Int.lt_mul_ediv_self_add (by omega)⟩

theorem isNearest_exact {den : Int} (hden : 0 < den) (q : Nat) : IsNearest den (q * den) q := by
  constructor <;> linarith

/-- Between two points both delays are those of the line, rounded. -/
theorem delayAt_isNearest {p : Int} {a b : DelayPt} (ds : List DelayPt) (ha : (a.p : Int) ≤ p) (hb : p < b.p) :
    IsNearest (b.p - a.p) (lineAt p a.p (b.p - a.p) a.on b.on) (delayAt p (a :: b :: ds)).1 ∧
      IsNearest (b.p - a.p) (lineAt p a.p (b.p - a.p) a.off b.off) (delayAt p (a :: b :: ds)).2.1 := by
  have hden : (0 : Int) < b.p - a.p := by omega
  rcases ha.eq_or_lt with rfl | hlt
  · rw [delayAt_of_le_first ds le_rfl, lineAt_start, lineAt_start]
    exact ⟨isNearest_exact hden a.on, isNearest_exact hden a.off⟩
  · have hline (x0 x1 : Nat) : 0 ≤ lineAt p a.p (b.p - a.p) x0 x1 := lineAt_nonneg x0 x1 ha (by omega)
    rw [delayAt, if_neg (by omega), if_pos hb]
    exact ⟨isNearest_div hden (hline a.on b.on), isNearest_div hden (hline a.off b.off)⟩

/-! ### The delays of an output (R71, R72) -/

theorem outDelay_of_no_pressure {s : State} {o : OutEnt} {d : DelayPt} {ds : List DelayPt} (hd : o.delays = d :: ds)
    (hnone : o.press.bind (pressOf s) = none) : outDelay s o = (d.on, d.off, false) := by
  rw [outDelay, hd, hnone]

theorem outDelay_of_one_point {s : State} {o : OutEnt} {d : DelayPt} (hd : o.delays = [d]) : outDelay s o = (d.on, d.off, false) := by
  rw [outDelay, hd]
  cases o.press.bind (pressOf s) <;> rfl

theorem outDelay_eq_delayAt {s : State} {o : OutEnt} {k : PressSrc} (hk : o.press.bind (pressOf s) = some k) (hlen : 2 ≤ o.delays.length) :
    outDelay s o = delayAt (pressNow s k) o.delays := by
  rw [outDelay, hk]
  match o.delays, hlen with
  | _ :: _ :: _, _ => rfl

/-- At or past a point of a rising table the points before it have no part in the delays. -/
theorem outDelay_from_point {s : State} {o : OutEnt} {k : PressSrc} {a : DelayPt} {pre ds : List DelayPt} (hd : o.delays = pre ++ a :: ds)
    (hlen : 2 ≤ o.delays.length) (hrise : (o.delays.map (·.p)).Pairwise (· < ·)) (hk : o.press.bind (pressOf s) = some k)
    (ha : (a.p : Int) ≤ pressNow s k) : outDelay s o = delayAt (pressNow s k) (a :: ds) := by
  rw [outDelay_eq_delayAt hk hlen, hd]
  exact delayAt_append ds ha pre (hd ▸ hrise)

theorem pressNow_of_invalid {s : State} {k : PressSrc} (hbad : (pressSt s k.idx).ok = false) : pressNow s k = k.pref := by
  rw [pressNow, hbad, if_neg Bool.false_ne_true]

/-- Settles O52: the walk along the table stops at the point at or below the pressure, and the line from there on is rounded. -/
theorem delaysByPressure : Obligations.DelaysByPressure := by
  refine ⟨fun s o d ds hd hone => ?_, fun s o k d0 d1 ds hd hk hle => ?_, fun s o k ds l hd hne hrise hk hge => ?_,
    fun s o k pre post a b p den hd hrise hk hp hden ha hb => ?_, fun _ _ hbad => pressNow_of_invalid hbad⟩
  · rcases hone with hnone | rfl
    · exact outDelay_of_no_pressure hd hnone
    · exact outDelay_of_one_point hd
  · rw [outDelay_eq_delayAt hk (by simp [hd]), hd, delayAt_of_le_first ds hle]
  · have hlen : 2 ≤ o.delays.length := by
      have := List.length_pos_of_ne_nil hne
      simp only [hd, List.length_append, List.length_singleton]
      omega
    rw [outDelay_from_point hd hlen hrise hk hge, delayAt_single_of_ge hge]
  · subst hp hden
    have hlen : 2 ≤ o.delays.length := by
      simp only [hd, List.length_append, List.length_cons]
      omega
    rw [outDelay_from_point hd hlen hrise hk ha]
    exact delayAt_isNearest post ha hb

/-! ### Joints: failure and return of a source (R63 to R65) -/

/-- What the module holds of a link, by chain and link. -/
abbrev jointSt (s : State) (c l : Nat) : LinkSt := linkSt s (linkNo s c l)

/-- SRC1 of a link, or its SRC2. -/
abbrev srcOf (k : Link) (second : Bool) : JointSrc := if second then k.src2 else k.src1

/-- The tick from which a source counts as failed: three of its own periods after its last valid sample (R64). -/
abbrev failsAt (s : State) (c l : Nat) (k : Link) (second : Bool) : Nat :=
  (if second then (jointSt s c l).at2 else (jointSt s c l).at1) + 3 * jointPeriod s (srcOf k second)

theorem jointFail_of_fixed {c l : Nat} {k : Link} {second : Bool} {s : State} (hsrc : srcOf k second = .fixed) :
    jointFail c l k second s = s := by
  rw [jointFail, if_pos hsrc]

/-- SRC1 fails while SRC2 works: the failure is held, and the run of valid snapshots of SRC1 starts again. -/
theorem jointFail_src1 {c l : Nat} {k : Link} {s : State} (hsrc : k.src1 ≠ .fixed) (hssi : ∀ p, k.src1 ≠ .ssi p)
    (h2 : (jointSt s c l).s2Fail = false) :
    jointFail c l k false s = linkReg (setLink s (linkNo s c l) { jointSt s c l with s1Fail := true, good := 0 }) c l := by
  simp only [jointFail, Bool.false_eq_true, if_false, if_neg hsrc, h2, Bool.and_false, Bool.false_and, whenB]

/-- SRC2 fails after SRC1, with no other resort taken yet: the value in use is held. -/
theorem jointFail_src2_holds {c l : Nat} {k : Link} {s : State} (hsrc : k.src2 ≠ .fixed) (hssi : ∀ p, k.src2 ≠ .ssi p)
    (h1 : (jointSt s c l).s1Fail = true) (hfall : (jointSt s c l).fall = false) (hdead : (jointSt s c l).dead = false)
    (hheld : (jointSt s c l).held = false) :
    jointFail c l k true s = linkReg (raise (setLink s (linkNo s c l) { jointSt s c l with s2Fail := true, held := true, heldAt := s.tb })
      Ev.GEOM_HELD [(c : Int), (l : Int), 1]) c l := by
  simp only [jointFail, if_true, if_neg hsrc, h1, hfall, hdead, hheld, whenB, Bool.not_false, Bool.and_self]

theorem exec_jointSourceFail_due {c : Fin 32} {l : Fin 8} {second : Bool} {k : Link} {s : State} (hk : linkOf s c.val l.val = some k)
    (hdue : failsAt s c l k second ≤ s.tb) : exec (.jointSourceFail c l second) s = .next (jointFail c l k second s) := by
  rw [exec_jointSourceFail, execJointSourceFail, hk]
  simp only [if_neg (Nat.not_lt.2 hdue)]

theorem exec_jointSourceFail_early {c : Fin 32} {l : Fin 8} {second : Bool} {k : Link} {s : State} (hk : linkOf s c.val l.val = some k)
    (hearly : s.tb < failsAt s c l k second) : exec (.jointSourceFail c l second) s = .next s := by
  rw [exec_jointSourceFail, execJointSourceFail, hk]
  simp only [if_pos hearly]

/-- A FIXED source never fails (R63), however long ago its last sample is. -/
theorem exec_jointSourceFail_fixed {c : Fin 32} {l : Fin 8} {second : Bool} {k : Link} {s : State} (hk : linkOf s c.val l.val = some k)
    (hsrc : srcOf k second = .fixed) : exec (.jointSourceFail c l second) s = .next s := by
  rcases Nat.lt_or_ge s.tb (failsAt s c l k second) with hearly | hdue
  · exact exec_jointSourceFail_early hk hearly
  · rw [exec_jointSourceFail_due hk hdue, jointFail_of_fixed hsrc]

section
variable {c : Fin 32} {l : Fin 8} {k : Link} {s : State}

theorem exec_jointSrc1Return_from_src2 (hk : linkOf s c.val l.val = some k) (h1 : (jointSt s c l).s1Fail = true)
    (hgood : 10 ≤ (jointSt s c l).good) (hsec : (jointSt s c l).onSec = true) :
    exec (.jointSrc1Return c l) s =
      .next (linkReg (faultEnd (setLink s (linkNo s c l) { jointSt s c l with s1Fail := false, good := 0, onSec := false }) Ev.GEOM_SECONDARY
        [(c.val : Int), (l.val : Int)]) c l) := by
  rw [exec_jointSrc1Return, execJointSrc1Return, hk]
  simp only [h1, Nat.not_lt.2 hgood, hsec, whenB, if_true, Bool.true_eq_false, or_self, if_false]

/-! ### The end of HOLD (R65) -/

theorem exec_jointHoldExpiry_fixed (hk : linkOf s c.val l.val = some k) (hheld : (jointSt s c l).held = true) (hpolicy : k.fixed = true)
    (hdue : (jointSt s c l).heldAt + msTicks k.hold ≤ s.tb) :
    exec (.jointHoldExpiry c l) s =
      .next (linkReg (fault (raise (setLink s (linkNo s c l) { jointSt s c l with held := false, fall := true, value := k.fallback })
        Ev.GEOM_HELD [(c.val : Int), (l.val : Int), 0]) Ev.GEOM_FALLBACK [(c.val : Int), (l.val : Int)]) c l) := by
  rw [exec_jointHoldExpiry, execJointHoldExpiry, hk]
  simp only [hheld, Nat.not_lt.2 hdue, hpolicy, Bool.true_eq_false, or_self, if_false, if_true]

theorem exec_jointHoldExpiry_off (hk : linkOf s c.val l.val = some k) (hheld : (jointSt s c l).held = true) (hpolicy : k.fixed = false)
    (hdue : (jointSt s c l).heldAt + msTicks k.hold ≤ s.tb) :
    exec (.jointHoldExpiry c l) s =
      .next (linkReg (chainBit (fault (raise (setLink s (linkNo s c l) { jointSt s c l with held := false, dead := true })
        Ev.GEOM_HELD [(c.val : Int), (l.val : Int), 0]) Ev.GEOM_INVALID [(c.val : Int)]) c true) c l) := by
  rw [exec_jointHoldExpiry, execJointHoldExpiry, hk]
  simp only [hheld, Nat.not_lt.2 hdue, hpolicy, Bool.true_eq_false, Bool.false_eq_true, or_self, if_false]

end

/-! ### The pair difference (R74) -/

section
variable {c l : Nat} {k : Link} {theirs : Int} {B : Nat} {s : State}

/-- A difference in the cycle after the last one lengthens the run; the 50th is reported. -/
theorem pairDiff_lengthens_run (hdiff : pairDiffers k (jointSt s c l).value theirs = true) (hnext : (jointSt s c l).diffB + cycleTicks = B) :
    pairDiff c l k theirs B s =
      whenB ((jointSt s c l).diff + 1 == 50) (fun s => fault s Ev.GEOM_PAIR_DIFF [c, l])
        (setLink s (linkNo s c l) { jointSt s c l with diff := (jointSt s c l).diff + 1, diffB := B }) := by
  have hnew : ¬B ≤ (jointSt s c l).diffB := by
    rw [← hnext, cycleTicks]
    omega
  simp only [pairDiff, hnew, hdiff, hnext, false_and, if_false, if_true, Bool.true_eq_false]

/-- A cycle without a difference ends a run that has not been reported. -/
theorem pairDiff_ends_run (hsame : pairDiffers k (jointSt s c l).value theirs = false) (hshort : (jointSt s c l).diff < 50)
    (hnew : (jointSt s c l).diffB < B) :
    pairDiff c l k theirs B s = setLink s (linkNo s c l) { jointSt s c l with diff := 0, diffB := B } := by
  simp only [pairDiff, Nat.not_le.2 hnew, hsame, Nat.not_le.2 hshort, whenB, false_and, decide_false, if_false, if_true, Bool.false_eq_true]

end

theorem exec_geomPairDiff_paired {c : Fin 32} {l : Fin 8} {v : BitVec 16} {k : Link} {s : State} (hpair : s.pwr.paired = true)
    (hk : linkOf s c.val l.val = some k) : exec (.geomPairDiff c l v) s = .next (pairDiff c l k v.toInt (boundaryAt s.tb) s) := by
  rw [exec_geomPairDiff, execGeomPairDiff, hk]
  simp only [hpair, if_true]

/-- Settles O9, one command after another: under the conditions of a clause the command's guards are met. -/
theorem jointCommandsComplete : Obligations.JointCommandsComplete := by
  refine ⟨fun c l s k hk hsrc hssi h2 hdue => ?_, fun c l s k hk hsrc hssi h1 hfall hdead hheld hdue => ?_,
    fun _ _ _ _ hk hsrc => exec_jointSourceFail_fixed hk hsrc, fun _ _ _ _ hk hearly => exec_jointSourceFail_early hk hearly,
    fun _ _ _ _ hk h1 hgood hsec => exec_jointSrc1Return_from_src2 hk h1 hgood hsec,
    fun _ _ _ _ hk hheld hpolicy hdue => exec_jointHoldExpiry_fixed hk hheld hpolicy hdue,
    fun _ _ _ _ hk hheld hpolicy hdue => exec_jointHoldExpiry_off hk hheld hpolicy hdue,
    fun c l v s k hpair hk hdiff hrun hnext => ?_, fun c l v s k hpair hk hdiff hrun hnext => ?_,
    fun c l v s k hpair hk hsame hshort hnew => ?_⟩
  · rw [exec_jointSourceFail_due (second := false) hk hdue, jointFail_src1 hsrc hssi h2]
  · rw [exec_jointSourceFail_due (second := true) hk hdue, jointFail_src2_holds hsrc hssi h1 hfall hdead hheld]
  · rw [exec_geomPairDiff_paired hpair hk, pairDiff_lengthens_run hdiff hnext, hrun]
    rfl
  · have hshort : ((jointSt s c l).diff + 1 == 50) = false := beq_false_of_ne (Nat.succ_lt_succ hrun).ne
    rw [exec_geomPairDiff_paired hpair hk, pairDiff_lengthens_run hdiff hnext, hshort]
    rfl
  · rw [exec_geomPairDiff_paired hpair hk, pairDiff_ends_run hsame hshort hnew]

/-! ### Pose records (R135, R137) and dead reckoning (R131) -/

section
variable {s : State}

theorem exec_poseRecordPublish_due {f : Fused} (hrole : poseRole s = true) (hfam : solverFamily s = true)
    (hnew : s.pos.next.any (fun x => x.b == nextBoundary s.tb) = false) :
    exec (.poseRecordPublish f) s = .next (
      let t := chooseSource (nextBoundary s.tb - cycleTicks) f.jumpX f.jumpY s
      let r := buildRecord f (nextBoundary s.tb) t
      keepRecord r (toTeam t MsgKind.POSE_RECORD (recordArgs r))) := by
  rw [exec_poseRecordPublish, execPoseRecordPublish]
  simp only [hrole, hfam, hnew, Bool.true_eq_false, Bool.false_eq_true, or_self, if_false]

theorem exec_poseRecordPublish_again {f : Fused} (hkept : s.pos.next.any (fun x => x.b == nextBoundary s.tb) = true) :
    exec (.poseRecordPublish f) s = .next s := by
  rw [exec_poseRecordPublish, execPoseRecordPublish]
  simp only [hkept, or_true, if_true]

theorem exec_poseRecord_stale {r : PoseRec} (hlate : r.b ≤ s.str.cycle) :
    exec (.poseRecord r) s = .next (fault s Ev.POSE_STALE [(r.b : Int)]) := by
  rw [exec_poseRecord, execPoseRecord, if_pos hlate]

theorem exec_poseRecord_in_time {r : PoseRec} (htime : s.str.cycle < r.b) : exec (.poseRecord r) s = .next (keepRecord r s) := by
  rw [exec_poseRecord, execPoseRecord, if_neg (Nat.not_le.2 htime)]

theorem exec_drLimitExpiry_due {t : Nat} (hsrc : s.pos.source = 3) (hsince : s.pos.drSince = some t) (hdue : t + drLimit s ≤ s.tb)
    (hrole : poseRole s = true) : exec .drLimitExpiry s = .next (poseLost s) := by
  rw [exec_drLimitExpiry, execDrLimitExpiry, hsrc, hsince]
  simp only [hdue, hrole, and_self, if_true]

/-! ### Corrections (R133, R134, R390) -/

theorem corrIn_ignored (eth : Bool) (st ep : Nat) : corrIn eth 1230 st ep true s = s := by
  rw [corrIn, if_pos ⟨rfl, rfl⟩]

theorem corrIn_bad_crc (eth : Bool) (typ st ep : Nat) :
    corrIn eth typ st ep false s = { s with pos := { s.pos with corrDrop := s.pos.corrDrop + 1 } } := by
  rw [corrIn, if_neg (fun h => Bool.false_ne_true h.1), if_pos (.inl rfl)]

/-- A good message of the accepted list is taken by the pose solver, or goes on to it. -/
theorem corrIn_accepted (eth : Bool) {typ : Nat} (st ep : Nat) (hother : typ ≠ 1230) (htyp : typ ∈ rtcmTypes) :
    corrIn eth typ st ep true s =
      if poseRole s then takeCorr eth st ep s else send s MsgKind.RTCM (poseHolder s) [(typ : Int), (st : Int), (ep : Int), (b2n eth : Int)] := by
  rw [corrIn, if_neg (fun h => hother h.2), if_neg (by simp [htyp])]

section
variable {k : Fin 36} (typ st ep : Nat) (ok : Bool)

theorem exec_rtcmMessage_no_session (hk : k.val < 4) (hsess : sessRole s k.val = none) :
    exec (.rtcmMessage (.session k) typ st ep ok) s = .next s := by
  rw [exec_rtcmMessage, execRtcmMessage]
  simp only [hk, hsess, if_true]

theorem exec_rtcmMessage_denied {r : Role} (hk : k.val < 4) (hsess : sessRole s k.val = some r) (hmay : mayAct .rtcm r = false) :
    exec (.rtcmMessage (.session k) typ st ep ok) s = .next (writeDenied s r 0) := by
  rw [exec_rtcmMessage, execRtcmMessage]
  simp only [hk, hsess, hmay, if_true]

theorem exec_rtcmMessage_allowed {r : Role} (hk : k.val < 4) (hsess : sessRole s k.val = some r) (hmay : mayAct .rtcm r = true) :
    exec (.rtcmMessage (.session k) typ st ep ok) s = .next (corrIn true typ st ep ok s) := by
  rw [exec_rtcmMessage, execRtcmMessage]
  simp only [hk, hsess, hmay, Bool.true_eq_false, if_true, if_false]

theorem exec_rtcmMessage_forward (eth : Bool) :
    exec (.rtcmMessage (.forward eth) typ st ep ok) s = .next (corrIn eth typ st ep ok s) := rfl

theorem exec_rtcmMessage_can (c : Fin 4) :
    exec (.rtcmMessage (.can c) typ st ep ok) s = .next (corrIn false typ st ep ok (canTake c.val 2 s)) := rfl

end

/-! ### External pose, speed and inertial samples (R129, R130, R456) -/

/-- PGN 129025 carries a position and no time: it adds a sample and leaves TT alone. -/
theorem exec_externalPosePgn_position {c : Fin 4} (acc : Nat) (ok : Bool) (hcan : c.val = (canTake c.val 3 s).cfg.gnss.poseCan) :
    exec (.externalPosePgn c 129025 acc ok none) s = .next (
      let t := canTake c.val 3 s
      { t with pos := { t.pos with ext := srcPush ⟨canStamp c.val 3 s - msTicks t.cfg.geom0.extLat, acc, ok⟩ t.pos.ext } }) := by
  rw [exec_externalPosePgn, execExternalPosePgn]
  exact congrArg _ (if_neg (not_or.2 ⟨not_not.2 hcan, fun h => h.1 rfl⟩))

theorem exec_speedMessage_taken {c : Fin 4} (v : Int) (hiso : (canTake c.val 4 s).cfg.gnss.speed = .iso)
    (hcan : c.val = (canTake c.val 4 s).cfg.gnss.poseCan) :
    exec (.speedMessage c v true) s = .next (
      let t := canTake c.val 4 s
      { t with pos := { t.pos with speed := some (v, t.tb) } }) := by
  rw [exec_speedMessage, execSpeedMessage]
  exact congrArg _ (if_pos ⟨hiso, hcan, rfl⟩)

theorem exec_insSample_good (hon : domOn s 11 = true) (hheard : s.pos.insSilent = false) :
    exec (.insSample true) s = .next { s with pos := { s.pos with insTb := some s.tb } } := by
  rw [exec_insSample, execInsSample]
  simp only [hon, hheard, whenB, Bool.true_eq_false, Bool.false_eq_true, if_false, if_true]

theorem exec_insSample_bad_crc (hon : domOn s 11 = true) :
    exec (.insSample false) s = .next (fault { s with pos := { s.pos with insBad := s.pos.insBad + 1 } } Ev.INERTIAL_CRC
      [((s.pos.insBad + 1 : Nat) : Int)]) := by
  rw [exec_insSample, execInsSample, hon]
  rfl

theorem exec_inertialSilence_due {t : Nat} (hlast : s.pos.insTb = some t) (hdue : t + msTicks 100 ≤ s.tb) (hheard : s.pos.insSilent = false) :
    exec .inertialSilence s = .next (faultCls { s with pos := { s.pos with insSilent := true } } Ev.INERTIAL_FAULT [] 1) := by
  rw [exec_inertialSilence, execInertialSilence, hlast]
  simp only [hdue, hheard, and_self, if_true]

end

/-- Settles O14, one command after another: under the conditions of a clause the command's guards are met. -/
theorem poseCommandsComplete : Obligations.PoseCommandsComplete := by
  refine ⟨fun _ _ hrole hfam hnew => exec_poseRecordPublish_due hrole hfam hnew, fun _ _ hkept => exec_poseRecordPublish_again hkept,
    fun _ _ hlate => exec_poseRecord_stale hlate, fun _ _ htime => exec_poseRecord_in_time htime,
    fun _ _ hsrc hsince hdue hrole => exec_drLimitExpiry_due hsrc hsince hdue hrole,
    fun _ typ st ep ok _ hk hsess => exec_rtcmMessage_no_session typ st ep ok hk hsess,
    fun _ typ st ep ok _ _ hk hsess hmay => exec_rtcmMessage_denied typ st ep ok hk hsess hmay,
    fun k st ep s r hk hsess hmay => ?_, fun k typ st ep s r hk hsess hmay => ?_,
    fun k typ st ep s r hk hsess hmay hother htyp hrole => ?_, fun k typ st ep s r hk hsess hmay hother htyp hrole => ?_,
    fun eth typ st ep s hother htyp hrole => ?_, fun c typ st ep s hother htyp hrole => ?_,
    fun _ acc ok _ hcan => exec_externalPosePgn_position acc ok hcan, fun _ v _ hiso hcan => exec_speedMessage_taken v hiso hcan,
    fun _ hon hheard => exec_insSample_good hon hheard, fun _ hon => exec_insSample_bad_crc hon,
    fun _ _ hlast hdue hheard => exec_inertialSilence_due hlast hdue hheard⟩
  · rw [exec_rtcmMessage_allowed _ _ _ _ hk hsess hmay, corrIn_ignored]
  · rw [exec_rtcmMessage_allowed _ _ _ _ hk hsess hmay, corrIn_bad_crc]
  · rw [exec_rtcmMessage_allowed _ _ _ _ hk hsess hmay, corrIn_accepted _ _ _ hother htyp, if_pos hrole]
  · rw [exec_rtcmMessage_allowed _ _ _ _ hk hsess hmay, corrIn_accepted _ _ _ hother htyp, if_neg (by simp [hrole])]
    rfl
  · rw [exec_rtcmMessage_forward, corrIn_accepted _ _ _ hother htyp, if_pos hrole]
  · rw [exec_rtcmMessage_can, corrIn_accepted _ _ _ hother htyp, if_pos hrole]

end Sys2Proof.Proofs
end

section
/-!
PROOFS. The feedback interface: the counter channels and their commands (R77 to R93, R103, R104), the compare units (R94 to R96), and the commands
of SSI ports, analog inputs and sensor supplies (R98 to R102).
-/

open Sys2Proof Sys2Proof.Machine Sys2Proof.Laws

namespace Sys2Proof.Proofs

/-! ### What the module holds of a channel and of a compare unit -/

/-- What the module holds of a compare unit. -/
abbrev cmpSt (s : State) (k : Nat) : CmpSt := smGet cmpInit s.fbi.cmp k

@[simp] theorem chSt_setCh_same (s : State) (n : Nat) (c : ChSt) : chSt (setCh s n c) n = c := smGet_smSet_same _

theorem chSt_setCh_ne {s : State} {m n : Nat} {c : ChSt} (h : m ≠ n) : chSt (setCh s n c) m = chSt s m := smGet_smSet_ne h _

/-- The channels are read from the list of their states alone. -/
theorem chSt_congr {s t : State} (h : t.fbi.ch = s.fbi.ch) (n : Nat) : chSt t n = chSt s n := by
  rw [chSt, chSt, h]

@[simp] theorem chSt_fsetb (s : State) (a : Nat) (f : Fld) (b : Bool) (n : Nat) : chSt (fsetb s a f b) n = chSt s n :=
  chSt_congr (by rw [fsetb_fbi]) n

@[simp] theorem chSt_setCount (s : State) (m : Nat) (v : Int) (n : Nat) : chSt (setCount s m v) n = chSt s n :=
  chSt_congr (by rw [setCount, rset64_fbi]) n

@[simp] theorem chSt_raise (s : State) (e : Ev) (args : List Int) (n : Nat) : chSt (raise s e args) n = chSt s n :=
  chSt_congr (by rw [raise_fbi]) n

@[simp] theorem chSt_platIndex (s : State) (m n : Nat) : chSt (platIndex m s) n = chSt s n := by
  unfold platIndex
  split
  · exact chSt_congr (by rw [fincWrap_fbi]) n
  · rfl

/-- What each round of a loop leaves as it was, the loop leaves as it was. -/
theorem forN_keeps {α : Type} {p : State → α} {f : Nat → State → State} (h : ∀ i s, p (f i s) = p s) (n : Nat) (s : State) :
    p (forN n f s) = p s := by
  unfold forN
  induction List.range n generalizing s with
  | nil => rfl
  | cons i l ih => exact (ih (f i s)).trans (h i s)

/-- What an operation leaves as it was, it leaves so where it is done under a condition. -/
theorem whenB_keeps {α : Type} {p : State → α} {f : State → State} {s : State} (h : p (f s) = p s) (c : Bool) : p (whenB c f s) = p s := by
  cases c
  · rfl
  · exact h

theorem fget_of_regs {s t : State} (h : t.regs = s.regs) (a : Nat) (f : Fld) : fget t a f = fget s a f := by
  rw [fget, rget, h, fget, rget]

theorem fbit_of_regs {s t : State} (h : t.regs = s.regs) (a : Nat) (f : Fld) : fbit t a f = fbit s a f := by
  rw [fbit, fget_of_regs h, fbit]

theorem fget_whenB_fsetb_ne {s : State} {a a' : Nat} {f g : Fld} {b c : Bool} (h : a' ≠ a) :
    fget (whenB c (fun t => fsetb t a f b) s) a' g = fget s a' g :=
  whenB_keeps (p := fun t => fget t a' g) (by rw [fsetb, fget_fset_ne h]) c

/-- A one-bit field that is set or cleared reads so. -/
theorem fbit_fsetb_same {s : State} {a : Nat} {f : Fld} (hf : inWord f) (hbit : f.w = 1) (b : Bool) : fbit (fsetb s a f b) a f = b := by
  rw [fbit, fsetb, fget_fset_same hf, hbit]
  cases b <;> rfl

theorem fbit_fsetb_other {s : State} {a : Nat} {f g : Fld} {b : Bool} (hf : inWord f) (hfg : g.lo + g.w ≤ f.lo ∨ f.lo + f.w ≤ g.lo) :
    fbit (fsetb s a f b) a g = fbit s a g := by
  rw [fbit, fsetb, fget_fset_other hf hfg, fbit]

theorem fbit_whenB_fsetb_other {s : State} {a : Nat} {f g : Fld} {b c : Bool} (hf : inWord f)
    (hfg : g.lo + g.w ≤ f.lo ∨ f.lo + f.w ≤ g.lo) : fbit (whenB c (fun t => fsetb t a f b) s) a g = fbit s a g :=
  whenB_keeps (p := fun t => fbit t a g) (by rw [fbit_fsetb_other hf hfg]) c

/-! ### A count at a compare unit (R94 to R96, R103) -/

/-- The unit was committed in this very tick. -/
def cmpLate (k : Nat) (s : State) : Bool := match (cmpSt s k).pre with | some p => p.1 == s.tb | none => false

/-- VAL and ARMED as a count of this tick meets them: as they were before a commit of the tick (R103). -/
def cmpMet (k : Nat) (s : State) : Nat × Bool :=
  match (cmpSt s k).pre with
  | some p => if cmpLate k s then p.2 else ((cmpSt s k).val, fbit s (R.FBI_CMP_STAT k) F.FBI_CMP_STAT_ARMED)
  | none => ((cmpSt s k).val, fbit s (R.FBI_CMP_STAT k) F.FBI_CMP_STAT_ARMED)

/-- STEP as a signed value (R94). -/
def cmpStep (k : Nat) (s : State) : Int := sext 32 (rget s (R.FBI_CMP_STEP k)).toNat

/-- A count of channel `n` by `d` to `cnt` hits the unit: its source, met armed, in its direction, at the VAL that it meets (R94, R95). -/
def cmpMeets (k n : Nat) (cnt d : Int) (s : State) : Prop :=
  (cmpMet k s).2 = true ∧ fget s (R.FBI_CMP_CFG k) F.FBI_CMP_CFG_SRC = n ∧ (0 ≤ cmpStep k s ↔ 0 < d) ∧ bitsOf 48 cnt = (cmpMet k s).1

/-- VAL after a hit (R94). -/
def cmpNext (k : Nat) (s : State) : Nat :=
  let md := (rget s (R.FBI_CMP_MOD k)).toNat
  let v := bitsOf 48 ((cmpMet k s).1 + cmpStep k s)
  if md = 0 then v else v % md

/-- The unit after a hit (R94, R96): values committed in its tick stay. -/
def cmpUnitHit (k : Nat) (s : State) : CmpSt :=
  let c := cmpSt s k
  let pm := fget s (R.FBI_CMP_CFG k) F.FBI_CMP_CFG_PIN_MODE
  { c with
    val := if cmpLate k s then c.val else cmpNext k s
    toggle := if pm = 2 then !c.toggle else c.toggle
    pulse := if pm = 1 then c.pulse.map (fun p => (p.1, min p.2 (s.tb + 2))) ++
      [(s.tb + 2, s.tb + 2 + fget s (R.FBI_CMP_CFG k) F.FBI_CMP_CFG_PW)] else c.pulse
    pre := if cmpLate k s then some (s.tb, cmpNext k s, (cmpMet k s).2 && cmpStep k s != 0) else none }

/-- HITS counts a hit, and the unit and the hits of the cycle take it (R94, R96). -/
def cmpCount (k stamp : Nat) (s : State) : State :=
  let s1 := fincWrap s (R.FBI_CMP_HITS k) F.FBI_CMP_HITS_HITS
  { s1 with fbi := { s1.fbi with
    cmp := smSet cmpInit k (cmpUnitHit k s) s1.fbi.cmp
    hits := s1.fbi.hits ++ [(k, fget s1 (R.FBI_CMP_HITS k) F.FBI_CMP_HITS_HITS, stamp)] } }

/-- The module after a hit, before its record: a pulse that still runs shows OVERLAP, STEP 0 disarms (R94, R96). -/
def cmpHitDone (k stamp : Nat) (s : State) : State :=
  whenB (cmpStep k s == 0 && !cmpLate k s) (fun s => fsetb s (R.FBI_CMP_STAT k) F.FBI_CMP_STAT_ARMED false)
    (whenB (fget s (R.FBI_CMP_CFG k) F.FBI_CMP_CFG_PIN_MODE = 1 && (cmpSt s k).pulse.any (fun p => decide (p.1 ≤ s.tb ∧ s.tb < p.2)))
      (fun s => fsetb s (R.FBI_CMP_STAT k) F.FBI_CMP_STAT_OVERLAP true) (cmpCount k stamp s))

theorem cmpHit_eq (k n : Nat) (cnt d : Int) (stamp : Nat) (s : State) :
    cmpHit k n cnt d stamp s =
      if (cmpMet k s).2 = false ∨ fget s (R.FBI_CMP_CFG k) F.FBI_CMP_CFG_SRC ≠ n ∨ decide (0 ≤ cmpStep k s) ≠ decide (0 < d) ∨
        bitsOf 48 cnt ≠ (cmpMet k s).1 then s
      else raise (cmpHitDone k stamp s) Ev.CMP_HIT [(k : Int), (fget (fincWrap s (R.FBI_CMP_HITS k) F.FBI_CMP_HITS_HITS)
        (R.FBI_CMP_HITS k) F.FBI_CMP_HITS_HITS : Nat), (stamp : Int)] := rfl

theorem cmpMisses_iff {k n : Nat} {cnt d : Int} {s : State} :
    ((cmpMet k s).2 = false ∨ fget s (R.FBI_CMP_CFG k) F.FBI_CMP_CFG_SRC ≠ n ∨ decide (0 ≤ cmpStep k s) ≠ decide (0 < d) ∨
      bitsOf 48 cnt ≠ (cmpMet k s).1) ↔ ¬cmpMeets k n cnt d s := by
  simp only [cmpMeets, ne_eq, decide_eq_decide, not_and_or, Bool.not_eq_true]

theorem cmpHit_of_not_meets {k n : Nat} {cnt d : Int} {s : State} (stamp : Nat) (h : ¬cmpMeets k n cnt d s) :
    cmpHit k n cnt d stamp s = s := by
  rw [cmpHit_eq, if_pos (cmpMisses_iff.2 h)]

theorem cmpLate_of_no_commit {k : Nat} {s : State} (h : ∀ p, (cmpSt s k).pre = some p → p.1 ≠ s.tb) : cmpLate k s = false := by
  unfold cmpLate
  split
  · next p hp => exact beq_false_of_ne (h p hp)
  · rfl

theorem cmpMet_of_not_late {k : Nat} {s : State} (h : cmpLate k s = false) :
    cmpMet k s = ((cmpSt s k).val, fbit s (R.FBI_CMP_STAT k) F.FBI_CMP_STAT_ARMED) := by
  rw [cmpMet, h]
  split <;> rfl

theorem cmpLate_of_commit {k v0 : Nat} {a0 : Bool} {s : State} (h : (cmpSt s k).pre = some (s.tb, v0, a0)) : cmpLate k s = true := by
  rw [cmpLate, h]
  exact beq_self_eq_true s.tb

theorem cmpMet_of_commit {k v0 : Nat} {a0 : Bool} {s : State} (h : (cmpSt s k).pre = some (s.tb, v0, a0)) : cmpMet k s = (v0, a0) := by
  rw [cmpMet, cmpLate_of_commit h, h]
  rfl

section
variable (k stamp : Nat) (s : State)

theorem cmpCount_regs : (cmpCount k stamp s).regs = (fincWrap s (R.FBI_CMP_HITS k) F.FBI_CMP_HITS_HITS).regs := rfl

theorem cmpCount_cmp : (cmpCount k stamp s).fbi.cmp = smSet cmpInit k (cmpUnitHit k s) s.fbi.cmp := by
  simp only [cmpCount, fincWrap_fbi]

theorem cmpCount_ch : (cmpCount k stamp s).fbi.ch = s.fbi.ch := by
  simp only [cmpCount, fincWrap_fbi]

theorem cmpCount_stb : (cmpCount k stamp s).stb = s.stb := by
  simp only [cmpCount, fincWrap_stb]

theorem cmpHitDone_fbi : (cmpHitDone k stamp s).fbi = (cmpCount k stamp s).fbi := by
  rw [cmpHitDone, whenB_keeps (p := State.fbi) (fsetb_fbi ..), whenB_keeps (p := State.fbi) (fsetb_fbi ..)]

theorem cmpHitDone_stb : (cmpHitDone k stamp s).stb = s.stb := by
  rw [cmpHitDone, whenB_keeps (p := State.stb) (fsetb_stb ..), whenB_keeps (p := State.stb) (fsetb_stb ..), cmpCount_stb]

theorem cmpSt_cmpHitDone : cmpSt (cmpHitDone k stamp s) k = cmpUnitHit k s := by
  rw [cmpSt, cmpHitDone_fbi, cmpCount_cmp, smGet_smSet_same]

theorem cmpHits_ne_cmpStat : R.FBI_CMP_HITS k ≠ R.FBI_CMP_STAT k := (Nat.add_lt_add_right (by decide) _).ne

theorem hits_cmpHitDone : fget (cmpHitDone k stamp s) (R.FBI_CMP_HITS k) F.FBI_CMP_HITS_HITS =
    (fget s (R.FBI_CMP_HITS k) F.FBI_CMP_HITS_HITS + 1) % 2 ^ 32 := by
  have hne := cmpHits_ne_cmpStat k
  rw [cmpHitDone, fget_whenB_fsetb_ne hne, fget_whenB_fsetb_ne hne, fget_of_regs (cmpCount_regs k stamp s), fget_fincWrap (by decide)]

theorem armed_cmpHitDone : fbit (cmpHitDone k stamp s) (R.FBI_CMP_STAT k) F.FBI_CMP_STAT_ARMED =
    (fbit s (R.FBI_CMP_STAT k) F.FBI_CMP_STAT_ARMED && !(cmpStep k s == 0 && !cmpLate k s)) := by
  rw [cmpHitDone]
  cases cmpStep k s == 0 && !cmpLate k s
  · rw [Bool.not_false, Bool.and_true, whenB, if_neg Bool.false_ne_true,
      fbit_whenB_fsetb_other (by decide) (by decide), fbit_of_regs (cmpCount_regs k stamp s)]
    exact fbit_fset_ne (cmpHits_ne_cmpStat k).symm
  · rw [Bool.not_true, Bool.and_false]
    exact fbit_fsetb_same (by decide) rfl false

end

theorem cmpHit_of_meets {k n : Nat} {cnt d : Int} {s : State} (stamp : Nat) (h : cmpMeets k n cnt d s) :
    cmpHit k n cnt d stamp s = raise (cmpHitDone k stamp s) Ev.CMP_HIT [(k : Int),
      (fget (cmpHitDone k stamp s) (R.FBI_CMP_HITS k) F.FBI_CMP_HITS_HITS : Nat), (stamp : Int)] := by
  rw [cmpHit_eq, if_neg (fun hmiss => cmpMisses_iff.1 hmiss h), hits_cmpHitDone, fget_fincWrap (by decide)]

theorem ch_cmpHit (k n : Nat) (cnt d : Int) (stamp : Nat) (s : State) : (cmpHit k n cnt d stamp s).fbi.ch = s.fbi.ch := by
  by_cases h : cmpMeets k n cnt d s
  · rw [cmpHit_of_meets stamp h, raise_fbi, cmpHitDone_fbi, cmpCount_ch]
  · rw [cmpHit_of_not_meets stamp h]

section
variable {k n : Nat} {cnt d : Int} {s : State} (stamp : Nat) (h : cmpMeets k n cnt d s)
include h

theorem cmpSt_cmpHit_of_meets : cmpSt (cmpHit k n cnt d stamp s) k = cmpUnitHit k s := by
  rw [cmpHit_of_meets stamp h, cmpSt, raise_fbi]
  exact cmpSt_cmpHitDone ..

theorem hits_cmpHit_of_meets : fget (cmpHit k n cnt d stamp s) (R.FBI_CMP_HITS k) F.FBI_CMP_HITS_HITS =
    (fget s (R.FBI_CMP_HITS k) F.FBI_CMP_HITS_HITS + 1) % 2 ^ 32 := by
  rw [cmpHit_of_meets stamp h, fget_of_regs (raise_regs ..), hits_cmpHitDone]

theorem armed_cmpHit_of_meets : fbit (cmpHit k n cnt d stamp s) (R.FBI_CMP_STAT k) F.FBI_CMP_STAT_ARMED =
    (fbit s (R.FBI_CMP_STAT k) F.FBI_CMP_STAT_ARMED && !(cmpStep k s == 0 && !cmpLate k s)) := by
  rw [cmpHit_of_meets stamp h, fbit_of_regs (raise_regs ..), armed_cmpHitDone]

end

theorem cmpUnitHit_val_of_not_late {k : Nat} {s : State} (h : cmpLate k s = false) : (cmpUnitHit k s).val = cmpNext k s := by
  simp only [cmpUnitHit, h, Bool.false_eq_true, if_false]

/-- The values committed in the tick of a hit stay (R103). -/
theorem cmpUnitHit_val_of_late {k : Nat} {s : State} (h : cmpLate k s = true) : (cmpUnitHit k s).val = (cmpSt s k).val := by
  simp only [cmpUnitHit, h, if_true]

/-! ### The write of VAL_HI (R94) -/

theorem cmpSt_cmpCommit_val (k : Nat) (hi : Word) (s : State) :
    (cmpSt (cmpCommit k hi s) k).val = (rget s (R.FBI_CMP_VAL_LO k)).toNat + hi.toNat % 2 ^ 16 * 2 ^ 32 := by
  rw [cmpCommit, cmpSt, fsetb_fbi, smGet_smSet_same]
  rfl

theorem armed_cmpCommit (k : Nat) (hi : Word) (s : State) : fbit (cmpCommit k hi s) (R.FBI_CMP_STAT k) F.FBI_CMP_STAT_ARMED = true :=
  fbit_fsetb_same (by decide) rfl true

theorem exec_cmpValHiWrite_allowed {who : Fin 36} {k : Fin 4} {hi : Word} {s : State} (hmay : rapMay s who.val .other 11 = true) :
    exec (.cmpValHiWrite who k hi) s = .next (rapAnswer (cmpCommit k.val hi s) who.val .ok []) := by
  rw [exec_cmpValHiWrite, execCmpValHiWrite, rapDo_allowed _ _ hmay]

/-- Settles O45: the unit meets a count with the VAL and ARMED of before the tick's commit; a count it meets is a hit, any other is none. -/
theorem compareUnitHits : Obligations.CompareUnitHits := by
  refine ⟨fun _ _ _ _ hmay => exec_cmpValHiWrite_allowed hmay, fun k hi s => ⟨cmpSt_cmpCommit_val k hi s, armed_cmpCommit k hi s⟩,
    fun k n cnt d stamp s c hc hpre hmiss => ?_, fun k n cnt d stamp s step v md c c' hstep hmd hc hpre hv hc' harmed hsrc hdir hval => ?_,
    fun k n cnt d stamp s v0 a0 c hc hpre => ⟨fun hmiss => ?_, fun ha hval hsrc hdir => ?_⟩⟩
  · subst hc
    have hmet := cmpMet_of_not_late (cmpLate_of_no_commit hpre)
    refine cmpHit_of_not_meets stamp fun h => hmiss ?_
    rwa [cmpMeets, hmet] at h
  · subst hc
    have hlate := cmpLate_of_no_commit hpre
    have hmet := cmpMet_of_not_late hlate
    have hhit : cmpMeets k n cnt d s := by
      rw [cmpMeets, hmet, cmpStep, ← hstep]
      exact ⟨harmed, hsrc, hdir, hval⟩
    have hunit : c' = cmpUnitHit k s := hc'.trans (cmpSt_cmpHit_of_meets stamp hhit)
    subst hunit
    refine ⟨?_, hits_cmpHit_of_meets stamp hhit, rfl, rfl, ?_, cmpHitDone k stamp s, cmpHit_of_meets stamp hhit, cmpHitDone_stb ..⟩
    · rw [cmpUnitHit_val_of_not_late hlate, cmpNext, hmet, cmpStep, ← hstep, ← hmd, ← hv]
    · rw [armed_cmpHit_of_meets stamp hhit, harmed, hlate, cmpStep, ← hstep]
      simp [beq_eq_decide]
  · subst hc
    refine cmpHit_of_not_meets stamp fun ⟨harmed, _, _, hval⟩ => ?_
    rw [cmpMet_of_commit hpre] at harmed hval
    rcases hmiss with h | h
    · simp [h] at harmed
    · exact h hval
  · subst hc ha
    have hhit : cmpMeets k n cnt d s := by
      rw [cmpMeets, cmpMet_of_commit hpre]
      exact ⟨rfl, hsrc, hdir, hval⟩
    have hlate := cmpLate_of_commit hpre
    refine ⟨(congrArg CmpSt.val (cmpSt_cmpHit_of_meets stamp hhit)).trans (cmpUnitHit_val_of_late hlate), hits_cmpHit_of_meets stamp hhit, ?_⟩
    rw [armed_cmpHit_of_meets stamp hhit, hlate, Bool.not_true, Bool.and_false, Bool.not_false, Bool.and_true]

/-! ### INDEX_MISSING (R90) -/

section
variable {n : Nat} {s : State}

theorem checkMissing_raises (hlines : fget s (R.FBI_IDX n) F.FBI_IDX_LINES ≠ 0) (hnew : (chSt s n).missing = false)
    (hbeyond : fget s (R.FBI_IDX n) F.FBI_IDX_LINES + fget s (R.FBI_IDX n) F.FBI_IDX_LINE_TOL < (chSt s n).idxAcc.natAbs) :
    checkMissing n s =
      raise (fsetb (setCh s n { chSt s n with missing := true }) (R.FBI_STAT n) F.FBI_STAT_INDEX_MISSING true) Ev.INDEX_MISSING [(n : Int)] := by
  rw [checkMissing, if_neg (by simp [hlines, hnew, hbeyond])]

theorem checkMissing_again (hmissing : (chSt s n).missing = true) : checkMissing n s = s := by
  rw [checkMissing, if_pos (.inr (.inl hmissing))]

theorem checkMissing_within
    (hwithin : (chSt s n).idxAcc.natAbs ≤ fget s (R.FBI_IDX n) F.FBI_IDX_LINES + fget s (R.FBI_IDX n) F.FBI_IDX_LINE_TOL) :
    checkMissing n s = s := by
  rw [checkMissing, if_pos (.inr (.inr hwithin))]

end

/-- An index clears IDX_ACC and frees INDEX_MISSING, whatever IDX_MODE makes of the counter. -/
theorem chSt_applyIndex (n stamp : Nat) (s : State) :
    (chSt (applyIndex n stamp s) n).missing = false ∧ (chSt (applyIndex n stamp s) n).idxAcc = 0 := by
  rw [applyIndex]
  dsimp only
  split
  · simp
  · split <;> simp

/-- A count goes into IDX_ACC and leaves INDEX_MISSING as it was; the compare units have no part in a channel's state. -/
theorem chSt_applyCount (n : Nat) (d : Int) (stamp : Nat) (s : State) :
    (chSt (applyCount n d stamp s) n).missing = (chSt s n).missing ∧ (chSt (applyCount n d stamp s) n).idxAcc = (chSt s n).idxAcc + d := by
  rw [applyCount]
  split
  · next hd => exact ⟨rfl, by rw [hd, Int.add_zero]⟩
  · rw [forN_keeps (p := fun t => chSt t n) (fun k t => chSt_congr (ch_cmpHit ..) n), chSt_setCh_same]
    exact ⟨rfl, rfl⟩

/-- Settles O44. -/
theorem indexMissingOnce : Obligations.IndexMissingOnce := by
  refine ⟨fun n s hlines hnew hbeyond => ?_, fun _ _ => checkMissing_again, fun _ _ => checkMissing_within, chSt_applyIndex, chSt_applyCount⟩
  have hraise := checkMissing_raises hlines hnew hbeyond
  refine ⟨hraise, ?_⟩
  rw [hraise, chSt_raise, chSt_fsetb, chSt_setCh_same]

/-! ### What a counter command leaves as it was -/

/-- What a refused request leaves as it was: it answers, and where the role forbids the write, records that. -/
theorem rapRefuse_keeps {α : Type} {p : State → α} (hans : ∀ s who st data, p (rapAnswer s who st data) = p s)
    (hden : ∀ s r reg, p (writeDenied s r reg) = p s) (s : State) (who dom reg : Nat) (act : Act) : p (rapRefuse s who dom reg act) = p s := by
  unfold rapRefuse
  split
  · rfl
  · split
    · exact hans ..
    · split
      · exact (hans ..).trans (hden ..)
      · split
        · exact hans ..
        · rfl

/-- What the operation of a session's command leaves as it was, the command leaves so. -/
theorem rapDo_keeps {α : Type} {p : State → α} (hans : ∀ s who st data, p (rapAnswer s who st data) = p s)
    (hden : ∀ s r reg, p (writeDenied s r reg) = p s) {s : State} {f : State → State} (hf : p (f s) = p s) (who dom reg : Nat) (act : Act) :
    p (rapDo s who act dom reg f) = p s := by
  unfold rapDo
  split
  · exact (hans ..).trans hf
  · exact rapRefuse_keeps hans hden ..

section
variable {s : State} {f : State → State}

theorem regs_rapDo (h : (f s).regs = s.regs) (who dom reg : Nat) (act : Act) : (rapDo s who act dom reg f).regs = s.regs :=
  rapDo_keeps (p := State.regs) (fun _ _ _ _ => rapAnswer_regs ..) (fun _ _ _ => writeDenied_regs ..) h who dom reg act

theorem rget_rapDo {a : Nat} (h : rget (f s) a = rget s a) (who dom reg : Nat) (act : Act) : rget (rapDo s who act dom reg f) a = rget s a :=
  rapDo_keeps (p := fun t => rget t a) (fun _ _ _ _ => by rw [rget, rapAnswer_regs, rget]) (fun _ _ _ => by rw [rget, writeDenied_regs, rget])
    h who dom reg act

theorem chSt_rapDo {n : Nat} (h : chSt (f s) n = chSt s n) (who dom reg : Nat) (act : Act) : chSt (rapDo s who act dom reg f) n = chSt s n :=
  rapDo_keeps (p := fun t => chSt t n) (fun _ _ _ _ => chSt_congr (by rw [rapAnswer_fbi]) n)
    (fun _ _ _ => chSt_congr (by rw [writeDenied_fbi]) n) h who dom reg act

theorem cmpSt_rapDo {n : Nat} (h : cmpSt (f s) n = cmpSt s n) (who dom reg : Nat) (act : Act) : cmpSt (rapDo s who act dom reg f) n = cmpSt s n :=
  rapDo_keeps (p := fun t => cmpSt t n) (fun _ _ _ _ => by rw [cmpSt, rapAnswer_fbi]) (fun _ _ _ => by rw [cmpSt, writeDenied_fbi])
    h who dom reg act

end

/-- The module without what a counter command or its answer may change: registers, feedback, sessions, RAP, CAN, and the record of a refusal. -/
def besideFeedback (s : State) : State :=
  { s with
    regs := [], fbi := State.reset.fbi, pwr := State.reset.pwr, can := State.reset.can, stb := State.reset.stb, rap := State.reset.rap
    brd := { s.brd with sess := [] }, sent := [] }

theorem besideFeedback_rapDo {s : State} {f : State → State} (h : besideFeedback (f s) = besideFeedback s) (who dom reg : Nat) (act : Act) :
    besideFeedback (rapDo s who act dom reg f) = besideFeedback s := by
  refine rapDo_keeps (p := besideFeedback) (fun u who st data => ?_) (fun u r reg => ?_) h who dom reg act
  · obtain ⟨se, c, m, r, heq, -⟩ := rapAnswer_eq u who st data
    rw [heq]
    rfl
  · obtain ⟨b, heq⟩ := writeDenied_eq u r reg
    rw [heq]
    rfl

/-! ### FBI_LOAD, FBI_ARM, FBI_CLEAR and CMP_VAL_HI_WRITE as operations -/

/-- FBI_LOAD notes the tick of the write (R84). -/
def loadNote (n : Nat) (s : State) : State := setCh s n { chSt s n with loadAt := some s.tb }

/-- FBI_ARM stamps the ARM, keeps an earlier one for an index of this tick and sets ARMED (R88, R103). -/
def fbiArm (n : Nat) (s : State) : State :=
  fsetb (setCh s n { chSt s n with
    armAt := s.tb
    armWas := fbit s (R.FBI_STAT n) F.FBI_STAT_ARMED && (decide ((chSt s n).armAt < s.tb) || (chSt s n).armWas) }) (R.FBI_STAT n)
    F.FBI_STAT_ARMED true

section
variable (who : Fin 36) (ch : Fin 16) (s : State)

theorem exec_fbiLoad_eq : exec (.fbiLoad who ch) s = .next (rapDo s who.val .other 11 (R.FBI_CTRL ch.val) (loadNote ch.val)) := rfl

theorem exec_fbiArm_eq : exec (.fbiArm who ch) s = .next (rapDo s who.val .other 11 (R.FBI_CTRL ch.val) (fbiArm ch.val)) := rfl

theorem exec_fbiClear_eq : exec (.fbiClear who ch) s = .next (rapDo s who.val .other 11 (R.FBI_CTRL ch.val) (fbiClear ch.val)) := rfl

theorem exec_cmpValHiWrite_eq (k : Fin 4) (hi : Word) :
    exec (.cmpValHiWrite who k hi) s = .next (rapDo s who.val .other 11 (R.FBI_CMP_VAL_HI k.val) (cmpCommit k.val hi)) := rfl

end

theorem rget_with_fbi (s : State) (x : Fbi) (a : Nat) : rget { s with fbi := x } a = rget s a := rfl

section
variable {n a : Nat} {s : State}

theorem rget_fbiArm_ne (h : a ≠ R.FBI_STAT n) : rget (fbiArm n s) a = rget s a := by
  rw [fbiArm, fsetb, rget_fset_ne h, rget, setCh_regs, rget]

theorem rget_fbiClear_ne (hf : a ≠ R.FBI_FCNT n) (hl : a ≠ R.FBI_LINE n) (hs : a ≠ R.FBI_STAT n) : rget (fbiClear n s) a = rget s a := by
  simp only [fbiClear]
  rw [rget, setCh_regs, ← rget, rget_fset_ne hs, rget_fset_ne hl, rget_fset_ne hl, rget_fset_ne hf, rget_fset_ne hf]

theorem rget_cmpCommit_ne {hi : Word} (hv : a ≠ R.FBI_CMP_VAL_HI n) (hs : a ≠ R.FBI_CMP_STAT n) : rget (cmpCommit n hi s) a = rget s a := by
  rw [cmpCommit, fsetb, rget_fset_ne hs, rget_with_fbi, rget_fset_ne hv]

end

/-- What an operation on channel `n` or compare unit `k` leaves as it was. -/
structure StaysOwn (n k : Nat) (s t : State) : Prop where
  ch : ∀ m : Nat, m ≠ n → chSt t m = chSt s m
  cmp : ∀ m : Nat, m ≠ k → cmpSt t m = cmpSt s m
  beside : besideFeedback t = besideFeedback s

theorem staysOwn_rapDo {n k : Nat} {s : State} {f : State → State} (h : StaysOwn n k s (f s)) (who dom reg : Nat) (act : Act) :
    StaysOwn n k s (rapDo s who act dom reg f) :=
  ⟨fun m hm => chSt_rapDo (h.ch m hm) who dom reg act, fun m hm => cmpSt_rapDo (h.cmp m hm) who dom reg act,
    besideFeedback_rapDo h.beside who dom reg act⟩

theorem staysOwn_setCh {n k : Nat} {s t : State} (h : StaysOwn n k s t) (c : ChSt) : StaysOwn n k s (setCh t n c) :=
  ⟨fun m hm => (chSt_setCh_ne hm).trans (h.ch m hm), h.cmp, h.beside⟩

theorem staysOwn_fset {n k : Nat} {s t : State} (h : StaysOwn n k s t) (a : Nat) (f : Fld) (v : Nat) : StaysOwn n k s (fset t a f v) :=
  ⟨fun m hm => (chSt_congr (by rw [fset_fbi]) m).trans (h.ch m hm), fun m hm => by rw [cmpSt, fset_fbi]; exact h.cmp m hm, h.beside⟩

theorem staysOwn_refl (n k : Nat) (s : State) : StaysOwn n k s s := ⟨fun _ _ => rfl, fun _ _ => rfl, rfl⟩

theorem staysOwn_setCmp {n k : Nat} {s t : State} (h : StaysOwn n k s t) (c : CmpSt) :
    StaysOwn n k s { t with fbi := { t.fbi with cmp := smSet cmpInit k c t.fbi.cmp } } :=
  ⟨h.ch, fun m hm => (smGet_smSet_ne hm _).trans (h.cmp m hm), h.beside⟩

section
variable (n k : Nat) (s : State)

theorem staysOwn_loadNote : StaysOwn n k s (loadNote n s) := staysOwn_setCh (staysOwn_refl n k s) _

theorem staysOwn_fbiArm : StaysOwn n k s (fbiArm n s) := staysOwn_fset (staysOwn_setCh (staysOwn_refl n k s) _) _ _ _

theorem staysOwn_fbiClear : StaysOwn n k s (fbiClear n s) := by
  rw [fbiClear]
  exact staysOwn_setCh (staysOwn_fset (staysOwn_fset (staysOwn_fset (staysOwn_fset (staysOwn_fset (staysOwn_refl n k s) ..) ..) ..) ..) ..) _

theorem staysOwn_cmpCommit (hi : Word) : StaysOwn n k s (cmpCommit k hi s) := by
  rw [cmpCommit]
  exact staysOwn_fset (staysOwn_setCmp (staysOwn_fset (staysOwn_refl n k s) ..) _) ..

end

/-- Each of the four commands of counter channels and compare units is a session's operation on its own channel or unit. -/
theorem staysOwn_exec {who : Fin 36} {ch : Fin 16} {k : Fin 4} {hi : Word} {s t : State} {c : Instr}
    (hc : c ∈ [Instr.fbiLoad who ch, .fbiArm who ch, .fbiClear who ch, .cmpValHiWrite who k hi]) (h : exec c s = .next t) :
    StaysOwn ch.val k.val s t := by
  simp only [List.mem_cons, List.not_mem_nil, or_false] at hc
  rcases hc with rfl | rfl | rfl | rfl
  · rw [exec_fbiLoad_eq] at h
    cases h
    exact staysOwn_rapDo (staysOwn_loadNote ..) ..
  · rw [exec_fbiArm_eq] at h
    cases h
    exact staysOwn_rapDo (staysOwn_fbiArm ..) ..
  · rw [exec_fbiClear_eq] at h
    cases h
    exact staysOwn_rapDo (staysOwn_fbiClear ..) ..
  · rw [exec_cmpValHiWrite_eq] at h
    cases h
    exact staysOwn_rapDo (staysOwn_cmpCommit ..) ..

/-- Settles O56: a command that is refused changes no register and no channel; one that is let through does its operation, on its own channel or
unit. -/
theorem counterCommandsFrame : Obligations.CounterCommandsFrame := by
  refine ⟨fun who ch k hi s t => ⟨fun h => ?_, fun h a ha => ?_, fun h a hf hl hs => ?_, fun h a hv hs => ?_⟩,
    fun who ch k hi s t c hc h => ?_⟩
  · rw [exec_fbiLoad_eq] at h
    cases h
    exact regs_rapDo (setCh_regs ..) ..
  · rw [exec_fbiArm_eq] at h
    cases h
    exact rget_rapDo (rget_fbiArm_ne ha) ..
  · rw [exec_fbiClear_eq] at h
    cases h
    exact rget_rapDo (rget_fbiClear_ne hf hl hs) ..
  · rw [exec_cmpValHiWrite_eq] at h
    cases h
    exact rget_rapDo (rget_cmpCommit_ne hv hs) ..
  · obtain ⟨hch, hcmp, hbeside⟩ := staysOwn_exec hc h
    simp only [besideFeedback, State.mk.injEq, Brd.mk.injEq] at hbeside
    exact ⟨hch, hcmp, by simp only [hbeside, and_self]⟩

/-! ### Accepted edges (R77, R79, R84) -/

section
variable {n : Nat} {s : State}

theorem applyCount_zero (stamp : Nat) : applyCount n 0 stamp s = s := by
  rw [applyCount, if_pos rfl]

theorem inputEdge_of_no_load (na nb nz : Option Bool) (hpre : (chSt s n).pre = none) : inputEdge n na nb nz s = edgeCore n na nb nz s := by
  rw [inputEdge, hpre]

/-- In PERIOD mode a rising A counts by one, down where DIR_INV is set; nothing else counts (R79). -/
theorem countStep_period (bGate dirInv a b ca cb : Bool) :
    countStep 7 bGate dirInv a b ca cb = if ca && a then (if dirInv then -1 else 1) else 0 := by
  cases ca <;> cases a <;> cases dirInv <;> rfl

/-- In PERIOD mode a first sample is a level and counts nothing. -/
theorem edgeCore_period_first (v : Bool) (hmode : chMode s n = 7) (ha : (chSt s n).a = none) :
    edgeCore n (some v) none none s = activeMark n (checkMissing n (
      let t := baseMark n (histMark n s)
      setCh t n { chSt t n with a := some v, b := (chSt s n).b, z := (chSt s n).z })) := by
  simp [edgeCore, hmode, ha, isQuad, usesZ, whenB, countStep_period, applyCount_zero]

/-- In PERIOD mode a rising A is counted, with the stamp of the edge itself. -/
theorem edgeCore_period_rise (hmode : chMode s n = 7) (ha : (chSt s n).a = some false) :
    edgeCore n (some true) none none s = activeMark n (checkMissing n (applyCount n
      (if fbit s (R.FBI_CFG n) F.FBI_CFG_DIR_INV then -1 else 1) (s.tb - fget s (R.FBI_INCFG n) F.FBI_INCFG_MIN_SPACING)
      (let t := baseMark n (histMark n s)
       setCh t n { chSt t n with a := some true, b := (chSt s n).b, z := (chSt s n).z }))) := by
  simp [edgeCore, hmode, ha, isQuad, usesZ, whenB, countStep_period]

end

section
variable {ch : Fin 16} {i : Fin 3} {s : State}

theorem exec_inputEdgeAccepted_on (a b z : Option Bool) (hon : domOn s 11 = true) :
    exec (.inputEdgeAccepted ch a b z) s = .next (inputEdge ch.val a b z s) := by
  rw [exec_inputEdgeAccepted, execInputEdgeAccepted, if_pos hon]

/-! ### Fast edges, wire breaks and held inputs (R78, R81, R92, R93) -/

/-- The counters before this tick's first happening are kept already. -/
theorem baseMark_again {n : Nat} (hkept : (chSt s n).base.at_ = s.tb) : baseMark n s = s := by
  rw [baseMark, if_pos hkept]

/-- A fast edge is counted, and its stamp joins those within FLT_WIN (R78). -/
abbrev fastCounted (n : Nat) (s : State) : State :=
  fincSat (setCh s n { chSt s n with fastT := inWin s n (s.tb :: (chSt s n).fastT), lastBad := some s.tb }) (R.FBI_FCNT n) F.FBI_FCNT_FAST_CNT

theorem exec_fastEdge_below_limit (hon : domOn s 11 = true) (hkept : (chSt s ch.val).base.at_ = s.tb)
    (hfew : (inWin s ch.val (s.tb :: (chSt s ch.val).fastT)).length < fget s (R.FBI_LIM ch.val) F.FBI_LIM_FAST_LIMIT) :
    exec (.fastEdge ch) s = .next (fastCounted ch.val s) := by
  rw [exec_fastEdge, execFastEdge]
  simp only [baseMark_again hkept, hon, hfew, Bool.true_eq_false, or_true, if_false, if_true]

theorem exec_fastEdge_at_limit (hon : domOn s 11 = true) (hkept : (chSt s ch.val).base.at_ = s.tb) (hfree : (chSt s ch.val).fastRaised = false)
    (hmany : fget s (R.FBI_LIM ch.val) F.FBI_LIM_FAST_LIMIT ≤ (inWin s ch.val (s.tb :: (chSt s ch.val).fastT)).length) :
    exec (.fastEdge ch) s = .next (chFaultSet ch.val (fault
      (setCh (fastCounted ch.val s) ch.val { chSt (fastCounted ch.val s) ch.val with fastRaised := true }) Ev.EDGE_FAULT
      [(ch.val : Int), (s.tb : Int)])) := by
  have hfault : ¬((chSt s ch.val).fastRaised = true ∨
      (inWin s ch.val (s.tb :: (chSt s ch.val).fastT)).length < fget s (R.FBI_LIM ch.val) F.FBI_LIM_FAST_LIMIT) := by
    simp [hfree, hmany]
  rw [exec_fastEdge, execFastEdge]
  simp only [baseMark_again hkept, hon, hfault, Bool.true_eq_false, if_false]

/-- With neither EDGE_FAULT nor ILLEGAL_FAULT raised no fault's end is reported. -/
theorem chFaultClear_of_none_raised {n : Nat} (hfault : fbit s (R.FBI_STAT n) F.FBI_STAT_CH_FAULT = true) (hmay : chFaultMayClear s n = true)
    (hfast : (chSt s n).fastRaised = false) (hill : (chSt s n).illRaised = false) :
    chFaultClear n s = fbiValid n (raise (fsetb (setCh s n { chSt s n with
      fastT := [], illT := [], fastRaised := false, illRaised := false }) (R.FBI_STAT n) F.FBI_STAT_CH_FAULT false)
      Ev.CH_FAULT [(n : Int), 0]) := by
  rw [chFaultClear, if_neg (by simp [hfault, hmay])]
  simp only [hfast, hill, whenB, Bool.false_eq_true, if_false]

theorem exec_wireBreak_new (hon : domOn s 11 = true) (hdiff : fbit s (R.FBI_INCFG ch.val) F.FBI_INCFG_DIFF = true)
    (huses : usesInput s ch.val i.val = true) (hnew : i.val ∉ (chSt s ch.val).broken) :
    exec (.wireBreak ch i) s = .next (chFaultSet ch.val (fault (fsetb (setCh s ch.val { chSt s ch.val with
      broken := (chSt s ch.val).broken ++ [i.val] }) (R.FBI_STAT ch.val) F.FBI_STAT_WIRE_BREAK true) Ev.WIRE_BREAK
      [(ch.val : Int), (i.val : Int)])) := by
  rw [exec_wireBreak, execWireBreak]
  simp only [hon, hdiff, huses, hnew, Bool.true_eq_false, or_self, if_false]

/-- With the last broken wire whole again WIRE_BREAK clears. -/
theorem exec_wireBreakEnd_last (hlast : (chSt s ch.val).broken = [i.val]) :
    exec (.wireBreakEnd ch i) s = .next (faultEnd (fsetb (setCh s ch.val { chSt s ch.val with broken := [], lastBreak := some s.tb })
      (R.FBI_STAT ch.val) F.FBI_STAT_WIRE_BREAK false) Ev.WIRE_BREAK [(ch.val : Int), (i.val : Int)]) := by
  have hnone : [i.val].filter (fun x => x != i.val) = [] := by simp
  rw [exec_wireBreakEnd, execWireBreakEnd]
  simp only [hlast, hnone, List.mem_singleton, not_true_eq_false, if_false, List.isEmpty_nil, Bool.not_true]

theorem exec_indexTimeout_beyond (hactive : heldActive s ch.val i.val = true) (hbeyond : heldBeyond s ch.val i.val = true)
    (hnew : i.val ∉ (chSt s ch.val).stuck) :
    exec (.indexTimeout ch i) s = .next (chFaultSet ch.val (fault (fsetb (setCh s ch.val { chSt s ch.val with
      stuck := (chSt s ch.val).stuck ++ [i.val] }) (R.FBI_STAT ch.val) F.FBI_STAT_INDEX_TIMEOUT true) Ev.INDEX_TIMEOUT
      [(ch.val : Int), (i.val : Int)])) := by
  rw [exec_indexTimeout, execIndexTimeout]
  simp only [hactive, hbeyond, hnew, Bool.true_eq_false, or_self, if_false]

theorem exec_indexTimeout_within (hwithin : heldBeyond s ch.val i.val = false) : exec (.indexTimeout ch i) s = .next s := by
  rw [exec_indexTimeout, execIndexTimeout]
  simp only [hwithin, true_or, or_true, if_true]

/-! ### Load, arm and clear (R84, R88, R103, R104) -/

/-- A load sets the counter and keeps what it replaced; with the tick's first value kept already, nothing else changes. -/
theorem fbiLoad_of_kept {n : Nat} (hkept : (chSt s n).hist.head?.map (·.1) = some s.tb) :
    fbiLoad n s = (
      let t := setCount s n (sext 48 (rget64 s (R.FBI_LOAD_LO n) (R.FBI_LOAD_HI n)))
      setCh t n { chSt s n with
        idxAcc := 0, idxPos := false, idxNeg := false, idxSeen := false, dirKnown := false, loadAt := none
        pre := some ⟨s.tb, chCount s n, (chSt s n).idxAcc, (chSt s n).idxPos, (chSt s n).idxNeg,
          (chSt s n).idxSeen, (chSt s n).dirKnown⟩ }) := by
  have hmark : histMark n s = s := by rw [histMark, if_pos hkept]
  rw [fbiLoad, hmark]

/-- Where nothing has been counted in this tick, every counter that CLEAR clears goes to 0. -/
theorem fbiClear_of_none_counted {n : Nat} (hold : (chSt s n).base.at_ ≠ s.tb) :
    fbiClear n s = (
      let t := fset (fset (fset (fset (fset s (R.FBI_FCNT n) F.FBI_FCNT_FAST_CNT 0) (R.FBI_FCNT n) F.FBI_FCNT_ILLEGAL_CNT 0)
        (R.FBI_LINE n) F.FBI_LINE_IN_TOL_CNT 0) (R.FBI_LINE n) F.FBI_LINE_SKIP_CNT 0) (R.FBI_STAT n) F.FBI_STAT_DIR_CNT 0
      setCh t n { chSt t n with base := ⟨s.tb, 0, 0, 0, 0, 0⟩ }) := by
  simp only [fbiClear, if_neg hold]

end

/-- Settles O10, one command after another: under the conditions of a clause the command's guards are met. -/
theorem counterCommandsComplete : Obligations.CounterCommandsComplete := by
  refine ⟨fun ch v s hon hmode ha hpre => ?_, fun ch s hon hmode ha hpre => ?_,
    fun _ _ hon hkept hfew => exec_fastEdge_below_limit hon hkept hfew,
    fun _ _ hon hkept hfree hmany => exec_fastEdge_at_limit hon hkept hfree hmany, fun ch s hfault hmay hfast hill => ?_,
    fun _ _ _ hon hdiff huses hnew => exec_wireBreak_new hon hdiff huses hnew, fun _ _ _ hlast => exec_wireBreakEnd_last hlast,
    fun _ _ _ hactive hbeyond hnew => exec_indexTimeout_beyond hactive hbeyond hnew, fun _ _ _ hwithin => exec_indexTimeout_within hwithin,
    fun who ch s hmay => ?_, fun _ _ _ hkept => fbiLoad_of_kept hkept, fun who ch s hmay => ?_, fun who ch s hmay hold => ?_⟩
  · rw [exec_inputEdgeAccepted_on _ _ _ hon, inputEdge_of_no_load _ _ _ hpre, edgeCore_period_first v hmode ha]
  · rw [exec_inputEdgeAccepted_on _ _ _ hon, inputEdge_of_no_load _ _ _ hpre, edgeCore_period_rise hmode ha]
  · rw [exec_chFaultClear, execChFaultClear, chFaultClear_of_none_raised hfault hmay hfast hill]
  · rw [exec_fbiLoad_eq, rapDo_allowed _ _ hmay, loadNote]
  · rw [exec_fbiArm_eq, rapDo_allowed _ _ hmay, fbiArm]
  · rw [exec_fbiClear_eq, rapDo_allowed _ _ hmay, fbiClear_of_none_counted hold]

/-! ### Compare pulses, SSI ports, analog inputs and sensor supplies (R96, R98, R99, R101, R102) -/

section
variable {s : State}

theorem exec_cmpPulseEnd_eq (k : Fin 4) : exec (.cmpPulseEnd k) s =
    .next { s with fbi := { s.fbi with cmp := smSet cmpInit k.val { cmpSt s k.val with
      pulse := (cmpSt s k.val).pulse.filter (fun p => decide (s.tb < p.2)) } s.fbi.cmp } } := rfl

section
variable {k : Fin 4} {d : Word} {st chk : Nat} {c : SsiCfg}

/-- The port's read is noted (R98). -/
abbrev ssiRead (k : Nat) (s : State) : State := { s with fbi := { s.fbi with ssiAt := smIns k s.tb s.fbi.ssiAt } }

theorem exec_ssiRead_good (hport : s.cfg.pinfn.ssi.getD k.val none = some c) (hon : domOn s 11 = true) (hdue : ssiDue s k.val c = true)
    (hpass : ssiPass c (d.toNat % 2 ^ c.dataBits) 0 chk = true) (hbinary : c.gray = false) (hjoint : ssiJoint s k = false) :
    exec (.ssiRead k d 0 chk false) s = .next (
      let a := R.FBI_SSI_STAT k.val
      let t := rset64 (rsetN (fsetb (fsetb (fsetb (ssiRead k.val s) a F.FBI_SSI_STAT_SSI_WIRE false) a F.FBI_SSI_STAT_VALID true) a
        F.FBI_SSI_STAT_STALE false) (R.FBI_SSI_VALUE k.val) (d.toNat % 2 ^ c.dataBits)) (R.FBI_SSI_TB_LO k.val) (R.FBI_SSI_TB_HI k.val) s.tb
      jointSample (.ssi k) none { t with fbi := { t.fbi with ssiBad := smSet zero k.val 0 t.fbi.ssiBad } }) := by
  have hjoint' : ssiJoint (ssiRead k.val s) k = false := hjoint
  rw [exec_ssiRead, execSsiRead, hport]
  simp only [hon, hdue, Nat.zero_mod, hpass, hbinary, hjoint', Bool.true_eq_false, Bool.false_eq_true, ne_eq, not_true_eq_false, or_self, if_false]

/-- A frame whose wire is low is discarded; up to the second in a row STALE is left as it is. -/
theorem exec_ssiRead_wire_low (hport : s.cfg.pinfn.ssi.getD k.val none = some c) (hon : domOn s 11 = true) (hdue : ssiDue s k.val c = true)
    (hfew : smGet zero s.fbi.ssiBad k.val < 2) :
    exec (.ssiRead k d st chk true) s = .next (
      let a := R.FBI_SSI_STAT k.val
      let t := fincSat (fsetb (fsetb (ssiRead k.val s) a F.FBI_SSI_STAT_SSI_WIRE true) a F.FBI_SSI_STAT_VALID false) a F.FBI_SSI_STAT_BAD_CNT
      fault (jointSample (.ssi k) none { t with fbi := { t.fbi with ssiBad := smSet zero k.val (smGet zero s.fbi.ssiBad k.val + 1) t.fbi.ssiBad } })
        Ev.SSI_DISCARDED [(k.val : Int)]) := by
  have hfresh : decide (3 ≤ smGet zero s.fbi.ssiBad k.val + 1) = false := decide_eq_false (by omega)
  rw [exec_ssiRead, execSsiRead, hport]
  simp only [hon, hdue, hfresh, whenB, Bool.true_eq_false, Bool.false_eq_true, Bool.false_and, or_self, true_or, if_false, if_true]

end

section
variable {n : Fin 16}

theorem exec_ainSample_due {v : BitVec 16} {above : Bool} (hon : domOn s 10 = true)
    (hclosed : fbit s (R.FBI_AIN n.val) F.FBI_AIN_SHUNT_OPEN = false) (hdue : s.tb % 20000 = n.val * 1250) :
    exec (.ainSample n v above) s = .next (
      let a := R.FBI_AIN n.val
      let ma := s.cfg.pinfn.ma.contains n.val
      let good := !ainOpen ma v.toNat && !ainOver ma v.toNat above && supplyOk s n.val && decide (smGet zero s.far.ainBad n.val < 3) &&
        !s.far.ainFail && !s.far.retired.contains (13, 0)
      let t := fsetb (fsetb (fsetb (fset s a F.FBI_AIN_CODE v.toNat) a F.FBI_AIN_OPEN (ainOpen ma v.toNat)) a F.FBI_AIN_OVER
        (ainOver ma v.toNat above)) a F.FBI_AIN_VALID good
      jointSample (.ain n) none (pressInput (.ain n) (Config.ainScale n.val v.toNat) good 20000
        { t with fbi := { t.fbi with
          ainTb := smSet zero n.val s.tb t.fbi.ainTb
          ainWas := smIns n.val (fget s a F.FBI_AIN_CODE, fbit s a F.FBI_AIN_VALID) t.fbi.ainWas } })) := by
  rw [exec_ainSample, execAinSample]
  simp only [hon, hclosed, hdue, Bool.true_eq_false, Bool.false_eq_true, ne_eq, not_true_eq_false, or_self, if_false]

theorem exec_shuntOpen_closed (hma : s.cfg.pinfn.ma.contains n.val = true) (hclosed : fbit s (R.FBI_AIN n.val) F.FBI_AIN_SHUNT_OPEN = false) :
    exec (.shuntOpen n) s = .next (shuntOpen n.val s) := by
  rw [exec_shuntOpen, execShuntOpen, if_pos ⟨hma, hclosed⟩]

theorem exec_shuntClose_due (hopen : fbit s (R.FBI_AIN n.val) F.FBI_AIN_SHUNT_OPEN = true)
    (hdue : smGet zero s.fbi.shuntAt n.val + msTicks 100 ≤ s.tb) :
    exec (.shuntClose n false) s = .next (fsetb s (R.FBI_AIN n.val) F.FBI_AIN_SHUNT_OPEN false) := by
  rw [exec_shuntClose, execShuntClose, if_neg (by simp [hopen, hdue])]
  rfl

end

section
variable {b : Bool}

/-- OK of a sensor supply, SUP5A or SUP5B (R102). -/
abbrev supOk (b : Bool) : Fld := if b then F.FBI_SUP_SUP5B_OK else F.FBI_SUP_SUP5A_OK

/-- The count of a sensor supply's trips (R102). -/
abbrev supTrips (b : Bool) : Fld := if b then F.FBI_SUP_SUP5B_TRIPS else F.FBI_SUP_SUP5A_TRIPS

theorem exec_supplyLimitOff_on (hon : fbit s R.FBI_SUP (supOk b) = true) :
    exec (.supplyLimitOff b) s = .next (fault (supplyFault b true (fincSat (fsetb
      { s with fbi := { s.fbi with supAt := smIns (b2n b) s.tb s.fbi.supAt } } R.FBI_SUP (supOk b) false) R.FBI_SUP (supTrips b)))
      Ev.SUPPLY_FAULT [(b2n b : Int)]) := by
  rw [exec_supplyLimitOff, execSupplyLimitOff]
  dsimp only
  rw [if_neg (by simp [hon])]

theorem exec_supplyRetry_due (hoff : fbit s R.FBI_SUP (supOk b) = false) (hdue : smGet zero s.fbi.supAt (b2n b) + secTicks ≤ s.tb) :
    exec (.supplyRetry b) s = .next (faultEnd (supplyFault b false (fsetb s R.FBI_SUP (supOk b) true)) Ev.SUPPLY_FAULT [(b2n b : Int)]) := by
  rw [exec_supplyRetry, execSupplyRetry]
  dsimp only
  rw [if_neg (by simp [hoff, hdue])]

end

end

/-- Settles O11, one command after another: under the conditions of a clause the command's guards are met. -/
theorem sensorCommandsComplete : Obligations.SensorCommandsComplete :=
  ⟨fun _ _ _ _ hmay => exec_cmpValHiWrite_allowed hmay, fun k _ => exec_cmpPulseEnd_eq k,
    fun _ _ _ _ _ hport hon hdue hpass hbinary hjoint => exec_ssiRead_good hport hon hdue hpass hbinary hjoint,
    fun _ _ _ _ _ _ hport hon hdue hfew => exec_ssiRead_wire_low hport hon hdue hfew,
    fun _ _ _ _ hon hclosed hdue => exec_ainSample_due hon hclosed hdue, fun _ _ hma hclosed => exec_shuntOpen_closed hma hclosed,
    fun _ _ hopen hdue => exec_shuntClose_due hopen hdue, fun _ hon => exec_supplyLimitOff_on (b := false) hon,
    fun _ hoff hdue => exec_supplyRetry_due (b := false) hoff hdue, fun _ hon => exec_supplyLimitOff_on (b := true) hon,
    fun _ hoff hdue => exec_supplyRetry_due (b := true) hoff hdue⟩

end Sys2Proof.Proofs
end

section
/-!
PROOFS. The GNSS baseband: antenna bias, acquisition, tracking and the epoch strobe (R107, R113 to R121), and availability, records, exclusions,
spoofing and interference (R109, R110, R122 to R127).
-/

open Sys2Proof Sys2Proof.Machine Sys2Proof.Laws

namespace Sys2Proof.Proofs

/-! ### Antenna bias (R107) -/

section
variable {ua : Nat} {s : State}

/-- With the bias supplied and no short waited out, a check that is due compares the current with 2 mA and 55 mA. -/
theorem exec_antBiasCheck_supplied (hG : isG s = true) (hon : domOn s 5 = true) (hbias : biasOn s = true) (hoff : s.gns.biasOff = false)
    (hdue : s.gns.antAt + msTicks 100 ≤ s.tb) :
    exec (.antBiasCheck ua) s = .next (
      if ua < 2000 then
        let t := antShow { s with gns := { s.gns with antAt := s.tb, openF := true } }
        if s.gns.openF then t else fault t Ev.ANT_OPEN []
      else if 55000 < ua then antShow { s with gns := { s.gns with antAt := s.tb } }
      else
        let t := antShow { s with gns := { s.gns with antAt := s.tb, openF := false, shortF := false } }
        let t := if s.gns.openF then faultEnd t Ev.ANT_OPEN [] else t
        if s.gns.shortF then faultEnd t Ev.ANT_SHORT [] else t) := by
  rw [exec_antBiasCheck, execAntBiasCheck, if_neg (by simp [hG, hon, hdue])]
  simp only [hbias, hoff, Bool.true_eq_false, Bool.false_eq_true, or_self, if_false]

theorem exec_antShort_new (hbias : biasOn s = true) (hoff : s.gns.biasOff = false) (hnew : s.gns.shortF = false) :
    exec .antShort s = .next (fault (antShow { s with gns := { s.gns with biasOff := true, shortF := true, shortAt := s.tb } }) Ev.ANT_SHORT []) := by
  rw [exec_antShort, execAntShort, if_neg (by simp [hbias, hoff])]
  simp only [hnew, Bool.false_eq_true, if_false]

theorem exec_antBiasRetry_due (hoff : s.gns.biasOff = true) (hdue : s.gns.shortAt + secTicks ≤ s.tb) :
    exec .antBiasRetry s = .next (antShow { s with gns := { s.gns with biasOff := false } }) := by
  rw [exec_antBiasRetry, execAntBiasRetry, if_neg (by simp [hoff, hdue])]

end

/-! ### Acquisition (R113 to R116) -/

theorem roundTake_nil (tiles : Nat) : (roundTake tiles []).1 = [] := by
  cases tiles <;> rfl

/-- A search whose dwells the tiles make in one round leaves nothing pending. -/
theorem roundTake_single {tiles : Nat} {q : Search} (hin : 0 < tiles) (hends : q.left ≤ tiles) : roundTake tiles [q] = ([q], []) := by
  obtain ⟨t, rfl⟩ := Nat.exists_eq_add_of_lt hin
  rw [Nat.zero_add] at hends ⊢
  cases hrest : t + 1 - q.left <;> simp [roundTake, hends, hrest]

section
variable {s : State}

theorem exec_acqRound_nothing_pending (l : List Cand) (hnone : s.gns.search = []) : exec (.acqRound l) s = .next s := by
  rw [exec_acqRound, execAcqRound]
  simp only [hnone, roundTake_nil, true_or, or_true, if_true]

/-- The state once the cells found by the last round of a search went to channels: SEARCHING ends, and its 60 s begin (R114). -/
abbrev searchEnded (now : Nat) (s : State) : State :=
  { fsetb { s with gns := { s.gns with search := [], roundAt := now } } R.GNS_ACQ F.GNS_ACQ_SEARCHING false with
    gns := { s.gns with search := [], roundAt := now, searchAt := now } }

/-- The round that finishes the one search pending. -/
theorem exec_acqRound_ends_search {q : Search} (found : List Cand) (hG : isG s = true) (hon : domOn s 3 = true) (hq : s.gns.search = [q])
    (hin : 0 < fget s R.GNS_ACQ F.GNS_ACQ_TILES_IN) (hends : q.left ≤ fget s R.GNS_ACQ F.GNS_ACQ_TILES_IN)
    (hdue : s.gns.roundAt + dwellTicks q.sat.1 ≤ s.tb) :
    exec (.acqRound found) s = .next (searchEnded s.tb (
      if trkOn s then
        forEach ((found.filter (fun c => q.covers c.sat)).take (fget s R.GNS_ACQ F.GNS_ACQ_TILES_IN))
          (fun c s => handOver c (q.sat == c.sat && q.slip) s) s
      else s)) := by
  rw [exec_acqRound, execAcqRound]
  simp only [hq, roundTake_single hin hends, List.foldl_cons, List.foldl_nil, Nat.zero_max, List.any_cons, List.any_nil, Bool.or_false,
    List.filter_nil, if_true]
  rw [if_neg (by simp [hG, hon, hdue])]

theorem exec_pullInTimeout_due {n : Fin 96} (hpull : (chan s n.val).state = 1) (hdue : (chan s n.val).since + msTicks 500 ≤ s.tb) :
    exec (.pullInTimeout n) s = .next (fincSat (setChan n.val (chanIdle 0) s) R.GNS_ACQ F.GNS_ACQ_DROPPED) := by
  rw [exec_pullInTimeout, execPullInTimeout]
  dsimp only
  rw [if_neg (by simp [hpull, hdue])]

theorem exec_acqPowerOff_due (hnone : fbit s R.GNS_ACQ F.GNS_ACQ_SEARCHING = false) (hdue : s.gns.searchAt + 60 * secTicks ≤ s.tb) :
    exec .acqPowerOff s = .next (domSet s 3 false) := by
  rw [exec_acqPowerOff, execAcqPowerOff, if_neg (by simp [hnone, hdue])]

end

/-! ### Tracking and the epoch strobe (R116, R117, R119, R120) -/

section
variable {n : Nat} {s : State}

/-- A dump of a channel in use, of a bank in service, is due (R117). -/
abbrev dumpDue (s : State) (n : Nat) : Prop :=
  trkOn s = true ∧ (chan s n).state ≠ 0 ∧ n / 8 ∉ s.gns.outBanks ∧ (chan s n).dumpAt + cohTicks s (chan s n) ≤ s.tb

theorem not_skipped_of_dumpDue (h : dumpDue s n) :
    ¬(trkOn s = false ∨ (chan s n).state = 0 ∨ n / 8 ∈ s.gns.outBanks ∨ s.tb < (chan s n).dumpAt + cohTicks s (chan s n)) := by
  obtain ⟨hon, hused, hbank, hdue⟩ := h
  simp [hon, hused, hbank, hdue]

theorem lossKeep_between_epochs (hepoch : s.tb % epochTicks s ≠ 0) : lossKeep n s = s := by
  rw [lossKeep, if_pos hepoch]

theorem toIdle_of_used {slip : Bool} (hused : (chan s n).state ≠ 0) :
    toIdle n slip s = searchSat (chan s n).sat slip (setChan n (chanIdle 0) s) := by
  rw [toIdle]
  exact if_neg hused

end

section
variable {n : Fin 96} {d : Dump} {s : State}

theorem exec_trackingDump_loses (hdump : dumpDue s n.val) (hepoch : s.tb % epochTicks s ≠ 0) (hlost : dumpState s.tb (chan s n.val) d = none) :
    exec (.trackingDump n d) s = .next (searchSat (chan s n.val).sat false (setChan n.val (chanIdle 0) s)) := by
  have ⟨_, hused, _, _⟩ := hdump
  rw [exec_trackingDump, execTrackingDump]
  simp only [if_neg (not_skipped_of_dumpDue hdump), hlost, lossKeep_between_epochs hepoch, toIdle_of_used hused]

/-- A dump that lowers no state and leaves the verdict on the symmetry as it is records the channel. -/
theorem exec_trackingDump_keeps {c : Chan} (hdump : dumpDue s n.val) (hkept : dumpState s.tb (chan s n.val) d = some c)
    (hsym : (symState s.tb c d.sym).symEx = (chan s n.val).symEx) (hup : (chan s n.val).state ≤ (symState s.tb c d.sym).state) :
    exec (.trackingDump n d) s = .next (ephKeep (symState s.tb c d.sym) (setChan n.val (symState s.tb c d.sym) s)) := by
  rw [exec_trackingDump, execTrackingDump]
  simp only [if_neg (not_skipped_of_dumpDue hdump), hkept, hsym, if_neg (Nat.not_lt.2 hup)]
  cases (chan s n.val).symEx <;> rfl

theorem exec_cn0Loss_due {t : Nat} (hweak : (chan s n.val).weak = some t) (hdue : t + secTicks ≤ s.tb) (hused : (chan s n.val).state ≠ 0)
    (hepoch : s.tb % epochTicks s ≠ 0) :
    exec (.cn0Loss n) s = .next (searchSat (chan s n.val).sat false (setChan n.val (chanIdle 0) s)) := by
  rw [exec_cn0Loss, execCn0Loss, hweak]
  simp only [if_pos (And.intro hdue hused), lossKeep_between_epochs hepoch, toIdle_of_used hused]

theorem exec_epochStrobe_first (e : GStrobe) (hon : trkOn s = true) (hepoch : s.tb % epochTicks s = 0) (hring : s.gns.ring = []) :
    exec (.epochStrobe e) s = .next (strobeRecord e (takeTold e.told (applyPath e.told.path s))) := by
  rw [exec_epochStrobe, execEpochStrobe, if_neg (by simp [hon, hepoch, hring])]

end

/-- Settles O12, one command after another: under the conditions of a clause the command's guards are met. -/
theorem gnssBasebandCommandsComplete : Obligations.GnssBasebandCommandsComplete := by
  refine ⟨fun ua s hG hon hbias hoff hdue hlow hopen => ?_, fun ua s hG hon hbias hoff hdue hlow hhigh hopen hshort => ?_,
    fun ua s hG hon hbias hoff hdue hlow hhigh hopen hshort => ?_, fun _ hbias hoff hnew => exec_antShort_new hbias hoff hnew,
    fun _ hoff hdue => exec_antBiasRetry_due hoff hdue, fun l _ hnone => exec_acqRound_nothing_pending l hnone,
    fun s q hG hon hq hin hends hdue => ?_, fun s q c hG hon htrk hq hcov hsat hin hends hdue => ?_,
    fun _ _ hpull hdue => exec_pullInTimeout_due hpull hdue, fun _ hnone hdue => exec_acqPowerOff_due hnone hdue,
    fun _ _ _ hon hused hbank hdue hepoch hlost => exec_trackingDump_loses ⟨hon, hused, hbank, hdue⟩ hepoch hlost,
    fun _ _ _ _ hon hused hbank hdue hkept hsym hup => exec_trackingDump_keeps ⟨hon, hused, hbank, hdue⟩ hkept hsym hup,
    fun _ _ _ hweak hdue hused hepoch => exec_cn0Loss_due hweak hdue hused hepoch,
    fun e _ hon hepoch hring => exec_epochStrobe_first e hon hepoch hring⟩
  · rw [exec_antBiasCheck_supplied hG hon hbias hoff hdue, if_pos hlow, hopen]
    rfl
  · rw [exec_antBiasCheck_supplied hG hon hbias hoff hdue, if_neg (Nat.not_lt.2 hlow), if_neg (Nat.not_lt.2 hhigh), hopen, hshort]
    rfl
  · rw [exec_antBiasCheck_supplied hG hon hbias hoff hdue, if_neg (Nat.not_lt.2 hlow), if_neg (Nat.not_lt.2 hhigh), hopen, hshort]
    rfl
  · rw [exec_acqRound_ends_search [] hG hon hq hin hends hdue]
    simp only [List.filter_nil, List.take_nil, forEach, List.foldl_nil, ite_self]
  · have hcells : ([c].filter (fun c => q.covers c.sat)).take (fget s R.GNS_ACQ F.GNS_ACQ_TILES_IN) = [c] := by
      simp only [List.filter_singleton, hcov, cond_true, List.take_of_length_le (l := [c]) hin]
    have hslip : (q.sat == c.sat && q.slip) = q.slip := by simp [hsat]
    rw [exec_acqRound_ends_search [c] hG hon hq hin hends hdue, if_pos htrk, hcells]
    simp only [forEach, List.foldl_cons, List.foldl_nil, hslip]

/-! ### Availability and records (R109, R110, R121, R125) -/

section
variable {s : State}

/-- With fewer than 4 usable satellites of the main system the fall-back is announced, whatever the evaluations before found. -/
theorem exec_availabilityEval_too_few (a : Avail) (hrole : poseRole s = true) (hspoof : inSpoof s = false) (hpath : s.gns.pathNext = none)
    (hmain : fbit s R.GNS_STATUS F.GNS_STATUS_FALLBACK = false) (hdue : s.tb / secTicks * secTicks + msTicks 2 ≤ s.tb)
    (hnew : s.gns.evalAt ≠ some (s.tb / secTicks * secTicks)) (hfew : usableOf (usableSats s (s.tb / secTicks * secTicks)) (mainSys s) < 4) :
    exec (.availabilityEval a) s = .next (announcePath true
      (evalShow (usableOf (usableSats s (s.tb / secTicks * secTicks)) (mainSys s)) (usableSats s (s.tb / secTicks * secTicks)).length a
        { s with gns := { s.gns with evalAt := some (s.tb / secTicks * secTicks) } })) := by
  rw [exec_availabilityEval, execAvailabilityEval]
  dsimp only
  rw [if_neg (by simp [hrole, hdue, hnew]), if_neg (by simp [hspoof, hpath]), if_pos hmain, if_pos (.inl hfew)]

theorem exec_gnssRecord_at_solver (r : GRec) (c : GChk) (hrole : poseRole s = true) :
    exec (.gnssRecord r c none) s = .next (spoofCheck (integrity r (chkCoh (recTake r s) r c) (recTake r s))) := by
  rw [exec_gnssRecord, execGnssRecord, if_pos hrole]

/-! ### The ends of an exclusion, of SUSPECT and of SPOOF (R125, R126) -/

theorem exec_exclusionEnd_due {a : Fin 64} {sat : Sat} {e : Excl}
    (hfind : s.gns.excl.find? (fun e => e.ant == some a.val && e.sat == sat && e.cause == .ccd) = some e) (hdue : e.at_ + 60 * secTicks ≤ s.tb) :
    exec (.exclusionEnd a sat) s = .next (unexclude (some a.val) sat .ccd Ev.CCD_FAULT s) := by
  rw [exec_exclusionEnd, execExclusionEnd, hfind]
  simp only [hdue, if_true]

/-- An antenna is SUSPECT no longer. -/
abbrev suspectOff (a : Nat) (s : State) : State := setAnt a { antSt s a with suspect := false } s

/-- The end of SUSPECT is reported; for its own antenna the module shows it. -/
theorem exec_suspectClear_due {a : Fin 64} (hsus : (antSt s a.val).suspect = true) (hdue : (antSt s a.val).badAt + 60 * secTicks ≤ s.tb) :
    exec (.suspectClear a) s = .next (faultEnd
      (if a.val = midOf s then chanShow (fsetb (suspectOff a.val s) R.GNS_STATUS F.GNS_STATUS_SUSPECT false) else suspectOff a.val s)
      Ev.ANT_SUSPECT [(a.val : Int)]) := by
  rw [exec_suspectClear, execSuspectClear]
  dsimp only
  rw [if_neg (by simp [hsus, hdue])]

theorem exec_spoofClear_two_antennas (hspoof : inSpoof s = true) (hrole : poseRole s = true)
    (htwo : 2 ≤ (s.gns.ants.filter (fun x => antNew s x.2 && x.2.coh)).length) (hdue : s.gns.spoofBad + 60 * secTicks ≤ s.tb) :
    exec .spoofClear s = .next (spoofLeave s) := by
  rw [exec_spoofClear, execSpoofClear]
  simp only [hspoof, hrole, htwo, hdue, decide_true, Bool.and_self, Bool.true_or, if_true]

/-! ### Interference (R124) -/

theorem notchRelease_none (k : Nat) : notchRelease k none s = s := rfl

/-- No line stands and the gain is within 12 of nominal: no notch moves, and neither kind of JAM_DETECT has its condition. -/
theorem exec_interferenceFft_clear {gain jn : Nat} (hG : isG s = true) (hon : domOn s 5 = true) (hA : notchLow s 0 [] s.gns.lowA = none)
    (hB : notchLow s 1 [] s.gns.lowB = none) (hgain : fget s R.GNS_AGC F.GNS_AGC_NOM_GAIN < gain + 12) :
    exec (.interferenceFft [] gain jn) s = .next (
      let t := fset (fset s R.GNS_AGC F.GNS_AGC_GAIN gain) R.GNS_AGC F.GNS_AGC_JN jn
      gainCount gain (jamSet false false jn (some (s.gns.jamClear.getD s.tb))
        { t with gns := { t.gns with lineRun := [], lowA := none, lowB := none, wideFrom := none } })) := by
  rw [exec_interferenceFft, execInterferenceFft, if_neg (by simp [hG, hon])]
  simp only [hA, hB, notchRelease_none, if_neg (Nat.not_le.2 hgain), List.filter_nil, List.map_nil, List.any_nil, forEach, List.foldl_nil,
    Option.isSome_none, Bool.false_eq_true, or_self, if_false]

theorem exec_nomGainUpdate_due {m : Nat} (hmed : median s.gns.gains = some m) (hG : isG s = true) (hon : domOn s 5 = true)
    (hjam : fbit s R.GNS_STATUS F.GNS_STATUS_JAM = false) (hdue : s.gns.nomAt + 3600 * secTicks ≤ s.tb) :
    exec .nomGainUpdate s =
      .next (fset { s with gns := { s.gns with nomGain := m, gains := [], nomAt := s.tb } } R.GNS_AGC F.GNS_AGC_NOM_GAIN m) := by
  rw [exec_nomGainUpdate, execNomGainUpdate, hmed]
  simp only [hG, hon, hjam, hdue, Bool.not_false, decide_true, Bool.and_self, if_true]

end

/-- Settles O13, one command after another: under the conditions of a clause the command's guards are met. -/
theorem gnssIntegrityCommandsComplete : Obligations.GnssIntegrityCommandsComplete := by
  refine ⟨fun a _ hrole hspoof hpath hmain hdue hnew hfew => exec_availabilityEval_too_few a hrole hspoof hpath hmain hdue hnew hfew,
    fun _ _ _ _ _ => rfl, fun r c _ hrole => exec_gnssRecord_at_solver r c hrole,
    fun _ _ _ _ hfind hdue => exec_exclusionEnd_due hfind hdue, fun a s hsus hdue hother => ?_, fun a s hsus hdue hown => ?_,
    fun _ hspoof hrole htwo hdue => exec_spoofClear_two_antennas hspoof hrole htwo hdue,
    fun _ _ _ hG hon hA hB hgain => exec_interferenceFft_clear hG hon hA hB hgain,
    fun _ _ hmed hG hon hjam hdue => exec_nomGainUpdate_due hmed hG hon hjam hdue⟩
  · rw [exec_suspectClear_due hsus hdue, if_neg hother]
  · rw [exec_suspectClear_due hsus hdue, if_pos hown]

end Sys2Proof.Proofs
end

section
/-!
PROOFS. The team time: offsets, hold-over, slewing and the time pulse (R140 to R145).
-/

open Sys2Proof Sys2Proof.Machine Sys2Proof.Laws

namespace Sys2Proof.Proofs

section
variable {s : State}

/-! ### Offsets (R15, R140) -/

/-- A module that is not the time master keeps the offset for its boundary and follows the TT state it is told. -/
theorem exec_ttOfsAnnounce_follower (ofs : Int) (b st : Nat) (hrole : timeRole s = false) :
    exec (.ttOfsAnnounce ofs b st) s = .next (ttSee (st % 5) (ofsAdd ofs b s)) := by
  rw [exec_ttOfsAnnounce, execTtOfsAnnounce, if_neg (by simp [hrole])]

theorem exec_ttOfsApply_due {b : Nat} {o : Int} (hnamed : s.pos.ofsNamed = [(b, o)]) (hdue : b ≤ s.tb) :
    exec .ttOfsApply s = .next (applyOfs o { s with pos := { s.pos with ofsNamed := [] } }) := by
  have htaken : [(b, o)].filter (fun x => decide (x.1 ≤ s.tb)) = [(b, o)] := by simp [hdue]
  have hleft : [(b, o)].filter (fun x => decide (s.tb < x.1)) = [] := by simp [hdue]
  rw [exec_ttOfsApply, execTtOfsApply, hnamed, htaken, hleft]
  rfl

/-- Before its boundary an offset stays named, so the state is as it was. -/
theorem exec_ttOfsApply_early {b : Nat} {o : Int} (hnamed : s.pos.ofsNamed = [(b, o)]) (hearly : s.tb < b) :
    exec .ttOfsApply s = .next s := by
  have htaken : [(b, o)].filter (fun x => decide (x.1 ≤ s.tb)) = [] := by simp [hearly]
  have hleft : [(b, o)].filter (fun x => decide (s.tb < x.1)) = [(b, o)] := by simp [hearly]
  rw [exec_ttOfsApply, execTtOfsApply, hnamed, htaken, hleft, ← hnamed]
  rfl

/-! ### Hold-over and slewing (R141, R144, R145) -/

/-- When HOLDOVER has lasted HOLD_S, TT is FREE_RUN; the time master tells the team. -/
theorem exec_holdoverLimit_due {t : Nat} (hat : s.pos.holdAt = some t) (hstate : ttState s = 2)
    (hdue : t + fget s R.POS_HOLD F.POS_HOLD_HOLD_S * secTicks ≤ s.tb) :
    exec .holdoverLimit s = .next (if timeRole s then tellTt 3 s else setTt 3 s) := by
  rw [exec_holdoverLimit, execHoldoverLimit, hat]
  exact congrArg _ (if_pos ⟨hstate, hdue⟩)

theorem exec_slewEnd_within_a_tick {e : Int} (hslew : s.pos.slew = some e) (hsmall : e.natAbs < 32) :
    exec .slewEnd s = .next (fsetb { s with pos := { s.pos with slew := none } } R.POS_TT_STATUS F.POS_TT_STATUS_SLEWING false) := by
  rw [exec_slewEnd, execSlewEnd, hslew]
  exact congrArg _ (if_pos hsmall)

/-! ### The time pulse (R142, R143) -/

/-- With no step waiting for the pulse, its leading edge drives TPO and names no offset. -/
theorem exec_tpoPulse_edge {sec : Nat} (hon : tpoOn s = true) (hdue : pulseDue s sec = true) (hallowed : pulseAllowed s sec = true)
    (hstep : s.pos.stepPend = none) :
    exec (.tpoPulse sec) s = .next (
      send { s with pos := { s.pos with tpo := true, tpoSub := (pulseAt s sec % 32).toNat, lastS := some sec, lastPulse := some s.tb } }
        MsgKind.TPO 0 [(sec : Int), ((pulseAt s sec % 32).toNat : Int)]) := by
  rw [exec_tpoPulse, execTpoPulse, if_neg (by simp [hon, hdue, hallowed])]
  simp only [hstep]

theorem exec_tpoPulseEnd_due {t : Nat} (hlast : s.pos.lastPulse = some t)
    (hdue : t + fget s R.POS_TPO_CFG F.POS_TPO_CFG_WIDTH * msTicks 10 ≤ s.tb) :
    exec .tpoPulseEnd s = .next { s with pos := { s.pos with tpo := false } } := by
  rw [exec_tpoPulseEnd, execTpoPulseEnd, hlast]
  exact congrArg _ (if_pos hdue)

end

/-- Settles O15, one command after another: under the conditions of a clause the command's guards are met. -/
theorem timeCommandsComplete : Obligations.TimeCommandsComplete := by
  refine ⟨fun ofs b st _ hrole => exec_ttOfsAnnounce_follower ofs b st hrole, fun _ _ _ hnamed hdue => exec_ttOfsApply_due hnamed hdue,
    fun _ _ _ hnamed hearly => exec_ttOfsApply_early hnamed hearly, fun s t hat hstate hdue hrole => ?_, fun s t hat hstate hdue hrole => ?_,
    fun _ _ hon hdue hallowed hstep => exec_tpoPulse_edge hon hdue hallowed hstep, fun _ _ hlast hdue => exec_tpoPulseEnd_due hlast hdue,
    fun _ _ hslew hsmall => exec_slewEnd_within_a_tick hslew hsmall⟩
  · rw [exec_holdoverLimit_due hat hstate hdue, if_neg (by simp [hrole])]
  · rw [exec_holdoverLimit_due hat hstate hdue, if_pos hrole]

end Sys2Proof.Proofs
end

section
/-!
PROOFS. The Stride cycle: boundary, cut-off, restore, write-back and commit (R149, R162, R165, R175 to R177), the sweep of the recent plane
(R167), and the debug halt (R179, R246).
-/

open Sys2Proof Sys2Proof.Machine Sys2Proof.Laws

namespace Sys2Proof.Proofs

/-- A change counts for the output stage by what it makes of the state it meets. -/
theorem staged_congr {f g : State → State} {s : State} (h : f s = g s) : staged f s = staged g s := by
  rw [staged, staged, h]

section
variable {s : State}

/-! ### The boundary (R149) -/

/-- The state at a boundary once the counters have been read. -/
abbrev boundaryRead (s : State) : State :=
  counterSnapshot s.tb { s with str := { s.str with cycle := s.tb, written := false, late := false } }

/-- At a boundary not yet taken the counters are read, and the core's work follows where the core runs. -/
theorem exec_strideBoundary_due (hrun : s.pwr.tbRun = true) (hgrid : s.tb % cycleTicks = 0) (hnew : s.str.cycle ≠ s.tb) :
    exec .strideBoundary s = .next (if domOn s 1 = false ∨ s.pwm.halted then boundaryRead s
      else coreBoundary s.tb (rset64 (boundaryRead s) R.STR_CYCLE_LO R.STR_CYCLE_HI s.tb)) := by
  rw [exec_strideBoundary, execStrideBoundary, if_neg (by simp [hrun, hgrid, hnew])]

/-! ### The cut-off and the restore (R176, R177) -/

/-- A cut names a sweep in progress at a horizon in effect, so the cycle is late and its count is that of the horizons from there on. -/
theorem exec_strideCutoff_one {o : Fin 96} {h : Fin 8} (hopen : s.str.written = false) (hfirst : s.str.late = false)
    (hdue : s.str.cycle + 38000 ≤ s.tb) (hcycle : s.tb < s.str.cycle + cycleTicks) (hsweep : (outSt s o.val).sweep.isSome = true)
    (heff : h.val < fget s R.STR_STATUS F.STR_STATUS_N_EFF) :
    exec (.strideCutoff [(o, h)]) s = .next (
      let t := setOut s o.val { outSt s o.val with cutHz := some h.val }
      let u := fset (fincSat (fincSat t R.STR_OVR F.STR_OVR_OVERRUNS) R.STR_OVR F.STR_OVR_CONSEC) R.STR_OVR F.STR_OVR_LOW_SKIP (min 7 h.val)
      lateRecord (fget s R.STR_OVR F.STR_OVR_CONSEC == 0) (0 + (fget s R.STR_STATUS F.STR_STATUS_N_EFF - h.val)) (min 7 h.val)
        (fsetb { u with str := { u.str with late := true, cleanRun := 0 } } R.STR_STATUS F.STR_STATUS_STRIDE_LATE true)) := by
  have hhit : [(o, h)].filter (fun c => (outSt s c.1.val).sweep.isSome && decide (c.2.val < fget s R.STR_STATUS F.STR_STATUS_N_EFF)) =
      [(o, h)] := by simp [hsweep, heff]
  have htaken : ¬(s.str.written = true ∨ s.str.late = true ∨ s.tb < s.str.cycle + 38000 ∨ s.str.cycle + cycleTicks ≤ s.tb ∨
      [(o, h)] = []) := by simp [hopen, hfirst, hdue, hcycle]
  rw [exec_strideCutoff, execStrideCutoff]
  simp only [hhit, if_neg htaken, List.foldl_cons, List.foldl_nil, forEach]

theorem exec_strideFullRestore_due (hred : fbit s R.STR_STATUS F.STR_STATUS_REDUCED = true) (hclean : 5000 ≤ s.str.cleanRun)
    (hgrid : s.tb % cycleTicks = 0)
    (hmargin : ∀ i ∈ strLanes s, fget s R.SYS_GAIT_CFG F.SYS_GAIT_CFG_WARN_PCT ≤ fget s (R.SYS_GAIT_PACE i) F.SYS_GAIT_PACE_MARGIN) :
    exec .strideFullRestore s = .next (faultEnd (fset (fsetb s R.STR_STATUS F.STR_STATUS_REDUCED false) R.STR_STATUS F.STR_STATUS_N_EFF
      (fget s R.STR_CFG F.STR_CFG_N_HZ)) Ev.STRIDE_REDUCED []) := by
  have hlanes : (strLanes s).any (fun i => decide (fget s (R.SYS_GAIT_PACE i) F.SYS_GAIT_PACE_MARGIN <
      fget s R.SYS_GAIT_CFG F.SYS_GAIT_CFG_WARN_PCT)) = false := by simpa using hmargin
  rw [exec_strideFullRestore, execStrideFullRestore]
  exact congrArg _ (if_neg (by simp [hred, hclean, hgrid, hlanes]))

/-! ### The write-back (R149, R172) -/

/-- Where the engine does not run, no lane is checked and nothing is planned: the rates are shown and what stands planned is committed. -/
theorem exec_strideWriteback_engine_stopped (mis : Bool) (hopen : s.str.written = false) (hrun : s.pwr.tbRun = true) (hon : domOn s 1 = true)
    (hhalt : s.pwm.halted = false) (hbegun : s.str.cycle ≤ s.tb) (hcycle : s.tb < s.str.cycle + cycleTicks) (hstop : engineRuns s = false) :
    exec (.strideWriteback mis) s = .next (staged (fun x =>
      let skip := if quiescing x then x.img.scope else []
      let r := forEach ((strideOuts x).filter (fun o => !skip.contains o.out)) (fun o y => rateOut s.str.cycle o y) x
      let t := provTidy (commitAll s.str.cycle r)
      shadowPlans { t with str := { t.str with written := true } }) s) := by
  have htaken : ¬(s.str.written = true ∨ s.pwr.tbRun = false ∨ domOn s 1 = false ∨ s.pwm.halted = true ∨ s.tb < s.str.cycle ∨
      s.str.cycle + cycleTicks ≤ s.tb) := by simp [hopen, hrun, hon, hhalt, hbegun, hcycle]
  rw [exec_strideWriteback, execStrideWriteback]
  simp only [if_neg htaken]
  refine congrArg _ (staged_congr ?_)
  simp only [hstop, Bool.false_and, Bool.and_false, Bool.false_eq_true, if_false, if_true, true_or, List.nil_append]

/-! ### The commit point (R165) -/

theorem exec_eventCommit_due {o : Fin 96} {e : QEnt} {q : List QEnt} (hqueue : (outSt s o.val).queue = e :: q) (hdue : e.tick ≤ s.tb)
    (hrun : s.pwr.tbRun = true) (hfree : s.pwm.frozen = none) (hon : domOn s 10 = true) (hgate : gateLive s = true) :
    exec (.eventCommit o) s = .next (staged (fun x => nextReg o.val (gateTake o.val e.on e.ground
      (setOut x o.val { outSt x o.val with queue := q, last := some (x.tb, e, gateOn x o.val, (outSt x o.val).fixed) }))) s) := by
  rw [exec_eventCommit, execEventCommit]
  simp only [hqueue]
  rw [if_neg (by simp [hdue, hrun, hfree, hon, hgate])]

/-! ### The sweep of the recent plane (R167) -/

/-- With no cell covered and no provisional count no block is marked, so the one stamp is cleared; the block is OLD where the stamp has aged. -/
theorem exec_recentPlaneSweep_unmarked {b n : Nat} (hstamp : s.str.stamp = [(b, n)]) (hcode : s.cov.code = []) (hprov : s.str.prov = []) :
    exec .recentPlaneSweep s = .next { s with str := { s.str with
      stamp := [], old := if (n + 80) * 10000000 ≤ s.tb then smSet unset b true s.str.old else s.str.old } } := by
  have hold : ([(b, n)].filter (fun x => decide ((x.2 + 80) * 10000000 ≤ s.tb))).foldl (fun m x => smSet unset x.1 true m) s.str.old =
      if (n + 80) * 10000000 ≤ s.tb then smSet unset b true s.str.old else s.str.old := by
    by_cases haged : (n + 80) * 10000000 ≤ s.tb <;> simp [haged]
  rw [exec_recentPlaneSweep, execRecentPlaneSweep]
  simp only [hstamp, hcode, hprov, hold, List.any_nil, Bool.or_self, List.filter_false]

/-! ### The debug halt (R179, R246) -/

theorem exec_debugHalt_running {who : Fin 36} (hmay : rapMay s who.val .debug 0 = true) (hon : domOn s 1 = true)
    (hhalt : s.pwm.halted = false) :
    exec (.debugHalt who) s = .next (rapAnswer (staged (fun x => halterCheck (wdStart (freeze
      (let t := slicesDrop (haltUndo x)
       { t with pwm := { t.pwm with halted := true } })))) s) who.val .ok []) := by
  rw [exec_debugHalt, execDebugHalt, rapDo_allowed _ _ hmay, if_neg (by simp [hon, hhalt])]

theorem exec_debugResume_halted {who : Fin 36} (hmay : rapMay s who.val .debug 0 = true) (hhalt : s.pwm.halted = true) :
    exec (.debugResume who) s = .next (rapAnswer (staged (fun x => queueCatchUp x.tb (unfreeze
      { x with pwm := { x.pwm with halted := false } })) s) who.val .ok []) := by
  rw [exec_debugResume, execDebugResume, rapDo_allowed _ _ hmay, if_neg (by simp [hhalt])]

end

/-- Settles O16, one command after another: under the conditions of a clause the command's guards are met. -/
theorem strideCommandsComplete : Obligations.StrideCommandsComplete := by
  refine ⟨fun s hrun hgrid hnew hoff => ?_, fun s hrun hgrid hnew hon hhalt => ?_,
    fun _ _ _ hopen hfirst hdue hcycle hsweep heff => exec_strideCutoff_one hopen hfirst hdue hcycle hsweep heff,
    fun _ hred hclean hgrid hmargin => exec_strideFullRestore_due hred hclean hgrid hmargin,
    fun mis _ hopen hrun hon hhalt hbegun hcycle hstop => exec_strideWriteback_engine_stopped mis hopen hrun hon hhalt hbegun hcycle hstop,
    fun _ _ _ _ hqueue hdue hrun hfree hon hgate => exec_eventCommit_due hqueue hdue hrun hfree hon hgate,
    fun _ _ _ hstamp hcode hprov => exec_recentPlaneSweep_unmarked hstamp hcode hprov,
    fun _ _ hmay hon hhalt => exec_debugHalt_running hmay hon hhalt, fun _ _ hmay hhalt => exec_debugResume_halted hmay hhalt⟩
  · rw [exec_strideBoundary_due hrun hgrid hnew, if_pos (.inl hoff)]
  · rw [exec_strideBoundary_due hrun hgrid hnew, if_neg (by simp [hon, hhalt])]

end Sys2Proof.Proofs
end

section
/-!
PROOFS. Coverage and maps: the commit of a cell (R183, R185, R198), strips, holes and resends (R198, R199), the map cache (R186), catch-up (R200),
and the commands of jobs and of exclusions (R190, R201 to R205).
-/

open Sys2Proof Sys2Proof.Machine Sys2Proof.Laws

namespace Sys2Proof.Proofs

section
variable {s : State}

/-! ### The commit of a cell (R183, R185, R198) -/

/-- The recent plane keeps stamps and blocks of its own; the replica stays as it was. -/
@[simp] theorem recEnter_cov (t : Nat) (s : State) : (recEnter t s).cov = s.cov := by
  rw [recEnter]
  split
  · rfl
  · dsimp only
    split
    · rfl
    · split
      · exact fincWrap_cov ..
      · rfl

@[simp] theorem stampCell_cov (c : Cell2) (t : Nat) (s : State) : (stampCell c t s).cov = s.cov := by
  rw [stampCell]
  split <;> exact recEnter_cov ..

theorem mergeCell_outside (stamp : Nat) {c : Cell2} (hout : inExtent s c = false) :
    mergeCell stamp c s = fincWrap s R.COV_OUTSIDE F.COV_OUTSIDE_COUNT := by
  rw [mergeCell, if_pos hout]

/-- An excluded cell of the extent only counts: as a hit on an exclusion in an allocated tile, as outside in any other. -/
theorem mergeCell_excluded (stamp : Nat) {c : Cell2} (hin : inExtent s c = true) (hexcl : excluded s c = true) :
    mergeCell stamp c s = if tileAlloc s (tileOf c) then fincWrap s R.COV_EXCL_HIT F.COV_EXCL_HIT_COUNT
      else fincWrap s R.COV_OUTSIDE F.COV_OUTSIDE_COUNT := by
  rw [mergeCell, if_neg (by simp [hin]), if_pos hexcl]

/-- The codes after the commit of a cell that counts: its own one higher up to 2. -/
theorem mergeCell_code (stamp : Nat) {c : Cell2} (hin : inExtent s c = true) (hfree : excluded s c = false) :
    (mergeCell stamp c s).cov.code =
      if smGet zero s.cov.code (cellKey c) < 2 then smSet zero (cellKey c) (smGet zero s.cov.code (cellKey c) + 1) s.cov.code
      else s.cov.code := by
  rw [mergeCell, if_neg (by simp [hin]), if_neg (by simp [hfree])]
  simp only [stampCell_cov]

end

/-- Settles O51: a cell outside the extent or excluded only counts; any other writes its own key of the codes, or nothing. -/
theorem commitOfACell : Obligations.CommitOfACell := by
  refine ⟨fun stamp _ _ hout => mergeCell_outside stamp hout, fun stamp c s hin hexcl halloc => ?_, fun stamp c s hin hfree => ?_⟩
  · rw [mergeCell_excluded stamp hin hexcl, if_pos halloc]
  · rw [mergeCell_code stamp hin hfree]
    by_cases hlow : smGet zero s.cov.code (cellKey c) < 2
    · simp only [if_pos hlow]
      exact ⟨smGet_smSet_same _, fun _ hk => smGet_smSet_ne hk _⟩
    · simp only [if_neg hlow, implies_true, and_self]

section
variable {s : State}

/-! ### The map cache (R186) -/

/-- The one wanted tile that is missing goes into a cache with room. -/
theorem exec_tileFill_only {t : Fin 1048576} {p : Nat} (hmiss : tilesMissing s = [(t.val, p)]) (hroom : s.str.cache.length < cacheRoom s) :
    exec (.tileFill t) s = .next (fset { s with str := { s.str with cache := s.str.cache ++ [t.val] } } R.COV_TILES F.COV_TILES_CACHED
      (s.str.cache.length + 1)) := by
  have hfirst : ¬(tilesMissing s).any (fun x => x.1 == t.val && (tilesMissing s).all (fun y => decide (x.2 ≤ y.2))) = false := by
    simp [hmiss]
  rw [exec_tileFill, execTileFill]
  simp only [if_neg hfirst, if_pos hroom]

/-! ### Strips and holes (R198, R199) -/

theorem exec_commitStrip_room {x : Strip} (hroom : s.cov.held.length < 65536) :
    exec (.commitStrip x) s = .next (showLag { s with cov := { s.cov with held := s.cov.held ++ [x] } }) := by
  rw [exec_commitStrip, execCommitStrip, if_neg (by omega)]

theorem exec_holeResend_due {p : Fin 32} {o : Fin 128} {n t : Nat} (hopen : holeSince s p.val o.val n = some t)
    (hdue : t + msTicks 500 ≤ s.tb) :
    exec (.holeResend p o n) s = .next (forEach ((otherMembers s).filter (fun m => m / 2 == p.val))
      (fun m x => send x MsgKind.RESEND m [(p.val : Int), (o.val : Int), (n : Int)]) s) := by
  rw [exec_holeResend, execHoleResend, hopen]
  exact congrArg _ (if_pos hdue)

/-- An open hole is given up once it is 10 s old and the window has reached it, and is left alone until then. -/
theorem exec_replicaHole_open {p : Fin 32} {o : Fin 128} {n t : Nat} (hopen : holeSince s p.val o.val n = some t) :
    exec (.replicaHole p o n) s = .next (if t + 10 * secTicks ≤ s.tb ∧ n ≤ (seqOf s (seqKey p.val o.val)).last + 64
      then holeGiveUp (seqKey p.val o.val) n s else s) := by
  rw [exec_replicaHole, execReplicaHole, hopen]

theorem exec_resendRequest_in_ring (m : Fin 64) {o : Fin 128} {n at_ : Nat} {x : Strip}
    (hring : s.cov.ring.find? (fun x => x.2.out == o.val && x.2.seq == n && decide (s.tb ≤ x.1 + 10 * secTicks)) = some (at_, x)) :
    exec (.resendRequest m o n) s = .next (send s MsgKind.COMMIT_STRIP m.val (stripArgs x)) := by
  rw [exec_resendRequest, execResendRequest, hring]

/-! ### Catch-up (R200, R204) -/

theorem exec_catchUpStart_leader {m : Fin 64} (hlead : isLeader s = true) (hjob : s.cov.job.isSome = true) (hmem : m.val ∈ otherMembers s) :
    exec (.catchUpStart m) s = .next (catchUpFor m.val s) := by
  rw [exec_catchUpStart, execCatchUpStart, if_pos ⟨hlead, hjob, hmem⟩]

theorem exec_catchUpSeqTable_joiner (S : Nat) (st : Option Nat) (tab : List (Nat × SeqEnt)) (hjob : s.cov.job.isSome = true)
    (hlead : isLeader s = false) :
    exec (.catchUpSeqTable S st tab) s = .next (
      let t := catchUpBegin s
      ownSeqs { t with cov := { t.cov with seqTab := tab.foldl (fun m e => smSet seqInit e.1 e.2 m) [], catchS := S, startAt := st } }) := by
  have htaken : ¬(s.cov.job = none ∨ isLeader s = true) := by simp [hlead, Option.isSome_iff_ne_none.mp hjob]
  rw [exec_catchUpSeqTable, execCatchUpSeqTable, if_neg htaken]

/-- A tile asked for after a failed load ends its reload, whether or not the module catches up. -/
theorem exec_catchUpTile_fetched {t : Fin 1048576} (l : List (Nat × Nat)) (last : Bool) (hfetch : s.cov.fetch.contains t.val = true) :
    exec (.catchUpTile t l last) s = .next (faultOver (putTile t.val l { s with cov := { s.cov with
      fetch := s.cov.fetch.filter (· != t.val) } }) Ev.TILE_RELOAD [(t.val : Int)]) := by
  rw [exec_catchUpTile, execCatchUpTile, if_pos hfetch]

/-- A joiner that still waits for tiles keeps what it holds. -/
theorem exec_catchUpTile_more_to_come {t : Fin 1048576} (l : List (Nat × Nat)) (hfetch : s.cov.fetch.contains t.val = false)
    (hcatch : catching s = true) : exec (.catchUpTile t l false) s = .next (putTile t.val l s) := by
  rw [exec_catchUpTile, execCatchUpTile, if_neg (by simp only [hfetch, Bool.false_eq_true, not_false_eq_true]), if_neg (by simp [hcatch])]
  rfl

end

/-- Settles O17, one command after another: under the conditions of a clause the command's guards are met. -/
theorem coverageMergeCommandsComplete : Obligations.CoverageMergeCommandsComplete := by
  refine ⟨fun _ _ _ hmiss hroom => exec_tileFill_only hmiss hroom, fun _ _ hroom => exec_commitStrip_room hroom,
    fun _ _ _ _ _ hopen hdue => exec_holeResend_due hopen hdue, fun p o n t s hopen hdue hwin => ?_, fun p o n t s hopen hearly => ?_,
    fun m _ _ _ _ _ hring => exec_resendRequest_in_ring m hring, fun _ _ hlead hjob hmem => exec_catchUpStart_leader hlead hjob hmem,
    fun S st tab _ hjob hlead => exec_catchUpSeqTable_joiner S st tab hjob hlead,
    fun _ l _ hfetch => exec_catchUpTile_fetched l false hfetch,
    fun _ l _ hfetch hcatch => exec_catchUpTile_more_to_come l hfetch hcatch⟩
  · rw [exec_replicaHole_open hopen, if_pos ⟨hdue, hwin⟩]
  · rw [exec_replicaHole_open hopen, if_neg (fun h => Nat.not_le.mpr hearly h.1)]

section
variable {s : State}

/-! ### A session's command on the job (R201, R478) -/

/-- At the leader a command that R478 and the contractor's jobs let through is carried out. -/
theorem jobDo_allowed {who : Fin 36} {act : Act} {job : Nat} (cmd : Nat) (f : State → State) (hmay : rapMay s who.val act 8 = true)
    (hsess : sessJob s who.val job = true) (hlead : isLeader s = true) :
    jobDo (some who) act cmd job f s = rapAnswer (f s) who.val .ok [] := by
  have hjobs : ¬(rapMay s who.val act 8 && !sessJob s who.val job) = true := by simp [hsess]
  simp only [jobDo, if_neg hjobs, rapDo_allowed _ _ hmay, if_pos hlead]

theorem jobIn_taken {states : List Nat} (f : State → State) (hstate : jobState s ∈ states) : jobIn states f s = f s := by
  rw [jobIn, if_pos (List.contains_iff_mem.mpr hstate)]

theorem jobIn_refused {states : List Nat} (f : State → State) (hstate : jobState s ∉ states) : jobIn states f s = setJobErr 9 s := by
  rw [jobIn, if_neg (fun h => hstate (List.contains_iff_mem.mp h))]

@[simp] theorem strideOuts_setJobState (n : Nat) (s : State) : strideOuts (setJobState n s) = strideOuts s := by
  rw [strideOuts, setJobState, fset_cfg, strideOuts]

@[simp] theorem strideOuts_setJobErr (n : Nat) (s : State) : strideOuts (setJobErr n s) = strideOuts s := by
  rw [strideOuts, setJobErr, fset_cfg, strideOuts]

/-! ### Loading (R201, R202) -/

/-- What JOB_LOAD does in NONE: the job stands LOADING. -/
abbrev jobLoading (j : JobDef) (s : State) : State :=
  setJobErr 0 (setJobState 1 { s with cov := { s.cov with job := some { j with found := j.found && jobSelected s j } } })

theorem exec_jobLoad_allowed {k : Fin 36} {j : JobDef} (hmay : rapMay s k.val .job 8 = true) (hsess : sessJob s k.val j.jobId = true)
    (hlead : isLeader s = true) : exec (.jobLoad (some k) j) s = .next (rapAnswer (jobIn [0] (jobLoading j) s) k.val .ok []) := by
  rw [exec_jobLoad, execJobLoad, jobDo_allowed _ _ hmay hsess hlead]

/-- The checks of a job decide between LOADED, with the definition sent to the team, and ERROR with the code. -/
theorem exec_jobLoadDone_loading {j : JobDef} (hstate : jobState s = 1) (hjob : s.cov.job = some j) :
    exec .jobLoadDone s = .next (if loadError s j = 0 then distribute j (jobLoaded j s) else setJobErr (loadError s j) (setJobState 7 s)) := by
  rw [exec_jobLoadDone, execJobLoadDone, if_neg (not_not_intro hstate), hjob]

theorem exec_jobDefinition_member {j : JobDef} (hlead : isLeader s = false) (hstate : jobState s = 0) (hok : loadError s j = 0) :
    exec (.jobDefinition j) s = .next (toLeader (jobLoaded j s) MsgKind.RASTER_HASH [(Config.rasterHash j : Int)]) := by
  rw [exec_jobDefinition, execJobDefinition, if_neg (by simp [hlead, hstate])]
  exact congrArg _ (if_pos hok)

/-! ### Raster hashes (R202) -/

/-- The leader's state once a member's first report of its hash has been noted. -/
abbrev hashNoted (m : Nat) (s : State) : State :=
  { s with cov := { s.cov with hashOk := s.cov.hashOk ++ [m], hashBad := s.cov.hashBad.filter (· != m), hashAt := s.tb } }

theorem exec_rasterHash_first {m : Fin 64} {j : JobDef} (h : Nat) (hjob : s.cov.job = some j) (hlead : isLeader s = true)
    (hnew : s.cov.hashOk.contains m.val = false) :
    exec (.rasterHash m h) s = .next (if h = Config.rasterHash j then faultPast (hashNoted m.val s) Ev.JOB_MISMATCH [(m.val : Int)]
      else catchUpFor m.val (setJobErr 7 (fault (hashNoted m.val s) Ev.JOB_MISMATCH [(m.val : Int)]))) := by
  rw [exec_rasterHash, execRasterHash]
  simp only [hashNoted, hjob, hlead, hnew, Bool.true_eq_false, Bool.false_eq_true, if_false]

theorem exec_rasterHashTimeout_due {m : Fin 64} (hlead : isLeader s = true) (hjob : s.cov.job.isSome = true)
    (hdue : s.cov.hashSent + 60 * secTicks ≤ s.tb) (hmem : m.val ∈ otherMembers s) (hok : m.val ∉ s.cov.hashOk)
    (hbad : m.val ∉ s.cov.hashBad) :
    exec (.rasterHashTimeout m) s = .next { s with cov := { s.cov with hashBad := s.cov.hashBad ++ [m.val] } } := by
  rw [exec_rasterHashTimeout, execRasterHashTimeout, if_pos ⟨hlead, hjob, hdue, hmem, hok, hbad⟩]

/-! ### RUN (R201, R202) -/

theorem exec_jobStart_loaded {k : Fin 36} (hmay : rapMay s k.val .job 8 = true) (hsess : sessJob s k.val (jobNow s) = true)
    (hlead : isLeader s = true) (hhash : hashesIn s = true) (hstate : jobState s = 2) :
    exec (.jobStart (some k)) s = .next (rapAnswer (nameRun s) k.val .ok []) := by
  rw [exec_jobStart, execJobStart, jobDo_allowed _ _ hmay hsess hlead, if_pos hhash, jobIn_taken _ (by simp [hstate])]

theorem exec_jobResume_suspended {k : Fin 36} (hmay : rapMay s k.val .job 8 = true) (hsess : sessJob s k.val (jobNow s) = true)
    (hlead : isLeader s = true) (hstate : jobState s = 5) :
    exec (.jobResume (some k)) s = .next (rapAnswer (nameRun s) k.val .ok []) := by
  rw [exec_jobResume, execJobResume, jobDo_allowed _ _ hmay hsess hlead, jobIn_taken _ (by simp [hstate])]

/-- At the boundary the leader named the module is in RUN; with no job stored what it runs is not a stored run, and without outputs no sweep begins. -/
theorem exec_jobRunApply_named {b : Nat} (hnamed : s.cov.runAt = some b) (hdue : b ≤ s.tb) (hstate : jobState s = 2)
    (hstored : s.cov.storedJob = none) (hjob : s.cov.job.isSome = true) (houts : strideOuts s = []) :
    exec (.jobRunApply b) s = .next (injEnd 4 (setJobErr 0 (setJobState 3 (leaseAnew { s with cov := { s.cov with
      runAt := none, startAt := some (s.cov.startAt.getD b), storedAt := s.tb, storedSusp := false, storedRun := false } })))) := by
  obtain ⟨j, hj⟩ := Option.isSome_iff_exists.mp hjob
  have htaken : ¬(s.tb < b ∨ (isLeader s = true ∧ s.cov.runAt ≠ some b) ∨ (jobState s ≠ 2 ∧ jobState s ≠ 5)) := by
    simp [hdue, hnamed, hstate]
  have hnone : ∀ c : Cov, strideOuts (setJobErr 0 (setJobState 3 (leaseAnew { s with cov := c }))) = [] := fun c => by
    rw [strideOuts_setJobErr, strideOuts_setJobState]
    exact houts
  have hother : ((none : Option Nat) == some j.jobId) = false := rfl
  rw [exec_jobRunApply, execJobRunApply, if_neg htaken]
  simp only [hnone, forEach, List.foldl_nil, hstored, hj, Option.map_none, Option.map_some, hother]

end

/-- Settles O18, one command after another: under the conditions of a clause the command's guards are met. -/
theorem jobLoadCommandsComplete : Obligations.JobLoadCommandsComplete := by
  refine ⟨fun k j s hmay hsess hlead hstate => ?_, fun k j s hmay hsess hlead hstate => ?_, fun s j hstate hjob hok => ?_,
    fun s j hstate hjob herr => ?_, fun _ _ hlead hstate hok => exec_jobDefinition_member hlead hstate hok,
    fun m s j hjob hlead hnew hheld => ?_, fun m h s j hjob hlead hnew hdiff => ?_,
    fun _ _ hlead hjob hdue hmem hok hbad => exec_rasterHashTimeout_due hlead hjob hdue hmem hok hbad,
    fun _ _ hmay hsess hlead hhash hstate => exec_jobStart_loaded hmay hsess hlead hhash hstate,
    fun _ _ hmay hsess hlead hstate => exec_jobResume_suspended hmay hsess hlead hstate,
    fun _ _ _ hnamed hdue hstate hstored hjob houts => exec_jobRunApply_named hnamed hdue hstate hstored hjob houts⟩
  · rw [exec_jobLoad_allowed hmay hsess hlead, jobIn_taken _ (by simp [hstate])]
  · rw [exec_jobLoad_allowed hmay hsess hlead, jobIn_refused _ (by simp [hstate])]
  · rw [exec_jobLoadDone_loading hstate hjob, if_pos hok]
  · rw [exec_jobLoadDone_loading hstate hjob, if_neg herr]
  · have hquiet : fltHeld (hashNoted m.val s) Ev.JOB_MISMATCH [(m.val : Int)] = false := hheld
    rw [exec_rasterHash_first _ hjob hlead hnew, if_pos rfl, faultPast, if_neg (by simp [hquiet])]
  · rw [exec_rasterHash_first _ hjob hlead hnew, if_neg hdiff]

section
variable {s : State}

/-! ### Suspending and closing (R201, R203, R204) -/

theorem exec_jobSuspend_run {k : Fin 36} (hmay : rapMay s k.val .job 8 = true) (hsess : sessJob s k.val (jobNow s) = true)
    (hlead : isLeader s = true) (hstate : jobState s = 3) :
    exec (.jobSuspend (some k)) s = .next (rapAnswer (setJobState 4 (jobTeam 3 s)) k.val .ok []) := by
  rw [exec_jobSuspend, execJobSuspend, jobDo_allowed _ _ hmay hsess hlead, jobIn_taken _ (by simp [hstate])]

/-- Without outputs under the engine no product is on its way. -/
theorem exec_jobSuspended_idle (full : Bool) (hstate : jobState s = 4) (hacked : s.cov.toAck = []) (houts : strideOuts s = []) :
    exec (.jobSuspended full) s = .next (
      let t := setJobState 5 s
      jobStore full { t with cov := { t.cov with storedSusp := true } }) := by
  rw [exec_jobSuspended, execJobSuspended, if_pos ⟨hstate, hacked, by rw [houts]; rfl⟩]

theorem exec_jobClose_suspended {k : Fin 36} (hmay : rapMay s k.val .job 8 = true) (hsess : sessJob s k.val (jobNow s) = true)
    (hlead : isLeader s = true) (hstate : jobState s = 5) :
    exec (.jobClose (some k)) s = .next (rapAnswer (setJobState 6 (jobTeam 5 s)) k.val .ok []) := by
  rw [exec_jobClose, execJobClose, jobDo_allowed _ _ hmay hsess hlead, jobIn_taken _ (by simp [hstate])]

/-- The end of a close writes the record of the job as it is once stored. -/
theorem exec_jobCloseDone_closing (full : Bool) {j : JobDef} (hstate : jobState s = 6) (hjob : s.cov.job = some j) :
    exec (.jobCloseDone full) s = .next (
      let t := jobStore full s
      jobNone { t with cov := { t.cov with
        records := t.cov.records ++ [appRecord t j], storedJob := some { j with closed := true }, storedSusp := false, storedRun := false } }) := by
  rw [exec_jobCloseDone, execJobCloseDone, if_neg (not_not_intro hstate)]
  simp only [hjob]

theorem exec_jobDiscard_suspended {k : Fin 36} (hmay : rapMay s k.val .discard 8 = true) (hsess : sessJob s k.val (jobNow s) = true)
    (hlead : isLeader s = true) (hstate : jobState s = 5) :
    exec (.jobDiscard (some k)) s = .next (rapAnswer (jobNone (setJobErr 0 (jobTeam 6
      { s with cov := { s.cov with storedSusp := false, storedRun := false } }))) k.val .ok []) := by
  rw [exec_jobDiscard, execJobDiscard, jobDo_allowed _ _ hmay hsess hlead, jobIn_taken _ (by simp [hstate])]

theorem exec_jobStore_due (full : Bool) (hstate : jobState s = 3) (hdue : s.cov.storedAt + 10 * secTicks ≤ s.tb) :
    exec (.jobStore full) s = .next (jobStore full s) := by
  rw [exec_jobStore, execJobStore, if_pos ⟨.inl hstate, hdue⟩]

/-! ### The task data of a job (R201, R205) -/

theorem exec_jobExport_suspended {k : Fin 36} (hmay : rapMay s k.val .discard 8 = true) (hstate : jobState s = 5) :
    exec (.jobExport (some k)) s = .next (rapAnswer (fsetb { s with cov := { s.cov with exporting := true } } R.COV_JOB_STATUS
      F.COV_JOB_STATUS_EXPORT_READY false) k.val .ok []) := by
  rw [exec_jobExport, execJobExport]
  simp only [rapDo_allowed _ _ hmay]
  rw [if_pos (.inl hstate)]

theorem exec_exportDone_exporting (hexp : s.cov.exporting = true) :
    exec .exportDone s = .next (fsetb { s with cov := { s.cov with
      exporting := false, exported := (exportJob s).map (fun x => taskData x.1 x.2) } } R.COV_JOB_STATUS F.COV_JOB_STATUS_EXPORT_READY
      true) := by
  rw [exec_exportDone, execExportDone, if_pos hexp]

/-! ### Exclusions added in RUN (R190) -/

/-- A member keeps the leader's polygon in place of an earlier one of its number, and acknowledges it. -/
theorem exec_addExcl_member (n : Nat) (p : Poly) (hlead : isLeader s = false) (hstate : jobState s = 3) :
    exec (.addExcl none n p) s = .next (toLeader { s with cov := { s.cov with
      polys := s.cov.polys.filter (fun x => x.1 != n) ++ [(n, p)] } } MsgKind.EXCL_ACK [(n : Int)]) := by
  rw [exec_addExcl, execAddExcl]
  simp only [hlead, Bool.false_eq_true, if_false, if_pos (Or.inl hstate : jobState s = 3 ∨ jobState s = 5)]

/-- While another member's acknowledgement is still to come, no boundary is named. -/
theorem exec_exclAck_others_to_come {m : Fin 64} {n : Nat} {ms : List Nat} (hacks : s.cov.acks.find? (fun a => a.1 == n) = some (n, ms))
    (hleft : ms.filter (· != m.val) ≠ []) :
    exec (.exclAck m n) s = .next { s with cov := { s.cov with
      acks := s.cov.acks.map (fun a => if a.1 = n then (n, ms.filter (· != m.val)) else a) } } := by
  rw [exec_exclAck, execExclAck, hacks]
  exact congrArg _ (if_neg (fun h => hleft h.1))

/-- Where the replica holds no code, an exclusion takes nothing back and changes no tile. -/
theorem exec_exclApply_unmarked {n b : Nat} {p : Poly} (hlead : isLeader s = false) (hdue : b ≤ s.tb)
    (hpoly : s.cov.polys.find? (fun x => x.1 == n) = some (n, p)) (hjob : s.cov.job.isSome = true) (hcode : s.cov.code = []) :
    exec (.exclApply n b) s = .next { s with cov := { s.cov with
      polys := s.cov.polys.filter (fun x => x.1 != n), exclAt := s.cov.exclAt.filter (fun x => x.2 != n), added := s.cov.added ++ [p] } } := by
  have htaken : ¬((decide (b ≤ s.tb) && (!isLeader s || s.cov.exclAt.contains (b, n))) = false ∨ s.cov.job = none) := by
    simp [hdue, hlead, Option.isSome_iff_ne_none.mp hjob]
  rw [exec_exclApply, execExclApply]
  simp only [hpoly, if_neg htaken, hcode, List.filter_nil, List.map_nil, List.eraseDups_nil, List.append_nil]

end

/-- Settles O19, one command after another: under the conditions of a clause the command's guards are met. -/
theorem jobEndCommandsComplete : Obligations.JobEndCommandsComplete :=
  ⟨fun _ _ hmay hsess hlead hstate => exec_jobSuspend_run hmay hsess hlead hstate,
    fun full _ hstate hacked houts => exec_jobSuspended_idle full hstate hacked houts,
    fun _ _ hmay hsess hlead hstate => exec_jobClose_suspended hmay hsess hlead hstate,
    fun full _ _ hstate hjob => exec_jobCloseDone_closing full hstate hjob,
    fun _ _ hmay hsess hlead hstate => exec_jobDiscard_suspended hmay hsess hlead hstate,
    fun _ _ hmay hstate => exec_jobExport_suspended hmay hstate, fun _ hexp => exec_exportDone_exporting hexp,
    fun n p _ hlead hstate => exec_addExcl_member n p hlead hstate,
    fun _ _ _ _ hacks hleft => exec_exclAck_others_to_come hacks hleft,
    fun _ _ _ _ hlead hdue hpoly hjob hcode => exec_exclApply_unmarked hlead hdue hpoly hjob hcode,
    fun full _ hstate hdue => exec_jobStore_due full hstate hdue⟩

end Sys2Proof.Proofs
end

section
/-!
PROOFS. Sections and modes: the commands of the shared team state (R209, R212), of the task controller (R214, R217) and of the alley track (R222,
R224).
-/

open Sys2Proof Sys2Proof.Machine Sys2Proof.Laws

namespace Sys2Proof.Proofs

section
variable {s : State}

/-! ### Changes of team state (R209, R212) -/

theorem exec_masterWrite_allowed {who : Fin 36} (b : Bool) (hmay : rapMay s who.val .operate 1 = true) :
    exec (.masterWrite who b) s = .next (rapAnswer (teamChange (.master b) s) who.val .ok []) := by
  rw [exec_masterWrite, execMasterWrite, rapDo_allowed _ _ hmay]

theorem exec_secswWrite_allowed {who : Fin 36} (k : Fin 3) (w : Word) (hmay : rapMay s who.val .operate 1 = true) :
    exec (.secswWrite who k w) s = .next (rapAnswer (teamChange (.secsw k w) s) who.val .ok []) := by
  rw [exec_secswWrite, execSecswWrite, rapDo_allowed _ _ hmay]

theorem exec_stallWrite_allowed {who : Fin 36} (n : Fin 96) (w : Word) (hmay : rapMay s who.val .operate 1 = true) :
    exec (.stallWrite who n w) s = .next (rapAnswer (teamChange (.stall n w) s) who.val .ok []) := by
  rw [exec_stallWrite, execStallWrite, rapDo_allowed _ _ hmay]

theorem exec_teamStateChange_leader (m : Fin 64) (c : TeamChg) (hlead : isLeader s = true) :
    exec (.teamStateChange m c) s = .next (nameChange c s) := by
  rw [exec_teamStateChange, execTeamStateChange, if_pos hlead]

/-- Before the named boundary nothing happens, at the leader as at a member. -/
theorem exec_sectionStateApply_early {b : Nat} (c : TeamChg) (hearly : s.tb < b) : exec (.sectionStateApply b c) s = .next s := by
  rw [exec_sectionStateApply, execSectionStateApply, if_pos hearly]

/-- At a member a change that takes effect is no longer one it has asked for. -/
theorem exec_sectionStateApply_member {b : Nat} (c : TeamChg) (hlead : isLeader s = false) (hdue : b ≤ s.tb) :
    exec (.sectionStateApply b c) s =
      .next (applyChange c { s with team := { s.team with asked := s.team.asked.filter (fun x => x != c) } }) := by
  rw [exec_sectionStateApply, execSectionStateApply, if_neg (Nat.not_lt.mpr hdue), if_pos hlead]

/-- The leader applies a change it has named for this boundary, and takes it off its list. -/
theorem exec_sectionStateApply_leader {b : Nat} {c : TeamChg} (hlead : isLeader s = true) (hdue : b ≤ s.tb)
    (hnamed : s.str.chgs.contains (b, c) = true) :
    exec (.sectionStateApply b c) s =
      .next (applyChange c { s with str := { s.str with chgs := removeFirst (· == (b, c)) s.str.chgs } }) := by
  rw [exec_sectionStateApply, execSectionStateApply, if_neg (Nat.not_lt.mpr hdue), if_neg (by simp [hlead]), if_pos hnamed]

/-! ### The mode and the task controller (R214, R217) -/

theorem exec_modeReqWrite_allowed {who : Fin 36} (b : Bool) (hmay : rapMay s who.val .operate 1 = true) :
    exec (.modeReqWrite who b) s = .next (rapAnswer (modeEval (fsetb s R.STR_MODE F.STR_MODE_MODE_REQ b)) who.val .ok []) := by
  rw [exec_modeReqWrite, execModeReqWrite, rapDo_allowed _ _ hmay]

/-- A message another member forwards counts from the tick that member received it. -/
theorem tcTake_forwarded (r : Nat) (k : MsgKind) (args : List Int) (f : Nat → State → State) : tcTake (some r) k args f s = f r s := by
  rw [tcTake]

/-- The module with the ISOBUS role takes the message with its frame's stamp and sends both to the team. -/
theorem tcTake_own {c : Nat} (k : MsgKind) (args : List Int) (f : Nat → State → State)
    (hrole : (List.range 4).find? (fun c => fbit s (R.CAN_ISO c) F.CAN_ISO_ROLE && domOn s 7) = some c) :
    tcTake none k args f s = f (canStamp c 0 s) (toTeam (canTake c 0 s) k (args ++ [(canStamp c 0 s : Int)])) := by
  rw [tcTake, hrole]

/-- While schedules are kept, a forwarded setpoint is an edge of the one module section of its team section. -/
theorem exec_tcSetpoint_forwarded {sect : Fin 1024} {x : SecEnt} (on : Bool) (r : Nat) (hopen : schedOpen s = true)
    (hsecs : s.cfg.secs.filter (fun x => x.team == sect.val) = [x]) :
    exec (.tcSetpoint sect on (some r)) s = .next (schedEdge x.sect (r + s.cfg.geom0.latTc * 20000) on s) := by
  rw [exec_tcSetpoint, execTcSetpoint, tcTake_forwarded, if_neg (by simp [hopen]), hsecs, forEach, List.foldl_cons, List.foldl_nil]

theorem exec_tcSetpoint_own {c : Nat} (sect : Fin 1024) (on : Bool)
    (hrole : (List.range 4).find? (fun c => fbit s (R.CAN_ISO c) F.CAN_ISO_ROLE && domOn s 7) = some c) :
    exec (.tcSetpoint sect on none) s = .next (
      let t := toTeam (canTake c 0 s) MsgKind.TC_SETPOINT [(sect.val : Int), ((b2n on : Nat) : Int), (canStamp c 0 s : Int)]
      if schedOpen t = false then t
      else forEach (t.cfg.secs.filter (fun x => x.team == sect.val))
        (fun x y => schedEdge x.sect (canStamp c 0 s + y.cfg.geom0.latTc * 20000) on y) t) := by
  rw [exec_tcSetpoint, execTcSetpoint, tcTake_own _ _ _ hrole, List.cons_append, List.singleton_append]

theorem exec_tcStatus_on_forwarded (r : Nat) (s : State) :
    exec (.tcStatus true (some r)) s = .next (modeEval (fsetb { s with str := { s.str with tcAt := some r } } R.STR_MODE
      F.STR_MODE_TC_SC true)) := by
  rw [exec_tcStatus, execTcStatus, tcTake_forwarded, if_pos rfl]

theorem exec_tcStatus_on_own {c : Nat}
    (hrole : (List.range 4).find? (fun c => fbit s (R.CAN_ISO c) F.CAN_ISO_ROLE && domOn s 7) = some c) :
    exec (.tcStatus true none) s = .next (
      let t := toTeam (canTake c 0 s) MsgKind.TC_STATUS [1, (canStamp c 0 s : Int)]
      modeEval (fsetb { t with str := { t.str with tcAt := some (canStamp c 0 s) } } R.STR_MODE F.STR_MODE_TC_SC true)) := by
  have hone : ((b2n true : Nat) : Int) = 1 := rfl
  rw [exec_tcStatus, execTcStatus, tcTake_own _ _ _ hrole, if_pos rfl, List.singleton_append, hone]

/-- Six seconds after the last status the task controller is lost. -/
theorem exec_tcLoss_due {t : Nat} (hlast : s.str.tcAt = some t) (hdue : t + 6 * secTicks ≤ s.tb) :
    exec .tcLoss s = .next (tcLost { s with str := { s.str with tcAt := none } }) := by
  rw [exec_tcLoss, execTcLoss]
  simp only [hlast, if_pos hdue]

theorem exec_modeChangeApply_member {M : Nat} (c : ModeChg) (hfield : s.cfg.geom0.family = .field) (hlead : isLeader s = false)
    (hdue : M ≤ s.tb) :
    exec (.modeChangeApply M c) s = .next (applyMode c { s with str := { s.str with modeNext := none } }) := by
  have hnow : ¬(s.cfg.geom0.family ≠ .field ∨ s.tb < M) := by simp [hfield, hdue]
  rw [exec_modeChangeApply, execModeChangeApply, if_neg hnow, if_neg (by simp [hlead])]

/-! ### The alley track (R222, R224) -/

theorem exec_alleySet_allowed {who : Fin 36} (hmay : rapMay s who.val .other 1 = true) (halley : s.cfg.geom0.family = .alley) :
    exec (.alleySet who) s = .next (rapAnswer { s with str := { s.str with setPend := true } } who.val .ok []) := by
  rw [exec_alleySet, execAlleySet, rapDo_allowed _ _ hmay, if_pos halley]

theorem exec_alleyOrient_allowed {who : Fin 36} (b : Bool) (hmay : rapMay s who.val .other 1 = true) :
    exec (.alleyOrient who b) s = .next (rapAnswer (fsetb s R.STR_ALLEY_STAT F.STR_ALLEY_STAT_ORIENT b) who.val .ok []) := by
  rw [exec_alleyOrient, execAlleyOrient, rapDo_allowed _ _ hmay]

end

/-- Settles O20, one command after another: under the conditions of a clause the command's guards are met. -/
theorem modeCommandsComplete : Obligations.ModeCommandsComplete :=
  ⟨fun _ b _ hmay => exec_masterWrite_allowed b hmay, fun _ k w _ hmay => exec_secswWrite_allowed k w hmay,
    fun _ n w _ hmay => exec_stallWrite_allowed n w hmay, fun m c _ hlead => exec_teamStateChange_leader m c hlead,
    fun _ c _ hlead hdue => exec_sectionStateApply_member c hlead hdue,
    fun _ _ _ hlead hdue hnamed => exec_sectionStateApply_leader hlead hdue hnamed,
    fun _ c _ hearly => exec_sectionStateApply_early c hearly, fun _ b _ hmay => exec_modeReqWrite_allowed b hmay,
    fun _ on r _ _ hopen hsecs => exec_tcSetpoint_forwarded on r hopen hsecs, fun r s => exec_tcStatus_on_forwarded r s,
    fun sect on _ _ hrole => exec_tcSetpoint_own sect on hrole, fun _ _ hrole => exec_tcStatus_on_own hrole,
    fun _ _ hlast hdue => exec_tcLoss_due hlast hdue,
    fun _ c _ hfield hlead hdue => exec_modeChangeApply_member c hfield hlead hdue,
    fun _ _ hmay halley => exec_alleySet_allowed hmay halley, fun _ b _ hmay => exec_alleyOrient_allowed b hmay⟩

end Sys2Proof.Proofs
end

section
/-!
PROOFS. The PWM generator: waveforms (R229, R230, R232), half-bridges (R233 to R235) and what a freeze holds of them, load groups (R236 to R239)
and forces (R241, R242).
-/

open Sys2Proof Sys2Proof.Machine Sys2Proof.Laws

namespace Sys2Proof.Proofs

/-! ### The gates of a half-bridge (R233 to R235) -/

/-- In each case of the waveform the low gate waits until the high gate's pulse and the dead time are over, or stays off. -/
theorem hbWave_ne_both (s : State) (m t : Nat) : hbWave s m t ≠ (true, true) := by
  unfold hbWave
  dsimp only
  split_ifs <;> simp only [ne_eq, Prod.mk.injEq, decide_eq_true_eq, Bool.false_eq_true, and_false, not_false_eq_true] <;> omega

/-- The values a freeze holds do not name both gates of half-bridge m. -/
def HeldApart (s : State) (m : Nat) : Prop :=
  ∀ h : List Bool, s.pwm.held = some h → (h.getD (96 + 2 * m) false && h.getD (97 + 2 * m) false) = false

theorem hbRequest_ne_both {s : State} {m : Nat} (hheld : HeldApart s m) (t : Nat) : hbRequest s m t ≠ (true, true) := by
  unfold hbRequest
  dsimp only
  split
  · decide
  · split
    · decide
    · split
      · next h heq =>
        have hapart := hheld h heq
        intro hboth
        rw [Prod.mk.injEq] at hboth
        rw [hboth.1, hboth.2] at hapart
        exact absurd hapart (by decide)
      · split
        · decide
        · split
          · decide
          · decide
          · exact hbWave_ne_both s m t

/-- A gate that waits is off, so the gates name no pair that the chain does not request. -/
theorem hbGates_ne_both {s : State} {m : Nat} (hheld : HeldApart s m) (t : Nat) : hbGates s m t ≠ (true, true) := by
  intro hboth
  obtain ⟨hhigh, hlow⟩ := Prod.mk.inj hboth
  exact hbRequest_ne_both hheld t (Prod.ext (Bool.and_elim_left hhigh) (Bool.and_elim_left hlow))

/-! ### What a freeze holds (R246, R247) -/

theorem wdStart_held (s : State) : (wdStart s).pwm.held = s.pwm.held := by
  unfold wdStart
  split
  · rfl
  · rw [fsetb_pwm]

/-- A freeze holds what is held already, or the values that levels 5 to 7 give now. -/
theorem freeze_held (s : State) : (freeze s).pwm.held = s.pwm.held ∨ (freeze s).pwm.held = some (lowValues s) := by
  have hhold : (freeze s).pwm.held = (hold s).pwm.held := by
    rw [freeze, fsetb_pwm]
  rw [hhold, hold]
  split
  · exact .inl rfl
  · rw [wdStart_held]
    split
    · exact .inl rfl
    · exact .inr rfl

/-- The values of channels 96 to 103 are those of the gates, the high gate before the low. -/
theorem lowValues_gates (s : State) (m : Fin 4) :
    (lowValues s).getD (96 + 2 * m.val) false = (hbGates s m.val (s.tb * 32)).1 ∧
    (lowValues s).getD (97 + 2 * m.val) false = (hbGates s m.val (s.tb * 32)).2 := by
  have hlen : ((List.range 96).map fun n => driveAt s n (lowDrive s n) s.tb).length = 96 := by
    rw [List.length_map, List.length_range]
  unfold lowValues
  rw [List.getD_append_right _ _ _ _ (by omega), List.getD_append_right _ _ _ _ (by omega), hlen]
  fin_cases m <;> exact ⟨rfl, rfl⟩

/-- Settles O49: no part of the chain requests both gates, and a freeze takes its values from the gates. -/
theorem neverBothGates : Obligations.NeverBothGates := by
  refine ⟨fun s m t hheld => hbGates_ne_both hheld t, fun s m hheld h hfreeze => ?_⟩
  rcases freeze_held s with hsame | hnow
  · exact hheld h (hsame ▸ hfreeze)
  · obtain rfl : lowValues s = h := Option.some.inj (hnow ▸ hfreeze)
    obtain ⟨hhigh, hlow⟩ := lowValues_gates s m
    rw [hhigh, hlow]
    exact Bool.eq_false_iff.2 fun hboth => hbGates_ne_both hheld (s.tb * 32)
      (Prod.ext (Bool.and_elim_left hboth) (Bool.and_elim_right hboth))

/-! ### The length of a pulse (R230, R232) -/

theorem rnd_zero : rnd 0 65536 = 0 := rfl

/-- Rounding takes a whole quotient as it is. -/
theorem rnd_mul_right (d : Nat) : rnd (d * 65536) 65536 = d := by
  unfold rnd
  omega

theorem rnd_duty_le {d : Nat} (hd : d ≤ 65536) (T : Nat) : rnd (d * T) 65536 ≤ T := by
  have hle : d * T ≤ 65536 * T := Nat.mul_le_mul_right T hd
  unfold rnd
  omega

theorem minPulse_le {T h P : Nat} (hh : h ≤ T) (hP : P ≤ T) (st : Bool) : (minPulse T h P st).1 ≤ T := by
  unfold minPulse
  split_ifs <;> dsimp only <;> omega

/-- The policy takes no pulse for a short one, unless its minimum exceeds the period. -/
theorem minPulse_none (T P : Nat) (st : Bool) : (minPulse T 0 P st).1 = 0 ∨ T < P := by
  unfold minPulse
  rw [if_neg (by omega), Nat.sub_zero]
  split
  · exact .inr (by omega)
  · exact .inl rfl

/-- A pulse as long as the period leaves no gap to be too short. -/
theorem minPulse_whole (T P : Nat) (st : Bool) : (minPulse T T P st).1 = T ∨ T < P := by
  unfold minPulse
  split
  · exact .inr (by omega)
  · rw [if_neg (by omega)]
    exact .inl rfl

theorem compDuty_uncompensated {s : State} {n : Nat} (hcomp : 96 ≤ n ∨ fget s (R.LSW_CH_CFG1 n) F.LSW_CH_CFG1_COMP = 0) (d : Nat) (t : Int) :
    compDuty s n d t = d := by
  unfold compDuty
  split
  · next hn =>
    rw [hcomp.resolve_left (by omega), compK, if_pos rfl, rnd_mul_right]
  · rfl

/-! ### Where the pulses of a waveform lie (R229, R230) -/

/-- The length of each pulse of a waveform without supply compensation. -/
def pulseLen (s : State) (n : Nat) (w : Wav) : Nat :=
  (minPulse (perOf s n) (rnd (min w.duty 65536 * perOf s n) 65536) (fget s (R.PWM_CH_CFG n) F.PWM_CH_CFG_MINP) (stretchOf s n)).1

/-- How far a pulse begins ahead of its phase point: half its length when centred. -/
def pulseLead (s : State) (n : Nat) (w : Wav) : Nat := if fbit s (R.PWM_CH_CFG n) F.PWM_CH_CFG_ALIGN then pulseLen s n w / 2 else 0

/-- The time from the start of pulse 0 to a time. -/
def pulseClock (s : State) (n : Nat) (w : Wav) (t : Nat) : Int := (t : Int) - (rnd (w.phase * perOf s n) 65536 : Nat) + pulseLead s n w

theorem pulseLen_le {s : State} {n : Nat} (w : Wav) (hmin : fget s (R.PWM_CH_CFG n) F.PWM_CH_CFG_MINP ≤ perOf s n) :
    pulseLen s n w ≤ perOf s n := minPulse_le (rnd_duty_le (Nat.min_le_right _ _) _) hmin _

theorem pulseLead_le (s : State) (n : Nat) (w : Wav) : pulseLead s n w ≤ pulseLen s n w := by
  unfold pulseLead
  split <;> omega

section
variable {s : State} {n : Nat} {w : Wav}

theorem pulseOf_uncompensated (hcomp : 96 ≤ n ∨ fget s (R.LSW_CH_CFG1 n) F.LSW_CH_CFG1_COMP = 0) (k : Int) (t : Nat) :
    (pulseOf s n w k).1 = t - pulseClock s n w t + k * perOf s n ∧ (pulseOf s n w k).2.1 = pulseLen s n w := by
  have hduty : min 65536 (min w.duty 65536) = min w.duty 65536 := by omega
  simp only [pulseOf, compDuty_uncompensated hcomp, hduty, pulseClock, pulseLead]
  refine ⟨?_, rfl⟩
  split
  · rw [pulseLen]
    omega
  · omega

/-- A time lies within `h` of the start of one period of `T` only, the one that division names. -/
theorem within_period_iff {T h x j : Int} (hT : 0 < T) (hh : h ≤ T) : (j * T ≤ x ∧ x < j * T + h) ↔ (j = x / T ∧ x % T < h) := by
  have hsplit := Int.ediv_mul_add_emod x T
  have hpos := Int.emod_nonneg x hT.ne'
  constructor
  · rintro ⟨hfrom, hto⟩
    obtain ⟨hq, hr⟩ := (Int.ediv_emod_unique (a := x) (r := x - j * T) (q := j) hT).2 ⟨by ring, by omega, by omega⟩
    exact ⟨hq.symm, by omega⟩
  · rintro ⟨rfl, hlt⟩
    omega

/-- The pulse that covers a time lies among those that `pulsesNear` looks at, the one of the phase point before that time and the next. -/
theorem pulseClock_div (t : Nat) (hT : 0 < perOf s n) (hlead : pulseLead s n w ≤ perOf s n) :
    pulseClock s n w t / perOf s n = ((t : Int) - (rnd (w.phase * perOf s n) 65536 : Nat)) / perOf s n ∨
    pulseClock s n w t / perOf s n = ((t : Int) - (rnd (w.phase * perOf s n) 65536 : Nat)) / perOf s n + 1 := by
  have hTz : (0 : Int) < perOf s n := by omega
  generalize hy : (t : Int) - (rnd (w.phase * perOf s n) 65536 : Nat) = y
  have hx : pulseClock s n w t = y + pulseLead s n w := by rw [pulseClock, hy]
  have hlow : y / perOf s n ≤ pulseClock s n w t / perOf s n := Int.ediv_le_ediv hTz (by omega)
  have hhigh : pulseClock s n w t / perOf s n ≤ (y + perOf s n) / perOf s n := Int.ediv_le_ediv hTz (by omega)
  rw [Int.add_ediv_of_dvd_right (Int.dvd_refl _), Int.ediv_self hTz.ne'] at hhigh
  omega

/-- From one period after the transfer on, pulse `k` is in force and covers a time just where the time lies within its length. -/
theorem pulse_covers_iff {t : Nat} (hT : 0 < perOf s n) (hmin : fget s (R.PWM_CH_CFG n) F.PWM_CH_CFG_MINP ≤ perOf s n)
    (hcomp : 96 ≤ n ∨ fget s (R.LSW_CH_CFG1 n) F.LSW_CH_CFG1_COMP = 0) (hfrom : w.from_ + perOf s n ≤ t) (k : Int) :
    ((w.from_ ≤ (pulseOf s n w k).1 ∧ 0 < (pulseOf s n w k).2.1) ∧
      (pulseOf s n w k).1 ≤ t ∧ (t : Int) < (pulseOf s n w k).1 + (pulseOf s n w k).2.1) ↔
    k = pulseClock s n w t / perOf s n ∧ pulseClock s n w t % perOf s n < pulseLen s n w := by
  obtain ⟨hstart, hlen⟩ := pulseOf_uncompensated (w := w) hcomp k t
  have hTz : (0 : Int) < perOf s n := by omega
  have hle := pulseLen_le w hmin
  have hiff := within_period_iff (T := perOf s n) (h := pulseLen s n w) (x := pulseClock s n w t) (j := k) hTz (by omega)
  rw [← hiff, hstart, hlen]
  omega

theorem waveAt_uncompensated {t : Nat} (hT : 0 < perOf s n) (hmin : fget s (R.PWM_CH_CFG n) F.PWM_CH_CFG_MINP ≤ perOf s n)
    (hcomp : 96 ≤ n ∨ fget s (R.LSW_CH_CFG1 n) F.LSW_CH_CFG1_COMP = 0) (htail : w.tail = 0) (hfrom : w.from_ + perOf s n ≤ t) :
    waveAt s n w t = decide (pulseClock s n w t % perOf s n < pulseLen s n w) := by
  have hcov := fun k => pulse_covers_iff hT hmin hcomp hfrom k
  have hdiv := pulseClock_div t hT ((pulseLead_le s n w).trans (pulseLen_le w hmin))
  rw [waveAt, htail, pulsesNear, if_neg hT.ne', Bool.eq_iff_iff]
  simp only [Nat.not_lt_zero, decide_false, Bool.false_or, List.any_filter, List.any_cons, List.any_nil, Bool.or_false, Bool.or_eq_true,
    Bool.and_eq_true, decide_eq_true_eq, hcov]
  -- the pulses in hand are the three around the phase point before `t`, and `hdiv` puts the one that may cover `t` among them
  omega

end

/-- Settles O50: of the pulses in hand one at most covers a time, and the period of the time names it. -/
theorem pulsesLieWhereStated : Obligations.PulsesLieWhereStated := by
  refine ⟨fun s n w t T h hT hpos hmin hcomp htail hfrom hlen => ?_, fun T P _ st => ?_, fun T P _ st d hd => ?_⟩
  · subst hT
    obtain rfl : h = pulseLen s n w := hlen
    rw [waveAt_uncompensated hpos hmin hcomp htail hfrom, pulseClock, pulseLead]
    split <;> rfl
  · rw [Nat.zero_min, Nat.zero_mul, rnd_zero]
    exact minPulse_none T P st
  · rw [Nat.min_eq_right hd, Nat.mul_comm, rnd_mul_right]
    exact minPulse_whole T P st

/-! ### Writes to a load group (R236) -/

section
variable {s : State} {k reg : Nat} {f : State → State}

theorem lgWrite_owner_session {who : Fin 36} (hmay : rapMay s who.val .duty 10 = true) (hown : lgOwner s k (.rap who) = true) :
    lgWrite (.rap who) k reg f s = rapAnswer (f s) who.val .ok [] := by
  simp only [lgWrite, hmay, hown, Bool.true_eq_false, if_false, if_true]

theorem lgWrite_other_session {who : Fin 36} (hmay : rapMay s who.val .duty 10 = true) (hown : lgOwner s k (.rap who) = false) :
    lgWrite (.rap who) k reg f s = rapAnswer (fincSat s (R.PWM_LG_STAT k) F.PWM_LG_STAT_NOT_OWNER_CNT) who.val .notOwner [] := by
  simp only [lgWrite, hmay, hown, Bool.true_eq_false, Bool.false_eq_true, if_false]

/-- A source other than a session gets no answer. -/
theorem lgWrite_source {src : Writer} (hsrc : ∀ who : Fin 36, src ≠ .rap who) (hon : domOn s 10 = true) :
    lgWrite src k reg f s = if lgOwner s k src then f s else fincSat s (R.PWM_LG_STAT k) F.PWM_LG_STAT_NOT_OWNER_CNT := by
  cases src with
  | rap who => exact absurd rfl (hsrc who)
  | _ => exact if_neg (by simp [hon])

theorem lgWrite_owner {src : Writer} (hsrc : ∀ who : Fin 36, src ≠ .rap who) (hon : domOn s 10 = true) (hown : lgOwner s k src = true) :
    lgWrite src k reg f s = f s := by
  rw [lgWrite_source hsrc hon, if_pos hown]

/-- What the write and the count of a lost write leave as it was, a session's write leaves so. -/
theorem lgWrite_keeps {α : Type} {p : State → α} (hans : ∀ s who st data, p (rapAnswer s who st data) = p s)
    (hden : ∀ s r reg, p (writeDenied s r reg) = p s) (hf : p (f s) = p s)
    (hlost : p (fincSat s (R.PWM_LG_STAT k) F.PWM_LG_STAT_NOT_OWNER_CNT) = p s) (who : Fin 36) (reg : Nat) :
    p (lgWrite (.rap who) k reg f s) = p s := by
  cases hmay : rapMay s who.val .duty 10 with
  | false => exact lgWrite_refused k reg f hmay ▸ rapRefuse_keeps hans hden ..
  | true =>
    cases hown : lgOwner s k (.rap who) with
    | true => exact lgWrite_owner_session (reg := reg) hmay hown ▸ (hans ..).trans hf
    | false => exact lgWrite_other_session (reg := reg) (f := f) hmay hown ▸ (hans ..).trans hlost

end

/-! ### Shadow writes, arming and cancelling (R237, R239) -/

section
variable {s : State}

theorem shadowSet_duty {n : Nat} (v : Nat) (hfree : lgArmed s (lgOf s n) = false) :
    shadowSet n false v s = fset s (R.PWM_CH_DUTY n) F.PWM_CH_DUTY_DUTY (min 65536 (v % 131072)) := by
  simp only [shadowSet, hfree, Bool.false_eq_true, if_false]

theorem shadowSet_phase {n : Nat} (v : Nat) (hfree : lgArmed s (lgOf s n) = false) :
    shadowSet n true v s = fset s (R.PWM_CH_PHASE n) F.PWM_CH_PHASE_PHASE v := by
  simp only [shadowSet, hfree, Bool.false_eq_true, if_false, if_true]

theorem shadowSet_armed {n : Nat} (phase : Bool) (v : Nat) (harmed : lgArmed s (lgOf s n) = true) :
    shadowSet n phase v s = fsetb s (R.PWM_LG_STAT (lgOf s n)) F.PWM_LG_STAT_WRITE_WHILE_ARMED true := if_pos harmed

/-- A shadow write touches its own DUTY or PHASE, or tells of the write in its group's status. -/
theorem rget_shadowSet_ne {n a : Nat} (phase : Bool) (v : Nat) (hduty : a ≠ R.PWM_CH_DUTY n) (hphase : a ≠ R.PWM_CH_PHASE n)
    (hstat : a ≠ R.PWM_LG_STAT (lgOf s n)) : rget (shadowSet n phase v s) a = rget s a := by
  unfold shadowSet
  dsimp only
  split
  · exact rget_fset_ne hstat
  · split
    · exact rget_fset_ne hphase
    · exact rget_fset_ne hduty

/-- A DUTY written is read back, limited to 65,536 (R230). -/
theorem fget_duty_written (n v : Nat) :
    fget (fset s (R.PWM_CH_DUTY n) F.PWM_CH_DUTY_DUTY (min 65536 (v % 131072))) (R.PWM_CH_DUTY n) F.PWM_CH_DUTY_DUTY =
      min 65536 (v % 2 ^ 17) := by
  rw [fget_fset_same (by decide)]
  exact Nat.mod_eq_of_lt (b := 2 ^ 17) (by omega)

theorem lgArm_free {k : Nat} (hfree : lgArmed s k = false) :
    lgArm k s = fsetb { s with pwm := { s.pwm with armAt := smIns k s.tb s.pwm.armAt } } (R.PWM_LG_STAT k) F.PWM_LG_STAT_ARMED true :=
  if_neg (by simp [hfree])

theorem lgArm_armed {k : Nat} (harmed : lgArmed s k = true) : lgArm k s = s := if_pos harmed

/-- After LOAD_ALL the group is armed, as it may have been before, and no register but its status has changed. -/
theorem lgArm_arms (k : Nat) (s : State) :
    lgArmed (lgArm k s) k = true ∧ ∀ a : Nat, a ≠ R.PWM_LG_STAT k → rget (lgArm k s) a = rget s a := by
  cases harmed : lgArmed s k with
  | true =>
    rw [lgArm_armed harmed]
    exact ⟨harmed, fun _ _ => rfl⟩
  | false =>
    rw [lgArm_free harmed]
    refine ⟨?_, fun a ha => rget_fset_ne ha⟩
    rw [lgArmed, fbit_fsetb_same (by decide) rfl, Bool.true_or]

/-! ### The transfer (R237) -/

theorem lgDue_of_boundary {k : Nat} (harmed : fbit s (R.PWM_LG_STAT k) F.PWM_LG_STAT_ARMED = true) (hearlier : smGet zero s.pwm.armAt k < s.tb)
    (hboundary : lgBoundary s k = true) (hlive : s.pwm.frozen = none) (hon : domOn s 10 = true) : lgDue s k = true := by
  simp only [lgDue, harmed, hearlier, hboundary, hlive, hon, decide_true, Option.isNone_none, Bool.and_self]

/-- The transfer disarms its group, whatever its channels' shadows hold. -/
theorem lgTransfer_disarms (k : Nat) (s : State) : fbit (lgTransfer k s) (R.PWM_LG_STAT k) F.PWM_LG_STAT_ARMED = false := by
  have hne : R.PWM_LG_STAT k ≠ R.PWM_LG_XTB k := (Nat.add_lt_add_right (by decide) _).ne
  simp only [lgTransfer, rsetN, fbit, fget_rset_ne hne, fincWrap]
  rw [fget_fset_other (by decide) (by decide), fsetb, fget_fset_same (by decide)]
  rfl

theorem lgTransfer_stamps (k : Nat) (s : State) : rget (lgTransfer k s) (R.PWM_LG_XTB k) = BitVec.ofNat 32 s.tb := rget_rset_same ..

theorem exec_lgTransfer_due {k : Fin 8} (hdue : lgDue s k.val = true) : exec (.lgTransfer k) s = .next (staged (lgTransfer k.val) s) := by
  rw [exec_lgTransfer, execLgTransfer, if_pos hdue]

end

/-! ### Commands of the owner of a load group -/

section
variable {s : State} {src : Writer} (hsrc : ∀ who : Fin 36, src ≠ .rap who) (hon : domOn s 10 = true)
include hsrc hon

theorem exec_shadowWrite_owner {ch : Fin 104} (phase : Bool) (v : Word) (hown : lgOwner s (lgOf s ch.val) src = true) :
    exec (.shadowWrite src ch phase v) s = .next (shadowSet ch.val phase v.toNat s) := by
  rw [exec_shadowWrite, execShadowWrite, lgWrite_owner hsrc hon hown]

theorem exec_loadAll_owner {k : Fin 8} (cancel : Bool) (hown : lgOwner s k.val src = true) :
    exec (.loadAll src k cancel) s = .next (if cancel then s else lgArm k.val s) := by
  rw [exec_loadAll, execLoadAll, lgWrite_owner hsrc hon hown]

theorem exec_lgCancel_owner {k : Fin 8} (hown : lgOwner s k.val src = true) :
    exec (.lgCancel src k) s =
      .next (if lgDue s k.val then s else fsetb s (R.PWM_LG_STAT k.val) F.PWM_LG_STAT_ARMED false) := by
  rw [exec_lgCancel, execLgCancel, lgWrite_owner hsrc hon hown]

end

section
variable {s : State} {who : Fin 36}

theorem exec_shadowWrite_session {ch : Fin 104} (phase : Bool) (v : Word) (hmay : rapMay s who.val .duty 10 = true)
    (hown : lgOwner s (lgOf s ch.val) (.rap who) = true) :
    exec (.shadowWrite (.rap who) ch phase v) s = .next (rapAnswer (shadowSet ch.val phase v.toNat s) who.val .ok []) := by
  rw [exec_shadowWrite, execShadowWrite, lgWrite_owner_session hmay hown]

theorem exec_loadAll_session {k : Fin 8} (hmay : rapMay s who.val .duty 10 = true) (hown : lgOwner s k.val (.rap who) = true) :
    exec (.loadAll (.rap who) k false) s = .next (rapAnswer (lgArm k.val s) who.val .ok []) := by
  rw [exec_loadAll, execLoadAll, lgWrite_owner_session hmay hown, if_neg Bool.false_ne_true]

theorem exec_lgCancel_session {k : Fin 8} (hmay : rapMay s who.val .duty 10 = true) (hown : lgOwner s k.val (.rap who) = true)
    (hearly : lgDue s k.val = false) :
    exec (.lgCancel (.rap who) k) s =
      .next (rapAnswer (fsetb s (R.PWM_LG_STAT k.val) F.PWM_LG_STAT_ARMED false) who.val .ok []) := by
  rw [exec_lgCancel, execLgCancel, lgWrite_owner_session hmay hown, if_neg (by simp [hearly])]

end

/-! ### Forces (R241, R242) -/

/-- Every force is to be released at the next tick, for a cause, and no commit waits. -/
def forceDrop (cause : Nat) (s : State) : State := { s with pwm := { s.pwm with release := some cause, pend := none } }

/-- Both force words wait for the next tick, with the session that gave them and the stamp of the commit. -/
def forceNote (p : ForcePend) (s : State) : State := { s with pwm := { s.pwm with pend := some p, commitAt := s.tb } }

/-- The forces a commit of a session takes: the words of the shadow registers. -/
def forceWords (s : State) (who : Nat) : ForcePend := ⟨(rget s R.PWM_FORCE_SH).toNat, (rget s R.PWM_FORCE_ONE).toNat, who⟩

section
variable (who : Fin 36) (s : State)

theorem exec_forceCommit_clear_eq : exec (.forceCommit who true) s = .next (rapDo s who.val (.force true) 10 R.PWM_FORCE_CTRL (forceDrop 0)) := rfl

theorem exec_forceCommit_eq :
    exec (.forceCommit who false) s =
      .next (rapDo s who.val (.force (offOnly (rget s R.PWM_FORCE_SH).toNat (rget s R.PWM_FORCE_ONE).toNat)) 10 R.PWM_FORCE_CTRL
        (forceNote (forceWords s who.val))) := rfl

theorem exec_forceClearAll_eq : exec (.forceClearAll who) s = .next (rapDo s who.val (.force true) 10 R.PWM_FORCE_CTRL (forceDrop 0)) := rfl

end

theorem exec_forceTimeout_due {s : State} (hforce : forcing s = true)
    (hdue : s.pwm.commitAt + fget s R.PWM_HOLD F.PWM_HOLD_FORCE_TMO * secTicks ≤ s.tb) :
    exec .forceTimeout s = .next (forceDrop 1 s) := by
  rw [exec_forceTimeout, execForceTimeout, if_pos ⟨hforce, hdue⟩, forceDrop]

/-! ### What a session's force and shadow commands leave as it was -/

/-- A force command's next state: a session's operation on the state. -/
theorem exec_force_eq {who : Fin 36} {b : Bool} {c : Instr} (hc : c ∈ [Instr.forceCommit who b, .forceClearAll who]) (s : State) :
    ∃ (act : Act) (f : State → State), exec c s = .next (rapDo s who.val act 10 R.PWM_FORCE_CTRL f) ∧
      (f = forceDrop 0 ∨ f = forceNote (forceWords s who.val)) := by
  simp only [List.mem_cons, List.not_mem_nil, or_false] at hc
  rcases hc with rfl | rfl
  · cases b with
    | true => exact ⟨_, _, exec_forceCommit_clear_eq who s, .inl rfl⟩
    | false => exact ⟨_, _, exec_forceCommit_eq who s, .inr rfl⟩
  · exact ⟨_, _, exec_forceClearAll_eq who s, .inl rfl⟩

/-- What a session may have pending of forces: the commit, its stamp and the release. -/
def OnlyPending (s t : State) : Prop :=
  ∃ (p : Option ForcePend) (a : Nat) (r : Option Nat), t.pwm = { s.pwm with pend := p, commitAt := a, release := r }

/-- The generator after a session's command is that of its operation or, where R478 refuses it, that of before. -/
theorem pwm_rapDo (s : State) (who : Nat) (act : Act) (dom reg : Nat) (f : State → State) :
    (rapDo s who act dom reg f).pwm = (f s).pwm ∨ (rapDo s who act dom reg f).pwm = s.pwm := by
  unfold rapDo
  split
  · exact .inl (rapAnswer_pwm ..)
  · exact .inr (rapRefuse_keeps (p := State.pwm) (fun _ _ _ _ => rapAnswer_pwm ..) (fun _ _ _ => writeDenied_pwm ..) ..)

theorem onlyPending_force {s : State} {f : State → State} {who : Nat} (hf : f = forceDrop 0 ∨ f = forceNote (forceWords s who)) (act : Act)
    (reg : Nat) : OnlyPending s (rapDo s who act 10 reg f) := by
  rcases pwm_rapDo s who act 10 reg f with h | h
  · rcases hf with rfl | rfl
    · exact ⟨none, s.pwm.commitAt, some 0, h⟩
    · exact ⟨some (forceWords s who), s.tb, s.pwm.release, h⟩
  · exact ⟨s.pwm.pend, s.pwm.commitAt, s.pwm.release, h⟩

theorem regs_force {s : State} {f : State → State} {who : Nat} (hf : f = forceDrop 0 ∨ f = forceNote (forceWords s who)) :
    (f s).regs = s.regs := by
  rcases hf with rfl | rfl <;> rfl

/-- The module without what a command of the generator or its answer may change: registers, the generator, sessions, RAP, CAN, and the record
of a refusal. -/
def besideGenerator (s : State) : State :=
  { s with
    regs := [], pwm := State.reset.pwm, pwr := State.reset.pwr, can := State.reset.can, stb := State.reset.stb, rap := State.reset.rap
    brd := State.reset.brd, sent := [] }

theorem besideGenerator_rapAnswer (s : State) (who : Nat) (st : RapStatus) (data : List Int) :
    besideGenerator (rapAnswer s who st data) = besideGenerator s := by
  obtain ⟨se, c, m, r, heq, -⟩ := rapAnswer_eq s who st data
  rw [heq]
  rfl

theorem besideGenerator_writeDenied (s : State) (r : Role) (reg : Nat) : besideGenerator (writeDenied s r reg) = besideGenerator s := by
  obtain ⟨b, heq⟩ := writeDenied_eq s r reg
  rw [heq]
  rfl

theorem besideGenerator_shadowSet (n : Nat) (phase : Bool) (v : Nat) (s : State) :
    besideGenerator (shadowSet n phase v s) = besideGenerator s := by
  unfold shadowSet
  dsimp only
  split
  · rfl
  · split <;> rfl

theorem pwm_shadowSet (n : Nat) (phase : Bool) (v : Nat) (s : State) : (shadowSet n phase v s).pwm = s.pwm := by
  unfold shadowSet
  dsimp only
  split
  · rw [fsetb_pwm]
  · split <;> rw [fset_pwm]

theorem exec_shadowWrite_session_eq (who : Fin 36) (n : Fin 104) (ph : Bool) (v : Word) (s : State) :
    exec (.shadowWrite (.rap who) n ph v) s = .next (lgWrite (.rap who) (lgOf s n.val)
      (if ph then R.PWM_CH_PHASE n.val else R.PWM_CH_DUTY n.val) (shadowSet n.val ph v.toNat) s) := rfl

theorem besideGenerator_exec {who : Fin 36} {b ph : Bool} {n : Fin 104} {v : Word} {s t : State} {c : Instr}
    (hc : c ∈ [Instr.forceCommit who b, .forceClearAll who, .shadowWrite (.rap who) n ph v]) (h : exec c s = .next t) :
    besideGenerator t = besideGenerator s := by
  rcases List.mem_append.1 (show c ∈ [Instr.forceCommit who b, .forceClearAll who] ++ [.shadowWrite (.rap who) n ph v] from hc) with hc | hc
  · obtain ⟨act, f, heq, hf⟩ := exec_force_eq hc s
    rw [heq] at h
    cases h
    have hkeep : besideGenerator (f s) = besideGenerator s := by
      rcases hf with rfl | rfl <;> rfl
    exact rapDo_keeps besideGenerator_rapAnswer besideGenerator_writeDenied hkeep ..
  · rw [List.mem_singleton.1 hc, exec_shadowWrite_session_eq] at h
    cases h
    exact lgWrite_keeps besideGenerator_rapAnswer besideGenerator_writeDenied (besideGenerator_shadowSet ..) rfl ..

/-- Settles O57: a command that is refused changes no register and nothing of the generator; one that is let through does its operation. -/
theorem forceAndShadowFrame : Obligations.ForceAndShadowFrame := by
  refine ⟨fun who b s t c hc h => ?_, fun who n ph v s t h => ?_, fun who b ph n v s t c hc h => ?_⟩
  · obtain ⟨act, f, heq, hf⟩ := exec_force_eq hc s
    rw [heq] at h
    cases h
    exact ⟨regs_rapDo (regs_force hf) .., onlyPending_force hf ..⟩
  · rw [exec_shadowWrite_session_eq] at h
    cases h
    refine ⟨fun a hduty hphase hstat => ?_, ?_⟩
    · exact lgWrite_keeps (p := fun t => rget t a) (fun _ _ _ _ => by rw [rget, rapAnswer_regs, rget])
        (fun _ _ _ => by rw [rget, writeDenied_regs, rget]) (rget_shadowSet_ne ph _ hduty hphase hstat) (rget_fset_ne hstat) ..
    · exact lgWrite_keeps (p := State.pwm) (fun _ _ _ _ => rapAnswer_pwm ..) (fun _ _ _ => writeDenied_pwm ..) (pwm_shadowSet ..)
        (fincSat_pwm ..) ..
  · have hbeside := besideGenerator_exec hc h
    simp only [besideGenerator, State.mk.injEq] at hbeside
    simp only [hbeside, and_self]

/-! ### The commands run -/

/-- An answer to a session changes no register. -/
theorem rget_rapAnswer (s : State) (who : Nat) (st : RapStatus) (data : List Int) (a : Nat) : rget (rapAnswer s who st data) a = rget s a := by
  rw [rget, rapAnswer_regs, rget]

/-- Settles O59: the owner's write does its operation, and the operation's fields read what it wrote. -/
theorem loadGroupAndForceCommandsRun : Obligations.LoadGroupAndForceCommandsRun := by
  refine ⟨fun src ch v s hsrc hon hown hfree => ⟨?_, ?_⟩, fun who ch v s hmay hown hfree => ?_, fun src k s hsrc hon hown => ⟨?_, fun hearly => ?_⟩,
    fun k s hdue => ⟨⟨_, exec_lgTransfer_due hdue, rfl⟩, lgTransfer_disarms .., lgTransfer_stamps ..⟩, fun who s hmay => ⟨?_, ?_⟩,
    fun who s hmay => ?_, fun s hforce hdue => ⟨_, exec_forceTimeout_due hforce hdue, rfl, rfl, rfl⟩⟩
  · refine ⟨_, exec_shadowWrite_owner hsrc hon false v hown, ?_⟩
    rw [shadowSet_duty _ hfree]
    exact ⟨fget_duty_written .., fun a ha => rget_fset_ne ha⟩
  · refine ⟨_, exec_shadowWrite_owner hsrc hon true v hown, ?_⟩
    rw [shadowSet_phase _ hfree]
    exact ⟨fget_fset_same (by decide), fun a ha => rget_fset_ne ha⟩
  · refine ⟨_, exec_shadowWrite_session false v hmay hown, ?_⟩
    rw [shadowSet_duty _ hfree, fget_of_regs (rapAnswer_regs ..)]
    exact ⟨fget_duty_written .., fun a ha => (rget_rapAnswer ..).trans (rget_fset_ne ha)⟩
  · exact ⟨_, exec_loadAll_owner hsrc hon false hown, lgArm_arms k.val s⟩
  · refine ⟨_, exec_lgCancel_owner hsrc hon hown, ?_⟩
    rw [hearly, if_neg Bool.false_ne_true]
    exact ⟨fbit_fsetb_same (by decide) rfl false, fun a ha => rget_fset_ne ha⟩
  · refine ⟨_, exec_forceCommit_clear_eq who s, ?_⟩
    rw [rapDo_allowed _ _ hmay, rapAnswer_regs, rapAnswer_pwm]
    exact ⟨rfl, rfl, rfl⟩
  · refine ⟨_, exec_forceClearAll_eq who s, ?_⟩
    rw [rapDo_allowed _ _ hmay, rapAnswer_regs, rapAnswer_pwm]
    exact ⟨rfl, rfl, rfl⟩
  · refine ⟨_, exec_forceCommit_eq who s, ?_⟩
    rw [rapDo_allowed _ _ hmay, rapAnswer_regs, rapAnswer_pwm]
    exact ⟨rfl, rfl, rfl⟩

/-- Settles O21, one command after another: under the conditions of a clause the command's guards are met. -/
theorem waveformCommandsComplete : Obligations.WaveformCommandsComplete := by
  have hctl : ∀ (g : Fin 16) (who : Fin 36), Writer.ctl g ≠ .rap who := fun _ _ => Writer.noConfusion
  have hcan : ∀ (c : Fin 4) (who : Fin 36), Writer.can c ≠ .rap who := fun _ _ => Writer.noConfusion
  refine ⟨fun g ch v s hon hown hfree => ?_, fun g ch v s hon hown hfree => ?_, fun g ch p v s hon hown harmed => ?_,
    fun c ch v s hon hown hfree => ?_, fun c ch p v s hon hown => ?_, fun who ch v s hmay hown hfree => ?_,
    fun who ch v s hmay hown hfree => ?_, fun who ch p v s hmay hown => ?_, fun g k s hon hown hfree => ?_,
    fun g k s hon hown => exec_loadAll_owner (hctl g) hon true hown, fun who k s hmay hown hfree => ?_, fun g k s hon hown hearly => ?_,
    fun who k s hmay hown hearly => exec_lgCancel_session hmay hown hearly, fun g k s hon hown hlate => ?_,
    fun k s harmed hearlier hboundary hlive hon => exec_lgTransfer_due (lgDue_of_boundary harmed hearlier hboundary hlive hon),
    fun who s hmay => ?_, fun who s hmay => ?_, fun who s hmay => ?_, fun s hforce hdue => exec_forceTimeout_due hforce hdue⟩
  · rw [exec_shadowWrite_owner (hctl g) hon _ _ hown, shadowSet_duty _ hfree]
  · rw [exec_shadowWrite_owner (hctl g) hon _ _ hown, shadowSet_phase _ hfree]
  · rw [exec_shadowWrite_owner (hctl g) hon _ _ hown, shadowSet_armed _ _ harmed]
  · rw [exec_shadowWrite_owner (hcan c) hon _ _ hown, shadowSet_duty _ hfree]
  · rw [exec_shadowWrite, execShadowWrite, lgWrite_source (hcan c) hon, hown, if_neg Bool.false_ne_true]
  · rw [exec_shadowWrite_session _ _ hmay hown, shadowSet_phase _ hfree]
  · rw [exec_shadowWrite_session _ _ hmay hown, shadowSet_duty _ hfree]
  · rw [exec_shadowWrite, execShadowWrite, lgWrite_other_session hmay hown]
  · rw [exec_loadAll_owner (hctl g) hon _ hown, if_neg Bool.false_ne_true, lgArm_free hfree]
  · rw [exec_loadAll_session hmay hown, lgArm_free hfree]
  · rw [exec_lgCancel_owner (hctl g) hon hown, hearly, if_neg Bool.false_ne_true]
  · rw [exec_lgCancel_owner (hctl g) hon hown, hlate, if_pos rfl]
  · rw [exec_forceCommit_clear_eq, rapDo_allowed _ _ hmay, forceDrop]
  · rw [exec_forceCommit_eq, rapDo_allowed _ _ hmay, forceNote, forceWords]
  · rw [exec_forceClearAll_eq, rapDo_allowed _ _ hmay, forceDrop]

end Sys2Proof.Proofs
end

section
/-!
PROOFS. The output stage: trip inputs (R243 to R245), ownership and the hold-over watchdog (R247), pair-wired channels (R266), and a core that is
not alive (R269).
-/

open Sys2Proof Sys2Proof.Machine Sys2Proof.Laws

namespace Sys2Proof.Proofs

section
variable {s : State}

/-! ### Trips (R243 to R245) -/

section
variable {k : Fin 8}

theorem exec_tripActive_rises (hlevel : fbit s (R.PWM_TRIP_STAT k.val) F.PWM_TRIP_STAT_LEVEL = false) (hrun : s.pwr.tbRun = true)
    (hclr : (tripSt s k.val).clr = none) :
    exec (.tripActive k) s = .next (staged (fun x => tripSet k.val (s.tb - tripLen s k.val)
      (fsetb x (R.PWM_TRIP_STAT k.val) F.PWM_TRIP_STAT_LEVEL true)) s) := by
  rw [exec_tripActive, execTripActive, if_neg (by simp [hlevel, hrun])]
  refine congrArg _ (staged_congr ?_)
  dsimp only
  rw [hclr]

theorem exec_tripInactive_falls (hlevel : fbit s (R.PWM_TRIP_STAT k.val) F.PWM_TRIP_STAT_LEVEL = true) (hrun : s.pwr.tbRun = true)
    (hclr : (tripSt s k.val).clr = none) :
    exec (.tripInactive k) s = .next (setTrip k.val (fun x => { x with quiet := s.tb })
      (fsetb s (R.PWM_TRIP_STAT k.val) F.PWM_TRIP_STAT_LEVEL false)) := by
  rw [exec_tripInactive, execTripInactive, if_neg (by simp [hlevel, hrun])]
  dsimp only
  rw [hclr]

theorem tripClear_latched {k : Nat} (hlatch : fbit s (R.PWM_TRIP_STAT k) F.PWM_TRIP_STAT_LATCH = true) :
    tripClear k s = staged (fun x => faultEnd (fsetb x (R.PWM_TRIP_STAT k) F.PWM_TRIP_STAT_LATCH false) Ev.TRIP [(k : Int)]) s := by
  rw [tripClear, if_pos hlatch]

section
variable {who : Fin 36} (hmay : rapMay s who.val .other 0 = true)
include hmay

/-- A CLEAR notes the latch that it ends, for a level that becomes active in the same tick. -/
theorem exec_tripClear_done (hmask : tripMask s k.val ≠ 0) (hlevel : fbit s (R.PWM_TRIP_STAT k.val) F.PWM_TRIP_STAT_LEVEL = false) :
    exec (.tripClear who k) s = .next (rapAnswer (tripClear k.val (setTrip k.val (fun x =>
      { x with clr := some (s.tb, true, fget s (R.PWM_TRIP_STAT k.val) F.PWM_TRIP_STAT_LATCH) }) s)) who.val .ok []) := by
  rw [exec_tripClear, execTripClear, rapDo_allowed _ _ hmay, if_neg hmask, if_neg (by simp [hlevel])]

theorem exec_tripClear_refused (hmask : tripMask s k.val ≠ 0) (hlevel : fbit s (R.PWM_TRIP_STAT k.val) F.PWM_TRIP_STAT_LEVEL = true) :
    exec (.tripClear who k) s = .next (rapAnswer (setTrip k.val (fun x =>
      { x with clr := some (s.tb, false, fget s (R.PWM_TRIP_STAT k.val) F.PWM_TRIP_STAT_CLEAR_REFUSED) })
      (fincSat s (R.PWM_TRIP_STAT k.val) F.PWM_TRIP_STAT_CLEAR_REFUSED)) who.val .ok []) := by
  rw [exec_tripClear, execTripClear, rapDo_allowed _ _ hmay, if_neg hmask, if_pos hlevel]

theorem exec_tripClear_unmasked (hmask : tripMask s k.val = 0) : exec (.tripClear who k) s = .next (rapAnswer s who.val .ok []) := by
  rw [exec_tripClear, execTripClear, rapDo_allowed _ _ hmay, if_pos hmask]

end

theorem exec_tripAutoRelease_due (hmode : fbit s (R.PWM_TRIP_CFG k.val) F.PWM_TRIP_CFG_MODE = true)
    (hlevel : fbit s (R.PWM_TRIP_STAT k.val) F.PWM_TRIP_STAT_LEVEL = false)
    (hquiet : (tripSt s k.val).quiet + msTicks (fget s (R.PWM_TRIP_MASK k.val) F.PWM_TRIP_MASK_RELEASE) ≤ s.tb) :
    exec (.tripAutoRelease k) s = .next (tripClear k.val s) := by
  rw [exec_tripAutoRelease, execTripAutoRelease, if_pos ⟨hmode, hlevel, hquiet⟩]

/-- While TB stands, a sample sets the latch with the stamp at which TB stopped. -/
theorem exec_tripSafeSample_stopped (hstop : s.pwr.tbRun = false) : exec (.tripSafeSample k) s = .next (staged (tripSet k.val s.tb) s) := by
  rw [exec_tripSafeSample, execTripSafeSample, if_neg (by simp [hstop])]

end

/-! ### Ownership and the watchdog (R247) -/

section
variable (hcore : domOn s 1 = true) (hpwm : domOn s 10 = true) (hrun : s.pwm.halted = false) (hlive : s.pwm.frozen = none)
include hcore hpwm hrun hlive

/-- Firmware's OWN reaches the output stage while the core and the generator run. -/
theorem exec_ownWrite_running (expiry : Bool) :
    exec (.ownWrite expiry) s =
      .next (if expiry && s.pwm.wd.isSome && !fbit s R.PWM_CTRL F.PWM_CTRL_WD_SUSPEND then staged wdExpire s else staged own s) := by
  rw [exec_ownWrite, execOwnWrite, if_neg (by simp [hcore, hpwm, hrun, hlive])]

theorem exec_ownWrite_alone : exec (.ownWrite false) s = .next (staged own s) :=
  exec_ownWrite_running hcore hpwm hrun hlive false

/-- An expiry in the same AO tick prevails. -/
theorem exec_ownWrite_expired (hwd : s.pwm.wd.isSome = true) (hsusp : fbit s R.PWM_CTRL F.PWM_CTRL_WD_SUSPEND = false) :
    exec (.ownWrite true) s = .next (staged wdExpire s) := by
  rw [exec_ownWrite_running hcore hpwm hrun hlive, if_pos (by simp [hwd, hsusp])]

end

/-- An OWN stops the watchdog, and where no expiry is held as a fault, there is none to end. -/
theorem own_of_no_expiry (hnone : fltHeld s Ev.WD_EXPIRED [] = false) :
    own s = fsetb (fsetb { s with pwm := { s.pwm with ownAt := some s.tb, wd := none, held := none } }
      R.PWM_STATUS F.PWM_STATUS_WD_RUN false) R.PWM_STATUS F.PWM_STATUS_OWNED true := by
  have hpast : ¬fltHeld { s with pwm := { s.pwm with ownAt := some s.tb, wd := none, held := none } } Ev.WD_EXPIRED [] = true :=
    Bool.eq_false_iff.1 hnone
  rw [own, faultPast, if_neg hpast]

theorem exec_wdExpired_due (hdue : wdDue s = true) (hsusp : fbit s R.PWM_CTRL F.PWM_CTRL_WD_SUSPEND = false) :
    exec .wdExpired s = .next (staged wdExpire s) := by
  rw [exec_wdExpired, execWdExpired, if_pos ⟨hdue, hsusp⟩]

theorem exec_wdSuspendWrite_sets {who : Fin 36} (hmay : rapMay s who.val .debug 10 = true)
    (hsusp : fbit s R.PWM_CTRL F.PWM_CTRL_WD_SUSPEND = false) :
    exec (.wdSuspendWrite who true) s = .next (rapAnswer (raise (fsetb (fsetb s R.PWM_CTRL F.PWM_CTRL_WD_SUSPEND true) R.PWM_STATUS
      F.PWM_STATUS_WD_SUSP true) Ev.WD_SUSPEND [1]) who.val .ok []) := by
  rw [exec_wdSuspendWrite, execWdSuspendWrite, rapDo_allowed _ _ hmay, if_neg (by simp [hsusp])]
  rfl

theorem exec_coreNotAlive_dead (hdead : coreAlive s = false) :
    exec .coreNotAlive s = .next (staged (fun x => halterCheck (wdStart x)) s) := by
  rw [exec_coreNotAlive, execCoreNotAlive, if_neg (by simp [hdead])]

/-! ### Pair-wired channels (R266) -/

/-- The module that does not drive follows a change of a pair-wired channel at its tick, or keeps it until then. -/
theorem exec_pairWiredUpdate_follower {ch : Fin 96} (g : Bool) (f : Fin 4) (d p t : Nat) (hfollows : drives s = false)
    (hwired : fbit s (R.LSW_CH_CFG1 ch.val) F.LSW_CH_CFG1_PAIR_WIRED = true) :
    exec (.pairWiredUpdate ch g f d p t) s = .next (if t ≤ s.tb then staged (pairApply ch.val g f.val d (p % 65536)) s
      else { s with pwm := { s.pwm with pairPend := s.pwm.pairPend ++ [(t, ch.val, g, f.val, d, p % 65536)] } }) := by
  rw [exec_pairWiredUpdate, execPairWiredUpdate, if_neg (by simp [hfollows, hwired])]

end

/-- Settles O22, one command after another: under the conditions of a clause the command's guards are met. -/
theorem stageCommandsComplete : Obligations.StageCommandsComplete := by
  refine ⟨fun _ _ hlevel hrun hclr => exec_tripActive_rises hlevel hrun hclr, fun _ _ hlevel hrun hclr => exec_tripInactive_falls hlevel hrun hclr,
    fun _ _ _ hmay hmask hlevel _ => exec_tripClear_done hmay hmask hlevel, fun _ _ hlatch => tripClear_latched hlatch,
    fun _ _ _ hmay hmask hlevel => exec_tripClear_refused hmay hmask hlevel, fun _ _ _ hmay hmask => exec_tripClear_unmasked hmay hmask,
    fun k s hmode hlevel hquiet hlatch => ?_, fun _ _ hstop => exec_tripSafeSample_stopped hstop,
    fun _ hcore hpwm hrun hlive => exec_ownWrite_alone hcore hpwm hrun hlive, fun _ _ hnone => own_of_no_expiry hnone,
    fun _ hcore hpwm hrun hlive hwd hsusp => exec_ownWrite_expired hcore hpwm hrun hlive hwd hsusp,
    fun _ hdue hsusp => exec_wdExpired_due hdue hsusp, fun _ _ hmay hsusp => exec_wdSuspendWrite_sets hmay hsusp,
    fun ch g f d p t s hfollows hwired hdue => ?_, fun ch g f d p t s hfollows hwired hearly => ?_,
    fun _ hdead => exec_coreNotAlive_dead hdead⟩
  · rw [exec_tripAutoRelease_due hmode hlevel hquiet, tripClear_latched hlatch]
  · rw [exec_pairWiredUpdate_follower g f d p t hfollows hwired, if_pos hdue]
  · rw [exec_pairWiredUpdate_follower g f d p t hfollows hwired, if_neg (Nat.not_le.2 hearly)]

end Sys2Proof.Proofs
end

section
/-!
PROOFS. Supply (R337, R460, R461, R463, R494), firmware slots (R467, R468, R476), wake and key-off (R469 to R475).
-/

open Sys2Proof Sys2Proof.Machine Sys2Proof.Laws

namespace Sys2Proof.Proofs

/-! ### Supply (R460, R461, R463) -/

/-- AO keeps to TB within its tolerance, so a time that has passed on TB has passed on AO. -/
theorem aoElapsed_of_past {s : State} {since n : Nat} (hpast : since + n ≤ s.tb) : aoElapsed s since n = true := by
  rw [aoElapsed, Bool.or_eq_true, decide_eq_true_eq]
  exact .inr (hpast.trans (Nat.le_add_right _ _))

theorem exec_powerUp_overvoltage {b : Boot} {s : State} (hoff : s.pwr.powered = false) (hhigh : 360 < b.vlog.toNat) (hrated : b.vlog.toNat ≤ 580) :
    exec (.powerUp b) s = .next (fault (domSet { fresh false s with pwr := { (fresh false s).pwr with
      powered := true, ovOff := true, startDue := true } } 0 true) Ev.VLOG_OV [(b.vlog.toNat : Int)]) := by
  rw [exec_powerUp, execPowerUp]
  simp only [hoff, hhigh, Nat.not_lt.2 hrated, Nat.not_lt.2 (show 90 ≤ b.vlog.toNat by omega), Bool.false_eq_true, false_and, if_false, if_true]

theorem exec_powerUp_beyond_ratings {b : Boot} {s : State} (hoff : s.pwr.powered = false) (hbeyond : 580 < b.vlog.toNat) :
    exec (.powerUp b) s = .fault .beyondRatings := by
  rw [exec_powerUp, execPowerUp]
  simp only [hoff, hbeyond, Bool.false_eq_true, false_and, if_false, if_true]

theorem exec_strapChanged_of_powered {v : BitVec 6} {s : State} (hon : s.pwr.powered = true) (hnew : s.pwr.strapNow ≠ v.toNat) :
    exec (.strapChanged v) s = .next (fault { s with pwr := { s.pwr with strapNow := v.toNat } } Ev.STRAP_CHANGED
      [(s.pwr.strapNow : Int), (v.toNat : Int)]) := by
  rw [exec_strapChanged, execStrapChanged]
  simp only [hon, hnew, Bool.true_eq_false, or_self, if_false]

theorem exec_vlogOvervoltage_awake {v : BitVec 10} {s : State} (hon : s.pwr.powered = true) (hov : s.pwr.ovOff = false)
    (hawake : s.pwr.asleep = false) (hstart : s.pwr.startDue = false) (hhigh : 360 < v.toNat) (hrated : v.toNat ≤ 580) :
    exec (.vlogOvervoltage v) s =
      .next (levelLost (staged (fun x => moduleReset 8 (subsume 6 0 (resetCount x)))
        (let f := fault (fset s R.PWR_STATUS F.PWR_STATUS_VLOG v.toNat) Ev.VLOG_OV [(v.toNat : Int)]
         { f with pwr := { f.pwr with ovOff := true, supplyAt := s.tb } }))) := by
  rw [exec_vlogOvervoltage, execVlogOvervoltage]
  simp only [hon, hov, hawake, hstart, Nat.not_lt.2 hrated, Nat.not_le.2 hhigh, vlogShow, Bool.true_eq_false, Bool.false_eq_true, or_self, if_false]

theorem exec_vlogOvRecover_held {v : BitVec 10} {s : State} (hov : s.pwr.ovOff = true) (hlow : v.toNat < 340) (hheld : supplyHeld s = true) :
    exec (.vlogOvRecover v) s = .next (faultEnd { fset s R.PWR_STATUS F.PWR_STATUS_VLOG v.toNat with pwr := { s.pwr with ovOff := false } } Ev.VLOG_OV []) := by
  rw [exec_vlogOvRecover, execVlogOvRecover, if_pos ⟨hov, hlow, hheld⟩, vlogShow]

theorem exec_brownout_not_flushed {v : BitVec 10} {s : State} (hon : s.pwr.powered = true) (hbrown : s.pwr.brown = false) (hlow : v.toNat < 75) :
    exec (.brownout v false) s =
      .next (levelLost (staged moduleOff
        (let f := fault (fincSat (fset s R.PWR_STATUS F.PWR_STATUS_VLOG v.toNat) R.PWR_CAUSE F.PWR_CAUSE_BROWNOUTS) Ev.BROWNOUT
          [(v.toNat : Int)]
         { f with pwr := { f.pwr with brown := true, supplyAt := s.tb, cause := 10, startDue := false
                                      unclean := if s.pwr.asleep then s.pwr.unclean else true } }))) := by
  rw [exec_brownout, execBrownout]
  simp only [hon, hbrown, Nat.not_le.2 hlow, vlogShow, Bool.true_eq_false, Bool.false_eq_true, Bool.false_and, Bool.not_false, or_self, if_false]

theorem exec_brownoutRestart_held {v : BitVec 10} {s : State} (hbrown : s.pwr.brown = true) (hback : 90 ≤ v.toNat) (hheld : supplyHeld s = true) :
    exec (.brownoutRestart v) s = .next { fset s R.PWR_STATUS F.PWR_STATUS_VLOG v.toNat with
      pwr := { s.pwr with brown := false, asleep := false, startDue := true } } := by
  rw [exec_brownoutRestart, execBrownoutRestart, if_pos ⟨hbrown, hback, hheld⟩, vlogShow]

theorem supplyHeld_of_past {s : State} (hpast : s.pwr.supplyAt + msTicks 100 ≤ s.tb) : supplyHeld s = true := aoElapsed_of_past hpast

theorem exec_vlogLoss_awake {s : State} (hon : s.pwr.powered = true) (hawake : s.pwr.asleep = false) (hbrown : s.pwr.brown = false) :
    exec .vlogLoss s =
      .next (let f := fresh false { s with pwr := { s.pwr with unclean := true } }
             domSet { f with pwr := { f.pwr with powered := false, startDue := true, cause := 1 } } 0 false) := by
  rw [exec_vlogLoss, execVlogLoss]
  simp only [hon, hawake, hbrown, Bool.true_eq_false, Bool.false_eq_true, or_self, if_false]

/-- Settles O3, one command after another: under the conditions of a clause the command's guards are met. -/
theorem supplyCommandsComplete : Obligations.SupplyCommandsComplete :=
  ⟨fun _ _ hdue hhigh hfree hlow => exec_powerUp_starts hdue hhigh hfree hlow, fun _ _ => exec_powerUp_overvoltage,
    fun _ _ => exec_powerUp_beyond_ratings, fun _ _ => exec_strapChanged_of_powered, fun _ _ => exec_vlogOvervoltage_awake,
    fun _ _ => exec_vlogOvRecover_held, fun _ _ => exec_brownout_not_flushed, fun _ _ => exec_brownoutRestart_held, fun _ => supplyHeld_of_past,
    fun _ => exec_vlogLoss_awake⟩

/-! ### Supply warnings (R460, R476) -/

section
variable {v : BitVec 10} {s : State} (hon : s.pwr.powered = true)
include hon

/-- Whether VLOG_LOW stands and where VLOG lies decide together what happens besides showing the voltage. -/
theorem exec_vlogLow_of_powered :
    exec (.vlogLow v) s = .next (
      if fbit s R.PWR_STATUS F.PWR_STATUS_VLOG_LOW = false ∧ v.toNat < 90 then
        fault (fsetb (fset s R.PWR_STATUS F.PWR_STATUS_VLOG v.toNat) R.PWR_STATUS F.PWR_STATUS_VLOG_LOW true) Ev.VLOG_LOW [(v.toNat : Int)]
      else if fbit s R.PWR_STATUS F.PWR_STATUS_VLOG_LOW = true ∧ 93 ≤ v.toNat then
        faultEnd (fsetb (fset s R.PWR_STATUS F.PWR_STATUS_VLOG v.toNat) R.PWR_STATUS F.PWR_STATUS_VLOG_LOW false) Ev.VLOG_LOW [(v.toNat : Int)]
      else fset s R.PWR_STATUS F.PWR_STATUS_VLOG v.toNat) := by
  rw [exec_vlogLow, execVlogLow, if_neg (by simp [hon])]
  rfl

theorem exec_vlogHigh_of_powered :
    exec (.vlogHigh v) s = .next (
      if fbit s R.PWR_STATUS F.PWR_STATUS_VLOG_HIGH = false ∧ 320 < v.toNat then
        fault (fsetb (fset s R.PWR_STATUS F.PWR_STATUS_VLOG v.toNat) R.PWR_STATUS F.PWR_STATUS_VLOG_HIGH true) Ev.VLOG_HIGH [(v.toNat : Int)]
      else if fbit s R.PWR_STATUS F.PWR_STATUS_VLOG_HIGH = true ∧ v.toNat ≤ 317 then
        faultEnd (fsetb (fset s R.PWR_STATUS F.PWR_STATUS_VLOG v.toNat) R.PWR_STATUS F.PWR_STATUS_VLOG_HIGH false) Ev.VLOG_HIGH [(v.toNat : Int)]
      else fset s R.PWR_STATUS F.PWR_STATUS_VLOG v.toNat) := by
  rw [exec_vlogHigh, execVlogHigh, if_neg (by simp [hon])]
  rfl

end

/-- Settles O4, by the bit and the thresholds of its hysteresis. -/
theorem supplyWarningsShow : Obligations.SupplyWarningsShow := by
  refine ⟨fun v s hon hclear hlow => ?_, fun v s hon hset hback => ?_, fun v s hon hband hkeep => ?_, fun v s hon hclear hhigh => ?_,
    fun v s hon hset hback => ?_, fun v s hon hset hkeep => ?_⟩
  · rw [exec_vlogLow_of_powered hon, if_pos ⟨hclear, hlow⟩]
  · rw [exec_vlogLow_of_powered hon, if_neg (by simp [hset]), if_pos ⟨hset, hback⟩]
  · have hquiet : ¬(fbit s R.PWR_STATUS F.PWR_STATUS_VLOG_LOW = false ∧ v.toNat < 90) := by
      rintro ⟨hclear, hlow⟩
      have hset := hkeep.resolve_left (Nat.not_le.2 hlow)
      simp [hset] at hclear
    rw [exec_vlogLow_of_powered hon, if_neg hquiet, if_neg fun h => absurd (hband.1 h.1) (Nat.not_lt.2 h.2)]
  · rw [exec_vlogHigh_of_powered hon, if_pos ⟨hclear, hhigh⟩]
  · rw [exec_vlogHigh_of_powered hon, if_neg (by simp [hset]), if_pos ⟨hset, hback⟩]
  · rw [exec_vlogHigh_of_powered hon, if_neg (by simp [hset]), if_neg fun h => absurd h.2 (Nat.not_le.2 hkeep)]

/-! ### Firmware slots (R467, R468, R476) -/

theorem exec_activateFw_allowed {who : Fin 36} {s : State} {r : Nat} (hmay : rapMay s who.val .image 0 = true) (hrun : s.pwr.running = some r) :
    exec (.activateFw who) s = .next (rapAnswer (bootWrite (1 - r) true s) who.val .ok []) := by
  rw [exec_activateFw, execActivateFw, rapDo_allowed _ _ hmay, hrun]

theorem exec_fwCancel_pending {who : Fin 36} {s : State} {r : Nat} (hmay : rapMay s who.val .image 0 = true) (hrun : s.pwr.running = some r)
    (htrial : (bootRec s).trial = true) (hearly : s.pwr.trialRun = false) :
    exec (.fwCancel who) s = .next (rapAnswer (bootWrite r false s) who.val .ok []) := by
  rw [exec_fwCancel, execFwCancel, rapDo_allowed _ _ hmay, hrun]
  simp only [htrial, hearly, and_self, if_true]

theorem exec_fwTrialConfirm_due {s : State} {t r : Nat} (hat : s.pwr.trialAt = some t) (hrun : s.pwr.running = some r)
    (htrial : s.pwr.trialRun = true) (hgood : s.pwr.trialBad = false) (hlevel : level s ≠ 0) (hdue : t + 60 * secTicks ≤ s.tb) :
    exec .fwTrialConfirm s =
      .next (let n := max s.pwr.otpFwSvn (slotOf s r).svn
             raise (fset (bootWrite r false { s with pwr := { s.pwr with trialRun := false, otpFwSvn := n } })
               R.PWR_FW F.PWR_FW_OTP_FW_SVN n) Ev.FW_CONFIRMED [(r : Int)]) := by
  rw [exec_fwTrialConfirm, execFwTrialConfirm, hat, hrun]
  simp only [htrial, hgood, hlevel, Nat.not_lt.2 hdue, Bool.true_eq_false, Bool.false_eq_true, or_self, if_false]

/-- A trial that a fault of class 5 or 6 has ended, or that has not come to L1 in time, fails. -/
theorem exec_fwTrialFail_of_bad_or_late {s : State} {r : Nat} (hrun : s.pwr.running = some r) (htrial : s.pwr.trialRun = true) (hup : isUp s)
    (hfail : s.pwr.trialBad = true ∨ (s.pwr.trialAt = none ∧ msTicks 2500 ≤ s.tb)) :
    exec .fwTrialFail s = .next (levelLost (staged (moduleReset 11)
      (fault (bootWrite (1 - r) false { s with pwr := { s.pwr with trialRun := false } }) Ev.FW_TRIAL_FAIL [(r : Int)]))) := by
  obtain ⟨hon, hawake, hstart⟩ := hup
  have hgo : ¬(s.pwr.trialBad = false ∧ (s.pwr.trialAt.isNone && decide (msTicks 2500 ≤ s.tb)) = false) := by
    rcases hfail with hbad | ⟨hat, hlate⟩
    · simp [hbad]
    · simp [hat, hlate]
  rw [exec_fwTrialFail, execFwTrialFail, hrun]
  simp only [htrial, hon, hawake, hstart, hgo, Bool.true_eq_false, Bool.false_eq_true, or_self, if_false]

/-- Settles O5, one command after another: under the conditions of a clause the command's guards are met. -/
theorem firmwareSlotCommandsComplete : Obligations.FirmwareSlotCommandsComplete :=
  ⟨fun _ _ _ => exec_activateFw_allowed, fun _ _ _ => exec_fwCancel_pending, fun _ _ _ => exec_fwTrialConfirm_due,
    fun _ _ hrun htrial hon hawake hstart hbad => exec_fwTrialFail_of_bad_or_late hrun htrial ⟨hon, hawake, hstart⟩ (.inl hbad),
    fun _ _ hrun htrial hon hawake hstart hat hlate => exec_fwTrialFail_of_bad_or_late hrun htrial ⟨hon, hawake, hstart⟩ (.inr ⟨hat, hlate⟩)⟩

/-! ### Wake (R472, R475) -/

theorem wake_accepted {s : State} (cause : Nat) (f : State → State) (hon : s.pwr.powered = true) (hasleep : s.pwr.asleep = true)
    (hov : s.pwr.ovOff = false) (hbrown : s.pwr.brown = false) (hfirst : s.pwr.startDue = false) :
    wake cause f s = f (fset (fset { s with pwr := { s.pwr with startDue := true, cause := cause } } R.PWR_CAUSE F.PWR_CAUSE_CAN 0)
      R.PWR_CAUSE F.PWR_CAUSE_LINK 0) := by
  simp only [wake, hon, hasleep, hov, hbrown, hfirst, Bool.true_eq_false, Bool.false_eq_true, false_and, or_self, if_false]

theorem exec_attnNActive_asleep {s : State} (hon : s.pwr.powered = true) (hasleep : s.pwr.asleep = true) :
    exec .attnNActive s =
      .next (wake 2 id (fsetb { s with pwr := { s.pwr with attn := true } } R.PWR_STATUS F.PWR_STATUS_ATTN true)) := by
  rw [exec_attnNActive, execAttnNActive, if_neg (by simp [hon])]
  exact congrArg _ (if_pos hasleep)

theorem exec_attnNActive_awake {s : State} (hon : s.pwr.powered = true) (hawake : s.pwr.asleep = false) :
    exec .attnNActive s = .next (
      let a := fsetb { s with pwr := { s.pwr with attn := true } } R.PWR_STATUS F.PWR_STATUS_ATTN true
      fsetb (fsetb { a with pwr := { a.pwr with keyCond := false, keyoffK := none, keyRun := false, woken := false } }
        R.PWR_STATUS F.PWR_STATUS_KEYOFF false) R.PWR_STATUS F.PWR_STATUS_STAY false) := by
  rw [exec_attnNActive, execAttnNActive, if_neg (by simp [hon])]
  exact congrArg _ (if_neg (by simp [hawake]))

theorem exec_attnNInactive_of_powered {s : State} (hon : s.pwr.powered = true) :
    exec .attnNInactive s =
      .next (fsetb { s with pwr := { s.pwr with attn := false, attnOff := s.tb } } R.PWR_STATUS F.PWR_STATUS_ATTN false) := by
  rw [exec_attnNInactive, execAttnNInactive, if_neg (by simp [hon])]

theorem exec_wakeLink_asleep {n : Fin 5} {s : State} (hon : s.pwr.powered = true) (hasleep : s.pwr.asleep = true) (hov : s.pwr.ovOff = false)
    (hbrown : s.pwr.brown = false) (hfirst : s.pwr.startDue = false) (hcfg : fbit s R.PWR_CFG F.PWR_CFG_LINK_WAKE = true) :
    exec (.wakeLink n) s = .next (
      fset (fset (fset { s with pwr := { s.pwr with startDue := true, cause := 4 } } R.PWR_CAUSE F.PWR_CAUSE_CAN 0)
        R.PWR_CAUSE F.PWR_CAUSE_LINK 0) R.PWR_CAUSE F.PWR_CAUSE_LINK n.val) := by
  rw [exec_wakeLink, execWakeLink, if_pos hcfg, wake_accepted _ _ hon hasleep hov hbrown hfirst]

theorem exec_wakeTimer_asleep {s : State} (hon : s.pwr.powered = true) (hasleep : s.pwr.asleep = true) (hov : s.pwr.ovOff = false)
    (hbrown : s.pwr.brown = false) (hfirst : s.pwr.startDue = false) (hcfg : fget s R.PWR_CFG F.PWR_CFG_WAKE_TMR ≠ 0) :
    exec .wakeTimer s = .next (
      fset (fset { s with pwr := { s.pwr with startDue := true, cause := 6 } } R.PWR_CAUSE F.PWR_CAUSE_CAN 0)
        R.PWR_CAUSE F.PWR_CAUSE_LINK 0) := by
  rw [exec_wakeTimer, execWakeTimer, if_neg hcfg, wake_accepted _ _ hon hasleep hov hbrown hfirst, id]

theorem exec_wakeHalter_asleep {s : State} (hon : s.pwr.powered = true) (hasleep : s.pwr.asleep = true)
    (hcfg : fbit s R.PWR_CFG F.PWR_CFG_HALTER_WAKE = true) :
    exec .wakeHalter s = .next (wake 5 id (fsetb s R.LSW_HALTER_STAT F.LSW_HALTER_STAT_EN true)) := by
  rw [exec_wakeHalter, execWakeHalter, if_neg (by simp [hon, hasleep])]
  exact congrArg _ (if_pos hcfg)

theorem exec_wakeCan_asleep {c : Fin 4} {w : CanWake} {s : State} (hseen : wakeSeen s c.val w ≠ 0) (hasleep : s.pwr.asleep = true)
    (hfirst : s.pwr.startDue = false) :
    exec (.wakeCan c w) s = .next (wake 3 (fun x => raise (fset x R.PWR_CAUSE F.PWR_CAUSE_CAN c.val) Ev.CAN_WAKE
      [(c.val : Int), (wakeSeen s c.val w : Int)]) s) := by
  rw [exec_wakeCan, execWakeCan]
  simp only [hseen, hasleep, hfirst, Bool.false_eq_true, false_and, if_false, if_true]

/-! ### Key-off (R469, R470, R473) -/

theorem exec_keyoffCondition_held {s : State} (hon : s.pwr.powered = true) (hattn : s.pwr.attn = false) (hwoken : s.pwr.woken = false)
    (hcond : s.pwr.keyCond = false) (hdeb : s.pwr.attnOff + msTicks (fget s R.PWR_CFG F.PWR_CFG_KEYOFF_DEB) ≤ s.tb) :
    exec .keyoffCondition s = .next (keyoffAsk s) := by
  rw [exec_keyoffCondition, execKeyoffCondition, if_neg (by simp [hon, hattn, hwoken, hcond, aoElapsed_of_past hdeb])]

theorem exec_sleep_allowed {who : Fin 36} {s : State} (hmay : rapMay s who.val .sleep 0 = true) :
    exec (.sleep who) s = .next (rapAnswer (keyoffAsk s) who.val .ok []) := by
  rw [exec_sleep, execSleep, rapDo_allowed _ _ hmay]

theorem exec_stayAwakeExpiry_due {s : State} (hwoken : s.pwr.woken = true) (hattn : s.pwr.attn = false) (hsess : s.brd.sess = [])
    (hdue : s.pwr.stayFrom + 60 * secTicks * fget s R.PWR_CFG F.PWR_CFG_STAY_AWAKE ≤ s.tb) : exec .stayAwakeExpiry s = .next (keyoffAsk s) := by
  rw [exec_stayAwakeExpiry, execStayAwakeExpiry, if_neg (by simp [hwoken, hattn, hsess, aoElapsed_of_past hdue])]

theorem keyoffAsk_alone {s : State} (hnew : s.pwr.keyoffK = none) (hawake : s.pwr.asleep = false) (hon : domOn s 1 = true)
    (hleader : isLeader s = false) (hteam : teamState s ≠ 1) :
    keyoffAsk s = { s with pwr := { s.pwr with keyCond := true, keyoffK := some (nextBoundary s.tb) } } := by
  simp only [keyoffAsk, hnew, hawake, hon, hleader, hteam, Option.isSome_none, Bool.true_eq_false, Bool.false_eq_true, or_self, if_false]

theorem exec_stay_allowed {who : Fin 36} {s : State} (hmay : rapMay s who.val .other 0 = true) :
    exec (.stay who) s = .next (rapAnswer { s with pwr := { s.pwr with stayFrom := s.tb } } who.val .ok []) := by
  rw [exec_stay, execStay, rapDo_allowed _ _ hmay]

theorem exec_keyoffStart_runs {full : Bool} {s : State} {K : Nat} (hK : s.pwr.keyoffK = some K) (hdue : K ≤ s.tb) (hrun : mayRun s = true)
    (hon : domOn s 1 = true) (hbegun : s.pwr.keyRun = true) (hjob : jobState s ≠ 3) (hjob' : jobState s ≠ 4) :
    exec (.keyoffStart full) s = .next (keyoffEnd full s) := by
  rw [exec_keyoffStart, execKeyoffStart, hK]
  simp only [hdue, hrun, hon, hbegun, hjob, hjob', decide_true, Bool.true_eq_false, or_self, if_false, if_true]

theorem exec_keyoffForce_due {s : State} {K : Nat} (hK : s.pwr.keyoffK = some K) (hbegun : s.pwr.keyRun = true) (hawake : s.pwr.asleep = false)
    (hdue : K + 10 * secTicks ≤ s.tb) (hflush : mayFlush s = false) :
    exec .keyoffForce s = .next (sleepEnter { s with pwr := { s.pwr with unclean := true } }) := by
  rw [exec_keyoffForce, execKeyoffForce, hK]
  simp only [hbegun, hawake, hflush, Nat.not_lt.2 hdue, Bool.true_eq_false, Bool.false_eq_true, or_self, if_false]

/-- Settles O6, one command after another: under the conditions of a clause the command's guards are met. -/
theorem wakeAndKeyoffComplete : Obligations.WakeAndKeyoffComplete :=
  ⟨fun _ => exec_attnNActive_asleep, fun _ => exec_attnNActive_awake, fun _ => exec_attnNInactive_of_powered, fun _ _ => exec_wakeLink_asleep,
    fun _ => exec_wakeTimer_asleep, fun _ => exec_wakeHalter_asleep, fun _ _ _ => exec_wakeCan_asleep, fun _ => exec_keyoffCondition_held,
    fun _ _ => exec_sleep_allowed, fun _ => exec_stayAwakeExpiry_due, fun _ => keyoffAsk_alone, fun _ _ => exec_stay_allowed,
    fun _ _ => exec_keyoffReport .., fun _ _ _ => exec_keyoffStart_runs, fun _ _ => exec_keyoffForce_due⟩

end Sys2Proof.Proofs
end

section
/-!
PROOFS. Records (R432, R436, R440): what raising a record does to SEQ and to the queue that takes it.
-/

open Sys2Proof Sys2Proof.Machine Sys2Proof.Laws

namespace Sys2Proof.Proofs

/-! ### The oldest record that may make room (R436) -/

theorem oldestAtMost_lt {sev : Nat} : ∀ {q : List Rec} {i : Nat}, oldestAtMost sev q = some i → i < q.length
  | [], _, h => nomatch h
  | r :: rs, i, h => by
    rw [oldestAtMost] at h
    split at h
    · cases h
      exact Nat.zero_lt_succ _
    · obtain ⟨j, hj, rfl⟩ := Option.map_eq_some_iff.1 h
      exact Nat.succ_lt_succ (oldestAtMost_lt hj)

theorem oldestAtMost_of_all_above {sev : Nat} {q : List Rec} (habove : ∀ x ∈ q, sev < x.sev) : oldestAtMost sev q = none := by
  induction q with
  | nil => rfl
  | cons r rs ih =>
    rw [oldestAtMost, if_neg (Nat.not_le.2 (habove r List.mem_cons_self)), ih fun x hx => habove x (List.mem_cons_of_mem _ hx)]
    rfl

theorem oldestAtMost_append_of_above {sev : Nat} {q1 : List Rec} {x : Rec} (q2 : List Rec) (habove : ∀ y ∈ q1, sev < y.sev) (hx : x.sev ≤ sev) :
    oldestAtMost sev (q1 ++ x :: q2) = some q1.length := by
  induction q1 with
  | nil => exact if_pos hx
  | cons r rs ih =>
    rw [List.cons_append, oldestAtMost, if_neg (Nat.not_le.2 (habove r List.mem_cons_self)),
      ih fun y hy => habove y (List.mem_cons_of_mem _ hy)]
    rfl

/-! ### A queue that takes a record (R436) -/

section
variable {cap : Nat} {q : List Rec} {r : Rec}

theorem stbAdmit_of_room (b : Stb) (hroom : q.length < cap) : stbAdmit cap q r b = (q ++ [r], b) := if_pos hroom

/-- A full queue takes the record in the place of the oldest of its severity or below, or drops it. -/
theorem stbAdmit_of_full (b : Stb) (hfull : cap ≤ q.length) (hev : r.ev ≠ Ev.DROPPED) :
    stbAdmit cap q r b = match oldestAtMost r.sev q with
      | some i => (q.eraseIdx i ++ [r], match q[i]? with | some x => stbRemove b x | none => b)
      | none => (q, stbDrop b r) := by
  rw [stbAdmit, if_neg (Nat.not_lt.2 hfull), if_neg hev] <;> rfl

theorem stbAdmit_length_le (b : Stb) (hq : q.length ≤ cap) : (stbAdmit cap q r b).1.length ≤ cap := by
  unfold stbAdmit
  split
  · next hroom =>
    rw [List.length_append, List.length_singleton]
    omega
  · split
    · next i hi =>
      have hlt := oldestAtMost_lt hi
      rw [List.length_append, List.length_eraseIdx_of_lt hlt, List.length_singleton]
      omega
    · exact hq

theorem stbAdmit_drops (b : Stb) (hfull : cap ≤ q.length) (hev : r.ev ≠ Ev.DROPPED) (habove : ∀ x ∈ q, r.sev < x.sev) :
    stbAdmit cap q r b = (q, stbDrop b r) := by
  rw [stbAdmit_of_full b hfull hev, oldestAtMost_of_all_above habove]

theorem stbAdmit_replaces {q1 q2 : List Rec} {x : Rec} (b : Stb) (hfull : cap ≤ (q1 ++ x :: q2).length) (hev : r.ev ≠ Ev.DROPPED)
    (habove : ∀ y ∈ q1, r.sev < y.sev) (hx : x.sev ≤ r.sev) : stbAdmit cap (q1 ++ x :: q2) r b = (q1 ++ q2 ++ [r], stbRemove b x) := by
  rw [stbAdmit_of_full b hfull hev, oldestAtMost_append_of_above q2 habove hx]
  simp only [List.getElem?_append_right (Nat.le_refl _), Nat.sub_self, List.getElem?_cons_zero]
  rw [List.eraseIdx_append_of_length_le (Nat.le_refl _), Nat.sub_self, List.eraseIdx_cons_zero]

end

/-! ### SEQ (R432) -/

/-- SEQ runs from 1 and wraps to 1; the mark stays above it. -/
theorem stbSeq_seq (b : Stb) : (stbSeq b).seq = if b.seq + 1 < 2 ^ 32 then b.seq + 1 else 1 := rfl

theorem stbSeq_below_mark {b : Stb} (hmark : b.seq < b.mark) : (stbSeq b).seq < (stbSeq b).mark := by
  simp only [stbSeq]
  split_ifs <;> omega

theorem stbAdmit_seq (cap : Nat) (q : List Rec) (r : Rec) (b : Stb) : (stbAdmit cap q r b).2.seq = b.seq := by
  unfold stbAdmit
  split
  · rfl
  · split
    · dsimp only
      split <;> rfl
    · rfl

theorem stbRoom_seq (cap : Nat) (r : Rec) : ∀ (n : Nat) (q : List Rec) (b : Stb), (stbRoom cap r n q b).2.seq = b.seq
  | 0, _, _ => rfl
  | n + 1, q, b => by
    rw [stbRoom]
    split
    · rfl
    · split
      · rw [stbRoom_seq cap r n]
        split <;> rfl
      · rfl

theorem stbNor_seq (r : Rec) (b : Stb) : (stbNor r b).seq = b.seq := by
  unfold stbNor
  split
  · dsimp only
    rw [stbStore]
    split
    · exact stbRoom_seq ..
    · rfl
  · rfl

/-- Putting a record into the queue where it waits takes no SEQ. -/
theorem enter_seq (r : Rec) (b : Stb) : (recRaise.enter r b).seq = b.seq := by
  unfold recRaise.enter
  split
  · exact (stbAdmit_seq ..).trans (stbNor_seq ..)
  · split
    · exact (stbAdmit_seq ..).trans (stbNor_seq ..)
    · exact stbAdmit_seq ..

/-- The policy of R441 leaves a record of severity 2 or 3 alone. -/
theorem raise_seq {s : State} {e : Ev} (args : List Int) (hsev : 2 ≤ evSev false e) : (raise s e args).stb.seq = (stbSeq s.stb).seq := by
  have hfree : (decide (2 ≤ evSev false e) || evOwn e) = true := by rw [decide_eq_true hsev, Bool.true_or]
  simp only [raise, recRaise, hfree, Bool.true_eq_false, false_and, if_false, if_true]
  exact enter_seq ..

/-- Settles O53: a raise takes SEQ before the record goes to its queue, and the queue's admission makes room as R436 orders. -/
theorem recordsGetTheNextSeq : Obligations.RecordsGetTheNextSeq := by
  refine ⟨raise_eq, faultCls_eq, faultEnd_eq, fun s e args hsev => ?_, fun b => ⟨?_, ?_, stbSeq_below_mark⟩,
    fun _ _ _ b hq => stbAdmit_length_le b hq, fun _ _ _ b hroom => stbAdmit_of_room b hroom,
    fun _ _ _ b hfull hev habove => stbAdmit_drops b hfull hev habove,
    fun _ _ _ _ _ b hfull hev habove hx => stbAdmit_replaces b hfull hev habove hx⟩
  · rw [raise_seq args hsev, stbSeq_seq]
  · rw [stbSeq_seq]
    split <;> omega
  · rw [stbSeq_seq]
    split <;> omega

end Sys2Proof.Proofs
end

section
/-!
PROOFS. The Register Access Protocol: roles (R390, R403), what a READ and a WRITE of a register are checked for and leave (R478, R479), requests,
block objects and relays (R480 to R485), and that no command ends a run but beyond the ratings (R494).
-/

open Sys2Proof Sys2Proof.Machine Sys2Proof.Laws

namespace Sys2Proof.Proofs

/-! ### Roles (R390, R403) -/

theorem sessMay_of_other_role {r : Role} (s : State) (who : Nat) (a : Act) (hr : r ≠ .contractor) : sessMay s who a r = mayAct a r := by
  rw [sessMay, bne_iff_ne.2 hr, Bool.true_or, Bool.and_true]

theorem sessMay_contractor_ended {s : State} {who : Nat} (a : Act) (hended : leaseLive s who = false) : sessMay s who a .contractor = false := by
  rw [sessMay, hended, Bool.or_false]
  exact Bool.and_false _

/-- Settles O47: the table of R390 is finite, and a contractor's lease is asked for besides. -/
theorem rolesOfActions : Obligations.RolesOfActions := by
  refine ⟨fun r => ?_, fun s who a hended => sessMay_contractor_ended a hended, fun s who a r hr => sessMay_of_other_role s who a hr⟩
  cases r <;> decide

/-! ### What a read leaves as it was (R479) -/

/-- A look at the pulses of a channel leaves every field but the registers and the waveforms as it was. -/
theorem waveFold_keeps {α : Type} {p : State → α} {n : Nat} {s : State} (hstat : ∀ t f, p (fsetb t (R.PWM_CH_STAT n) f true) = p t)
    (hsat : n < 96 → ∀ t f, p (fsetb t (R.LSW_CH_STAT n) f true) = p t) (hwav : ∀ t w, p (setWav n w t) = p t) : p (waveFold n s) = p s := by
  unfold waveFold
  dsimp only
  split
  · rfl
  · rw [hwav]
    by_cases hn : n < 96
    · refine (whenB_keeps (p := p) ?_ _).trans ((whenB_keeps (p := p) ?_ _).trans (whenB_keeps (p := p) ?_ _))
      exacts [hsat hn _ _, hstat _ _, hstat _ _]
    · rw [decide_eq_false hn, Bool.false_and]
      refine (congrArg p (if_neg Bool.false_ne_true)).trans ((whenB_keeps (p := p) ?_ _).trans (whenB_keeps (p := p) ?_ _))
      exacts [hstat _ _, hstat _ _]

theorem ixOf_lt {base stride count a n : Nat} (h : ixOf base stride count a = some n) : n < count := by
  unfold ixOf at h
  split at h
  · next hin =>
    cases h
    exact hin.2.2
  · cases h

/-- What a read does besides: a challenge of its own block, the pulses of a channel, or nothing. -/
theorem readEffect_keeps {α : Type} {p : State → α} {s : State} (a : Nat)
    (hstb : ∀ v c, p (rsetN (freeNext { s with stb := { s.stb with chal := c } }) R.STB_CHAL v) = p s) (hbrd : p (newChal s) = p s)
    (hpwm : ∀ n < 104, ∀ t f, p (fsetb t (R.PWM_CH_STAT n) f true) = p t) (hlsw : ∀ n < 96, ∀ t f, p (fsetb t (R.LSW_CH_STAT n) f true) = p t)
    (hwav : ∀ n t w, p (setWav n w t) = p t) : p (readEffect a s) = p s := by
  have hfold : ∀ n < 104, p (waveFold n s) = p s := fun n hn => waveFold_keeps (hpwm n hn) (hlsw n) (hwav n)
  unfold readEffect
  split
  · exact hstb ..
  · split
    · exact hbrd
    · split
      · next hn => exact hfold _ (ixOf_lt hn)
      · next hn => exact hfold _ (Nat.lt_trans (ixOf_lt hn) (by decide))
      · rfl

theorem readEffect_rap (a : Nat) (s : State) : (readEffect a s).rap = s.rap :=
  readEffect_keeps (p := State.rap) a (fun _ _ => rfl) rfl (fun _ _ _ _ => fsetb_rap ..) (fun _ _ _ _ => fsetb_rap ..) (fun _ _ _ => setWav_rap ..)

/-- A register that a read may change by itself: a channel's status, or a challenge. -/
def readOwn (x : Nat) : Prop := x / 0x10000 = 0x15 ∨ x / 0x10000 = 0x16 ∨ x / 0x10000 = 0x1B ∨ x / 0x10000 = 0x1D

theorem rget_readEffect {x : Nat} (a : Nat) (s : State) (hx : ¬readOwn x) : rget (readEffect a s) x = rget s x := by
  simp only [readOwn, not_or] at hx
  obtain ⟨hpwm, hlsw, hbrd, hstb⟩ := hx
  refine readEffect_keeps (p := fun t => rget t x) a (fun _ _ => ?_) ?_ (fun n hn _ _ => ?_) (fun n hn _ _ => ?_) (fun _ _ _ => rfl)
  · exact rget_rset_ne (by rintro rfl; exact hstb rfl)
  · exact rget_rset_ne (by rintro rfl; exact hbrd rfl)
  · exact rget_fset_ne (by rintro rfl; exact hpwm (by rw [R.PWM_CH_STAT]; omega))
  · exact rget_fset_ne (by rintro rfl; exact hlsw (by rw [R.LSW_CH_STAT]; omega))

/-! ### Latches (R479) -/

theorem find?_smIns_ne {α : Type} {k k' : Nat} (h : k' ≠ k) (v : α) (m : List (Nat × α)) :
    (smIns k v m).find? (fun x => x.1 == k') = m.find? (fun x => x.1 == k') := by
  have hk : (k == k') = false := beq_false_of_ne h.symm
  induction m with
  | nil => simp only [smIns, List.find?_cons, hk]
  | cons x m ih =>
    obtain ⟨a, b⟩ := x
    unfold smIns
    split
    · simp only [List.find?_cons, hk]
    · split
      · next he => simp only [List.find?_cons, he, hk]
      · simp only [List.find?_cons, ih]

theorem mem_smIns_self {α : Type} (k : Nat) (v : α) (m : List (Nat × α)) : (k, v) ∈ smIns k v m := by
  induction m with
  | nil => exact List.mem_singleton_self _
  | cons x m ih =>
    obtain ⟨a, b⟩ := x
    unfold smIns
    split
    · exact List.mem_cons_self
    · split
      · exact List.mem_cons_self
      · exact List.mem_cons_of_mem _ ih

theorem latchKey_ne {k1 k2 a lo : Nat} (hk : k1 ≠ k2) (ha : a < 2 ^ 32) (hlo : lo < 2 ^ 32) : latchKey k2 lo ≠ latchKey k1 a := by
  unfold latchKey
  omega

/-- A read latches at most the HI value of its own requester and address. -/
theorem readReg_latch (key a : Nat) (s : State) :
    (readReg key a s).1.rap.latch = s.rap.latch ∨ ∃ v : Word, (readReg key a s).1.rap.latch = smIns (latchKey key a) v s.rap.latch := by
  have hrap := readEffect_rap a s
  unfold readReg
  dsimp only
  split
  · exact .inl rfl
  · split
    · exact .inr ⟨_, by rw [hrap]⟩
    · split
      · exact .inl (by rw [hrap])
      · exact .inl (by rw [hrap])

theorem listed_of_isLo {a : Nat} (hlo : isLo a = true) : (regDesc a).isSome = true := by
  unfold isLo at hlo
  split at hlo
  · next hd => rw [hd, Option.isSome_some]
  · cases hlo

/-- A read of LO latches HI for the requester. -/
theorem readReg_lo {a : Nat} (key : Nat) (s : State) (hlo : isLo a = true) :
    readReg key a s = ({ readEffect a s with rap := { (readEffect a s).rap with
      latch := smIns (latchKey key a) (viewReg (readEffect a s) (a + 4)) (readEffect a s).rap.latch } }, viewReg (readEffect a s) a) := by
  have hlisted := listed_of_isLo hlo
  rw [readReg, if_neg (by simp [Option.isNone_iff_eq_none, Option.isSome_iff_ne_none.1 hlisted]), if_pos hlo]

/-- Settles O55: keys of different requesters differ, and a read writes under its own key alone. -/
theorem latchesAreApart : Obligations.LatchesAreApart := by
  refine ⟨fun k1 k2 a lo s hk ha hlo => ?_, fun k a s hlo => ?_⟩
  · rcases readReg_latch k1 a s with h | ⟨v, h⟩
    · rw [h]
    · rw [h, find?_smIns_ne (latchKey_ne hk ha hlo)]
  · rw [readReg_lo k s hlo]
    exact ⟨rfl, mem_smIns_self ..⟩

/-! ### A request of an open session (R480 to R482) -/

theorem rqOf_back {s : State} {who : Nat} {q : Rq} (hq : rqOf s who = some q) : q.back = none ∧ q.key = who := by
  obtain ⟨r, -, rfl⟩ := Option.map_eq_some_iff.1 hq
  exact ⟨rfl, rfl⟩

theorem rqAnswer_session {s : State} {who : Nat} {q : Rq} (hq : rqOf s who = some q) (st : RapStatus) (data : List Int) (t : State) :
    rqAnswer q st data t = rapAnswer t who st data := by
  obtain ⟨hback, hkey⟩ := rqOf_back hq
  rw [rqAnswer, hback, hkey]

theorem rapRequest_local {s : State} {who : Nat} {q : Rq} (tag : Nat) (x : RapReq) (hpath : rapPath s = true) (hq : rqOf s who = some q) :
    rapRequest who none tag x s = rapHandle q x s := by
  rw [rapRequest, if_neg (by simp [hpath]), hq]

theorem rapRequest_no_session {s : State} {who : Nat} (peer : Option (Fin 64)) (tag : Nat) (x : RapReq) (hpath : rapPath s = true)
    (hq : rqOf s who = none) : rapRequest who peer tag x s = rapAnswer s who .noSession [] := by
  rw [rapRequest, if_neg (by simp [hpath]), hq]

/-! ### READ (R478, R481) -/

theorem rqAnswer_regs (q : Rq) (st : RapStatus) (data : List Int) (s : State) : (rqAnswer q st data s).regs = s.regs := by
  unfold rqAnswer
  split
  · exact rapAnswer_regs ..
  · rfl

theorem rget_readReg {x : Nat} (key a : Nat) (s : State) (hx : ¬readOwn x) : rget (readReg key a s).1 x = rget s x := by
  have heff := rget_readEffect a s hx
  unfold readReg
  dsimp only
  split_ifs
  · rfl
  · exact heff
  · exact heff
  · exact heff

theorem rget_readRegs {x : Nat} (q : Rq) (hx : ¬readOwn x) : ∀ (n a : Nat) (s : State), rget (readRegs q n a s).1 x = rget s x
  | 0, _, _ => rfl
  | n + 1, a, s => by
    rw [readRegs]
    split
    · rfl
    · split
      · rfl
      · exact (rget_readRegs q hx n (a + 4) _).trans (rget_readReg q.key a s hx)

theorem rget_rapRead {x : Nat} (q : Rq) (a n : Nat) (s : State) (hx : ¬readOwn x) : rget (rapRead q a n s) x = rget s x := by
  unfold rapRead
  split
  · rw [rget, rqAnswer_regs, rget]
  · rw [rget, rqAnswer_regs]
    exact rget_readRegs q hx n a s

/-- Settles O54: an answer's changes are those of `rapAnswer_eq`, and a READ changes a register only through its own effect. -/
theorem answersTouchNoRegister : Obligations.AnswersTouchNoRegister := by
  refine ⟨rapAnswer_eq, writeDenied_eq, fun who tag a n s t h x hpwm hlsw hbrd hstb => ?_⟩
  have hx : ¬readOwn x := by
    rintro (h | h | h | h) <;> contradiction
  rw [exec_rapRead, execRapRead] at h
  cases h
  cases hpath : rapPath s with
  | false => rw [rapRequest, if_pos hpath]
  | true =>
    cases hq : rqOf s who.val with
    | none => rw [rapRequest_no_session _ _ _ hpath hq, rget_rapAnswer]
    | some q =>
      rw [rapRequest_local _ _ hpath hq]
      exact rget_rapRead q a _ s hx

section
variable {who : Fin 36} {tag : Fin 256} {a : Nat} {s : State} {q : Rq} (hpath : rapPath s = true) (hq : rqOf s who.val = some q)
include hpath hq

theorem exec_rapRead_local {n : Fin 64} (hspan : spanOk a (n.val + 1) = true) :
    exec (.rapRead who none tag a n) s = .next (
      let r := readRegs q (n.val + 1) a s
      rapAnswer r.1 who.val r.2.1 ((r.2.2.length : Int) :: (r.2.2 ++ if r.2.1 = .domainOff then [0] else []))) := by
  rw [exec_rapRead, execRapRead, rapRequest_local _ _ hpath hq, rapHandle, rapRead, if_neg (by simp [hspan])]
  exact congrArg _ (rqAnswer_session hq ..)

theorem exec_rapRead_masked {n : Fin 64} (hspan : spanOk a (n.val + 1) = true) (hreads : rqReads s q a = false) :
    exec (.rapRead who none tag a n) s = .next (rapAnswer s who.val .masked [0]) := by
  rw [exec_rapRead_local hpath hq hspan, readRegs, if_pos hreads]
  rfl

theorem exec_rapRead_domain_off (hspan : spanOk a 1 = true) (hreads : rqReads s q a = true) (hoff : addrOn s a = false) :
    exec (.rapRead who none tag a 0) s = .next (rapAnswer s who.val .domainOff [0, 0]) := by
  rw [exec_rapRead_local (n := 0) hpath hq hspan, readRegs, if_neg (by simp [hreads]), if_pos hoff]
  rfl

/-- A READ of one register whose checks are passed answers its word. -/
theorem exec_rapRead_one (hspan : spanOk a 1 = true) (hreads : rqReads s q a = true) (hon : addrOn s a = true) :
    exec (.rapRead who none tag a 0) s =
      .next (rapAnswer (readReg who.val a s).1 who.val .ok [1, ((readReg who.val a s).2.toNat : Int)]) := by
  obtain ⟨-, hkey⟩ := rqOf_back hq
  rw [exec_rapRead_local (n := 0) hpath hq hspan, readRegs, if_neg (by simp [hreads]), if_neg (by simp [hon]), hkey]
  rfl

/-! ### WRITE (R478, R481) -/

theorem exec_rapWrite_one {w : Word} (hspan : spanOk a 1 = true) :
    exec (.rapWrite who none tag a [w]) s = .next (
      let r := writeRegs q [w] a s
      rapAnswer r.1 who.val r.2.1 [(r.2.2 : Int)]) := by
  rw [exec_rapWrite, execRapWrite, rapRequest_local _ _ hpath hq, rapHandle, rapWrite, if_neg (List.cons_ne_nil _ _),
    if_neg (by simp), if_neg (by simp [hspan])]
  exact congrArg _ (rqAnswer_session hq ..)

theorem exec_rapWrite_refused {w : Word} {st : RapStatus} (hspan : spanOk a 1 = true) (hcheck : writeCheck s q a w = some st) :
    exec (.rapWrite who none tag a [w]) s = .next (rapAnswer (if st = .denied then writeDenied s q.role a else s) who.val st [0]) := by
  rw [exec_rapWrite_one hpath hq hspan, writeRegs, hcheck]
  rfl

theorem exec_rapWrite_made {w : Word} {d : RegDesc} (hspan : spanOk a 1 = true) (hcheck : writeCheck s q a w = none)
    (hd : regDesc a = some d) : exec (.rapWrite who none tag a [w]) s = .next (rapAnswer (writeReg d a w s) who.val .ok [1]) := by
  rw [exec_rapWrite_one hpath hq hspan, writeRegs, hcheck, hd]
  rfl

theorem exec_rapWrite_denied {w : Word} (hspan : spanOk a 1 = true) (hmay : rqMay s q (writeAct s a w) = false) :
    exec (.rapWrite who none tag a [w]) s = .next (rapAnswer (writeDenied s q.role a) who.val .denied [0]) :=
  exec_rapWrite_refused hpath hq hspan (st := .denied) (if_pos hmay)

end

section
variable {s : State} {q : Rq} {a : Nat} {w : Word}

theorem readReg_unlisted (key : Nat) (hd : regDesc a = none) (hcat : inCat a = false) : readReg key a s = (s, 0) :=
  if_pos ⟨by rw [hd, Option.isNone_none], hcat⟩

section
variable (hmay : rqMay s q (writeAct s a w) = true)
include hmay

theorem writeCheck_of_domain_off (hoff : addrOn s a = false) : writeCheck s q a w = some .domainOff := by
  rw [writeCheck, if_neg (by simp [hmay]), if_pos hoff]

variable (hon : addrOn s a = true)
include hon

theorem writeCheck_of_unlisted (hd : regDesc a = none) : writeCheck s q a w = if inCat a then some .readOnly else some .noReg := by
  rw [writeCheck, if_neg (by simp [hmay]), if_neg (by simp [hon]), hd]

theorem writeCheck_of_listed {d : RegDesc} (hd : regDesc a = some d) :
    writeCheck s q a w =
      if d.rw = 0 ∧ d.rwa = 0 ∧ d.w1c = 0 ∧ d.wo = 0 then some .readOnly else if isWriter s a = false then some .notOwner else none := by
  rw [writeCheck, if_neg (by simp [hmay]), if_neg (by simp [hon]), hd]

end

end

/-- A bit of the word a write leaves, by the access kinds of the bit (R16). -/
theorem getLsbD_written (d : RegDesc) (own : Nat) (old w : Word) {i : Nat} (hi : i < 32) :
    (written d own old w).getLsbD i =
      let takes := (d.rw.testBit i || d.rwa.testBit i) && !own.testBit i
      ((old.getLsbD i && !takes) || (w.getLsbD i && takes)) && !(w.getLsbD i && d.w1c.testBit i) := by
  simp only [written, BitVec.getLsbD_and, BitVec.getLsbD_or, BitVec.getLsbD_not, BitVec.getLsbD_ofNat, hi, decide_true, Bool.true_and,
    Nat.testBit_or]

/-- Settles O43: the checks of R478 in their order, and the bits of a word by their access kinds. -/
theorem registersAreCheckedInOrder : Obligations.RegistersAreCheckedInOrder := by
  refine ⟨fun who tag a s q hpath hq hspan => ⟨exec_rapRead_masked hpath hq hspan, exec_rapRead_domain_off hpath hq hspan, fun hreads hon hd hcat => ?_⟩,
    fun who tag a w s q hpath hq hspan => ⟨exec_rapWrite_denied hpath hq hspan, fun hmay => ⟨fun hoff => ?_, fun hon => ?_⟩⟩,
    fun d own old w i hi => ?_⟩
  · rw [exec_rapRead_one hpath hq hspan hreads hon, readReg_unlisted _ hd hcat]
    rfl
  · exact exec_rapWrite_refused hpath hq hspan (writeCheck_of_domain_off hmay hoff)
  · refine ⟨fun hd hcat => ?_, fun hd hcat => ?_, fun d hd => ⟨fun hrw hrwa hw1c hwo => ?_, fun hacc => ⟨fun hwriter => ?_, fun hwriter => ?_⟩⟩⟩
    · exact exec_rapWrite_refused hpath hq hspan ((writeCheck_of_unlisted hmay hon hd).trans (if_neg (by simp [hcat])))
    · exact exec_rapWrite_refused hpath hq hspan ((writeCheck_of_unlisted hmay hon hd).trans (if_pos hcat))
    · exact exec_rapWrite_refused hpath hq hspan ((writeCheck_of_listed hmay hon hd).trans (if_pos ⟨hrw, hrwa, hw1c, hwo⟩))
    · exact exec_rapWrite_refused hpath hq hspan ((writeCheck_of_listed hmay hon hd).trans ((if_neg hacc).trans (if_pos hwriter)))
    · exact exec_rapWrite_made hpath hq hspan ((writeCheck_of_listed hmay hon hd).trans ((if_neg hacc).trans (if_neg (by simp [hwriter])))) hd
  · refine ⟨fun hrw hrwa hw1c => ?_, fun hrw hw1c hown => ?_, fun hrw hrwa hw1c => ?_⟩
    · simp [getLsbD_written _ _ _ _ hi, hrw, hrwa, hw1c]
    · simp [getLsbD_written _ _ _ _ hi, hrw, hw1c, hown]
    · simp [getLsbD_written _ _ _ _ hi, hrw, hrwa, hw1c]

/-! ### Requests, block objects and relays (R480 to R485) -/

theorem readReg_plain {key a : Nat} {s : State} (hquiet : readEffect a s = s) (hlisted : (regDesc a).isSome = true) (hlo : isLo a = false)
    (hhi : isHi a = false) : readReg key a s = (s, viewReg s a) := by
  rw [readReg, if_neg (by simp [Option.isNone_iff_eq_none, Option.isSome_iff_ne_none.1 hlisted]), if_neg (by simp [hlo]), if_neg (by simp [hhi]), hquiet]

theorem exec_rapRead_plain {who : Fin 36} {tag : Fin 256} {a : Nat} {s : State} {q : Rq} (hpath : rapPath s = true) (hq : rqOf s who.val = some q)
    (hspan : spanOk a 1 = true) (hreads : rqReads s q a = true) (hon : addrOn s a = true) (hquiet : readEffect a s = s)
    (hlisted : (regDesc a).isSome = true) (hlo : isLo a = false) (hhi : isHi a = false) :
    exec (.rapRead who none tag a 0) s = .next (rapAnswer s who.val .ok [1, ((viewReg s a).toNat : Int)]) := by
  rw [exec_rapRead_one hpath hq hspan hreads hon, readReg_plain hquiet hlisted hlo hhi]

theorem exec_readLoLatch_lo {who : Fin 36} {a : Nat} {s : State} {q : Rq} (hpath : rapPath s = true) (hq : rqOf s who.val = some q)
    (hspan : spanOk a 1 = true) (hreads : rqReads s q a = true) (hon : addrOn s a = true) (hquiet : readEffect a s = s) (hlo : isLo a = true) :
    exec (.readLoLatch who a) s = .next (rapAnswer { s with rap := { s.rap with
      latch := smIns (latchKey who.val a) (viewReg s (a + 4)) s.rap.latch } } who.val .ok [1, ((viewReg s a).toNat : Int)]) := by
  have hread := exec_rapRead_one (tag := 0) hpath hq hspan hreads hon
  rw [readReg_lo _ s hlo, hquiet] at hread
  rw [exec_readLoLatch, execReadLoLatch, if_pos hlo]
  exact hread

theorem writeReg_plain {a : Nat} {w : Word} {s : State} {d : RegDesc} (hquiet : readEffect a s = s) (hstb : a ≠ R.STB_STATUS)
    (hloop : ixOf (R.CTL_LOOP_SP 0) 64 64 a = none) : writeReg d a w s = rset s a (written d (ownBits a) (rget s a) w) := by
  rw [writeReg, hquiet, hloop]
  simp only [hstb, false_and, if_false]

theorem exec_rapRead_no_member {who : Fin 36} {m : Fin 64} {tag : Fin 256} {a : Nat} {n : Fin 64} {s : State} {q : Rq} (hpath : rapPath s = true)
    (hq : rqOf s who.val = some q) (hother : m.val ≠ midOf s) (hmem : m.val ∉ s.team.members) :
    exec (.rapRead who (some m) tag a n) s = .next (rapAnswer s who.val .noMember []) := by
  rw [exec_rapRead, execRapRead, rapRequest, if_neg (by simp [hpath]), hq]
  simp only [hother, hmem, not_false_eq_true, if_false, if_true]

theorem exec_rapRead_ninth_relay {who : Fin 36} {m : Fin 64} {tag : Fin 256} {a : Nat} {n : Fin 64} {s : State} {q : Rq} (hpath : rapPath s = true)
    (hq : rqOf s who.val = some q) (hother : m.val ≠ midOf s) (hmem : m.val ∈ s.team.members)
    (hmany : 8 ≤ (s.rap.relays.filter (fun r => r.who == who.val)).length) :
    exec (.rapRead who (some m) tag a n) s = .next (rapAnswer s who.val .busy []) := by
  rw [exec_rapRead, execRapRead, rapRequest, if_neg (by simp [hpath]), hq]
  simp only [hother, hmem, hmany, not_true_eq_false, if_false, if_true]

theorem exec_rapRead_relayed {who : Fin 36} {m : Fin 64} {tag : Fin 256} {a : Nat} {n : Fin 64} {s : State} {q : Rq} {x : Sess}
    (hpath : rapPath s = true) (hq : rqOf s who.val = some q) (hother : m.val ≠ midOf s) (hmem : m.val ∈ s.team.members)
    (hfew : (s.rap.relays.filter (fun r => r.who == who.val)).length < 8) (hsess : sessOf s who.val = some x) (htls : who.val < 4) :
    exec (.rapRead who (some m) tag a n) s = .next (
      let t := setSess who.val { x with lastAt := s.tb } { s with pwr := { s.pwr with stayFrom := s.tb } }
      send { t with rap := { t.rap with relays := t.rap.relays ++ [⟨who.val, tag.val, m.val, s.tb⟩] } } MsgKind.RELAY_REQUEST m.val
        [(who.val : Int), (tag.val : Int), (roleCode q.role : Int)]) := by
  rw [exec_rapRead, execRapRead, rapRequest, if_neg (by simp [hpath]), hq]
  simp only [hother, hmem, Nat.not_le.2 hfew, hsess, htls, not_true_eq_false, if_false, if_true]
  rfl

/-- The command object opens for writing as the first handle. -/
theorem blkOpen_command_object {q : Rq} {p : Nat} {s : State} (n : Nat) (hmay : objMay s q 0x50 p = true) (hon : domOn s 1 = true)
    (hnone : s.rap.handles = []) :
    blkOpen q 0x50 true p n s =
      rqAnswer q .ok [0, (n : Int)] { s with rap := { s.rap with handles := [(0, ⟨0x50, q.key, true, p, n, []⟩)] } } := by
  have hdom : domOn s (objDom 0x50) = true := hon
  have hfirst : newHandle s = 0 := by
    rw [newHandle, hnone]
    rfl
  have hfree : ¬((s.rap.handles.any (fun x => x.2.obj == 0x50)) ∨ 4 ≤ (s.rap.handles.filter (fun x => x.2.who == q.key)).length ∨
      objBusy s 0x50) := by
    rw [hnone]
    rintro (h | h | h) <;> cases h
  rw [blkOpen, if_neg Bool.noConfusion, if_neg (by simp [hmay]), if_neg (by simp [hdom]), if_neg hfree]
  change rqAnswer q .ok [(newHandle s : Int), (n : Int)] { s with rap := { s.rap with
    handles := smIns (newHandle s) ⟨0x50, q.key, true, p, n, []⟩ s.rap.handles } } = _
  rw [hfirst, hnone]
  rfl

theorem exec_blkOpen_command_object {who : Fin 36} {tag : Fin 256} {p n : Nat} {s : State} {q : Rq} (hpath : rapPath s = true)
    (hq : rqOf s who.val = some q) (hmay : objMay s q 0x50 p = true) (hon : domOn s 1 = true) (hnone : s.rap.handles = []) :
    exec (.blkOpen who none tag 0x50 true p n) s = .next (rapAnswer { s with rap := { s.rap with
      handles := [(0, ⟨0x50, who.val, true, p, n, []⟩)] } } who.val .ok [0, (n : Int)]) := by
  obtain ⟨-, hkey⟩ := rqOf_back hq
  rw [exec_blkOpen, execBlkOpen, rapRequest_local _ _ hpath hq]
  exact congrArg _ ((blkOpen_command_object n hmay hon hnone).trans ((rqAnswer_session hq ..).trans (by rw [hkey])))

theorem exec_blkData_one_byte {who : Fin 36} {tag h : Fin 256} {b : Byte} {s : State} {q : Rq} {x : Handle} (hpath : rapPath s = true)
    (hq : rqOf s who.val = some q) (hh : handleOf s q h.val = some x) (hwrite : x.write = true) (hlen : 1 ≤ x.len)
    (hon : domOn s (objDom x.obj) = true) :
    exec (.blkData who none tag h 0 0 [b]) s = .next (rapAnswer { s with rap := { s.rap with
      handles := smIns h.val { x with data := smSet zero 0 b.toNat x.data } s.rap.handles } } who.val .ok [1]) := by
  rw [exec_blkData, execBlkData, rapRequest_local _ _ hpath hq, rapHandle, blkData, hh]
  refine congrArg _ ((if_neg (Nat.not_lt.2 hlen)).trans ((if_neg (by simp [hon])).trans ((if_pos hwrite).trans ?_)))
  exact rqAnswer_session hq ..

theorem exec_blkClose_command_object {who : Fin 36} {tag h : Fin 256} {o : BrdObj} {s : State} {q : Rq} {x : Handle} (hpath : rapPath s = true)
    (hq : rqOf s who.val = some q) (hh : handleOf s q h.val = some x) (hwrite : x.write = true) (hobj : x.obj = 0x50) (hon : domOn s 1 = true) :
    exec (.blkClose who none tag h (.object o)) s = .next (rapAnswer { s with
      rap := { s.rap with handles := smDel h.val s.rap.handles }, brd := { s.brd with object := some o } } who.val .ok []) := by
  have hdom : domOn s (objDom x.obj) = true := by rw [hobj]; exact hon
  rw [exec_blkClose, execBlkClose, rapRequest_local _ _ hpath hq, rapHandle, blkClose, hh]
  refine congrArg _ ((if_neg (by simp [hwrite])).trans ((if_neg (by simp [hdom])).trans ?_))
  simp only [blkTake, hobj, if_true]
  exact rqAnswer_session hq ..

theorem exec_rapRelayRequest_of_member {m : Fin 64} {k : Fin 36} {tag : Fin 256} {r : Role} {l : Option (Fin 8)} {x : RapReq} {s : State}
    (hmem : m.val ∈ otherMembers s) (hcore : domOn s 1 = true) (hlink : domOn s 6 = true) :
    exec (.rapRelayRequest m k tag r l x) s =
      .next (rapHandle ⟨r, l.map (·.val), 64 + m.val, some (m.val, k.val, tag.val), isData x⟩ x s) := by
  rw [exec_rapRelayRequest, execRapRelayRequest, if_pos ⟨hmem, hcore, hlink⟩]

theorem exec_rapRelayResponse_awaited {m : Fin 64} {who : Fin 36} {tag : Fin 256} {st : RapStatus} {l : List Int} {s : State} {r : Relay}
    (hrelay : relayOf s who.val tag.val = some r) (hmid : r.mid = m.val) :
    exec (.rapRelayResponse m who tag st l) s = .next (rapAnswer { s with rap := { s.rap with
      relays := removeFirst (fun r => r.who == who.val && r.tag == tag.val) s.rap.relays } } who.val st l) := by
  rw [exec_rapRelayResponse, execRapRelayResponse, hrelay]
  exact congrArg _ (if_pos hmid)

theorem exec_relayTimeout_due {who : Fin 36} {tag : Fin 256} {s : State} {r : Relay} (hrelay : relayOf s who.val tag.val = some r)
    (hdue : r.at_ + secTicks ≤ s.tb) :
    exec (.relayTimeout who tag) s = .next (rapAnswer { s with rap := { s.rap with
      relays := removeFirst (fun r => r.who == who.val && r.tag == tag.val) s.rap.relays } } who.val .relayTimeout []) := by
  rw [exec_relayTimeout, execRelayTimeout, hrelay]
  exact congrArg _ (if_pos hdue)

/-- Settles O38, one command after another: under the conditions of a clause the command's guards are met. -/
theorem rapCommandsComplete : Obligations.RapCommandsComplete :=
  ⟨fun _ _ _ _ _ => exec_rapRead_plain, fun _ _ _ _ _ _ hpath hq hspan hreads => exec_rapRead_masked hpath hq hspan hreads,
    fun _ _ _ _ hpath hq hspan hreads hon hquiet _ hlo => exec_readLoLatch_lo hpath hq hspan hreads hon hquiet hlo,
    fun _ _ _ _ _ _ _ hpath hq hspan hcheck hd => exec_rapWrite_made hpath hq hspan hcheck hd, fun _ _ _ _ => writeReg_plain,
    fun _ _ _ _ _ _ hpath hq hspan hmay => exec_rapWrite_denied hpath hq hspan hmay,
    fun _ p tag _ _ _ hpath hq => congrArg _ (rapRequest_no_session p tag.val _ hpath hq), fun _ _ _ _ _ _ _ => exec_rapRead_no_member,
    fun _ _ _ _ _ _ _ => exec_rapRead_ninth_relay, fun _ _ _ _ _ _ _ _ => exec_rapRead_relayed, fun _ _ _ _ _ _ => exec_blkOpen_command_object,
    fun _ _ _ _ _ _ _ => exec_blkData_one_byte, fun _ _ _ _ _ _ _ => exec_blkClose_command_object,
    fun _ _ _ _ _ _ _ => exec_rapRelayRequest_of_member, fun _ _ _ _ _ _ _ => exec_rapRelayResponse_awaited,
    fun _ _ _ _ => exec_relayTimeout_due⟩

/-! ### What ends a run (R494) -/

/-- A supply of more than 58.0 V. -/
def beyond : Instr → Prop
  | .powerUp b => 580 < b.vlog.toNat
  | .vlogOvervoltage v => 580 < v.toNat
  | _ => False

/-- A command answers a next state, or its supply is beyond the ratings. -/
theorem exec_next_or_beyond (c : Instr) (s : State) : (∃ t : State, exec c s = .next t) ∨ (exec c s = .fault .beyondRatings ∧ beyond c) := by
  cases c with
  | powerUp b =>
    rw [exec_powerUp, execPowerUp]
    dsimp only
    split
    · exact .inl ⟨_, rfl⟩
    · split
      · next hbeyond => exact .inr ⟨rfl, hbeyond⟩
      · split_ifs <;> exact .inl ⟨_, rfl⟩
  | vlogOvervoltage v =>
    rw [exec_vlogOvervoltage, execVlogOvervoltage]
    dsimp only
    split
    · next hbeyond => exact .inr ⟨rfl, hbeyond⟩
    · exact .inl ⟨_, rfl⟩
  | _ => exact .inl ⟨_, rfl⟩

/-- Settles O42, from what a command can answer. -/
theorem onlyRatingsEndARun : Obligations.OnlyRatingsEndARun := by
  refine ⟨fun c s r h => ?_, fun c s f h => ?_, fun s hpow hov => ?_⟩
  · rcases exec_next_or_beyond c s with ⟨t, ht⟩ | ⟨hf, -⟩
    · rw [ht] at h
      cases h
    · rw [hf] at h
      cases h
  · rcases exec_next_or_beyond c s with ⟨t, ht⟩ | ⟨hf, hbeyond⟩
    · rw [ht] at h
      cases h
    · rw [hf] at h
      cases h
      refine ⟨rfl, ?_⟩
      unfold beyond at hbeyond
      split at hbeyond
      · exact .inl ⟨_, rfl, hbeyond⟩
      · exact .inr ⟨_, rfl, hbeyond⟩
      · exact hbeyond.elim
  · cases hq : s.pending with
    | nil => exact ⟨_, step_of_pending_nil hq⟩
    | cons c q =>
      rw [step_of_pending_cons hq]
      rcases exec_next_or_beyond c { s with pending := q } with h | ⟨-, hbeyond⟩
      · exact h
      · rw [hq, List.head?_cons] at hpow hov
        unfold beyond at hbeyond
        split at hbeyond
        · exact absurd (hpow _ rfl) (Nat.not_le.2 hbeyond)
        · exact absurd (hov _ rfl) (Nat.not_le.2 hbeyond)
        · exact hbeyond.elim

end Sys2Proof.Proofs
end

section
/-!
PROOFS. Load channels: samples, shorts, retries, temperature, the clamp account and clears (R256 to R261), feeds, half-bridges, stuck segments
and halter mode (R255, R257, R262, R264, R269 to R271).
-/

open Sys2Proof Sys2Proof.Machine Sys2Proof.Laws

namespace Sys2Proof.Proofs

/-! ### Current samples (R256, R259, R262) -/

theorem exec_currentSample_unqualified {ch : Fin 96} {v : BitVec 12} {g : SegCur} {p : BitVec 12} {mv : Nat} {s : State} (hon : domOn s 10 = true)
    (hslot : s.tb % 50000 = 6250 * (ch.val % 8)) (hadc : ch.val / 8 ∉ s.far.adcFail) (hqual : qualifies s ch.val = false)
    (hwired : fbit s (R.LSW_CH_CFG1 ch.val) F.LSW_CH_CFG1_PAIR_WIRED = false) :
    exec (.currentSample ch v g p mv) s = .next (staged (fun x => sumCurrents ch.val (loadAdd (ch.val / 16) v.toNat
      (fset (feedVolt (ch.val / 16) mv x) (R.LSW_CH_CUR ch.val) F.LSW_CH_CUR_CUR v.toNat))) s) := by
  rw [exec_currentSample, execCurrentSample]
  simp only [hon, hslot, hadc, Bool.true_eq_false, ne_eq, not_true_eq_false, or_self, if_false]
  refine congrArg _ (staged_congr ?_)
  simp only [hwired, hqual, Bool.false_eq_true, false_and, if_false, if_true]

theorem exec_currentSample_tells_partner {ch : Fin 96} {v : BitVec 12} {g : SegCur} {p : BitVec 12} {mv : Nat} {s : State} (hon : domOn s 10 = true)
    (hslot : s.tb % 50000 = 6250 * (ch.val % 8)) (hadc : ch.val / 8 ∉ s.far.adcFail) (hqual : qualifies s ch.val = false)
    (hwired : fbit s (R.LSW_CH_CFG1 ch.val) F.LSW_CH_CFG1_PAIR_WIRED = true) (hout : outEnt s ch.val = none) (hpair : s.pwr.paired = true) :
    exec (.currentSample ch v g p mv) s = .next (staged (fun x => sumCurrents ch.val (loadAdd (ch.val / 16) v.toNat
      (fset (feedVolt (ch.val / 16) mv (send x MsgKind.PL_READING (midOf x ^^^ 1) [(ch.val : Int), (v.toNat : Int), (x.tb : Int)]))
        (R.LSW_CH_CUR ch.val) F.LSW_CH_CUR_CUR v.toNat))) s) := by
  rw [exec_currentSample, execCurrentSample]
  simp only [hon, hslot, hadc, Bool.true_eq_false, ne_eq, not_true_eq_false, or_self, if_false]
  refine congrArg _ (staged_congr ?_)
  simp only [hwired, hqual, hout, hpair, Option.isSome_none, Bool.false_eq_true, and_false, and_self, if_false, if_true]

theorem exec_olUnknown_due {ch : Fin 96} {s : State} (hon : domOn s 10 = true) (hthr : fget s (R.LSW_CH_CFG1 ch.val) F.LSW_CH_CFG1_OL_THR ≠ 0)
    (hst : (swOf s ch.val).st ≠ 0) (hdue : max (lch s ch.val).qualAt (lch s ch.val).driveAt + msTicks 100 ≤ s.tb) :
    exec (.olUnknown ch) s = .next (fsetb s (R.LSW_CH_STAT ch.val) F.LSW_CH_STAT_OL_UNKNOWN true) := by
  rw [exec_olUnknown, execOlUnknown, if_neg (by simp [hon, hthr, hst, Nat.not_lt.2 hdue])]

/-! ### Shorts and retries (R257, R258) -/

theorem exec_shortTrip_powered {ch : Fin 96} {s : State} (hao : domPow s 0 = true) (hprot : protOff s ch.val = false) (hon : domPow s 10 = true) :
    exec (.shortTrip ch) s = .next (staged (chTrip ch.val true) s) := by
  rw [exec_shortTrip, execShortTrip, if_neg (by simp [hao, hprot])]
  exact congrArg _ (staged_congr (if_pos hon))

theorem exec_shortTrip_latches {ch : Fin 96} {s : State} (hao : domPow s 0 = true) (hprot : protOff s ch.val = false) (hoff : domPow s 10 = false) :
    exec (.shortTrip ch) s = .next (staged (fun x => tripLatch ch.val true (fault (fincSat x (R.LSW_CH_CNT ch.val) F.LSW_CH_CNT_SHORTS)
      Ev.SHORT_TRIP [(ch.val : Int), (x.tb : Int)])) s) := by
  rw [exec_shortTrip, execShortTrip, if_neg (by simp [hao, hprot])]
  exact congrArg _ (staged_congr (if_neg (by simp [hoff])))

/-- A retry at its tick is made, or held while its feed is low. -/
theorem exec_retry_due {ch : Fin 96} {t : Nat} {s : State} (hdue : (lch s ch.val).due = some t) (ht : t ≤ s.tb)
    (hretry : chBit s ch.val F.LSW_CH_STAT_RETRYING = true) (hon : domOn s 10 = true) (hwarn : clusterWarn s ch.val = false) :
    exec (.retry ch) s = .next (if chBit s ch.val F.LSW_CH_STAT_FEED_UV then setLch ch.val (fun c => { c with due := none, held := true }) s
      else staged (retryMake ch.val) s) := by
  rw [exec_retry, execRetry]
  simp only [hdue, Nat.not_lt.2 ht, hretry, hon, hwarn, Bool.true_eq_false, Bool.false_eq_true, or_self, if_false]

theorem exec_retry_made {ch : Fin 96} {t : Nat} {s : State} (hdue : (lch s ch.val).due = some t) (ht : t ≤ s.tb)
    (hretry : chBit s ch.val F.LSW_CH_STAT_RETRYING = true) (hon : domOn s 10 = true) (hwarn : clusterWarn s ch.val = false)
    (huv : chBit s ch.val F.LSW_CH_STAT_FEED_UV = false) : exec (.retry ch) s = .next (staged (retryMake ch.val) s) := by
  rw [exec_retry_due hdue ht hretry hon hwarn, if_neg (by simp [huv])]

theorem exec_retry_held {ch : Fin 96} {t : Nat} {s : State} (hdue : (lch s ch.val).due = some t) (ht : t ≤ s.tb)
    (hretry : chBit s ch.val F.LSW_CH_STAT_RETRYING = true) (hon : domOn s 10 = true) (hwarn : clusterWarn s ch.val = false)
    (huv : chBit s ch.val F.LSW_CH_STAT_FEED_UV = true) :
    exec (.retry ch) s = .next (setLch ch.val (fun c => { c with due := none, held := true }) s) := by
  rw [exec_retry_due hdue ht hretry hon hwarn, if_pos huv]

theorem exec_retryWindowEnd_due {ch : Fin 96} {t : Nat} {s : State} (hend : (lch s ch.val).winEnd = some t) (ht : t ≤ s.tb) :
    exec (.retryWindowEnd ch) s = .next (setLch ch.val windowEnd s) := by
  rw [exec_retryWindowEnd, execRetryWindowEnd, windowPast, hend]
  exact congrArg _ (if_pos ht)

/-! ### Temperature (R260) -/

theorem exec_thermalOff_below_eight {ch : Fin 96} {s : State} (hao : domOn s 0 = true) (hcold : chBit s ch.val F.LSW_CH_STAT_THERMAL = false)
    (hfew : ((lch s ch.val).therm.filter (fun t => decide (s.tb < t + 10 * secTicks))).length < 7) :
    exec (.thermalOff ch) s = .next (settle s (fault (setLch ch.val (fun c => { c with
      therm := s.tb :: (lch s ch.val).therm.filter (fun t => decide (s.tb < t + 10 * secTicks)) })
      (fsetb s (R.LSW_CH_STAT ch.val) F.LSW_CH_STAT_THERMAL true)) Ev.THERMAL_OFF [(ch.val : Int), (s.tb : Int)])) := by
  have hshort : (s.tb :: (lch s ch.val).therm.filter (fun t => decide (s.tb < t + 10 * secTicks))).length < 8 := Nat.succ_lt_succ hfew
  rw [exec_thermalOff, execThermalOff, if_neg (by simp [hao, hcold]), staged]
  exact congrArg _ (congrArg _ (if_pos (.inl hshort)))

theorem exec_thermalOn_hot {ch : Fin 96} {s : State} (hhot : chBit s ch.val F.LSW_CH_STAT_THERMAL = true) :
    exec (.thermalOn ch) s = .next (staged (fun x => faultEnd (fsetb x (R.LSW_CH_STAT ch.val) F.LSW_CH_STAT_THERMAL false) Ev.THERMAL_OFF
      [(ch.val : Int), (x.tb : Int)]) s) := by
  rw [exec_thermalOn, execThermalOn, if_neg (by simp [hhot])]

theorem exec_clusterWarn_hot {c : Fin 12} {t : BitVec 9} {s : State} (hon : domOn s 10 = true) (hhot : 140 ≤ t.toInt) :
    exec (.clusterWarn c t) s = .next (forEach (clusterChans c.val) retrySync (fsetb (fset s (R.LSW_CLUSTER c.val) F.LSW_CLUSTER_TEMP
      t.toNat) (R.LSW_CLUSTER c.val) F.LSW_CLUSTER_WARN true)) := by
  rw [exec_clusterWarn, execClusterWarn, if_neg (by simp [hon, Int.not_lt.2 hhot])]

theorem exec_clusterWarnClear_cool {c : Fin 12} {t : BitVec 9} {s : State} (hon : domOn s 10 = true) (hcool : t.toInt < 137) :
    exec (.clusterWarnClear c t) s = .next (forEach (clusterChans c.val) retrySync (fsetb (fset s (R.LSW_CLUSTER c.val) F.LSW_CLUSTER_TEMP
      t.toNat) (R.LSW_CLUSTER c.val) F.LSW_CLUSTER_WARN false)) := by
  rw [exec_clusterWarnClear, execClusterWarnClear, if_neg (by simp [hon, Int.not_le.2 hcool])]

/-! ### The clamp account and clears (R261) -/

theorem exec_clampEvent_locked {ch : Fin 96} {i0 tcl vf : Nat} {s : State} (hon : domOn s 10 = true)
    (hlock : chBit s ch.val F.LSW_CH_STAT_CLAMP_LOCK = true) :
    exec (.clampEvent ch i0 tcl vf) s = .next (staged (fun x =>
      let e := (vf + 38000) * i0 * tcl
      let b := x.tb / msTicks 10
      let l := (lch x ch.val).clamp.filter (fun y => decide (b < y.1 + 100))
      let t := setLch ch.val (fun c => { c with clamp := smSet zero b (smGet zero l b + e) l }) x
      fset (fset t (R.LSW_CH_CLAMP ch.val) F.LSW_CH_CLAMP_LAST_E (min 0xFFFF (divOpen e clampUnit).toNat)) (R.LSW_CH_CLAMP ch.val)
        F.LSW_CH_CLAMP_WIN_SUM (min 0xFFFF (divOpen (clampSum t ch.val) clampUnit).toNat)) s) := by
  rw [exec_clampEvent, execClampEvent, if_neg (by simp [hon])]
  exact congrArg _ (staged_congr (if_neg (by simp [hlock])))

theorem exec_channelClear_gone {who : Fin 36} {ch : Fin 96} {s : State} (hmay : rapMay s who.val .other 10 = true)
    (hgone : (latched s ch.val).all (fun x => causeGone s ch.val x.1) = true) :
    exec (.channelClear who ch) s = .next (rapAnswer (staged (latchClear ch.val) s) who.val .ok []) := by
  rw [exec_channelClear, execChannelClear, rapDo_allowed _ _ hmay, if_pos hgone]

theorem exec_channelClear_stands {who : Fin 36} {ch : Fin 96} {s : State} (hmay : rapMay s who.val .other 10 = true)
    (hstands : (latched s ch.val).all (fun x => causeGone s ch.val x.1) = false) :
    exec (.channelClear who ch) s = .next (rapAnswer (staged (latchClear ch.val) (fincSat s (R.LSW_CH_CNT ch.val)
      F.LSW_CH_CNT_CLEAR_REFUSED)) who.val .ok []) := by
  rw [exec_channelClear, execChannelClear, rapDo_allowed _ _ hmay, if_neg (by simp [hstands])]

theorem exec_latchAutoClear_due {ch : Fin 96} {t : Nat} {s : State} (hsince : cmdOffSince s ch.val = some t) (hon : domOn s 10 = true)
    (hcfg : fbit s (R.LSW_CH_CFG1 ch.val) F.LSW_CH_CFG1_LATCH_CLR = true) (hdue : t + msTicks 100 ≤ s.tb) :
    exec (.latchAutoClear ch) s = .next (staged (latchClear ch.val) s) := by
  rw [exec_latchAutoClear, execLatchAutoClear]
  simp only [hsince, hon, hcfg, hdue, and_self, if_true]

/-- Settles O23, one command after another: under the conditions of a clause the command's guards are met. -/
theorem loadProtectionCommandsComplete : Obligations.LoadProtectionCommandsComplete :=
  ⟨fun _ _ _ _ _ _ => exec_currentSample_unqualified, fun _ _ _ _ _ _ => exec_currentSample_tells_partner, fun _ _ => exec_olUnknown_due,
    fun _ _ => exec_shortTrip_powered, fun _ _ => exec_shortTrip_latches, fun _ _ _ => exec_retry_made, fun _ _ _ => exec_retry_held,
    fun _ _ _ => exec_retryWindowEnd_due, fun _ _ => exec_thermalOff_below_eight, fun _ _ => exec_thermalOn_hot,
    fun _ _ _ => exec_clusterWarn_hot, fun _ _ _ => exec_clusterWarnClear_cool, fun _ _ _ _ _ => exec_clampEvent_locked,
    fun _ _ _ => exec_channelClear_gone, fun _ _ _ => exec_channelClear_stands, fun _ _ _ => exec_latchAutoClear_due⟩

/-! ### Feeds (R255, R262, R264) -/

theorem exec_feedUv_onset {f : Fin 6} {s : State} (hao : domOn s 0 = true) (huv : fbit s (R.LSW_FEED_STAT f.val) F.LSW_FEED_STAT_UV = false) :
    exec (.feedUv f) s = .next (staged (fun x =>
      let t := fincSat (fsetb { x with lsw := { x.lsw with second := smDel f.val x.lsw.second, uvAt := smSet zero f.val x.tb x.lsw.uvAt } }
        (R.LSW_FEED_STAT f.val) F.LSW_FEED_STAT_UV true) (R.LSW_FEED_CNT f.val) F.LSW_FEED_CNT_UV_EVENTS
      levelLost (fault (forEach (feedChans f.val) (fun n y => retrySync n (fsetb y (R.LSW_CH_STAT n) F.LSW_CH_STAT_FEED_UV true)) t)
        Ev.FEED_UV [(f.val : Int), (x.tb : Int)])) s) := by
  rw [exec_feedUv, execFeedUv, if_neg (by simp [hao, huv])]

theorem exec_feedRestart_due {f : Fin 6} {s : State} (hao : domOn s 0 = true) (huv : fbit s (R.LSW_FEED_STAT f.val) F.LSW_FEED_STAT_UV = true)
    (hdue : smGet zero s.lsw.uvAt f.val + msTicks (fget s (R.LSW_FEED_CFG f.val) F.LSW_FEED_CFG_RESTART_T) ≤ s.tb) :
    exec (.feedRestart f) s = .next (staged (fun x =>
      let t := faultEnd (fsetb x (R.LSW_FEED_STAT f.val) F.LSW_FEED_STAT_UV false) Ev.FEED_UV [(f.val : Int), (x.tb : Int)]
      clusterRestart (2 * f.val) { t with lsw := { t.lsw with second := smIns f.val (x.tb + msTicks 2) t.lsw.second } }) s) := by
  rw [exec_feedRestart, execFeedRestart, if_neg (by simp [hao, huv, Nat.not_lt.2 hdue])]

theorem exec_feedRestartSecond_due {f : Fin 6} {t : Nat} {s : State} (hsecond : s.lsw.second = [(f.val, t)]) (hdue : t ≤ s.tb) :
    exec (.feedRestartSecond f) s = .next (staged (fun x => clusterRestart (2 * f.val + 1)
      { x with lsw := { x.lsw with second := smDel f.val x.lsw.second } }) s) := by
  have hentry : smGet absent (s.lsw.second.map (fun x => (x.1, some x.2))) f.val = some t := by
    rw [hsecond]
    exact if_pos rfl
  rw [exec_feedRestartSecond, execFeedRestartSecond, hentry]
  exact congrArg _ (if_neg (Nat.not_lt.2 hdue))

theorem exec_feedOverload_begins {f : Fin 6} {s : State} (hon : domOn s 10 = true) (hover : 25000 * 8000 < loadSum s f.val * 5)
    (hclear : fbit s (R.LSW_FEED_STAT f.val) F.LSW_FEED_STAT_OVERLOAD = false) :
    exec (.feedOverload (some f)) s = .next (fault (fsetb s (R.LSW_FEED_STAT f.val) F.LSW_FEED_STAT_OVERLOAD true) Ev.FEED_OVERLOAD
      [(f.val : Int), divOpen (loadSum s f.val * 5) 8000]) := by
  rw [exec_feedOverload, execFeedOverload]
  simp only [hon, hover, hclear, decide_true, Bool.true_eq_false, Bool.false_eq_true, if_false, if_true]

theorem exec_feedOverload_ends {f : Fin 6} {s : State} (hon : domOn s 10 = true) (hunder : loadSum s f.val * 5 ≤ 25000 * 8000)
    (hset : fbit s (R.LSW_FEED_STAT f.val) F.LSW_FEED_STAT_OVERLOAD = true) :
    exec (.feedOverload (some f)) s = .next (faultEnd (fsetb s (R.LSW_FEED_STAT f.val) F.LSW_FEED_STAT_OVERLOAD false) Ev.FEED_OVERLOAD
      [(f.val : Int)]) := by
  rw [exec_feedOverload, execFeedOverload]
  simp only [hon, Nat.not_lt.2 hunder, hset, decide_false, Bool.true_eq_false, Bool.false_eq_true, if_false]

theorem exec_feedOverload_module_begins {s : State} (hon : domOn s 10 = true)
    (hover : 120000 * 8000 < (((List.range 6).map (loadSum s)).foldl (· + ·) 0) * 5) (hclear : fbit s R.LSW_TOTAL F.LSW_TOTAL_OVERLOAD = false) :
    exec (.feedOverload none) s = .next (fault (fsetb s R.LSW_TOTAL F.LSW_TOTAL_OVERLOAD true) Ev.MODULE_OVERLOAD
      [divOpen ((((List.range 6).map (loadSum s)).foldl (· + ·) 0 : Nat) * 5) 8000]) := by
  rw [exec_feedOverload, execFeedOverload]
  simp only [hon, hover, hclear, decide_true, Bool.true_eq_false, Bool.false_eq_true, if_false, if_true]

/-! ### Stuck segments (R257) -/

theorem exec_segmentStuckCheck_stuck {ch : Fin 96} {g : Fin 4} {s : State} (hon : domOn s 10 = true) (hoff : actualOn s ch.val = false)
    (hdue : farDue s 11 ch.val (msTicks 100) = true) (hnew : chBit (farStamp 11 ch.val s) ch.val F.LSW_CH_STAT_STUCK_ON = false) :
    exec (.segmentStuckCheck ch (some g)) s = .next (staged (fun x => fault (fsetb x (R.LSW_CH_STAT ch.val) F.LSW_CH_STAT_STUCK_ON true)
      Ev.STUCK_ON [(ch.val : Int), (g.val : Int)]) (farStamp 11 ch.val s)) := by
  rw [exec_segmentStuckCheck, execSegmentStuckCheck, if_neg (by simp [hon, hoff, hdue])]
  exact congrArg _ (if_neg (by simp [hnew]))

theorem exec_segmentStuckCheck_passed {ch : Fin 96} {s : State} (hon : domOn s 10 = true) (hoff : actualOn s ch.val = false)
    (hdue : farDue s 11 ch.val (msTicks 100) = true) : exec (.segmentStuckCheck ch none) s = .next (farStamp 11 ch.val s) := by
  rw [exec_segmentStuckCheck, execSegmentStuckCheck, if_neg (by simp [hon, hoff, hdue])]

/-! ### Half-bridge drivers (R264) -/

theorem exec_hbDesat_onset {m : Fin 4} {s : State} (hao : domOn s 0 = true) (hclear : fbit s (R.LSW_HB_STAT m.val) F.LSW_HB_STAT_DESAT = false) :
    exec (.hbDesat m) s = .next (staged (fun x => fault (fsetb x (R.LSW_HB_STAT m.val) F.LSW_HB_STAT_DESAT true) Ev.HB_DESAT
      [(m.val : Int), (x.tb : Int)]) s) := by
  rw [exec_hbDesat, execHbDesat, if_neg (by simp [hao, hclear])]

theorem exec_hbDrvUv_onset {m : Fin 4} {s : State} (hao : domOn s 0 = true) (hclear : fbit s (R.LSW_HB_STAT m.val) F.LSW_HB_STAT_DRV_UV = false) :
    exec (.hbDrvUv m) s = .next (staged (fun x => fault (fsetb x (R.LSW_HB_STAT m.val) F.LSW_HB_STAT_DRV_UV true) Ev.HB_DRV_UV
      [(m.val : Int), (x.tb : Int)]) s) := by
  rw [exec_hbDrvUv, execHbDrvUv, if_neg (by simp [hao, hclear])]

theorem exec_hbDrvUvRelease_set {m : Fin 4} {s : State} (hset : fbit s (R.LSW_HB_STAT m.val) F.LSW_HB_STAT_DRV_UV = true) :
    exec (.hbDrvUvRelease m) s = .next (staged (fun x => faultEnd (fsetb x (R.LSW_HB_STAT m.val) F.LSW_HB_STAT_DRV_UV false) Ev.HB_DRV_UV
      [(m.val : Int), (x.tb : Int)]) s) := by
  rw [exec_hbDrvUvRelease, execHbDrvUvRelease, if_neg (by simp [hset])]

theorem exec_hbClear_set {who : Fin 36} {m : Fin 4} {s : State} (hmay : rapMay s who.val .other 10 = true)
    (hset : fbit s (R.LSW_HB_STAT m.val) F.LSW_HB_STAT_DESAT = true) :
    exec (.hbClear who m) s = .next (rapAnswer (staged (fun x => faultEnd (fsetb x (R.LSW_HB_STAT m.val) F.LSW_HB_STAT_DESAT false)
      Ev.HB_DESAT [(m.val : Int), (x.tb : Int)]) s) who.val .ok []) := by
  rw [exec_hbClear, execHbClear, rapDo_allowed _ _ hmay, if_neg (by simp [hset])]

/-! ### Halter mode (R269 to R271) -/

theorem exec_halterInput_outside_halter {i : Fin 8} {s : State} (hao : domOn s 0 = true)
    (hin : bitOf (fget s R.LSW_HALTER_STAT F.LSW_HALTER_STAT_IN) i.val = false) (hidle : halterActive s = false) (hnone : s.lsw.pulseOn = []) :
    exec (.halterInput i true) s = .next (settle s { halterBit s F.LSW_HALTER_STAT_IN i.val true with
      lsw := { s.lsw with pulseOn := [], inAt := smIns i.val s.tb s.lsw.inAt } }) := by
  rw [exec_halterInput i, execHalterInput, if_neg (by simp [hao, hin]), staged]
  simp only [hidle, hnone, halterBit, fset_lsw, List.filter_nil, Bool.false_and, Bool.false_eq_true, if_false, if_true]

theorem exec_halterEnActive_new {s : State} (hao : domOn s 0 = true) (hen : fbit s R.LSW_HALTER_STAT F.LSW_HALTER_STAT_EN = false) :
    exec .halterEnActive s = .next (staged (fun x => halterCheck (fsetb x R.LSW_HALTER_STAT F.LSW_HALTER_STAT_EN true)) s) := by
  rw [exec_halterEnActive, execHalterEnActive, if_neg (by simp [hao, hen])]

theorem exec_halterEnInactive_active {s : State} (hen : fbit s R.LSW_HALTER_STAT F.LSW_HALTER_STAT_EN = true) (hact : halterActive s = true) :
    exec .halterEnInactive s = .next (staged (fun x =>
      let t := fset (fsetb (fsetb x R.LSW_HALTER_STAT F.LSW_HALTER_STAT_EN false) R.LSW_HALTER_STAT F.LSW_HALTER_STAT_ACTIVE false)
        R.LSW_HALTER_STAT F.LSW_HALTER_STAT_ARMED 0
      raise { t with lsw := { t.lsw with pulseOn := [] } } Ev.HALTER_EXIT []) s) := by
  rw [exec_halterEnInactive, execHalterEnInactive, if_neg (by simp [hen])]
  exact congrArg _ (staged_congr (if_neg (by simp [hact])))

/-- The next edge of a pulsed channel whose input is active and armed. -/
theorem exec_halterPulse_due {ch : Fin 96} {i : Nat} {s : State} (hact : halterActive s = true) (hmap : halterIn s ch.val = some i)
    (hmode : fbit s (R.LSW_HALTER_MAP ch.val) F.LSW_HALTER_MAP_MODE = true)
    (hduty : fget s (R.LSW_HALTER_MAP ch.val) F.LSW_HALTER_MAP_DUTY16 < 16)
    (hin : bitOf (fget s R.LSW_HALTER_STAT F.LSW_HALTER_STAT_IN) i = true)
    (harmed : bitOf (fget s R.LSW_HALTER_STAT F.LSW_HALTER_STAT_ARMED) i = true)
    (hpast : aoPast s (smFind s.lsw.pulseAt ch.val) (aoTicks (if ch.val ∈ s.lsw.pulseOn then pulseOnTime s ch.val
      else pulsePeriod s ch.val - pulseOnTime s ch.val)) = true) :
    exec (.halterPulse ch) s = .next (if ch.val ∈ s.lsw.pulseOn then staged (fun x => { x with lsw := { x.lsw with
      pulseOn := x.lsw.pulseOn.filter (· != ch.val), pulseAt := smIns ch.val x.tb x.lsw.pulseAt } }) s
      else staged (pulseStart [ch.val]) s) := by
  rw [exec_halterPulse, execHalterPulse]
  simp only [hact, hmap, hmode, Nat.not_le.2 hduty, hin, harmed, hpast, Bool.true_eq_false, or_self, if_false, if_true]

theorem exec_halterPulse_starts {ch : Fin 96} {i : Nat} {s : State} (hact : halterActive s = true) (hmap : halterIn s ch.val = some i)
    (hmode : fbit s (R.LSW_HALTER_MAP ch.val) F.LSW_HALTER_MAP_MODE = true) (hduty : fget s (R.LSW_HALTER_MAP ch.val) F.LSW_HALTER_MAP_DUTY16 < 16)
    (hin : bitOf (fget s R.LSW_HALTER_STAT F.LSW_HALTER_STAT_IN) i = true)
    (harmed : bitOf (fget s R.LSW_HALTER_STAT F.LSW_HALTER_STAT_ARMED) i = true) (hoff : ch.val ∉ s.lsw.pulseOn)
    (hpast : aoPast s (smFind s.lsw.pulseAt ch.val) (aoTicks (pulsePeriod s ch.val - pulseOnTime s ch.val)) = true) :
    exec (.halterPulse ch) s = .next (staged (pulseStart [ch.val]) s) := by
  rw [exec_halterPulse_due hact hmap hmode hduty hin harmed (by rw [if_neg hoff]; exact hpast), if_neg hoff]

theorem exec_halterPulse_stops {ch : Fin 96} {i : Nat} {s : State} (hact : halterActive s = true) (hmap : halterIn s ch.val = some i)
    (hmode : fbit s (R.LSW_HALTER_MAP ch.val) F.LSW_HALTER_MAP_MODE = true) (hduty : fget s (R.LSW_HALTER_MAP ch.val) F.LSW_HALTER_MAP_DUTY16 < 16)
    (hin : bitOf (fget s R.LSW_HALTER_STAT F.LSW_HALTER_STAT_IN) i = true)
    (harmed : bitOf (fget s R.LSW_HALTER_STAT F.LSW_HALTER_STAT_ARMED) i = true) (hon : ch.val ∈ s.lsw.pulseOn)
    (hpast : aoPast s (smFind s.lsw.pulseAt ch.val) (aoTicks (pulseOnTime s ch.val)) = true) :
    exec (.halterPulse ch) s = .next (staged (fun x => { x with lsw := { x.lsw with
      pulseOn := x.lsw.pulseOn.filter (· != ch.val), pulseAt := smIns ch.val x.tb x.lsw.pulseAt } }) s) := by
  rw [exec_halterPulse_due hact hmap hmode hduty hin harmed (by rw [if_pos hon]; exact hpast), if_pos hon]

theorem exec_halterStuck_due {i : Fin 8} {s : State}
    (hpast : aoPast s (smFind s.lsw.inAt i.val) (fget s (R.LSW_HALTER_IN i.val) F.LSW_HALTER_IN_STUCK_LIM * secTicks) = true)
    (hlim : fget s (R.LSW_HALTER_IN i.val) F.LSW_HALTER_IN_STUCK_LIM ≠ 0) (hin : bitOf (fget s R.LSW_HALTER_STAT F.LSW_HALTER_STAT_IN) i.val = true)
    (hnew : bitOf (fget s R.LSW_HALTER_STAT F.LSW_HALTER_STAT_STUCK) i.val = false) :
    exec (.halterStuck i) s = .next (staged (fun x => fault (halterDisarm i.val (halterBit x F.LSW_HALTER_STAT_STUCK i.val true))
      Ev.HALTER_STUCK [(i.val : Int)]) s) := by
  rw [exec_halterStuck i, execHalterStuck, if_neg (by simp [hlim, hin, hnew, hpast])]

/-- Settles O24, one command after another: under the conditions of a clause the command's guards are met. -/
theorem feedAndHalterCommandsComplete : Obligations.FeedAndHalterCommandsComplete :=
  ⟨fun _ _ => exec_feedUv_onset, fun _ _ => exec_feedRestart_due, fun _ _ _ => exec_feedRestartSecond_due, fun _ _ => exec_feedOverload_begins,
    fun _ _ => exec_feedOverload_ends, fun _ => exec_feedOverload_module_begins, fun _ _ _ => exec_segmentStuckCheck_stuck,
    fun _ _ => exec_segmentStuckCheck_passed, fun _ _ => exec_hbDesat_onset, fun _ _ => exec_hbDrvUv_onset, fun _ _ => exec_hbDrvUvRelease_set,
    fun _ _ _ => exec_hbClear_set, fun _ _ => exec_halterInput_outside_halter, fun _ => exec_halterEnActive_new,
    fun _ => exec_halterEnInactive_active, fun _ _ _ => exec_halterPulse_starts, fun _ _ _ => exec_halterPulse_stops,
    fun _ _ => exec_halterStuck_due⟩

end Sys2Proof.Proofs
end

section
/-!
PROOFS. The control engine: steps, late steps, the hold time-out, modes, trace and injection (R280, R285, R287, R291, R294 to R297).
-/

open Sys2Proof Sys2Proof.Machine Sys2Proof.Laws

namespace Sys2Proof.Proofs

/-! ### What leaves every loop's state as it is -/

theorem forEach_keeps {α β : Type} {p : State → β} {f : α → State → State} (h : ∀ x s, p (f x s) = p s) (l : List α) (s : State) :
    p (forEach l f s) = p s := by
  unfold forEach
  induction l generalizing s with
  | nil => rfl
  | cons x l ih => exact (ih (f x s)).trans (h x s)

theorem rsetAll_ctl (s : State) (l : List (Nat × Word)) : (rsetAll s l).ctl = s.ctl := by
  induction l generalizing s with
  | nil => rfl
  | cons x l ih => exact ih (rset s x.1 x.2)

theorem injEnd_loops (c : Nat) (s : State) : (injEnd c s).ctl.loops = s.ctl.loops := by
  unfold injEnd
  split
  · rfl
  · simp only [raise_ctl, fsetb_ctl, fset_ctl]

theorem injCheck_loops (n B st : Nat) (d : LoopDef) (s : State) : (injCheck n B st d s).ctl.loops = s.ctl.loops := by
  unfold injCheck
  split
  · rfl
  split
  · rfl
  split
  · exact injEnd_loops ..
  split
  · exact injEnd_loops ..
  split
  · split
    · exact injEnd_loops ..
    · rfl
  · rfl

theorem satShow_ctl (n : Nat) (d : LoopDef) (on slew : Bool) (u : Word) (s : State) : (satShow n d on slew u s).ctl = s.ctl := by
  simp only [satShow, fsetb_ctl]

theorem setLState_ctl (n st : Nat) (s : State) : (setLState n st s).ctl = s.ctl := by
  unfold setLState
  extract_lets old s1
  split
  · exact fset_ctl ..
  · rw [raise_ctl, fset_ctl]

theorem shadowSet_ctl (n : Nat) (phase : Bool) (v : Nat) (s : State) : (shadowSet n phase v s).ctl = s.ctl := by
  unfold shadowSet
  extract_lets k
  split
  · exact fsetb_ctl ..
  split <;> exact fset_ctl ..

theorem actWrite_loops (n : Nat) (d : LoopDef) (ls : List Nat) (u : Word) (s : State) : (actWrite n d ls u s).ctl.loops = s.ctl.loops := by
  unfold actWrite
  extract_lets ks armed free s1 c s2
  have h1 : s1.ctl = s.ctl := forEach_keeps (p := State.ctl) (fun c t => shadowSet_ctl c false (dutyOf u) t) _ s
  have h1l : s1.ctl.loops = s.ctl.loops := congrArg Ctl.loops h1
  have h2 : s2.ctl.loops = s.ctl.loops := h1l
  split
  · exact h2
  · exact (forEach_keeps (p := fun t => t.ctl.loops) (fun m t => by rw [fincSat_ctl]) ls s2).trans h2

theorem trcSample_loops (c B : Nat) (w : Word) (s : State) : (trcSample c B w s).ctl.loops = s.ctl.loops := by
  unfold trcSample
  extract_lets t i s1 s2 s3
  have h3 : s3.ctl = s1.ctl := by
    simp only [s3, s2, apply_ite State.ctl, fincSat_ctl, fset_ctl, ite_self]
  rw [rset64_ctl, h3]
  rfl

theorem trcTrigger_loops (B : Nat) (s : State) : (trcTrigger B s).ctl.loops = s.ctl.loops := by
  unfold trcTrigger
  split
  · rfl
  · simp only [rset64_ctl, fset_ctl]
    refine forN_keeps (p := fun t => t.ctl.loops) (fun c t => ?_) 16 s
    simp only [setTrc]

theorem trcStep_loops (n B : Nat) (s : State) : (trcStep n B s).ctl.loops = s.ctl.loops := by
  unfold trcStep
  extract_lets cfg st0 src now lev edge cross inj s1 s2 live
  split
  · rfl
  have h1 : s1.ctl.loops = s.ctl.loops := by
    simp only [s1]
    split
    · exact trcTrigger_loops B s
    · rfl
  have h2 : s2.ctl.loops = s.ctl.loops := by
    refine (forN_keeps (p := fun t => t.ctl.loops) (fun c t => ?_) 16 s1).trans h1
    extract_lets t0 w dec take s3
    have h3 : s3.ctl.loops = t.ctl.loops := by
      simp only [s3]
      split
      · exact trcSample_loops ..
      · rfl
    split
    · rfl
    · exact h3
  split
  · rw [fset_ctl, h2]
  · exact h2

theorem pressInput_ctl (inp : PressIn) (x : Int) (good : Bool) (dt : Nat) (s : State) : (pressInput inp x good dt s).ctl = s.ctl := by
  refine forEach_keeps (p := State.ctl) (fun k t => ?_) _ s
  unfold pressSample
  extract_lets st
  split
  · rfl
  split <;> rfl

theorem ctlLoad_loops (B : Nat) (s : State) : (ctlLoad B s).ctl.loops = s.ctl.loops := by
  unfold ctlLoad
  split
  · refine forEach_keeps (p := fun t => t.ctl.loops) (fun k t => ?_) _ _
    unfold lgArm
    split
    · rfl
    · rw [fsetb_ctl]
  · rfl

/-! ### The mark of a step: the boundary a loop last stepped at, and its run of late steps -/

def stepMark (n : Nat) (s : State) : Option Nat × Nat := ((loopSt s n).stepAt, (loopSt s n).lateRun)

theorem loopSt_setLoop_same (n : Nat) (l : LoopSt) (s : State) : loopSt (setLoop n l s) n = l := smGet_smSet_same s.ctl.loops

theorem loopSt_of_loops {s t : State} (h : t.ctl.loops = s.ctl.loops) (n : Nat) : loopSt t n = loopSt s n := by
  rw [loopSt, h, loopSt]

theorem loopSt_of_ctl {s t : State} (h : t.ctl = s.ctl) (n : Nat) : loopSt t n = loopSt s n := loopSt_of_loops (congrArg Ctl.loops h) n

theorem stepMark_of_loops {s t : State} (h : t.ctl.loops = s.ctl.loops) (n : Nat) : stepMark n t = stepMark n s := by
  rw [stepMark, loopSt_of_loops h, stepMark]

theorem stepMark_of_ctl {s t : State} (h : t.ctl = s.ctl) (n : Nat) : stepMark n t = stepMark n s :=
  stepMark_of_loops (congrArg Ctl.loops h) n

/-- A loop that goes to FAULT keeps its mark. -/
theorem stepMark_loopFault (n : Nat) (c : LoopCause) (s : State) : stepMark n (loopFault n c s) = stepMark n s := by
  unfold loopFault
  split
  · rfl
  · rw [stepMark_of_ctl (fault_ctl ..), stepMark, loopSt_setLoop_same, stepMark]

theorem stepMark_eq {n k : Nat} {o : Option Nat} {t : State} (h : stepMark n t = (o, k)) :
    (loopSt t n).stepAt = o ∧ (loopSt t n).lateRun = k := Prod.ext_iff.1 h

/-- A step marks its boundary and ends the run of late steps: the mark is set once, and what the step does after it keeps it. -/
theorem stepMark_loopStep (n B : Nat) (d : LoopDef) (s : State) : stepMark n (loopStep n B d s) = (some B, 0) := by
  unfold loopStep
  extract_lets b old fb st s1 c1 s2 inj v1 v2 bin1 bin2 g0 g front l0 r r1 l a img s3 s3' s3'' s4 s5 s6 s7 s8 c8 s9
  have h3 : stepMark n s3 = (some B, 0) := by simp only [s3, stepMark, loopSt_setLoop_same, l]
  have h3' : stepMark n s3' = (some B, 0) := (whenB_keeps (p := stepMark n) (stepMark_of_ctl (faultEnd_ctl ..) n) _).trans h3
  have h3'' : stepMark n s3'' = (some B, 0) := by
    simp only [s3'']
    split
    · exact (whenB_keeps (p := stepMark n) (stepMark_of_ctl (faultEnd_ctl ..) n) _).trans h3'
    · exact h3'
  have h4 : stepMark n s4 = (some B, 0) := by
    refine (stepMark_of_ctl (fset_ctl ..) n).trans ?_
    split
    · exact h3''
    · exact (stepMark_of_ctl (fincWrap_ctl ..) n).trans h3''
  have h6 : stepMark n s6 = (some B, 0) := by
    refine (stepMark_of_ctl ?_ n).trans h4
    simp only [s6, s5, fsetb_ctl, satShow_ctl]
  have h7 : stepMark n s7 = (some B, 0) := (whenB_keeps (p := stepMark n) (stepMark_of_ctl (fsetb_ctl ..) n) _).trans h6
  have h8 : stepMark n s8 = (some B, 0) := by
    simp only [s8]
    split
    · exact (stepMark_loopFault n .num s7).trans h7
    · exact h7
  have h9 : stepMark n s9 = (some B, 0) := by
    refine Eq.trans ?_ h8
    simp only [s9]
    split
    · split
      · rfl
      split
      · exact stepMark_of_loops (injEnd_loops ..) n
      · rfl
    · rfl
  exact (stepMark_of_ctl (rsetAll_ctl ..) n).trans h9

/-! ### LOOP_STEP and LOOP_LATE (R280) -/

section
variable {n : Fin 64} {s : State} (hrun : loopsRun s = true) (hdue : loopDue s (boundaryAt s.tb) n.val = true)
  (hfresh : (loopSt s n.val).stepAt ≠ some (boundaryAt s.tb)) (hfree : loopHeld s n.val = false)
include hrun hdue hfresh hfree

/-- A step that is due, in time, not yet run and on a lane, and whose lane agrees: the loop's step, then its curb group's or its own outputs. -/
theorem exec_loopStep_due {d : LoopDef} {lane : Nat} (hdef : loopDef s n.val = some d) (hin : s.tb ≤ boundaryAt s.tb + 30000)
    (hlane : loopLane s (boundaryAt s.tb) n.val = some lane) :
    exec (.loopStep n false) s = .next (
      let t := loopStep n.val (boundaryAt s.tb) d (whenB (!(sparesOf s 1).isEmpty && lane == laneDue s 1) (undoKeep n.val d) s)
      let v := match curbOf s n.val with
        | some k => curbFinish k (boundaryAt s.tb) t
        | none => trcStep n.val (boundaryAt s.tb) (actWrite n.val d [n.val] (loopSt t n.val).uAct t)
      let w := pressInput (.loop n) (fRoundUp (loopSt v n.val).pv 1 1) (fFinite (loopSt v n.val).pv && (feedback s n.val).2)
        (lcfg s n.val F.CTL_LOOP_CFG_DIV * cycleTicks) v
      ctlLoad (boundaryAt s.tb) (if s.pwr.paired then send w MsgKind.PL_LOOP_STATE (midOf s ^^^ 1) (loopWords w n.val) else w)) := by
  rw [exec_loopStep, execLoopStep]
  simp only [hdef, hlane, hrun, hdue, hfresh, hfree, Nat.not_lt.2 hin, Bool.true_eq_false, Bool.false_eq_true, or_self, if_false,
    Bool.false_and] <;> rfl

theorem exec_loopLate_due (hlate : boundaryAt s.tb + 30000 ≤ s.tb) (hcurb : curbOf s n.val = none) :
    exec (.loopLate n) s = .next (
      let t := fault (setLoop n.val { loopSt s n.val with lateRun := (loopSt s n.val).lateRun + 1, stepAt := some (boundaryAt s.tb) }
        (fincWrap (fsetb (fsetb s (R.CTL_LOOP_STAT n.val) F.CTL_LOOP_STAT_LATE true) R.CTL_STATUS F.CTL_STATUS_LATE true) R.CTL_LATE_CNT
          F.CTL_LATE_CNT_COUNT)) Ev.LOOP_LATE [(n.val : Int)]
      ctlLoad (boundaryAt s.tb) (if 10 ≤ (loopSt s n.val).lateRun + 1 ∧ lstate s n.val ≠ 5 then loopFault n.val .late t else t)) := by
  rw [exec_loopLate, execLoopLate]
  simp only [hcurb, hrun, hdue, hfresh, hfree, Nat.not_lt.2 hlate, Bool.true_eq_false, Bool.false_eq_true, or_self, if_false]

end

theorem exec_loopStep_alone {n : Fin 64} {s : State} {d : LoopDef} {lane : Nat} (hdef : loopDef s n.val = some d) (hrun : loopsRun s = true)
    (hdue : loopDue s (boundaryAt s.tb) n.val = true) (hin : s.tb ≤ boundaryAt s.tb + 30000)
    (hfresh : (loopSt s n.val).stepAt ≠ some (boundaryAt s.tb)) (hfree : loopHeld s n.val = false)
    (hlane : loopLane s (boundaryAt s.tb) n.val = some lane) (hpair : s.pwr.paired = false) (hcurb : curbOf s n.val = none)
    (hspare : sparesOf s 1 = []) :
    exec (.loopStep n false) s = .next (
      let t := loopStep n.val (boundaryAt s.tb) d s
      let v := trcStep n.val (boundaryAt s.tb) (actWrite n.val d [n.val] (loopSt t n.val).uAct t)
      ctlLoad (boundaryAt s.tb) (pressInput (.loop n) (fRoundUp (loopSt v n.val).pv 1 1) (fFinite (loopSt v n.val).pv && (feedback s n.val).2)
        (lcfg s n.val F.CTL_LOOP_CFG_DIV * cycleTicks) v)) := by
  rw [exec_loopStep_due hrun hdue hfresh hfree hdef hin hlane]
  simp only [hpair, hcurb, hspare, List.isEmpty_nil, Bool.not_true, Bool.false_and, whenB, Bool.false_eq_true, if_false]

theorem exec_loopStep_in_curb_group {n : Fin 64} {s : State} {d : LoopDef} {lane k : Nat} (hdef : loopDef s n.val = some d)
    (hrun : loopsRun s = true) (hdue : loopDue s (boundaryAt s.tb) n.val = true) (hin : s.tb ≤ boundaryAt s.tb + 30000)
    (hfresh : (loopSt s n.val).stepAt ≠ some (boundaryAt s.tb)) (hfree : loopHeld s n.val = false)
    (hlane : loopLane s (boundaryAt s.tb) n.val = some lane) (hpair : s.pwr.paired = false) (hcurb : curbOf s n.val = some k)
    (hspare : sparesOf s 1 = []) :
    exec (.loopStep n false) s = .next (
      let v := curbFinish k (boundaryAt s.tb) (loopStep n.val (boundaryAt s.tb) d s)
      ctlLoad (boundaryAt s.tb) (pressInput (.loop n) (fRoundUp (loopSt v n.val).pv 1 1) (fFinite (loopSt v n.val).pv && (feedback s n.val).2)
        (lcfg s n.val F.CTL_LOOP_CFG_DIV * cycleTicks) v)) := by
  rw [exec_loopStep_due hrun hdue hfresh hfree hdef hin hlane]
  simp only [hpair, hcurb, hspare, List.isEmpty_nil, Bool.not_true, Bool.false_and, whenB, Bool.false_eq_true, if_false]

theorem exec_loopStep_mismatch {n : Fin 64} {s : State} {d : LoopDef} {lane : Nat} (hdef : loopDef s n.val = some d) (hrun : loopsRun s = true)
    (hdue : loopDue s (boundaryAt s.tb) n.val = true) (hin : s.tb ≤ boundaryAt s.tb + 30000)
    (hfresh : (loopSt s n.val).stepAt ≠ some (boundaryAt s.tb)) (hfree : loopHeld s n.val = false)
    (hlane : loopLane s (boundaryAt s.tb) n.val = some lane) (hspare : sparesOf s 1 ≠ []) (hchecked : lane = laneDue s 1) :
    exec (.loopStep n true) s = .next (loopMismatch lane (boundaryAt s.tb) s) := by
  rw [exec_loopStep, execLoopStep]
  have hcheck : (!(sparesOf s 1).isEmpty && lane == laneDue s 1) = true := by simp [hspare, hchecked]
  simp only [hdef, hlane, hrun, hdue, hfresh, hfree, Nat.not_lt.2 hin, Bool.true_eq_false, Bool.false_eq_true, or_self, if_false,
    hcheck, Bool.and_self, if_true]

theorem exec_loopLate_below_ten {n : Fin 64} {s : State} (hrun : loopsRun s = true) (hdue : loopDue s (boundaryAt s.tb) n.val = true)
    (hlate : boundaryAt s.tb + 30000 ≤ s.tb) (hfresh : (loopSt s n.val).stepAt ≠ some (boundaryAt s.tb)) (hfree : loopHeld s n.val = false)
    (hfew : (loopSt s n.val).lateRun < 9) (hcurb : curbOf s n.val = none) :
    exec (.loopLate n) s = .next (ctlLoad (boundaryAt s.tb) (fault (setLoop n.val { loopSt s n.val with
      lateRun := (loopSt s n.val).lateRun + 1, stepAt := some (boundaryAt s.tb) } (fincWrap (fsetb (fsetb s (R.CTL_LOOP_STAT n.val)
      F.CTL_LOOP_STAT_LATE true) R.CTL_STATUS F.CTL_STATUS_LATE true) R.CTL_LATE_CNT F.CTL_LATE_CNT_COUNT)) Ev.LOOP_LATE [(n.val : Int)])) := by
  rw [exec_loopLate_due hrun hdue hfresh hfree hlate hcurb]
  exact congrArg _ (congrArg (ctlLoad _) (if_neg fun h => by omega))

theorem exec_loopHoldTimeout_due {n : Fin 64} {s : State} (hhold : lstate s n.val = 3)
    (hend : (loopSt s n.val).holdAt + msTicks (lcfg1 s n.val F.CTL_LOOP_CFG1_FB_TMO) ≤ s.tb) :
    exec (.loopHoldTimeout n) s = .next (loopFault n.val .feedback s) := by
  rw [exec_loopHoldTimeout, execLoopHoldTimeout, if_pos ⟨hhold, hend⟩]

/-! ### Modes (R285, R291) -/

/-- AUTO is taken, unless the loop is in FAULT and what put it there is not gone. -/
theorem exec_loopAuto_taken {who : Fin 36} {n : Fin 64} {s : State} (hmay : rapMay s who.val .other 1 = true)
    (hready : lstate s n.val ≠ 5 ∨ faultGone s n.val = true) :
    exec (.loopAuto who n) s = .next (rapAnswer (setLoop n.val { loopSt s n.val with cmd := some false } s) who.val .ok []) := by
  rw [exec_loopAuto, execLoopAuto, rapDo_allowed _ _ hmay, if_neg]
  rintro ⟨hfault, hgone⟩
  rcases hready with h | h
  · exact h hfault
  · rw [h] at hgone; cases hgone

theorem exec_loopManual_alone {who : Fin 36} {n : Fin 64} {s : State} (hmay : rapMay s who.val .other 1 = true) (hcurb : curbOf s n.val = none) :
    exec (.loopManual who n) s = .next (rapAnswer (setLoop n.val { loopSt s n.val with cmd := some true } s) who.val .ok []) := by
  rw [exec_loopManual, execLoopManual, rapDo_allowed _ _ hmay, if_neg (by simp [hcurb])]

theorem exec_loopManual_member {who : Fin 36} {n : Fin 64} {s : State} (hmay : rapMay s who.val .other 1 = true)
    (hcurb : (curbOf s n.val).isSome = true) : exec (.loopManual who n) s = .next (rapAnswer s who.val .ok []) := by
  rw [exec_loopManual, execLoopManual, rapDo_allowed _ _ hmay, if_pos hcurb]

theorem exec_curbAuto_allowed {who : Fin 36} {k : Fin 16} {s : State} (hmay : rapMay s who.val .other 1 = true) :
    exec (.curbAuto who k) s = .next (rapAnswer (fsetb s (R.CTL_CURB_STAT k.val) F.CTL_CURB_STAT_MANUAL false) who.val .ok []) := by
  rw [exec_curbAuto, execCurbAuto, rapDo_allowed _ _ hmay]

theorem exec_curbManual_allowed {who : Fin 36} {k : Fin 16} {s : State} (hmay : rapMay s who.val .other 1 = true) (hmem : curbMembers s k.val ≠ []) :
    exec (.curbManual who k) s = .next (rapAnswer (fsetb s (R.CTL_CURB_STAT k.val) F.CTL_CURB_STAT_MANUAL true) who.val .ok []) := by
  rw [exec_curbManual, execCurbManual, rapDo_allowed _ _ hmay, if_neg hmem]

/-! ### Trace (R294, R295) -/

theorem exec_traceArm_allowed {who : Fin 36} {s : State} (hmay : rapMay s who.val .test 1 = true) :
    exec (.traceArm who) s = .next (rapAnswer (
      let t := forN 16 (fun c x => rsetN { x with ctl := { x.ctl with trc := smDel c x.ctl.trc } } (R.CTL_TRC_IDX c) 0) s
      fset { t with ctl := { t.ctl with trcForce := false } } R.CTL_TRC_STAT F.CTL_TRC_STAT_STATE (if fbit s R.CTL_TRC_CTRL F.CTL_TRC_CTRL_MODE then 1 else 2)) who.val .ok []) := by
  rw [exec_traceArm, execTraceArm, rapDo_allowed _ _ hmay]

theorem exec_traceStop_allowed {who : Fin 36} {s : State} (hmay : rapMay s who.val .test 1 = true) :
    exec (.traceStop who) s = .next (rapAnswer (trcStop s) who.val .ok []) := by
  rw [exec_traceStop, execTraceStop, rapDo_allowed _ _ hmay]

theorem exec_traceForce_allowed {who : Fin 36} {s : State} (hmay : rapMay s who.val .test 1 = true) :
    exec (.traceForce who) s = .next (rapAnswer { s with ctl := { s.ctl with
      trcForce := fget s R.CTL_TRC_STAT F.CTL_TRC_STAT_STATE == 1 } } who.val .ok []) := by
  rw [exec_traceForce, execTraceForce, rapDo_allowed _ _ hmay]

/-! ### Injection (R296, R297) -/

theorem exec_injStart_accepted {who : Fin 36} {r : Role} {s : State} (hrole : sessRole s who.val = some r) (hpath : rapPath s = true)
    (hok : injRefused s who.val = none) :
    exec (.injStart who) s = .next (
      let c (f : Fld) : Nat := fget s R.CTL_INJ_CFG f
      let j : Inj := ⟨c F.CTL_INJ_CFG_LOOP, c F.CTL_INJ_CFG_POINT, c F.CTL_INJ_CFG_SIG, c F.CTL_INJ_CFG_N, c F.CTL_INJ_CFG_HOLD,
        rget s R.CTL_INJ_AMP, rget s R.CTL_INJ_F0, rget s R.CTL_INJ_F1, rget s R.CTL_INJ_ABORT_LO, rget s R.CTL_INJ_ABORT_HI,
        fget s R.CTL_INJ_DUR F.CTL_INJ_DUR_DUR, who.val, none, 0⟩
      let t := fset (fset (injEnd 1 s) R.CTL_INJ_STAT F.CTL_INJ_STAT_STATE 1) R.CTL_INJ_STAT F.CTL_INJ_STAT_CAUSE 0
      rapAnswer (raise (rset64 { t with ctl := { t.ctl with inj := some j } } R.CTL_INJ_TB_LO R.CTL_INJ_TB_HI s.tb) Ev.INJ_START
        [(j.loop : Int), (j.point : Int), (j.sig : Int)]) who.val .ok []) := by
  rw [exec_injStart, execInjStart, if_neg (by simp [hpath]), hrole, hok]

theorem exec_injStart_refused {who : Fin 36} {r : Role} {c : Nat} {s : State} (hrole : sessRole s who.val = some r) (hpath : rapPath s = true)
    (hno : injRefused s who.val = some c) (hcause : c ≠ 3) :
    exec (.injStart who) s = .next (rapAnswer (fset s R.CTL_INJ_STAT F.CTL_INJ_STAT_CAUSE c) who.val .injDenied [(c : Int)]) := by
  rw [exec_injStart, execInjStart, if_neg (by simp [hpath]), hrole, hno]
  simp only [if_neg hcause]

theorem exec_injStop_allowed {who : Fin 36} {s : State} (hmay : rapMay s who.val .test 1 = true) :
    exec (.injStop who) s = .next (rapAnswer (injEnd 1 s) who.val .ok []) := by
  rw [exec_injStop, execInjStop, rapDo_allowed _ _ hmay]

theorem exec_injDurationEnd_due {s : State} {j : Inj} {t : Nat} (hinj : s.ctl.inj = some j) (hfirst : j.first = some t)
    (hend : t + msTicks j.dur ≤ s.tb) : exec .injDurationEnd s = .next (injEnd 2 s) := by
  rw [exec_injDurationEnd, execInjDurationEnd, hinj]
  simp only [hfirst, if_pos hend]

/-- Settles O25, a command and a case at a time. -/
theorem loopCommandsComplete : Obligations.LoopCommandsComplete :=
  ⟨fun _ _ _ _ => exec_loopStep_alone, fun _ _ _ _ _ => exec_loopStep_in_curb_group, fun _ _ _ _ => exec_loopStep_mismatch,
    fun _ _ => exec_loopLate_below_ten, fun _ _ => exec_loopHoldTimeout_due, fun _ _ _ hmay h => exec_loopAuto_taken hmay (.inl h),
    fun _ _ _ => exec_loopManual_alone, fun _ _ _ => exec_loopManual_member, fun _ _ _ => exec_curbAuto_allowed,
    fun _ _ _ => exec_curbManual_allowed, fun _ _ => exec_traceArm_allowed, fun _ _ => exec_traceStop_allowed,
    fun _ _ => exec_traceForce_allowed, fun _ _ _ => exec_injStart_accepted, fun _ _ _ _ => exec_injStart_refused,
    fun _ _ => exec_injStop_allowed, fun _ _ _ => exec_injDurationEnd_due⟩

/-! ### What the commands leave -/

theorem loopStat_ne_injStat (n : Nat) : R.CTL_INJ_STAT ≠ R.CTL_LOOP_STAT n := by rw [R.CTL_INJ_STAT, R.CTL_LOOP_STAT]; omega

theorem fget_withCtl (c : Ctl) (s : State) (a : Nat) (f : Fld) : fget { s with ctl := c } a f = fget s a f := rfl

theorem injEnd_inj (c : Nat) (s : State) : (injEnd c s).ctl.inj = none := by
  unfold injEnd
  split
  · assumption
  · simp only [raise_ctl, fsetb_ctl]

/-- An injection that ends shows DONE after its duration, ABORTED after every other cause, and its cause. -/
theorem injEnd_shows {j : Inj} {c : Nat} {s : State} (hinj : s.ctl.inj = some j) :
    fget (injEnd c s) R.CTL_INJ_STAT F.CTL_INJ_STAT_STATE = (if c = 2 then 2 else 3) ∧
      fget (injEnd c s) R.CTL_INJ_STAT F.CTL_INJ_STAT_CAUSE = c % 16 := by
  unfold injEnd
  simp only [hinj]
  constructor
  · rw [fget_of_regs (raise_regs ..), fsetb, fget_fset_ne (loopStat_ne_injStat _), fget_withCtl,
      fget_fset_other (by decide) (by decide), fget_fset_same (by decide)]
    split <;> rfl
  · rw [fget_of_regs (raise_regs ..), fsetb, fget_fset_ne (loopStat_ne_injStat _), fget_withCtl, fget_fset_same (by decide)]
    rfl

theorem lstate_setLState (n st : Nat) (s : State) : lstate (setLState n st s) n = st % 8 := by
  have h : fget (fset s (R.CTL_LOOP_STAT n) F.CTL_LOOP_STAT_STATE st) (R.CTL_LOOP_STAT n) F.CTL_LOOP_STAT_STATE = st % 8 :=
    fget_fset_same (by decide)
  rw [lstate, setLState]
  split
  · exact h
  · rw [fget_of_regs (raise_regs ..), h]

/-- A loop that goes to FAULT is in state 5, with its safe output. -/
theorem loopFault_shows {n : Nat} {d : LoopDef} {s : State} (c : LoopCause) (hdef : loopDef s n = some d) :
    lstate (loopFault n c s) n = 5 ∧ (loopSt (loopFault n c s) n).u = d.safeOut := by
  unfold loopFault
  simp only [hdef]
  constructor
  · rw [lstate, fget_of_regs (fault_regs ..), fget_of_regs (setLoop_regs ..)]
    exact lstate_setLState n 5 s
  · rw [loopSt_of_ctl (fault_ctl ..), loopSt_setLoop_same]

theorem loopStep_runs {n : Fin 64} {s : State} {d : LoopDef} {lane : Nat} (hdef : loopDef s n.val = some d) (hrun : loopsRun s = true)
    (hdue : loopDue s (boundaryAt s.tb) n.val = true) (hin : s.tb ≤ boundaryAt s.tb + 30000)
    (hfresh : (loopSt s n.val).stepAt ≠ some (boundaryAt s.tb)) (hfree : loopHeld s n.val = false)
    (hlane : loopLane s (boundaryAt s.tb) n.val = some lane) (hcurb : curbOf s n.val = none) :
    ∃ t : State, exec (.loopStep n false) s = .next t ∧ (loopSt t n.val).stepAt = some (boundaryAt s.tb) ∧ (loopSt t n.val).lateRun = 0 := by
  refine ⟨_, exec_loopStep_due hrun hdue hfresh hfree hdef hin hlane, stepMark_eq ?_⟩
  rw [stepMark_of_loops (ctlLoad_loops ..), hcurb]
  refine Eq.trans ?_ (stepMark_loopStep n.val (boundaryAt s.tb) d
    (whenB (!(sparesOf s 1).isEmpty && lane == laneDue s 1) (undoKeep n.val d) s))
  split <;> exact stepMark_of_loops (by simp only [send_ctl, pressInput_ctl, trcStep_loops, actWrite_loops]) n.val

theorem loopLate_runs {n : Fin 64} {s : State} (hrun : loopsRun s = true) (hdue : loopDue s (boundaryAt s.tb) n.val = true)
    (hlate : boundaryAt s.tb + 30000 ≤ s.tb) (hfresh : (loopSt s n.val).stepAt ≠ some (boundaryAt s.tb)) (hfree : loopHeld s n.val = false)
    (hcurb : curbOf s n.val = none) :
    ∃ t : State, exec (.loopLate n) s = .next t ∧ (loopSt t n.val).stepAt = some (boundaryAt s.tb) ∧
      (loopSt t n.val).lateRun = (loopSt s n.val).lateRun + 1 := by
  refine ⟨_, exec_loopLate_due hrun hdue hfresh hfree hlate hcurb, stepMark_eq ?_⟩
  rw [stepMark_of_loops (ctlLoad_loops ..)]
  have hmark (t : State) : stepMark n.val (fault t Ev.LOOP_LATE [(n.val : Int)]) = stepMark n.val t := stepMark_of_ctl (fault_ctl ..) n.val
  split
  · rw [stepMark_loopFault, hmark, stepMark, loopSt_setLoop_same]
  · rw [hmark, stepMark, loopSt_setLoop_same]

theorem loopHoldTimeout_runs {n : Fin 64} {s : State} {d : LoopDef} (hdef : loopDef s n.val = some d) (hhold : lstate s n.val = 3)
    (hend : (loopSt s n.val).holdAt + msTicks (lcfg1 s n.val F.CTL_LOOP_CFG1_FB_TMO) ≤ s.tb) :
    ∃ t : State, exec (.loopHoldTimeout n) s = .next t ∧ lstate t n.val = 5 ∧ (loopSt t n.val).u = d.safeOut := by
  exact ⟨_, exec_loopHoldTimeout_due hhold hend, loopFault_shows .feedback hdef⟩

theorem loopModes_run {who : Fin 36} {n : Fin 64} {s : State} (hmay : rapMay s who.val .other 1 = true) :
    (lstate s n.val ≠ 5 ∨ faultGone s n.val = true →
        ∃ t : State, exec (.loopAuto who n) s = .next t ∧ (loopSt t n.val).cmd = some false ∧ t.regs = s.regs) ∧
      (curbOf s n.val = none → ∃ t : State, exec (.loopManual who n) s = .next t ∧ (loopSt t n.val).cmd = some true ∧ t.regs = s.regs) := by
  constructor
  · intro hready
    refine ⟨_, exec_loopAuto_taken hmay hready, ?_, rapAnswer_regs ..⟩
    rw [loopSt_of_ctl (rapAnswer_ctl ..), loopSt_setLoop_same]
  · intro hcurb
    refine ⟨_, exec_loopManual_alone hmay hcurb, ?_, rapAnswer_regs ..⟩
    rw [loopSt_of_ctl (rapAnswer_ctl ..), loopSt_setLoop_same]

theorem curbModes_run {who : Fin 36} {k : Fin 16} {s : State} (hmay : rapMay s who.val .other 1 = true) :
    (∃ t : State, exec (.curbAuto who k) s = .next t ∧ fbit t (R.CTL_CURB_STAT k.val) F.CTL_CURB_STAT_MANUAL = false ∧
        ∀ a : Nat, a ≠ R.CTL_CURB_STAT k.val → rget t a = rget s a) ∧
      (curbMembers s k.val ≠ [] → ∃ t : State, exec (.curbManual who k) s = .next t ∧
        fbit t (R.CTL_CURB_STAT k.val) F.CTL_CURB_STAT_MANUAL = true ∧ ∀ a : Nat, a ≠ R.CTL_CURB_STAT k.val → rget t a = rget s a) := by
  constructor
  · refine ⟨_, exec_curbAuto_allowed hmay, ?_, fun a ha => ?_⟩
    · rw [fbit_of_regs (rapAnswer_regs ..), fbit_fsetb_same (by decide) rfl]
    · rw [rget_rapAnswer, fsetb, rget_fset_ne ha]
  · intro hmem
    refine ⟨_, exec_curbManual_allowed hmay hmem, ?_, fun a ha => ?_⟩
    · rw [fbit_of_regs (rapAnswer_regs ..), fbit_fsetb_same (by decide) rfl]
    · rw [rget_rapAnswer, fsetb, rget_fset_ne ha]

theorem traceCommands_run {who : Fin 36} {s : State} (hmay : rapMay s who.val .test 1 = true) :
    (∃ t : State, exec (.traceArm who) s = .next t ∧
        fget t R.CTL_TRC_STAT F.CTL_TRC_STAT_STATE = if fbit s R.CTL_TRC_CTRL F.CTL_TRC_CTRL_MODE then 1 else 2) ∧
      (fget s R.CTL_TRC_STAT F.CTL_TRC_STAT_STATE = 1 ∨ fget s R.CTL_TRC_STAT F.CTL_TRC_STAT_STATE = 2 →
        ∃ t : State, exec (.traceStop who) s = .next t ∧ fget t R.CTL_TRC_STAT F.CTL_TRC_STAT_STATE = 3) ∧
      (fget s R.CTL_TRC_STAT F.CTL_TRC_STAT_STATE = 1 →
        ∃ t : State, exec (.traceForce who) s = .next t ∧ t.ctl.trcForce = true ∧ t.regs = s.regs) ∧
      (∀ j : Inj, s.ctl.inj = some j → ∃ t : State, exec (.injStop who) s = .next t ∧ t.ctl.inj = none ∧
        fget t R.CTL_INJ_STAT F.CTL_INJ_STAT_STATE = 3 ∧ fget t R.CTL_INJ_STAT F.CTL_INJ_STAT_CAUSE = 1) := by
  refine ⟨⟨_, exec_traceArm_allowed hmay, ?_⟩, fun hrun => ⟨_, exec_traceStop_allowed hmay, ?_⟩,
    fun hring => ⟨_, exec_traceForce_allowed hmay, ?_, rapAnswer_regs ..⟩, fun j hinj => ⟨_, exec_injStop_allowed hmay, ?_, ?_⟩⟩
  · rw [fget_of_regs (rapAnswer_regs ..)]
    refine (fget_fset_same (by decide)).trans ?_
    split <;> rfl
  · rw [fget_of_regs (rapAnswer_regs ..), trcStop, if_pos hrun]
    exact fget_fset_same (by decide)
  · rw [rapAnswer_ctl, hring]; rfl
  · rw [rapAnswer_ctl, injEnd_inj]
  · simp only [fget_of_regs (rapAnswer_regs ..)]
    exact injEnd_shows hinj

theorem injStart_runs {who : Fin 36} {r : Role} {s : State} (hrole : sessRole s who.val = some r) (hpath : rapPath s = true)
    (hok : injRefused s who.val = none) :
    ∃ (t : State) (j : Inj), exec (.injStart who) s = .next t ∧ t.ctl.inj = some j ∧ j.who = who.val ∧
      fget t R.CTL_INJ_STAT F.CTL_INJ_STAT_STATE = 1 ∧ fget t R.CTL_INJ_STAT F.CTL_INJ_STAT_CAUSE = 0 := by
  refine ⟨_, _, exec_injStart_accepted hrole hpath hok, by rw [rapAnswer_ctl, raise_ctl, rset64_ctl], rfl, ?_, ?_⟩ <;>
    rw [fget_of_regs (rapAnswer_regs ..), fget_of_regs (raise_regs ..), rset64, rsetN, rsetN, fget_rset_ne (by decide),
      fget_rset_ne (by decide), fget_withCtl]
  · rw [fget_fset_other (by decide) (by decide), fget_fset_same (by decide)]
    rfl
  · rw [fget_fset_same (by decide)]
    rfl

theorem injDurationEnd_runs {s : State} {j : Inj} {f : Nat} (hinj : s.ctl.inj = some j) (hfirst : j.first = some f)
    (hend : f + msTicks j.dur ≤ s.tb) :
    ∃ t : State, exec .injDurationEnd s = .next t ∧ t.ctl.inj = none ∧ fget t R.CTL_INJ_STAT F.CTL_INJ_STAT_STATE = 2 := by
  exact ⟨_, exec_injDurationEnd_due hinj hfirst hend, injEnd_inj 2 s, (injEnd_shows hinj).1⟩

/-- Settles O60, a command at a time: the loop's mark is kept by all that follows its step, and the fields by all writes after theirs. -/
theorem controlEngineCommandsRun : Obligations.ControlEngineCommandsRun :=
  ⟨fun _ _ _ _ => loopStep_runs, fun _ _ => loopLate_runs, fun _ _ _ => loopHoldTimeout_runs, fun _ _ _ => loopModes_run,
    fun _ _ _ => curbModes_run, fun _ _ => traceCommands_run, fun _ _ _ => injStart_runs, fun _ _ _ => injDurationEnd_runs⟩


end Sys2Proof.Proofs

end

section
/-!
PROOFS. CAN controllers (R305, R310 to R322) and ISO 11783 (R318, R325, R326, R450).
-/

open Sys2Proof Sys2Proof.Machine Sys2Proof.Laws

namespace Sys2Proof.Proofs

/-! ### Frames and the receive queue (R305, R310, R311) -/

theorem exec_canFrame_listening {c : Fin 4} {f : CanFr} {t : Nat} {s : State} (hon : canOn s c.val = true) (hbus : canState s c.val ≠ 2)
    (hlisten : canMode s c.val = 1) (hsof : t ≤ s.tb) : exec (.canFrame c f t) s = .next (peerSeen c.val (canPut c.val (entOf f t 32 255) s)) := by
  rw [exec_canFrame, execCanFrame, if_neg (by simp [hon, hbus, Nat.not_lt.2 hsof])]
  simp only [hlisten, beq_self_eq_true, if_true]

theorem exec_canFrame_normal {c : Fin 4} {f : CanFr} {t : Nat} {s : State} (hon : canOn s c.val = true) (hbus : canState s c.val ≠ 2)
    (hnormal : canMode s c.val ≠ 1) (hsof : t ≤ s.tb) :
    exec (.canFrame c f t) s = .next (peerSeen c.val (canStateSync c.val (fset (canPut c.val (entOf f t 0 255) s) (R.CAN_STATUS c.val)
      F.CAN_STATUS_REC (recDown s c.val)))) := by
  rw [exec_canFrame, execCanFrame, if_neg (by simp [hon, hbus, Nat.not_lt.2 hsof])]
  simp only [beq_eq_false_iff_ne.2 hnormal, Bool.false_eq_true, if_false]

theorem exec_canQueueDrain_oldest {c : Fin 4} {tag : Option Nat} {s : State} {e : CanEnt} {q : List CanEnt} (hq : (canOf s c.val).queue = e :: q)
    (hlost : (canOf s c.val).lost = none) (hcan : domOn s 7 = true) (hao : domOn s 8 = true) :
    exec (.canQueueDrain c tag) s = .next (canDrain c.val e tag (setCan c.val { canOf s c.val with queue := q, lost := none } s)) := by
  rw [exec_canQueueDrain, execCanQueueDrain]
  simp only [hq, hlost, hcan, hao, Bool.true_eq_false, or_self, if_false]

/-! ### Errors, bus-off and recovery (R313, R315) -/

theorem exec_canError_receiver {c : Fin 4} {e : Fin 6} {dom : Bool} {n : Fin 9} {s : State} (hon : canOn s c.val = true) (hcode : e.val ≠ 0)
    (hbus : canState s c.val ≠ 2) (hmode : canMode s c.val ≠ 1) :
    exec (.canError c e false dom n) s = .next (
      let t := fault (fset (fincSat s (R.CAN_ERR c.val) F.CAN_ERR_ERR_CNT) (R.CAN_ERR c.val) F.CAN_ERR_LAST_ERR e.val) Ev.CAN_ERROR
        [(c.val : Int), (e.val : Int), 0]
      let u := canStateSync c.val (fset t (R.CAN_STATUS c.val) F.CAN_STATUS_REC
        (min (fget s (R.CAN_STATUS c.val) F.CAN_STATUS_REC + errStep s c.val e.val false dom n.val) 255))
      canPut c.val (errEnt u c.val e.val false) u) := by
  rw [exec_canError, execCanError, if_neg (by simp [hon, hbus, hcode])]
  simp only [Bool.false_eq_true, false_and, if_false, if_neg hmode]
  rfl

theorem exec_busOffRecovery_done {c : Fin 4} {s : State} (hbus : canState s c.val = 2) (hrec : recovered s c.val = true) (hon : domOn s 7 = true) :
    exec (.busOffRecovery c) s = .next (
      let t := fset (fset (fset s (R.CAN_STATUS c.val) F.CAN_STATUS_STATE 0) (R.CAN_STATUS c.val) F.CAN_STATUS_TEC 0) (R.CAN_STATUS c.val)
        F.CAN_STATUS_REC 0
      let u := setCan c.val { canOf t c.val with recover := none } t
      faultEnd (canPut c.val (errEnt u c.val 7 true) u) Ev.CAN_BUS_OFF [(c.val : Int)]) := by
  rw [exec_busOffRecovery, execBusOffRecovery, if_neg (by simp [hbus, hrec, hon])]

theorem exec_canRecover_begins {who : Fin 36} {c : Fin 4} {s : State} (hmay : rapMay s who.val .other 7 = true) (hbus : canState s c.val = 2)
    (hnone : (canOf s c.val).recover = none) :
    exec (.canRecover who c) s = .next (rapAnswer (setCan c.val { canOf s c.val with recover := some s.tb } s) who.val .ok []) := by
  rw [exec_canRecover, execCanRecover, rapDo_allowed _ _ hmay, if_pos ⟨hbus, hnone⟩]

theorem exec_busOffRecovery_early {c : Fin 4} {s : State} (hrec : recovered s c.val = false) : exec (.busOffRecovery c) s = .next s := by
  rw [exec_busOffRecovery, execBusOffRecovery, if_pos (.inr (.inl hrec))]

/-! ### Modes (R311) -/

theorem exec_canModeWrite_allowed {who : Fin 36} {c m : Fin 4} {s : State} (hmay : rapMay s who.val .can 7 = true) :
    exec (.canModeWrite who c m) s = .next (rapAnswer (fset s (R.CAN_CTRL c.val) F.CAN_CTRL_MODE m.val) who.val .ok []) := by
  rw [exec_canModeWrite, execCanModeWrite, rapDo_allowed _ _ hmay]

theorem exec_canModeApply_idle {c : Fin 4} {s : State} (hon : domOn s 7 = true) (hidle : (canOf s c.val).cur = none)
    (hdiff : canMode s c.val ≠ fget s (R.CAN_CTRL c.val) F.CAN_CTRL_MODE) :
    exec (.canModeApply c) s = .next (canModeSet c.val (fget s (R.CAN_CTRL c.val) F.CAN_CTRL_MODE) s) := by
  rw [exec_canModeApply, execCanModeApply, if_neg (by simp [hon, hidle, hdiff])]

/-! ### Slots and attempts (R320 to R322) -/

/-- A slot's write over RAP by a role that may, to a slot that RAP owns, is done and answered. -/
theorem slotWrite_rap {who : Fin 36} {c k reg : Nat} {f : State → State} {s : State} (hmay : rapMay s who.val .can 7 = true)
    (howner : fbit s (R.CAN_SLOT_CTRL c k) F.CAN_SLOT_CTRL_OWNER = true) :
    slotWrite (some who) c k reg f s = rapAnswer (f s) who.val .ok [] := by
  simp only [slotWrite, hmay, howner, Bool.true_eq_false, if_false, if_true]

/-- A slot's write by CORE to a slot that CORE owns is done. -/
theorem slotWrite_core {c k reg : Nat} {f : State → State} {s : State} (hcan : domOn s 7 = true) (hcore : domOn s 1 = true)
    (howner : fbit s (R.CAN_SLOT_CTRL c k) F.CAN_SLOT_CTRL_OWNER = false) : slotWrite none c k reg f s = f s := by
  simp only [slotWrite, hcan, hcore, howner, Bool.true_eq_false, Bool.false_eq_true, or_self, if_false]

theorem exec_slotArm_free {who : Fin 36} {c : Fin 4} {k : Fin 128} {s : State} (hmay : rapMay s who.val .can 7 = true)
    (howner : fbit s (R.CAN_SLOT_CTRL c.val k.val) F.CAN_SLOT_CTRL_OWNER = true) (hfree : slotState s c.val k.val ≠ 2) :
    exec (.slotArm (some who) c k) s = .next (rapAnswer (slotArm c.val k.val (slotShadow s c.val k.val) s) who.val .ok []) := by
  rw [exec_slotArm, execSlotArm]
  simp only [slotWrite_rap hmay howner, if_neg hfree]

theorem exec_slotArm_not_owner {who : Fin 36} {c : Fin 4} {k : Fin 128} {s : State} (hmay : rapMay s who.val .can 7 = true)
    (howner : fbit s (R.CAN_SLOT_CTRL c.val k.val) F.CAN_SLOT_CTRL_OWNER = false) :
    exec (.slotArm (some who) c k) s = .next (rapAnswer s who.val .notOwner []) := by
  rw [exec_slotArm, execSlotArm]
  simp only [slotWrite, hmay, howner, Bool.true_eq_false, Bool.false_eq_true, if_false]

theorem exec_slotAbort_sending {c : Fin 4} {k : Fin 128} {s : State} (hcan : domOn s 7 = true) (hcore : domOn s 1 = true)
    (howner : fbit s (R.CAN_SLOT_CTRL c.val k.val) F.CAN_SLOT_CTRL_OWNER = false) (hsending : slotState s c.val k.val = 2) :
    exec (.slotAbort none c k) s = .next (setCan c.val { canOf s c.val with aborting := true } s) := by
  rw [exec_slotAbort, execSlotAbort]
  simp only [slotWrite_core hcan hcore howner, if_pos hsending]

theorem exec_slotAbort_waiting {c : Fin 4} {k : Fin 128} {s : State} (hcan : domOn s 7 = true) (hcore : domOn s 1 = true)
    (howner : fbit s (R.CAN_SLOT_CTRL c.val k.val) F.CAN_SLOT_CTRL_OWNER = false) (hwaiting : slotState s c.val k.val = 1) :
    exec (.slotAbort none c k) s = .next (slotEnd c.val k.val 9 true s) := by
  rw [exec_slotAbort, execSlotAbort]
  simp only [slotWrite_core hcan hcore howner, hwaiting, OfNat.one_ne_ofNat, if_false, if_true]

theorem exec_startOpportunity_winner {c : Fin 4} {q : Nat} {s : State} {k : Nat} {a : SlotAct} (hon : domOn s 7 = true)
    (hmode : canMode s c.val = 0) (hbus : canState s c.val < 2) (hidle : (canOf s c.val).cur = none) (hq : quantumPast s c.val q = false)
    (hlate : (slotsDue s c.val).filter (fun x => slotLate x.2 s.tb) = [])
    (hwin : slotWinner ((slotsDue s c.val).filter (fun x => !slotLate x.2 s.tb)) = some (k, a)) :
    exec (.startOpportunity c q) s = .next (slotSet c.val k F.CAN_SLOT_STAT_STATE 2 (fincSat (setCan c.val { canOf s c.val with
      cur := some (k, s.tb + q), aborting := false } s) (R.CAN_SLOT_STAT c.val k) F.CAN_SLOT_STAT_ATTEMPTS)) := by
  rw [exec_startOpportunity, execStartOpportunity, if_neg (by simp [hon, hmode, Nat.not_le.2 hbus, hidle, hq])]
  simp only [hlate, forEach, List.foldl_nil, hwin]

theorem exec_canTxEnd_arbitration_lost {c : Fin 4} {s : State} {k t : Nat} {a : SlotAct} (hcur : (canOf s c.val).cur = some (k, t))
    (hact : slotAct s c.val k = some a) :
    exec (.canTxEnd c .arb none) s = .next (slotHeld c.val k (canOf s c.val).aborting (slotFail c.val k a .arb
      (canOf s c.val).aborting (tdcShow c.val (slotFrame a).brs none (setCan c.val { canOf s c.val with cur := none, aborting := false } s)))) := by
  rw [exec_canTxEnd, execCanTxEnd]
  simp only [hcur, hact]
  rw [show (TxEnd.arb != TxEnd.ok) = true from rfl, Bool.and_true]

theorem exec_lateLimExpiry_past {c : Fin 4} {k : Fin 128} {s : State} {a : SlotAct} (hact : slotAct s c.val k.val = some a) (hon : domOn s 7 = true)
    (hwaiting : slotState s c.val k.val = 1) (hlate : slotLate a s.tb = true) :
    exec (.lateLimExpiry c k) s = .next (slotEnd c.val k.val 2 false s) := by
  rw [exec_lateLimExpiry, execLateLimExpiry, hact]
  exact congrArg _ (if_pos ⟨hon, hwaiting, hlate⟩)

theorem exec_txTbReached_bus_off {c : Fin 4} {k : Fin 128} {s : State} {a : SlotAct} (hact : slotAct s c.val k.val = some a)
    (hon : domOn s 7 = true) (hbus : canState s c.val = 2) (hwaiting : slotState s c.val k.val = 1) (hsingle : a.single = true)
    (hdue : a.txTb ≤ s.tb) : exec (.txTbReached c k) s = .next (slotEnd c.val k.val 8 false s) := by
  rw [exec_txTbReached, execTxTbReached, hact]
  exact congrArg _ (if_pos ⟨hon, hbus, hwaiting, hsingle, hdue⟩)

/-- Settles O26, a command and a case at a time. -/
theorem canBusCommandsComplete : Obligations.CanBusCommandsComplete :=
  ⟨fun _ _ _ _ => exec_canFrame_listening, fun _ _ _ _ => exec_canFrame_normal, fun _ _ _ _ _ => exec_canQueueDrain_oldest,
    fun _ _ _ _ _ => exec_canError_receiver, fun _ _ => exec_busOffRecovery_done, fun _ _ _ => exec_canRecover_begins,
    fun _ _ => exec_busOffRecovery_early, fun _ _ _ _ => exec_canModeWrite_allowed, fun _ _ => exec_canModeApply_idle,
    fun _ _ _ _ => exec_slotArm_free, fun _ _ _ _ => exec_slotArm_not_owner, fun _ _ _ => exec_slotAbort_sending,
    fun _ _ _ => exec_slotAbort_waiting, fun _ _ _ _ _ => exec_startOpportunity_winner, fun _ _ _ _ _ => exec_canTxEnd_arbitration_lost,
    fun _ _ _ _ => exec_lateLimExpiry_past, fun _ _ _ _ => exec_txTbReached_bus_off⟩

/-! ### The address claim (R318, R325) -/

theorem exec_addressClaim_idle {c : Fin 4} {s : State} (hon : isoOn s c.val = true) (hidle : (canOf s c.val).claim = 0) :
    exec (.addressClaim c) s = .next (isoClaim c.val (isoPref s) s) := by
  rw [exec_addressClaim, execAddressClaim, if_pos ⟨hon, hidle⟩]

theorem exec_claimQuietEnd_due {c : Fin 4} {s : State} (hclaim : (canOf s c.val).claim = 1) (hend : (canOf s c.val).claimAt + msTicks 250 ≤ s.tb) :
    exec (.claimQuietEnd c) s = .next (setCan c.val { canOf s c.val with claim := 2 } s) := by
  rw [exec_claimQuietEnd, execClaimQuietEnd, if_pos ⟨hclaim, hend⟩]

theorem exec_addressClaimedReceived_new {c : Fin 4} {a : Fin 256} {name : Nat} {s : State} (hon : canOn (canTake c.val 0 s) c.val = true)
    (hused : (canOf (canTake c.val 0 s) c.val).used = []) (hidle : (canOf (canTake c.val 0 s) c.val).claim = 0) (haddr : a.val ≤ 253) :
    exec (.addressClaimedReceived c a name) s = .next (
      let t := canTake c.val 0 s
      setCan c.val { canOf t c.val with used := [(a.val, name)] } t) := by
  rw [exec_addressClaimedReceived, execAddressClaimedReceived]
  simp only [hon, hused, hidle, haddr, List.find?_nil, List.filter_nil, List.map_nil, List.append_nil, forEach, List.foldl_nil, smIns,
    Bool.true_eq_false, Bool.false_eq_true, ne_eq, zero_ne_one, OfNat.zero_ne_ofNat, not_false_eq_true, if_false, if_true, and_self,
    true_or, or_true]

theorem exec_requestAddressClaimed_claimed {c : Fin 4} {s : State} (hon : isoOn (canTake c.val 0 s) c.val = true)
    (hclaim : (canOf (canTake c.val 0 s) c.val).claim = 2) :
    exec (.requestAddressClaimed c) s = .next (
      let t := canTake c.val 0 s
      send t MsgKind.ADDRESS_CLAIMED c.val [(fget t (R.CAN_ISO c.val) F.CAN_ISO_ADDR : Int), (isoShown t c.val : Int)]) := by
  rw [exec_requestAddressClaimed, execRequestAddressClaimed]
  simp only [hon, hclaim, Bool.true_eq_false, if_false]

theorem exec_requestAddressClaimed_cannot {c : Fin 4} {s : State} (hon : isoOn (canTake c.val 0 s) c.val = true)
    (hclaim : (canOf (canTake c.val 0 s) c.val).claim = 3) :
    exec (.requestAddressClaimed c) s = .next (send (canTake c.val 0 s) MsgKind.CANNOT_CLAIM c.val [(isoShown (canTake c.val 0 s) c.val : Int)]) := by
  rw [exec_requestAddressClaimed, execRequestAddressClaimed]
  simp only [hon, hclaim, Bool.true_eq_false, if_false]

theorem exec_commandedAddress_own_name {c : Fin 4} {a : Fin 254} {s : State} (hon : isoOn (canTake c.val 0 s) c.val = true)
    (hclaim : (canOf (canTake c.val 0 s) c.val).claim = 2) :
    exec (.commandedAddress c (isoShown (canTake c.val 0 s) c.val) a) s = .next (isoClaim c.val a.val (canTake c.val 0 s)) := by
  rw [exec_commandedAddress, execCommandedAddress]
  exact congrArg _ (if_pos ⟨hon, rfl, .inr hclaim⟩)

/-! ### DM clears (R450) and transport sessions (R326) -/

theorem exec_isoTransport_first {c : Fin 4} {p : Fin 256} {pgn n : Nat} {s : State} (hon : canOn (canTake c.val 0 s) c.val = true)
    (hnone : (canOf (canTake c.val 0 s) c.val).tp = []) (hlen : n ≤ 117440505) :
    exec (.isoTransport c p false false pgn (.start n) none) s = .next (
      let t := canTake c.val 0 s
      setCan c.val { canOf t c.val with tp := [⟨p.val, false, false, n, []⟩] } t) := by
  rw [exec_isoTransport, execIsoTransport]
  simp only [hon, hnone, List.filter_nil, List.length_nil, List.nil_append, Nat.not_lt.2 hlen, Bool.true_eq_false, Bool.false_eq_true,
    false_and, or_self, if_false, show ¬16 ≤ 0 by decide]

theorem exec_isoTransport_full {c : Fin 4} {p : Fin 256} {pgn n : Nat} {s : State} (hon : canOn (canTake c.val 0 s) c.val = true)
    (hfull : 16 ≤ ((canOf (canTake c.val 0 s) c.val).tp.filter (fun t => !tpIs p.val false false t)).length) :
    exec (.isoTransport c p false false pgn (.start n) none) s = .next (send (canTake c.val 0 s) MsgKind.TP_ABORT p.val [(c.val : Int)]) := by
  rw [exec_isoTransport, execIsoTransport]
  simp only [hon, hfull, Bool.true_eq_false, Bool.false_eq_true, if_false, true_or, if_true]

theorem exec_isoTransport_abort {c : Fin 4} {p : Fin 256} {pgn : Nat} {s : State} (hon : canOn (canTake c.val 0 s) c.val = true) :
    exec (.isoTransport c p false false pgn .abort none) s = .next (
      let t := canTake c.val 0 s
      setCan c.val { canOf t c.val with tp := (canOf t c.val).tp.filter (fun y => !tpIs p.val false false y) } t) := by
  rw [exec_isoTransport, execIsoTransport]
  simp only [hon, Bool.true_eq_false, Bool.false_eq_true, if_false]

/-- Settles O27, a command and a case at a time. -/
theorem isoCommandsComplete : Obligations.IsoCommandsComplete :=
  ⟨fun _ _ => exec_addressClaim_idle, fun _ _ => exec_claimQuietEnd_due, fun _ _ _ _ => exec_addressClaimedReceived_new,
    fun _ _ => exec_requestAddressClaimed_claimed, fun _ _ => exec_requestAddressClaimed_cannot, fun _ _ _ => exec_commandedAddress_own_name,
    exec_dm3Clear, exec_dm11Clear, fun _ _ _ _ _ => exec_isoTransport_first, fun _ _ _ _ _ => exec_isoTransport_full,
    fun _ _ _ _ => exec_isoTransport_abort⟩


end Sys2Proof.Proofs

end

section
/-!
PROOFS. Links: frames, acknowledgements, training, up and down, and time transfer (R332 to R336, R346, R347).
-/

open Sys2Proof Sys2Proof.Machine Sys2Proof.Laws

namespace Sys2Proof.Proofs

/-! ### Frames and acknowledgements (R333, R334) -/

theorem exec_linkFrame_bad_crc {n : Fin 5} {f : LFrame} {s : State} (hup : linkUp s n.val = true) (hon : domOn s 6 = true) :
    exec (.linkFrame n f false) s = .next (lcSend n.val 1 (f.cls % 8) (smGet zero (tlOf s n.val).rxExp f.cls)
      (fault (fincSat s (R.TLK_LINK_CNT n.val) F.TLK_LINK_CNT_CRC_ERR) Ev.LINK_RESEND [(n.val : Int), (f.cls : Int)])) := by
  rw [exec_linkFrame, execLinkFrame]
  simp only [hup, hon, Bool.true_eq_false, or_self, if_false, true_or, if_true]

/-- A whole frame that comes over a link in use is neither refused for its CRC nor for its class or length. -/
theorem linkFrame_whole {f : LFrame} (hcls : f.cls ≤ 5) (hlen : f.len ≤ 492) : ¬(true = false ∨ 5 < f.cls ∨ 492 < f.len) := by
  rintro (h | h | h)
  · cases h
  all_goals omega

theorem exec_linkFrame_out_of_sequence {n : Fin 5} {f : LFrame} {s : State} (hup : linkUp s n.val = true) (hon : domOn s 6 = true)
    (hcls : f.cls ≤ 5) (hlen : f.len ≤ 492) (hseq : f.lseq ≠ smGet zero (tlOf s n.val).rxExp f.cls) :
    exec (.linkFrame n f true) s = .next (lcSend n.val 1 f.cls (smGet zero (tlOf s n.val).rxExp f.cls) s) := by
  rw [exec_linkFrame, execLinkFrame, if_neg (by simp [hup, hon]), if_neg (linkFrame_whole hcls hlen), if_pos hseq]

theorem exec_linkFrame_in_sequence {n : Fin 5} {f : LFrame} {s : State} (hup : linkUp s n.val = true) (hon : domOn s 6 = true) (hcls : f.cls ≤ 5)
    (hlen : f.len ≤ 492) (hseq : f.lseq = smGet zero (tlOf s n.val).rxExp f.cls) (hdst : f.dst = midOf s) :
    exec (.linkFrame n f true) s = .next (seenTc4 f (lcSend n.val 2 f.cls 1 (lcSend n.val 0 f.cls f.lseq (setTl n.val { tlOf s n.val with
      rxExp := smSet zero f.cls ((f.lseq + 1) % 256) (tlOf s n.val).rxExp } s)))) := by
  rw [exec_linkFrame, execLinkFrame, if_neg (by simp [hup, hon]), if_neg (linkFrame_whole hcls hlen), if_neg (not_not.2 hseq)]
  exact congrArg _ (if_pos hdst)

theorem exec_lcFrame_ack {n : Fin 5} {c q : Nat} {s : State} (hup : linkUp s n.val = true) :
    exec (.lcFrame n (.ack c q)) s = .next (linkAcked n.val c q s) := by
  rw [exec_lcFrame, execLcFrame, if_neg (by simp [hup])]

theorem exec_lcFrame_nak {n : Fin 5} {c q : Nat} {s : State} (hup : linkUp s n.val = true) :
    exec (.lcFrame n (.nak c q)) s = .next (linkResend n.val c (linkAcked n.val c ((q + 255) % 256) s)) := by
  rw [exec_lcFrame, execLcFrame, if_neg (by simp [hup])]

theorem exec_linkAckTimeout_due {n : Fin 5} {c : Fin 6} {s : State} {u : LFrame × Nat}
    (hfirst : (tlOf s n.val).unacked.find? (fun u => u.1.cls == c.val) = some u) (hup : linkUp s n.val = true)
    (hdue : u.2 + frameTicks u.1 + usTicks 10 ≤ s.tb) : exec (.linkAckTimeout n c) s = .next (linkResend n.val c.val s) := by
  rw [exec_linkAckTimeout, execLinkAckTimeout, hfirst]
  exact congrArg _ (if_pos ⟨hup, hdue⟩)

/-! ### Down, training and up (R332, R336) -/

theorem exec_linkDown_not_down {n : Fin 5} {s : State} (hstate : linkState s n.val ≠ 0) :
    exec (.linkDown n) s = .next (leaderRefresh (linkDown n.val s)) := by
  rw [exec_linkDown, execLinkDown, if_neg hstate]

theorem exec_linkTraining_due {n : Fin 5} {s : State} (hon : domOn s 6 = true) (hstate : linkState s n.val = 0)
    (hdue : (tlOf s n.val).since + msTicks 1 ≤ s.tb) : exec (.linkTraining n) s = .next (linkEnter n.val 1 s) := by
  rw [exec_linkTraining, execLinkTraining, if_pos ⟨hon, hstate, hdue⟩]

theorem exec_linkUp_trained {n : Fin 5} {p : Fin 64} {s : State} (hon : domOn s 6 = true) (hstate : linkState s n.val = 1)
    (hdue : (tlOf s n.val).since + msTicks 1 ≤ s.tb) :
    exec (.linkUp n p) s = .next (leaderRefresh (faultPast (linkEnter n.val 2 (fset (setTl n.val (tlInit n.val) s) (R.TLK_LINK_STAT n.val)
      F.TLK_LINK_STAT_PEER p.val)) Ev.LINK_STATE [(n.val : Int)])) := by
  rw [exec_linkUp, execLinkUp, if_neg (by simp [hon, hstate, Nat.not_lt.2 hdue])]

/-! ### Time transfer (R346, R347) -/

theorem exec_timeSyncRequest_first {n : Fin 5} {fr : Fin 32} {s : State} (hup : linkUp s n.val = true)
    (hparent : fbit s (R.TLK_LINK_STAT n.val) F.TLK_LINK_STAT_PARENT = true) (hnone : (tlOf s n.val).syncAt = none) :
    exec (.timeSyncRequest n fr) s = .next (send (setTl n.val { tlOf s n.val with
      syncAt := some s.tb, t1 := some (s.tb * 32 + fr.val) } s) MsgKind.TIME_SYNC_REQUEST n.val []) := by
  rw [exec_timeSyncRequest, execTimeSyncRequest]
  simp only [hup, hparent, hnone, Bool.true_eq_false, or_self, if_false]

theorem exec_timeSyncRequestRx_up {n : Fin 5} {fr : Fin 32} {d : Nat} {s : State} (hup : linkUp s n.val = true) :
    exec (.timeSyncRequestRx n fr d) s = .next (send s MsgKind.TIME_SYNC_REPLY n.val [((s.tb * 32 + fr.val : Nat) : Int),
      ((s.tb * 32 + fr.val : Nat) : Int) + d, sext 16 (fget s R.TLK_CLK F.TLK_CLK_CLK_OFS)]) := by
  rw [exec_timeSyncRequestRx, execTimeSyncRequestRx, if_neg (by simp [hup])]

theorem exec_timeSyncReply_first_offset {n : Fin 5} {fr : Fin 32} {t2 t3 t1 : Nat} {ofs : Int} {s : State} (ht1 : (tlOf s n.val).t1 = some t1)
    (hnone : (tlOf s n.val).offs = []) :
    exec (.timeSyncReply n fr t2 t3 ofs) s = .next (
      let there : Int := (t2 : Int) - t1
      let back : Int := ((s.tb : Int) * 32 + fr.val) - t3
      let o := divOpen (back - there) 2
      let mean := divOpen (0 + o) 1
      let clk := clampInt (-32768) 32767 (mean + ofs)
      let t := setTl n.val { tlOf s n.val with t1 := none, offs := [o] } s
      let u := fset (fset t (R.TLK_LINK_DLY n.val) F.TLK_LINK_DLY_DELAY (fitS 17 (divOpen (there + back) 2))) (R.TLK_LINK_DLY n.val)
        F.TLK_LINK_DLY_OFFSET (fitS 16 o)
      let v := fset u R.TLK_CLK F.TLK_CLK_CLK_OFS (bitsOf 16 clk)
      alignCheck { v with team := { v.team with
        clk10 := (v.team.clk10 ++ [clk]).drop (v.team.clk10.length + 1 - 10), trim := v.team.trim + clampInt (-100) 100 mean } }) := by
  rw [exec_timeSyncReply, execTimeSyncReply]
  simp only [ht1, hnone]
  rfl

/-- Settles O28, a command and a case at a time. -/
theorem linkCommandsComplete : Obligations.LinkCommandsComplete :=
  ⟨fun _ _ _ => exec_linkFrame_bad_crc, fun _ _ _ => exec_linkFrame_out_of_sequence, fun _ _ _ => exec_linkFrame_in_sequence,
    fun _ _ _ _ => exec_lcFrame_ack, fun _ _ _ _ => exec_lcFrame_nak, fun _ _ _ _ => exec_linkAckTimeout_due, fun _ _ => exec_linkDown_not_down,
    fun _ _ => exec_linkTraining_due, fun _ _ _ => exec_linkUp_trained, fun _ _ _ => exec_timeSyncRequest_first,
    fun _ _ _ _ => exec_timeSyncRequestRx_up, fun _ _ _ _ _ _ _ => exec_timeSyncReply_first_offset⟩


end Sys2Proof.Proofs

end

section
/-!
PROOFS. The pair: shadow, heartbeats, loss, takeover, claims and handover (R350 to R355).
-/

open Sys2Proof Sys2Proof.Machine Sys2Proof.Laws

namespace Sys2Proof.Proofs

/-! ### The shadow (R351) -/

theorem exec_shadowState_corrupted {sh : Shadow} {s : State} (hon : domOn s 6 = true) (hshadow : pairState s = 2) :
    exec (.shadowState sh false) s = .next (fault (fsetb s R.TLK_PAIR_STAT F.TLK_PAIR_STAT_SHADOW_BAD true) Ev.SHADOW_BAD []) := by
  rw [exec_shadowState, execShadowState, if_neg (by simp [hon, hshadow]), if_pos rfl]

theorem exec_shadowState_good {sh : Shadow} {s : State} (hon : domOn s 6 = true) (hshadow : pairState s = 2)
    (hpast : fltHeld s Ev.SHADOW_BAD [] = false) :
    exec (.shadowState sh true) s = .next (send { s with team := { s.team with shadow := some sh } } MsgKind.PL_ACK (partnerOf (midOf s))
      [(sh.b : Int), 1]) := by
  have hpast' : faultPast s Ev.SHADOW_BAD [] = s := by rw [faultPast, hpast]; rfl
  have hstate (x : Team) : pairState { s with team := x } = 2 := hshadow
  rw [exec_shadowState, execShadowState, if_neg (by simp [hon, hshadow])]
  simp only [hpast', hshadow, hstate, Bool.true_eq_false, Nat.reduceEqDiff, false_and, if_false]
  rfl

/-! ### Heartbeats and their loss (R352, R353) -/

theorem exec_plHeartbeatSend_first {s : State} (hplan : pairPlanned s = true) (hon : domOn s 6 = true) (hnone : s.team.hbTx = none) :
    exec .plHeartbeatSend s = .next (send { s with team := { s.team with hbNext := (s.team.hbNext + 1) % 16, hbTx := some s.tb } }
      MsgKind.PL_HEARTBEAT (partnerOf (midOf s)) [(s.team.hbNext : Int), (b2n (drives s && s.team.formed) : Int), (b2n s.team.healthy : Int),
        (b2n s.team.handover.isSome : Int), ((s.team.handover.getD 0 : Nat) : Int)]) := by
  rw [exec_plHeartbeatSend, execPlHeartbeatSend]
  simp only [hplan, hon, hnone, Bool.true_eq_false, or_self, if_false]

theorem pairState_withTeam (x : Team) (s : State) : pairState { s with team := x } = pairState s := rfl

theorem pairState_fset_other {s : State} {f : Fld} {v : Nat} (hf : inWord f) (hne : 3 ≤ f.lo) :
    pairState (fset s R.TLK_PAIR_STAT f v) = pairState s := fget_fset_other hf (.inl hne)

theorem exec_plHeartbeat_alone_first {n : Fin 16} {d : Bool} {h : Option Nat} {s : State} (hplan : pairPlanned s = true) (hon : domOn s 6 = true)
    (hlost : fbit s R.TLK_PAIR_STAT F.TLK_PAIR_STAT_PARTNER_HB = false) (hstate : pairState s = 0) :
    exec (.plHeartbeat n d true h) s = .next (
      let t := faddSat s R.TLK_PAIR_STAT F.TLK_PAIR_STAT_HB_MISSED 0
      fsetb { t with team := { t.team with hbAt := some s.tb, hbCnt := n.val, hbDrive := d } } R.TLK_PAIR_STAT
        F.TLK_PAIR_STAT_PARTNER_HB true) := by
  have hstate' (x : Team) : pairState (fsetb { faddSat s R.TLK_PAIR_STAT F.TLK_PAIR_STAT_HB_MISSED 0 with team := x } R.TLK_PAIR_STAT
      F.TLK_PAIR_STAT_PARTNER_HB true) = 0 := by
    rw [fsetb, pairState_fset_other (by decide) (by decide)]
    refine (pairState_withTeam x _).trans ?_
    rw [faddSat, pairState_fset_other (by decide) (by decide), hstate]
  rw [exec_plHeartbeat, execPlHeartbeat, if_neg (by simp [hplan, hon])]
  simp only [hlost, hstate, hstate', Bool.true_eq_false, Bool.false_eq_true, OfNat.zero_ne_ofNat, zero_ne_one, false_and, if_false]

theorem exec_partnerLost_due {s : State} {t : Nat} (hlast : s.team.hbAt = some t) (hhb : fbit s R.TLK_PAIR_STAT F.TLK_PAIR_STAT_PARTNER_HB = true)
    (hdue : t + 1300 ≤ s.tb) : exec .partnerLost s = .next (partnerLost s) := by
  rw [exec_partnerLost, execPartnerLost, hlast]
  exact congrArg _ (if_pos ⟨hhb, hdue⟩)

/-! ### Takeover, claims and positions (R354) -/

theorem exec_takeoverComplete_running {s : State} (hstate : pairState s = 4) : exec .takeoverComplete s = .next (takeOver s.tb s) := by
  rw [exec_takeoverComplete, execTakeoverComplete, if_neg (not_not.2 hstate)]

section
variable {m : Fin 64} {t : Nat} {s : State} (hother : m.val ≠ midOf s) (hon : domOn s 6 = true)
  (hled : leaderOf s ≠ some (partnerOf m.val)) (hlead : isLeader s = false)
include hother hon hled hlead

/-- Of a claim of another position's module, heard by a member that it does not lead and that leads none, only the own pair matters. -/
theorem exec_driveClaim_unled : exec (.driveClaim m t) s =
    .next (if m.val = partnerOf (midOf s) ∧ (pairState s = 1 ∨ pairState s = 0) then yieldPosition s else s) := by
  rw [exec_driveClaim, execDriveClaim, if_neg (by simp [hother, hon])]
  simp only [hled, hlead, Bool.false_eq_true, if_false]

end

theorem exec_positionSafe_member {p : Fin 32} {s : State} (hpos : p.val ≠ posOf s) (hgone : s.team.members.filter (fun m => m / 2 == p.val) ≠ [])
    (hlead : isLeader (setMembers (s.team.members.filter (fun m => m / 2 != p.val)) s) = false) :
    exec (.positionSafe p) s = .next (setMembers (s.team.members.filter (fun m => m / 2 != p.val)) s) := by
  rw [exec_positionSafe, execPositionSafe, if_neg (by simp only [hpos, hgone, or_self, not_false_eq_true])]
  exact congrArg _ (if_neg (by simp [hlead]))

/-! ### A partner that is absent, and a pair unresolved (R355) -/

theorem exec_partnerAbsentReport_alone {s : State} (hstate : pairState s = 1) (hlost : fbit s R.TLK_PAIR_STAT F.TLK_PAIR_STAT_PARTNER_HB = false) :
    exec .partnerAbsentReport s = .next (raise (resolvedPair (forEach s.cov.toAck stripOut (setPair 0 { s with
      cov := { s.cov with toAck := [] }, team := { s.team with lostAt := none } }))) Ev.PAIR_ALONE [(posOf s : Int)]) := by
  rw [pairState] at hstate
  rw [exec_partnerAbsentReport, execPartnerAbsentReport, partnerAlone, if_neg (by simp [hstate, hlost])]
  rfl

theorem resolvedPair_unresolved {s : State} (hbit : fbit s R.TLK_PAIR_STAT F.TLK_PAIR_STAT_PAIR_UNRESOLVED = true) :
    resolvedPair s = faultEnd (fsetb s R.TLK_PAIR_STAT F.TLK_PAIR_STAT_PAIR_UNRESOLVED false) Ev.PAIR_UNRESOLVED [(posOf s : Int)] := by
  rw [resolvedPair, if_pos hbit]

theorem exec_pairUnresolved_due {s : State} {t : Nat} (hlost : s.team.lostAt = some t) (hstate : pairState s = 1) (hdue : t + msTicks 100 ≤ s.tb)
    (hbit : fbit s R.TLK_PAIR_STAT F.TLK_PAIR_STAT_PAIR_UNRESOLVED = false) :
    exec .pairUnresolved s = .next (fault (fsetb s R.TLK_PAIR_STAT F.TLK_PAIR_STAT_PAIR_UNRESOLVED true) Ev.PAIR_UNRESOLVED
      [(posOf s : Int)]) := by
  rw [exec_pairUnresolved, execPairUnresolved, hlost]
  exact congrArg _ (if_pos ⟨hstate, hdue, hbit⟩)

/-! ### Handover (R350) -/

theorem exec_handover_accepted {who : Fin 36} {s : State} (hmay : rapMay s who.val .handover 6 = true) (hstate : pairState s = 1)
    (hshadow : s.team.partnerSh = true) (hhb : fbit s R.TLK_PAIR_STAT F.TLK_PAIR_STAT_PARTNER_HB = true) :
    exec (.handover who) s = .next (rapAnswer { s with team := { s.team with
      handover := some (boundaryFrom (s.tb + 10 * cycleTicks)) } } who.val .ok []) := by
  rw [exec_handover, execHandover, rapDo_allowed _ _ hmay, if_pos ⟨hstate, hshadow, hhb⟩]

theorem exec_handoverApply_shadow {s : State} {H : Nat} (hset : s.team.handover = some H) (hdue : H ≤ s.tb) (hstate : pairState s = 2) :
    exec .handoverApply s = .next (takeOver H s) := by
  rw [exec_handoverApply, execHandoverApply, hset]
  simp only [Nat.not_lt.2 hdue, hstate, Nat.reduceEqDiff, if_false, if_true]

theorem exec_handoverApply_driver {s : State} {H : Nat} (hset : s.team.handover = some H) (hdue : H ≤ s.tb) (hstate : pairState s = 1) :
    exec .handoverApply s = .next (rolesSync (staged handOff s)) := by
  rw [exec_handoverApply, execHandoverApply, hset]
  simp only [Nat.not_lt.2 hdue, hstate, if_false, if_true]

theorem exec_partnerAck_strip {o : Fin 96} {q : Nat} {b : Bool} {s : State} {x : Strip}
    (hfound : s.cov.toAck.find? (fun x => x.out == o.val + 1 && x.seq == q) = some x) :
    exec (.partnerAck (some (o, q)) b) s = .next (stripOut x { s with cov := { s.cov with
      toAck := removeFirst (fun y => y == x) s.cov.toAck } }) := by
  rw [exec_partnerAck, execPartnerAck]
  simp only [hfound]

theorem exec_partnerAck_shadow {b : Bool} {s : State} (hstate : pairState s = 1) :
    exec (.partnerAck none b) s = .next { s with team := { s.team with partnerSh := b } } := by
  rw [exec_partnerAck, execPartnerAck]
  exact congrArg _ (if_pos hstate)

/-- Settles O30, a command and a case at a time. -/
theorem pairCommandsComplete : Obligations.PairCommandsComplete :=
  ⟨fun _ _ => exec_shadowState_corrupted, fun _ _ => exec_shadowState_good, fun _ => exec_plHeartbeatSend_first,
    fun _ _ _ _ => exec_plHeartbeat_alone_first, fun _ _ => exec_partnerLost_due, fun _ => exec_takeoverComplete_running,
    fun _ _ _ hother hon hled hlead hpart => (exec_driveClaim_unled hother hon hled hlead).trans (congrArg _ (if_neg fun h => hpart h.1)),
    fun _ _ _ hother hon hled hlead hpart hstate => (exec_driveClaim_unled hother hon hled hlead).trans (congrArg _ (if_pos ⟨hpart, .inl hstate⟩)),
    fun _ _ => exec_positionSafe_member, fun _ => exec_partnerAbsentReport_alone, fun _ => resolvedPair_unresolved,
    fun _ _ => exec_pairUnresolved_due, fun _ _ => exec_handover_accepted, fun _ _ => exec_handoverApply_shadow,
    fun _ _ => exec_handoverApply_driver, fun _ _ _ _ _ => exec_partnerAck_strip, fun _ _ => exec_partnerAck_shadow⟩


end Sys2Proof.Proofs

end

section
/-!
PROOFS. The safety island: evaluation, inputs, pulses, outputs, reset edge and connections (R360 to R370, R376 to R378).
-/

open Sys2Proof Sys2Proof.Machine Sys2Proof.Laws

namespace Sys2Proof.Proofs

/-! ### Evaluation and inputs (R360, R363 to R365) -/

theorem exec_safetyEvaluation_awake {no nc : BitVec 16} {h l sh : BitVec 4} {mv temp : Int} {s : State} (hon : s.pwr.powered = true)
    (hawake : s.pwr.asleep = false) :
    exec (.safetyEvaluation no nc h l sh false false mv temp) s =
      .next (staged (fun x => forN 4 (soEval h l sh) (islandCheck no nc (selfFail false mv temp) (safTick x))) s) := by
  rw [exec_safetyEvaluation, execSafetyEvaluation, if_neg (by simp [hon, hawake])]
  refine congrArg _ (staged_congr ?_)
  simp only [Bool.false_eq_true, and_false, if_false]

theorem exec_islandHeartbeatLoss_awake {s : State} (hon : s.pwr.powered = true) (hawake : s.pwr.asleep = false) :
    exec .islandHeartbeatLoss s = .next (staged (islandReset 3) s) := by
  rw [exec_islandHeartbeatLoss, execIslandHeartbeatLoss, if_neg (by simp [hon, hawake])]

theorem exec_siChannelAccepted_srst {b : Bool} {s : State} (hon : s.pwr.powered = true) (hawake : s.pwr.asleep = false) :
    exec (.siChannelAccepted 8 b) s = .next (srstAccept b s) := by
  rw [exec_siChannelAccepted, execSiChannelAccepted, if_neg (by simp [hon, hawake]),
    if_pos (show ((8 : Fin 9) : Nat) = 8 from rfl)]

theorem exec_siChannelAccepted_input {c : Fin 9} {b : Bool} {s : State} (hon : s.pwr.powered = true) (hawake : s.pwr.asleep = false)
    (hch : c.val ≠ 8) : exec (.siChannelAccepted c b) s = .next (chAccept (c.val / 2) (c.val % 2 == 1) b s) := by
  rw [exec_siChannelAccepted, execSiChannelAccepted, if_neg (by simp [hon, hawake]), if_neg hch]

theorem exec_testPulse_a {o c : BitVec 4} {s : State} (hon : s.pwr.powered = true) (hawake : s.pwr.asleep = false) (hend : pulseEnd false s = true) :
    exec (.testPulse false false o c) s = .next (
      let t := forN 4 (pulseInput false o c) (pulseSeen false s)
      drvClear { t with saf := { t.saf with drvA := t.saf.drvA.map (· + 1) } }) := by
  rw [exec_testPulse, execTestPulse, if_neg (by simp [hon, hawake, hend])]
  simp only [Bool.false_eq_true, if_false]

theorem exec_discrepancy_due {x : Fin 4} {t : Nat} {s : State} (hfirst : (siOf s x.val).firstAt = some t) (hdue : t + discMs s < s.saf.ms) :
    exec (.discrepancy x) s = .next (siFaulted x.val F.SAF_IN_DISCREPANCY Ev.DISCREPANCY s) := by
  rw [exec_discrepancy, execDiscrepancy, hfirst]
  exact congrArg _ (if_pos hdue)

/-! ### Outputs (R367 to R369) -/

theorem exec_soOffPulseTest_passes {x : Fin 4} {s : State} (hclosed : fbit s (R.SAF_SO x.val) F.SAF_SO_CLOSED = true)
    (hdue : (soOf s x.val).dueH ≤ s.saf.ms) :
    exec (.soOffPulseTest x false true) s = .next (fincWrap (setSo x.val { soOf s x.val with dueH := (soOf s x.val).dueH + tTest s } s)
      (R.SAF_SO x.val) F.SAF_SO_TESTS) := by
  rw [exec_soOffPulseTest, execSoOffPulseTest]
  simp only [hclosed, Nat.not_lt.2 hdue, Bool.true_eq_false, Bool.false_eq_true, or_self, if_false, if_true]

theorem exec_soOffPulseTest_fails {x : Fin 4} {s : State} (hclosed : fbit s (R.SAF_SO x.val) F.SAF_SO_CLOSED = true)
    (hdue : (soOf s x.val).dueH ≤ s.saf.ms) : exec (.soOffPulseTest x false false) s = .next (staged (outFault x.val Ev.SO_TEST_FAIL) s) := by
  rw [exec_soOffPulseTest, execSoOffPulseTest]
  simp only [hclosed, Nat.not_lt.2 hdue, Bool.true_eq_false, Bool.false_eq_true, or_self, if_false]

section
variable {x : Fin 4} {s : State} (hon : s.pwr.powered = true) (hawake : s.pwr.asleep = false)
  (hopen : fbit s (R.SAF_SO x.val) F.SAF_SO_CLOSED = false) (hshut : (soOf s x.val).shut = false) (hused : soUsed s x.val = true)
  (hok : fbit s (R.SAF_SO x.val) F.SAF_SO_OUT_FAULT = false) (hnone : (soOf s x.val).preAt = none)
include hon hawake hopen hshut hused hok hnone

/-- The first test before a close of an open output in use is made: it passes or faults the output. -/
theorem exec_soPrecloseTest_first (ok : Bool) : exec (.soPrecloseTest x ok) s =
    .next (if ok then setSo x.val { soOf s x.val with tested := true, preAt := some s.saf.ms } s else outFault x.val Ev.SO_TEST_FAIL s) := by
  rw [exec_soPrecloseTest, execSoPrecloseTest]
  simp only [hon, hawake, hopen, hshut, hused, hok, hnone, Bool.true_eq_false, Bool.false_eq_true, or_self, if_false]

end

theorem exec_soStuck_open {x : Fin 4} {s : State} (hopen : fbit s (R.SAF_SO x.val) F.SAF_SO_CLOSED = false) (hbad : rbBad s x.val = true) :
    exec (.soStuck x) s = .next (outFault x.val Ev.SO_STUCK s) := by
  rw [exec_soStuck, execSoStuck, if_pos ⟨hopen, hbad⟩]

theorem exec_soOpenFail_closed {x : Fin 4} {s : State} (hclosed : fbit s (R.SAF_SO x.val) F.SAF_SO_CLOSED = true) (hbad : rbBad s x.val = true) :
    exec (.soOpenFail x) s = .next (staged (outFault x.val Ev.SO_OPEN_FAIL) s) := by
  rw [exec_soOpenFail, execSoOpenFail, if_pos ⟨hclosed, hbad⟩]

/-! ### The reset edge (R366, R370) -/

theorem exec_srstEdge_seen {s : State} (hedge : s.saf.edge = true) :
    exec .srstEdge s = .next (staged (fun y => forN 4 (fun x z =>
      if fbit z (R.SAF_SO x) F.SAF_SO_CLOSED = false ∧ soAuto z x = false ∧ soHolds z x ∧ (soOf z x).tested then soClose x z else z)
      { y with saf := { y.saf with edge := false } }) s) := by
  rw [exec_srstEdge, execSrstEdge, if_neg (by simp [hedge])]

theorem exec_srstStuck_due {t : Nat} {s : State} (hsince : s.saf.srstAt = some t) (hhigh : s.saf.srst = true) (hdue : t + 5000 < s.saf.ms)
    (hbit : fbit s R.SAF_STATUS F.SAF_STATUS_SRST_STUCK = false) :
    exec .srstStuck s = .next (raise (fsetb s R.SAF_STATUS F.SAF_STATUS_SRST_STUCK true) Ev.SRST_STUCK []) := by
  rw [exec_srstStuck, execSrstStuck, hsince]
  exact congrArg _ (if_pos ⟨hhigh, hdue, hbit⟩)

theorem exec_soAutoRestart_due {x : Fin 4} {t : Nat} {s : State} (hsince : (soOf s x.val).since = some t)
    (hopen : fbit s (R.SAF_SO x.val) F.SAF_SO_CLOSED = false) (hauto : soAuto s x.val = true) (htested : (soOf s x.val).tested = true)
    (hholds : soHolds s x.val = true) (hdue : t + 500 ≤ s.saf.ms) : exec (.soAutoRestart x) s = .next (staged (soClose x.val) s) := by
  rw [exec_soAutoRestart, execSoAutoRestart, hsince]
  exact congrArg _ (if_pos ⟨hopen, hauto, htested, hholds, hdue⟩)

/-! ### Connections (R376 to R378) -/

theorem exec_safetyPduSend_first {n : Fin 64} {d : ConnDef} {s : State} (hdef : connDef s n.val = some d) (hprod : d.producer = true)
    (hfirst : (connOf s n.val).seen = false) (hwire : d.ctrl = none) (hon : s.pwr.powered = true) (hawake : s.pwr.asleep = false) :
    exec (.safetyPduSend n) s = .next (
      let q := (fget s (R.SAF_CONN_STAT n.val) F.SAF_CONN_STAT_LAST + 1) % 65536
      send (setConn n.val { connOf s n.val with seen := true, at_ := s.saf.ms, flt := islandHeld s } (fset (fset s (R.SAF_CONN_STAT n.val) F.SAF_CONN_STAT_LAST q)
        (R.SAF_CONN_STAT n.val) F.SAF_CONN_STAT_SIG (sigOwn s))) MsgKind.SAFETY_PDU d.peer [(n.val : Int), 1, (q : Int), (sigOwn s : Int),
        (b2n (islandHeld s) : Int), (safetyChk d.hid q (sigOwn s) (b2n (islandHeld s)) : Int)]) := by
  rw [exec_safetyPduSend, execSafetyPduSend, hdef]
  simp only [hprod, hfirst, hwire, hon, hawake, Bool.true_eq_false, Bool.false_eq_true, and_false, or_self, if_false]

/-- A PDU of a connection of an awake module over the link is taken by the connection. -/
theorem exec_safetyPdu_link {src : Nat} {n v : Fin 256} {q : Fin 65536} {g st : BitVec 8} {k : BitVec 32} {d : ConnDef} {s : State}
    (hfor : connFor s none src n = some d) (hon : s.pwr.powered = true) (hawake : s.pwr.asleep = false) :
    exec (.safetyPdu none src n v q g st k) s = .next (pduTake d v q g st k s) := by
  rw [exec_safetyPdu, execSafetyPdu, hfor]
  simp only [hon, hawake, Bool.true_eq_false, Bool.false_eq_true, or_self, if_false]

theorem exec_safetyPdu_corrupted {src : Nat} {n v : Fin 256} {q : Fin 65536} {g st : BitVec 8} {k : BitVec 32} {d : ConnDef} {s : State}
    (hfor : connFor s none src n = some d) (hon : s.pwr.powered = true) (hawake : s.pwr.asleep = false)
    (hbad : (v.val ≠ 1 ∨ k.toNat ≠ safetyChk d.hid q.val g.toNat st.toNat)) :
    exec (.safetyPdu none src n v q g st k) s =
      .next (connBad d.idx.val F.SAF_CONN_ERR_CRC_ERR (raise s Ev.SAFETY_CRC [(d.idx.val : Int)])) := by
  rw [exec_safetyPdu_link hfor hon hawake, pduTake, if_pos hbad]

theorem exec_safetyPdu_accepted {src : Nat} {n : Fin 256} {q : Fin 65536} {g st : BitVec 8} {k : BitVec 32} {d : ConnDef} {s : State}
    (hfor : connFor s none src n = some d) (hon : s.pwr.powered = true) (hawake : s.pwr.asleep = false)
    (hchk : k.toNat = safetyChk d.hid q.val g.toNat st.toNat) (hseen : (connOf s d.idx.val).seen = true)
    (hnew : (q.val + 65536 - fget s (R.SAF_CONN_STAT d.idx.val) F.SAF_CONN_STAT_LAST) % 65536 ≠ 0)
    (hwin : (q.val + 65536 - fget s (R.SAF_CONN_STAT d.idx.val) F.SAF_CONN_STAT_LAST) % 65536 ≤ d.win) :
    exec (.safetyPdu none src n 1 q g st k) s = .next (connGood d.idx.val q.val g.toNat (st.getLsbD 0) s) := by
  have hgood : ¬((1 : Fin 256).val ≠ 1 ∨ k.toNat ≠ safetyChk d.hid q.val g.toNat st.toNat) := not_or.2 ⟨not_not.2 rfl, not_not.2 hchk⟩
  rw [exec_safetyPdu_link hfor hon hawake, pduTake, if_neg hgood]
  simp only [hseen, Bool.true_eq_false, if_false, if_neg hnew, if_pos hwin]

theorem exec_safetyPdu_can {c : Fin 4} {src : Nat} {n v : Fin 256} {q : Fin 65536} {g st : BitVec 8} {k : BitVec 32} {d : ConnDef} {s : State}
    (hfor : connFor s (some c) src n = some d) (hon : s.pwr.powered = true) (hawake : s.pwr.asleep = false) :
    exec (.safetyPdu (some c) src n v q g st k) s = .next (pduTake d v q g st k (canTake c.val 5 s)) := by
  rw [exec_safetyPdu, execSafetyPdu, hfor]
  simp only [hon, hawake, Bool.true_eq_false, Bool.false_eq_true, or_self, if_false]

theorem exec_connTimeout_due {n : Fin 64} {d : ConnDef} {s : State} (hdef : connDef s n.val = some d) (hcons : d.producer = false)
    (hstate : fget s (R.SAF_CONN_STAT n.val) F.SAF_CONN_STAT_STATE = 1) (hdue : (connOf s n.val).at_ + d.wdt ≤ s.saf.ms) :
    exec (.connTimeout n) s = .next (fault (connEnter n.val 2 s) Ev.CONN_TIMEOUT [(n.val : Int)]) := by
  rw [exec_connTimeout, execConnTimeout, hdef]
  exact congrArg _ (if_pos ⟨hcons, hstate, hdue⟩)

/-- Settles O31, a command and a case at a time. -/
theorem islandCommandsComplete : Obligations.IslandCommandsComplete :=
  ⟨fun _ _ _ _ _ _ _ _ => exec_safetyEvaluation_awake, fun _ => exec_islandHeartbeatLoss_awake, fun _ _ => exec_siChannelAccepted_srst,
    fun _ _ _ => exec_siChannelAccepted_input, fun _ _ _ => exec_testPulse_a, fun _ _ _ => exec_discrepancy_due,
    fun _ _ => exec_soOffPulseTest_passes, fun _ _ => exec_soOffPulseTest_fails,
    fun _ _ hon hawake hopen hshut hused hok hnone => exec_soPrecloseTest_first hon hawake hopen hshut hused hok hnone true,
    fun _ _ hon hawake hopen hshut hused hok hnone => exec_soPrecloseTest_first hon hawake hopen hshut hused hok hnone false,
    fun _ _ => exec_soStuck_open, fun _ _ => exec_soOpenFail_closed, fun _ => exec_srstEdge_seen, fun _ _ => exec_srstStuck_due,
    fun _ _ _ => exec_soAutoRestart_due, fun _ _ _ => exec_safetyPduSend_first, fun _ _ _ _ _ _ _ _ _ => exec_safetyPdu_corrupted,
    fun _ _ _ _ _ _ _ _ => exec_safetyPdu_accepted, fun _ _ _ _ _ _ _ _ _ _ => exec_safetyPdu_can, fun _ _ _ => exec_connTimeout_due⟩


end Sys2Proof.Proofs

end

section
/-!
PROOFS. Sessions: TLS and CAN handshakes, time-outs, lifetimes, key updates and rekeying (R391 to R394).
-/

open Sys2Proof Sys2Proof.Machine Sys2Proof.Laws

namespace Sys2Proof.Proofs

/-! ### TLS sessions (R391, R392) -/

/-- With the first place free a TLS handshake takes it, or is refused with its reason. -/
theorem exec_tlsHandshake_first {c : Cred} {s : State} (hpath : rapPath s = true) (hrun : s.pwm.halted = false) (hfree : sessOf s 0 = none) :
    exec (.tlsHandshake c) s =
      .next (if credCheck s c = 0 then sessOpen 0 0 0 0 0 c s else sessRefused none 0 c (credCheck s c) s) := by
  have hplace : (List.range 4).find? (fun k => (sessOf s k).isNone) = some 0 := List.find?_cons_of_pos (l := [1, 2, 3]) (by simp [hfree])
  rw [exec_tlsHandshake, execTlsHandshake, if_neg (by simp [hpath, hrun]), hplace]

theorem exec_tlsHandshake_opens {c : Cred} {s : State} (hpath : rapPath s = true) (hrun : s.pwm.halted = false) (hfree : sessOf s 0 = none)
    (hok : credCheck s c = 0) : exec (.tlsHandshake c) s = .next (sessOpen 0 0 0 0 0 c s) := by
  rw [exec_tlsHandshake_first hpath hrun hfree, if_pos hok]

theorem exec_tlsHandshake_refused {c : Cred} {s : State} (hpath : rapPath s = true) (hrun : s.pwm.halted = false) (hfree : sessOf s 0 = none)
    (hbad : credCheck s c ≠ 0) : exec (.tlsHandshake c) s = .next (sessRefused none 0 c (credCheck s c) s) := by
  rw [exec_tlsHandshake_first hpath hrun hfree, if_neg hbad]

theorem exec_tlsIdleTimeout_due {k : Fin 4} {x : Sess} {s : State} (hsess : sessOf s k.val = some x) (hdue : x.lastAt + 300 * secTicks ≤ s.tb) :
    exec (.tlsIdleTimeout k) s = .next (sessClose k.val 0 s) := by
  rw [exec_tlsIdleTimeout, execTlsIdleTimeout, hsess]
  exact congrArg _ (if_pos hdue)

theorem exec_tlsLifetimeEnd_due {k : Fin 4} {x : Sess} {s : State} (hsess : sessOf s k.val = some x) (hdue : x.opened + 86400 * secTicks ≤ s.tb) :
    exec (.tlsLifetimeEnd k) s = .next (sessClose k.val 1 s) := by
  rw [exec_tlsLifetimeEnd, execTlsLifetimeEnd, hsess]
  exact congrArg _ (if_pos hdue)

theorem exec_tlsError_open {k : Fin 4} {x : Sess} {s : State} (hsess : sessOf s k.val = some x) :
    exec (.tlsError k) s = .next (sessClose k.val 2 (fault s Ev.TLS_ERROR [(k.val : Int)])) := by
  rw [exec_tlsError, execTlsError, if_neg (by simp [hsess])]

theorem exec_tlsKeyUpdate_receive {k : Fin 4} {x : Sess} {s : State} (hsess : sessOf s k.val = some x) :
    exec (.tlsKeyUpdate k true) s = .next (send (setSess k.val { x with keyRx := x.keyRx + 1 } s) MsgKind.TLS_KEY_UPDATE k.val [1]) := by
  rw [exec_tlsKeyUpdate, execTlsKeyUpdate, hsess]
  rfl

theorem exec_tlsKeyUpdate_send {k : Fin 4} {x : Sess} {s : State} (hsess : sessOf s k.val = some x) :
    exec (.tlsKeyUpdate k false) s = .next (send (setSess k.val { x with keyTx := x.keyTx + 1 } s) MsgKind.TLS_KEY_UPDATE k.val [0]) := by
  rw [exec_tlsKeyUpdate, execTlsKeyUpdate, hsess]
  rfl

/-! ### CAN sessions (R393) -/

theorem exec_rapSession_hello {c : Fin 4} {a : Fin 256} {x : Cred} {s : State} (hcore : domOn s 1 = true) (hcan : domOn s 7 = true)
    (hrun : s.pwm.halted = false) (hok : credCheck (canTake c.val 1 s) { x with sigOk := true } = 0)
    (hplace : (canPlace (canTake c.val 1 s) c.val).isSome = true) :
    exec (.rapSession c a (.hello x)) s = .next (
      let t := canTake c.val 1 s
      send { t with brd := { t.brd with shakes := smIns (c.val * 256 + a.val) x t.brd.shakes } } MsgKind.SESSION_ANSWER a.val
        [(c.val : Int), (t.pwr.serial : Int)]) := by
  rw [exec_rapSession, execRapSession, if_neg (by simp [hcore, hcan, hrun])]
  have hsome : ¬((sessOn (canTake c.val 1 s) c.val a.val).isNone = true ∧ canPlace (canTake c.val 1 s) c.val = none) := by
    rintro ⟨-, h⟩
    rw [h] at hplace
    cases hplace
  simp only [hok, ne_eq, not_true_eq_false, if_false, if_neg hsome]

theorem exec_rapSession_finish_refused {c : Fin 4} {a : Fin 256} {ok : Bool} {sid : Nat} {x : Cred} {s : State} (hcore : domOn s 1 = true)
    (hcan : domOn s 7 = true) (hrun : s.pwm.halted = false) (hshake : (canTake c.val 1 s).brd.shakes = [(c.val * 256 + a.val, x)])
    (hbad : credCheck (canTake c.val 1 s) { x with sigOk := ok } ≠ 0) :
    exec (.rapSession c a (.finish ok sid)) s = .next (
      let t := canTake c.val 1 s
      sessRefused (some c) a.val x (credCheck t { x with sigOk := ok }) (shakeDrop (c.val * 256 + a.val) t)) := by
  have hfind : ((canTake c.val 1 s).brd.shakes.find? (fun y => y.1 == c.val * 256 + a.val)).map (·.2) = some x := by simp [hshake]
  rw [exec_rapSession, execRapSession, if_neg (by simp [hcore, hcan, hrun])]
  simp only [hfind, if_pos hbad]

theorem exec_canSessionRekey_received {who : Fin 36} {x : Sess} {s : State} (hsess : sessOf s who.val = some x) (hcan : 4 ≤ who.val)
    (hnone : x.rekey = none) (htx : x.fTx < 2 ^ 31) (hrx : 2 ^ 31 ≤ x.fRx) :
    exec (.canSessionRekey who) s = .next (setSess who.val { x with rekey := some s.tb } s) := by
  rw [exec_canSessionRekey, execCanSessionRekey, hsess]
  simp only [Nat.not_lt.2 hcan, hnone, Nat.not_lt.2 hrx, Nat.not_le.2 htx, Option.isSome_none, Bool.false_eq_true, false_and, or_self, if_false]

theorem exec_rekeyTimeout_due {who : Fin 36} {x : Sess} {t : Nat} {s : State} (hsess : sessOf s who.val = some x) (hrekey : x.rekey = some t)
    (hdue : t + 10 * secTicks ≤ s.tb) : exec (.rekeyTimeout who) s = .next (sessClose who.val 7 s) := by
  rw [exec_rekeyTimeout, execRekeyTimeout, hsess]
  simp only [hrekey, if_pos hdue]

/-! ### The high-water mark of team time (R394) -/

theorem exec_ttHwmStore_due {s : State} (hon : domOn s 9 = true) (hvalid : fbit s R.BRD_STATUS F.BRD_STATUS_TT_HWM_VALID = true)
    (hdue : s.brd.hwmAt + 60 * secTicks ≤ s.tb) : exec .ttHwmStore s = .next (hwmStore s) := by
  rw [exec_ttHwmStore, execTtHwmStore, if_pos ⟨hon, hvalid, hdue⟩]

/-- Settles O32, a command and a case at a time. -/
theorem sessionCommandsComplete : Obligations.SessionCommandsComplete :=
  ⟨fun _ _ => exec_tlsHandshake_opens, fun _ _ => exec_tlsHandshake_refused, fun _ _ _ => exec_tlsIdleTimeout_due,
    fun _ _ _ => exec_tlsLifetimeEnd_due, fun _ _ _ => exec_tlsError_open, fun _ _ _ => exec_tlsKeyUpdate_receive,
    fun _ _ _ => exec_tlsKeyUpdate_send, fun _ _ _ _ => exec_rapSession_hello, fun _ _ _ _ _ _ => exec_rapSession_finish_refused,
    fun _ _ _ => exec_canSessionRekey_received, fun _ _ _ _ => exec_rekeyTimeout_due, fun _ => exec_ttHwmStore_due⟩


end Sys2Proof.Proofs

end

section
/-!
PROOFS. Ownership: enrolment, liveries, transfer, reclaim, unlock and relock (R387, R388, R398 to R401, R408, R409, R413), and leases
(R402 to R404).
-/

open Sys2Proof Sys2Proof.Machine Sys2Proof.Laws

namespace Sys2Proof.Proofs

/-! ### A command of the bridle block -/

section
variable {who cmd : Nat} {roles : List Role} {f : State → Nat × State} {s : State} {r : Role} (hmay : rapMay s who .brd 1 = true)
  (hrole : sessRole s who = some r)
include hmay hrole

/-- A command by a role that may give it leaves its state, with its result and its number, and is answered. -/
theorem brdDo_allowed (hin : roles.contains r = true) :
    brdDo who cmd roles f s = rapAnswer (brdResult cmd (f s).1 (f s).2) who .ok [] := by
  rw [brdDo, rapDo_allowed _ _ hmay, hrole]
  simp only [hin, if_true]

/-- What an allowed command's checks answer, and its result and state then are. -/
theorem brdDo_result {n : Nat} {t : State} (hin : roles.contains r = true) (hf : f s = (n, t)) :
    brdDo who cmd roles f s = rapAnswer (brdResult cmd n t) who .ok [] := by
  rw [brdDo_allowed hmay hrole hin, hf]

/-- A command by a role that may not give it has result 3. -/
theorem brdDo_other_role (hout : roles.contains r = false) : brdDo who cmd roles f s = rapAnswer (brdResult cmd 3 s) who .ok [] := by
  rw [brdDo, rapDo_allowed _ _ hmay, hrole]
  simp only [hout, Bool.false_eq_true, if_false]

end

/-! ### Enrolment, liveries, transfer and reclaim (R398 to R401, R408) -/

theorem exec_enrollOwner_claim {who : Fin 36} {p : OemPermit} {s : State} (hmay : rapMay s who.val .brd 1 = true)
    (hrole : sessRole s who.val = some .oem) (hobj : s.brd.object = some (.claim p)) (hunowned : fbit s R.BRD_STATUS F.BRD_STATUS_OWNER = false)
    (hpermit : permitCheck s true p = 0) (hteam : (teamSerials s).all p.serials.contains = true)
    (hall : p.serials.all (teamSerials s).contains = true) :
    exec (.enrollOwner who) s = .next (
      let k := newLmk s
      let l : Livery := ⟨p.root, p.serials, 0, true, k.1, [], [], 0⟩
      let t := wrapLmk 0 l (setLiv 0 l { k.2 with brd := { k.2.brd with used := p.number :: k.2.brd.used } })
      rapAnswer (brdResult 1 0 (livSync (fset (fset t (R.BRD_LIV 0) F.BRD_LIV_STATE 1) R.BRD_STATUS F.BRD_STATUS_LIVERY 0)))
        who.val .ok []) := by
  rw [exec_enrollOwner, execEnrollOwner]
  refine congrArg _ (brdDo_result hmay hrole rfl ?_)
  simp only [hobj, hunowned, hpermit, hteam, hall, Bool.false_eq_true, Bool.true_eq_false, ne_eq, not_true_eq_false, or_self, if_false]

theorem exec_bindLivery_new {who : Fin 36} {b : Binding} {s : State} (hmay : rapMay s who.val .brd 1 = true)
    (hrole : sessRole s who.val = some .owner) (hobj : s.brd.object = some (.binding b)) (hliv : b.livery ≤ 3) (hlen : b.serials.length ≤ 64)
    (hsig : b.sigOk = true) (hnew : livery s b.livery = none) (howner : ownerElsewhere s b.livery b.root = false) :
    exec (.bindLivery who) s = .next (
      let k := newLmk s
      let l := takeRevoke b ⟨b.root, b.serials, b.version, b.serials.contains s.pwr.serial, k.1, [], [], 0⟩
      rapAnswer (brdResult 2 0 (livSync (fset (wrapLmk b.livery l (setLiv b.livery l k.2)) (R.BRD_LIV b.livery) F.BRD_LIV_STATE 1))) who.val .ok []) := by
  rw [exec_bindLivery, execBindLivery]
  refine congrArg _ (brdDo_result hmay hrole rfl ?_)
  simp only [hobj, Nat.not_lt.2 hliv, Nat.not_lt.2 hlen, hsig, hnew, howner, Option.filter_none, Bool.false_eq_true, Bool.true_eq_false,
    or_self, if_false]

theorem exec_selectLivery_bound {who : Fin 36} {n : Nat} {s : State} (hmay : rapMay s who.val .brd 1 = true)
    (hrole : sessRole s who.val = some .owner) (hobj : s.brd.object = some (.select n)) (hstate : livState s n = 1) :
    exec (.selectLivery who) s =
      .next (rapAnswer (brdResult 3 0 (livSync (fset s R.BRD_STATUS F.BRD_STATUS_LIVERY n))) who.val .ok []) := by
  rw [exec_selectLivery, execSelectLivery]
  refine congrArg _ (brdDo_result hmay hrole rfl ?_)
  simp only [hobj, hstate, true_or, if_true]

theorem exec_selectLivery_vendor {who : Fin 36} {s : State} (hmay : rapMay s who.val .brd 1 = true) (hrole : sessRole s who.val = some .vendor) :
    exec (.selectLivery who) s = .next (rapAnswer (brdResult 3 3 s) who.val .ok []) := by
  rw [exec_selectLivery, execSelectLivery, brdDo_other_role hmay hrole rfl]

theorem exec_transfer_signed {who : Fin 36} {liv root new : Nat} {ok keep : Bool} {s : State} (hmay : rapMay s who.val .brd 1 = true)
    (hrole : sessRole s who.val = some .owner) (hobj : s.brd.object = some (.transfer liv root ok keep new)) (hidle : jobRun s = false)
    (hsigned : ownerSigned s liv root ok = 0) :
    exec (.transfer who) s = .next (rapAnswer (brdResult 7 0 (transferName liv keep new s)) who.val .ok []) := by
  rw [exec_transfer, execTransfer]
  refine congrArg _ (brdDo_result hmay hrole rfl ?_)
  simp only [hobj, hidle, hsigned, Bool.false_eq_true, false_and, ne_eq, not_true_eq_false, if_false]

theorem exec_transferApply_due {b liv new : Nat} {keep : Bool} {s : State} (hset : s.brd.transfer = some (b, liv, keep, new)) (hdue : b ≤ s.tb)
    (hliv : liv < 4) : exec .transferApply s = .next (transferDo liv keep new { s with brd := { s.brd with transfer := none } }) := by
  rw [exec_transferApply, execTransferApply, hset]
  simp only [Nat.not_lt.2 hdue, if_pos hliv, if_false]

theorem exec_reclaim_permitted {who : Fin 36} {p : OemPermit} {s : State} (hmay : rapMay s who.val .brd 1 = true)
    (hrole : sessRole s who.val = some .oem) (hobj : s.brd.object = some (.reclaim p)) (hidle : jobRun s = false)
    (hpermit : permitCheck s false p = 0) :
    exec (.reclaim who) s = .next (rapAnswer (brdResult 8 0 (transferName 4 false 0
      { s with brd := { s.brd with used := p.number :: s.brd.used } })) who.val .ok []) := by
  rw [exec_reclaim, execReclaim]
  refine congrArg _ (brdDo_result hmay hrole rfl ?_)
  simp only [hobj, hidle, hpermit, Bool.false_eq_true, ne_eq, not_true_eq_false, if_false]

/-! ### Unlock and relock (R409) -/

theorem exec_unlock_checked {who : Fin 36} {ser chal : Nat} {toT : Int} {ch : List Cert} {l : List (Option Nat × Bool × Nat)} {s : State}
    (hmay : rapMay s who.val .brd 1 = true) (hrole : sessRole s who.val = some .vendor)
    (hobj : s.brd.object = some (.unlock true ch ser chal toT l)) (hchain : chainHolds s s.img.otpRoot ch = true) (htls : who.val < 4)
    (hidle : jobRun s = false) (hlocked : locked s = true) (hser : ser = s.pwr.serial) (hchal : chal = s.brd.chal) (hfrom : checkTime s ≤ toT)
    (hto : toT ≤ checkTime s + 86400 * 6400000000) (hcons : consented s l = true) (hcount : fget s R.BRD_STATUS F.BRD_STATUS_UNLOCKS < 16) :
    exec (.unlock who) s = .next (rapAnswer (brdResult 9 0 (unlockDo who.val s)) who.val .ok []) := by
  rw [exec_unlock, execUnlock]
  refine congrArg _ (brdDo_result hmay hrole rfl ?_)
  simp only [hobj, hchain, Nat.not_le.2 htls, hidle, hlocked, hser, hchal, Int.not_lt.2 hfrom, Int.not_lt.2 hto, hcons,
    Nat.not_le.2 hcount, Bool.false_eq_true, Bool.true_eq_false, ne_eq, not_true_eq_false, or_self, if_false]

theorem exec_relock_unlocked {who : Fin 36} {s : State} (hmay : rapMay s who.val .brd 1 = true) (hrole : sessRole s who.val = some .debug)
    (hlock : fget s R.BRD_STATUS F.BRD_STATUS_LOCK = 1) :
    exec (.relock who) s = .next (rapAnswer (brdResult 10 0 (fset s R.BRD_STATUS F.BRD_STATUS_LOCK 2)) who.val .ok []) := by
  exact congrArg _ (brdDo_result hmay hrole rfl (if_pos hlock))

theorem exec_unlockExpiry_due {t : Nat} {s : State} (hset : s.brd.unlockAt = some t) (hdue : t + 86400 * secTicks ≤ s.stb.optTicks)
    (hlock : fget s R.BRD_STATUS F.BRD_STATUS_LOCK = 1) : exec .unlockExpiry s = .next (fset s R.BRD_STATUS F.BRD_STATUS_LOCK 2) := by
  rw [exec_unlockExpiry, execUnlockExpiry, hset]
  exact congrArg _ (if_pos ⟨hdue, hlock⟩)

/-! ### The team's session key and the challenge (R388, R413) -/

theorem exec_tskRotation_due {s : State} (hlead : isLeader s = true) (hdue : s.brd.tskAt + 86400 * secTicks ≤ s.tb) :
    exec .tskRotation s = .next (toTeam (tskNew s) MsgKind.TSK_WRAP []) := by
  rw [exec_tskRotation, execTskRotation, if_pos ⟨hlead, hdue⟩]

theorem exec_brdChalRead_session {who : Fin 36} {r : Role} {s : State} (hrole : sessRole s who.val = some r) (hpath : rapPath s = true) :
    exec (.brdChalRead who) s = .next (rapAnswer (newChal s) who.val .ok [1, ((rget (newChal s) R.BRD_CHAL).toNat : Int)]) := by
  rw [exec_brdChalRead, execBrdChalRead, if_neg (by simp [hpath]), hrole]

/-- Settles O33, a command and a case at a time. -/
theorem ownershipCommandsComplete : Obligations.OwnershipCommandsComplete :=
  ⟨fun _ _ _ => exec_enrollOwner_claim, fun _ _ _ => exec_bindLivery_new, fun _ _ _ => exec_selectLivery_bound,
    fun _ _ => exec_selectLivery_vendor, fun _ _ _ _ _ _ _ => exec_transfer_signed, fun _ _ _ _ _ => exec_transferApply_due,
    fun _ _ _ => exec_reclaim_permitted, fun _ _ _ _ _ _ _ => exec_unlock_checked, fun _ _ => exec_relock_unlocked,
    fun _ _ => exec_unlockExpiry_due, fun _ => exec_tskRotation_due, fun _ _ _ => exec_brdChalRead_session⟩

/-! ### Leases (R402 to R404) -/

theorem exec_installLease_first {who : Fin 36} {l : Lease} {m : Nat} {s : State} (hmay : rapMay s who.val .brd 1 = true)
    (hrole : sessRole s who.val = some .owner) (hobj : s.brd.object = some (.lease l)) (hsigned : ownerSigned s l.livery l.root l.sigOk = 0)
    (hok : leaseOk l = true) (hto : checkTime s < l.toT) (hdev : l.devices = []) (hnone : s.brd.leases = []) (hplace : leasePlace s = some m) :
    exec (.installLease who) s = .next (rapAnswer (brdResult 4 0 (setLease m ⟨l, 0, [], none, none, [], 0, false⟩ (rset s (R.BRD_HIRE_STAT m)
      (fsetW (fsetW 0 F.BRD_HIRE_STAT_STATE 1) F.BRD_HIRE_STAT_LIVERY l.livery)))) who.val .ok []) := by
  rw [exec_installLease, execInstallLease]
  refine congrArg _ (brdDo_result hmay hrole rfl ?_)
  simp only [hobj, hsigned, hok, Int.not_le.2 hto, hdev, hnone, hplace, List.any_nil, Bool.false_eq_true, Bool.true_eq_false, ne_eq,
    not_true_eq_false, false_and, if_false]

theorem exec_revokeLease_active {who : Fin 36} {liv id root m : Nat} {ok : Bool} {s : State} (hmay : rapMay s who.val .brd 1 = true)
    (hrole : sessRole s who.val = some .owner) (hobj : s.brd.object = some (.revoke liv id root ok)) (hsigned : ownerSigned s liv root ok = 0)
    (hfound : leaseFind s liv id = some m) (hstate : leaseState s m = 2) :
    exec (.revokeLease who) s = .next (rapAnswer (brdResult 5 0 (leaseEnd m 5 s)) who.val .ok []) := by
  rw [exec_revokeLease, execRevokeLease]
  refine congrArg _ (brdDo_result hmay hrole rfl ?_)
  simp only [hobj, hsigned, hfound, hstate, or_true, ne_eq, not_true_eq_false, if_false, if_true]

theorem exec_closeLease_found {who : Fin 36} {liv id m : Nat} {s : State} (hmay : rapMay s who.val .brd 1 = true)
    (hrole : sessRole s who.val = some .owner) (hobj : s.brd.object = some (.close liv id)) (hfound : leaseFind s liv id = some m) :
    exec (.closeLease who) s = .next (rapAnswer (brdResult 6 0 (leaseEnd m 6 s)) who.val .ok []) := by
  rw [exec_closeLease, execCloseLease]
  refine congrArg _ (brdDo_result hmay hrole rfl ?_)
  simp only [hobj, hfound]

theorem exec_leaseExpiry_due {m : Fin 8} {l : LeaseSt} {s : State} (hlease : leaseAt s m.val = some l) (hstate : leaseState s m.val = 2)
    (hend : l.lease.toT ≤ checkTime s) : exec (.leaseExpiry m) s = .next (leaseEnd m.val 3 s) := by
  rw [exec_leaseExpiry, execLeaseExpiry, hlease]
  exact congrArg _ (if_pos ⟨.inr hstate, hend⟩)

theorem exec_leaseFrom_session {m : Fin 8} {s : State} (hsess : s.brd.sess.any (fun x => x.2.lease == some m.val) = true) :
    exec (.leaseFrom m) s = .next (leaseActive m.val s) := by
  rw [exec_leaseFrom, execLeaseFrom, if_pos hsess]

/-- Settles O34, a command and a case at a time. -/
theorem leaseCommandsComplete : Obligations.LeaseCommandsComplete :=
  ⟨fun _ _ _ _ => exec_installLease_first, fun _ _ _ _ _ _ _ => exec_revokeLease_active, fun _ _ _ _ _ => exec_closeLease_found,
    fun _ _ _ => exec_leaseExpiry_due, fun _ _ => exec_leaseFrom_session⟩


end Sys2Proof.Proofs

end

section
/-!
PROOFS. The farrier: slices, tests, converters, RETEST, PAUSE and RESUME (R416 to R430).
-/

open Sys2Proof Sys2Proof.Machine Sys2Proof.Laws

namespace Sys2Proof.Proofs

/-! ### The judgement of two tries (R419) -/

theorem judge_first_passes {k i n : Nat} {t : Test2} (s : State) (hok : t.ok = true) : judge k i n t s = (s, true) := if_pos hok

theorem judge_both_fail {k i n : Nat} {t : Test2} (s : State) (hok : t.ok = false) (hok2 : t.ok2 = false) :
    judge k i n t s = (testFailed k i n t.sig2.toNat (testFailed k i n t.sig.toNat s), false) := by
  rw [judge, if_neg (by simp [hok])]
  exact if_neg (by simp [hok2])

/-- Beyond the first mismatch of all inputs the failure of the converter is not raised again. -/
theorem ainOut_failed {c : Prop} [Decidable c] {s : State} (hfail : s.far.ainFail = true) : (if c then s else ainOut s) = s := by
  rw [ainOut, if_pos hfail, ite_self]

/-! ### Slices of lanes (R416, R420) -/

theorem exec_laneSlice_due {lp : Bool} {s : State} (hbound : s.tb % cycleTicks = 0) (hscope : servesScope s (b2n lp) 0 = false)
    (hdue : farDue s (b2n lp) 0 secTicks = true) (hmay : sliceMay s (b2n lp) true = true) :
    exec (.laneSlice lp) s = .next (
      let t := setSpares (b2n lp) ((sparesOf s (b2n lp)).drop 1) (farStamp (b2n lp) 0 s)
      showRoles (b2n lp) { t with far := { t.far with slices := t.far.slices ++ [⟨b2n lp, laneDue s (b2n lp), s.tb, 0⟩] } }) := by
  rw [exec_laneSlice, execLaneSlice, if_neg (by simp [hbound, hscope, hdue, hmay])]

theorem exec_laneSliceResult_passes {lp : Bool} {g : Word} {w : Test2} {s : State} {x : Slice} (hslice : sliceOf s (b2n lp) = some x)
    (hend : x.from_ + cycleTicks ≤ s.tb) (hrun : s.pwm.halted = false) :
    exec (.laneSliceResult lp true g w) s = .next (rotate (b2n lp) x.unit (newSpare (b2n lp) x.unit (sliceEnd (b2n lp) w s))) := by
  rw [exec_laneSliceResult, execLaneSliceResult]
  simp only [hslice, Nat.not_lt.2 hend, hrun, Bool.false_eq_true, or_self, if_false, if_true]

theorem exec_laneSliceResult_first_failure {lp : Bool} {g : Word} {w : Test2} {s : State} {x : Slice} (hslice : sliceOf s (b2n lp) = some x)
    (hend : x.from_ + cycleTicks ≤ s.tb) (hrun : s.pwm.halted = false) (hfirst : x.fails = 0) :
    exec (.laneSliceResult lp false g w) s = .next (
      let t := testFailed (b2n lp) x.unit 1 g.toNat s
      { t with far := { t.far with slices := t.far.slices.map (fun y => if y.kind = b2n lp then { y with from_ := s.tb, fails := 1 } else y) } }) := by
  rw [exec_laneSliceResult, execLaneSliceResult]
  simp only [hslice, Nat.not_lt.2 hend, hrun, hfirst, Bool.false_eq_true, or_self, if_false, if_true]

/-! ### Slices of cores, tiles and banks (R423) -/

section
variable {c : Fin 8} {t : Test2} {s : State} (hmay : sliceMay s 2 false = true) (hon : domOn s 2 = true)
  (hserve : 8 ≤ fget s (R.FAR_CAP 2) F.FAR_CAP_IN_SERVICE) (hdue : farDue s 2 c.val (10 * secTicks) = true)
include hmay hon hserve hdue

/-- A core's slice that is due is judged; a core that fails is retired. -/
theorem exec_navCoreSlice_due : exec (.navCoreSlice c t) s = .next (if (judge 2 c.val 1 t (farStamp 2 c.val s)).2
    then (judge 2 c.val 1 t (farStamp 2 c.val s)).1 else unitRetire 2 c.val (judge 2 c.val 1 t (farStamp 2 c.val s)).1) := by
  rw [exec_navCoreSlice, execNavCoreSlice, if_neg (by simp [hmay, hon, hdue, Nat.not_lt.2 hserve])]

end

theorem exec_navCoreSlice_passes {c : Fin 8} {t : Test2} {s : State} (hmay : sliceMay s 2 false = true) (hon : domOn s 2 = true)
    (hserve : 8 ≤ fget s (R.FAR_CAP 2) F.FAR_CAP_IN_SERVICE) (hdue : farDue s 2 c.val (10 * secTicks) = true) (hok : t.ok = true) :
    exec (.navCoreSlice c t) s = .next (farStamp 2 c.val s) := by
  rw [exec_navCoreSlice_due hmay hon hserve hdue, judge_first_passes _ hok, if_pos rfl]

theorem exec_navCoreSlice_fails {c : Fin 8} {t : Test2} {s : State} (hmay : sliceMay s 2 false = true) (hon : domOn s 2 = true)
    (hserve : 8 ≤ fget s (R.FAR_CAP 2) F.FAR_CAP_IN_SERVICE) (hdue : farDue s 2 c.val (10 * secTicks) = true) (hok : t.ok = false)
    (hok2 : t.ok2 = false) :
    exec (.navCoreSlice c t) s = .next (unitRetire 2 c.val (testFailed 2 c.val 1 t.sig2.toNat
      (testFailed 2 c.val 1 t.sig.toNat (farStamp 2 c.val s)))) := by
  rw [exec_navCoreSlice_due hmay hon hserve hdue, judge_both_fail _ hok hok2, if_neg (by simp)]

theorem exec_acqTileSlice_passes {c : Fin 18} {t : Test2} {s : State} (hmay : sliceMay s 7 true = true) (hg : isG s = true) (hon : domOn s 3 = true)
    (hin : isRetired s 7 c.val = false) (hspare : c.val ∉ sparesOf s 7) (hdue : farDue s 7 0 (10 * secTicks) = true) (hok : t.ok = true) :
    exec (.acqTileSlice c t) s = .next (newSpare 7 c.val (setSpares 7 ((sparesOf s 7).drop 1) (farStamp 7 0 s))) := by
  rw [exec_acqTileSlice, execAcqTileSlice, if_neg (by simp [hmay, hg, hon, hin, hspare, hdue])]
  simp only [judge_first_passes _ hok, if_true]

theorem exec_trkBankSlice_passes {b : Fin 12} {t : Test2} {s : State} (hmay : sliceMay s 8 true = true) (hg : isG s = true) (hon : domOn s 4 = true)
    (hin : b.val ∉ s.gns.outBanks) (hdue : farDue s 8 0 (60 * secTicks) = true) (hok : t.ok = true) :
    exec (.trkBankSlice b t) s = .next (newSpare 8 (bankUnit s b.val) (bankSwap b.val (farStamp 8 0 s))) := by
  rw [exec_trkBankSlice, execTrkBankSlice, if_neg (by simp [hmay, hg, hon, hin, hdue])]
  simp only [judge_first_passes _ hok, if_true]

/-! ### Tests of memory (R426, R427) -/

theorem exec_sramRowTest_fails {m : Fin 48} {r : Fin 512} {t : Test2} {s : State} (hmay : sliceMay s 9 false = true)
    (hscope : servesScope s 9 m.val = false) (hwin : rowWindow s m.val = true) (hdue : farDue s 9 m.val (msTicks 1) = true) (hok : t.ok = false)
    (hok2 : t.ok2 = false) :
    exec (.sramRowTest m r t) s = .next (sramRowBad m.val r.val (testFailed 9 m.val 1 t.sig2.toNat
      (testFailed 9 m.val 1 t.sig.toNat (farStamp 9 m.val s)))) := by
  rw [exec_sramRowTest, execSramRowTest, if_neg (by simp [hmay, hscope, hwin, hdue])]
  simp only [judge_both_fail _ hok hok2, Bool.false_eq_true, if_false]

theorem exec_dramPageTest_fails {p b r : Nat} {t : Test2} {s : State} (hmay : sliceMay s 10 false = true) (hon : domOn s 8 = true)
    (hpage : p < 524288) (hin : p ∉ s.far.pages) (hdue : farDue s 10 0 (usTicks 400) = true) (hok : t.ok = false) (hok2 : t.ok2 = false) :
    exec (.dramPageTest p b r t) s = .next (dramRowBad b r p (testFailed 10 0 1 t.sig2.toNat
      (testFailed 10 0 1 t.sig.toNat (farStamp 10 0 s)))) := by
  rw [exec_dramPageTest, execDramPageTest, if_neg (by simp [hmay, hon, Nat.not_le.2 hpage, hin, hdue])]
  simp only [judge_both_fail _ hok hok2, Bool.false_eq_true, if_false]

/-! ### Converters (R429, R430) -/

theorem exec_curAdcReference_within {c : Fin 12} {v : BitVec 12} {s : State} (hon : domOn s 10 = true) (hslot : s.tb % 50000 = 3125)
    (hin : c.val ∉ s.far.adcFail) (hscope : servesScope s 12 c.val = false) (hlo : 2040 ≤ v.toNat) (hhi : v.toNat ≤ 2056) :
    exec (.curAdcReference c v) s = .next { s with far := { s.far with adcBad := smSet zero c.val 0 s.far.adcBad } } := by
  have hgood : decide (v.toNat < 2040 ∨ 2056 < v.toNat) = false := decide_eq_false (by omega)
  rw [exec_curAdcReference, execCurAdcReference, if_neg (by simp [hon, hslot, hin, hscope])]
  simp only [hgood, Bool.false_eq_true, Nat.ofNat_pos, if_false, if_true]

theorem exec_curAdcReference_first_low {c : Fin 12} {v : BitVec 12} {s : State} (hon : domOn s 10 = true) (hslot : s.tb % 50000 = 3125)
    (hin : c.val ∉ s.far.adcFail) (hscope : servesScope s 12 c.val = false) (hlow : v.toNat < 2040) (hcount : smGet zero s.far.adcBad c.val = 0) :
    exec (.curAdcReference c v) s = .next (testFailed 12 c.val 1 v.toNat
      { s with far := { s.far with adcBad := smSet zero c.val 1 s.far.adcBad } }) := by
  have hbad : decide (v.toNat < 2040 ∨ 2056 < v.toNat) = true := decide_eq_true (.inl hlow)
  rw [exec_curAdcReference, execCurAdcReference, if_neg (by simp [hon, hslot, hin, hscope])]
  simp only [hbad, hcount, Nat.reduceAdd, Nat.reduceLT, if_true]

theorem exec_ainResample_within {n : Fin 16} {v : BitVec 16} {s : State} (hon : domOn s 10 = true)
    (hrun : fbit s R.FAR_STATUS F.FAR_STATUS_SLICES_RUN = true) (hfail : s.far.ainFail = true) (hnext : s.far.ainNext = n.val)
    (hscope : servesScope s 13 0 = false) (hdue : farDue s 13 0 (cycleTicks - s.tb % cycleTicks) = true)
    (hcount : smGet zero s.far.ainBad n.val = 0) (hhi : v.toNat ≤ fget s (R.FBI_AIN n.val) F.FBI_AIN_CODE + 131)
    (hlo : fget s (R.FBI_AIN n.val) F.FBI_AIN_CODE ≤ v.toNat + 131) :
    exec (.ainResample n v) s = .next (
      let t := farStamp 13 0 s
      { t with far := { t.far with ainBad := smSet zero n.val 0 s.far.ainBad
                                   ainSweep := if n.val = 0 then [] else s.far.ainSweep, ainNext := (n.val + 1) % 16 } }) := by
  have hgood : decide (fget s (R.FBI_AIN n.val) F.FBI_AIN_CODE + 131 < v.toNat ∨ v.toNat + 131 < fget s (R.FBI_AIN n.val) F.FBI_AIN_CODE) =
      false := decide_eq_false (by omega)
  rw [exec_ainResample, execAinResample, if_neg (by simp [hon, hrun, hnext, hscope, hdue])]
  simp only [hgood, hcount, Bool.false_eq_true, OfNat.zero_ne_ofNat, show ¬3 ≤ 0 by decide, and_false, if_false, List.append_nil]
  exact congrArg _ (ainOut_failed hfail)

/-! ### RETEST, PAUSE and RESUME -/

theorem exec_retest_not_retired {who : Fin 36} {k : Fin 16} {i : Fin 512} {t : Test2} {s : State} (hmay : rapMay s who.val .farrier 1 = true)
    (hin : isRetired s k.val i.val = false) : exec (.retest who k i t) s = .next (rapAnswer (farResult 4 0 s) who.val .ok []) := by
  rw [exec_retest, execRetest, rapDo_allowed _ _ hmay, if_pos (.inr hin)]

theorem exec_retest_retired {who : Fin 36} {k : Fin 16} {i : Fin 512} {t : Test2} {s : State} (hmay : rapMay s who.val .farrier 1 = true)
    (hidle : jobRun s = false) (hout : isRetired s k.val i.val = true) (hwait : s.far.waiting = none) (hslice : sliceOf s k.val = none) :
    exec (.retest who k i t) s = .next (rapAnswer (retest k.val i.val t s) who.val .ok []) := by
  rw [exec_retest, execRetest, rapDo_allowed _ _ hmay]
  simp only [hidle, hout, hwait, hslice, Option.isSome_none, Bool.true_eq_false, Bool.false_eq_true, or_self, if_false]

theorem exec_farrierPause_allowed {who : Fin 36} {s : State} (hmay : rapMay s who.val .farrier 1 = true) :
    exec (.farrierPause who) s = .next (rapAnswer (fsetb s R.FAR_STATUS F.FAR_STATUS_SLICES_RUN false) who.val .ok []) := by
  rw [exec_farrierPause, execFarrierPause, rapDo_allowed _ _ hmay]

theorem exec_farrierResume_allowed {who : Fin 36} {s : State} (hmay : rapMay s who.val .farrier 1 = true) :
    exec (.farrierResume who) s = .next (rapAnswer (fsetb s R.FAR_STATUS F.FAR_STATUS_SLICES_RUN true) who.val .ok []) := by
  rw [exec_farrierResume, execFarrierResume, rapDo_allowed _ _ hmay]

/-- Settles O35, a command and a case at a time. -/
theorem farrierCommandsComplete : Obligations.FarrierCommandsComplete :=
  ⟨fun _ _ => exec_laneSlice_due, fun _ _ _ _ _ => exec_laneSliceResult_passes, fun _ _ _ _ _ => exec_laneSliceResult_first_failure,
    fun _ _ _ => exec_navCoreSlice_passes, fun _ _ _ => exec_navCoreSlice_fails, fun _ _ _ => exec_acqTileSlice_passes,
    fun _ _ _ => exec_trkBankSlice_passes, fun _ _ _ _ => exec_sramRowTest_fails, fun _ _ _ _ _ => exec_dramPageTest_fails,
    fun _ _ _ => exec_curAdcReference_within, fun _ _ _ => exec_curAdcReference_first_low, fun _ _ _ => exec_ainResample_within,
    fun _ _ _ _ _ => exec_retest_not_retired, fun _ _ _ _ _ => exec_retest_retired, fun _ _ => exec_farrierPause_allowed,
    fun _ _ => exec_farrierResume_allowed⟩


end Sys2Proof.Proofs

end

section
/-!
PROOFS. The stud book: writing, drops, marks, freeze, clear, the file of the log and collection (R433 to R442).
-/

open Sys2Proof Sys2Proof.Machine Sys2Proof.Laws

namespace Sys2Proof.Proofs

/-! ### Writing, drops and marks (R433, R436) -/

theorem exec_recordWrite_frozen {s : State} (hon : domOn s 9 = true) (hfrozen : s.stb.frozenAt.isSome = true) :
    exec .recordWrite s = .next { s with stb := s.stb.raiseQ.foldl (fun b r => stbNor r b) s.stb } := by
  rw [exec_recordWrite, execRecordWrite, if_pos hon, recordWrite]
  exact congrArg _ (if_pos hfrozen)

theorem exec_recordWrite_level0 {s : State} (hon : domOn s 9 = true) (hopen : s.stb.frozenAt = none) (hlevel : level s = 0) :
    exec .recordWrite s = .next { s with stb := stbLogAll { s.stb with raiseQ := [] } s.stb.raiseQ } := by
  rw [exec_recordWrite, execRecordWrite, if_pos hon, recordWrite]
  simp only [hopen, hlevel, Option.isSome_none, show ¬1 ≤ 0 by decide, decide_false, Bool.false_eq_true, if_false]

theorem exec_droppedRecord_due {a b c d : Nat} {s : State} (hsec : s.stb.dropSec = [a, b, c, d]) (hsome : 0 < a + b + c + d)
    (hdue : s.stb.dropAt + 1000 ≤ optMs s) :
    exec .droppedRecord s = .next (
      raise { s with stb := { s.stb with dropSec := [0, 0, 0, 0], dropRange := (0, 0), dropAt := optMs s } } Ev.DROPPED
        [((min a 65535 : Nat) : Int), ((min b 65535 : Nat) : Int), ((min c 65535 : Nat) : Int), ((min d 65535 : Nat) : Int),
          (s.stb.dropRange.1 : Int), (s.stb.dropRange.2 : Int)]) := by
  have hguard : ¬(s.stb.dropSec.foldl (· + ·) 0 = 0 ∨ optMs s < s.stb.dropAt + 1000) := by
    simp only [hsec, List.foldl_cons, List.foldl_nil]
    omega
  rw [exec_droppedRecord, execDroppedRecord, if_neg hguard]
  simp only [hsec]
  rfl

theorem exec_tbMark_due {s : State} (hdue : s.stb.markAt + 60000 ≤ optMs s) :
    exec .tbMark s = .next (raise { s with stb := { s.stb with markAt := optMs s } } Ev.TB_MARK [(s.tb : Int), ttOfs s, (fget s R.POS_TT_STATUS F.POS_TT_STATUS_TT_STATE : Int),
      (fget s R.POS_LEAP F.POS_LEAP_GPS_UTC : Int)]) := by
  rw [exec_tbMark, execTbMark, if_neg (Nat.not_lt.2 hdue)]

theorem exec_optSave_due {s : State} (hdue : s.stb.optSaved + 10000 ≤ optMs s) :
    exec .optSave s = .next { s with stb := { s.stb with optSaved := optMs s } } := by
  rw [exec_optSave, execOptSave, if_neg (Nat.not_lt.2 hdue), optSave]

/-! ### Freeze (R437) -/

theorem exec_freeze_first {who : Fin 36} {s : State} (hmay : rapMay s who.val .farrier 9 = true) (hopen : s.stb.frozenAt = none)
    (hnever : s.stb.freezeEnd = none) :
    exec (.freeze who) s = .next (rapAnswer (stbResult (fsetb { s with stb := { s.stb with
      frozenAt := some s.tb, frozenBy := who.val, holdLost := 0 } } R.STB_STATUS F.STB_STATUS_FROZEN true) 1 0) who.val .ok []) := by
  rw [exec_freeze, execFreeze, rapDo_allowed _ _ hmay, if_neg (by simp [freezeBusy, hopen, hnever])]

theorem exec_freeze_frozen {who : Fin 36} {s : State} (hmay : rapMay s who.val .farrier 9 = true) (hfrozen : s.stb.frozenAt.isSome = true) :
    exec (.freeze who) s = .next (rapAnswer (stbResult s 1 6) who.val .ok []) := by
  rw [exec_freeze, execFreeze, rapDo_allowed _ _ hmay, if_pos (by simp [freezeBusy, hfrozen])]

theorem exec_freeze_early {who : Fin 36} {t : Nat} {s : State} (hmay : rapMay s who.val .farrier 9 = true) (hend : s.stb.freezeEnd = some t)
    (hearly : s.tb < t + 10 * secTicks) : exec (.freeze who) s = .next (rapAnswer (stbResult s 1 6) who.val .ok []) := by
  rw [exec_freeze, execFreeze, rapDo_allowed _ _ hmay, if_pos (by simp [freezeBusy, hend, hearly])]

theorem exec_unfreeze_allowed {who : Fin 36} {s : State} (hmay : rapMay s who.val .farrier 9 = true) :
    exec (.unfreeze who) s = .next (rapAnswer (stbResult (freezeStop s) 2 0) who.val .ok []) := by
  rw [exec_unfreeze, execUnfreeze, rapDo_allowed _ _ hmay]

theorem exec_freezeTimeout_due {t : Nat} {s : State} (hfrozen : s.stb.frozenAt = some t) (hend : t + 10 * secTicks ≤ s.tb) :
    exec .freezeTimeout s = .next (raise (fsetb { s with stb := stbLogAll { s.stb with
      frozenAt := none, freezeEnd := some s.tb, raiseQ := [], holdQ := [] } (s.stb.raiseQ ++ s.stb.holdQ) } R.STB_STATUS F.STB_STATUS_FROZEN false) Ev.FREEZE [((s.tb : Int) - t) / 200000, (s.stb.holdQ.length : Int),
      ((min s.stb.holdLost 65535 : Nat) : Int)]) := by
  rw [exec_freezeTimeout, execFreezeTimeout, hfrozen]
  simp only [if_pos hend, freezeStop, hfrozen]
  rfl

/-! ### Clear and the file of the log (R439, R440) -/

/-- With a session and the recorder on, STB_CLEAR is done and answered. -/
theorem exec_stbClear_session {who : Fin 36} {m : Nat} {p : ClearPermit} {r : Role} {s : State} (hpath : rapPath s = true)
    (hrole : sessRole s who.val = some r) (hon : domOn s 9 = true) :
    exec (.stbClear who m p) s = .next (rapAnswer (stbClear s who.val (m % 16) p) who.val .ok []) := by
  rw [exec_stbClear, execStbClear, if_neg (by simp [hpath]), if_neg (by simp [hrole]), if_pos hon]

theorem exec_stbClear_refused {who : Fin 36} {m : Nat} {p : ClearPermit} {r : Role} {s : State} (hpath : rapPath s = true)
    (hrole : sessRole s who.val = some r) (hon : domOn s 9 = true) (hbad : clearResult s who.val (m % 16) p ≠ 0) :
    exec (.stbClear who m p) s = .next (rapAnswer (stbResult (freeNext { s with stb := { s.stb with chal := some (freshChal s) } }) 3
      (clearResult s who.val (m % 16) p)) who.val .ok []) := by
  rw [exec_stbClear_session hpath hrole hon, stbClear]
  simp only [if_pos hbad]

theorem exec_stbExport_allowed {who : Fin 36} {m : Nat} {s : State} (hmay : rapMay s who.val .stbRead 9 = true) :
    exec (.stbExport who m) s = .next (rapAnswer (stbResult { s with stb := { s.stb with
      exported := some (exportOf s (m % 16) s.stb.log) } } 4 0) who.val .ok []) := by
  rw [exec_stbExport, execStbExport, rapDo_allowed _ _ hmay]

/-! ### Collection (R442) -/

theorem exec_collect_not_leader {who : Fin 36} {m : Nat} {s : State} (hmay : rapMay s who.val .stbRead 9 = true) (hlead : isLeader s = false) :
    exec (.collect who m) s = .next (rapAnswer (stbResult s 5 7) who.val .ok []) := by
  rw [exec_collect, execCollect, rapDo_allowed _ _ hmay, if_pos hlead]

theorem exec_collect_alone {who : Fin 36} {m : Nat} {s : State} (hmay : rapMay s who.val .stbRead 9 = true) (hlead : isLeader s = true)
    (hidle : s.stb.collect = []) (halone : otherMembers s = []) :
    exec (.collect who m) s = .next (
      let own := recsFit (fileBytes - 128) (exportSel (m % 16) (s.stb.log.filter (fun r => decide (collectedTo s s.pwr.serial < r.seq))))
      let e := exportEnds own
      rapAnswer (stbResult (fsetb { s with stb := joinExport s.pwr.serial e.1 e.2 (exportSize own) { s.stb with
        collect := [], missing := [], joined := [], collectAt := s.tb } } R.STB_STATUS F.STB_STATUS_COLLECTING false) 5 0) who.val .ok []) := by
  rw [exec_collect, execCollect, rapDo_allowed _ _ hmay, if_neg (by simp [hlead]), if_neg (not_not.2 hidle)]
  simp only [halone, forEach, List.foldl_nil, List.isEmpty_nil, Bool.not_true]

/-- Of a collection that waits for one member alone nothing is left once that member is done. -/
theorem collectLess_last {m : Nat} {s : State} (hlast : s.stb.collect = [m]) :
    collectLess m s = fsetb { s with stb := { s.stb with collect := [] } } R.STB_STATUS F.STB_STATUS_COLLECTING false := by
  have hleft : s.stb.collect.filter (fun x => x != m) = [] := by simp [hlast]
  rw [collectLess, hleft]
  rfl

theorem exec_collectAnswer_last {m : Fin 64} {ser a b n : Nat} {s : State} (hlast : s.stb.collect = [m.val])
    (hroom : joinedBytes s.stb + n ≤ fileBytes) :
    exec (.collectAnswer m ser a b n) s = .next (
      let t := fsetb { s with stb := { s.stb with collect := [] } } R.STB_STATUS F.STB_STATUS_COLLECTING false
      { t with stb := { s.stb with collect := [], joined := s.stb.joined ++ [(ser, a, b, n)]
                                   collected := smSet zero ser (max b (smGet zero s.stb.collected ser)) s.stb.collected } }) := by
  have hroom' : ¬fileBytes < joinedBytes { s.stb with collect := [] } + n := Nat.not_lt.2 hroom
  rw [exec_collectAnswer, execCollectAnswer, if_pos (by simp [hlast]), collectLess_last hlast]
  simp only [fsetb_stb, joinExport, if_neg hroom']

theorem exec_collectTimeout_last {m : Fin 64} {s : State} (hlast : s.stb.collect = [m.val]) (hend : s.stb.collectAt + 10 * secTicks ≤ s.tb) :
    exec (.collectTimeout m) s = .next (
      let t := fsetb { s with stb := { s.stb with collect := [] } } R.STB_STATUS F.STB_STATUS_COLLECTING false
      raise { t with stb := { s.stb with collect := [], missing := s.stb.missing ++ [m.val] } } Ev.COLLECT_MISSING [(m.val : Int)]) := by
  rw [exec_collectTimeout, execCollectTimeout, if_pos ⟨by simp [hlast], hend⟩, collectLess_last hlast]
  simp only [fsetb_stb]

theorem exec_stbChalRead_allowed {who : Fin 36} {r : Role} {s : State} (hpath : rapPath s = true) (hrole : sessRole s who.val = some r)
    (hmay : mayAct .stbRead r = true) (hon : domOn s 9 = true) :
    exec (.stbChalRead who) s = .next (rapAnswer (rsetN (freeNext { s with stb := { s.stb with chal := some (freshChal s) } }) R.STB_CHAL
      (freshChal s)) who.val .ok [1, (freshChal s : Int)]) := by
  rw [exec_stbChalRead, execStbChalRead, if_neg (by simp [hpath]), hrole]
  simp only [hmay, hon, Bool.true_eq_false, if_false]

/-- Settles O36, a command and a case at a time. -/
theorem studBookCommandsComplete : Obligations.StudBookCommandsComplete :=
  ⟨fun _ => exec_recordWrite_frozen, fun _ => exec_recordWrite_level0, fun _ _ _ _ _ => exec_droppedRecord_due, fun _ => exec_tbMark_due,
    fun _ => exec_optSave_due, fun _ _ => exec_freeze_first, fun _ _ => exec_freeze_frozen,
    fun _ _ _ hmay _ hend hearly => exec_freeze_early hmay hend hearly, fun _ _ => exec_unfreeze_allowed, fun _ _ => exec_freezeTimeout_due,
    fun _ _ _ _ _ => exec_stbClear_refused, fun _ _ _ _ _ hpath hrole hon _ => exec_stbClear_session hpath hrole hon,
    fun _ _ _ => exec_stbExport_allowed, fun _ _ _ => exec_collect_not_leader, fun _ _ _ => exec_collect_alone,
    fun _ _ _ _ _ _ => exec_collectAnswer_last, fun _ _ => exec_collectTimeout_last, fun _ _ _ => exec_stbChalRead_allowed⟩


end Sys2Proof.Proofs

end

section
/-!
PROOFS. The fault manager: reports, loss of its heartbeat, domains lost and back, and eMMC wear (R447 to R459).
-/

open Sys2Proof Sys2Proof.Machine Sys2Proof.Laws

namespace Sys2Proof.Proofs

/-! ### Reports and the heartbeat (R447, R448, R451) -/

theorem exec_faultReport_none {s : State} (hon : domOn s 1 = true) (hrun : s.pwm.halted = false) (hnone : nextReport (admitAll s).flt.queue = none) :
    exec .faultReport s = .next (dm1Tell s.flt.active (fltShow (admitAll s))) := by
  rw [exec_faultReport, execFaultReport, if_neg (by simp [hon, hrun])]
  simp only [hnone]

theorem exec_faultReport_handled {s : State} {i : Nat} {r : Report} (hon : domOn s 1 = true) (hrun : s.pwm.halted = false)
    (hnext : nextReport (admitAll s).flt.queue = some i) (hreport : (admitAll s).flt.queue[i]? = some r) (hcls : r.cls < 4) :
    exec .faultReport s = .next (dm1Tell s.flt.active (fltShow (handle r { admitAll s with flt := { (admitAll s).flt with
      queue := (admitAll s).flt.queue.eraseIdx i } }))) := by
  rw [exec_faultReport, execFaultReport, if_neg (by simp [hon, hrun])]
  simp only [hnext, hreport, Nat.not_le.2 hcls, false_and, if_false]

theorem exec_fmHeartbeatLoss_resets {s : State} (hon : domOn s 1 = true) (hrun : s.pwm.halted = false) (hyield : yieldFirst s = false) :
    exec .fmHeartbeatLoss s = .next (coreReset (faultCls s Ev.FM_LOST [] 5)) := by
  rw [exec_fmHeartbeatLoss, execFmHeartbeatLoss, if_neg (by simp [hon, hrun]), if_neg (by simp [hyield]), if_neg (by simp [hyield])]

theorem exec_fmHeartbeatLoss_yields {s : State} (hon : domOn s 1 = true) (hrun : s.pwm.halted = false) (hyield : yieldFirst s = true)
    (hhealthy : s.team.healthy = true) : exec .fmHeartbeatLoss s = .next { s with team := { s.team with healthy := false } } := by
  rw [exec_fmHeartbeatLoss, execFmHeartbeatLoss, if_neg (by simp [hon, hrun]), if_pos ⟨hyield, hhealthy⟩]

/-! ### Domains lost and back (R449, R453, R454) -/

theorem exec_domainBack_core {f : FarRun} {s : State} (hmay : mayRun s = true) (hoff : domPow s 1 = false)
    (hdown : s.flt.down.any (fun x => x.1 == 12) = true) : exec (.domainBack 12 f) s = .next (fltShow (coreOn f (downEnd 12 s))) := by
  have hall : s.flt.down.all (fun x => x.1 != 12) = false := by simpa using hdown
  rw [exec_domainBack, execDomainBack]
  simp only [hmay, hoff, hall, Bool.true_eq_false, Bool.false_eq_true, or_self, if_false]
  rfl

theorem exec_domainBack_domain {k : Fin 14} {f : FarRun} {s : State} (hmay : mayRun s = true) (hlo : 2 ≤ k.val) (hhi : k.val < 12)
    (hoff : domPow s k.val = false) (himg : s.img.active.isSome = true) (hdown : s.flt.down.any (fun x => x.1 == 12 || x.1 == 13) = false) :
    exec (.domainBack k f) s = .next (
      let t := domainOn k.val (downEnd k.val (farTests (domKind k.val) f (faultPast s Ev.DOMAIN_LOST [(k.val : Int)])))
      if domPow s 1 then fltShow t else t) := by
  have himg' : s.img.active.isNone = false := by simpa using himg
  rw [exec_domainBack, execDomainBack]
  simp only [hmay, Nat.ne_of_lt hhi, Nat.ne_of_lt (Nat.lt_succ_of_lt hhi), Nat.not_lt.2 hlo, hoff, himg', hdown, Bool.true_eq_false,
    Bool.false_eq_true, or_self, if_false]

theorem exec_domainLost_late {k : Fin 12} {x : Nat × Nat} {s : State} (hfound : s.flt.down.find? (fun x => x.1 == k.val) = some x)
    (hlate : x.2 + backTime k.val < s.tb) :
    exec (.domainLost k) s = .next (levelLost (faultCls { s with flt := { s.flt with
      down := s.flt.down.filter (fun y => y.1 != k.val) } } Ev.DOMAIN_LOST [(k.val : Int)]
      (if k.val = 8 ∨ k.val = 9 then 3 else evClass Ev.DOMAIN_LOST))) := by
  rw [exec_domainLost, execDomainLost]
  simp only [hfound, if_pos hlate]

/-! ### eMMC wear (R459) -/

theorem fget_withFlt (x : Flt) (s : State) (a : Nat) (f : Fld) : fget { s with flt := x } a f = fget s a f := rfl

theorem exec_emmcLifeCheck_no_rise {a b : Fin 16} {e : Fin 4} {s : State} (hcore : domOn s 1 = true) (hrec : domOn s 9 = true)
    (hdue : lifeDue s = true)
    (hclass : wearClass a.val b.val e.val ≤ wearClass (fget s R.FLT_EMMC F.FLT_EMMC_LIFE_A) (fget s R.FLT_EMMC F.FLT_EMMC_LIFE_B) (fget s R.FLT_EMMC F.FLT_EMMC_PRE_EOL)) :
    exec (.emmcLifeCheck a b e) s = .next (
      let u := { s with flt := { s.flt with lifeAt := some s.stb.optTicks } }
      let t := fset (fset (fset u R.FLT_EMMC F.FLT_EMMC_LIFE_A a.val) R.FLT_EMMC F.FLT_EMMC_LIFE_B b.val) R.FLT_EMMC F.FLT_EMMC_PRE_EOL e.val
      { t with stb := { t.stb with wearStop := t.stb.wearStop || e.val == 3 } }) := by
  rw [exec_emmcLifeCheck, execEmmcLifeCheck, if_neg (by simp [hcore, hrec, hdue])]
  simp only [fget_withFlt]
  exact congrArg _ (if_neg (Nat.not_lt.2 hclass))

theorem exec_emmcLifeCheck_rise {a b : Fin 16} {e : Fin 4} {s : State} (hcore : domOn s 1 = true) (hrec : domOn s 9 = true)
    (hdue : lifeDue s = true)
    (hclass : wearClass (fget s R.FLT_EMMC F.FLT_EMMC_LIFE_A) (fget s R.FLT_EMMC F.FLT_EMMC_LIFE_B) (fget s R.FLT_EMMC F.FLT_EMMC_PRE_EOL) < wearClass a.val b.val e.val) :
    exec (.emmcLifeCheck a b e) s = .next (
      let u := { s with flt := { s.flt with lifeAt := some s.stb.optTicks } }
      let t := fset (fset (fset u R.FLT_EMMC F.FLT_EMMC_LIFE_A a.val) R.FLT_EMMC F.FLT_EMMC_LIFE_B b.val) R.FLT_EMMC F.FLT_EMMC_PRE_EOL e.val
      faultCls (fsetb { t with stb := { t.stb with wearStop := t.stb.wearStop || e.val == 3 } } R.FLT_EMMC F.FLT_EMMC_EMMC_WEAR true)
        Ev.EMMC_WEAR [(a.val : Int), (b.val : Int), (e.val : Int)] (wearClass a.val b.val e.val)) := by
  rw [exec_emmcLifeCheck, execEmmcLifeCheck, if_neg (by simp [hcore, hrec, hdue])]
  simp only [fget_withFlt]
  exact congrArg _ (if_pos hclass)

/-- Settles O37, a command and a case at a time. -/
theorem faultManagerCommandsComplete : Obligations.FaultManagerCommandsComplete :=
  ⟨fun _ => exec_faultReport_none, fun _ _ _ => exec_faultReport_handled, fun _ => exec_fmHeartbeatLoss_resets,
    fun _ => exec_fmHeartbeatLoss_yields, fun _ _ => exec_domainBack_core, fun _ _ _ => exec_domainBack_domain,
    fun _ _ _ => exec_domainLost_late, fun _ _ _ _ => exec_emmcLifeCheck_no_rise, fun _ _ _ _ => exec_emmcLifeCheck_rise⟩


end Sys2Proof.Proofs

end
